-- ==== Sys2Proof/Word.lean ====
section
/-!
DEFINITION. The word types of the CB7: a parameter word is 32 bits (R53), Nguzin's own formats are byte sequences (R4).
-/
namespace Sys2Proof

/-- A parameter word (R53): 32 bits, always moved whole (R54). -/
abbrev Word := BitVec 32

/-- One byte of an image, a message or a record. -/
abbrev Byte := BitVec 8

end Sys2Proof
end

