-- ==== Sys2Proof/Syntax.lean ====
section
/-!
DEFINITION. The commands of the CB7 block: one constructor of `Instr` per row of the table of operations and events, with
the operands each row carries, and the operand types.
-/
namespace Sys2Proof

/-- Action channels of Table 8-1: 0–35 HS00–HS35, 36–39 LS0–LS3, 40–41 HB0–HB1 (R167). -/
abbrev Ch := Fin 42
/-- LED strings STR0–STR3. -/
abbrev Str := Fin 4
/-- Motor bridges: 0 MA, 1 MB. -/
abbrev Mot := Fin 2
/-- H-bridges HB0, HB1. -/
abbrev Hb := Fin 2
/-- CAN controllers CAN0–CAN2. -/
abbrev Can := Fin 3
/-- LIN channels LIN0, LIN1. -/
abbrev Lin := Fin 2
/-- Dalrez ports DZ0–DZ2. -/
abbrev Port := Fin 3
/-- Phase clocks PC0–PC7. -/
abbrev Pc := Fin 8
/-- Lessons 0–15. -/
abbrev LessonNo := Fin 16
/-- Action channels that carry a high-side or low-side switch. -/
abbrev SwitchNo := Fin 32

/-- The requesters of Table 3-3 (R60) and the test port of R502. -/
inductive Requester where
  /-- The host on HSPI. -/
  | host
  /-- A fabric node by its address. -/
  | fabric (node : Nat)
  /-- A diagnostic tester on a CAN channel. -/
  | tester (c : Can)
  deriving DecidableEq, Repr

/-- The actions of a Timetable event with their arguments (Table 6-4, R129). -/
inductive Act where
  /-- 0x1: channel and state: 0 off, 1 on or forward, 2 reverse, 3 brake. -/
  | outSet (ch : Ch) (state : Fin 4)
  /-- 0x2: channel and duty. -/
  | outDuty (ch : Ch) (duty : Nat)
  /-- 0x3: string and scene number. -/
  | ledScene (str : Str) (scene : Nat)
  /-- 0x4: string and shunt mask. -/
  | ledStep (str : Str) (mask : Nat)
  /-- 0x5: conversion list of the owning service. -/
  | adcSample (list : Nat)
  /-- 0x6: controller and transmit buffer. -/
  | canRelease (c : Can) (buf : Nat)
  /-- 0x7: lesson. -/
  | lessonTick (l : LessonNo)
  /-- 0x8: bridge and command slot. -/
  | motCmd (b : Mot) (slot : Nat)
  /-- 0x9: the transaction's commit. -/
  | txnCommit
  /-- 0xA: port and published phase clock. -/
  | fabSync (p : Port) (clk : Pc)
  deriving DecidableEq, Repr

/-- One event as a service posts it (Table 6-3): clock code, due value, repeats, period, action, owner's pool.
The due value is revolution × 65,536 + angle on a phase clock, and the due count on FREE. -/
structure EventSpec where
  clock : Nat
  due : Nat
  rep : Nat
  period : Nat
  act : Act
  pool : Nat
  deriving DecidableEq, Repr

/-- The instant a TXN_COMMIT names (R71): none, or a clock code with a due value as in `EventSpec`. -/
structure CommitAt where
  clock : Nat
  due : Nat
  deriving DecidableEq, Repr

/-- A frame on a CAN bus (Table 14-1): identifier, IDE, FDF, BRS, ESI, DLC and data bytes. -/
structure CanFrame where
  id : Nat
  ide : Bool
  fdf : Bool
  brs : Bool
  esi : Bool
  dlc : Nat
  data : List Byte
  /-- A remote frame: the CB7 receives and discards it (Table 14-1), and sends none. -/
  rtr : Bool := false
  deriving DecidableEq, Repr

/-- One conversion of a service's list at an ADC_SAMPLE event (R129, R181, R215, R258). -/
inductive Conv where
  /-- Current of a channel in mA, signed (R168). -/
  | channel (ch : Ch) (ma : Int)
  /-- Current of a string in mA. -/
  | string (str : Str) (ma : Nat)
  /-- Forward voltage of a lit position in 10 mV (R215). -/
  | position (str : Str) (pos : Fin 16) (vf : Nat)
  /-- An analogue input: the voltage in mV (R258). -/
  | analogue (input : Fin 8) (mv : Int)
  /-- Supply voltages VBAT and VBATP in 10 mV. -/
  | supply (vbat vbatp : Nat)
  deriving DecidableEq, Repr

/-- What the coprocessor measures and asks for at a PWM period start of one drive (R228, R227, R233, R234, R245). -/
inductive MotorPeriod where
  /-- MA or MB: the instant, VBAT in 10 mV, the advance of the observed electrical angle since the last period, Iq and Id
  in 10 mA, the magnitude of the voltage vector asked for in 10 mV, for each phase the on-time asked for in ns and the sign of its
  current, and where in the period, in ns, a phase current reaches PEAK, if it does. -/
  | bridge (b : Mot) (at_ vbat : Nat) (turn iq id : Int) (volt : Nat) (phases : List (Nat × Int)) (peakAt : Option Nat)
  /-- HB0 or HB1 in BRUSHED mode: the instant, VBAT in 10 mV, and the duty its current loop asks for. -/
  | brushed (h : Hb) (at_ vbat : Nat) (duty : Int)
  deriving DecidableEq, Repr

/-- What the IMU service reads over one 5 ms result (R268): the instant, the acceleration in 0.001 g and the rates in 0.01 °/s in
sensor axes, and the least acceleration magnitude over the 5 ms (R272). -/
structure ImuSample where
  at_ : Nat
  acc : Int × Int × Int
  gyro : Int × Int × Int
  least : Nat
  deriving DecidableEq, Repr

/-- What a touch frame measures (R281, R282, R294, R295): for each scanned electrode the four self and the four mutual
sub-conversions; in a test frame the self count of each used electrode, the mutual count of each pair, and the reference count
of each used electrode. -/
structure TouchFrame where
  convs : List (Fin 16 × List Nat × List Nat)
  selfTest : List (Fin 16 × Nat)
  pairTest : List (Fin 16 × Fin 16 × Nat)
  refTest : List (Fin 16 × Nat)
  deriving DecidableEq, Repr

/-- A reading of the backup cell (R318): instant, voltage in mV, current in mA, positive charging. -/
structure CellReading where
  at_ : Nat
  mv : Nat
  ma : Int
  deriving DecidableEq, Repr

/-- A control-lane frame (Table 16-2). -/
structure FabFrame where
  typ : Nat
  bcast : Bool
  dst : Nat
  src : Nat
  hops : Nat
  seq : Nat
  payload : List Byte
  deriving DecidableEq, Repr

/-- A stream packet (Table 17-3). -/
structure FabPacket where
  dst : Nat
  src : Nat
  stream : Nat
  seq : Nat
  hops : Nat
  payload : List Byte
  deriving DecidableEq, Repr

/-- A measurement of a sense offset (R185, R218, R243): the stage, 0–41 the channels, 42–45 the strings, 46 and 47 the bridges; its
output voltage in mV, the raw reading in 0.1 % of full scale and the offset. A stage that a start does not list reads zero. -/
structure OffsetReading where
  stage : Nat
  mv : Nat
  raw : Int
  offset : Int
  deriving DecidableEq, Repr

/-- An item of the key store that the Data flash keeps in two copies (R474, Table 20-1). -/
inductive KeyItem where
  | signer (n : Fin 8)
  /-- 0 SA1, 1–8 CAN keys 0–7. -/
  | key (n : Fin 9)
  | adoption
  | owner
  | revoked
  | floor
  deriving DecidableEq, Repr

/-- What a start meets outside the part: a harness key exchanged before it (the 64 KB blocks that acknowledge, 0 for no key,
and its bytes), probes at 0x50 not acknowledged although a key is fitted, transfer errors as (64 KB block, how often) in the
order met, whether the entropy tests pass, the measured durations of the wake order, of step 5 and of the whole start in µs,
the number of flash blocks, key pages and recovery blocks after which power fails during a copy (of fuses during a transition), the
switch inputs that read closed at step 6, bit n for SWnn, the retention blocks whose CRC-32 does not match what the RAM holds
(R115): 0 for the header, then in the order of Table 5-7; the page writes that a write-back cut short by this start had made, and
after how many page writes of a copy's write-back one is not acknowledged or reads back otherwise (R50); the offset measurements
of step 6 (R185, R218, R243); and the key-store items whose copy in force fails its CMAC, with whether the other copy fails too
(R474, R475). -/
structure StartInput where
  swap : Option (Nat × List Byte)
  nacks : Nat
  errors : List Nat
  entropy : Bool
  wakeUs : Nat
  loadUs : Nat
  startUs : Nat
  cut : Option Nat
  closed : Nat
  retBad : List Nat
  pages : Nat
  keyFail : Option Nat
  offsets : List OffsetReading
  rot : List (KeyItem × Bool)
  deriving DecidableEq, Repr

/-- The pressures of Table 22-4 at an evaluation: its instant, the slug temperature in °C, the 1 s mean of the summed high-side
current and the current through VBAT1–VBAT4 in 10 mA, VBAT in 10 mV, and for how many ms outside the CRANK band each of the four has
met the condition judged, the shed or the restore condition. -/
structure Pressures where
  at_ : Nat
  slug : Int
  sum : Nat
  input : Nat
  vbat : Nat
  held : List Nat
  deriving DecidableEq, Repr

/-- What the CB7 measures every 100 ms (R584): the instant; slug, logic junction and hottest power-stage junction in °C; the
junctions of HS00–HS35 and of MA, MB in °C; VBAT1–VBAT4 in 0.1 V; and the terms of Table 24-11 but the logic's, in 10 mW. -/
structure Heat where
  at_ : Nat
  slug : Int
  logic : Int
  hottest : Int
  hs : List Int
  mot : List Int
  groups : List Nat
  terms : List Nat
  deriving DecidableEq, Repr

/-- The commands of the block: one constructor per row of the table of operations and events. An operand the row
carries from outside (a measurement, a frame, a caller) is an argument. -/
inductive Instr where
  /-- POWER_ON_RESET (R18). Release of power-on reset, or of the wake order's W5, starts the start-up outline of Table
      1-6. -/
  | powerOnReset (k : StartInput)
  /-- PRINCIPAL_SELF_FAULT (R19). A Principal fault found by its own checks resets the whole device, with every output
      off. -/
  | principalSelfFault (at_ : Nat) (k : StartInput)
  /-- LOCKSTEP_MISMATCH (R21). A lockstep mismatch stops the application pair; the Principal discards events, sets fail
      states and reloads the pair. -/
  | lockstepMismatch (at_ : Nat)
  /-- APP_HEARTBEAT_TIMEOUT (R21). No application-pair heartbeat for 5 ms stops and reloads the pair as for a lockstep
      mismatch. -/
  | appHeartbeatTimeout (at_ : Nat)
  /-- APP_RELOAD_DONE (R22). Completion of the pair's reload restarts the behaviour network and reports APP_STOP. -/
  | appReloadDone (at_ : Nat)
  /-- MOT_COPRO_HEARTBEAT_TIMEOUT (R24). No motor-coprocessor heartbeat for 1 ms opens MA, MB and brushed bridges, and
      the coprocessor is reloaded. -/
  | motCoproHeartbeatTimeout (at_ : Nat)
  /-- FAB_ENGINE_HEARTBEAT_TIMEOUT (R25). No fabric-engine heartbeat for 10 ms makes the Principal reload the fabric
      engine. -/
  | fabEngineHeartbeatTimeout (at_ : Nat)
  /-- MIRROR_WRITE_DONE (R47). A mirror write started after a KEY_OK load completes with the image and record in the
      other slot. -/
  | mirrorWriteDone (at_ : Nat)
  /-- HK_WB_MIRROR (R50). Writing 1 to HK_WB_CMD writes the active mirror image back to the key. -/
  | hkWbMirror (r : Requester)
  /-- HK_WB_STAGED (R49). Writing 2 to HK_WB_CMD checks the staged image and writes it back to the key. -/
  | hkWbStaged (r : Requester)
  /-- HK_WRITE_BACK_DONE (R50). The write-back sequence ends after the final re-read and signature check, or fails on a
      page. -/
  | hkWriteBackDone (at_ : Nat) (failed : Option Nat)
  /-- TT_POST (R134). A service posts a single event or a group, which the Timetable accepts whole or refuses. -/
  | ttPost (group : List EventSpec)
  /-- TT_CANCEL (R142). A cancel removes an uncommitted event, or returns TOO_LATE and stops later firings of a
      committed one. -/
  | ttCancel (slot gen : Nat)
  /-- EVENT_COMMIT (R136). An event becomes committed when its predicted instant enters the horizon, and its preparation
      may start. -/
  | eventCommit (slot : Nat)
  /-- COMMITTED_BOUND_EXPIRY (R137). A committed phase-clock event not reached by its committed instant plus the horizon
      fires at that bound. -/
  | committedBoundExpiry (slot : Nat) (convs : List Conv) (delay vbat : Nat)
  /-- EVENT_OUT_SET (R175). An OUT_SET event sets a channel's state, beginning a turn-on, turn-off, PWM period or lock
      stroke. -/
  | eventOutSet (slot vbat : Nat)
  /-- PWM_OFF_EDGE (R178). The off edge of a PWM period fires at the period start plus the on-time. -/
  | pwmOffEdge (c : Ch)
  /-- EVENT_OUT_DUTY (R178). An OUT_DUTY event loads a new duty into the PWM shadow register. -/
  | eventOutDuty (slot : Nat)
  /-- EVENT_LED_SCENE (R206). An LED_SCENE event applies a scene or composed state to a string, starting its fade. -/
  | eventLedScene (slot : Nat)
  /-- EVENT_LED_STEP (R204). An LED_STEP event changes a string's shunt mask with pre-reduced current. -/
  | eventLedStep (slot : Nat)
  /-- EVENT_ADC_SAMPLE (R129). An ADC_SAMPLE event runs the owning service's conversion list. -/
  | eventAdcSample (slot : Nat) (convs : List Conv) (delay : Nat)
  /-- EVENT_CAN_RELEASE (R333). A CAN_RELEASE event puts the assembled payload into its buffer and makes it pending. -/
  | eventCanRelease (slot : Nat)
  /-- EVENT_LESSON_TICK (R158). A LESSON_TICK snapshots signals, evaluates the lesson's blocks and hands sink values to
      services. -/
  | eventLessonTick (slot : Nat)
  /-- EVENT_MOT_CMD (R228). A MOT_CMD event makes a motor command take effect from the next PWM period start. -/
  | eventMotCmd (slot : Nat)
  /-- EVENT_TXN_COMMIT (R73). The commit event checks liveness, ownership and ranges and applies all staged writes at
      one instant, or rolls back. -/
  | eventTxnCommit (slot : Nat)
  /-- EVENT_FAB_SYNC (R421). A FAB_SYNC event sends the clock's angle and revolution in the next own turn with its
      correction. -/
  | eventFabSync (slot : Nat)
  /-- MARK_MISSING (R125). No mark by 1.5 expected intervals after the previous one moves a TRACKING clock to COASTING.
      -/
  | markMissing (p : Pc)
  /-- COAST_LIMIT (R123). A coasted distance beyond TT_PCn_COAST moves the clock to LOST. -/
  | coastLimit (p : Pc)
  /-- CLOCK_STOP_TIMEOUT (R123). No mark for TT_PCn_STOP moves an ACQUIRING or LOST clock to STOPPED. -/
  | clockStopTimeout (p : Pc)
  /-- TT_LOG_SEL_WRITE (R149). A write to TT_LOG_SEL latches the event-log entry of that age into TT_LOG_ENTRY_k. -/
  | ttLogSelWrite (age : Nat)
  /-- TXN_BEGIN (R66). TXN_BEGIN opens a transaction owned by the requester, or returns BUSY. -/
  | txnBegin (r : Requester)
  /-- TXN_WRITE (R68). TXN_WRITE stages one index and value in the open transaction. -/
  | txnWrite (r : Requester) (idx : Nat) (v : Word)
  /-- TXN_READ (R70). TXN_READ reads one index under read-your-staged-writes. -/
  | txnRead (r : Requester) (idx : Nat)
  /-- TXN_COMMIT (R71). TXN_COMMIT checks the instant, posts the commit event and seals the transaction. -/
  | txnCommit (r : Requester) (inst : Option CommitAt)
  /-- TXN_ABORT (R77). TXN_ABORT rolls back an open transaction or a sealed one beyond the horizon. -/
  | txnAbort (r : Requester)
  /-- TXN_STATUS (R70). TXN_STATUS returns TXN_STATE and TXN_STAGED as a read by the requester would. -/
  | txnStatus (r : Requester)
  /-- TXN_TIMEOUT (R78). An open transaction idle for TXN_TIMEOUT is rolled back with EXPIRED. -/
  | txnTimeout
  /-- PARAM_WRITE (R59). A direct write to a parameter word that has no row of its own takes effect under R61 to R65. -/
  | paramWrite (r : Requester) (idx : Nat) (v : Word)
  /-- READ_CLEAR_WORD (R58). A permitted read of an RC word returns its value and clears it to reset. -/
  | readClearWord (r : Requester) (idx : Nat)
  /-- RIDE_ENTRY (R87). Ignition true for MODE_IGN_ON_DWELL moves WATCH to RIDE when the guard passes. -/
  | rideEntry (at_ : Nat)
  /-- RIDE_EXIT (R87). Ignition false for MODE_IGN_OFF_DWELL moves RIDE to WATCH and off values are handed. -/
  | rideExit (at_ : Nat)
  /-- WS_ENTER_REQUEST (R90). Writing 1 to MODE_WS_REQUEST requests WORKSHOP entry. -/
  | wsEnterRequest (r : Requester)
  /-- WS_EXIT_REQUEST (R90). Writing 2 to MODE_WS_REQUEST requests WORKSHOP exit. -/
  | wsExitRequest (r : Requester)
  /-- WORKSHOP_ENTRY (R87). At the evaluation after a request, WATCH moves to WORKSHOP if stationary and the life-cycle
      state allows, or the refusal is recorded. -/
  | workshopEntry (at_ : Nat)
  /-- WORKSHOP_EXIT (R87). WORKSHOP returns to WATCH on exit request, requester loss, timeout or lost stationarity,
      releasing forcing. -/
  | workshopExit (at_ : Nat)
  /-- PARK_ENTRY (R91). An empty stay-awake set for MODE_PARK_DELAY starts PARK entry: roll-back, announcement, wait and
      arming. -/
  | parkEntry (at_ : Nat)
  /-- PARK_WAIT_END (R91). The root's wait ends when bit 9 clears or 2 s pass, and the CB7 arms and enters its park
      state. -/
  | parkWaitEnd
  /-- PARK_ENTRY_CANCEL (R96). A wake source firing before step 4 cancels PARK entry and keeps the CB7 in WATCH. -/
  | parkEntryCancel (at_ : Nat) (code : Fin 8)
  /-- HOST_STAY_WRITE (R93). A write to MODE_HOST_STAY holds or releases stay-awake bit 2. -/
  | hostStayWrite (r : Requester) (v : Word)
  /-- HOST_STAY_EXPIRY (R93). MODE_HOST_STAY returns to 0 MODE_HOST_STAY_MAX after the host last wrote 1. -/
  | hostStayExpiry
  /-- MEMBER_ROOT_LINK_LOSS (R92). A member without its root link clears bit 8 after MODE_IGN_OFF_DWELL. -/
  | memberRootLinkLoss (at_ : Nat)
  /-- DOZE_ENTRY (R103). In RIDE or WORKSHOP the cores are clock-gated when every running core waits for an interrupt.
      -/
  | dozeEntry
  /-- DOZE_EXIT (R103). An interrupt returns the cores from DOZE within 0.5 µs. -/
  | dozeExit
  /-- STANDBY_ENTRY (R104). In WATCH with no RUN hold, the CB7 enters STANDBY. -/
  | standbyEntry
  /-- STANDBY_EXIT_SCHEDULED (R105). The CB7 leaves STANDBY 200 µs before the earliest due Timetable event. -/
  | standbyExitScheduled
  /-- STANDBY_EXIT_HOLD (R105). HSPI_CS, a received frame, a switch change or another hold returns the CB7 to RUN within
      100 µs. -/
  | standbyExitHold (at_ : Nat)
  /-- WAKE_SOURCE_FIRE (R110). An armed wake source fires in RETAIN or DEEP and the park engine runs the wake order. -/
  | wakeSourceFire (code : Fin 8) (at_ least ms : Nat)
  /-- WAKE_STEP_TIMEOUT (R112). A wake step W2 to W4 that misses its timeout switches CORE and PER off and retries. `steps` are
      the durations in µs of the steps from W2 on that gave their signals in this attempt. -/
  | wakeStepTimeout (steps : List Nat)
  /-- WAKE_BACKOFF_EXPIRY (R112). After three failed attempts, expiry of the doubling backoff begins a new set of
      attempts. -/
  | wakeBackoffExpiry
  /-- RETAIN_ESCALATION (R116). Low VBATP or RETAIN time reaching PWR_RETAIN_MAX escalates RETAIN to DEEP without a
      start. -/
  | retainEscalation (at_ most ms : Nat)
  /-- BROWN_OUT (R118). VBAT at or below 4.3 V for 10 µs switches outputs off and resets every domain except AO. -/
  | brownOut (at_ : Nat)
  /-- BROWN_OUT_RECOVERY (R119). VBAT above 5.0 V for 5 ms starts the part after a brown-out. -/
  | brownOutRecovery (at_ : Nat) (k : StartInput)
  /-- AO_POWER_LOSS (R119). Loss of both VBATP and the cell puts the part in OFF, invalidating the RTC and retention
      list. -/
  | aoPowerLoss (at_ : Nat)
  /-- RTC_WRITE (R482). A write to PWR_RTC_TIME sets the RTC unless it lies below FLOOR. -/
  | rtcWrite (r : Requester) (v : Word)
  /-- LESSON_PUBLISH (R160). A lesson's outputs are published and confirmed 250 µs after its tick. -/
  | lessonPublish (l : LessonNo)
  /-- BN_HOST_WRITE (R163). A write to BN_HOST_k sets the host word, refusing a non-boolean value on a BOOL binding. -/
  | bnHostWrite (r : Requester) (k : Fin 64) (v : Word)
  /-- SERVICE_POST_RETRY (R140). A service whose post met TT_FULL retries at its chapter's interval and reports TT_FULL.
      -/
  | servicePostRetry
  /-- INRUSH_END (R175). After HOLD plus DECAY a channel leaves INRUSH for ON with the steady allowance. -/
  | inrushEnd (c : Ch)
  /-- HS_SHORT_DETECT (R182). Current at the hardware limit with low output for the short filter turns the channel off
      as TRIPPED. -/
  | hsShortDetect (c : Ch) (least most vbat us : Nat)
  /-- HS_OVERLOAD_DETECT (R182). Every sample above the allowance over OVL_FILTER turns the channel off as TRIPPED. -/
  | hsOverloadDetect (c : Ch)
  /-- HS_THERMAL_DETECT (R182). A junction reaching 175 °C turns the channel off as TRIPPED. -/
  | hsThermalDetect (c : Ch) (temp : Int)
  /-- HS_OPEN_ON_DETECT (R182). On-state samples below OPEN_ON over OPEN_FILTER set OPEN, and samples above twice it
      clear it. -/
  | hsOpenOnDetect (c : Ch)
  /-- HS_OPEN_OFF_DETECT (R182). With OFF_DIAG, an off output between 3.0 V and 6.0 V for 50 ms sets OPEN. -/
  | hsOpenOffDetect (c : Ch) (least most : Nat)
  /-- HS_SHORT_BAT_DETECT (R182). An off output above 6.0 V for 50 ms sets SHORT_BAT. -/
  | hsShortBatDetect (c : Ch) (least : Nat)
  /-- HS_BACKFEED_DETECT (R182). Current below −2 % of rating for 10 ms sets REVERSE with the channel on. -/
  | hsBackfeedDetect (c : Ch) (most : Int)
  /-- CHANNEL_RESTART (R183). After RETRY with the junction cool for 10 ms, a TRIPPED channel goes OFF or restarts. -/
  | channelRestart (c : Ch) (at_ : Nat) (most : Int)
  /-- HS_LATCHED_CLEAR (R184). Writing 1 to a channel's latched bit clears the latch and history and turns it on if
      requested. -/
  | hsLatchedClear (c : Ch)
  /-- HS_FORCE_WRITE (R174). A WORKSHOP forcing word write forces or releases a channel's state. -/
  | hsForceWrite (r : Requester) (c : Ch) (v : Word)
  /-- SENSE_CAL_RETRY (R185). A channel off for 500 ms retries its deferred sense-offset measurement. -/
  | senseCalRetry (c : Ch) (outMv : Nat) (raw offset : Int)
  /-- LOCK_ENDSTOP (R188). Current above STALL for 20 ms after blanking ends the drive and starts the brake. -/
  | lockEndstop (h : Hb)
  /-- LOCK_STROKE_MAX (R188). A drive reaching STROKE_MAX without end stop ends with HB_NO_ENDSTOP. -/
  | lockStrokeMax (h : Hb)
  /-- LOCK_BRAKE_END (R188). The stroke's BRAKE time ends, the bridge goes off and the stroke completes. -/
  | lockBrakeEnd (h : Hb)
  /-- LOCK_COOLING_END (R188). A waiting stroke request starts once fewer than six strokes lie within the past 60 s. -/
  | lockCoolingEnd (h : Hb)
  /-- HB_REV_BRAKE_END (R187). The REV_BRAKE time ends and a DRIVE bridge drives in its new direction. -/
  | hbRevBrakeEnd (h : Hb)
  /-- SUPPLY_BAND_CHANGE (R189). VBAT beyond a band level for its dwell changes HS_SUPPLY_BAND between CRANK, NORMAL and
      JUMP. -/
  | supplyBandChange (at_ least most : Nat)
  /-- DEGRADED_OPERATION_START (R471). A controller replacement request begins degraded operation at once, or at the
      next exit from RIDE. -/
  | degradedOperationStart
  /-- OVERLAY_READ (R202). Every 1 ms the lighting service reads overlay signals and posts events for changes. -/
  | overlayRead
  /-- FADE_TICK (R206). Every 100 µs a running fade updates the string level toward its target. -/
  | fadeTick (t : Str)
  /-- LED_POS_OPEN_DETECT (R214). A lit position above 8.0 V for 2 µs is bypassed by hardware and joins the outage mask.
      -/
  | ledPosOpenDetect (t : Str) (p : Fin 16) (least us : Nat)
  /-- LED_STR_OPEN_DETECT (R216). Output at the 58 V clamp with low current for 100 µs trips the string. -/
  | ledStrOpenDetect (t : Str) (least most us : Nat)
  /-- LED_STR_SHORT_DETECT (R216). Output current exceeding return current by 20 % of ISET for 20 µs trips the string.
      -/
  | ledStrShortDetect (t : Str) (excess us : Nat)
  /-- LED_STR_SHORT_BAT_DETECT (R216). STRs_N00 above 3.0 V for 50 ms with the converter off sets SHORT_BAT. -/
  | ledStrShortBatDetect (t : Str) (least : Nat)
  /-- LED_THERMAL_DETECT (R216). A converter junction reaching 175 °C trips the string. -/
  | ledThermalDetect (t : Str) (temp : Int)
  /-- STRING_RESTART (R217). A TRIPPED string restarts after 100 ms or latches, as a high-side channel does. -/
  | stringRestart (t : Str) (at_ : Nat) (most : Int)
  /-- LED_OUTAGE_CLEAR (R214). Writing 1 to an outage bit releases a bypassed position. -/
  | ledOutageClear (t : Str) (mask : Word)
  /-- LED_LATCHED_CLEAR (R217). Writing 1 to a LED_LATCHED bit clears the string's latch. -/
  | ledLatchedClear (t : Str)
  /-- LED_DERATE_UPDATE (R213). Every 10 ms the derating factor D is recomputed from converter and lamp temperatures. -/
  | ledDerateUpdate (t : Str) (temp : Int)
  /-- CORNERING_UPDATE (R212). A lean or speed condition held for the dwell lights or darkens a cornering segment by an
      LED_STEP. -/
  | corneringUpdate (at_ : Nat)
  /-- LED_CAL_RETRY (R218). A string dark for 500 ms retries its deferred sense-offset measurement. -/
  | ledCalRetry (t : Str) (n00Mv : Nat) (raw offset : Int)
  /-- LED_FORCE_WRITE (R15). A write to LED_FORCE_s forces or releases a string in WORKSHOP. -/
  | ledForceWrite (r : Requester) (t : Str) (v : Word)
  /-- MOT_SPEED_LOOP_TICK (R229). Every 1 ms the speed loop sets Iq from the speed error within the peak limit. -/
  | motSpeedLoopTick (b : Mot) (at_ : Nat) (speed : Int)
  /-- MOT_RMS_UPDATE (R229). Every 10 ms the rms current adjusts the Iq limit by 2 % of PEAK. -/
  | motRmsUpdate (b : Mot) (rms : Nat)
  /-- MOT_CATCH_DONE (R231). The CATCH window ends and the bridge runs, decelerates, or brakes then aligns, by the
      caught speed. -/
  | motCatchDone (b : Mot) (emfMv angle : Nat) (speed : Int)
  /-- MOT_STILL_BRAKE_DONE (R231). The 100 ms brake after a still catch ends and ALIGN begins. -/
  | motStillBrakeDone (b : Mot)
  /-- MOT_ALIGN_DONE (R231). The ALIGN time ends and FORCED begins. -/
  | motAlignDone (b : Mot)
  /-- MOT_HANDOFF (R231). Forced speed at HANDOFF with small observer error moves the bridge to RUN. -/
  | motHandoff (b : Mot) (err angle : Nat) (speed : Int)
  /-- MOT_HANDOFF_TIMEOUT (R232). No handoff by IF_TIME plus 200 ms trips the bridge with cause stall. -/
  | motHandoffTimeout (b : Mot)
  /-- MOT_FORCED_ENTRY (R235). A decelerating bridge below 0.9 × HANDOFF enters FORCED and ramps to zero. -/
  | motForcedEntry (b : Mot) (speed : Int)
  /-- MOT_FORCED_STOP (R235). Forced speed reaching zero applies the STOP setting or ends a position move. -/
  | motForcedStop (b : Mot)
  /-- MOT_HOLD_TIMEOUT (R235). In WATCH a HOLD brake ends after 1 s and the bridge goes OFF. -/
  | motHoldTimeout (b : Mot)
  /-- MOT_SUPPLY_WATCH_BAND (R236). VBAT beyond a watch level for its dwell changes the supply-watch band during
      deceleration. -/
  | motSupplyWatchBand (b : Mot) (least most : Nat)
  /-- MOT_REVERSAL_HOLD_END (R237). The reversal BRAKE hold ends and the bridge starts in the new direction from Align.
      -/
  | motReversalHoldEnd (b : Mot)
  /-- MOT_HOME_STALL (R239). Current above HOME_STALL for 100 ms during homing brakes, zeroes the count and sets HOMED.
      -/
  | motHomeStall (b : Mot) (least : Nat)
  /-- MOT_HOME_FAIL (R239). Homing without end stop within 1.5 × TRAVEL stops the bridge and reports MOT_NO_HOME. -/
  | motHomeFail (b : Mot)
  /-- MOT_SHORT_DETECT (R241). Phase current above the short cut-off for 2 µs opens all switches as TRIPPED. -/
  | motShortDetect (b : Mot) (ma us : Nat)
  /-- MOT_PEAK_TRIP (R241). The peak limit reached in every period for 100 ms trips the bridge. -/
  | motPeakTrip (b : Mot)
  /-- MOT_THERMAL_DETECT (R241). A bridge junction reaching 175 °C opens all switches as TRIPPED. -/
  | motThermalDetect (b : Mot) (temp : Int)
  /-- MOT_OBSERVER_LOSS (R241). Observer error above 4,096 ac for 8 periods coasts and catches, tripping on the third in
      10 s. -/
  | motObserverLoss (b : Mot) (err : Nat)
  /-- MOT_PHASE_OPEN_DETECT (R241). One phase current below 5 % of the others over a revolution latches the bridge. -/
  | motPhaseOpenDetect (b : Mot) (least others : Nat)
  /-- MOT_RESTART (R242). A TRIPPED bridge restarts from Catch after RETRY, or latches. -/
  | motRestart (b : Mot) (at_ : Nat) (most : Int)
  /-- MOT_LATCHED_CLEAR (R242). Writing 1 to a MOT_LATCHED bit clears the bridge's latch. -/
  | motLatchedClear (b : Mot)
  /-- MOT_OFFSET_CAL (R243). A bridge OFF for 500 ms measures its shunt offset, or defers. -/
  | motOffsetCal (b : Mot) (emfMv : Nat) (raw offset : Int)
  /-- MOT_CAL_OFFSET_CMD (R244). Writing the offset operation to MOT_CAL_CMD measures a bridge's offset in WORKSHOP. -/
  | motCalOffsetCmd (r : Requester) (b : Mot) (emfMv : Nat) (raw offset : Int)
  /-- MOT_CAL_IDENTIFY_CMD (R244). Writing the identify operation to MOT_CAL_CMD measures phase resistance and
      inductance. -/
  | motCalIdentifyCmd (r : Requester) (b : Mot) (emfMv res ind : Nat)
  /-- MOT_FORCE_WRITE (R15). A write to MOT_FORCE_b forces or releases a bridge's set-point in WORKSHOP. -/
  | motForceWrite (r : Requester) (b : Mot) (v : Word)
  /-- SW_RAW_EDGE (R252). A raw switch edge restarts the input's debounce timer. -/
  | swRawEdge (n : SwitchNo) (at_ mv : Nat)
  /-- SW_DEBOUNCE_EXPIRY (R252). The debounce timer reaching DEBOUNCE confirms and publishes the new switch state. -/
  | swDebounceExpiry (n : SwitchNo)
  /-- SW_STANDBY_SAMPLE (R253). In STANDBY each used input is sensed every WATCH period and two changed samples return
      to RUN. -/
  | swStandbySample (at_ : Nat) (mvs : List (SwitchNo × Nat))
  /-- PARK_SWITCH_SAMPLE (R254). In RETAIN the park engine senses masked inputs and fires wake source 2 on two changed
      samples. -/
  | parkSwitchSample (at_ : Nat) (mvs : List (SwitchNo × Nat))
  /-- SSUP_FAULT_DETECT (R260). A sensor supply out of range or at its limit for 10 ms reports IN_SSUP_FAULT. -/
  | ssupFaultDetect (k : Fin 2) (mv : Nat) (limited : Bool)
  /-- SSUP_RETRY (R260). A shorted sensor supply is retried every 1 s. -/
  | ssupRetry (k : Fin 2)
  /-- FQ_EDGE (R261). An accepted frequency edge delivers a mark and a frequency or speed value. -/
  | fqEdge (f : Fin 4) (at_ : Nat)
  /-- FQ_DIAG_FAULT (R261). A diagnosed open or current-range fault stops the input's marks and reports IN_FQ_OPEN. -/
  | fqDiagFault (f : Fin 4) (isOpen range : Bool)
  /-- SPEED_REEVALUATION (R264). Every 10 ms without an edge, speed is republished, reaching 0 after IN_FQ_TIMEOUT. -/
  | speedReevaluation (f : Fin 5) (at_ : Nat)
  /-- ALT_ZERO_CROSSING (R265). A rising stator zero crossing delivers an ALT mark at angle 0 and publishes the ALT
      frequency. -/
  | altZeroCrossing (at_ peak : Nat)
  /-- IMU_PUBLISH (R268). Every 5 ms the IMU service publishes results, including tamper, fall and impact. -/
  | imuPublish (m : ImuSample)
  /-- IMU_ACTIVITY_WINDOW (R269). At each 250 ms window end, activity levels update the moving result. -/
  | imuActivityWindow (at_ accel gyro : Nat)
  /-- TAMPER_REFERENCE_CAPTURE (R271). In WATCH, once still for the dwell, gravity is captured as tamper reference. -/
  | tamperReferenceCapture (at_ : Nat) (gravity : Int × Int × Int)
  /-- IMU_STANDBY_EVAL (R271). In STANDBY the IMU interface evaluates moving and tamper at 25 Hz and returns to RUN on
      change. -/
  | imuStandbyEval (at_ accel gyro : Nat) (gravity : Int × Int × Int)
  /-- GYRO_ZERO_SUCCESS (R273). Conditions held for 10 s make the mean the new gyro zero. -/
  | gyroZeroSuccess (at_ : Nat) (mean : Int × Int × Int)
  /-- GYRO_ZERO_TIMEOUT (R273). A zero attempt without success within 60 s defers and keeps the previous zero. -/
  | gyroZeroTimeout
  /-- IMU_CAL_ZERO_CMD (R274). Writing 1 to IMU_CAL_CMD starts a gyro zero attempt. -/
  | imuCalZeroCmd (r : Requester)
  /-- IMU_CAL_LEVEL_CMD (R274). Writing 2 to IMU_CAL_CMD averages gravity over 2 s and stores level corrections. -/
  | imuCalLevelCmd (r : Requester) (gravity : Int × Int × Int) (held : Bool)
  /-- IMU_CLEAR_WRITE (R272). Writing 1 to IMU_CLEAR bit 3 clears impact. -/
  | imuClearWrite (r : Requester) (v : Word)
  /-- TOUCH_FRAME (R281). A frame scans all sense electrodes, runs due self-tests and classifies group states. -/
  | touchFrame (m : TouchFrame)
  /-- TOUCH_CAL_RETRY (R292). RETRY seconds after a deferral a group's calibration attempt begins again. -/
  | touchCalRetry (g : Fin 8)
  /-- TCH_CAL_CMD_WRITE (R293). A group mask written to TCH_CAL_CMD runs a WORKSHOP calibration attempt. -/
  | tchCalCmdWrite (r : Requester) (v : Word)
  /-- TOUCH_STUCK_TIMEOUT (R291). A group touched for MAX_ON seconds is released and marked STUCK. -/
  | touchStuckTimeout (g : Fin 8)
  /-- GLOVE_HOLD_EXPIRY (R284). No electrode above GLOVE lower for GLOVE_HOLD seconds ends glove mode. -/
  | gloveHoldExpiry (g : Fin 8)
  /-- PARK_TOUCH_SAMPLE (R298). In RETAIN the park engine samples TE00 and TE01 and tracks touched states. -/
  | parkTouchSample (at_ raw0 raw1 : Nat)
  /-- CELL_SWITCH_CHANGEOVER (R304). The AO rail crossing 4.5 V or 5.0 V hands AO to or from the cell. -/
  | cellSwitchChangeover (railMv : Nat)
  /-- SVIN_PRESENT (R109). SVIN above 4.5 V for 100 ms becomes present. -/
  | svinPresent (mv least : Nat)
  /-- VBAT_GATE_CHANGE (R309). VBAT beyond its floor levels for 10 s opens or closes the VBAT charging gate. -/
  | vbatGateChange (least most : Nat)
  /-- CHG_SEARCH_START (R310). An input search begins on availability, periodically, or 1 s after a back-off. -/
  | chgSearchStart (at_ openMv vbatMv apart : Nat)
  /-- CHG_SEARCH_STEP (R310). After each 20 ms wait, the search judges the input and raises, lowers or ends the limit.
      -/
  | chgSearchStep (least maxMa vbatMv : Nat)
  /-- CHG_INPUT_BACKOFF (R310). An input at or below its floor for 2 ms lowers the limit by 50 mA. -/
  | chgInputBackoff (most : Nat)
  /-- CHG_PRECHARGE_DONE (R313). Cell above Precharge + 0.10 V for 1 s moves PRECHARGE to FAST_CC. -/
  | chgPrechargeDone (cell : CellReading) (least : Nat)
  /-- CHG_VTERM_REACHED (R313). The cell reaching VTERM moves FAST_CC to FAST_CV. -/
  | chgVtermReached (cell : CellReading)
  /-- CHG_TERMINATION (R313). Current below ITERM for 60 s moves FAST_CV to DONE. -/
  | chgTermination (cell : CellReading) (most : Int)
  /-- CHG_RECHARGE_START (R313). Cell below Recharge for 10 s moves DONE to FAST_CC. -/
  | chgRechargeStart (cell : CellReading) (most : Nat)
  /-- CHG_TIMER_EXPIRY (R313). Expiry of the precharge or fast timer latches the TIMER fault. -/
  | chgTimerExpiry
  /-- CELL_CUTOFF (R313). A cell below Empty for 1 s while feeding opens the cell switch and sets the estimate to 0 %.
      -/
  | cellCutoff (cell : CellReading) (most : Nat)
  /-- CHG_WINDOW_CHANGE (R314). Temperature beyond a boundary for 10 s changes the charging window. -/
  | chgWindowChange (least most : Int)
  /-- CHG_FAULT_DETECT (R315). A charger fault condition latches its bit and stops its function. -/
  | chgFaultDetect (k : Fin 7) (least most : Int) (stay : Bool)
  /-- CHG_FAULTS_READ (R315). A permitted read of CHG_FAULTS clears the latched bits. -/
  | chgFaultsRead (r : Requester)
  /-- CELL_PROBE (R317). The cell presence probe sinks 2 mA for 20 ms and judges presence. -/
  | cellProbe (cell : CellReading) (least drop : Nat)
  /-- SOC_SEED (R318). After 30 min at rest an invalid estimate is seeded from the open-circuit voltage. -/
  | socSeed (cell : CellReading)
  /-- BKOUT_CELL_CUTOFF (R307). BKOUT stops drawing from the cell at the cut-off estimate or voltage. -/
  | bkoutCellCutoff (cell : CellReading)
  /-- CAN_FRAME_RECEIVED (R338). A valid frame is acknowledged, stamped, filtered, queued and its signals published. -/
  | canFrameReceived (c : Can) (at_ sof : Nat) (f : CanFrame)
  /-- CAN_RX_TIMEOUT (R340). No match for a receive entry's TIME turns its signals stale. -/
  | canRxTimeout (lin : Bool) (entry : Nat)
  /-- CAN_INTEGRATION_COMPLETE (R332). Eleven recessive bits end INTEGRATING and the controller becomes active. -/
  | canIntegrationComplete (c : Can) (at_ : Nat)
  /-- CAN_TX_ATTEMPT (R335). At an arbitration opportunity the lowest pending buffer starts an attempt. -/
  | canTxAttempt (c : Can) (at_ : Nat)
  /-- CAN_ARBITRATION_LOST (R336). A lost arbitration leaves the frame not begun, or resolves a held cancel. -/
  | canArbitrationLost (c : Can)
  /-- CAN_TX_SUCCESS (R341). A successful transmission stamps the frame and frees the buffer. -/
  | canTxSuccess (c : Can) (at_ tdc : Nat)
  /-- CAN_ERROR_FRAME (R343). An error updates the counters and may move the controller to PASSIVE or BUS_OFF. -/
  | canErrorFrame (c : Can) (at_ kind : Nat) (tx exempt fdf : Bool) (more : Nat)
  /-- CAN_PROTOCOL_EXCEPTION (R343). A recessive res bit raises the protocol exception and waits for bus idle. -/
  | canProtocolException (c : Can) (at_ : Nat)
  /-- CAN_BUSOFF_HOLD_EXPIRY (R344). In AUTO, HOLD or SLOW after bus-off ends and recovery begins. -/
  | canBusoffHoldExpiry (c : Can)
  /-- CAN_RECOVERY_DONE (R344). 128 occurrences of 11 recessive bits complete bus-off recovery. -/
  | canRecoveryDone (c : Can) (at_ : Nat)
  /-- CAN_RECOVER_WRITE (R344). Writing 1 to CAN_RECOVER_c starts recovery in MANUAL. -/
  | canRecoverWrite (r : Requester) (c : Can) (v : Word)
  /-- CAN_TXB_CANCEL (R336). Writing 1 to a pending bit cancels the buffer's frame if it has not begun. -/
  | canTxbCancel (r : Requester) (c : Can) (hi : Bool) (v : Word)
  /-- CAN_BUS_STUCK (R345). A bus dominant for 2 ms reports CAN_BUS_STUCK and stops transmission. -/
  | canBusStuck (c : Can) (at_ : Nat)
  /-- CAN_TIMING_APPLY (R325). A committed timing change takes effect at the next bus idle. -/
  | canTimingApply (c : Can) (at_ : Nat)
  /-- CAN_TEST_WRITE (R342). A write to CAN_TEST_c selects loop-back or listen-only. -/
  | canTestWrite (r : Requester) (c : Can) (v : Word)
  /-- CAN_RX_SEL_WRITE (R353). A write to CAN_RX_SEL latches the last frame of a receive entry. -/
  | canRxSelWrite (r : Requester) (v : Word)
  /-- LIN_SLOT_START (R347). The commander sends header and any published response at each slot start. -/
  | linSlotStart (l : Lin) (at_ : Nat)
  /-- LIN_RESPONSE_RECEIVED (R350). A subscribed response is checked and published, or treated as collision or error. -/
  | linResponseReceived (l : Lin) (at_ : Nat) (data : List Byte) (check : Byte) (framing bitError : Bool)
  /-- LIN_NO_RESPONSE (R350). An incomplete response at the frame's maximum time reports LIN_NO_RESP. -/
  | linNoResponse (l : Lin)
  /-- LIN_HEADER_RECEIVED (R349). A responder answers a matching header within 2 bit times. -/
  | linHeaderReceived (l : Lin) (at_ : Nat) (pid : Byte) (syncOk : Bool)
  /-- NM_FRAME_RECEIVED (R358). A received NM frame holds, aborts, commands sleep or is logged. -/
  | nmFrameReceived (c : Can) (at_ : Nat) (f : CanFrame)
  /-- NM_CYCLE_SEND (R361). Every CYCLE an awake channel sends an NM frame. -/
  | nmCycleSend (c : Can)
  /-- NM_OWN_NEED_CHANGE (R362). Own need ending or returning moves a channel between AWAKE and READY. -/
  | nmOwnNeedChange (ch : Fin 5) (at_ : Nat)
  /-- NM_READY_EXPIRY (R363). READY elapsing with no holding frame starts S1. -/
  | nmReadyExpiry (c : Can)
  /-- NM_SLEEP_CMD_SEND (R363). Three SLEEP_CMD frames are sent 100 ms apart. -/
  | nmSleepCmdSend (c : Can)
  /-- NM_SILENCE_EXPIRY (R363). SILENCE with no frame puts the channel in BUS_SLEEP. -/
  | nmSilenceExpiry (c : Can)
  /-- NM_OFFENDER_TIMEOUT (R365). OFFENDER seconds after S1 without sleep enter SILENT or repeat S1. -/
  | nmOffenderTimeout (c : Can)
  /-- NM_IDLE_TIMEOUT (R367). NM_IDLE without frames puts a NONE channel or masterless follower to sleep. -/
  | nmIdleTimeout (c : Can)
  /-- BUS_WAKE_PATTERN (R370). A wake-up pattern wakes a sleeping channel with kind 2. -/
  | busWakePattern (c : Can) (at_ : Nat)
  /-- WUF_MATCH (R371). A wake-up frame matching a filter wakes the channel with kind 3. -/
  | wufMatch (c : Can) (at_ : Nat) (f : CanFrame)
  /-- WUF_DECODER_FALLBACK (R372). A decoder error count above 31 wakes the channel with kind 4. -/
  | wufDecoderFallback (c : Can)
  /-- NM_ESCALATION_HOLD_EXPIRY (R375). After HOLD the park engine arms an escalated wake source. -/
  | nmEscalationHoldExpiry (c : Can)
  /-- NM_FW_CLEAR_WRITE (R376). Writing NM_FW_CLEAR resets a channel's false-wake record. -/
  | nmFwClearWrite (r : Requester) (v : Word)
  /-- NM_OFF_SEL_WRITE (R377). A write to NM_OFF_SEL latches the offender entry of that rank. -/
  | nmOffSelWrite (r : Requester) (v : Word)
  /-- NM_OFF_CLEAR_WRITE (R377). Writing 1 to NM_OFF_CLEAR empties the offender log. -/
  | nmOffClearWrite (r : Requester) (v : Word)
  /-- LIN_GO_TO_SLEEP (R378). A commander without need for READY sends go-to-sleep and stops its schedule. -/
  | linGoToSleep (l : Lin)
  /-- LIN_RESPONDER_IDLE (R378). A responder without activity for 4 s enters BUS_SLEEP. -/
  | linResponderIdle (l : Lin)
  /-- LIN_WAKE_DOMINANT (R379). A dominant level longer than 150 µs wakes a sleeping LIN channel. -/
  | linWakeDominant (l : Lin) (at_ dur : Nat)
  /-- LIN_WAKE_PULSE_TIMEOUT (R379). No header after a wake pulse repeats the pulse or waits 1.5 s. -/
  | linWakePulseTimeout (l : Lin)
  /-- FAB_TURN_RECEIVED (R384). A received turn acknowledges frames and carries at most one frame. -/
  | fabTurnReceived (p : Port) (at_ : Nat) (ack : Bool) (frame : Option (List Byte)) (train : Nat)
  /-- FAB_IDLE_TURN_TIMER (R387). A DOWN port sends an idle turn every 10 ms. -/
  | fabIdleTurnTimer (p : Port)
  /-- FAB_LINK_TIMEOUT (R387). No valid turn for 1 ms moves a port to DOWN. -/
  | fabLinkTimeout (p : Port)
  /-- HELLO (R391). A received HELLO updates link training and the node's root view. -/
  | hello (p : Port) (at_ : Nat) (f : FabFrame) (train : Nat)
  /-- HELLO_SEND_TIMER (R387). An UP port sends HELLO every FAB_TIME.HELLO. -/
  | helloSendTimer (p : Port)
  /-- LEAVE (R387). A received LEAVE moves the port to DOWN. -/
  | leave (p : Port) (at_ : Nat)
  /-- ROOT_HOLD_EXPIRY (R392). Expiry of HOLD releases a held-down root key and reforms the view. -/
  | rootHoldExpiry
  /-- EPOCH_START (R394). The root increments the epoch and sends CALL on every UP port. -/
  | epochStart
  /-- CALL (R395). A received CALL sets parent and depth and is forwarded, or answered with DECLINE. -/
  | call (p : Port) (at_ : Nat) (f : FabFrame)
  /-- DECLINE (R396). A received DECLINE finishes the child port. -/
  | decline (p : Port) (at_ : Nat) (f : FabFrame)
  /-- REPORT (R396). A received REPORT segment is forwarded toward the root. -/
  | report (p : Port) (at_ : Nat) (f : FabFrame)
  /-- RC_WAIT_TIMEOUT (R396). A child port silent for RC_WAIT is finished. -/
  | rcWaitTimeout (p : Port)
  /-- ASSIGN (R395). A received ASSIGN segment is forwarded to the child port holding its serials. -/
  | assign (p : Port) (at_ : Nat) (f : FabFrame)
  /-- CLOSE (R399). A received CLOSE lists the node, rebuilds routes and is forwarded. -/
  | close (p : Port) (at_ : Nat) (f : FabFrame)
  /-- LINK_CHANGE (R401). A received LINK_CHANGE starts an epoch or marks one DIRTY. -/
  | linkChange (at_ : Nat) (f : FabFrame)
  /-- FAB_RC_CMD_WRITE (R394). Writing 1 to FAB_RC_CMD at the root starts an epoch. -/
  | fabRcCmdWrite (r : Requester) (v : Word)
  /-- FAB_ADDR_SEL_WRITE (R403). A write to FAB_ADDR_SEL latches an address record. -/
  | fabAddrSelWrite (r : Requester) (v : Word)
  /-- ROUTED_FRAME (R405). A routed frame is delivered, forwarded or dropped. -/
  | routedFrame (p : Port) (at_ : Nat) (f : FabFrame)
  /-- BROADCAST_FRAME (R406). A broadcast is delivered at and below its DST node. -/
  | broadcastFrame (p : Port) (at_ : Nat) (f : FabFrame)
  /-- ECHO (R407). An ECHO request is answered with its bytes. -/
  | echo (at_ : Nat) (f : FabFrame)
  /-- READ_REQUEST (R434). A READ request returns indexed words under the silent rule. -/
  | readRequest (r : Requester) (at_ : Nat) (idx : List Nat)
  /-- WRITE_REQUEST (R434). A WRITE request writes records and returns a status per record. -/
  | writeRequest (r : Requester) (at_ : Nat) (recs : List (Nat × Word))
  /-- REQUEST_REPLY (R408). A reply ends its outstanding request. -/
  | requestReply (at_ : Nat) (f : FabFrame)
  /-- REQUEST_TIMEOUT (R408). A request without reply for TIMEOUT ends with TIMEOUT. -/
  | requestTimeout (seq : Nat)
  /-- SIGNALS_SEND (R412). Each publication group is sent as SIGNALS every period. -/
  | signalsSend (pub : Nat)
  /-- SIGNALS_RECEIVED (R412). A received SIGNALS message updates subscription signals. -/
  | signalsReceived (at_ : Nat) (f : FabFrame)
  /-- SUBSCRIPTION_TIMEOUT (R412). No SIGNALS for the timeout turns the signal stale. -/
  | subscriptionTimeout (n : Nat)
  /-- FAB_SYNC_RECEIVED (R421). A received FAB_SYNC is forwarded or becomes an EXT mark. -/
  | fabSyncReceived (p : Port) (at_ : Nat) (f : FabFrame)
  /-- DELAY_REQ_SEND (R420). Every 1 s a port sends DELAY_REQ. -/
  | delayReqSend (p : Port)
  /-- DELAY_REQ (R420). A received DELAY_REQ is answered with DELAY_RESP. -/
  | delayReq (p : Port) (at_ : Nat)
  /-- DELAY_RESP (R420). A received DELAY_RESP computes the link delay. -/
  | delayResp (p : Port) (at_ : Nat) (f : FabFrame)
  /-- RESOLVE (R411). The root answers RESOLVE with addresses and DOMAIN_TAGs. -/
  | resolve (at_ : Nat) (f : FabFrame)
  /-- RESOLVE_REPLY (R411). A RESOLVE_REPLY updates which members are resolved. -/
  | resolveReply (at_ : Nat) (f : FabFrame)
  /-- DOMAIN_STATE_SEND (R413). The root sends DOMAIN_STATE every 100 ms and on change. -/
  | domainStateSend
  /-- DOMAIN_STATE_RECEIVED (R413). A received DOMAIN_STATE updates RIDE, PARK announcement or member report. -/
  | domainStateReceived (at_ : Nat) (f : FabFrame)
  /-- ROOT_STATE_TIMEOUT (R413). No DOMAIN_STATE for 300 ms makes a FOLLOW_ROOT member take RIDE as false. -/
  | rootStateTimeout
  /-- RELOAD_OFFER (R424). A member receives RELOAD_OFFER and accepts or declines. -/
  | reloadOffer (at_ : Nat) (f : FabFrame)
  /-- RELOAD_REPLY (R423). An accepting RELOAD_REPLY starts the root's stream 0. -/
  | reloadReply (at_ : Nat) (f : FabFrame)
  /-- RELOAD_STREAM_COMPLETE (R424). The member checks, loads and commits the received components and image. -/
  | reloadStreamComplete (at_ : Nat) (k : StartInput)
  /-- RELOAD_DONE (R424). RELOAD_DONE records the member's result at the root. -/
  | reloadDone (at_ : Nat) (f : FabFrame)
  /-- RELOAD_WAIT_EXPIRY (R425). No offer within 2,000 ms makes a member fall back to its own Bank A and key. -/
  | reloadWaitExpiry (k : StartInput)
  /-- FAB_RELOAD_CMD_WRITE (R422). Writing 1 to FAB_RELOAD_CMD clears the member record. -/
  | fabReloadCmdWrite (r : Requester) (v : Word)
  /-- FAB_ROUTE_SEL_WRITE (R426). A write to FAB_ROUTE_SEL latches a route entry. -/
  | fabRouteSelWrite (r : Requester) (v : Word)
  /-- STREAM_PACKET_RECEIVED (R414). A stream packet is checked, delivered or forwarded, and credits are returned. -/
  | streamPacketReceived (p : Port) (at_ : Nat) (k : FabPacket) (crcOk : Bool)
  /-- STREAM_CREDIT_RETURN (R415). A credit symbol adds credits to the transmitter. -/
  | streamCreditReturn (p : Port) (n : Nat)
  /-- STREAM_ACK (R417). A STREAM_ACK releases packets or triggers a resend. -/
  | streamAck (at_ : Nat) (f : FabFrame)
  /-- STREAM_RESEND_TIMEOUT (R417). No ACK for 50 ms resends, abandoning after three resends. -/
  | streamResendTimeout (stream dst at_ : Nat) (k : StartInput)
  /-- HOST_STREAM_FRAME (R418). A host frame on DZ0 is served locally or carried to its DST. -/
  | hostStreamFrame (at_ dst : Nat) (frame : List Byte)
  /-- HSPI_SEND (R432). A SEND transaction shifts in a command frame for acceptance or discard. -/
  | hspiSend (at_ sck : Nat) (frame : List Byte) (whole : Bool)
  /-- HSPI_FETCH (R429). A FETCH shifts out the status word and oldest ready reply. -/
  | hspiFetch (at_ sck : Nat) (whole : Bool)
  /-- HSPI_STATUS (R428). A STATUS transaction shifts out the status word. -/
  | hspiStatus (at_ sck : Nat)
  /-- HSPI_UNKNOWN_OPCODE (R428). An unknown opcode is ignored and counted. -/
  | hspiUnknownOpcode (at_ sck : Nat)
  /-- PING (R434). PING returns its bytes. -/
  | ping (bytes : List Byte)
  /-- AUTH_CHALLENGE (R484). AUTH CHALLENGE returns a 32-byte challenge. -/
  | authChallenge
  /-- AUTH_RESPOND (R480). AUTH RESPOND checks a credential and grants its privilege. -/
  | authRespond (response : List Byte)
  /-- AUTH_DROP (R484). AUTH DROP returns the host to default privilege. -/
  | authDrop
  /-- HOST_RESET (R435). RESET empties the queue, rolls back host state and suspends sessions. -/
  | hostReset
  /-- HSPI_CS_STUCK_LOW (R435). HSPI_CS low over 50 ms with no SCK edge is a host port reset. -/
  | hspiCsStuckLow (at_ : Nat)
  /-- IMG_BEGIN (R438). IMG_BEGIN opens, resumes or replaces an image session. -/
  | imgBegin (total : Nat) (replace : Bool) (sha : List Byte)
  /-- IMG_WRITE (R439). IMG_WRITE with data programs units not yet received. -/
  | imgWrite (offset : Nat) (data : List Byte)
  /-- IMG_PROGRESS_QUERY (R440). IMG_WRITE without data returns the progress record. -/
  | imgProgressQuery
  /-- IMG_END (R441). IMG_END checks the SHA-256 and completes the session. -/
  | imgEnd
  /-- IMG_ABORT (R441). IMG_ABORT discards the session and its map. -/
  | imgAbort
  /-- IMG_SESSION_EXPIRY (R441). A session suspended for 30 days is discarded. -/
  | imgSessionExpiry
  /-- KEY_STAGE (R442). KEY_STAGE writes a block into the key staging buffer. -/
  | keyStage (offset : Nat) (data : List Byte)
  /-- HST_IRQ_CAUSE_WRITE (R436). Writing 1 to HIRQ cause bits clears them and may release HIRQ. -/
  | hstIrqCauseWrite (r : Requester) (v : Word)
  /-- UDS_SESSION_CONTROL (R444). DiagnosticSessionControl changes the tester's session. -/
  | udsSessionControl (c : Can) (body : List Byte)
  /-- UDS_S3_TIMEOUT (R444). 5,000 ms without request ends a non-default session. -/
  | udsS3Timeout
  /-- ISOTP_TIMEOUT (R443). N_Bs or N_Cr expiry abandons the ISO 15765-2 message. -/
  | isotpTimeout (c : Can) (which : Fin 3)
  /-- ECU_RESET_HARD (R446). ECUReset 0x01 responds and starts the device. -/
  | ecuResetHard (c : Can) (sp : Bool) (rest : List Byte) (k : StartInput)
  /-- ECU_RESET_SOFT (R446). ECUReset 0x03 reloads the application pair. -/
  | ecuResetSoft (c : Can) (sp : Bool) (rest : List Byte)
  /-- CLEAR_DTC (R463). ClearDiagnosticInformation empties DTC records and may end reactions. -/
  | clearDtc (c : Can) (body : List Byte)
  /-- READ_DTC_COUNT_BY_STATUS (R463). ReadDTCInformation 0x01 returns the count matching the mask. -/
  | readDtcCountByStatus (c : Can) (body : List Byte)
  /-- READ_DTC_BY_STATUS (R463). ReadDTCInformation 0x02 returns DTCs matching the mask. -/
  | readDtcByStatus (c : Can) (body : List Byte)
  /-- READ_DTC_EXT_DATA (R463). ReadDTCInformation 0x06 returns extended data records. -/
  | readDtcExtData (c : Can) (body : List Byte)
  /-- READ_DTC_SUPPORTED (R463). ReadDTCInformation 0x0A reports every record held. -/
  | readDtcSupported (c : Can) (body : List Byte)
  /-- READ_DATA_BY_ID (R448). ReadDataByIdentifier returns words or fixed identifiers. -/
  | readDataById (c : Can) (body : List Byte)
  /-- WRITE_DATA_BY_ID (R448). WriteDataByIdentifier writes one parameter word. -/
  | writeDataById (c : Can) (body : List Byte)
  /-- SA_REQUEST_SEED_L1 (R485). SecurityAccess 0x01 returns a 16-byte seed. -/
  | saRequestSeedL1 (c : Can) (rest : List Byte)
  /-- SA_SEND_KEY_L1 (R485). SecurityAccess 0x02 checks the CMAC key and grants INTEGRATOR. -/
  | saSendKeyL1 (c : Can) (key : List Byte)
  /-- SA_REQUEST_SEED_L3 (R485). SecurityAccess 0x03 returns a 32-byte challenge. -/
  | saRequestSeedL3 (c : Can) (rest : List Byte)
  /-- SA_SEND_KEY_L3 (R485). SecurityAccess 0x04 checks a credential response and grants MAKER. -/
  | saSendKeyL3 (c : Can) (response : List Byte)
  /-- SA_DELAY_EXPIRY (R445). End of the 10 s delay after three invalid keys allows seeds again. -/
  | saDelayExpiry (c : Can)
  /-- COMM_ENABLE_RX_TX (R446). CommunicationControl 0x00 enables reception and transmission. -/
  | commEnableRxTx (c : Can) (sp : Bool) (body : List Byte)
  /-- COMM_ENABLE_RX_DISABLE_TX (R446). CommunicationControl 0x01 stops CANDB releases of the named types. -/
  | commEnableRxDisableTx (c : Can) (sp : Bool) (body : List Byte)
  /-- COMM_DISABLE_RX_TX (R446). CommunicationControl 0x03 stops reception and CANDB releases. -/
  | commDisableRxTx (c : Can) (sp : Bool) (body : List Byte)
  /-- ROUTINE_RESULTS (R446). RoutineControl 0x03 returns a routine's results. -/
  | routineResults (c : Can) (body : List Byte)
  /-- REQUEST_DOWNLOAD_IMAGE (R447). RequestDownload to address 0x0 opens or resumes an image session. -/
  | requestDownloadImage (c : Can) (body : List Byte)
  /-- REQUEST_DOWNLOAD_KEY (R447). RequestDownload to address 0x1 targets the key staging buffer. -/
  | requestDownloadKey (c : Can) (body : List Byte)
  /-- TRANSFER_DATA (R447). TransferData writes a block at the next offset. -/
  | transferData (c : Can) (body : List Byte)
  /-- REQUEST_TRANSFER_EXIT (R447). RequestTransferExit closes the download. -/
  | requestTransferExit (c : Can) (rest : List Byte)
  /-- TESTER_PRESENT (R446). TesterPresent keeps the session alive. -/
  | testerPresent (c : Can) (body : List Byte)
  /-- DTC_SETTING_ON (R463). ControlDTCSetting 0x01 resumes DTC record updates. -/
  | dtcSettingOn (c : Can) (sp : Bool) (rest : List Byte)
  /-- DTC_SETTING_OFF (R463). ControlDTCSetting 0x02 freezes DTC records. -/
  | dtcSettingOff (c : Can) (sp : Bool) (rest : List Byte)
  /-- UDS_UNSUPPORTED_SERVICE (R446). An unlisted service gets NRC 0x11. -/
  | udsUnsupportedService (c : Can) (sid : Byte)
  /-- ROUTINE_IMAGE_SHA (R447). Routine 0xF110 gives the image SHA-256. -/
  | routineImageSha (c : Can) (sha : List Byte)
  /-- ROUTINE_PROGRESS (R440). Routine 0xF111 returns the progress record. -/
  | routineProgress (c : Can) (rest : List Byte)
  /-- UPD_STATUS (R536). Routine 0xF300 returns the update state words. -/
  | updStatus (c : Can) (rest : List Byte)
  /-- UPD_BITMAP (R536). Routine 0xF301 returns a bitmap slice. -/
  | updBitmap (c : Can) (body : List Byte)
  /-- UPD_ACTIVATE (R528). Routine 0xF302 or UPD_CMD 1 activates a verified bunch. -/
  | updActivate (r : Requester) (viaCmd startNow : Bool) (k : StartInput)
  /-- UPD_DISCARD (R536). Routine 0xF303 or UPD_CMD 2 discards the bunch. -/
  | updDiscard (r : Requester) (viaCmd : Bool)
  /-- LC_CHANGE (R498). Routine 0xF400 runs a journalled life-cycle transition. -/
  | lcChange (c : Can) (body : List Byte) (k : StartInput)
  /-- ADOPT_PERMIT (R495). Routine 0xF401 stores an adoption permit. -/
  | adoptPermit (c : Can) (vehicle : List Byte)
  /-- SIGNER_LOAD (R487). Routine 0xF402 installs a signing key. -/
  | signerLoad (c : Can) (body : List Byte)
  /-- REVOKE (R487). Routine 0xF403 replaces the revocation list. -/
  | revoke (c : Can) (body : List Byte)
  /-- KEY_LOAD (R488). Routine 0xF404 installs SA1 or a CAN key. -/
  | keyLoad (c : Can) (body : List Byte)
  /-- ATTEST (R486). Routine 0xF405 signs a nonce with the DEVICE key. -/
  | attest (c : Can) (nonce : List Byte)
  /-- CERT_CHECK (R506). Routine 0xF406 returns SEC_CERT. -/
  | certCheck (c : Can) (rest : List Byte)
  /-- FAULT_REPORT (R456). A reported source is recorded and reacted to by severity. -/
  | faultReport (id inst : Nat)
  /-- FAULT_EVENT_EXPIRY (R452). An event source becomes inactive 1 s after its last report. -/
  | faultEventExpiry (id inst : Nat)
  /-- LOG_FLUSH (R462). The log buffer is written to flash at 16 entries or 1 s. -/
  | logFlush
  /-- FLT_CLEAR_WRITE (R460). Writing 1 to FLT_CLEAR ends LIMP or SAFE reactions. -/
  | fltClearWrite (r : Requester) (v : Word)
  /-- FLT_LOG_SEL_WRITE (R473). A write to FLT_LOG_SEL latches a log entry. -/
  | fltLogSelWrite (r : Requester) (v : Word)
  /-- REPORT_CARD_SAMPLE (R467). Every 100 ms junction temperatures update thermal cycle units. -/
  | reportCardSample (at_ : Nat) (temps : List (Nat × Int)) (erases : Nat)
  /-- REPORT_CARD_FLUSH (R469). Every 10 min accumulators are written to flash. -/
  | reportCardFlush (at_ : Nat)
  /-- LOG_READ (R465). LOG_READ returns up to three log entries. -/
  | logRead (at_ : Nat) (f : FabFrame)
  /-- RC_READ (R465). RC_READ returns Report Card words. -/
  | rcRead (at_ : Nat) (f : FabFrame)
  /-- CREDENTIAL_EXPIRY (R481). VALID_UNTIL passing returns the requester to default privilege. -/
  | credentialExpiry (w : Fin 5)
  /-- AUTH_LOCKOUT_EXPIRY (R483). The 10 s lockout after three failures ends. -/
  | authLockoutExpiry (w : Fin 5)
  /-- AUTH_COMMAND_FRAME (R490). An authenticated command is checked and published. -/
  | authCommandFrame (c : Can) (at_ : Nat) (f : CanFrame)
  /-- PERMIT_EXPIRY (R495). A permit ends 24 h after its start. -/
  | permitExpiry
  /-- OWNER_LOCK_SET (R496). LC_OWNER_CMD 1 sets OWNER_LOCK from the code words. -/
  | ownerLockSet (r : Requester)
  /-- OWNER_LOCK_CLEAR (R496). LC_OWNER_CMD 2 clears OWNER_LOCK with code or override. -/
  | ownerLockClear (r : Requester)
  /-- OWNER_REFUSAL_EXPIRY (R496). The owner-code refusal period ends. -/
  | ownerRefusalExpiry
  /-- TEST_PORT_PROVISION (R498). PROVISION runs BLANK to MAKER. -/
  | testPortProvision (makerKey : List Byte) (makerId : Nat) (sig : List Byte) (cut : Option Nat)
  /-- TEST_PORT_SCRAP (R498). SCRAP runs the transition to SCRAPPED. -/
  | testPortScrap (k : StartInput)
  /-- TEST_PORT_UNLOCK (R504). UNLOCK checks a credential response and unlocks debug. -/
  | testPortUnlock (response : Option (List Byte))
  /-- TEST_PORT_EXTEST (R502). Boundary scan drives and samples the lands. -/
  | testPortExtest (drive : List Bool)
  /-- TEST_PORT_IDCODE (R502). IDCODE returns 0xBCB0_7A3F. -/
  | testPortIdcode
  /-- TEST_PORT_BYPASS (R502). BYPASS, or any instruction not offered, passes data through. -/
  | testPortBypass (bits : List Byte)
  /-- DEBUG_ACCESS (R504). An unlocked debug port reads and writes memory. -/
  | debugAccess (addr : Nat) (write : Option Byte)
  /-- TST_RSTN_ASSERT (R503). TST_RSTN low for 10 µs holds the domains in reset. -/
  | tstRstnAssert
  /-- TST_RSTN_RELEASE (R503). Release of TST_RSTN starts the device. -/
  | tstRstnRelease (k : StartInput)
  /-- ENTROPY_HEALTH_TEST (R505). Every 1 s and at seeding the entropy tests run. -/
  | entropyHealthTest (at_ : Nat) (pass : Bool)
  /-- DRBG_RESEED (R505). After 2^20 requests the DRBG reseeds. -/
  | drbgReseed (pass : Bool)
  /-- CAN_SPRIG_MESSAGE (R523). An ISO 15765-2 message carrying one sprig is received. -/
  | canSprigMessage (c : Can) (at_ : Nat) (msg : List Byte)
  /-- LIN_SPRIG_MESSAGE (R524). A LIN master request transport message carrying one sprig is received. -/
  | linSprigMessage (l : Lin) (at_ nad : Nat) (msg : List Byte)
  /-- SPRIG_SEG (R525). A SPRIG_SEG segment is reassembled. -/
  | sprigSeg (at_ : Nat) (f : FabFrame)
  /-- SPRIG_REASSEMBLY_TIMEOUT (R525). A sprig incomplete 2 s after its first segment is discarded. -/
  | sprigReassemblyTimeout
  /-- BANK_S_ERASE_DONE (R518). Erase ends and stored sprigs are applied. -/
  | bankSEraseDone
  /-- BANK_S_VERIFY_DONE (R526). Verification completes with VERIFIED or discard. -/
  | bankSVerifyDone
  /-- UPDATE_EXPIRY (R522). A bunch or stored sprig reaching its deadline is discarded. -/
  | updateExpiry
  /-- UPD_AUTO_ACTIVATE (R529). An AUTO bunch activates and starts the device. -/
  | updAutoActivate (at_ : Nat) (k : StartInput)
  /-- UPD_QUERY (R525). UPD_QUERY is answered with state and bitmap. -/
  | updQuery (at_ : Nat) (f : FabFrame)
  /-- UPD_EVENT (R525). A Bank S state change sends UPD_EVENT. -/
  | updEvent
  /-- UPD_BITMAP_SEL_WRITE (R535). A write to UPD_BITMAP_SEL latches a bitmap word. -/
  | updBitmapSelWrite (r : Requester) (v : Word)
  /-- RECOVERY_RETRY (R533). Every 60 s a start is retried. -/
  | recoveryRetry (k : StartInput)
  /-- SHED_LEVEL_UP (R545). A shed dwell raises the ladder level. -/
  | shedLevelUp (p : Pressures)
  /-- SHED_LEVEL_DOWN (R545). Restore conditions held lower the level. -/
  | shedLevelDown (p : Pressures)
  /-- ADC_CONVERSION_SKIP (R548). A conversion not started within 4 µs is skipped. -/
  | adcConversionSkip (conv : Conv) (delay : Nat)
  /-- OVERVOLT_ENTRY (R571). VBAT above 28.0 V for 100 µs enters OVERVOLT. -/
  | overvoltEntry (at_ least : Nat)
  /-- OVERVOLT_EXIT (R571). VBAT below 27.0 V for 10 ms leaves OVERVOLT. -/
  | overvoltExit (at_ most : Nat)
  /-- REVERSE_SUPPLY (R572). Reverse supply turns high-side channels fully on. -/
  | reverseSupply (at_ : Nat) (reverse : Bool)
  /-- DISSIPATION_UPDATE (R584). Every 100 ms package dissipation is computed. -/
  | dissipationUpdate (d : Heat)
  /-- MOT_COPRO_RELOAD_DONE (R24). The reload of the motor coprocessor completes, and each bridge with a non-zero set-
      point starts from Catch while a POSITION bridge clears HOMED. -/
  | motCoproReloadDone
  /-- FAB_ENGINE_RELOAD_DONE (R25). The reload of the fabric engine completes, and the node returns UNLISTED with its
      ports taking turns again. -/
  | fabEngineReloadDone (at_ : Nat)
  /-- MOT_PWM_PERIOD (R228). At each bridge PWM period start, the coprocessor measures VBAT, runs the current loop,
      observer and modulator with the short-pulse carry, and delivers MOT0 or MOT1 marks when the observed angle passes a
      multiple of 8,192 ac. -/
  | motPwmPeriod (m : MotorPeriod)
  /-- LED_PULSE_PERIOD (R200). At each dimming pulse period start, the string driver emits or withholds a pulse and
      updates the carry of sub-4 µs pulses and gaps. -/
  | ledPulsePeriod (t : Str)
  /-- CELL_CUTOFF_END (R313). Charging lifts a cut-off cell strictly above Empty + 0.20 V, and the cut-off ends so that
      the cell switch may feed AO and BKOUT again. -/
  | cellCutoffEnd (cell : CellReading)
  /-- SVIN_REMOVED (R309). SVIN ceases to be present, so the charger ramps to zero, switches to VBAT or idles, and stay-
      awake bit 4 may clear. -/
  | svinRemoved (mv : Nat)
  /-- CHALLENGE_EXPIRY (R480). A credential challenge that no response consumed ends 10 s after it was issued, leaving
      the requester with no outstanding challenge. -/
  | challengeExpiry (w : Fin 5)
  deriving DecidableEq, Repr

end Sys2Proof
end

