-- ==== Sys2Proof/WellFormed.lean ====
section
/-!
DEFINITION. Well-formed commands: each operand lies within the range that the table of its field, or its record, admits. A
command that is not well-formed is one that no bus, port or requester can send.
-/
namespace Sys2Proof

/-- Bytes of data a CAN DLC stands for (Table 14-1; DLC coding of ISO 11898-1, assumption log 20). -/
def dlcCount (fdf : Bool) (dlc : Nat) : Nat :=
  if dlc ≤ 8 then dlc
  else if fdf then [12, 16, 20, 24, 32, 48, 64].getD (dlc - 9) 64 else 8

/-- A fabric address is 12 bits (R404); the other requesters carry no number. -/
def Requester.wf : Requester → Bool
  | .host => true
  | .fabric node => decide (node < 4096)
  | .tester _ => true

/-- The argument fields of Table 6-4. -/
def Act.wf : Act → Bool
  | .outSet _ _ => true
  | .outDuty _ duty => decide (duty < 65536)
  | .ledScene _ scene => decide (scene < 256)
  | .ledStep _ mask => decide (mask < 65536)
  | .adcSample list => decide (list < 256)
  | .canRelease _ buf => decide (buf < 64)
  | .lessonTick _ => true
  | .motCmd _ slot => decide (slot < 256)
  | .txnCommit => true
  | .fabSync _ _ => true

/-- The fields of Table 6-3 that a post gives. -/
def EventSpec.wf (e : EventSpec) : Bool :=
  decide (e.clock < 16 ∧ e.due < 2 ^ 48 ∧ e.rep < 65536 ∧ e.period < 2 ^ 32 ∧ e.pool < 16) && e.act.wf

/-- A clock code of 4 bits and a due value of 48 bits (R71, Table 6-3). -/
def CommitAt.wf (c : CommitAt) : Bool := decide (c.clock < 16 ∧ c.due < 2 ^ 48)

/-- A frame of Table 14-1: an identifier of 11 or 29 bits, a DLC of 4 bits with its bytes, BRS and ESI in FD frames only, no bytes in a
remote frame, which is classical. -/
def CanFrame.wf (f : CanFrame) : Bool :=
  decide (f.id < (if f.ide then 2 ^ 29 else 2 ^ 11) ∧ f.dlc < 16 ∧ f.data.length = if f.rtr then 0 else dlcCount f.fdf f.dlc) &&
    (f.fdf || (!f.brs && !f.esi)) && !(f.fdf && f.rtr)

/-- The fields of Table 16-2, and a payload of 0 to 256 bytes. -/
def FabFrame.wf (f : FabFrame) : Bool :=
  decide (f.typ < 64 ∧ f.dst < 4096 ∧ f.src < 4096 ∧ f.hops < 64 ∧ f.seq < 256 ∧ f.payload.length ≤ 256)

/-- The fields of Table 17-3: a payload of 1 to 512 bytes. -/
def FabPacket.wf (k : FabPacket) : Bool :=
  decide (k.dst < 4096 ∧ k.src < 4096 ∧ k.stream < 16 ∧ k.seq < 65536 ∧ k.hops < 64 ∧ 1 ≤ k.payload.length ∧
    k.payload.length ≤ 512)

/-- A key of at most four 64 KB blocks (R27, R29), errors in those blocks, one bit a switch input, readings of the 48 stages (R466). -/
def StartInput.wf (k : StartInput) : Bool :=
  (match k.swap with
    | none => true
    | some (blocks, bytes) => decide (blocks ≤ 4 ∧ bytes.length ≤ 65536 * blocks)) &&
    k.errors.all (fun b => decide (b < 4)) && k.retBad.all (fun n => decide (n < 18)) && decide (k.closed < 2 ^ 32) &&
    k.offsets.all (fun o => decide (o.stage < 48))

/-- One on-time and one sign for each of the three phases (R227). -/
def MotorPeriod.wf : MotorPeriod → Bool
  | .bridge _ _ _ _ _ _ _ phases _ => decide (phases.length = 3)
  | .brushed _ _ _ duty => decide (-32767 ≤ duty ∧ duty ≤ 32767)

/-- Four self and four mutual sub-conversions for each electrode scanned (R281). -/
def TouchFrame.wf (m : TouchFrame) : Bool :=
  m.convs.all fun c => decide (c.2.1.length = 4 ∧ c.2.2.length = 4)

/-- A temperature for each of HS00–HS35 and of MA and MB, a voltage for each of VBAT1–VBAT4 (R584). -/
def Heat.wf (d : Heat) : Bool := decide (d.hs.length = 36 ∧ d.mot.length = 2 ∧ d.groups.length = 4)

/-- An optional operand that a predicate restricts. -/
def optWf {α : Type} (p : α → Bool) : Option α → Bool
  | none => true
  | some a => p a

/-- A parameter index is 14 bits (R53). -/
def indexWf (i : Nat) : Bool := decide (i < 16384)
/-- An event slot is 12 bits (Table 6-3). -/
def slotWf (n : Nat) : Bool := decide (n < 4096)
/-- An unsigned field of `w` bits. -/
def bitsWf (w n : Nat) : Bool := decide (n < 2 ^ w)
/-- A UDS message holds at most 4,095 bytes, the service identifier among them (R443). -/
def udsWf (b : List Byte) : Bool := decide (b.length ≤ 4094)
/-- A host frame's payload holds at most 4,112 bytes (R431). -/
def payloadWf (b : List Byte) : Bool := decide (b.length ≤ 4112)

/-- The well-formed commands: every operand that a table bounds lies within its bounds. -/
def Instr.wf : Instr → Bool
  | .powerOnReset k => StartInput.wf k
  | .principalSelfFault _ k => StartInput.wf k
  | .lockstepMismatch _ => true
  | .appHeartbeatTimeout _ => true
  | .appReloadDone _ => true
  | .motCoproHeartbeatTimeout _ => true
  | .fabEngineHeartbeatTimeout _ => true
  | .mirrorWriteDone _ => true
  | .hkWbMirror r => Requester.wf r
  | .hkWbStaged r => Requester.wf r
  | .hkWriteBackDone _ _ => true
  | .ttPost group => (fun g => decide (1 ≤ g.length ∧ g.length ≤ 16) && g.all EventSpec.wf) group
  | .ttCancel slot gen => slotWf slot && bitsWf 4 gen
  | .eventCommit slot => slotWf slot
  | .committedBoundExpiry slot _ _ _ => slotWf slot
  | .eventOutSet slot _ => slotWf slot
  | .pwmOffEdge _ => true
  | .eventOutDuty slot => slotWf slot
  | .eventLedScene slot => slotWf slot
  | .eventLedStep slot => slotWf slot
  | .eventAdcSample slot _ _ => slotWf slot
  | .eventCanRelease slot => slotWf slot
  | .eventLessonTick slot => slotWf slot
  | .eventMotCmd slot => slotWf slot
  | .eventTxnCommit slot => slotWf slot
  | .eventFabSync slot => slotWf slot
  | .markMissing _ => true
  | .coastLimit _ => true
  | .clockStopTimeout _ => true
  | .ttLogSelWrite age => bitsWf 8 age
  | .txnBegin r => Requester.wf r
  | .txnWrite r idx _ => Requester.wf r && indexWf idx
  | .txnRead r idx => Requester.wf r && indexWf idx
  | .txnCommit r inst => Requester.wf r && optWf CommitAt.wf inst
  | .txnAbort r => Requester.wf r
  | .txnStatus r => Requester.wf r
  | .txnTimeout => true
  | .paramWrite r idx _ => Requester.wf r && indexWf idx
  | .readClearWord r idx => Requester.wf r && indexWf idx
  | .rideEntry _ => true
  | .rideExit _ => true
  | .wsEnterRequest r => Requester.wf r
  | .wsExitRequest r => Requester.wf r
  | .workshopEntry _ => true
  | .workshopExit _ => true
  | .parkEntry _ => true
  | .parkWaitEnd => true
  | .parkEntryCancel _ _ => true
  | .hostStayWrite r _ => Requester.wf r
  | .hostStayExpiry => true
  | .memberRootLinkLoss _ => true
  | .dozeEntry => true
  | .dozeExit => true
  | .standbyEntry => true
  | .standbyExitScheduled => true
  | .standbyExitHold _ => true
  | .wakeSourceFire _ _ _ _ => true
  | .wakeStepTimeout _ => true
  | .wakeBackoffExpiry => true
  | .retainEscalation _ _ _ => true
  | .brownOut _ => true
  | .brownOutRecovery _ k => StartInput.wf k
  | .aoPowerLoss _ => true
  | .rtcWrite r _ => Requester.wf r
  | .lessonPublish _ => true
  | .bnHostWrite r _ _ => Requester.wf r
  | .servicePostRetry => true
  | .inrushEnd _ => true
  | .hsShortDetect _ _ _ _ _ => true
  | .hsOverloadDetect _ => true
  | .hsThermalDetect _ _ => true
  | .hsOpenOnDetect _ => true
  | .hsOpenOffDetect _ _ _ => true
  | .hsShortBatDetect _ _ => true
  | .hsBackfeedDetect _ _ => true
  | .channelRestart _ _ _ => true
  | .hsLatchedClear _ => true
  | .hsForceWrite r _ _ => Requester.wf r
  | .senseCalRetry _ _ _ _ => true
  | .lockEndstop _ => true
  | .lockStrokeMax _ => true
  | .lockBrakeEnd _ => true
  | .lockCoolingEnd _ => true
  | .hbRevBrakeEnd _ => true
  | .supplyBandChange _ _ _ => true
  | .degradedOperationStart => true
  | .overlayRead => true
  | .fadeTick _ => true
  | .ledPosOpenDetect _ _ _ _ => true
  | .ledStrOpenDetect _ _ _ _ => true
  | .ledStrShortDetect _ _ _ => true
  | .ledStrShortBatDetect _ _ => true
  | .ledThermalDetect _ _ => true
  | .stringRestart _ _ _ => true
  | .ledOutageClear _ _ => true
  | .ledLatchedClear _ => true
  | .ledDerateUpdate _ _ => true
  | .corneringUpdate _ => true
  | .ledCalRetry _ _ _ _ => true
  | .ledForceWrite r _ _ => Requester.wf r
  | .motSpeedLoopTick _ _ _ => true
  | .motRmsUpdate _ _ => true
  | .motCatchDone _ _ _ _ => true
  | .motStillBrakeDone _ => true
  | .motAlignDone _ => true
  | .motHandoff _ _ _ _ => true
  | .motHandoffTimeout _ => true
  | .motForcedEntry _ _ => true
  | .motForcedStop _ => true
  | .motHoldTimeout _ => true
  | .motSupplyWatchBand _ _ _ => true
  | .motReversalHoldEnd _ => true
  | .motHomeStall _ _ => true
  | .motHomeFail _ => true
  | .motShortDetect _ _ _ => true
  | .motPeakTrip _ => true
  | .motThermalDetect _ _ => true
  | .motObserverLoss _ _ => true
  | .motPhaseOpenDetect _ _ _ => true
  | .motRestart _ _ _ => true
  | .motLatchedClear _ => true
  | .motOffsetCal _ _ _ _ => true
  | .motCalOffsetCmd r _ _ _ _ => Requester.wf r
  | .motCalIdentifyCmd r _ _ _ _ => Requester.wf r
  | .motForceWrite r _ _ => Requester.wf r
  | .swRawEdge _ _ _ => true
  | .swDebounceExpiry _ => true
  | .swStandbySample _ _ => true
  | .parkSwitchSample _ _ => true
  | .ssupFaultDetect _ _ _ => true
  | .ssupRetry _ => true
  | .fqEdge _ _ => true
  | .fqDiagFault _ _ _ => true
  | .speedReevaluation _ _ => true
  | .altZeroCrossing _ _ => true
  | .imuPublish _ => true
  | .imuActivityWindow _ _ _ => true
  | .tamperReferenceCapture _ _ => true
  | .imuStandbyEval _ _ _ _ => true
  | .gyroZeroSuccess _ _ => true
  | .gyroZeroTimeout => true
  | .imuCalZeroCmd r => Requester.wf r
  | .imuCalLevelCmd r _ _ => Requester.wf r
  | .imuClearWrite r _ => Requester.wf r
  | .touchFrame m => TouchFrame.wf m
  | .touchCalRetry _ => true
  | .tchCalCmdWrite r _ => Requester.wf r
  | .touchStuckTimeout _ => true
  | .gloveHoldExpiry _ => true
  | .parkTouchSample _ _ _ => true
  | .cellSwitchChangeover _ => true
  | .svinPresent _ _ => true
  | .vbatGateChange _ _ => true
  | .chgSearchStart _ _ _ _ => true
  | .chgSearchStep _ _ _ => true
  | .chgInputBackoff _ => true
  | .chgPrechargeDone _ _ => true
  | .chgVtermReached _ => true
  | .chgTermination _ _ => true
  | .chgRechargeStart _ _ => true
  | .chgTimerExpiry => true
  | .cellCutoff _ _ => true
  | .chgWindowChange _ _ => true
  | .chgFaultDetect _ _ _ _ => true
  | .chgFaultsRead r => Requester.wf r
  | .cellProbe _ _ _ => true
  | .socSeed _ => true
  | .bkoutCellCutoff _ => true
  | .canFrameReceived _ _ _ f => CanFrame.wf f
  | .canRxTimeout _ _ => true
  | .canIntegrationComplete _ _ => true
  | .canTxAttempt _ _ => true
  | .canArbitrationLost _ => true
  | .canTxSuccess _ _ _ => true
  | .canErrorFrame _ _ kind _ _ _ _ => bitsWf 3 kind
  | .canProtocolException _ _ => true
  | .canBusoffHoldExpiry _ => true
  | .canRecoveryDone _ _ => true
  | .canRecoverWrite r _ _ => Requester.wf r
  | .canTxbCancel r _ _ _ => Requester.wf r
  | .canBusStuck _ _ => true
  | .canTimingApply _ _ => true
  | .canTestWrite r _ _ => Requester.wf r
  | .canRxSelWrite r _ => Requester.wf r
  | .linSlotStart _ _ => true
  | .linResponseReceived _ _ data _ _ _ => (fun b => decide (b.length ≤ 8)) data
  | .linNoResponse _ => true
  | .linHeaderReceived _ _ _ _ => true
  | .nmFrameReceived _ _ f => CanFrame.wf f
  | .nmCycleSend _ => true
  | .nmOwnNeedChange _ _ => true
  | .nmReadyExpiry _ => true
  | .nmSleepCmdSend _ => true
  | .nmSilenceExpiry _ => true
  | .nmOffenderTimeout _ => true
  | .nmIdleTimeout _ => true
  | .busWakePattern _ _ => true
  | .wufMatch _ _ f => CanFrame.wf f
  | .wufDecoderFallback _ => true
  | .nmEscalationHoldExpiry _ => true
  | .nmFwClearWrite r _ => Requester.wf r
  | .nmOffSelWrite r _ => Requester.wf r
  | .nmOffClearWrite r _ => Requester.wf r
  | .linGoToSleep _ => true
  | .linResponderIdle _ => true
  | .linWakeDominant _ _ _ => true
  | .linWakePulseTimeout _ => true
  | .fabTurnReceived _ _ _ _ _ => true
  | .fabIdleTurnTimer _ => true
  | .fabLinkTimeout _ => true
  | .hello _ _ f _ => FabFrame.wf f
  | .helloSendTimer _ => true
  | .leave _ _ => true
  | .rootHoldExpiry => true
  | .epochStart => true
  | .call _ _ f => FabFrame.wf f
  | .decline _ _ f => FabFrame.wf f
  | .report _ _ f => FabFrame.wf f
  | .rcWaitTimeout _ => true
  | .assign _ _ f => FabFrame.wf f
  | .close _ _ f => FabFrame.wf f
  | .linkChange _ f => FabFrame.wf f
  | .fabRcCmdWrite r _ => Requester.wf r
  | .fabAddrSelWrite r _ => Requester.wf r
  | .routedFrame _ _ f => FabFrame.wf f
  | .broadcastFrame _ _ f => FabFrame.wf f
  | .echo _ f => FabFrame.wf f
  | .readRequest r _ idx => Requester.wf r && (fun l => l.all indexWf) idx
  | .writeRequest r _ recs => Requester.wf r && (fun l => l.all fun x => indexWf x.1) recs
  | .requestReply _ f => FabFrame.wf f
  | .requestTimeout seq => bitsWf 8 seq
  | .signalsSend _ => true
  | .signalsReceived _ f => FabFrame.wf f
  | .subscriptionTimeout _ => true
  | .fabSyncReceived _ _ f => FabFrame.wf f
  | .delayReqSend _ => true
  | .delayReq _ _ => true
  | .delayResp _ _ f => FabFrame.wf f
  | .resolve _ f => FabFrame.wf f
  | .resolveReply _ f => FabFrame.wf f
  | .domainStateSend => true
  | .domainStateReceived _ f => FabFrame.wf f
  | .rootStateTimeout => true
  | .reloadOffer _ f => FabFrame.wf f
  | .reloadReply _ f => FabFrame.wf f
  | .reloadStreamComplete _ k => StartInput.wf k
  | .reloadDone _ f => FabFrame.wf f
  | .reloadWaitExpiry k => StartInput.wf k
  | .fabReloadCmdWrite r _ => Requester.wf r
  | .fabRouteSelWrite r _ => Requester.wf r
  | .streamPacketReceived _ _ k _ => FabPacket.wf k
  | .streamCreditReturn _ _ => true
  | .streamAck _ f => FabFrame.wf f
  | .streamResendTimeout stream dst _ k => bitsWf 4 stream && bitsWf 12 dst && StartInput.wf k
  | .hostStreamFrame _ dst frame => bitsWf 12 dst && (fun b => decide (b.length ≤ 512)) frame
  | .hspiSend _ _ _ _ => true
  | .hspiFetch _ _ _ => true
  | .hspiStatus _ _ => true
  | .hspiUnknownOpcode _ _ => true
  | .ping bytes => payloadWf bytes
  | .authChallenge => true
  | .authRespond response => payloadWf response
  | .authDrop => true
  | .hostReset => true
  | .hspiCsStuckLow _ => true
  | .imgBegin _ _ sha => payloadWf sha
  | .imgWrite _ data => payloadWf data
  | .imgProgressQuery => true
  | .imgEnd => true
  | .imgAbort => true
  | .imgSessionExpiry => true
  | .keyStage _ data => payloadWf data
  | .hstIrqCauseWrite r _ => Requester.wf r
  | .udsSessionControl _ body => udsWf body
  | .udsS3Timeout => true
  | .isotpTimeout _ _ => true
  | .ecuResetHard _ _ rest k => udsWf rest && StartInput.wf k
  | .ecuResetSoft _ _ rest => udsWf rest
  | .clearDtc _ body => udsWf body
  | .readDtcCountByStatus _ body => udsWf body
  | .readDtcByStatus _ body => udsWf body
  | .readDtcExtData _ body => udsWf body
  | .readDtcSupported _ body => udsWf body
  | .readDataById _ body => udsWf body
  | .writeDataById _ body => udsWf body
  | .saRequestSeedL1 _ rest => udsWf rest
  | .saSendKeyL1 _ key => udsWf key
  | .saRequestSeedL3 _ rest => udsWf rest
  | .saSendKeyL3 _ response => udsWf response
  | .saDelayExpiry _ => true
  | .commEnableRxTx _ _ body => udsWf body
  | .commEnableRxDisableTx _ _ body => udsWf body
  | .commDisableRxTx _ _ body => udsWf body
  | .routineResults _ body => udsWf body
  | .requestDownloadImage _ body => udsWf body
  | .requestDownloadKey _ body => udsWf body
  | .transferData _ body => udsWf body
  | .requestTransferExit _ rest => udsWf rest
  | .testerPresent _ body => udsWf body
  | .dtcSettingOn _ _ rest => udsWf rest
  | .dtcSettingOff _ _ rest => udsWf rest
  | .udsUnsupportedService _ _ => true
  | .routineImageSha _ sha => udsWf sha
  | .routineProgress _ rest => udsWf rest
  | .updStatus _ rest => udsWf rest
  | .updBitmap _ body => udsWf body
  | .updActivate r _ _ k => Requester.wf r && StartInput.wf k
  | .updDiscard r _ => Requester.wf r
  | .lcChange _ body k => udsWf body && StartInput.wf k
  | .adoptPermit _ vehicle => udsWf vehicle
  | .signerLoad _ body => udsWf body
  | .revoke _ body => udsWf body
  | .keyLoad _ body => udsWf body
  | .attest _ nonce => udsWf nonce
  | .certCheck _ rest => udsWf rest
  | .faultReport id inst => bitsWf 12 id && bitsWf 8 inst
  | .faultEventExpiry id inst => bitsWf 12 id && bitsWf 8 inst
  | .logFlush => true
  | .fltClearWrite r _ => Requester.wf r
  | .fltLogSelWrite r _ => Requester.wf r
  | .reportCardSample _ _ _ => true
  | .reportCardFlush _ => true
  | .logRead _ f => FabFrame.wf f
  | .rcRead _ f => FabFrame.wf f
  | .credentialExpiry _ => true
  | .authLockoutExpiry _ => true
  | .authCommandFrame _ _ f => CanFrame.wf f
  | .permitExpiry => true
  | .ownerLockSet r => Requester.wf r
  | .ownerLockClear r => Requester.wf r
  | .ownerRefusalExpiry => true
  | .testPortProvision _ makerId _ _ => bitsWf 16 makerId
  | .testPortScrap k => StartInput.wf k
  | .testPortUnlock _ => true
  | .testPortExtest _ => true
  | .testPortIdcode => true
  | .testPortBypass _ => true
  | .debugAccess addr _ => bitsWf 32 addr
  | .tstRstnAssert => true
  | .tstRstnRelease k => StartInput.wf k
  | .entropyHealthTest _ _ => true
  | .drbgReseed _ => true
  | .canSprigMessage _ _ _ => true
  | .linSprigMessage _ _ nad _ => bitsWf 8 nad
  | .sprigSeg _ f => FabFrame.wf f
  | .sprigReassemblyTimeout => true
  | .bankSEraseDone => true
  | .bankSVerifyDone => true
  | .updateExpiry => true
  | .updAutoActivate _ k => StartInput.wf k
  | .updQuery _ f => FabFrame.wf f
  | .updEvent => true
  | .updBitmapSelWrite r _ => Requester.wf r
  | .recoveryRetry k => StartInput.wf k
  | .shedLevelUp _ => true
  | .shedLevelDown _ => true
  | .adcConversionSkip _ _ => true
  | .overvoltEntry _ _ => true
  | .overvoltExit _ _ => true
  | .reverseSupply _ _ => true
  | .dissipationUpdate d => Heat.wf d
  | .motCoproReloadDone => true
  | .fabEngineReloadDone _ => true
  | .motPwmPeriod m => MotorPeriod.wf m
  | .ledPulsePeriod _ => true
  | .cellCutoffEnd _ => true
  | .svinRemoved _ => true
  | .challengeExpiry _ => true

end Sys2Proof
end

