-- ==== Sys2Proof/Decode.lean ====
section
/-!
DEFINITION. Commands as words. The table of operations and events gives no row bits (every row's field list is empty): a
command reaches the block as an operation or event with its operands, and no word spells one.
-/
namespace Sys2Proof

/-- The command that a word spells by the table's bits: none, since no row of the table has bits. -/
def decodeTableWord (_nbits _w : Nat) : Option Instr := none

end Sys2Proof
end

