-- ==== Sys2Proof/Machine/Bits.lean ====
section
/-!
DEFINITION. Bit fields, sign extension, byte order (R4, R5), the CRC-32 of R33 and small list helpers.
-/
namespace Sys2Proof.Machine

/-- A word from a number, taken modulo 2^32. -/
def toWord (n : Nat) : Word := BitVec.ofNat 32 n

/-- Bits `[lo + width - 1 : lo]` of a number (R5). -/
def nbits (n lo width : Nat) : Nat := n / 2 ^ lo % 2 ^ width

/-- The field of `width` bits at bit `lo` of a word (R5). -/
def fld (w : Word) (lo width : Nat) : Nat := nbits w.toNat lo width

/-- Bit `i` of a word. -/
def bit (w : Word) (i : Nat) : Bool := fld w i 1 == 1

/-- The word with the field of `width` bits at `lo` replaced by `v` modulo 2^width. -/
def setFld (w : Word) (lo width v : Nat) : Word :=
  toWord (w.toNat - fld w lo width * 2 ^ lo + v % 2 ^ width * 2 ^ lo)

/-- The bits of a word that a mask selects. -/
def maskWord (w : Word) (mask : Nat) : Word := toWord (w.toNat &&& mask)

/-- The word with a field raised by `k`, saturating at the field's largest value. -/
def bumpFld (w : Word) (lo width k : Nat) : Word :=
  setFld w lo width (Nat.min (fld w lo width + k) (2 ^ width - 1))

/-- A field read as two's complement. -/
def signed (v width : Nat) : Int := if v < 2 ^ (width - 1) then v else (v : Int) - 2 ^ width

/-- An integer as a two's complement field of `width` bits. -/
def unsigned (i : Int) (width : Nat) : Nat := (i % (2 ^ width : Nat)).toNat

/-- 1 for true, 0 for false. -/
def b2n (b : Bool) : Nat := if b then 1 else 0

/-- The number whose bit `i` is entry `i` of the list. -/
def packBits : List Bool → Nat
  | [] => 0
  | b :: bs => b2n b + 2 * packBits bs

/-- An integer clamped to a closed range. -/
def clampInt (lo hi x : Int) : Int := if x < lo then lo else if hi < x then hi else x

/-- A quotient rounded to the nearest integer, ties away from zero (R154); 0 for a zero divisor. -/
def divNear (a b : Int) : Int :=
  if b = 0 then 0
  else
    let n := a.natAbs; let d := b.natAbs
    let q : Int := ((2 * n + d) / (2 * d) : Nat)
    if (0 ≤ a) = (0 ≤ b) then q else -q

/-- Little-endian number of a byte list (R4). -/
def leNat : List Byte → Nat
  | [] => 0
  | b :: bs => b.toNat + 256 * leNat bs

/-- Big-endian number of a byte list. -/
def beNat (bs : List Byte) : Nat := leNat bs.reverse

/-- `n` as `k` little-endian bytes (R4). -/
def leBytes (n : Nat) : Nat → List Byte
  | 0 => []
  | k + 1 => BitVec.ofNat 8 n :: leBytes (n / 256) k

/-- `n` as `k` big-endian bytes. -/
def beBytes (n k : Nat) : List Byte := (leBytes n k).reverse

/-- `len` bytes from offset `off`; shorter where the list ends. -/
def slice (bs : List Byte) (off len : Nat) : List Byte := (bs.drop off).take len

/-- The little-endian number of `len` bytes at `off` (R4). -/
def leAt (bs : List Byte) (off len : Nat) : Nat := leNat (slice bs off len)

/-- One bit step of the reflected CRC-32 with polynomial 0x04C1_1DB7 (R33). -/
def crcBit (c : Nat) : Nat := if c % 2 = 1 then (c / 2) ^^^ 0xEDB88320 else c / 2

/-- `k` bit steps of the CRC. -/
def crcBits : Nat → Nat → Nat
  | 0, c => c
  | k + 1, c => crcBits k (crcBit c)

/-- The CRC register after a byte list. -/
def crcLoop : List Byte → Nat → Nat
  | [], c => c
  | b :: bs, c => crcLoop bs (crcBits 8 (c ^^^ b.toNat))

/-- The CRC-32 of R33: reflected, initial value and final XOR 0xFFFF_FFFF. -/
def crc32 (bs : List Byte) : Nat := crcLoop bs 0xFFFFFFFF ^^^ 0xFFFFFFFF

/-- Split a byte list into pieces of `k` bytes (the last may be shorter); `fuel` bounds the pieces. -/
def chunksFuel (k : Nat) : Nat → List Byte → List (List Byte)
  | 0, _ => []
  | _ + 1, [] => []
  | n + 1, b :: bs => (b :: bs).take k :: chunksFuel k n ((b :: bs).drop k)

/-- Split a byte list into pieces of `k` bytes. -/
def chunks (k : Nat) (bs : List Byte) : List (List Byte) := chunksFuel k bs.length bs

/-- The entries of a list with the entry at a position changed; unchanged beyond its end. -/
def modifyAt {α : Type} (xs : List α) (i : Nat) (f : α → α) : List α := xs.modify i f

/-- Add to a bounded ring: the newest `cap` entries are kept, newest last. -/
def ringPush {α : Type} (cap : Nat) (xs : List α) (x : α) : List α :=
  (xs ++ [x]).drop ((xs.length + 1) - cap)

/-- Entry `i` of the fixed-size list of `n` entries, with a default beyond its end. -/
def nth {α : Type} (d : α) (xs : List α) (i : Nat) : α := xs.getD i d

/-- The first number below `n` that the predicate holds of. -/
def firstBelow (p : Nat → Bool) (n : Nat) : Option Nat := (List.range n).find? p

/-- Ceiling of a quotient. -/
def ceilDiv (a b : Nat) : Nat := (a + b - 1) / b

end Sys2Proof.Machine
end

