-- ==== Sys2Proof/Machine/ParamTable.lean ====
section
/-!
DEFINITION. The parameter words (R53, R55, and the Settings table of every chapter): index, count, stride, reset value,
access class, privilege, liveness, the writable bits (R6) and the ranges a written value must meet (R65).
-/
namespace Sys2Proof.Machine

/-- The access classes of Table 3-2 (R57). -/
inductive Access where
  | ro | rw | rwt | w1c | rc
  deriving DecidableEq, Repr

/-- The privileges, PUBLIC < INTEGRATOR < MAKER < VENDOR (R61). -/
inductive Priv where
  | pub | integ | maker | vendor
  deriving DecidableEq, Repr

/-- The order of the privileges (R61). -/
def Priv.rank : Priv → Nat
  | .pub => 0 | .integ => 1 | .maker => 2 | .vendor => 3

/-- When a word is alive (R62): always, in WATCH, RIDE and WORKSHOP, in WORKSHOP only, or under R496. -/
inductive AliveIn where
  | always | awake | workshop | owner
  deriving DecidableEq, Repr

/-- Range rules of one word that no interval states. -/
inductive Special where
  | chgCap
  | cornerAsc
  | crkTeeth
  | failSafety
  | gloveOrder
  | iset
  | linRate
  | linTable
  | motLimit
  | nmBase
  | prioSafety
  | sevSet
  | stamp
  | twinAsc
  deriving DecidableEq, Repr

/-- One range rule of a word (R65). `ge` relates two fields of the word; `xge` and `xle` relate a field to a field of
another word (base index, stride of that word per row instance). -/
inductive Chk where
  | rng (lo w min max : Nat)
  | rngz (lo w min max : Nat)
  | srng (lo w : Nat) (min max : Int)
  | ge (loA wA loB wB k : Nat)
  | pwm (min max : Nat)
  | xge (lo w idx stride loB wB k : Nat)
  | xle (lo w idx stride loB wB k : Nat)
  | sp (x : Special)
  deriving DecidableEq, Repr

/-- One row of a Settings table: `count` words at `base`, `stride` apart. -/
structure ParamRow where
  base : Nat
  count : Nat
  stride : Nat
  reset : Nat
  access : Access
  priv : Priv
  alive : AliveIn
  command : Bool
  mask : Nat
  checks : List Chk
  deriving DecidableEq, Repr

/-- A row in the order index, count, stride, reset, access, privilege, liveness, command word, writable bits, ranges. -/
def prow (base count stride reset : Nat) (a : Access) (p : Priv) (al : AliveIn) (c : Bool) (m : Nat) (ch : List Chk) :
    ParamRow :=
  { base := base, count := count, stride := stride, reset := reset, access := a, priv := p, alive := al, command := c,
    mask := m, checks := ch }

/-- Words of page 0x00. -/
def rows00 : List ParamRow :=
  [
    prow 0x0 1 1 0xCB07000B .ro .pub .always false 0xFFFFFFFF [],  -- SYS_DEVICE_ID
    prow 0x1 1 1 0x0 .ro .pub .always false 0xFFFFFFFF [],  -- SYS_FW_VERSION
    prow 0x2 1 1 0x0 .ro .pub .always false 0xFFFFFFFF [],  -- SYS_SERIAL_LO
    prow 0x3 1 1 0x0 .ro .pub .always false 0xFFFFFFFF [] ]  -- SYS_SERIAL_HI

/-- Words of page 0x01. -/
def rows01 : List ParamRow :=
  [
    prow 0x100 1 1 0x0 .ro .integ .always false 0xFFFFFFFF [],  -- SYS_PROC_STATE
    prow 0x101 1 1 0x0 .rc .integ .always false 0xFFFFFFFF [],  -- SYS_START_CAUSE
    prow 0x102 1 1 0x0 .ro .integ .always false 0xFFFFFFFF [],  -- SYS_START_TIME
    prow 0x103 1 1 0x0 .rc .maker .always false 0xFFFFFFFF [],  -- SYS_APP_STOPS
    prow 0x104 1 1 0x0 .rc .maker .always false 0xFFFFFFFF [],  -- SYS_POST_LAT_MAX
    prow 0x180 1 1 0x6E6973 .rwt .maker .always false 0xFFFFFF [.rng 0 8 90 140, .rng 8 8 80 140, .rng 16 8 90 130, .ge 0 8 8 8 5],  -- SYS_SHARE_CFG
    prow 0x181 1 1 0x0 .rwt .integ .always false 0xFFFF [.rngz 0 16 10 800],  -- SYS_INPUT_LIMIT
    prow 0x182 1 1 0x0 .ro .pub .always false 0xFFFFFFFF [],  -- SYS_SHARE_STATUS
    prow 0x183 1 1 0x0 .ro .integ .always false 0xFFFFFFFF [],  -- SYS_SHARE_MEAS
    prow 0x184 1 1 0x0 .rc .integ .always false 0xFFFFFFFF [],  -- SYS_SHARE_COUNTS
    prow 0x185 1 1 0x0 .rc .integ .always false 0xFFFFFFFF [],  -- SYS_ADC_STATS
    prow 0x186 1 1 0x0 .ro .integ .always false 0xFFFFFFFF [],  -- SYS_OWNERS
    prow 0x1A0 1 1 0x0 .ro .pub .always false 0xFFFFFFFF [],  -- SYS_SUPPLY
    prow 0x1A1 1 1 0x0 .ro .integ .always false 0xFFFFFFFF [],  -- SYS_SUPPLY_GROUPS
    prow 0x1A2 1 1 0x0 .ro .integ .always false 0xFFFFFFFF [],  -- SYS_VBATP
    prow 0x1A3 1 1 0x0 .ro .integ .always false 0xFFFFFFFF [],  -- SYS_THERMAL
    prow 0x1A4 1 1 0x0 .ro .integ .always false 0xFFFFFFFF [],  -- SYS_DISSIPATION
    prow 0x1A5 1 1 0x0 .rc .integ .always false 0xFFFFFFFF [] ]  -- SYS_SUPPLY_COUNTS

/-- Words of page 0x02. -/
def rows02 : List ParamRow :=
  [
    prow 0x200 1 1 0x1 .ro .pub .always false 0xFFFFFFFF [],  -- MODE_STATE
    prow 0x201 1 1 0x0 .ro .integ .always false 0xFFFFFFFF [],  -- MODE_STAY_AWAKE
    prow 0x202 1 1 0x0 .rw .pub .awake false 0x1 [],  -- MODE_HOST_STAY
    prow 0x203 1 1 0x0 .rw .maker .always true 0xFFFFFFFF [.rng 0 32 1 2],  -- MODE_WS_REQUEST
    prow 0x204 1 1 0x0 .ro .integ .always false 0xFFFFFFFF [],  -- MODE_LAST_REFUSAL
    prow 0x205 1 1 0x32 .rwt .integ .always false 0xFFFFFFFF [.rng 0 32 10 1000],  -- MODE_IGN_ON_DWELL
    prow 0x206 1 1 0x1F4 .rwt .integ .always false 0xFFFFFFFF [.rng 0 32 100 10000],  -- MODE_IGN_OFF_DWELL
    prow 0x207 1 1 0x1E .rwt .integ .always false 0xFFFFFFFF [.rng 0 32 5 3600],  -- MODE_PARK_DELAY
    prow 0x208 1 1 0x258 .rwt .maker .always false 0xFFFFFFFF [.rng 0 32 60 7200],  -- MODE_WS_TIMEOUT
    prow 0x209 1 1 0x3E8 .rwt .maker .always false 0xFFFFFFFF [.rng 0 32 100 5000],  -- MODE_MOVE_EXIT_DWELL
    prow 0x20A 1 1 0x7FF .rwt .maker .always false 0x800007FF [],  -- MODE_IGN_SIGNAL
    prow 0x20B 1 1 0x7FF .rwt .maker .always false 0x7FF [],  -- MODE_STAY_SIGNAL
    prow 0x20C 1 1 0x12C .rwt .integ .always false 0xFFFFFFFF [.rng 0 32 10 3600],  -- MODE_HOST_STAY_MAX
    prow 0x20D 1 1 0x0 .rc .integ .always false 0xFFFFFFFF [],  -- MODE_TRANSITIONS
    prow 0x20E 1 1 0x0 .ro .integ .always false 0xFFFFFFFF [] ]  -- MODE_ENTERED_TIME

/-- Words of page 0x03. -/
def rows03 : List ParamRow :=
  [
    prow 0x300 1 1 0x0 .ro .integ .always false 0xFFFFFFFF [],  -- PWR_DOMAINS
    prow 0x301 1 1 0x0 .ro .pub .always false 0xFFFFFFFF [],  -- PWR_LAST_PARK
    prow 0x302 1 1 0x0 .ro .pub .always false 0xFFFFFFFF [],  -- PWR_PARK_TIME
    prow 0x303 1 1 0x0 .rwt .maker .always false 0x1 [],  -- PWR_PARK_STATE
    prow 0x304 1 1 0x0 .rwt .integ .always false 0x7C [],  -- PWR_WAKE_ENABLE
    prow 0x305 1 1 0x0 .rwt .integ .always false 0x1F0F [.rng 0 4 0 4],  -- PWR_DEEP_WAKE
    prow 0x306 1 1 0x0 .rwt .integ .always false 0xFFFFFFFF [.rng 0 32 0 31536000],  -- PWR_RTC_WAKE
    prow 0x307 1 1 0x1F8 .rwt .integ .always false 0xFFFFFFFF [.rng 0 32 0 8760],  -- PWR_RETAIN_MAX
    prow 0x308 1 1 0x488 .rwt .integ .always false 0xFFFFFFFF [.rng 0 32 1000 1300],  -- PWR_DEEP_VBAT_LO
    prow 0x309 1 1 0x4EC .rwt .integ .always false 0xFFFFFFFF [.rng 0 32 0 1450, .xge 0 32 0x308 0 0 32 20],  -- PWR_VBAT_WAKE_HI
    prow 0x30A 1 1 0xA003C .rwt .integ .always false 0xFFFFFFFF [.rng 0 16 10 3600, .rng 16 16 1 600],  -- PWR_VBAT_DWELL
    prow 0x30B 1 1 0x5 .rwt .integ .always false 0xFFFFFFFF [.rng 0 32 1 100],  -- PWR_STBY_MIN_GAP
    prow 0x30C 1 1 0x3E8 .rwt .maker .always false 0xFFFFFFFF [.rng 0 32 100 64000],  -- PWR_WAKE_BACKOFF
    prow 0x30D 1 1 0x0 .rc .integ .always false 0xFFFFFFFF [],  -- PWR_WAKE_STATS
    prow 0x30E 1 1 0x0 .ro .integ .always false 0xFFFFFFFF [],  -- PWR_WAKE_TIME
    prow 0x30F 1 1 0x0 .ro .integ .always false 0xFFFFFFFF [],  -- PWR_RET_STATUS
    prow 0x310 1 1 0x0 .rc .integ .always false 0xFFFFFFFF [],  -- PWR_WATCH_RUN
    prow 0x311 1 1 0x0 .rc .integ .always false 0xFFFFFFFF [],  -- PWR_WATCH_STBY
    prow 0x312 1 1 0x0 .rw .integ .always false 0xFFFFFFFF [] ]  -- PWR_RTC_TIME

/-- Words of page 0x04. -/
def rows04 : List ParamRow :=
  [
    prow 0x400 1 1 0x0 .ro .pub .always false 0xFFFFFFFF [],  -- HK_STATUS
    prow 0x401 1 1 0x0 .ro .integ .always false 0xFFFFFFFF [],  -- HK_IMAGE_LEN
    prow 0x402 1 1 0x0 .ro .integ .always false 0xFFFFFFFF [],  -- HK_IMAGE_SEQ
    prow 0x403 1 1 0x0 .ro .integ .always false 0xFFFFFFFF [],  -- HK_DETAIL_OFFSET
    prow 0x404 1 1 0x0 .ro .integ .always false 0xFFFFFFFF [],  -- HK_LOAD_TIME
    prow 0x405 1 1 0x0 .rc .integ .always false 0xFFFFFFFF [],  -- HK_RETRIES
    prow 0x406 1 1 0x0 .ro .integ .always false 0xFFFFFFFF [],  -- HK_SKIPPED
    prow 0x407 1 1 0x0 .ro .integ .always false 0xFFFFFFFF [],  -- HK_MIRROR_STATE
    prow 0x408 1 1 0x0 .ro .integ .always false 0xFFFFFFFF [],  -- HK_MIRROR_SEQ
    prow 0x409 1 1 0x0 .rw .integ .workshop true 0xFFFFFFFF [.rng 0 32 1 2],  -- HK_WB_CMD
    prow 0x40A 1 1 0x0 .ro .integ .always false 0xFFFFFFFF [],  -- HK_WB_STATUS
    prow 0x480 1 1 0x0 .ro .pub .always false 0xFFFFFFFF [],  -- TXN_STATE
    prow 0x481 1 1 0x0 .ro .integ .always false 0xFFFFFFFF [],  -- TXN_STAGED
    prow 0x482 1 1 0x7D0 .rw .integ .always false 0xFFFFFFFF [.rng 0 32 100 60000],  -- TXN_TIMEOUT
    prow 0x483 1 1 0x0 .ro .pub .always false 0xFFFFFFFF [],  -- TXN_COMMIT_SEQ
    prow 0x484 1 1 0x0 .ro .integ .always false 0xFFFFFFFF [],  -- TXN_LAST_STATUS
    prow 0x485 1 1 0x0 .ro .integ .always false 0xFFFFFFFF [],  -- TXN_LAST_COMMIT_TIME
    prow 0x486 1 1 0x0 .rc .integ .always false 0xFFFFFFFF [],  -- TXN_EXPIRIES
    prow 0x487 1 1 0x0 .ro .integ .always false 0xFFFFFFFF [] ]  -- TXN_DUE

/-- Words of page 0x05. -/
def rows05 : List ParamRow :=
  [
    prow 0x500 8 16 0x0 .rwt .maker .always false 0x7FFF3F [.rng 0 4 0 7, .rng 4 2 0 2],  -- TT_PCn_CFG
    prow 0x501 8 16 0x800 .rwt .integ .always false 0xFFFFFFFF [.rng 0 32 64 16384],  -- TT_PCn_TOL
    prow 0x502 8 16 0x10000 .rwt .integ .always false 0xFFFFFFFF [.rng 0 32 4096 262144],  -- TT_PCn_COAST
    prow 0x503 8 16 0x1F4 .rwt .integ .always false 0xFFFFFFFF [.rng 0 32 10 10000],  -- TT_PCn_STOP
    prow 0x504 8 16 0x0 .ro .pub .always false 0xFFFFFFFF [],  -- TT_PCn_NOW
    prow 0x505 8 16 0xFFFFFFFF .ro .pub .always false 0xFFFFFFFF [],  -- TT_PCn_PERIOD
    prow 0x506 8 16 0x0 .ro .pub .always false 0xFFFFFFFF [],  -- TT_PCn_STATE
    prow 0x507 8 16 0x0 .rc .integ .always false 0xFFFFFFFF [],  -- TT_PCn_ERR
    prow 0x580 1 1 0x0 .ro .pub .always false 0xFFFFFFFF [],  -- TT_FREE_LO
    prow 0x581 1 1 0x0 .ro .pub .always false 0xFFFFFFFF [] ]  -- TT_FREE_HI

/-- Words of page 0x06. -/
def rows06 : List ParamRow :=
  [
    prow 0x600 1 1 0x28 .rwt .maker .always false 0xFFFFFFFF [.rng 0 32 10 500],  -- TT_HORIZON
    prow 0x601 1 1 0x80 .rwt .maker .always false 0xFFF [],  -- TT_POOL_1
    prow 0x602 1 1 0x100 .rwt .maker .always false 0xFFF [],  -- TT_POOL_2
    prow 0x603 1 1 0x200 .rwt .maker .always false 0xFFF [],  -- TT_POOL_3
    prow 0x604 1 1 0x100 .rwt .maker .always false 0xFFF [],  -- TT_POOL_4
    prow 0x605 1 1 0x200 .rwt .maker .always false 0xFFF [],  -- TT_POOL_5
    prow 0x606 1 1 0x180 .rwt .maker .always false 0xFFF [],  -- TT_POOL_6
    prow 0x607 1 1 0x20 .rwt .maker .always false 0xFFF [],  -- TT_POOL_7
    prow 0x608 1 1 0x40 .rwt .maker .always false 0xFFF [],  -- TT_POOL_8
    prow 0x610 9 1 0x0 .ro .integ .always false 0xFFFFFFFF [],  -- TT_POOL_USE_n
    prow 0x620 1 1 0x79F .ro .integ .always false 0xFFFFFFFF [],  -- TT_SHARED_SIZE
    prow 0x621 1 1 0x0 .rc .integ .always false 0xFFFFFFFF [],  -- TT_FULL_COUNT
    prow 0x622 1 1 0x0 .rc .integ .always false 0xFFFFFFFF [] ]  -- TT_LATE_MAX

/-- Words of page 0x07. -/
def rows07 : List ParamRow :=
  [
    prow 0x700 1 1 0x7E03FF .rw .integ .always false 0x7F03FF [],  -- TT_LOG_MASK
    prow 0x701 1 1 0x0 .rw .integ .always false 0xFF [],  -- TT_LOG_SEL
    prow 0x702 6 1 0x0 .ro .integ .always false 0xFFFFFFFF [],  -- TT_LOG_ENTRY_k
    prow 0x708 1 1 0x0 .rc .integ .always false 0xFFFFFFFF [] ]  -- TT_LOG_COUNT

/-- Words of page 0x08. -/
def rows08 : List ParamRow :=
  [
    prow 0x800 1 1 0x0 .ro .pub .always false 0xFFFFFFFF [],  -- BN_STATUS
    prow 0x801 1 1 0x0 .ro .integ .always false 0xFFFFFFFF [],  -- BN_LOAD_ERR
    prow 0x802 1 1 0x0 .ro .integ .always false 0xFFFFFFFF [],  -- BN_SIGNALS
    prow 0x803 1 1 0x0 .ro .integ .always false 0xFFFFFFFF [],  -- BN_WORK
    prow 0x804 1 1 0x0 .rc .integ .always false 0xFFFFFFFF [],  -- BN_SAT_COUNT
    prow 0x805 1 1 0x0 .rw .integ .always false 0x7FF [],  -- BN_SIG_SEL
    prow 0x806 1 1 0x0 .ro .integ .always false 0xFFFFFFFF [],  -- BN_SIG_VALUE
    prow 0x807 1 1 0x0 .ro .integ .always false 0xFFFFFFFF [] ]  -- BN_SIG_INFO

/-- Words of page 0x09. -/
def rows09 : List ParamRow :=
  [
    prow 0x900 16 16 0x0 .ro .integ .always false 0xFFFFFFFF [],  -- BN_Ln_CFG
    prow 0x901 16 16 0x0 .rc .integ .always false 0xFFFFFFFF [],  -- BN_Ln_TICKS
    prow 0x902 16 16 0x0 .rc .integ .always false 0xFFFFFFFF [],  -- BN_Ln_EVALS
    prow 0x903 16 16 0x0 .rc .integ .always false 0xFFFFFFFF [],  -- BN_Ln_SKIPS
    prow 0x904 16 16 0x0 .rc .integ .always false 0xFFFFFFFF [],  -- BN_Ln_TIME_MAX
    prow 0x905 16 16 0x0 .ro .integ .always false 0xFFFFFFFF [],  -- BN_Ln_COST
    prow 0x906 16 16 0x0 .ro .pub .always false 0xFFFFFFFF [] ]  -- BN_Ln_STATE

/-- Words of page 0x0A. -/
def rows0A : List ParamRow :=
  [
    prow 0xA00 64 1 0x0 .rwt .integ .always false 0xFFFFFFFF [],  -- BN_TUNE_k
    prow 0xA40 64 1 0x0 .rw .pub .always false 0xFFFFFFFF [] ]  -- BN_HOST_k

/-- Words of page 0x0C. -/
def rows0C : List ParamRow :=
  [
    prow 0xC00 36 1 0x0 .rwt .maker .always false 0xFFF [.rng 8 3 0 6, .sp .failSafety, .sp .prioSafety],  -- HS_CFG_n
    prow 0xC40 36 1 0x3E808 .rwt .maker .always false 0xFFFFFFFF [.pwm 1000 100000],  -- HS_PWM_n
    prow 0xC80 36 1 0x0 .ro .pub .always false 0xFFFFFFFF [],  -- HS_STATUS_n
    prow 0xCC0 36 1 0x0 .ro .pub .always false 0xFFFFFFFF [] ]  -- HS_CURRENT_n

/-- Words of page 0x0D. -/
def rows0D : List ParamRow :=
  [
    prow 0xD00 36 1 0xFFFF .rwt .integ .always false 0xFFFF [],  -- HS_DUTY_n
    prow 0xD40 36 1 0x0 .ro .integ .always false 0xFFFFFFFF [],  -- HS_TEMP_n
    prow 0xD80 36 1 0x0 .rc .integ .always false 0xFFFFFFFF [] ]  -- HS_COUNTS_n

/-- Words of page 0x0E. -/
def rows0E : List ParamRow :=
  [
    prow 0xE00 1 1 0x0 .w1c .integ .always false 0xFFFFFFFF [],  -- HS_LATCHED_LO
    prow 0xE01 1 1 0x0 .w1c .integ .always false 0xFFFFFFFF [],  -- HS_LATCHED_HI
    prow 0xE02 1 1 0x1 .ro .pub .always false 0xFFFFFFFF [],  -- HS_SUPPLY_BAND
    prow 0xE03 1 1 0x8 .rwt .maker .always false 0xFFFF000F [.rng 0 4 0 8],  -- HS_SENSE
    prow 0xE40 36 1 0x0 .rw .maker .workshop false 0xFFFF0003 [.rng 0 2 0 2] ]  -- HS_FORCE_n

/-- Words of page 0x0F, part 1. -/
def rows0Fa : List ParamRow :=
  [
    prow 0xF00 1 1 0xF64 .ro .vendor .always false 0xFFFFFFFF [],  -- HS_PROF0_w0
    prow 0xF01 1 1 0x28000A .ro .vendor .always false 0xFFFFFFFF [],  -- HS_PROF0_w1
    prow 0xF02 1 1 0xA000000 .ro .vendor .always false 0xFFFFFFFF [],  -- HS_PROF0_w2
    prow 0xF03 1 1 0x1010014 .ro .vendor .always false 0xFFFFFFFF [],  -- HS_PROF0_w3
    prow 0xF04 1 1 0x1 .ro .vendor .always false 0xFFFFFFFF [],  -- HS_PROF0_w4
    prow 0xF05 1 1 0xA08 .ro .vendor .always false 0xFFFFFFFF [],  -- HS_PROF0_w5
    prow 0xF10 1 1 0x5064 .ro .vendor .always false 0xFFFFFFFF [],  -- HS_PROF1_w0
    prow 0xF11 1 1 0xC80014 .ro .vendor .always false 0xFFFFFFFF [],  -- HS_PROF1_w1
    prow 0xF12 1 1 0x5010000 .ro .vendor .always false 0xFFFFFFFF [],  -- HS_PROF1_w2
    prow 0xF13 1 1 0x1010014 .ro .vendor .always false 0xFFFFFFFF [],  -- HS_PROF1_w3
    prow 0xF14 1 1 0x0 .ro .vendor .always false 0xFFFFFFFF [],  -- HS_PROF1_w4
    prow 0xF15 1 1 0x508 .ro .vendor .always false 0xFFFFFFFF [],  -- HS_PROF1_w5
    prow 0xF20 1 1 0x1E64 .ro .vendor .always false 0xFFFFFFFF [],  -- HS_PROF2_w0
    prow 0xF21 1 1 0x140005 .ro .vendor .always false 0xFFFFFFFF [],  -- HS_PROF2_w1
    prow 0xF22 1 1 0x5020000 .ro .vendor .always false 0xFFFFFFFF [],  -- HS_PROF2_w2
    prow 0xF23 1 1 0x101000A .ro .vendor .always false 0xFFFFFFFF [],  -- HS_PROF2_w3
    prow 0xF24 1 1 0x1 .ro .vendor .always false 0xFFFFFFFF [],  -- HS_PROF2_w4
    prow 0xF25 1 1 0xA00 .ro .vendor .always false 0xFFFFFFFF [],  -- HS_PROF2_w5
    prow 0xF30 1 1 0x1464 .ro .vendor .always false 0xFFFFFFFF [],  -- HS_PROF3_w0
    prow 0xF31 1 1 0x1F401F4 .ro .vendor .always false 0xFFFFFFFF [],  -- HS_PROF3_w1
    prow 0xF32 1 1 0xA020000 .ro .vendor .always false 0xFFFFFFFF [],  -- HS_PROF3_w2
    prow 0xF33 1 1 0x100000A .ro .vendor .always false 0xFFFFFFFF [],  -- HS_PROF3_w3
    prow 0xF34 1 1 0x4 .ro .vendor .always false 0xFFFFFFFF [],  -- HS_PROF3_w4
    prow 0xF35 1 1 0x3202 .ro .vendor .always false 0xFFFFFFFF [],  -- HS_PROF3_w5
    prow 0xF40 1 1 0x3264 .ro .vendor .always false 0xFFFFFFFF [],  -- HS_PROF4_w0
    prow 0xF41 1 1 0x9C401F4 .ro .vendor .always false 0xFFFFFFFF [],  -- HS_PROF4_w1
    prow 0xF42 1 1 0x140103E8 .ro .vendor .always false 0xFFFFFFFF [],  -- HS_PROF4_w2
    prow 0xF43 1 1 0x1010032 .ro .vendor .always false 0xFFFFFFFF [],  -- HS_PROF4_w3
    prow 0xF44 1 1 0x1 .ro .vendor .always false 0xFFFFFFFF [],  -- HS_PROF4_w4
    prow 0xF45 1 1 0x3200 .ro .vendor .always false 0xFFFFFFFF [] ]  -- HS_PROF4_w5

/-- Words of page 0x0F, part 2. -/
def rows0Fb : List ParamRow :=
  [
    prow 0xF50 1 1 0x1464 .ro .vendor .always false 0xFFFFFFFF [],  -- HS_PROF5_w0
    prow 0xF51 1 1 0xC80032 .ro .vendor .always false 0xFFFFFFFF [],  -- HS_PROF5_w1
    prow 0xF52 1 1 0xA0107D0 .ro .vendor .always false 0xFFFFFFFF [],  -- HS_PROF5_w2
    prow 0xF53 1 1 0x101001E .ro .vendor .always false 0xFFFFFFFF [],  -- HS_PROF5_w3
    prow 0xF54 1 1 0x1 .ro .vendor .always false 0xFFFFFFFF [],  -- HS_PROF5_w4
    prow 0xF55 1 1 0x1400 .ro .vendor .always false 0xFFFFFFFF [],  -- HS_PROF5_w5
    prow 0xF60 1 1 0x1432 .ro .vendor .always false 0xFFFFFFFF [],  -- HS_PROF6_w0
    prow 0xF61 1 1 0x50005 .ro .vendor .always false 0xFFFFFFFF [],  -- HS_PROF6_w1
    prow 0xF62 1 1 0x2020000 .ro .vendor .always false 0xFFFFFFFF [],  -- HS_PROF6_w2
    prow 0xF63 1 1 0x1000000 .ro .vendor .always false 0xFFFFFFFF [],  -- HS_PROF6_w3
    prow 0xF64 1 1 0x1 .ro .vendor .always false 0xFFFFFFFF [],  -- HS_PROF6_w4
    prow 0xF65 1 1 0xA06 .ro .vendor .always false 0xFFFFFFFF [],  -- HS_PROF6_w5
    prow 0xF70 1 1 0x1E64 .ro .vendor .always false 0xFFFFFFFF [],  -- HS_PROF7_w0
    prow 0xF71 1 1 0x1900064 .ro .vendor .always false 0xFFFFFFFF [],  -- HS_PROF7_w1
    prow 0xF72 1 1 0x32020000 .ro .vendor .always false 0xFFFFFFFF [],  -- HS_PROF7_w2
    prow 0xF73 1 1 0x1000000 .ro .vendor .always false 0xFFFFFFFF [],  -- HS_PROF7_w3
    prow 0xF74 1 1 0x2 .ro .vendor .always false 0xFFFFFFFF [],  -- HS_PROF7_w4
    prow 0xF75 1 1 0x6402 .ro .vendor .always false 0xFFFFFFFF [],  -- HS_PROF7_w5
    prow 0xF80 8 16 0x0 .rwt .maker .always false 0xFFFF [.rng 0 8 10 100, .rng 8 8 10 80],  -- HS_PROFu_LIMIT
    prow 0xF81 8 16 0x0 .rwt .maker .always false 0xFFFFFFFF [.rng 0 16 0 10000, .rng 16 16 0 10000],  -- HS_PROFu_INRUSH
    prow 0xF82 8 16 0x0 .rwt .maker .always false 0xFF03FFFF [.rng 0 16 0 10000, .rng 16 2 0 2, .rng 24 8 1 255],  -- HS_PROFu_PULSE
    prow 0xF83 8 16 0x0 .rwt .maker .always false 0xFF0103FF [.rng 0 10 0 500, .rng 24 8 1 255],  -- HS_PROFu_OPEN
    prow 0xF84 8 16 0x0 .rwt .maker .always false 0x7 [.rng 0 3 0 5],  -- HS_PROFu_SLEW
    prow 0xF85 8 16 0x0 .rwt .maker .always false 0xFF0F [.rng 8 8 1 255] ]  -- HS_PROFu_REACT

/-- Words of page 0x10. -/
def rows10 : List ParamRow :=
  [
    prow 0x1000 4 1 0x0 .rwt .maker .always false 0xFFF [.rng 8 3 0 6, .sp .failSafety, .sp .prioSafety],  -- LSD_CFG_n
    prow 0x1010 4 1 0x3E808 .rwt .maker .always false 0xFFFFFFFF [.pwm 1000 100000],  -- LSD_PWM_n
    prow 0x1020 4 1 0x0 .ro .pub .always false 0xFFFFFFFF [],  -- LSD_STATUS_n
    prow 0x1030 4 1 0x0 .ro .pub .always false 0xFFFFFFFF [],  -- LSD_CURRENT_n
    prow 0x1040 4 1 0xFFFF .rwt .integ .always false 0xFFFF [],  -- LSD_DUTY_n
    prow 0x1050 4 1 0x0 .rw .maker .workshop false 0xFFFF0003 [.rng 0 2 0 2],  -- LSD_FORCE_n
    prow 0x1060 1 1 0x0 .w1c .integ .always false 0xFFFFFFFF [] ]  -- LSD_LATCHED

/-- Words of page 0x11. -/
def rows11 : List ParamRow :=
  [
    prow 0x1100 2 1 0x0 .rwt .maker .always false 0x3FF [.rng 4 2 0 2, .rng 8 2 0 2],  -- HB_CFG_n
    prow 0x1110 2 1 0x10A3C12C .rwt .maker .always false 0xFFFFFFFF [.rng 0 12 50 4000, .rng 12 8 10 80, .rng 20 6 1 63, .rng 26 6 1 63],  -- HB_LOCK_n
    prow 0x1120 2 1 0x0 .ro .pub .always false 0xFFFFFFFF [],  -- HB_STATUS_n
    prow 0x1130 2 1 0x0 .ro .pub .always false 0xFFFFFFFF [],  -- HB_CURRENT_n
    prow 0x1140 2 1 0x0 .rw .maker .workshop false 0x7 [.rng 0 3 0 4],  -- HB_FORCE_n
    prow 0x1150 2 1 0x0 .rc .integ .always false 0xFFFFFFFF [],  -- HB_COUNTS_n
    prow 0x1160 1 1 0x0 .w1c .integ .always false 0xFFFFFFFF [] ]  -- HB_LATCHED

/-- Words of page 0x12. -/
def rows12 : List ParamRow :=
  [
    prow 0x1200 4 1 0x0 .rwt .maker .always false 0xFF037F [.rng 0 5 0 16, .rng 8 2 0 2],  -- LED_STR_CFG_s
    prow 0x1204 4 1 0x140000 .rwt .maker .always false 0xFF07FF [.rng 16 8 5 50, .sp .iset],  -- LED_STR_ISET_s
    prow 0x1208 4 1 0x9C408 .rwt .maker .always false 0xFFFFFFFF [.pwm 1000 10000],  -- LED_STR_PWM_s
    prow 0x120C 4 1 0x0 .rwt .integ .always false 0xFFFF [.rng 0 16 0 10000],  -- LED_STR_RATE_s
    prow 0x1210 4 1 0x10F .rwt .maker .always false 0xFFFF [.rng 0 8 5 60, .rng 8 8 0 16],  -- LED_STR_DIAG_s
    prow 0x1280 4 1 0x0 .ro .pub .always false 0xFFFFFFFF [],  -- LED_STR_STATUS_s
    prow 0x1284 4 1 0x0 .ro .pub .always false 0xFFFFFFFF [],  -- LED_STR_MASK_s
    prow 0x1288 4 1 0x0 .ro .pub .always false 0xFFFFFFFF [],  -- LED_STR_CURRENT_s
    prow 0x128C 4 1 0x0 .ro .integ .always false 0xFFFFFFFF [],  -- LED_STR_TEMP_s
    prow 0x1290 4 1 0x0 .w1c .integ .always false 0xFFFFFFFF [],  -- LED_OUTAGE_s
    prow 0x1294 1 1 0x0 .w1c .integ .always false 0xFFFFFFFF [],  -- LED_LATCHED
    prow 0x1298 4 1 0x0 .rc .integ .always false 0xFFFFFFFF [],  -- LED_COUNTS_s
    prow 0x12A0 4 1 0x0 .rw .maker .workshop false 0xFFFFFF03 [] ]  -- LED_FORCE_s

/-- Words of page 0x13. -/
def rows13 : List ParamRow :=
  [
    prow 0x1300 4 1 0x321EA07D .rwt .maker .always false 0xFFFFFFFF [.rng 0 8 100 165, .rng 8 8 0 170, .rng 16 8 10 100, .rng 24 8 10 100, .ge 8 8 0 8 5],  -- LED_DERATE_s
    prow 0x1304 4 1 0x695507FF .rwt .maker .always false 0xFFFF07FF [.ge 24 8 16 8 1] ]  -- LED_LAMP_TEMP_s

/-- Words of page 0x14. -/
def rows14 : List ParamRow :=
  [
    prow 0x1400 4 1 0x7FF .rwt .maker .always false 0x7FF [],  -- LED_OVL_SRC_v
    prow 0x1410 16 1 0x0 .rwt .maker .always false 0xFFFFFFFF [],  -- LED_OVL_MASK_v_s
    prow 0x1430 1 1 0x17702EE .rwt .maker .always false 0xFFFFFFFF [.rng 0 16 400 1500, .rng 16 16 100 1400, .ge 0 16 16 16 100],  -- LED_TURN_TIME
    prow 0x1431 1 1 0x0 .rwt .maker .always false 0x7FFFF [.xle 0 16 0x1430 0 16 16 0],  -- LED_TURN_SEQ
    prow 0x1440 1 1 0xA00 .rwt .maker .always false 0xFF0F [.rng 8 8 2 60],  -- LED_CORNER_CFG
    prow 0x1441 1 1 0x7FF07FF .rwt .maker .always false 0x7FF07FF [],  -- LED_CORNER_SIG
    prow 0x1442 1 1 0x0 .rwt .maker .always false 0x7FFFF [.rng 16 3 0 4],  -- LED_CORNER_LEFT
    prow 0x1443 1 1 0x0 .rwt .maker .always false 0x7FFFF [.rng 16 3 0 4],  -- LED_CORNER_RIGHT
    prow 0x1444 1 1 0x3C281E14 .rwt .maker .always false 0xFFFFFFFF [.rng 0 8 1 120, .rng 8 8 1 120, .rng 16 8 1 120, .rng 24 8 1 120, .sp .cornerAsc],  -- LED_CORNER_THR
    prow 0x1445 1 1 0xC806 .rwt .maker .always false 0xFFFFFF [.rng 0 8 1 20, .rng 8 16 0 5000] ]  -- LED_CORNER_HYST

/-- Words of page 0x16. -/
def rows16 : List ParamRow :=
  [
    prow 0x1600 2 1 0x0 .rwt .maker .always false 0xFF1F073F [.rng 0 2 0 1, .rng 2 2 0 2, .rng 8 3 0 6, .rng 16 5 0 24, .rng 24 8 1 255],  -- MOT_CFG_b
    prow 0x1602 2 1 0xA14 .rwt .maker .always false 0x1FFF [.rng 0 8 16 40, .rng 8 5 4 20],  -- MOT_PWM_b
    prow 0x1604 1 1 0x640096 .rwt .maker .always false 0xFFFFFFFF [.sp .motLimit],  -- MOT_LIMIT_0
    prow 0x1605 1 1 0x230032 .rwt .maker .always false 0xFFFFFFFF [.sp .motLimit],  -- MOT_LIMIT_1
    prow 0x1606 2 1 0x640064 .rwt .integ .always false 0xFFFFFFFF [.rng 0 16 1 10000, .rng 16 16 1 10000],  -- MOT_RAMP_b
    prow 0x1608 2 1 0xA140A0A .rwt .maker .always false 0xFFFFFFFF [.rng 0 8 1 255, .rng 8 8 0 100, .rng 16 8 5 255, .rng 24 8 5 50, .xle 0 8 0x1604 1 0 16 0],  -- MOT_START_b
    prow 0x160A 2 1 0x17700258 .rwt .maker .always false 0xFFFFFFFF [.rng 0 16 100 5000, .rng 16 16 100 30000, .ge 16 16 0 16 0],  -- MOT_SPEED_b
    prow 0x160C 2 1 0x0 .rwt .maker .always false 0xFFFFFFFF [],  -- MOT_MOTOR_b
    prow 0x160E 2 1 0x320005 .rwt .maker .always false 0xFFFFFFFF [],  -- MOT_GAIN_b
    prow 0x1610 2 1 0x32 .rwt .integ .always false 0xFFFF [.rng 0 16 0 1000] ]  -- MOT_REV_b

/-- Words of page 0x17. -/
def rows17 : List ParamRow :=
  [
    prow 0x1700 2 1 0x0 .ro .pub .always false 0xFFFFFFFF [],  -- MOT_STATUS_b
    prow 0x1702 2 1 0x0 .ro .pub .always false 0xFFFFFFFF [],  -- MOT_SPEED_ACT_b
    prow 0x1704 2 1 0x0 .ro .integ .always false 0xFFFFFFFF [],  -- MOT_IQ_b
    prow 0x1706 2 1 0x0 .ro .integ .always false 0xFFFFFFFF [],  -- MOT_RMS_b
    prow 0x1708 2 1 0x0 .ro .integ .always false 0xFFFFFFFF [],  -- MOT_TEMP_b
    prow 0x170A 2 1 0x0 .ro .integ .always false 0xFFFFFFFF [],  -- MOT_DEPTH_b
    prow 0x170C 2 1 0x0 .rc .integ .always false 0xFFFFFFFF [],  -- MOT_COUNTS_b
    prow 0x1710 1 1 0x0 .w1c .integ .always false 0xFFFFFFFF [],  -- MOT_LATCHED
    prow 0x1711 1 1 0x0 .ro .integ .always false 0xFFFFFFFF [],  -- MOT_SUPPLY
    prow 0x1720 2 1 0x0 .rw .maker .workshop false 0xFFFF0003 [] ]  -- MOT_FORCE_b

/-- Words of page 0x18. -/
def rows18 : List ParamRow :=
  [
    prow 0x1800 2 1 0x0 .rwt .maker .always false 0xFFFFFFFF [],  -- MOT_POS_SCALE_b
    prow 0x1802 2 1 0xA0258 .rwt .maker .always false 0xFFFFFFFF [.xge 0 16 0x160A 1 0 16 0, .xle 0 16 0x160A 1 16 16 0],  -- MOT_POS_HOME_b
    prow 0x1804 2 1 0x80000000 .ro .pub .always false 0xFFFFFFFF [],  -- MOT_POS_b
    prow 0x1810 1 1 0x0 .rw .maker .workshop true 0x7 [.rng 1 2 1 2],  -- MOT_CAL_CMD
    prow 0x1811 1 1 0x0 .ro .integ .always false 0xFFFFFFFF [] ]  -- MOT_CAL_STATUS

/-- Words of page 0x19. -/
def rows19 : List ParamRow :=
  [
    prow 0x1900 2 1 0x1F40014 .rwt .maker .always false 0xFFFF013F [.rng 0 6 16 40, .rng 16 16 0 10000],  -- MOT_BR_CFG_h
    prow 0x1902 2 1 0x0 .ro .pub .always false 0xFFFFFFFF [] ]  -- MOT_BR_STATUS_h

/-- Words of page 0x1A. -/
def rows1A : List ParamRow :=
  [
    prow 0x1A00 32 1 0x0 .rwt .maker .always false 0x3FFF [.rng 12 2 0 2],  -- IN_SW_CFG_n
    prow 0x1A20 1 1 0x0 .ro .pub .always false 0xFFFFFFFF [],  -- IN_SW_STATE
    prow 0x1A21 1 1 0x0 .ro .integ .always false 0xFFFFFFFF [],  -- IN_SW_RAW
    prow 0x1A22 1 1 0x0 .rwt .integ .always false 0xFFFFFFFF [],  -- IN_SW_PARK_MASK
    prow 0x1A23 1 1 0x50014 .rwt .integ .always false 0xFFFFFFFF [.rng 0 16 10 1000, .rng 16 16 1 100],  -- IN_SW_CYCLE
    prow 0x1A24 1 1 0x0 .ro .pub .always false 0xFFFFFFFF [],  -- IN_SW_WAKE
    prow 0x1A30 8 1 0x620200A0 .rwt .maker .always false 0xFFFFFFF7 [.rng 4 12 1 1000, .rng 16 8 0 100, .rng 24 8 0 100, .ge 24 8 16 8 0],  -- IN_AN_CFG_n
    prow 0x1A38 8 1 0x0 .ro .pub .always false 0xFFFFFFFF [],  -- IN_AN_VALUE_n
    prow 0x1A40 1 1 0x0 .rwt .maker .always false 0xF [],  -- IN_SSUP_CFG
    prow 0x1A41 1 1 0x0 .ro .integ .always false 0xFFFFFFFF [],  -- IN_SSUP_VOLT
    prow 0x1A42 1 1 0x0 .ro .pub .always false 0xFFFFFFFF [],  -- IN_SSUP_STATUS
    prow 0x1A50 4 1 0x0 .rwt .maker .always false 0xFFFF3FFF [.rng 4 8 1 255, .rng 12 2 0 2, .sp .crkTeeth],  -- IN_FQ_CFG_n
    prow 0x1A54 4 1 0x0 .ro .pub .always false 0xFFFFFFFF [],  -- IN_FQ_FREQ_n
    prow 0x1A58 1 1 0x0 .ro .integ .always false 0xFFFFFFFF [],  -- IN_FQ_STATUS
    prow 0x1A5C 1 1 0x5460546 .rwt .maker .always false 0xFFFFFFFF [],  -- IN_WHEEL
    prow 0x1A5D 1 1 0x1F4 .rwt .integ .always false 0xFFFFFFFF [.rng 0 32 50 5000],  -- IN_FQ_TIMEOUT
    prow 0x1A60 1 1 0x2800 .rwt .maker .always false 0xFFFF [.rng 0 8 0 24, .rng 8 8 10 200],  -- IN_ALT_CFG
    prow 0x1A61 1 1 0x0 .ro .integ .always false 0xFFFFFFFF [] ]  -- IN_ALT_STATUS

/-- Words of page 0x1B. -/
def rows1B : List ParamRow :=
  [
    prow 0x1B00 1 1 0x0 .rwt .maker .always false 0x3FFFFFFF [.srng 0 10 (-180) (180), .srng 10 10 (-180) (180), .srng 20 10 (-180) (180)],  -- IMU_MOUNT
    prow 0x1B01 1 1 0x7FF .rwt .maker .always false 0xFF07FF [.rng 16 8 0 45],  -- IMU_STEER
    prow 0x1B02 1 1 0xF1E0305 .rwt .integ .always false 0xFFFFFFFF [.ge 0 8 8 8 1, .ge 16 8 24 8 1],  -- IMU_MOVE
    prow 0x1B03 1 1 0x7D001F4 .rwt .integ .always false 0xFFFFFFFF [.rng 0 16 250 10000, .rng 16 16 250 10000],  -- IMU_DWELL
    prow 0x1B04 1 1 0x7D0040A .rwt .integ .always false 0xFFFFFFFF [.rng 0 8 2 60, .rng 8 8 1 59, .rng 16 16 100 10000, .ge 0 8 8 8 1],  -- IMU_TAMPER
    prow 0x1B05 1 1 0xA3C1E3C .rwt .integ .always false 0xFFFFFFFF [.rng 0 8 30 90, .rng 8 8 10 85, .rng 16 8 20 150, .rng 24 8 1 100, .ge 0 8 8 8 5],  -- IMU_FALL
    prow 0x1B06 1 1 0x1402 .rwt .maker .always false 0xFF03 [.rng 0 2 0 2, .rng 8 8 5 100],  -- IMU_LEAN_CFG
    prow 0x1B07 1 1 0x0 .ro .pub .always false 0xFFFFFFFF [],  -- IMU_STATUS
    prow 0x1B08 1 1 0x0 .ro .pub .always false 0xFFFFFFFF [],  -- IMU_LEAN
    prow 0x1B09 1 1 0x0 .rw .maker .workshop true 0xFFFFFFFF [.rng 0 32 1 2],  -- IMU_CAL_CMD
    prow 0x1B0A 1 1 0x0 .w1c .integ .always false 0xFFFFFFFF [] ]  -- IMU_CLEAR

/-- Words of page 0x1C. -/
def rows1C : List ParamRow :=
  [
    prow 0x1C00 16 1 0x0 .rwt .maker .always false 0x3 [],  -- TCH_EL_CFG_e
    prow 0x1C10 1 1 0x18320A .rwt .maker .always false 0xFFFFFF [.rng 0 8 5 100, .rng 8 8 10 250, .rng 16 8 4 255],  -- TCH_SCAN
    prow 0x1C11 1 1 0x504 .rwt .maker .always false 0xFFFF [.rng 0 8 1 63, .rng 8 8 1 60],  -- TCH_CAL
    prow 0x1C12 1 1 0x0 .rw .maker .workshop true 0xFF [],  -- TCH_CAL_CMD
    prow 0x1C13 1 1 0x3C140A .rwt .maker .always false 0xFFFFFF [.rng 0 8 1 255, .rng 8 8 5 100, .rng 16 8 10 255],  -- TCH_TEST_CFG
    prow 0x1C14 1 1 0x0 .ro .integ .always false 0xFFFFFFFF [],  -- TCH_TEST_STATUS
    prow 0x1C15 1 1 0x0 .rc .integ .always false 0xFFFFFFFF [],  -- TCH_STATS
    prow 0x1C16 1 1 0x0 .ro .integ .always false 0xFFFFFFFF [],  -- TCH_CMD_STATUS
    prow 0x1C20 1 1 0xF1920 .rwt .integ .always false 0xFFFF37 [.rng 8 8 2 255, .rng 16 8 1 254, .ge 8 8 16 8 1],  -- TCH_WAKE_CFG
    prow 0x1C21 1 1 0x4040208 .rwt .integ .always false 0xFFFFFFFF [.rng 0 8 1 64, .rng 8 8 1 8, .rng 16 8 1 16, .rng 24 8 1 16],  -- TCH_WAKE_TIME
    prow 0x1C22 1 1 0x0 .rc .integ .always false 0xFFFFFFFF [] ]  -- TCH_WAKE_STATS

/-- Words of page 0x1D. -/
def rows1D : List ParamRow :=
  [
    prow 0x1D00 8 1 0x0 .rwt .maker .always false 0x3FFFFF [],  -- TCH_G_CFG_g
    prow 0x1D08 8 1 0xA0F1E28 .rwt .integ .always false 0xFFFFFFFF [.ge 0 8 8 8 1, .sp .gloveOrder, .ge 0 8 16 8 1],  -- TCH_G_SELF_g
    prow 0x1D10 8 1 0x5080E14 .rwt .integ .always false 0xFFFFFFFF [.ge 0 8 8 8 1, .sp .gloveOrder, .ge 0 8 16 8 1],  -- TCH_G_MUT_g
    prow 0x1D18 8 1 0x302 .rwt .integ .always false 0xFFF [.rng 8 4 1 15],  -- TCH_G_WATER_g
    prow 0x1D20 8 1 0x3C32A522 .rwt .integ .always false 0xFFFFFFFF [.rng 0 4 1 15, .rng 4 4 1 15, .rng 8 4 1 15, .rng 12 4 1 15, .rng 16 8 1 255],  -- TCH_G_TIME_g
    prow 0x1D28 8 1 0x0 .ro .pub .always false 0xFFFFFFFF [],  -- TCH_G_STATUS_g
    prow 0x1D30 16 1 0x0 .ro .integ .always false 0xFFFFFFFF [],  -- TCH_EL_RAW_e
    prow 0x1D40 16 1 0x0 .ro .integ .always false 0xFFFFFFFF [] ]  -- TCH_EL_BASE_e

/-- Words of page 0x1E. -/
def rows1E : List ParamRow :=
  [
    prow 0x1E00 1 1 0x0 .rwt .maker .always false 0xFFFF001F [.sp .chgCap],  -- CHG_CFG
    prow 0x1E01 1 1 0x280190 .rwt .maker .always false 0xFFFFFFFF [.rng 0 16 50 2000, .rng 16 16 10 200, .xle 0 16 0x1E00 0 16 16 0],  -- CHG_CURRENT
    prow 0x1E02 1 1 0x5A0514 .rwt .integ .always false 0xFFFFFF [.rng 0 16 1200 1450, .rng 16 8 70 98],  -- CHG_INPUT
    prow 0x1E03 1 1 0x5DC03E8 .rwt .integ .always false 0xFFFFFFFF [.rng 0 16 50 2000, .rng 16 16 50 3000],  -- CHG_LIMITS
    prow 0x1E04 1 1 0x643C .rwt .maker .always false 0xFFFF [.rng 0 8 10 120, .rng 8 8 10 240],  -- CHG_TIMER
    prow 0x1E05 1 1 0x3E80D6B .rwt .maker .always false 0xFFFFFFFF [.rng 0 16 3000 4500, .rng 16 16 100 10000],  -- CHG_NTC
    prow 0x1E06 1 1 0x3C2D0A00 .rwt .maker .always false 0xFFFFFFFF [.srng 0 8 (-20) (60), .srng 8 8 (-20) (60), .srng 16 8 (-20) (60), .srng 24 8 (-20) (60), .sp .twinAsc],  -- CHG_TWIN
    prow 0x1E07 1 1 0x140F00 .rwt .maker .always false 0xFFFF1F [.rng 8 8 5 15, .rng 16 8 0 50],  -- CHG_BKO_CFG
    prow 0x1E08 1 1 0x3C .rwt .integ .always false 0xFF [.rng 0 8 10 255],  -- CHG_SEARCH
    prow 0x1E10 1 1 0x0 .ro .pub .always false 0xFFFFFFFF [],  -- CHG_STATUS
    prow 0x1E11 1 1 0x0 .ro .pub .always false 0xFFFFFFFF [],  -- CHG_CELL
    prow 0x1E12 1 1 0x0 .ro .pub .always false 0xFFFFFFFF [],  -- CHG_SOC
    prow 0x1E13 1 1 0x0 .ro .integ .always false 0xFFFFFFFF [],  -- CHG_INPUT_ACT
    prow 0x1E14 1 1 0x0 .ro .integ .always false 0xFFFFFFFF [],  -- CHG_TEMP
    prow 0x1E15 1 1 0x0 .rc .integ .always false 0xFFFFFFFF [],  -- CHG_FAULTS
    prow 0x1E16 1 1 0x0 .ro .integ .always false 0xFFFFFFFF [],  -- CHG_SVIN
    prow 0x1E17 1 1 0x0 .rc .integ .always false 0xFFFFFFFF [] ]  -- CHG_COUNTS

/-- Words of page 0x20. -/
def rows20 : List ParamRow :=
  [
    prow 0x2000 3 16 0x0 .rwt .maker .always false 0xF [.rng 0 2 0 2],  -- CAN_CFG_c
    prow 0x2001 3 16 0xF1E7C0 .rwt .maker .always false 0x7FFFFFF [],  -- CAN_NBT_c
    prow 0x2002 3 16 0x7D11A0 .rwt .maker .always false 0x3FFFFFF [],  -- CAN_DBT_c
    prow 0x2003 3 16 0x3E83028 .rwt .integ .always false 0xFFFFFFFF [.rng 0 2 0 1, .rng 2 10 0 1000, .rng 12 4 1 15, .rng 16 16 10 60000],  -- CAN_BUSOFF_c
    prow 0x2004 3 16 0xF .rwt .integ .always false 0xF [.sp .stamp],  -- CAN_STAMP_c
    prow 0x2005 3 16 0x0 .rw .integ .always true 0xFFFFFFFF [.rng 0 32 1 1],  -- CAN_RECOVER_c
    prow 0x2006 3 16 0x0 .rw .maker .workshop false 0x3 [] ]  -- CAN_TEST_c

/-- Words of page 0x21. -/
def rows21 : List ParamRow :=
  [
    prow 0x2100 3 16 0x0 .ro .pub .always false 0xFFFFFFFF [],  -- CAN_STATUS_c
    prow 0x2101 3 16 0x0 .ro .integ .always false 0xFFFFFFFF [],  -- CAN_ERRC_c
    prow 0x2102 3 16 0x0 .rc .integ .always false 0xFFFFFFFF [],  -- CAN_RX_COUNT_c
    prow 0x2103 3 16 0x0 .rc .integ .always false 0xFFFFFFFF [],  -- CAN_TX_COUNT_c
    prow 0x2104 3 16 0x0 .rc .integ .always false 0xFFFFFFFF [],  -- CAN_ERR_COUNT_c
    prow 0x2105 3 16 0x0 .ro .integ .always false 0xFFFFFFFF [],  -- CAN_TDC_MEAS_c
    prow 0x2106 3 16 0x0 .ro .integ .always false 0xFFFFFFFF [],  -- CAN_TX_STAMP_c
    prow 0x2107 3 16 0x0 .ro .integ .always false 0xFFFFFFFF [] ]  -- CAN_TX_ASTAMP_c

/-- Words of page 0x22. -/
def rows22 : List ParamRow :=
  [
    prow 0x2200 3 16 0x0 .w1c .integ .always false 0xFFFFFFFF [],  -- CAN_TXB_PEND_LO_c
    prow 0x2201 3 16 0x0 .w1c .integ .always false 0xFFFFFFFF [],  -- CAN_TXB_PEND_HI_c
    prow 0x2202 3 16 0x0 .ro .integ .always false 0xFFFFFFFF [] ]  -- CAN_TXB_LAST_c

/-- Words of page 0x23. -/
def rows23 : List ParamRow :=
  [
    prow 0x2300 1 1 0x0 .rw .integ .always false 0x1FF [],  -- CAN_RX_SEL
    prow 0x2301 4 1 0x0 .ro .integ .always false 0xFFFFFFFF [] ]  -- CAN_RX_REC_k

/-- Words of page 0x25. -/
def rows25 : List ParamRow :=
  [
    prow 0x2500 2 16 0x0 .rwt .maker .always false 0x7FFF0003 [.rng 0 2 0 2, .sp .linRate],  -- LIN_CFG_l
    prow 0x2501 2 16 0xFF07FF .rwt .integ .always false 0xFF07FF [.sp .linTable],  -- LIN_SCHED_l
    prow 0x2502 2 16 0x0 .ro .pub .always false 0xFFFFFFFF [],  -- LIN_STATUS_l
    prow 0x2503 2 16 0x0 .rc .integ .always false 0xFFFFFFFF [],  -- LIN_ERR_COUNT_l
    prow 0x2504 2 16 0x0 .rc .integ .always false 0xFFFFFFFF [] ]  -- LIN_FRAMES_l

/-- Words of page 0x26. -/
def rows26 : List ParamRow :=
  [
    prow 0x2600 3 16 0x1FFC00 .rwt .maker .always false 0x1FFFFF [.rng 0 2 0 2],  -- NM_CFG_c
    prow 0x2601 3 16 0x500 .rwt .maker .always false 0x7FF [.rng 0 11 0 1984, .sp .nmBase],  -- NM_BASE_c
    prow 0x2602 3 16 0x5321414 .rwt .integ .always false 0xFFFFFFFF [.rng 0 8 5 100, .rng 8 8 5 255, .rng 16 8 10 255, .rng 24 8 1 255],  -- NM_TIME_c
    prow 0x2603 3 16 0x1388 .rwt .integ .always false 0xFFFF [.rng 0 16 500 60000],  -- NM_IDLE_c
    prow 0x2604 3 16 0x7FF .rwt .maker .always false 0xFFFF07FF [],  -- NM_PN_c
    prow 0x2605 3 16 0x0 .ro .pub .always false 0xFFFFFFFF [],  -- NM_STATUS_c
    prow 0x2606 3 16 0x0 .rc .integ .always false 0xFFFFFFFF [],  -- NM_COUNTS_c
    prow 0x2607 3 16 0x0 .ro .integ .always false 0xFFFFFFFF [],  -- NM_FROZEN_c
    prow 0x2608 3 16 0x0 .ro .integ .always false 0xFFFFFFFF [],  -- NM_FALSE_c
    prow 0x2640 4 8 0x0 .rwt .maker .always false 0x3FFFFFFF [],  -- NM_WUF_ID_c_f
    prow 0x2641 4 8 0x0 .rwt .maker .always false 0x1FFFFFFF [],  -- NM_WUF_MASK_c_f
    prow 0x2642 4 8 0x0 .rwt .maker .always false 0xFFFFFFFF [],  -- NM_WUF_DATA_LO_c_f
    prow 0x2643 4 8 0x0 .rwt .maker .always false 0xFFFFFFFF [],  -- NM_WUF_DATA_HI_c_f
    prow 0x2644 4 8 0x0 .rwt .maker .always false 0x1F [.rng 0 4 0 8],  -- NM_WUF_DLC_c_f
    prow 0x2680 1 1 0x6140A05 .rwt .integ .always false 0xFFFFFFFF [.rng 0 8 1 255, .rng 8 8 1 255, .rng 16 8 1 255, .rng 24 8 1 168, .ge 8 8 0 8 1, .ge 16 8 8 8 1],  -- NM_FW_CFG
    prow 0x2681 1 1 0x0 .ro .pub .always false 0xFFFFFFFF [],  -- NM_WAKE_CAUSE
    prow 0x2682 1 1 0x0 .ro .integ .always false 0xFFFFFFFF [],  -- NM_WAKE_ID
    prow 0x2683 1 1 0x0 .rw .maker .workshop true 0x7 [],  -- NM_FW_CLEAR
    prow 0x2690 1 1 0x0 .rw .integ .always false 0xFF [],  -- NM_OFF_SEL
    prow 0x2691 4 1 0x0 .ro .integ .always false 0xFFFFFFFF [],  -- NM_OFF_ENTRY_k
    prow 0x2695 1 1 0x0 .ro .integ .always false 0xFFFFFFFF [],  -- NM_OFF_COUNT
    prow 0x2696 1 1 0x0 .rw .maker .always true 0xFFFFFFFF [.rng 0 32 1 1],  -- NM_OFF_CLEAR
    prow 0x26C0 2 8 0x7FF .rwt .maker .always false 0x3FFF [.rng 12 2 0 2],  -- NM_LIN_CFG_l
    prow 0x26C1 2 8 0x14 .rwt .integ .always false 0xFF [.rng 0 8 5 255],  -- NM_LIN_TIME_l
    prow 0x26C2 2 8 0x0 .ro .pub .always false 0xFFFFFFFF [] ]  -- NM_LIN_STATUS_l

/-- Words of page 0x28. -/
def rows28 : List ParamRow :=
  [
    prow 0x2800 1 1 0x10 .rwt .maker .always false 0xF7 [.rng 4 4 1 15],  -- FAB_CFG
    prow 0x2801 1 1 0xA140A .rwt .maker .always false 0xFFFFFF [.rng 0 8 5 100, .rng 8 8 5 255, .rng 16 8 5 50],  -- FAB_TIME
    prow 0x2802 1 1 0x0 .ro .integ .always false 0xFFFFFFFF [],  -- FAB_DOMAIN_TAG
    prow 0x2803 1 1 0x0 .ro .pub .always false 0xFFFFFFFF [],  -- FAB_NODE
    prow 0x2804 1 1 0x0 .ro .pub .always false 0xFFFFFFFF [],  -- FAB_EPOCH
    prow 0x2805 1 1 0x0 .ro .pub .always false 0xFFFFFFFF [],  -- FAB_ROOT_LO
    prow 0x2806 1 1 0x0 .ro .pub .always false 0xFFFFFFFF [],  -- FAB_ROOT_HI
    prow 0x2807 1 1 0x0 .ro .integ .always false 0xFFFFFFFF [],  -- FAB_ROOT_INFO
    prow 0x2808 1 1 0x0 .rw .maker .always true 0xFFFFFFFF [.rng 0 32 1 1],  -- FAB_RC_CMD
    prow 0x2809 1 1 0x0 .rc .integ .always false 0xFFFFFFFF [],  -- FAB_RC_STATS
    prow 0x280A 1 1 0x0 .ro .integ .always false 0xFFFFFFFF [],  -- FAB_RC_LAST_TIME
    prow 0x280B 1 1 0x0 .rw .maker .always false 0xFFF [],  -- FAB_ADDR_SEL
    prow 0x280C 1 1 0x0 .ro .maker .always false 0xFFFFFFFF [],  -- FAB_ADDR_REC_LO
    prow 0x280D 1 1 0x0 .ro .maker .always false 0xFFFFFFFF [],  -- FAB_ADDR_REC_HI
    prow 0x280E 1 1 0x0 .ro .integ .always false 0xFFFFFFFF [],  -- FAB_ADDR_USE
    prow 0x2810 3 1 0x0 .ro .pub .always false 0xFFFFFFFF [],  -- FAB_PORT_STATUS_p
    prow 0x2814 3 1 0x0 .rc .integ .always false 0xFFFFFFFF [],  -- FAB_PORT_COUNTS_p
    prow 0x2818 3 1 0x0 .ro .integ .always false 0xFFFFFFFF [],  -- FAB_NBR_LO_p
    prow 0x281C 3 1 0x0 .ro .integ .always false 0xFFFFFFFF [] ]  -- FAB_NBR_HI_p

/-- Words of page 0x29. -/
def rows29 : List ParamRow :=
  [
    prow 0x2900 1 1 0x0 .rc .integ .always false 0xFFFFFFFF [],  -- FAB_ROUTE_STATS
    prow 0x2901 1 1 0xFA .rwt .integ .always false 0xFFFF [.rng 0 16 10 10000],  -- FAB_REQ_CFG
    prow 0x2902 1 1 0x0 .ro .integ .always false 0xFFFFFFFF [],  -- FAB_REQ_USE
    prow 0x2903 1 1 0x0 .rc .integ .always false 0xFFFFFFFF [],  -- FAB_REQ_COUNTS
    prow 0x2904 1 1 0x0 .rw .integ .always false 0xFFF [],  -- FAB_ROUTE_SEL
    prow 0x2905 1 1 0x0 .ro .integ .always false 0xFFFFFFFF [],  -- FAB_ROUTE_PORT
    prow 0x2910 3 1 0x3 .rwt .maker .always false 0x7 [],  -- FAB_STREAM_CFG_p
    prow 0x2914 3 1 0x0 .ro .integ .always false 0xFFFFFFFF [],  -- FAB_STREAM_STATUS_p
    prow 0x2918 3 1 0x0 .rc .integ .always false 0xFFFFFFFF [] ]  -- FAB_STREAM_COUNTS_p

/-- Words of page 0x2A. -/
def rows2A : List ParamRow :=
  [
    prow 0x2A00 1 1 0x0 .ro .integ .always false 0xFFFFFFFF [],  -- FAB_DOMAIN_STATUS
    prow 0x2A01 1 1 0x0 .ro .integ .always false 0xFFFFFFFF [],  -- FAB_RELOAD_STATUS
    prow 0x2A02 1 1 0x0 .rw .maker .workshop true 0xFFFFFFFF [.rng 0 32 1 1],  -- FAB_RELOAD_CMD
    prow 0x2A10 8 1 0x0 .ro .integ .always false 0xFFFFFFFF [] ]  -- FAB_EXT_n

/-- Words of page 0x2C. -/
def rows2C : List ParamRow :=
  [
    prow 0x2C00 1 1 0x0 .rwt .maker .always false 0x1 [],  -- HST_CFG
    prow 0x2C01 1 1 0x0 .ro .pub .always false 0xFFFFFFFF [],  -- HST_STATUS
    prow 0x2C02 1 1 0x21 .rw .pub .always false 0x3F [],  -- HST_IRQ_EN
    prow 0x2C03 1 1 0x0 .w1c .pub .always false 0xFFFFFFFF [],  -- HST_IRQ_CAUSE
    prow 0x2C04 1 1 0x0 .rc .integ .always false 0xFFFFFFFF [],  -- HST_COUNTS
    prow 0x2C05 1 1 0x0 .ro .integ .always false 0xFFFFFFFF [] ]  -- HST_IMG_NEXT

/-- Words of page 0x2D. -/
def rows2D : List ParamRow :=
  [
    prow 0x2D00 3 16 0x0 .rwt .maker .always false 0x7 [],  -- DIAG_CAN_c
    prow 0x2D01 3 16 0x0 .rwt .maker .always false 0x1FFFFFFF [],  -- DIAG_PHYS_c
    prow 0x2D02 3 16 0x0 .rwt .maker .always false 0x1FFFFFFF [],  -- DIAG_RESP_c
    prow 0x2D03 3 16 0x1FFFFFFF .rwt .maker .always false 0x1FFFFFFF [],  -- DIAG_FUNC_c
    prow 0x2D04 3 16 0xCC0000 .rwt .integ .always false 0xFFFFFF [],  -- DIAG_TP_c
    prow 0x2D80 1 1 0x0 .ro .pub .always false 0xFFFFFFFF [],  -- DIAG_STATUS
    prow 0x2D81 1 1 0x0 .rc .integ .always false 0xFFFFFFFF [] ]  -- DIAG_COUNTS

/-- Words of page 0x30. -/
def rows30 : List ParamRow :=
  [
    prow 0x3000 1 1 0x0 .ro .pub .always false 0xFFFFFFFF [],  -- FLT_STATUS
    prow 0x3001 1 1 0x0 .rw .integ .always false 0xFFF [],  -- FLT_SRC_SEL
    prow 0x3002 1 1 0x0 .ro .integ .always false 0xFFFFFFFF [],  -- FLT_SRC_STATE
    prow 0x3003 1 1 0x0 .ro .integ .always false 0xFFFFFFFF [],  -- FLT_SRC_SEV
    prow 0x3004 1 1 0x0 .rwt .maker .always false 0xFFFFFF [.sp .sevSet],  -- FLT_SEV_SET
    prow 0x3005 1 1 0x0 .rw .maker .workshop true 0xFFFFFFFF [.rng 0 32 1 1],  -- FLT_CLEAR
    prow 0x3006 1 1 0x1 .rwt .maker .always false 0x3 [],  -- FLT_COLLECT_PRIV
    prow 0x3010 16 1 0xFFF .rwt .maker .always false 0xFFF [] ]  -- FLT_WATCH_k

/-- Words of page 0x31. -/
def rows31 : List ParamRow :=
  [
    prow 0x3100 1 1 0x0 .rw .integ .always false 0xFFF [],  -- FLT_LOG_SEL
    prow 0x3101 16 1 0x0 .ro .integ .always false 0xFFFFFFFF [],  -- FLT_LOG_ENTRY_k
    prow 0x3111 1 1 0x0 .rc .integ .always false 0xFFFFFFFF [],  -- FLT_LOG_COUNT
    prow 0x3112 1 1 0x0 .ro .integ .always false 0xFFFFFFFF [],  -- FLT_LOG_SEQ
    prow 0x3113 1 1 0x0 .ro .integ .always false 0xFFFFFFFF [] ]  -- FLT_LOG_USE

/-- Words of page 0x34. -/
def rows34 : List ParamRow :=
  [
    prow 0x3400 1 1 0x0 .ro .pub .always false 0xFFFFFFFF [],  -- RC_STATUS
    prow 0x3401 1 1 0x0 .ro .integ .always false 0xFFFFFFFF [],  -- RC_REASON
    prow 0x3402 1 1 0x0 .ro .integ .always false 0xFFFFFFFF [],  -- RC_FLASH_BANK
    prow 0x3403 1 1 0x0 .ro .integ .always false 0xFFFFFFFF [],  -- RC_FLASH_DATA
    prow 0x3404 1 1 0x0 .ro .integ .always false 0xFFFFFFFF [],  -- RC_CELL
    prow 0x3405 1 1 0x193C .rwt .maker .always false 0xFFFF [.rng 0 8 30 90, .rng 8 8 15 50],  -- RC_LIMITS
    prow 0x3410 48 1 0x0 .ro .integ .always false 0xFFFFFFFF [],  -- RC_CYC_i
    prow 0x3440 48 1 0x0 .ro .integ .always false 0xFFFFFFFF [],  -- RC_SHORT_i
    prow 0x3470 16 1 0x0 .ro .integ .always false 0xFFFFFFFF [] ]  -- RC_DRIFT_e

/-- Words of page 0x35. -/
def rows35 : List ParamRow :=
  [
    prow 0x3500 1 1 0x0 .ro .pub .always false 0xFFFFFFFF [],  -- SEC_STATUS
    prow 0x3501 1 1 0x0 .rwt .maker .always false 0x1 [],  -- SEC_CFG
    prow 0x3502 1 1 0x0 .rw .integ .always false 0x7 [],  -- SEC_SIGNER_SEL
    prow 0x3503 1 1 0x0 .ro .integ .always false 0xFFFFFFFF [],  -- SEC_SIGNER_ID
    prow 0x3504 1 1 0x0 .ro .integ .always false 0xFFFFFFFF [],  -- SEC_SIGNER_STATE
    prow 0x3505 1 1 0x0 .ro .integ .always false 0xFFFFFFFF [],  -- SEC_REVOKE_VER
    prow 0x3506 1 1 0x0 .ro .integ .always false 0xFFFFFFFF [],  -- SEC_FLOOR
    prow 0x3507 1 1 0x0 .ro .integ .always false 0xFFFFFFFF [],  -- SEC_ADOPT
    prow 0x3508 1 1 0x0 .rc .integ .always false 0xFFFFFFFF [],  -- SEC_AUTH_COUNTS
    prow 0x3509 1 1 0x0 .ro .pub .always false 0xFFFFFFFF [],  -- SEC_CERT
    prow 0x3510 16 1 0x400000 .rwt .maker .always false 0x3FF007F [.rng 0 2 0 2, .rng 16 10 1 1023],  -- SEC_ACMD_CFG_k
    prow 0x3520 16 1 0x0 .rwt .maker .always false 0x1FFFFFFF [],  -- SEC_ACMD_ID_k
    prow 0x3530 16 1 0x0 .ro .integ .always false 0xFFFFFFFF [],  -- SEC_ACMD_FV_k
    prow 0x3540 16 1 0x0 .rc .integ .always false 0xFFFFFFFF [] ]  -- SEC_ACMD_COUNT_k

/-- Words of page 0x36. -/
def rows36 : List ParamRow :=
  [
    prow 0x3600 1 1 0x0 .ro .pub .always false 0xFFFFFFFF [],  -- LC_STATE
    prow 0x3601 1 1 0x0 .ro .integ .always false 0xFFFFFFFF [],  -- LC_LAST
    prow 0x3602 4 1 0x0 .rw .pub .owner true 0xFFFFFFFF [],  -- LC_OWNER_CODE_k
    prow 0x3606 1 1 0x0 .rw .pub .owner true 0xFFFFFFFF [.rng 0 32 1 2],  -- LC_OWNER_CMD
    prow 0x3607 1 1 0x0 .ro .pub .always false 0xFFFFFFFF [],  -- LC_OWNER_STATUS
    prow 0x3608 1 1 0x0 .ro .integ .always false 0xFFFFFFFF [] ]  -- LC_TEST_PORT

/-- Words of page 0x37. -/
def rows37 : List ParamRow :=
  [
    prow 0x3700 1 1 0x0 .ro .pub .always false 0xFFFFFFFF [],  -- UPD_STATE
    prow 0x3701 1 1 0x0 .ro .pub .always false 0xFFFFFFFF [],  -- UPD_BUNCH_ID
    prow 0x3702 1 1 0x0 .ro .pub .always false 0xFFFFFFFF [],  -- UPD_PROGRESS
    prow 0x3703 1 1 0xA005A .rwt .maker .always false 0xFFFFFF [.rng 0 16 1 3650, .rng 16 8 1 240],  -- UPD_CFG
    prow 0x3704 3 1 0x0 .rwt .maker .always false 0xFFFFFFFF [],  -- UPD_CAN_c
    prow 0x3707 2 1 0x0 .rwt .maker .always false 0x1FF [],  -- UPD_LIN_l
    prow 0x3709 1 1 0x0 .ro .pub .always false 0xFFFFFFFF [],  -- UPD_SECVER
    prow 0x370A 1 1 0x0 .rc .integ .always false 0xFFFFFFFF [],  -- UPD_COUNTS
    prow 0x370B 1 1 0x0 .ro .integ .always false 0xFFFFFFFF [],  -- UPD_LAST
    prow 0x370C 1 1 0x0 .rw .maker .workshop true 0xFFFFFFFF [.rng 0 32 1 2],  -- UPD_CMD
    prow 0x370D 1 1 0x0 .ro .integ .always false 0xFFFFFFFF [],  -- UPD_COPY
    prow 0x370E 1 1 0x0 .ro .integ .always false 0xFFFFFFFF [],  -- UPD_STORE
    prow 0x370F 1 1 0x0 .ro .integ .always false 0xFFFFFFFF [],  -- UPD_DEADLINE
    prow 0x3710 1 1 0x0 .rw .integ .always false 0x7F [],  -- UPD_BITMAP_SEL
    prow 0x3711 1 1 0x0 .ro .integ .always false 0xFFFFFFFF [] ]  -- UPD_BITMAP_WORD

/-- The rows of a page (R55); a page without rows is reserved. -/
def pageRows : Nat → List ParamRow
  | 0x00 => rows00
  | 0x01 => rows01
  | 0x02 => rows02
  | 0x03 => rows03
  | 0x04 => rows04
  | 0x05 => rows05
  | 0x06 => rows06
  | 0x07 => rows07
  | 0x08 => rows08
  | 0x09 => rows09
  | 0x0A => rows0A
  | 0x0C => rows0C
  | 0x0D => rows0D
  | 0x0E => rows0E
  | 0x0F => rows0Fa ++ rows0Fb
  | 0x10 => rows10
  | 0x11 => rows11
  | 0x12 => rows12
  | 0x13 => rows13
  | 0x14 => rows14
  | 0x16 => rows16
  | 0x17 => rows17
  | 0x18 => rows18
  | 0x19 => rows19
  | 0x1A => rows1A
  | 0x1B => rows1B
  | 0x1C => rows1C
  | 0x1D => rows1D
  | 0x1E => rows1E
  | 0x20 => rows20
  | 0x21 => rows21
  | 0x22 => rows22
  | 0x23 => rows23
  | 0x25 => rows25
  | 0x26 => rows26
  | 0x28 => rows28
  | 0x29 => rows29
  | 0x2A => rows2A
  | 0x2C => rows2C
  | 0x2D => rows2D
  | 0x30 => rows30
  | 0x31 => rows31
  | 0x34 => rows34
  | 0x35 => rows35
  | 0x36 => rows36
  | 0x37 => rows37
  | _ => []

/-- Whether a row holds the index. -/
def ParamRow.has (x : ParamRow) (idx : Nat) : Bool :=
  x.base ≤ idx && (idx - x.base) % x.stride == 0 && (idx - x.base) / x.stride < x.count

/-- The row that defines an index (R55), none for a reserved index. -/
def paramRow (idx : Nat) : Option ParamRow := (pageRows (idx / 256)).find? (·.has idx)

/-- The instance number of an index within its row. -/
def ParamRow.inst (x : ParamRow) (idx : Nat) : Nat := (idx - x.base) / x.stride

/-- The reset value of a word (the Reset column); 0 for a reserved index. -/
def resetWord (idx : Nat) : Word := match paramRow idx with | some x => toWord x.reset | none => 0

end Sys2Proof.Machine
end

