-- ==== Sys2Proof/Machine/Index.lean ====
section
/-!
DEFINITION. The indexes of the parameter words by the names the Settings tables give them; a numbered word is a function of
its number.
-/
namespace Sys2Proof.Machine

/-- `SYS_DEVICE_ID`. -/
def Ix.SYS_DEVICE_ID : Nat := 0x0000

/-- `SYS_FW_VERSION`. -/
def Ix.SYS_FW_VERSION : Nat := 0x0001

/-- `SYS_SERIAL_LO`. -/
def Ix.SYS_SERIAL_LO : Nat := 0x0002

/-- `SYS_SERIAL_HI`. -/
def Ix.SYS_SERIAL_HI : Nat := 0x0003

/-- `SYS_PROC_STATE`. -/
def Ix.SYS_PROC_STATE : Nat := 0x0100

/-- `SYS_START_CAUSE`. -/
def Ix.SYS_START_CAUSE : Nat := 0x0101

/-- `SYS_START_TIME`. -/
def Ix.SYS_START_TIME : Nat := 0x0102

/-- `SYS_APP_STOPS`. -/
def Ix.SYS_APP_STOPS : Nat := 0x0103

/-- `SYS_POST_LAT_MAX`. -/
def Ix.SYS_POST_LAT_MAX : Nat := 0x0104

/-- `SYS_SHARE_CFG`. -/
def Ix.SYS_SHARE_CFG : Nat := 0x0180

/-- `SYS_INPUT_LIMIT`. -/
def Ix.SYS_INPUT_LIMIT : Nat := 0x0181

/-- `SYS_SHARE_STATUS`. -/
def Ix.SYS_SHARE_STATUS : Nat := 0x0182

/-- `SYS_SHARE_MEAS`. -/
def Ix.SYS_SHARE_MEAS : Nat := 0x0183

/-- `SYS_SHARE_COUNTS`. -/
def Ix.SYS_SHARE_COUNTS : Nat := 0x0184

/-- `SYS_ADC_STATS`. -/
def Ix.SYS_ADC_STATS : Nat := 0x0185

/-- `SYS_OWNERS`. -/
def Ix.SYS_OWNERS : Nat := 0x0186

/-- `SYS_SUPPLY`. -/
def Ix.SYS_SUPPLY : Nat := 0x01A0

/-- `SYS_SUPPLY_GROUPS`. -/
def Ix.SYS_SUPPLY_GROUPS : Nat := 0x01A1

/-- `SYS_VBATP`. -/
def Ix.SYS_VBATP : Nat := 0x01A2

/-- `SYS_THERMAL`. -/
def Ix.SYS_THERMAL : Nat := 0x01A3

/-- `SYS_DISSIPATION`. -/
def Ix.SYS_DISSIPATION : Nat := 0x01A4

/-- `SYS_SUPPLY_COUNTS`. -/
def Ix.SYS_SUPPLY_COUNTS : Nat := 0x01A5

/-- `MODE_STATE`. -/
def Ix.MODE_STATE : Nat := 0x0200

/-- `MODE_STAY_AWAKE`. -/
def Ix.MODE_STAY_AWAKE : Nat := 0x0201

/-- `MODE_HOST_STAY`. -/
def Ix.MODE_HOST_STAY : Nat := 0x0202

/-- `MODE_WS_REQUEST`. -/
def Ix.MODE_WS_REQUEST : Nat := 0x0203

/-- `MODE_LAST_REFUSAL`. -/
def Ix.MODE_LAST_REFUSAL : Nat := 0x0204

/-- `MODE_IGN_ON_DWELL`. -/
def Ix.MODE_IGN_ON_DWELL : Nat := 0x0205

/-- `MODE_IGN_OFF_DWELL`. -/
def Ix.MODE_IGN_OFF_DWELL : Nat := 0x0206

/-- `MODE_PARK_DELAY`. -/
def Ix.MODE_PARK_DELAY : Nat := 0x0207

/-- `MODE_WS_TIMEOUT`. -/
def Ix.MODE_WS_TIMEOUT : Nat := 0x0208

/-- `MODE_MOVE_EXIT_DWELL`. -/
def Ix.MODE_MOVE_EXIT_DWELL : Nat := 0x0209

/-- `MODE_IGN_SIGNAL`. -/
def Ix.MODE_IGN_SIGNAL : Nat := 0x020A

/-- `MODE_STAY_SIGNAL`. -/
def Ix.MODE_STAY_SIGNAL : Nat := 0x020B

/-- `MODE_HOST_STAY_MAX`. -/
def Ix.MODE_HOST_STAY_MAX : Nat := 0x020C

/-- `MODE_TRANSITIONS`. -/
def Ix.MODE_TRANSITIONS : Nat := 0x020D

/-- `MODE_ENTERED_TIME`. -/
def Ix.MODE_ENTERED_TIME : Nat := 0x020E

/-- `PWR_DOMAINS`. -/
def Ix.PWR_DOMAINS : Nat := 0x0300

/-- `PWR_LAST_PARK`. -/
def Ix.PWR_LAST_PARK : Nat := 0x0301

/-- `PWR_PARK_TIME`. -/
def Ix.PWR_PARK_TIME : Nat := 0x0302

/-- `PWR_PARK_STATE`. -/
def Ix.PWR_PARK_STATE : Nat := 0x0303

/-- `PWR_WAKE_ENABLE`. -/
def Ix.PWR_WAKE_ENABLE : Nat := 0x0304

/-- `PWR_DEEP_WAKE`. -/
def Ix.PWR_DEEP_WAKE : Nat := 0x0305

/-- `PWR_RTC_WAKE`. -/
def Ix.PWR_RTC_WAKE : Nat := 0x0306

/-- `PWR_RETAIN_MAX`. -/
def Ix.PWR_RETAIN_MAX : Nat := 0x0307

/-- `PWR_DEEP_VBAT_LO`. -/
def Ix.PWR_DEEP_VBAT_LO : Nat := 0x0308

/-- `PWR_VBAT_WAKE_HI`. -/
def Ix.PWR_VBAT_WAKE_HI : Nat := 0x0309

/-- `PWR_VBAT_DWELL`. -/
def Ix.PWR_VBAT_DWELL : Nat := 0x030A

/-- `PWR_STBY_MIN_GAP`. -/
def Ix.PWR_STBY_MIN_GAP : Nat := 0x030B

/-- `PWR_WAKE_BACKOFF`. -/
def Ix.PWR_WAKE_BACKOFF : Nat := 0x030C

/-- `PWR_WAKE_STATS`. -/
def Ix.PWR_WAKE_STATS : Nat := 0x030D

/-- `PWR_WAKE_TIME`. -/
def Ix.PWR_WAKE_TIME : Nat := 0x030E

/-- `PWR_RET_STATUS`. -/
def Ix.PWR_RET_STATUS : Nat := 0x030F

/-- `PWR_WATCH_RUN`. -/
def Ix.PWR_WATCH_RUN : Nat := 0x0310

/-- `PWR_WATCH_STBY`. -/
def Ix.PWR_WATCH_STBY : Nat := 0x0311

/-- `PWR_RTC_TIME`. -/
def Ix.PWR_RTC_TIME : Nat := 0x0312

/-- `HK_STATUS`. -/
def Ix.HK_STATUS : Nat := 0x0400

/-- `HK_IMAGE_LEN`. -/
def Ix.HK_IMAGE_LEN : Nat := 0x0401

/-- `HK_IMAGE_SEQ`. -/
def Ix.HK_IMAGE_SEQ : Nat := 0x0402

/-- `HK_DETAIL_OFFSET`. -/
def Ix.HK_DETAIL_OFFSET : Nat := 0x0403

/-- `HK_LOAD_TIME`. -/
def Ix.HK_LOAD_TIME : Nat := 0x0404

/-- `HK_RETRIES`. -/
def Ix.HK_RETRIES : Nat := 0x0405

/-- `HK_SKIPPED`. -/
def Ix.HK_SKIPPED : Nat := 0x0406

/-- `HK_MIRROR_STATE`. -/
def Ix.HK_MIRROR_STATE : Nat := 0x0407

/-- `HK_MIRROR_SEQ`. -/
def Ix.HK_MIRROR_SEQ : Nat := 0x0408

/-- `HK_WB_CMD`. -/
def Ix.HK_WB_CMD : Nat := 0x0409

/-- `HK_WB_STATUS`. -/
def Ix.HK_WB_STATUS : Nat := 0x040A

/-- `TXN_STATE`. -/
def Ix.TXN_STATE : Nat := 0x0480

/-- `TXN_STAGED`. -/
def Ix.TXN_STAGED : Nat := 0x0481

/-- `TXN_TIMEOUT`. -/
def Ix.TXN_TIMEOUT : Nat := 0x0482

/-- `TXN_COMMIT_SEQ`. -/
def Ix.TXN_COMMIT_SEQ : Nat := 0x0483

/-- `TXN_LAST_STATUS`. -/
def Ix.TXN_LAST_STATUS : Nat := 0x0484

/-- `TXN_LAST_COMMIT_TIME`. -/
def Ix.TXN_LAST_COMMIT_TIME : Nat := 0x0485

/-- `TXN_EXPIRIES`. -/
def Ix.TXN_EXPIRIES : Nat := 0x0486

/-- `TXN_DUE`. -/
def Ix.TXN_DUE : Nat := 0x0487

/-- `TT_PCn_CFG`. -/
def Ix.TT_PC_CFG (n : Nat) : Nat := 0x0500 + 16 * n

/-- `TT_PCn_TOL`. -/
def Ix.TT_PC_TOL (n : Nat) : Nat := 0x0501 + 16 * n

/-- `TT_PCn_COAST`. -/
def Ix.TT_PC_COAST (n : Nat) : Nat := 0x0502 + 16 * n

/-- `TT_PCn_STOP`. -/
def Ix.TT_PC_STOP (n : Nat) : Nat := 0x0503 + 16 * n

/-- `TT_PCn_NOW`. -/
def Ix.TT_PC_NOW (n : Nat) : Nat := 0x0504 + 16 * n

/-- `TT_PCn_PERIOD`. -/
def Ix.TT_PC_PERIOD (n : Nat) : Nat := 0x0505 + 16 * n

/-- `TT_PCn_STATE`. -/
def Ix.TT_PC_STATE (n : Nat) : Nat := 0x0506 + 16 * n

/-- `TT_PCn_ERR`. -/
def Ix.TT_PC_ERR (n : Nat) : Nat := 0x0507 + 16 * n

/-- `TT_FREE_LO`. -/
def Ix.TT_FREE_LO : Nat := 0x0580

/-- `TT_FREE_HI`. -/
def Ix.TT_FREE_HI : Nat := 0x0581

/-- `TT_HORIZON`. -/
def Ix.TT_HORIZON : Nat := 0x0600

/-- `TT_POOL_1`. -/
def Ix.TT_POOL_1 : Nat := 0x0601

/-- `TT_POOL_2`. -/
def Ix.TT_POOL_2 : Nat := 0x0602

/-- `TT_POOL_3`. -/
def Ix.TT_POOL_3 : Nat := 0x0603

/-- `TT_POOL_4`. -/
def Ix.TT_POOL_4 : Nat := 0x0604

/-- `TT_POOL_5`. -/
def Ix.TT_POOL_5 : Nat := 0x0605

/-- `TT_POOL_6`. -/
def Ix.TT_POOL_6 : Nat := 0x0606

/-- `TT_POOL_7`. -/
def Ix.TT_POOL_7 : Nat := 0x0607

/-- `TT_POOL_8`. -/
def Ix.TT_POOL_8 : Nat := 0x0608

/-- `TT_POOL_USE_n`. -/
def Ix.TT_POOL_USE (n : Nat) : Nat := 0x0610 + n

/-- `TT_SHARED_SIZE`. -/
def Ix.TT_SHARED_SIZE : Nat := 0x0620

/-- `TT_FULL_COUNT`. -/
def Ix.TT_FULL_COUNT : Nat := 0x0621

/-- `TT_LATE_MAX`. -/
def Ix.TT_LATE_MAX : Nat := 0x0622

/-- `TT_LOG_MASK`. -/
def Ix.TT_LOG_MASK : Nat := 0x0700

/-- `TT_LOG_SEL`. -/
def Ix.TT_LOG_SEL : Nat := 0x0701

/-- `TT_LOG_ENTRY_k`. -/
def Ix.TT_LOG_ENTRY (n : Nat) : Nat := 0x0702 + n

/-- `TT_LOG_COUNT`. -/
def Ix.TT_LOG_COUNT : Nat := 0x0708

/-- `BN_STATUS`. -/
def Ix.BN_STATUS : Nat := 0x0800

/-- `BN_LOAD_ERR`. -/
def Ix.BN_LOAD_ERR : Nat := 0x0801

/-- `BN_SIGNALS`. -/
def Ix.BN_SIGNALS : Nat := 0x0802

/-- `BN_WORK`. -/
def Ix.BN_WORK : Nat := 0x0803

/-- `BN_SAT_COUNT`. -/
def Ix.BN_SAT_COUNT : Nat := 0x0804

/-- `BN_SIG_SEL`. -/
def Ix.BN_SIG_SEL : Nat := 0x0805

/-- `BN_SIG_VALUE`. -/
def Ix.BN_SIG_VALUE : Nat := 0x0806

/-- `BN_SIG_INFO`. -/
def Ix.BN_SIG_INFO : Nat := 0x0807

/-- `BN_Ln_CFG`. -/
def Ix.BN_L_CFG (n : Nat) : Nat := 0x0900 + 16 * n

/-- `BN_Ln_TICKS`. -/
def Ix.BN_L_TICKS (n : Nat) : Nat := 0x0901 + 16 * n

/-- `BN_Ln_EVALS`. -/
def Ix.BN_L_EVALS (n : Nat) : Nat := 0x0902 + 16 * n

/-- `BN_Ln_SKIPS`. -/
def Ix.BN_L_SKIPS (n : Nat) : Nat := 0x0903 + 16 * n

/-- `BN_Ln_TIME_MAX`. -/
def Ix.BN_L_TIME_MAX (n : Nat) : Nat := 0x0904 + 16 * n

/-- `BN_Ln_COST`. -/
def Ix.BN_L_COST (n : Nat) : Nat := 0x0905 + 16 * n

/-- `BN_Ln_STATE`. -/
def Ix.BN_L_STATE (n : Nat) : Nat := 0x0906 + 16 * n

/-- `BN_TUNE_k`. -/
def Ix.BN_TUNE (n : Nat) : Nat := 0x0A00 + n

/-- `BN_HOST_k`. -/
def Ix.BN_HOST (n : Nat) : Nat := 0x0A40 + n

/-- `HS_CFG_n`. -/
def Ix.HS_CFG (n : Nat) : Nat := 0x0C00 + n

/-- `HS_PWM_n`. -/
def Ix.HS_PWM (n : Nat) : Nat := 0x0C40 + n

/-- `HS_STATUS_n`. -/
def Ix.HS_STATUS (n : Nat) : Nat := 0x0C80 + n

/-- `HS_CURRENT_n`. -/
def Ix.HS_CURRENT (n : Nat) : Nat := 0x0CC0 + n

/-- `HS_DUTY_n`. -/
def Ix.HS_DUTY (n : Nat) : Nat := 0x0D00 + n

/-- `HS_TEMP_n`. -/
def Ix.HS_TEMP (n : Nat) : Nat := 0x0D40 + n

/-- `HS_COUNTS_n`. -/
def Ix.HS_COUNTS (n : Nat) : Nat := 0x0D80 + n

/-- `HS_LATCHED_LO`. -/
def Ix.HS_LATCHED_LO : Nat := 0x0E00

/-- `HS_LATCHED_HI`. -/
def Ix.HS_LATCHED_HI : Nat := 0x0E01

/-- `HS_SUPPLY_BAND`. -/
def Ix.HS_SUPPLY_BAND : Nat := 0x0E02

/-- `HS_SENSE`. -/
def Ix.HS_SENSE : Nat := 0x0E03

/-- `HS_FORCE_n`. -/
def Ix.HS_FORCE (n : Nat) : Nat := 0x0E40 + n

/-- `HS_PROF0_w0`. -/
def Ix.HS_PROF0_w0 : Nat := 0x0F00

/-- `HS_PROF0_w1`. -/
def Ix.HS_PROF0_w1 : Nat := 0x0F01

/-- `HS_PROF0_w2`. -/
def Ix.HS_PROF0_w2 : Nat := 0x0F02

/-- `HS_PROF0_w3`. -/
def Ix.HS_PROF0_w3 : Nat := 0x0F03

/-- `HS_PROF0_w4`. -/
def Ix.HS_PROF0_w4 : Nat := 0x0F04

/-- `HS_PROF0_w5`. -/
def Ix.HS_PROF0_w5 : Nat := 0x0F05

/-- `HS_PROF1_w0`. -/
def Ix.HS_PROF1_w0 : Nat := 0x0F10

/-- `HS_PROF1_w1`. -/
def Ix.HS_PROF1_w1 : Nat := 0x0F11

/-- `HS_PROF1_w2`. -/
def Ix.HS_PROF1_w2 : Nat := 0x0F12

/-- `HS_PROF1_w3`. -/
def Ix.HS_PROF1_w3 : Nat := 0x0F13

/-- `HS_PROF1_w4`. -/
def Ix.HS_PROF1_w4 : Nat := 0x0F14

/-- `HS_PROF1_w5`. -/
def Ix.HS_PROF1_w5 : Nat := 0x0F15

/-- `HS_PROF2_w0`. -/
def Ix.HS_PROF2_w0 : Nat := 0x0F20

/-- `HS_PROF2_w1`. -/
def Ix.HS_PROF2_w1 : Nat := 0x0F21

/-- `HS_PROF2_w2`. -/
def Ix.HS_PROF2_w2 : Nat := 0x0F22

/-- `HS_PROF2_w3`. -/
def Ix.HS_PROF2_w3 : Nat := 0x0F23

/-- `HS_PROF2_w4`. -/
def Ix.HS_PROF2_w4 : Nat := 0x0F24

/-- `HS_PROF2_w5`. -/
def Ix.HS_PROF2_w5 : Nat := 0x0F25

/-- `HS_PROF3_w0`. -/
def Ix.HS_PROF3_w0 : Nat := 0x0F30

/-- `HS_PROF3_w1`. -/
def Ix.HS_PROF3_w1 : Nat := 0x0F31

/-- `HS_PROF3_w2`. -/
def Ix.HS_PROF3_w2 : Nat := 0x0F32

/-- `HS_PROF3_w3`. -/
def Ix.HS_PROF3_w3 : Nat := 0x0F33

/-- `HS_PROF3_w4`. -/
def Ix.HS_PROF3_w4 : Nat := 0x0F34

/-- `HS_PROF3_w5`. -/
def Ix.HS_PROF3_w5 : Nat := 0x0F35

/-- `HS_PROF4_w0`. -/
def Ix.HS_PROF4_w0 : Nat := 0x0F40

/-- `HS_PROF4_w1`. -/
def Ix.HS_PROF4_w1 : Nat := 0x0F41

/-- `HS_PROF4_w2`. -/
def Ix.HS_PROF4_w2 : Nat := 0x0F42

/-- `HS_PROF4_w3`. -/
def Ix.HS_PROF4_w3 : Nat := 0x0F43

/-- `HS_PROF4_w4`. -/
def Ix.HS_PROF4_w4 : Nat := 0x0F44

/-- `HS_PROF4_w5`. -/
def Ix.HS_PROF4_w5 : Nat := 0x0F45

/-- `HS_PROF5_w0`. -/
def Ix.HS_PROF5_w0 : Nat := 0x0F50

/-- `HS_PROF5_w1`. -/
def Ix.HS_PROF5_w1 : Nat := 0x0F51

/-- `HS_PROF5_w2`. -/
def Ix.HS_PROF5_w2 : Nat := 0x0F52

/-- `HS_PROF5_w3`. -/
def Ix.HS_PROF5_w3 : Nat := 0x0F53

/-- `HS_PROF5_w4`. -/
def Ix.HS_PROF5_w4 : Nat := 0x0F54

/-- `HS_PROF5_w5`. -/
def Ix.HS_PROF5_w5 : Nat := 0x0F55

/-- `HS_PROF6_w0`. -/
def Ix.HS_PROF6_w0 : Nat := 0x0F60

/-- `HS_PROF6_w1`. -/
def Ix.HS_PROF6_w1 : Nat := 0x0F61

/-- `HS_PROF6_w2`. -/
def Ix.HS_PROF6_w2 : Nat := 0x0F62

/-- `HS_PROF6_w3`. -/
def Ix.HS_PROF6_w3 : Nat := 0x0F63

/-- `HS_PROF6_w4`. -/
def Ix.HS_PROF6_w4 : Nat := 0x0F64

/-- `HS_PROF6_w5`. -/
def Ix.HS_PROF6_w5 : Nat := 0x0F65

/-- `HS_PROF7_w0`. -/
def Ix.HS_PROF7_w0 : Nat := 0x0F70

/-- `HS_PROF7_w1`. -/
def Ix.HS_PROF7_w1 : Nat := 0x0F71

/-- `HS_PROF7_w2`. -/
def Ix.HS_PROF7_w2 : Nat := 0x0F72

/-- `HS_PROF7_w3`. -/
def Ix.HS_PROF7_w3 : Nat := 0x0F73

/-- `HS_PROF7_w4`. -/
def Ix.HS_PROF7_w4 : Nat := 0x0F74

/-- `HS_PROF7_w5`. -/
def Ix.HS_PROF7_w5 : Nat := 0x0F75

/-- `HS_PROFu_LIMIT`. -/
def Ix.HS_PROFu_LIMIT (n : Nat) : Nat := 0x0F80 + 16 * n

/-- `HS_PROFu_INRUSH`. -/
def Ix.HS_PROFu_INRUSH (n : Nat) : Nat := 0x0F81 + 16 * n

/-- `HS_PROFu_PULSE`. -/
def Ix.HS_PROFu_PULSE (n : Nat) : Nat := 0x0F82 + 16 * n

/-- `HS_PROFu_OPEN`. -/
def Ix.HS_PROFu_OPEN (n : Nat) : Nat := 0x0F83 + 16 * n

/-- `HS_PROFu_SLEW`. -/
def Ix.HS_PROFu_SLEW (n : Nat) : Nat := 0x0F84 + 16 * n

/-- `HS_PROFu_REACT`. -/
def Ix.HS_PROFu_REACT (n : Nat) : Nat := 0x0F85 + 16 * n

/-- `LSD_CFG_n`. -/
def Ix.LSD_CFG (n : Nat) : Nat := 0x1000 + n

/-- `LSD_PWM_n`. -/
def Ix.LSD_PWM (n : Nat) : Nat := 0x1010 + n

/-- `LSD_STATUS_n`. -/
def Ix.LSD_STATUS (n : Nat) : Nat := 0x1020 + n

/-- `LSD_CURRENT_n`. -/
def Ix.LSD_CURRENT (n : Nat) : Nat := 0x1030 + n

/-- `LSD_DUTY_n`. -/
def Ix.LSD_DUTY (n : Nat) : Nat := 0x1040 + n

/-- `LSD_FORCE_n`. -/
def Ix.LSD_FORCE (n : Nat) : Nat := 0x1050 + n

/-- `LSD_LATCHED`. -/
def Ix.LSD_LATCHED : Nat := 0x1060

/-- `HB_CFG_n`. -/
def Ix.HB_CFG (n : Nat) : Nat := 0x1100 + n

/-- `HB_LOCK_n`. -/
def Ix.HB_LOCK (n : Nat) : Nat := 0x1110 + n

/-- `HB_STATUS_n`. -/
def Ix.HB_STATUS (n : Nat) : Nat := 0x1120 + n

/-- `HB_CURRENT_n`. -/
def Ix.HB_CURRENT (n : Nat) : Nat := 0x1130 + n

/-- `HB_FORCE_n`. -/
def Ix.HB_FORCE (n : Nat) : Nat := 0x1140 + n

/-- `HB_COUNTS_n`. -/
def Ix.HB_COUNTS (n : Nat) : Nat := 0x1150 + n

/-- `HB_LATCHED`. -/
def Ix.HB_LATCHED : Nat := 0x1160

/-- `LED_STR_CFG_s`. -/
def Ix.LED_STR_CFG (n : Nat) : Nat := 0x1200 + n

/-- `LED_STR_ISET_s`. -/
def Ix.LED_STR_ISET (n : Nat) : Nat := 0x1204 + n

/-- `LED_STR_PWM_s`. -/
def Ix.LED_STR_PWM (n : Nat) : Nat := 0x1208 + n

/-- `LED_STR_RATE_s`. -/
def Ix.LED_STR_RATE (n : Nat) : Nat := 0x120C + n

/-- `LED_STR_DIAG_s`. -/
def Ix.LED_STR_DIAG (n : Nat) : Nat := 0x1210 + n

/-- `LED_STR_STATUS_s`. -/
def Ix.LED_STR_STATUS (n : Nat) : Nat := 0x1280 + n

/-- `LED_STR_MASK_s`. -/
def Ix.LED_STR_MASK (n : Nat) : Nat := 0x1284 + n

/-- `LED_STR_CURRENT_s`. -/
def Ix.LED_STR_CURRENT (n : Nat) : Nat := 0x1288 + n

/-- `LED_STR_TEMP_s`. -/
def Ix.LED_STR_TEMP (n : Nat) : Nat := 0x128C + n

/-- `LED_OUTAGE_s`. -/
def Ix.LED_OUTAGE (n : Nat) : Nat := 0x1290 + n

/-- `LED_LATCHED`. -/
def Ix.LED_LATCHED : Nat := 0x1294

/-- `LED_COUNTS_s`. -/
def Ix.LED_COUNTS (n : Nat) : Nat := 0x1298 + n

/-- `LED_FORCE_s`. -/
def Ix.LED_FORCE (n : Nat) : Nat := 0x12A0 + n

/-- `LED_DERATE_s`. -/
def Ix.LED_DERATE (n : Nat) : Nat := 0x1300 + n

/-- `LED_LAMP_TEMP_s`. -/
def Ix.LED_LAMP_TEMP (n : Nat) : Nat := 0x1304 + n

/-- `LED_OVL_SRC_v`. -/
def Ix.LED_OVL_SRC (n : Nat) : Nat := 0x1400 + n

/-- `LED_OVL_MASK_v_s`. -/
def Ix.LED_OVL_MASK (n : Nat) : Nat := 0x1410 + n

/-- `LED_TURN_TIME`. -/
def Ix.LED_TURN_TIME : Nat := 0x1430

/-- `LED_TURN_SEQ`. -/
def Ix.LED_TURN_SEQ : Nat := 0x1431

/-- `LED_CORNER_CFG`. -/
def Ix.LED_CORNER_CFG : Nat := 0x1440

/-- `LED_CORNER_SIG`. -/
def Ix.LED_CORNER_SIG : Nat := 0x1441

/-- `LED_CORNER_LEFT`. -/
def Ix.LED_CORNER_LEFT : Nat := 0x1442

/-- `LED_CORNER_RIGHT`. -/
def Ix.LED_CORNER_RIGHT : Nat := 0x1443

/-- `LED_CORNER_THR`. -/
def Ix.LED_CORNER_THR : Nat := 0x1444

/-- `LED_CORNER_HYST`. -/
def Ix.LED_CORNER_HYST : Nat := 0x1445

/-- `MOT_CFG_b`. -/
def Ix.MOT_CFG (n : Nat) : Nat := 0x1600 + n

/-- `MOT_PWM_b`. -/
def Ix.MOT_PWM (n : Nat) : Nat := 0x1602 + n

/-- `MOT_LIMIT_0`. -/
def Ix.MOT_LIMIT_0 : Nat := 0x1604

/-- `MOT_LIMIT_1`. -/
def Ix.MOT_LIMIT_1 : Nat := 0x1605

/-- `MOT_RAMP_b`. -/
def Ix.MOT_RAMP (n : Nat) : Nat := 0x1606 + n

/-- `MOT_START_b`. -/
def Ix.MOT_START (n : Nat) : Nat := 0x1608 + n

/-- `MOT_SPEED_b`. -/
def Ix.MOT_SPEED (n : Nat) : Nat := 0x160A + n

/-- `MOT_MOTOR_b`. -/
def Ix.MOT_MOTOR (n : Nat) : Nat := 0x160C + n

/-- `MOT_GAIN_b`. -/
def Ix.MOT_GAIN (n : Nat) : Nat := 0x160E + n

/-- `MOT_REV_b`. -/
def Ix.MOT_REV (n : Nat) : Nat := 0x1610 + n

/-- `MOT_STATUS_b`. -/
def Ix.MOT_STATUS (n : Nat) : Nat := 0x1700 + n

/-- `MOT_SPEED_ACT_b`. -/
def Ix.MOT_SPEED_ACT (n : Nat) : Nat := 0x1702 + n

/-- `MOT_IQ_b`. -/
def Ix.MOT_IQ (n : Nat) : Nat := 0x1704 + n

/-- `MOT_RMS_b`. -/
def Ix.MOT_RMS (n : Nat) : Nat := 0x1706 + n

/-- `MOT_TEMP_b`. -/
def Ix.MOT_TEMP (n : Nat) : Nat := 0x1708 + n

/-- `MOT_DEPTH_b`. -/
def Ix.MOT_DEPTH (n : Nat) : Nat := 0x170A + n

/-- `MOT_COUNTS_b`. -/
def Ix.MOT_COUNTS (n : Nat) : Nat := 0x170C + n

/-- `MOT_LATCHED`. -/
def Ix.MOT_LATCHED : Nat := 0x1710

/-- `MOT_SUPPLY`. -/
def Ix.MOT_SUPPLY : Nat := 0x1711

/-- `MOT_FORCE_b`. -/
def Ix.MOT_FORCE (n : Nat) : Nat := 0x1720 + n

/-- `MOT_POS_SCALE_b`. -/
def Ix.MOT_POS_SCALE (n : Nat) : Nat := 0x1800 + n

/-- `MOT_POS_HOME_b`. -/
def Ix.MOT_POS_HOME (n : Nat) : Nat := 0x1802 + n

/-- `MOT_POS_b`. -/
def Ix.MOT_POS (n : Nat) : Nat := 0x1804 + n

/-- `MOT_CAL_CMD`. -/
def Ix.MOT_CAL_CMD : Nat := 0x1810

/-- `MOT_CAL_STATUS`. -/
def Ix.MOT_CAL_STATUS : Nat := 0x1811

/-- `MOT_BR_CFG_h`. -/
def Ix.MOT_BR_CFG (n : Nat) : Nat := 0x1900 + n

/-- `MOT_BR_STATUS_h`. -/
def Ix.MOT_BR_STATUS (n : Nat) : Nat := 0x1902 + n

/-- `IN_SW_CFG_n`. -/
def Ix.IN_SW_CFG (n : Nat) : Nat := 0x1A00 + n

/-- `IN_SW_STATE`. -/
def Ix.IN_SW_STATE : Nat := 0x1A20

/-- `IN_SW_RAW`. -/
def Ix.IN_SW_RAW : Nat := 0x1A21

/-- `IN_SW_PARK_MASK`. -/
def Ix.IN_SW_PARK_MASK : Nat := 0x1A22

/-- `IN_SW_CYCLE`. -/
def Ix.IN_SW_CYCLE : Nat := 0x1A23

/-- `IN_SW_WAKE`. -/
def Ix.IN_SW_WAKE : Nat := 0x1A24

/-- `IN_AN_CFG_n`. -/
def Ix.IN_AN_CFG (n : Nat) : Nat := 0x1A30 + n

/-- `IN_AN_VALUE_n`. -/
def Ix.IN_AN_VALUE (n : Nat) : Nat := 0x1A38 + n

/-- `IN_SSUP_CFG`. -/
def Ix.IN_SSUP_CFG : Nat := 0x1A40

/-- `IN_SSUP_VOLT`. -/
def Ix.IN_SSUP_VOLT : Nat := 0x1A41

/-- `IN_SSUP_STATUS`. -/
def Ix.IN_SSUP_STATUS : Nat := 0x1A42

/-- `IN_FQ_CFG_n`. -/
def Ix.IN_FQ_CFG (n : Nat) : Nat := 0x1A50 + n

/-- `IN_FQ_FREQ_n`. -/
def Ix.IN_FQ_FREQ (n : Nat) : Nat := 0x1A54 + n

/-- `IN_FQ_STATUS`. -/
def Ix.IN_FQ_STATUS : Nat := 0x1A58

/-- `IN_WHEEL`. -/
def Ix.IN_WHEEL : Nat := 0x1A5C

/-- `IN_FQ_TIMEOUT`. -/
def Ix.IN_FQ_TIMEOUT : Nat := 0x1A5D

/-- `IN_ALT_CFG`. -/
def Ix.IN_ALT_CFG : Nat := 0x1A60

/-- `IN_ALT_STATUS`. -/
def Ix.IN_ALT_STATUS : Nat := 0x1A61

/-- `IMU_MOUNT`. -/
def Ix.IMU_MOUNT : Nat := 0x1B00

/-- `IMU_STEER`. -/
def Ix.IMU_STEER : Nat := 0x1B01

/-- `IMU_MOVE`. -/
def Ix.IMU_MOVE : Nat := 0x1B02

/-- `IMU_DWELL`. -/
def Ix.IMU_DWELL : Nat := 0x1B03

/-- `IMU_TAMPER`. -/
def Ix.IMU_TAMPER : Nat := 0x1B04

/-- `IMU_FALL`. -/
def Ix.IMU_FALL : Nat := 0x1B05

/-- `IMU_LEAN_CFG`. -/
def Ix.IMU_LEAN_CFG : Nat := 0x1B06

/-- `IMU_STATUS`. -/
def Ix.IMU_STATUS : Nat := 0x1B07

/-- `IMU_LEAN`. -/
def Ix.IMU_LEAN : Nat := 0x1B08

/-- `IMU_CAL_CMD`. -/
def Ix.IMU_CAL_CMD : Nat := 0x1B09

/-- `IMU_CLEAR`. -/
def Ix.IMU_CLEAR : Nat := 0x1B0A

/-- `TCH_EL_CFG_e`. -/
def Ix.TCH_EL_CFG (n : Nat) : Nat := 0x1C00 + n

/-- `TCH_SCAN`. -/
def Ix.TCH_SCAN : Nat := 0x1C10

/-- `TCH_CAL`. -/
def Ix.TCH_CAL : Nat := 0x1C11

/-- `TCH_CAL_CMD`. -/
def Ix.TCH_CAL_CMD : Nat := 0x1C12

/-- `TCH_TEST_CFG`. -/
def Ix.TCH_TEST_CFG : Nat := 0x1C13

/-- `TCH_TEST_STATUS`. -/
def Ix.TCH_TEST_STATUS : Nat := 0x1C14

/-- `TCH_STATS`. -/
def Ix.TCH_STATS : Nat := 0x1C15

/-- `TCH_CMD_STATUS`. -/
def Ix.TCH_CMD_STATUS : Nat := 0x1C16

/-- `TCH_WAKE_CFG`. -/
def Ix.TCH_WAKE_CFG : Nat := 0x1C20

/-- `TCH_WAKE_TIME`. -/
def Ix.TCH_WAKE_TIME : Nat := 0x1C21

/-- `TCH_WAKE_STATS`. -/
def Ix.TCH_WAKE_STATS : Nat := 0x1C22

/-- `TCH_G_CFG_g`. -/
def Ix.TCH_G_CFG (n : Nat) : Nat := 0x1D00 + n

/-- `TCH_G_SELF_g`. -/
def Ix.TCH_G_SELF (n : Nat) : Nat := 0x1D08 + n

/-- `TCH_G_MUT_g`. -/
def Ix.TCH_G_MUT (n : Nat) : Nat := 0x1D10 + n

/-- `TCH_G_WATER_g`. -/
def Ix.TCH_G_WATER (n : Nat) : Nat := 0x1D18 + n

/-- `TCH_G_TIME_g`. -/
def Ix.TCH_G_TIME (n : Nat) : Nat := 0x1D20 + n

/-- `TCH_G_STATUS_g`. -/
def Ix.TCH_G_STATUS (n : Nat) : Nat := 0x1D28 + n

/-- `TCH_EL_RAW_e`. -/
def Ix.TCH_EL_RAW (n : Nat) : Nat := 0x1D30 + n

/-- `TCH_EL_BASE_e`. -/
def Ix.TCH_EL_BASE (n : Nat) : Nat := 0x1D40 + n

/-- `CHG_CFG`. -/
def Ix.CHG_CFG : Nat := 0x1E00

/-- `CHG_CURRENT`. -/
def Ix.CHG_CURRENT : Nat := 0x1E01

/-- `CHG_INPUT`. -/
def Ix.CHG_INPUT : Nat := 0x1E02

/-- `CHG_LIMITS`. -/
def Ix.CHG_LIMITS : Nat := 0x1E03

/-- `CHG_TIMER`. -/
def Ix.CHG_TIMER : Nat := 0x1E04

/-- `CHG_NTC`. -/
def Ix.CHG_NTC : Nat := 0x1E05

/-- `CHG_TWIN`. -/
def Ix.CHG_TWIN : Nat := 0x1E06

/-- `CHG_BKO_CFG`. -/
def Ix.CHG_BKO_CFG : Nat := 0x1E07

/-- `CHG_SEARCH`. -/
def Ix.CHG_SEARCH : Nat := 0x1E08

/-- `CHG_STATUS`. -/
def Ix.CHG_STATUS : Nat := 0x1E10

/-- `CHG_CELL`. -/
def Ix.CHG_CELL : Nat := 0x1E11

/-- `CHG_SOC`. -/
def Ix.CHG_SOC : Nat := 0x1E12

/-- `CHG_INPUT_ACT`. -/
def Ix.CHG_INPUT_ACT : Nat := 0x1E13

/-- `CHG_TEMP`. -/
def Ix.CHG_TEMP : Nat := 0x1E14

/-- `CHG_FAULTS`. -/
def Ix.CHG_FAULTS : Nat := 0x1E15

/-- `CHG_SVIN`. -/
def Ix.CHG_SVIN : Nat := 0x1E16

/-- `CHG_COUNTS`. -/
def Ix.CHG_COUNTS : Nat := 0x1E17

/-- `CAN_CFG_c`. -/
def Ix.CAN_CFG (n : Nat) : Nat := 0x2000 + 16 * n

/-- `CAN_NBT_c`. -/
def Ix.CAN_NBT (n : Nat) : Nat := 0x2001 + 16 * n

/-- `CAN_DBT_c`. -/
def Ix.CAN_DBT (n : Nat) : Nat := 0x2002 + 16 * n

/-- `CAN_BUSOFF_c`. -/
def Ix.CAN_BUSOFF (n : Nat) : Nat := 0x2003 + 16 * n

/-- `CAN_STAMP_c`. -/
def Ix.CAN_STAMP (n : Nat) : Nat := 0x2004 + 16 * n

/-- `CAN_RECOVER_c`. -/
def Ix.CAN_RECOVER (n : Nat) : Nat := 0x2005 + 16 * n

/-- `CAN_TEST_c`. -/
def Ix.CAN_TEST (n : Nat) : Nat := 0x2006 + 16 * n

/-- `CAN_STATUS_c`. -/
def Ix.CAN_STATUS (n : Nat) : Nat := 0x2100 + 16 * n

/-- `CAN_ERRC_c`. -/
def Ix.CAN_ERRC (n : Nat) : Nat := 0x2101 + 16 * n

/-- `CAN_RX_COUNT_c`. -/
def Ix.CAN_RX_COUNT (n : Nat) : Nat := 0x2102 + 16 * n

/-- `CAN_TX_COUNT_c`. -/
def Ix.CAN_TX_COUNT (n : Nat) : Nat := 0x2103 + 16 * n

/-- `CAN_ERR_COUNT_c`. -/
def Ix.CAN_ERR_COUNT (n : Nat) : Nat := 0x2104 + 16 * n

/-- `CAN_TDC_MEAS_c`. -/
def Ix.CAN_TDC_MEAS (n : Nat) : Nat := 0x2105 + 16 * n

/-- `CAN_TX_STAMP_c`. -/
def Ix.CAN_TX_STAMP (n : Nat) : Nat := 0x2106 + 16 * n

/-- `CAN_TX_ASTAMP_c`. -/
def Ix.CAN_TX_ASTAMP (n : Nat) : Nat := 0x2107 + 16 * n

/-- `CAN_TXB_PEND_LO_c`. -/
def Ix.CAN_TXB_PEND_LO (n : Nat) : Nat := 0x2200 + 16 * n

/-- `CAN_TXB_PEND_HI_c`. -/
def Ix.CAN_TXB_PEND_HI (n : Nat) : Nat := 0x2201 + 16 * n

/-- `CAN_TXB_LAST_c`. -/
def Ix.CAN_TXB_LAST (n : Nat) : Nat := 0x2202 + 16 * n

/-- `CAN_RX_SEL`. -/
def Ix.CAN_RX_SEL : Nat := 0x2300

/-- `CAN_RX_REC_k`. -/
def Ix.CAN_RX_REC (n : Nat) : Nat := 0x2301 + n

/-- `LIN_CFG_l`. -/
def Ix.LIN_CFG (n : Nat) : Nat := 0x2500 + 16 * n

/-- `LIN_SCHED_l`. -/
def Ix.LIN_SCHED (n : Nat) : Nat := 0x2501 + 16 * n

/-- `LIN_STATUS_l`. -/
def Ix.LIN_STATUS (n : Nat) : Nat := 0x2502 + 16 * n

/-- `LIN_ERR_COUNT_l`. -/
def Ix.LIN_ERR_COUNT (n : Nat) : Nat := 0x2503 + 16 * n

/-- `LIN_FRAMES_l`. -/
def Ix.LIN_FRAMES (n : Nat) : Nat := 0x2504 + 16 * n

/-- `NM_CFG_c`. -/
def Ix.NM_CFG (n : Nat) : Nat := 0x2600 + 16 * n

/-- `NM_BASE_c`. -/
def Ix.NM_BASE (n : Nat) : Nat := 0x2601 + 16 * n

/-- `NM_TIME_c`. -/
def Ix.NM_TIME (n : Nat) : Nat := 0x2602 + 16 * n

/-- `NM_IDLE_c`. -/
def Ix.NM_IDLE (n : Nat) : Nat := 0x2603 + 16 * n

/-- `NM_PN_c`. -/
def Ix.NM_PN (n : Nat) : Nat := 0x2604 + 16 * n

/-- `NM_STATUS_c`. -/
def Ix.NM_STATUS (n : Nat) : Nat := 0x2605 + 16 * n

/-- `NM_COUNTS_c`. -/
def Ix.NM_COUNTS (n : Nat) : Nat := 0x2606 + 16 * n

/-- `NM_FROZEN_c`. -/
def Ix.NM_FROZEN (n : Nat) : Nat := 0x2607 + 16 * n

/-- `NM_FALSE_c`. -/
def Ix.NM_FALSE (n : Nat) : Nat := 0x2608 + 16 * n

/-- `NM_WUF_ID_c_f`. -/
def Ix.NM_WUF_ID (n : Nat) : Nat := 0x2640 + 8 * n

/-- `NM_WUF_MASK_c_f`. -/
def Ix.NM_WUF_MASK (n : Nat) : Nat := 0x2641 + 8 * n

/-- `NM_WUF_DATA_LO_c_f`. -/
def Ix.NM_WUF_DATA_LO (n : Nat) : Nat := 0x2642 + 8 * n

/-- `NM_WUF_DATA_HI_c_f`. -/
def Ix.NM_WUF_DATA_HI (n : Nat) : Nat := 0x2643 + 8 * n

/-- `NM_WUF_DLC_c_f`. -/
def Ix.NM_WUF_DLC (n : Nat) : Nat := 0x2644 + 8 * n

/-- `NM_FW_CFG`. -/
def Ix.NM_FW_CFG : Nat := 0x2680

/-- `NM_WAKE_CAUSE`. -/
def Ix.NM_WAKE_CAUSE : Nat := 0x2681

/-- `NM_WAKE_ID`. -/
def Ix.NM_WAKE_ID : Nat := 0x2682

/-- `NM_FW_CLEAR`. -/
def Ix.NM_FW_CLEAR : Nat := 0x2683

/-- `NM_OFF_SEL`. -/
def Ix.NM_OFF_SEL : Nat := 0x2690

/-- `NM_OFF_ENTRY_k`. -/
def Ix.NM_OFF_ENTRY (n : Nat) : Nat := 0x2691 + n

/-- `NM_OFF_COUNT`. -/
def Ix.NM_OFF_COUNT : Nat := 0x2695

/-- `NM_OFF_CLEAR`. -/
def Ix.NM_OFF_CLEAR : Nat := 0x2696

/-- `NM_LIN_CFG_l`. -/
def Ix.NM_LIN_CFG (n : Nat) : Nat := 0x26C0 + 8 * n

/-- `NM_LIN_TIME_l`. -/
def Ix.NM_LIN_TIME (n : Nat) : Nat := 0x26C1 + 8 * n

/-- `NM_LIN_STATUS_l`. -/
def Ix.NM_LIN_STATUS (n : Nat) : Nat := 0x26C2 + 8 * n

/-- `FAB_CFG`. -/
def Ix.FAB_CFG : Nat := 0x2800

/-- `FAB_TIME`. -/
def Ix.FAB_TIME : Nat := 0x2801

/-- `FAB_DOMAIN_TAG`. -/
def Ix.FAB_DOMAIN_TAG : Nat := 0x2802

/-- `FAB_NODE`. -/
def Ix.FAB_NODE : Nat := 0x2803

/-- `FAB_EPOCH`. -/
def Ix.FAB_EPOCH : Nat := 0x2804

/-- `FAB_ROOT_LO`. -/
def Ix.FAB_ROOT_LO : Nat := 0x2805

/-- `FAB_ROOT_HI`. -/
def Ix.FAB_ROOT_HI : Nat := 0x2806

/-- `FAB_ROOT_INFO`. -/
def Ix.FAB_ROOT_INFO : Nat := 0x2807

/-- `FAB_RC_CMD`. -/
def Ix.FAB_RC_CMD : Nat := 0x2808

/-- `FAB_RC_STATS`. -/
def Ix.FAB_RC_STATS : Nat := 0x2809

/-- `FAB_RC_LAST_TIME`. -/
def Ix.FAB_RC_LAST_TIME : Nat := 0x280A

/-- `FAB_ADDR_SEL`. -/
def Ix.FAB_ADDR_SEL : Nat := 0x280B

/-- `FAB_ADDR_REC_LO`. -/
def Ix.FAB_ADDR_REC_LO : Nat := 0x280C

/-- `FAB_ADDR_REC_HI`. -/
def Ix.FAB_ADDR_REC_HI : Nat := 0x280D

/-- `FAB_ADDR_USE`. -/
def Ix.FAB_ADDR_USE : Nat := 0x280E

/-- `FAB_PORT_STATUS_p`. -/
def Ix.FAB_PORT_STATUS (n : Nat) : Nat := 0x2810 + n

/-- `FAB_PORT_COUNTS_p`. -/
def Ix.FAB_PORT_COUNTS (n : Nat) : Nat := 0x2814 + n

/-- `FAB_NBR_LO_p`. -/
def Ix.FAB_NBR_LO (n : Nat) : Nat := 0x2818 + n

/-- `FAB_NBR_HI_p`. -/
def Ix.FAB_NBR_HI (n : Nat) : Nat := 0x281C + n

/-- `FAB_ROUTE_STATS`. -/
def Ix.FAB_ROUTE_STATS : Nat := 0x2900

/-- `FAB_REQ_CFG`. -/
def Ix.FAB_REQ_CFG : Nat := 0x2901

/-- `FAB_REQ_USE`. -/
def Ix.FAB_REQ_USE : Nat := 0x2902

/-- `FAB_REQ_COUNTS`. -/
def Ix.FAB_REQ_COUNTS : Nat := 0x2903

/-- `FAB_ROUTE_SEL`. -/
def Ix.FAB_ROUTE_SEL : Nat := 0x2904

/-- `FAB_ROUTE_PORT`. -/
def Ix.FAB_ROUTE_PORT : Nat := 0x2905

/-- `FAB_STREAM_CFG_p`. -/
def Ix.FAB_STREAM_CFG (n : Nat) : Nat := 0x2910 + n

/-- `FAB_STREAM_STATUS_p`. -/
def Ix.FAB_STREAM_STATUS (n : Nat) : Nat := 0x2914 + n

/-- `FAB_STREAM_COUNTS_p`. -/
def Ix.FAB_STREAM_COUNTS (n : Nat) : Nat := 0x2918 + n

/-- `FAB_DOMAIN_STATUS`. -/
def Ix.FAB_DOMAIN_STATUS : Nat := 0x2A00

/-- `FAB_RELOAD_STATUS`. -/
def Ix.FAB_RELOAD_STATUS : Nat := 0x2A01

/-- `FAB_RELOAD_CMD`. -/
def Ix.FAB_RELOAD_CMD : Nat := 0x2A02

/-- `FAB_EXT_n`. -/
def Ix.FAB_EXT (n : Nat) : Nat := 0x2A10 + n

/-- `HST_CFG`. -/
def Ix.HST_CFG : Nat := 0x2C00

/-- `HST_STATUS`. -/
def Ix.HST_STATUS : Nat := 0x2C01

/-- `HST_IRQ_EN`. -/
def Ix.HST_IRQ_EN : Nat := 0x2C02

/-- `HST_IRQ_CAUSE`. -/
def Ix.HST_IRQ_CAUSE : Nat := 0x2C03

/-- `HST_COUNTS`. -/
def Ix.HST_COUNTS : Nat := 0x2C04

/-- `HST_IMG_NEXT`. -/
def Ix.HST_IMG_NEXT : Nat := 0x2C05

/-- `DIAG_CAN_c`. -/
def Ix.DIAG_CAN (n : Nat) : Nat := 0x2D00 + 16 * n

/-- `DIAG_PHYS_c`. -/
def Ix.DIAG_PHYS (n : Nat) : Nat := 0x2D01 + 16 * n

/-- `DIAG_RESP_c`. -/
def Ix.DIAG_RESP (n : Nat) : Nat := 0x2D02 + 16 * n

/-- `DIAG_FUNC_c`. -/
def Ix.DIAG_FUNC (n : Nat) : Nat := 0x2D03 + 16 * n

/-- `DIAG_TP_c`. -/
def Ix.DIAG_TP (n : Nat) : Nat := 0x2D04 + 16 * n

/-- `DIAG_STATUS`. -/
def Ix.DIAG_STATUS : Nat := 0x2D80

/-- `DIAG_COUNTS`. -/
def Ix.DIAG_COUNTS : Nat := 0x2D81

/-- `FLT_STATUS`. -/
def Ix.FLT_STATUS : Nat := 0x3000

/-- `FLT_SRC_SEL`. -/
def Ix.FLT_SRC_SEL : Nat := 0x3001

/-- `FLT_SRC_STATE`. -/
def Ix.FLT_SRC_STATE : Nat := 0x3002

/-- `FLT_SRC_SEV`. -/
def Ix.FLT_SRC_SEV : Nat := 0x3003

/-- `FLT_SEV_SET`. -/
def Ix.FLT_SEV_SET : Nat := 0x3004

/-- `FLT_CLEAR`. -/
def Ix.FLT_CLEAR : Nat := 0x3005

/-- `FLT_COLLECT_PRIV`. -/
def Ix.FLT_COLLECT_PRIV : Nat := 0x3006

/-- `FLT_WATCH_k`. -/
def Ix.FLT_WATCH (n : Nat) : Nat := 0x3010 + n

/-- `FLT_LOG_SEL`. -/
def Ix.FLT_LOG_SEL : Nat := 0x3100

/-- `FLT_LOG_ENTRY_k`. -/
def Ix.FLT_LOG_ENTRY (n : Nat) : Nat := 0x3101 + n

/-- `FLT_LOG_COUNT`. -/
def Ix.FLT_LOG_COUNT : Nat := 0x3111

/-- `FLT_LOG_SEQ`. -/
def Ix.FLT_LOG_SEQ : Nat := 0x3112

/-- `FLT_LOG_USE`. -/
def Ix.FLT_LOG_USE : Nat := 0x3113

/-- `RC_STATUS`. -/
def Ix.RC_STATUS : Nat := 0x3400

/-- `RC_REASON`. -/
def Ix.RC_REASON : Nat := 0x3401

/-- `RC_FLASH_BANK`. -/
def Ix.RC_FLASH_BANK : Nat := 0x3402

/-- `RC_FLASH_DATA`. -/
def Ix.RC_FLASH_DATA : Nat := 0x3403

/-- `RC_CELL`. -/
def Ix.RC_CELL : Nat := 0x3404

/-- `RC_LIMITS`. -/
def Ix.RC_LIMITS : Nat := 0x3405

/-- `RC_CYC_i`. -/
def Ix.RC_CYC (n : Nat) : Nat := 0x3410 + n

/-- `RC_SHORT_i`. -/
def Ix.RC_SHORT (n : Nat) : Nat := 0x3440 + n

/-- `RC_DRIFT_e`. -/
def Ix.RC_DRIFT (n : Nat) : Nat := 0x3470 + n

/-- `SEC_STATUS`. -/
def Ix.SEC_STATUS : Nat := 0x3500

/-- `SEC_CFG`. -/
def Ix.SEC_CFG : Nat := 0x3501

/-- `SEC_SIGNER_SEL`. -/
def Ix.SEC_SIGNER_SEL : Nat := 0x3502

/-- `SEC_SIGNER_ID`. -/
def Ix.SEC_SIGNER_ID : Nat := 0x3503

/-- `SEC_SIGNER_STATE`. -/
def Ix.SEC_SIGNER_STATE : Nat := 0x3504

/-- `SEC_REVOKE_VER`. -/
def Ix.SEC_REVOKE_VER : Nat := 0x3505

/-- `SEC_FLOOR`. -/
def Ix.SEC_FLOOR : Nat := 0x3506

/-- `SEC_ADOPT`. -/
def Ix.SEC_ADOPT : Nat := 0x3507

/-- `SEC_AUTH_COUNTS`. -/
def Ix.SEC_AUTH_COUNTS : Nat := 0x3508

/-- `SEC_CERT`. -/
def Ix.SEC_CERT : Nat := 0x3509

/-- `SEC_ACMD_CFG_k`. -/
def Ix.SEC_ACMD_CFG (n : Nat) : Nat := 0x3510 + n

/-- `SEC_ACMD_ID_k`. -/
def Ix.SEC_ACMD_ID (n : Nat) : Nat := 0x3520 + n

/-- `SEC_ACMD_FV_k`. -/
def Ix.SEC_ACMD_FV (n : Nat) : Nat := 0x3530 + n

/-- `SEC_ACMD_COUNT_k`. -/
def Ix.SEC_ACMD_COUNT (n : Nat) : Nat := 0x3540 + n

/-- `LC_STATE`. -/
def Ix.LC_STATE : Nat := 0x3600

/-- `LC_LAST`. -/
def Ix.LC_LAST : Nat := 0x3601

/-- `LC_OWNER_CODE_k`. -/
def Ix.LC_OWNER_CODE (n : Nat) : Nat := 0x3602 + n

/-- `LC_OWNER_CMD`. -/
def Ix.LC_OWNER_CMD : Nat := 0x3606

/-- `LC_OWNER_STATUS`. -/
def Ix.LC_OWNER_STATUS : Nat := 0x3607

/-- `LC_TEST_PORT`. -/
def Ix.LC_TEST_PORT : Nat := 0x3608

/-- `UPD_STATE`. -/
def Ix.UPD_STATE : Nat := 0x3700

/-- `UPD_BUNCH_ID`. -/
def Ix.UPD_BUNCH_ID : Nat := 0x3701

/-- `UPD_PROGRESS`. -/
def Ix.UPD_PROGRESS : Nat := 0x3702

/-- `UPD_CFG`. -/
def Ix.UPD_CFG : Nat := 0x3703

/-- `UPD_CAN_c`. -/
def Ix.UPD_CAN (n : Nat) : Nat := 0x3704 + n

/-- `UPD_LIN_l`. -/
def Ix.UPD_LIN (n : Nat) : Nat := 0x3707 + n

/-- `UPD_SECVER`. -/
def Ix.UPD_SECVER : Nat := 0x3709

/-- `UPD_COUNTS`. -/
def Ix.UPD_COUNTS : Nat := 0x370A

/-- `UPD_LAST`. -/
def Ix.UPD_LAST : Nat := 0x370B

/-- `UPD_CMD`. -/
def Ix.UPD_CMD : Nat := 0x370C

/-- `UPD_COPY`. -/
def Ix.UPD_COPY : Nat := 0x370D

/-- `UPD_STORE`. -/
def Ix.UPD_STORE : Nat := 0x370E

/-- `UPD_DEADLINE`. -/
def Ix.UPD_DEADLINE : Nat := 0x370F

/-- `UPD_BITMAP_SEL`. -/
def Ix.UPD_BITMAP_SEL : Nat := 0x3710

/-- `UPD_BITMAP_WORD`. -/
def Ix.UPD_BITMAP_WORD : Nat := 0x3711

end Sys2Proof.Machine
end

