-- ==== Sys2Proof/Config.lean ====
section
/-!
DEFINITION. What an implementation fixes and what the spec leaves open: every constant here is opaque, so no proof can
see its value and a statement holds for every value.
-/
namespace Sys2Proof.Config

/-- A free value (assumption log 2): the value the spec does not state, numbered by the model's own counter. -/
opaque freeValue : Nat → Word

/-- SHA-256 of FIPS 180-4, uninterpreted (assumption log 3). -/
opaque sha256 : List Byte → List Byte

/-- ECDSA P-256 verification of FIPS 186-5: public key, message, r and s (assumption log 3). -/
opaque ecdsaVerify : List Byte → List Byte → List Byte → Bool

/-- ECDSA P-256 signature by a private key (assumption log 3). -/
opaque ecdsaSign : List Byte → List Byte → List Byte

/-- AES-CMAC of a message under a key (assumption log 3). -/
opaque aesCmac : List Byte → List Byte → List Byte

/-- AES-128 decryption of one block under a key (assumption log 3). -/
opaque aesDecrypt : List Byte → List Byte → List Byte

/-- The public key of a private ECDSA P-256 key (assumption log 3). -/
opaque publicKey : List Byte → List Byte

/-- The key that a transition generates from its intent's seed: 1 DEVICE, 2 TRANSPORT (R498; assumption log 3). -/
opaque deriveKey : List Byte → Nat → List Byte

/-- The output of the DRBG (R505) at its request number: `drbg n k` is `k` bytes (assumption log 3). -/
opaque drbg : Nat → Nat → List Byte

/-- Sine of an angle in 0.01°: the spec states no precision (assumption log 15). -/
opaque sine : Int → Rat
/-- Cosine of an angle in 0.01° (assumption log 15). -/
opaque cosine : Int → Rat
/-- The angle in 0.01° whose tangent is the quotient, by the signs of both (assumption log 15). -/
opaque arctan : Rat → Rat → Int
/-- The angle in 0.01° between two vectors (assumption log 15). -/
opaque angleBetween : Int × Int × Int → Int × Int × Int → Nat

/-- The VENDOR_ROOT public key fixed in ROM (R477). -/
opaque vendorRoot : List Byte

/-- The serial number of the device (R26, "Per device"). -/
opaque serial : BitVec 64

/-- The firmware version of the recovery image (R533). -/
opaque recoveryVersion : Word

/-- The firmware version and security version of Bank A as the part is delivered (assumption log 21). -/
opaque factoryVersion : Word
/-- Security version of Bank A as delivered (assumption log 21). -/
opaque factorySec : Nat
/-- The bytes of Bank A as delivered, which COPY operations read (assumption log 21). -/
opaque factoryByte : Nat → Byte

/-- The firmware versions that the certificate lists (R506). -/
opaque certLists : Word → Bool

/-- A PROVISION package's signature under VENDOR_ROOT: maker key, MAKER_ID, signature; its layout is not stated
(assumption log 22). -/
opaque provisionSigned : List Byte → Nat → List Byte → Bool

end Sys2Proof.Config
end

