-- ==== Sys2Proof/Machine/State.lean ====
section
/-!
DEFINITION. The state of the CB7 block as plain data, the reasons a step can stop, and the state right after reset.
Chapter references are to the files of spec/; INVENTORY.md lists every piece with its rule and reset value.
-/
namespace Sys2Proof.Machine

/-! ## Modes, power and life cycle (00_scope.md, 04, 05, 20) -/

/-- The operating modes with their codes PARK 0, WATCH 1, RIDE 2, WORKSHOP 3. -/
inductive Mode where
  | park | watch | ride | workshop
  deriving DecidableEq, Repr

/-- The power states with their codes RUN 0 to OFF 5 (R100). -/
inductive Power where
  | run | doze | standby | retain | deep | off
  deriving DecidableEq, Repr

/-- The life-cycle states in their forward order (Table 0-5). -/
inductive Life where
  | blank | maker | field | returned | scrapped
  deriving DecidableEq, Repr

/-- The state of one processor (SYS_PROC_STATE, R26). -/
inductive Proc where
  | off | loading | running | halted
  deriving DecidableEq, Repr

/-- The five processors and the application pair's stop history (R21–R25). -/
structure Procs where
  principal : Proc
  app : Proc
  motor : Proc
  park : Proc
  fabric : Proc
  /-- Instants of the pair's stops within the last 600 s, newest first (R23). -/
  stops : List Nat
  deriving DecidableEq, Repr

/-- The mode manager (R82–R99). -/
structure Modes where
  mode : Mode
  prev : Mode
  /-- Row of Table 4-2 last taken, 0 at start. -/
  row : Nat
  /-- The WORKSHOP requester and the instant of its last request (Table 4-2 row 1). -/
  wsBy : Option Requester
  wsAt : Nat
  /-- Requests waiting for the next evaluation: enter by a requester, and exit. -/
  wsEnter : Option Requester
  wsExit : Bool
  /-- Instant of the last evaluation that refused a WORKSHOP request (row 5 guard). -/
  wsRefused : Option Nat
  /-- PARK entry between row 5 and step 4 of R91, with the instant row 5 was taken. -/
  entering : Option Nat
  /-- A PARK announcement was sent (root) or received (member) for the present entry (R91, R92). -/
  announced : Bool
  /-- FOLLOW_ROOT members: the domain root is in RIDE (R83). -/
  rootRide : Bool
  /-- Stay-awake bit 8: a member whose root has not announced PARK (R92). -/
  rootAwake : Bool
  /-- Stay-awake bit 9: the members that have not reported PARK (R92). -/
  membersAwake : List Nat
  /-- Instant of the last transition, none before the first of a start (R82, row 2 after row 1). -/
  took : Option Nat
  /-- Instant of the last cancelled PARK entry, from which the delay of row 5 runs again (R96). -/
  cancelled : Nat
  deriving DecidableEq, Repr

/-- Since when the conditions with a dwell hold (Table 4-2, R92, R529); none while they do not, and while the mode manager does not
run. -/
structure Dwells where
  /-- The ignition request is true, and false. -/
  ignOn : Option Nat
  ignOff : Option Nat
  /-- The stay-awake set that row 5 judges is empty. -/
  empty : Option Nat
  /-- The vehicle is not stationary. -/
  moved : Option Nat
  /-- A member has no link to its root. -/
  unlinked : Option Nat
  /-- The wheels and the crank let a gyro zero attempt go on (R273). -/
  resting : Option Nat
  deriving DecidableEq, Repr

/-- The wake order of R110 in progress: the attempt's step, failures and backoff. -/
structure Waking where
  /-- Step W0 to W5 in progress. -/
  wstep : Nat
  /-- Instant at which W2 of the attempt starts. -/
  from_ : Nat
  /-- Failed attempts of the present set (R112). -/
  fails : Nat
  /-- Backoff of the present set in ms. -/
  backoff : Nat
  /-- Waiting for the backoff to end, since an instant. -/
  waiting : Option Nat
  deriving DecidableEq, Repr

/-- The header of the retention list (R113–R115, Table 5-7): the saved copy of each block is kept in its consumer's state, and the
block map says which blocks the RAM holds. That a block's CRC-32 no longer matches is an input of the next start. -/
structure RetHeader where
  valid : Bool
  /-- SHA-256 of the configuration in force at the save. -/
  sha : List Byte
  /-- Block map: true for a block still held (RETAIN blocks are lost at an escalation, R117). -/
  map : List Bool
  /-- The block "mode and row taken at PARK entry". -/
  mode : Mode
  row : Nat
  deriving DecidableEq, Repr

/-- The power manager and park engine (R100–R121). -/
structure PowerS where
  pw : Power
  /-- Armed wake source codes (Table 5-5). -/
  armed : List Nat
  /-- Wake source latched (R120). -/
  cause : Option Nat
  waking : Option Waking
  /-- Park state entered, escalation, RTC time at park entry, instant of the wake source firing. -/
  parked : Option Power
  escalated : Bool
  parkRtc : Nat
  parkAt : Nat
  wakeAt : Nat
  /-- Failed attempts and brown-out aborts before the coming start (PWR_WAKE_STATS). -/
  failTotal : Nat
  abortTotal : Nat
  /-- VBATP stayed below PWR_DEEP_VBAT_LO for the low dwell since PARK entry (R109). -/
  wasLow : Bool
  /-- A brown-out holds the part in reset (Table 5-8). -/
  brownOut : Bool
  /-- PWR_BROWNOUT is reported at the coming start (Table 5-8). -/
  brownDue : Bool
  /-- The RTC: seconds since 2000 at an instant, none while invalid after OFF (R482). -/
  rtc : Option (Nat × Nat)
  /-- Supply and resets: TST_RSTN held low (R503). -/
  rstHeld : Bool
  /-- Since when the present RUN or STANDBY stretch of WATCH runs, and the base periods of each since the last read
  (PWR_WATCH_RUN, PWR_WATCH_STBY). -/
  since : Nat
  watchRun : Nat
  watchStby : Nat
  deriving DecidableEq, Repr

/-! ## Transactions (03) -/

/-- The life of a transaction (R66–R80). -/
inductive TxnSt where
  | idle | opened | sealed
  deriving DecidableEq, Repr

/-- One staged write: index, value, and whether R68 lets it take effect. -/
structure Staged where
  idx : Nat
  val : Word
  eff : Bool
  deriving DecidableEq, Repr

/-- The one transaction (R66–R80). -/
structure Txn where
  st : TxnSt
  owner : Option Requester
  staged : List Staged
  /-- Inactivity limit in ms taken at TXN_BEGIN, and the instant of the owner's last operation (R78). -/
  limit : Nat
  lastOp : Nat
  /-- Handle slot and generation of the commit event while SEALED. -/
  handle : Option (Nat × Nat)
  /-- The commit's clock code and due value while SEALED (TXN_DUE). -/
  due : Option CommitAt
  deriving DecidableEq, Repr

/-! ## Faults and the Report Card (19) -/

/-- The state of one fault ID and instance (R451, R452). -/
structure FaultSrc where
  id : Nat
  inst : Nat
  active : Bool
  /-- Severity applied at its last evaluation. -/
  sev : Nat
  reports : Nat
  last : Nat
  /-- Reported at WARN or higher while active: a clear entry is due (R462). -/
  warned : Bool
  deriving DecidableEq, Repr

/-- A DTC record (R463). -/
structure Dtc where
  id : Nat
  inst : Nat
  pending : Bool
  confirmed : Bool
  failedSince : Bool
  /-- Highest severity confirmed. -/
  sev : Nat
  count : Nat
  firstRtc : Nat
  lastRtc : Nat
  lastAt : Nat
  deriving DecidableEq, Repr

/-- A detection that waits for the first LESSON_TICK (R456): its source, its freeze words, and whether its condition has ended since. -/
structure Deferred where
  id : Nat
  inst : Nat
  freeze : List Word
  ended : Bool
  deriving DecidableEq, Repr

/-- Raise history of one fault ID for R462. -/
structure RaiseRec where
  id : Nat
  at_ : List Nat
  suppressed : Nat
  deriving DecidableEq, Repr

/-- The wear record of one power stage (R467). -/
structure Stage where
  valley : Int
  peak : Int
  armed : Bool
  /-- The first reading after a start sets the valley. -/
  fresh : Bool
  units : Nat
  shorts : Nat
  deriving DecidableEq, Repr

/-- The fault collector and the Report Card (R451–R473). -/
structure FaultS where
  srcs : List FaultSrc
  /-- Severity overrides: ID and the severities in PARK, WATCH, RIDE, WORKSHOP (R454, R455). -/
  sevs : List (Nat × List Nat)
  limp : Bool
  safe : Bool
  dtcs : List Dtc
  frozen : Bool
  /-- SRAM buffer, newest last, each of 16 words; and the instant its oldest entry arrived. -/
  buf : List (List Word)
  bufAt : Nat
  /-- Flash ring of 4,096 entries, newest last. -/
  flash : List (List Word)
  seq : Nat
  raises : List RaiseRec
  lost : Nat
  /-- Detections made in PARK or before step 6, applied at the first LESSON_TICK (R456). -/
  deferred : List Deferred
  stages : List Stage
  /-- Accumulators as last written to flash, and the instant of that write (R469). -/
  stagesFlash : List Stage
  cardAt : Nat
  /-- Erases of the most erased block of Bank A and of Bank S, and the erase count of the worst Data sector (R468, assumption
  log 32). -/
  eraseA : Nat
  eraseS : Nat
  eraseData : Nat
  /-- Learned capacity and drifts. -/
  reqCtl : Bool
  reqCtlAt : Nat
  reqCell : Bool
  reqEl : Bool
  /-- Degraded operation by the Report Card is in force (R471), and due at the next exit from RIDE. -/
  degraded : Bool
  degradePending : Bool
  /-- Metrics at their warn level (RC_STATUS[13:8]). -/
  warn : List Bool
  /-- Starts since manufacture (log word 6). -/
  starts : Nat
  /-- A LIMP or SAFE reaction made WORKSHOP forcing act as release (R174, Table 19-4): the services have yet to follow. -/
  unforced : Bool
  deriving DecidableEq, Repr

/-! ## Timetable (06) -/

/-- Phase clock states (Table 6-2). -/
inductive PcSt where
  | unbound | stopped | acquiring | tracking | coasting | lost
  deriving DecidableEq, Repr

/-- A phase clock and its estimator (R122–R127, R591). Positions count angle units without wrap; the angle and the
revolution a reader sees are the position modulo 65,536 and its quotient modulo 65,536. -/
structure PhaseClock where
  st : PcSt
  /-- Position the clock shows at least (R126): frozen, at the base instant of coasting, or at the last mark. -/
  pos : Nat
  /-- Instant at which `pos` was reached. -/
  posAt : Nat
  /-- Base instant of the coasting position. -/
  base : Nat
  /-- Position and instant of the entry into COASTING, instant of the entry into LOST. -/
  coastFrom : Nat
  entryAt : Nat
  /-- The newest marks as (position, instant), newest first, at most three. -/
  marks : List (Nat × Nat)
  /-- Rate w (angle units per base period) and acceleration g (R124). -/
  w : Rat
  g : Rat
  /-- Distance from the last mark to the next expected one. -/
  next : Nat
  lastMark : Nat
  /-- Missing-mark timing starts here (R125, R147). -/
  missFrom : Nat
  /-- Has tracked since the start (R127); a rate seeded for acquisition (R591). -/
  tracked : Bool
  seed : Option Rat
  /-- Acquisition: the last mark taken as (angle, instant) since a reference, and the good marks so far. -/
  acq : Option (Nat × Nat)
  good : Nat
  /-- Frozen since an instant (STANDBY, R147). -/
  froze : Option Nat
  /-- Edges of a wheel source since the clock last left STOPPED or LOST (R263). -/
  edges : Nat
  deriving DecidableEq, Repr

/-- An event in its slot (R128). `spec.due` is the due value as posted; `due` is the due instant on FREE, or the due
position of its clock, without wrap. -/
structure Event where
  slot : Nat
  gen : Nat
  shared : Bool
  spec : EventSpec
  due : Nat
  left : Nat
  committed : Bool
  /-- Committed instant (R136). -/
  commitAt : Nat
  /-- Posting order (R130). -/
  order : Nat
  /-- Later firings were cancelled after TOO_LATE (R142). -/
  stop : Bool
  /-- Held over a loss with its due value reached (R145 HOLD): its firing is logged LATE. -/
  late : Bool
  deriving DecidableEq, Repr

/-- Who posted a group that waits, so that its handles reach the service's record when a retry succeeds: nothing to record, a
channel's single OUT_SET, duty, period or flash, the blink cycle, the sampling series of a conversion list. -/
inductive Poster where
  | plain
  | single (c : Ch)
  | duty (c : Ch)
  | period (c : Ch)
  | flash (c : Ch)
  | cycle
  | series (list : Nat)
  deriving DecidableEq, Repr

/-- The repeating ADC_SAMPLE event of a conversion list, and the revolution of the sense clock in which its spacing was chosen
(R181). -/
structure Series where
  list : Nat
  handle : Nat × Nat
  rev : Nat
  deriving DecidableEq, Repr

/-- A group refused with TT_FULL that its service retries (R140): the events, the poster, and the instant of the first attempt. -/
structure Waiting where
  group : List EventSpec
  by_ : Poster
  since : Nat
  deriving DecidableEq, Repr

/-- The Timetable (R122–R149). -/
structure Timetable where
  clocks : Vector PhaseClock 8
  events : List Event
  /-- Generation of each slot used so far. -/
  gens : List (Nat × Nat)
  posts : Nat
  /-- Event log ring of 256 entries of six words, newest last (R149). -/
  log : List (List Word)
  freeHi : Word
  /-- First base period in which the engine may fire again: it fires one event per base period (R130). -/
  nextFire : Nat
  /-- Highest use of each pool since start (TT_POOL_USE). -/
  high : List Nat
  /-- Result of the last post or cancel: status and handle of each event (R133). -/
  status : Nat
  handles : List (Nat × Nat)
  /-- Posts refused with TT_FULL that their service retries (R140), oldest first. -/
  waiting : List Waiting
  /-- The sampling series of the services (R181, R215, R259, R281). -/
  series : List Series
  deriving DecidableEq, Repr


/-! ## Behaviour network (07) -/

/-- A lesson entry (Table 7-5). -/
structure LessonCfg where
  clock : Nat
  modes : Nat
  fallback : Nat
  period : Nat
  phase : Nat
  minPeriod : Nat
  deriving DecidableEq, Repr

/-- A signal entry (Table 7-6). -/
structure SignalCfg where
  typ : Nat
  retain : Bool
  kind : Nat
  index : Nat
  init : Word
  deriving DecidableEq, Repr

/-- A block entry (Table 7-7). -/
structure BlockCfg where
  typ : Nat
  lesson : Nat
  nin : Nat
  out : Nat
  ins : List Nat
  p0 : Word
  p1 : Word
  deriving DecidableEq, Repr

/-- The NETWORK section (R153). -/
structure NetworkCfg where
  lessons : List LessonCfg
  signals : List SignalCfg
  blocks : List BlockCfg
  consts : List Word
  deriving DecidableEq, Repr

/-- What a signal holds: published value, stale flag, restored at this start (R151, R164). -/
structure Sig where
  val : Word
  stale : Bool
  restored : Bool
  deriving DecidableEq, Repr

/-- The memory of one block (R154): its last output, previous inputs, a stored word or instant, and timers. -/
structure BlockSt where
  out : Word
  /-- Has been evaluated since the start. -/
  ran : Bool
  prev : List Word
  /-- DELAY store or LATCH, COUNT state. -/
  store : Word
  /-- Instants (1 µs count) used by HYST, TON, TOF, PULSE, BLINK. -/
  t0 : Option Nat
  t1 : Option Nat
  deriving DecidableEq, Repr

/-- A lesson while it runs (R155–R158). -/
structure LessonSt where
  evaluated : Bool
  /-- 1 µs count of the last evaluation. -/
  last : Nat
  fallback : Bool
  /-- Slot and generation of its LESSON_TICK event. -/
  handle : Option (Nat × Nat)
  /-- Publications waiting for their instant: instant, signal, value (R160). -/
  pubs : List (Nat × Nat × Word)
  deriving DecidableEq, Repr

/-- The behaviour network (R150–R166). -/
structure Network where
  cfg : NetworkCfg
  sigs : List Sig
  blocks : List BlockSt
  lessons : Vector LessonSt 16
  /-- Last value handed by each sink, by block number (R162). -/
  handed : List (Nat × Word)
  /-- Signal instants of host words: written since the last host port reset (R163). -/
  hostWritten : List Nat
  running : Bool
  /-- Start tick instant T0 (R156). -/
  t0 : Nat
  deriving DecidableEq, Repr

/-! ## Load switches (08) -/

/-- Channel states (Table 8-6). -/
inductive ChSt where
  | off | inrush | on | tripped | latched | dropped
  deriving DecidableEq, Repr

/-- Trip causes (HS_STATUS[7:4]). -/
inductive Trip where
  | none | short | overload | thermal
  deriving DecidableEq, Repr

/-- An action channel: HS, LS or HB (R167–R192). -/
structure Channel where
  st : ChSt
  /-- Drive of the output: 0 off, 1 on or forward, 2 reverse, 3 brake. -/
  drive : Nat
  /-- The request in force: state 0–3 from its sink, and the duty of a DUTY sink. -/
  req : Nat
  reqDuty : Option Nat
  /-- Instant of the sink's last change of value (R191). -/
  changedAt : Option Nat
  /-- Shadow duty, applied duty (R178). -/
  shadow : Nat
  applied : Nat
  /-- Carried on-time and off-time of SKIP_CARRY (R179). -/
  carryOn : Nat
  carryOff : Nat
  /-- The output is within the on part of a PWM period. -/
  pulse : Bool
  /-- Instant of the off edge of the present PWM period (R178). -/
  offAt : Option Nat
  turnOn : Nat
  lastTrip : Trip
  tripAt : Nat
  /-- Instants of restarts within 60 s (R184). -/
  restarts : List Nat
  /-- Open load found while on, and while off (R182). -/
  open_ : Bool
  openOff : Bool
  shortBat : Bool
  reverse : Bool
  calDeferred : Bool
  derated : Bool
  /-- Held by a SAFE reaction, a shed factor or the CRANK band; resumes its request afterwards. -/
  held : Bool
  /-- Sense offset in force and the run of deferrals (R185). -/
  offset : Int
  calRun : Nat
  /-- What the service last posted towards (R175): 0 off, 1 on or forward, 2 PWM (reverse on a bridge), 3 brake, 4 not known, after
  the application pair's stop or a change of the period; and the duty it last posted (R178). -/
  posted : Nat
  dutyPosted : Nat
  /-- Handle of the last single OUT_SET posted, of the repeating period event, and of a flash (R142, R178, R191). -/
  pend : Option (Nat × Nat)
  period : Option (Nat × Nat)
  flash : List (Nat × Nat)
  /-- An off that fired too early waits for the minimum on-time (R143, R177). -/
  ending : Bool
  /-- Instant at which the channel last went off (R182, R185), and of its last offset measurement. -/
  wentOff : Nat
  calAt : Nat
  /-- Its sink has handed a value since the start or the pair's restart (R191). -/
  told : Bool
  /-- Since when every sample lies above the allowance, below OPEN_ON, above twice OPEN_ON (R182). -/
  excess : Option Nat
  low : Option Nat
  high : Option Nat
  deriving DecidableEq, Repr

/-- The phase of a lock stroke (Table 8-9). -/
inductive StrokeSt where
  | idle | drive | brake
  deriving DecidableEq, Repr

/-- The lock actuator and direction change of an H-bridge (R187, R188). -/
structure LockS where
  st : StrokeSt
  dir : Nat
  startAt : Nat
  brakeAt : Nat
  /-- Stroke starts within the past 60 s. -/
  history : List Nat
  /-- A stroke request waiting (COOLING or a running stroke). -/
  waiting : Option Nat
  cooling : Bool
  noEnd : Bool
  last : Nat
  /-- Last request acted on. -/
  acted : Nat
  /-- Direction waiting for REV_BRAKE to end (R187). -/
  turnTo : Option Nat
  /-- The OUT_SET of a stroke is posted and has not fired. -/
  posted : Bool
  /-- Since when every sample of the drive lies above STALL, blanking over (R188). -/
  stall : Option Nat
  deriving DecidableEq, Repr

/-- The supply bands of Table 8-10. -/
inductive Band where
  | crank | normal | jump
  deriving DecidableEq, Repr

/-! ## Lighting (09) -/

/-- String states (LED_STR_STATUS[2:0]). -/
inductive StrSt where
  | disabled | dark | lit | tripped | latched | dropped
  deriving DecidableEq, Repr

/-- A scene entry (Table 9-2). -/
structure SceneCfg where
  shunt : Nat
  level : Nat
  fade : Nat
  strings : Nat
  deriving DecidableEq, Repr

/-- An LED string (R194–R220). -/
structure StringS where
  st : StrSt
  /-- Scene requested by its sink, scene number in force (0xF8–0xFA composed). -/
  req : Nat
  scene : Nat
  /-- Actual and target level, and the fade: start level, start instant, duration in base periods (R206). -/
  level : Nat
  target : Nat
  fadeFrom : Nat
  fadeAt : Nat
  fadeLen : Nat
  ramp : Bool
  mask : Nat
  bypass : Nat
  /-- Outage masks and short sample counts (R214, R215). -/
  openMask : Nat
  shortMask : Nat
  shortRun : List Nat
  carry : Nat
  gap : Nat
  /-- Width of the last dimming pulse in base periods (R199). -/
  pulse : Nat
  /-- Derating factor D in 0.01 % (R213). -/
  d : Nat
  shortBat : Bool
  calDeferred : Bool
  offset : Int
  calRun : Nat
  tripAt : Nat
  restarts : List Nat
  /-- Composed blink states: on and off (mask, level) (R208). -/
  blinkOn : Nat × Nat
  blinkOff : Nat × Nat
  steady : Nat × Nat
  /-- Start of the present pulse period: instant, and position of its phase clock (R199); the due instant of the last sample (R215). -/
  periodAt : Option Nat
  pulsePos : Nat
  sampleAt : Nat
  /-- Instants of the last change of mask (R204), of the last time it went dark, of the last offset measurement (R218), and of the last
  update of D (R213). -/
  stepAt : Option Nat
  wentDark : Nat
  calAt : Nat
  derateAt : Nat
  /-- Held dark by a SAFE reaction, the CRANK band or a shed factor; follows its request again afterwards. -/
  held : Bool
  deriving DecidableEq, Repr

/-- Cornering on one string (R211, R212). -/
structure Corner where
  active : Bool
  /-- Lit segments on the left and right side, bit k for segment k. -/
  left : Nat
  right : Nat
  lastStep : Nat
  /-- Since when the speed has been above MIN_SPEED, and below it less 2 km/h. -/
  speedHi : Option Nat
  speedLo : Option Nat
  /-- Since when the lean has been above each threshold, and below it less the hysteresis: side (true for right) kept with
  the first. -/
  leanRight : Bool
  leanHi : List (Option Nat)
  leanLo : List (Option Nat)
  deriving DecidableEq, Repr

/-- The lighting service (R201–R212). -/
structure Lighting where
  strs : Vector StringS 4
  /-- Overlays BRAKE, TURN_L, TURN_R, HAZARD: last value and stale. -/
  ovl : List (Bool × Bool)
  /-- The running blink cycle: none, or overlay 1–3, with its start and its event handles. -/
  blink : Option Nat
  blinkAt : Nat
  /-- FAIL_FAST halves the running cycle (R210). -/
  fast : Bool
  blinkOnPhase : Bool
  handles : List (Nat × Nat)
  corner : Corner
  scenes : List SceneCfg
  deriving DecidableEq, Repr


/-! ## Motor drive (10) -/

/-- Bridge states (Table 10-3). -/
inductive BrSt where
  | off | catch_ | align | forced | run | brake | tripped | latched | dropped
  deriving DecidableEq, Repr

/-- Supply-watch bands (Table 10-5). -/
inductive Watch where
  | clear | slow | shortBrake
  deriving DecidableEq, Repr

/-- The control quantity and its value (Table 10-2), 16 fraction bits. -/
inductive SetPoint where
  | none
  | speed (v : Int)
  | current (v : Int)
  | position (v : Int)
  deriving DecidableEq, Repr

/-- A command as it stands in a command slot of the coprocessor (R228): quantity code and FIX value. -/
structure MotCmd where
  quantity : Nat
  value : Int
  deriving DecidableEq, Repr

/-- A motor bridge (R223–R248). Speeds in r/min or 1/1000 r/min, currents in 10 mA. -/
structure Bridge where
  st : BrSt
  /-- Instant of the last change of state. -/
  since : Nat
  /-- Set-point in force from the sink, and the CURRENT_LIMIT cap in 10 mA, 0 for none. -/
  sp : SetPoint
  cap : Nat
  /-- Command slots written by the application pair and not yet taken. -/
  slots : List (Nat × MotCmd)
  /-- Commands taken at their events and due at the next PWM period start (R228). -/
  next : List MotCmd
  /-- Estimated speed in r/min; the ramp's present value, which is the forced speed in FORCED, in 1/1000 r/min. -/
  speed : Int
  ref : Int
  /-- Torque current reference; measured Iq and Id. -/
  iqRef : Int
  iq : Int
  id : Int
  /-- Integral part of the speed loop in nA. -/
  integ : Int
  /-- What the rms rule takes off the Iq limit, in % of PEAK (R229). -/
  lowered : Nat
  rms : Nat
  /-- Decelerating: to a stop, or to the direction of a reversal (true for reverse). -/
  toStop : Bool
  reversal : Option Bool
  /-- The rotor was caught turning against the request (Table 10-4). -/
  caught : Bool
  /-- Direction of ALIGN, FORCED and RUN: reverse. -/
  back : Bool
  /-- BRAKE of a still catch; BRAKE of the reversal hold; BRAKE reached from deceleration. -/
  stillBrake : Bool
  holdBrake : Bool
  endBrake : Bool
  rampLimited : Bool
  clamped : Bool
  depthLimited : Bool
  calDeferred : Bool
  watch : Watch
  lastTrip : Nat
  tripAt : Nat
  restarts : List Nat
  /-- Observer losses within 10 s (R241). -/
  losses : List Nat
  offset : Int
  calRun : Nat
  /-- Position count in electrical angle units, its fraction in FORCED; homed, homing, its start, moves since home, a homing
  that failed (R238, R239). -/
  count : Int
  frac : Int
  homed : Bool
  homing : Bool
  homeStart : Int
  moves : Nat
  homeFailed : Bool
  /-- Observed electrical angle without wrap (R227). -/
  angle : Int
  /-- Short-pulse carry and on-time applied of each phase in ns (R234). -/
  carry : List Int
  pulses : List Nat
  /-- Depth applied and its limit in 0.001 (R233), VBAT at the last period start in 10 mV. -/
  depth : Nat
  depthMax : Nat
  vbat : Nat
  /-- Identified resistance and inductance of the calibration record (R244). -/
  ident : Option (Nat × Nat)
  /-- Held off by the CRANK band (R247), and being dropped by degraded operation (R248). -/
  held : Bool
  dropping : Bool
  /-- WORKSHOP forcing in force, code and speed in r/min, since the MOT_CMD that brought it (R12, R15). -/
  forced : Nat
  forcedSp : Int
  /-- Where in the present period, in ns, a phase current reached PEAK: the pulses end there, in SHORT_BRAKE every switch opens; and since
  when it has in every period (R236, R241). -/
  cutAt : Option Nat
  peakSince : Option Nat
  /-- By how many ns a pulse is shifted to open each of the two sampling windows (R233). -/
  shift : Nat × Nat
  deriving DecidableEq, Repr

/-- A brushed drive on HB0 or HB1 (R245, R246). Duty −32,767 to 32,767. -/
structure Brushed where
  st : BrSt
  /-- BR_VOLTAGE set-point as a duty, BR_CURRENT set-point in mA, current limit cap in mA, 0 for none. -/
  volt : Option Int
  cur : Option Int
  cap : Nat
  next : List MotCmd
  duty : Int
  watch : Watch
  rampLimited : Bool
  carry : Int
  /-- Reversal brake: since when, and the ramp fraction left over. -/
  turning : Option Nat
  lastAt : Nat
  /-- Since when VBAT at the period starts lies above 15.5 V and 16.5 V, below 15.0 V and 15.5 V (Table 10-5). -/
  above155 : Option Nat
  above165 : Option Nat
  below150 : Option Nat
  below155 : Option Nat
  deriving DecidableEq, Repr

/-- Progress of a commanded operation (idle, running, done, DEFERRED). -/
inductive CmdSt where
  | idle | running | done | deferred
  deriving DecidableEq, Repr

/-- The motor drive. -/
structure Motor where
  bridges : Vector Bridge 2
  brushed : Vector Brushed 2
  cal : CmdSt
  deriving DecidableEq, Repr


/-! ## Inputs and motion (11) -/

/-- A switch input (R250–R257). -/
structure Switch where
  raw : Bool
  closed : Bool
  /-- Debounce timer start; none while not running. -/
  since : Option Nat
  /-- Consecutive cyclic samples that differ from the confirmed state (R253, R254). -/
  differ : Nat
  /-- Instant of the last confirmed closure (PULSE wetting, R251). -/
  closedAt : Option Nat
  deriving DecidableEq, Repr

/-- An analogue input (R258, R259): consecutive samples below LOW and above HIGH, consecutive samples within range, the range
fault, and the value last published. -/
structure Analog where
  below : Nat
  above : Nat
  inside : Nat
  range : Bool
  value : Word
  deriving DecidableEq, Repr

/-- Sensor supply status (R260). -/
inductive Ssup where
  | off | ok | outOfRange | short
  deriving DecidableEq, Repr

/-- A frequency input (R261–R264). -/
structure Freq where
  lastEdge : Option Nat
  /-- Last accepted interval in base periods. -/
  interval : Option Nat
  sync : Bool
  tooth : Nat
  open_ : Bool
  range : Bool
  /-- Edge frequency in Hz, and the crank or wheel speed of a source, as last published (FIX). -/
  freq : Word
  speed : Word
  deriving DecidableEq, Repr

/-- The stator tap (R265): last crossing and cycle, peak of the last cycle in 0.1 V, whether it delivers marks, the frequency
last published. -/
structure Alt where
  lastCross : Option Nat
  cycle : Option Nat
  amp : Nat
  marks : Bool
  freq : Word
  deriving DecidableEq, Repr

/-- The input services. -/
structure Inputs where
  sw : Vector Switch 32
  an : Vector Analog 8
  ssup : Vector Ssup 2
  /-- When a sensor supply was last switched off for a short (R260). -/
  shortAt : Vector Nat 2
  fq : Vector Freq 4
  alt : Alt
  /-- Crank speed last published, FIX (R264, R265). -/
  crank : Word
  /-- The input that fired wake source 2 (R254). -/
  wake : Nat
  /-- Confirmed states at PARK entry, bit n for SWnn (R254). -/
  reference : Nat
  deriving DecidableEq, Repr

/-- The IMU service (R268–R274). -/
structure Imu where
  moving : Bool
  tamper : Bool
  fall : Bool
  impact : Bool
  fail : Bool
  /-- A result was published since the start. -/
  seen : Bool
  calDeferred : Bool
  zeroValid : Bool
  calRun : Nat
  cmd : CmdSt
  /-- The command in progress was written to IMU_CAL_CMD. -/
  commanded : Bool
  /-- Tamper reference captured (gravity vector), captured in the present WATCH (R271). -/
  ref : Option (Int × Int × Int)
  /-- Gyro zero in force, and the attempt in progress since an instant (R273). -/
  zero : Int × Int × Int
  attempt : Option Nat
  /-- Level corrections of the calibration record: roll and pitch (R274). -/
  level : Int × Int
  /-- Lean and pitch in 0.00001°. -/
  lean : Int
  pitch : Int
  /-- Since when the conditions of moving, tamper and fall hold at every evaluation. -/
  moveHi : Option Nat
  moveLo : Option Nat
  tiltHi : Option Nat
  tiltLo : Option Nat
  fallHi : Option Nat
  fallLo : Option Nat
  /-- Since when moving has been false, where it is (R271). -/
  stillAt : Nat
  deriving DecidableEq, Repr


/-! ## Touch (12) -/

/-- An electrode (R277–R296). -/
structure Electrode where
  rawSelf : Nat
  rawMut : Nat
  baseSelf : Nat
  baseMut : Nat
  touched : Bool
  /-- Consecutive frames above the upper and below the lower levels, in the glove band, and of baseline tracking. -/
  up : Nat
  down : Nat
  gloveUp : Nat
  track : Nat
  /-- Raw counts gathered in a calibration attempt. -/
  frames : List (Nat × Nat)
  /-- Calibration record of the Data flash: self and mutual (R293). -/
  record : Option (Nat × Nat)
  /-- Consecutive test frames of one outcome, and the finding in force: open, short, reference (R294, R295). -/
  openRun : Nat
  shortRun : Nat
  refRun : Nat
  isOpen : Bool
  isShort : Bool
  refBad : Bool
  /-- Drift of the last calibration from the record in counts (R292). -/
  drift : Int
  deriving DecidableEq, Repr

/-- A touch group (R278–R293). -/
structure Group where
  glove : Bool
  /-- Last frame on which an electrode lay above GLOVE lower. -/
  gloveAt : Nat
  water : Bool
  wetRun : Nat
  dryRun : Nat
  stuck : Bool
  stuckRun : Nat
  touchedAt : Option Nat
  calDeferred : Bool
  deferredAt : Option Nat
  baseline : Bool
  calRun : Nat
  /-- Calibration attempt in progress: commanded or not. -/
  attempt : Option Bool
  position : Option Nat
  deriving DecidableEq, Repr

/-- The park engine's gesture recogniser (R297–R300). -/
structure Gesture where
  /-- Park baselines of TE00 and TE01 of this park, and of the previous one. -/
  base : List (Option Nat)
  prior : List (Option Nat)
  /-- Samples gathered for the baseline. -/
  gather : List (Nat × Nat)
  touch0 : Bool
  touch1 : Bool
  /-- Samples towards the next baseline step of each. -/
  calm0 : Nat
  calm1 : Nat
  /-- Length of the present touch of A; of the gap after a tap; samples since A was touched alone. -/
  tap : Nat
  gap : Option Nat
  swipe : Option Nat
  /-- A water reset waits for a sample on which both are released. -/
  wet : Bool
  /-- Counts of the last park: water resets, abandoned gestures, baseline deferrals, gestures recognised. -/
  waters : Nat
  abandoned : Nat
  deferrals : Nat
  recognised : Nat
  deriving DecidableEq, Repr

/-- The touch service. -/
structure Touch where
  el : Vector Electrode 16
  gr : Vector Group 8
  /-- Excitation frequency: 0 250 kHz, 1 400 kHz, 2 625 kHz (R282). -/
  freq : Nat
  /-- Instant of the last test frame; none before the first of a start. -/
  testAt : Option Nat
  /-- The instant of the frame under way, and of the last frame; none before the first of a start (R281). -/
  frameAt : Option Nat
  lastFrame : Option Nat
  cmd : CmdSt
  /-- Groups of the running command, and those it deferred. -/
  cmdLeft : Nat
  cmdDeferred : Nat
  gest : Gesture
  wokenByTouch : Bool
  deriving DecidableEq, Repr


/-! ## Charger and power path (13) -/

/-- Charger states (Table 13-3). -/
inductive ChgSt where
  | off | idle | precharge | fastCc | fastCv | done | paused | fault
  deriving DecidableEq, Repr

/-- An input-current search that runs (R310): the limit of the present step, the input's open voltage, VBAT before it in mV,
whether SVIN lies near VBAT, and when the step began. -/
structure Search where
  limit : Nat
  openMv : Nat
  vbat : Nat
  near : Bool
  stepAt : Nat
  deriving DecidableEq, Repr

/-- The charger, cell and BKOUT (R303–R319). Voltages in mV, currents in mA, charge in 0.1 mAh. -/
structure Charger where
  st : ChgSt
  heldState : ChgSt
  /-- Input in force: 0 none, 1 VBAT, 2 SVIN; the last search took SVIN for the vehicle rail. -/
  input : Nat
  svinIsRail : Bool
  /-- Found limit; none before the first search of a start ends. -/
  found : Option Nat
  search : Option Search
  searchAt : Nat
  /-- A search is due: the input became available, or the service restarted; the current is at 0 for a change of input until then; the
  last back-off that no search has followed (R309, R310). -/
  due : Bool
  hush : Bool
  backoffAt : Option Nat
  openMv : Nat
  window : Nat
  present : Bool
  cutOff : Bool
  aoOnCell : Bool
  /-- A changeover to the cell was reported at this start (R304). -/
  onCellSaid : Bool
  /-- The AO input rail is strictly above 5.0 V. -/
  railUp : Bool
  svinPresent : Bool
  gate : Bool
  /-- BKOUT stays off the cell until the rail returns (R307). -/
  bkoCut : Bool
  calDeferred : Bool
  calRun : Nat
  inputLimited : Bool
  soc : Nat
  /-- Charge below 0.1 mAh in mA × base periods. -/
  socFrac : Int
  socValid : Bool
  learned : Nat
  /-- Charge delivered and start estimate in % of the present charge, pause longer than 1 h seen (R319). -/
  delivered : Nat
  startSoc : Option Nat
  longPause : Bool
  pausedAt : Nat
  /-- Conditions of Table 13-5 present now, by bit. -/
  conds : List Bool
  /-- Charging stopped by an instance reaction until the next start (Table 19-5). -/
  stopped : Bool
  /-- Current aimed at, and the ramp towards it: from a current at an instant (R313). -/
  aim : Nat
  rampFrom : Nat
  rampAt : Nat
  /-- The last reading of the cell. -/
  cellMv : Nat
  cellMa : Int
  cellAt : Nat
  /-- Since when every reading lies strictly below Precharge (R313), and within ±5 mA (R318). -/
  lowFrom : Option Nat
  calmFrom : Option Nat
  inputMa : Nat
  /-- Timer of the present phase: base periods charged before, and charging since an instant. -/
  timerUsed : Nat
  timerFrom : Option Nat
  deriving DecidableEq, Repr

/-! ## CAN and LIN (14) -/

/-- Controller states (Table 14-5). -/
inductive CanSt where
  | off | config | integrating | active | passive | busOff | sleep
  deriving DecidableEq, Repr

/-- A CANDB frame entry (Table 14-3). -/
structure CanFrameCfg where
  chan : Nat
  tx : Bool
  ide : Bool
  fdf : Bool
  brs : Bool
  single : Bool
  dlc : Nat
  buffer : Nat
  id : Nat
  mask : Nat
  time : Nat
  clock : Nat
  onChange : Bool
  phase : Nat
  deriving DecidableEq, Repr

/-- A signal entry of CANDB or LINSCHED (Table 14-4). -/
structure BusSignalCfg where
  frame : Nat
  start : Nat
  len : Nat
  big : Bool
  sgn : Bool
  typ : Nat
  factor : Word
  offset : Word
  deriving DecidableEq, Repr

/-- The CANDB section (R327). -/
structure CanDb where
  frames : List CanFrameCfg
  signals : List BusSignalCfg
  deriving DecidableEq, Repr

/-- A LINSCHED frame entry (Table 14-6). -/
structure LinFrameCfg where
  chan : Nat
  dir : Nat
  classic : Bool
  id : Nat
  len : Nat
  typ : Nat
  timeout : Nat
  collision : Nat
  deriving DecidableEq, Repr

/-- A LINSCHED table entry. -/
structure LinTableCfg where
  first : Nat
  count : Nat
  chan : Nat
  once : Bool
  deriving DecidableEq, Repr

/-- A LINSCHED slot entry. -/
structure LinSlotCfg where
  frame : Nat
  second : Nat
  third : Nat
  delay : Nat
  deriving DecidableEq, Repr

/-- The LINSCHED section (R346). -/
structure LinSched where
  frames : List LinFrameCfg
  signals : List BusSignalCfg
  tables : List LinTableCfg
  slots : List LinSlotCfg
  deriving DecidableEq, Repr

/-- A transmit buffer (R334–R337). -/
structure TxBuf where
  buf : Nat
  frame : CanFrame
  single : Bool
  /-- Start of frame of the attempt in progress: it is in its arbitration field until that field's end, and begun after it. -/
  attempt : Option Nat
  /-- A cancel is held for the arbitration's outcome. -/
  cancel : Bool
  /-- A release that waits for the begun transmission to end. -/
  next : Option CanFrame
  deriving DecidableEq, Repr

/-- A CAN controller (R324–R345). -/
structure CanC where
  st : CanSt
  txErr : Nat
  rxErr : Nat
  timingBad : Bool
  /-- A committed timing change waits for bus idle (R325). -/
  timingWait : Bool
  term : Bool
  lastErr : Nat
  bufs : List TxBuf
  /-- Matched frames queued for the service with the instant of their start of frame, at most 64 (R339). -/
  rx : List (CanFrame × Nat)
  lastCancel : Nat
  cancelBuf : Nat
  /-- Consecutive bus-offs, the instant of the last entry into ACTIVE and of the last bus-off (R344). -/
  busOffs : Nat
  activeAt : Nat
  busOffAt : Nat
  /-- Bus-off recovery running; bus stuck dominant; end of the last frame on the bus. -/
  recovering : Bool
  stuck : Bool
  lastFrame : Nat
  /-- CommunicationControl stopped the CANDB releases (R446). -/
  noTx : Bool
  /-- CommunicationControl stopped the reception of CANDB frames (R446). -/
  noRx : Bool
  deriving DecidableEq, Repr

/-- What a receive or transmit entry of CANDB holds at run time. -/
structure CanEntry where
  last : Option CanFrame
  stamp : Nat
  angle : Nat
  stampValid : Bool
  lastAt : Nat
  stale : Bool
  /-- Transmit: payloads assembled at commitment by event slot, last release instant. -/
  payload : List (Nat × List Byte)
  releasedAt : Option Nat
  deriving DecidableEq, Repr

/-- The CAN service. -/
structure CanS where
  db : CanDb
  ctl : Vector CanC 3
  entries : List CanEntry
  /-- Values handed for transmitted signals, by signal entry (R330). -/
  tx : List (Nat × Word)
  deriving DecidableEq, Repr

/-- A header on a LIN bus: identifier and frame entry, none where LINSCHED has none. -/
structure LinHdr where
  id : Nat
  entry : Option Nat
  deriving DecidableEq, Repr

/-- A LIN channel (R346–R351). -/
structure LinC where
  /-- 0 off, 1 running, 2 stopped, 3 paused. -/
  status : Nat
  /-- Table in force and slot last started. -/
  table : Nat
  slot : Nat
  /-- The next slot of the table and the instant of its start. -/
  nextSlot : Nat
  nextAt : Nat
  /-- The table `LIN_SCHED_l` named when the schedule last chose one. -/
  chosen : Nat
  /-- Table and slot to resume after a collision table (R348). -/
  resume : Option (Nat × Nat)
  /-- The header on the bus whose response is awaited. -/
  header : Option LinHdr
  /-- Bytes the channel last put on the bus. -/
  sent : List Byte
  /-- What diagnostic slots send in turn: a master request, or (none) a slave response header. -/
  diag : List (Option (List Byte))
  deriving DecidableEq, Repr

/-- The LIN service. -/
structure LinS where
  sched : LinSched
  ch : Vector LinC 2
  tx : List (Nat × Word)
  /-- Published frames whose signals changed since they were last sent (sporadic slots). -/
  changed : List Nat
  /-- Instants of the last reception and stale flags by frame entry. -/
  rx : List (Nat × Nat × Bool)
  deriving DecidableEq, Repr

/-! ## Network sleep (15) -/

/-- CAN channel NM states (Table 15-1). -/
inductive NmSt where
  | off | awake | ready | prepare | busSleep | silent
  deriving DecidableEq, Repr

/-- NM on one CAN channel (R355–R376). -/
structure NmC where
  st : NmSt
  /-- Own need, the instant until which a reserved filter's frame holds need, and until which a wake or start does. -/
  need : Bool
  needUntil : Nat
  wakeUntil : Nat
  /-- Start of the present READY (R363), and the instant of the last master NM frame (R366). -/
  readyAt : Nat
  masterAt : Nat
  /-- The next SLEEP_CMD frame of S1 is due at this instant. -/
  cmdAt : Nat
  /-- Held by others, PN bits of the frames that hold (NM_STATUS). -/
  held : Bool
  pn : Nat
  seq : Nat
  /-- SLEEP_CMD frames sent in S1 and whether S2 runs; its repeats; the offender was reported in this sequence. -/
  sent : Nat
  silence : Bool
  repeats : Nat
  offenderSaid : Bool
  s1End : Nat
  /-- Traffic since the end of S1: a frame held, a frame matched (R365). -/
  heldSince : Bool
  matchedSince : Bool
  /-- Kind of the last wake, the own READY of a wake, master lost reported. -/
  wakeKind : Nat
  wakeFrame : Option (Nat × Bool)
  wakeAt : Nat
  lostSaid : Bool
  /-- A wake by kind 2–4 not yet justified (R375). -/
  doubtful : Bool
  frozen : Option (Nat × Nat)
  /-- Frame error counter of the wake-up-frame decoder (R372). -/
  decErr : Nat
  /-- RTC times of the last 32 false wakes, level, count at the last PARK entry. -/
  falseAt : List Nat
  level : Nat
  parkCount : Nat
  /-- End of the hold of the present park (R375). -/
  holdEnd : Option Nat
  unarmed : Bool
  /-- Woken by the bus at this start (R381). -/
  busWoken : Bool
  deriving DecidableEq, Repr

/-- NM on a LIN channel (R378, R379). -/
structure NmLin where
  /-- 0 OFF, 1 AWAKE, 4 BUS_SLEEP. -/
  st : Nat
  pulses : Nat
  need : Bool
  needUntil : Nat
  /-- When own need last ended, last bus activity, the last wake pulse. -/
  readyAt : Nat
  lastBus : Nat
  pulseAt : Nat
  busWoken : Bool
  deriving DecidableEq, Repr

/-- An entry of the offender log (R377). -/
structure Offender where
  id : Nat
  ide : Bool
  fdf : Bool
  nm : Bool
  chan : Nat
  kind : Nat
  node : Nat
  count : Nat
  first : Nat
  last : Nat
  deriving DecidableEq, Repr

/-- Network management. -/
structure Nm where
  can : Vector NmC 3
  lin : Vector NmLin 2
  offenders : List Offender
  deriving DecidableEq, Repr

/-! ## The Dalrez fabric (16, 17) -/

/-- Link states (Table 16-5). -/
inductive LinkSt where
  | disabled | down | training | up | loop
  deriving DecidableEq, Repr

/-- A FAB_SYNC waiting for the next own turn: the frame, CORR up to an instant, that instant (R421). -/
structure SyncOut where
  frame : FabFrame
  corr : Nat
  at_ : Nat
  deriving DecidableEq, Repr

/-- A Dalrez port (R382–R388, R408a, R415, R420). -/
structure PortS where
  st : LinkSt
  /-- Frames waiting, the first next; the frame sent in the last own turn, and its attempts. -/
  queue : List FabFrame
  flight : Option FabFrame
  flightSync : Option SyncOut
  attempts : Nat
  /-- Instant of the last own turn. -/
  ownTurn : Nat
  /-- Frames dropped in a row (R387); the next own turn acknowledges; the frame of the peer's last turn. -/
  dropsRow : Nat
  ackNext : Bool
  lastRx : Option FabFrame
  lastTurn : Nat
  helloAt : Nat
  /-- TRAINING: own HELLO acknowledged, peer's HELLO received. -/
  helloAcked : Bool
  helloGot : Bool
  /-- What the neighbour's HELLO says. -/
  nbrSerial : Nat
  nbrPrio : Nat
  nbrRoot : Nat
  nbrRootPrio : Nat
  nbrDist : Nat
  nbrAddr : Nat
  /-- Roll Call: a child port of the present epoch, finished, and its last Roll Call message (R396). -/
  child : Bool
  finished : Bool
  rcAt : Nat
  /-- Link delay in base periods; the exchange in progress: t1, and t2 of a request to answer (R420). -/
  delay : Option Nat
  reqAt : Nat
  t1 : Option Nat
  t2 : Option Nat
  syncs : List SyncOut
  /-- Stream lanes: present, trained rate 0 to 3, credits held, packets waiting (R408a, R415, R416). -/
  lanes : Bool
  rate : Nat
  credits : Nat
  packets : List FabPacket
  /-- The stream and source served last (R416). -/
  served : Nat × Nat
  deriving DecidableEq, Repr

/-- Roll Call states of a node (R389). -/
inductive NodeSt where
  | unlisted | listed | root
  deriving DecidableEq, Repr

/-- An address record that is not FREE (Table 16-7). -/
structure AddrRec where
  addr : Nat
  serial : Nat
  age : Nat
  listed : Bool
  deriving DecidableEq, Repr

/-- A node as a REPORT entry names it (Table 16-4), with the port it arrived on. -/
structure Reported where
  serial : Nat
  tag : Nat
  prior : Nat
  prio : Nat
  depth : Nat
  priorValid : Bool
  lanes : Bool
  port : Nat
  deriving DecidableEq, Repr

/-- An own request that is outstanding (R408): its purpose in `owner`: 0 RESOLVE, 1 RELOAD_OFFER, 2 carried for the host, with a
mark of the carrier. -/
structure FabReq where
  seq : Nat
  dst : Nat
  typ : Nat
  at_ : Nat
  owner : Nat
  mark : Nat
  deriving DecidableEq, Repr

/-- A member of the vehicle domain (Table 17-2). -/
structure MemberCfg where
  serial : Nat
  ordinal : Nat
  rootLoaded : Bool
  deriving DecidableEq, Repr

/-- A publication group. -/
structure PubCfg where
  group : Nat
  count : Nat
  mask : Nat
  period : Nat
  deriving DecidableEq, Repr

/-- A subscription. -/
structure SubCfg where
  ordinal : Nat
  group : Nat
  pos : Nat
  typ : Nat
  timeout : Nat
  deriving DecidableEq, Repr

/-- A published phase clock. -/
structure ExtCfg where
  clock : Nat
  mask : Nat
  m : Nat
  deriving DecidableEq, Repr

/-- The DOMAIN section (R410). -/
structure DomainCfg where
  own : Nat
  members : List MemberCfg
  pubs : List PubCfg
  subs : List SubCfg
  exts : List ExtCfg
  deriving DecidableEq, Repr

/-- A resolved member (R411): ordinal, address, DOMAIN_TAG. -/
structure Resolved where
  ordinal : Nat
  addr : Nat
  tag : Nat
  deriving DecidableEq, Repr

/-- A stream this node sends (R417): packets not yet acknowledged and not yet sent, in order of SEQ. -/
structure StreamTx where
  stream : Nat
  dst : Nat
  /-- SEQ of the first packet not acknowledged, the next to send, and what is to be sent from the first on. -/
  acked : Nat
  next : Nat
  data : List (List Byte)
  resends : Nat
  lastAck : Nat
  deriving DecidableEq, Repr

/-- A stream this node receives. -/
structure StreamRx where
  src : Nat
  stream : Nat
  expected : Nat
  gapSaid : Bool
  bytes : List Byte
  deriving DecidableEq, Repr

/-- A subscription at run time. -/
structure SubSt where
  lastAt : Nat
  stale : Bool
  deriving DecidableEq, Repr

/-- The fabric engine (16, 17). -/
structure Fabric where
  ports : Vector PortS 3
  node : NodeSt
  addr : Nat
  depth : Nat
  parent : Option Nat
  /-- Root view: serial and priority, and the root distance advertised (63 while none). -/
  rootSerial : Nat
  rootPrio : Nat
  rootDist : Nat
  /-- Root keys held down (R392): priority, serial, until. -/
  held : List (Nat × Nat × Nat)
  /-- Highest epoch held, epoch in progress, root serial of its CALL, its start, dirty. -/
  epoch : Nat
  inEpoch : Bool
  callRoot : Nat
  callAt : Nat
  dirty : Bool
  /-- Own REPORT with LAST sent; segments sent. -/
  lastSent : Bool
  segs : Nat
  reports : List Reported
  /-- Serials below each child port, bits [47:0]. -/
  below : List (Nat × Nat)
  /-- Addresses handed to child ports in this epoch, and the own assignment: address and depth. -/
  assigned : List (Nat × Nat)
  mine : Option (Nat × Nat)
  records : List AddrRec
  /-- DOMAIN_TAGs of the last epoch's reports by address. -/
  tags : List (Nat × Nat)
  /-- Retained record (R399): address, epoch, root serial. -/
  retained : Option (Nat × Nat × Nat)
  /-- Route table: entries that differ from the default, the default code, and whether one is held (R404). -/
  routes : List (Nat × Nat)
  dflt : Nat
  hasTable : Bool
  /-- Sequence number of the next frame sent. -/
  seq : Nat
  outstanding : List FabReq
  high : Nat
  /-- Received requests waiting for the application pair (R409), with the arrival instant. -/
  rxq : List FabFrame
  domain : DomainCfg
  resolved : List Resolved
  /-- Values handed by TX sinks, by 32 × group + position; the next send of each publication. -/
  pubVals : List (Nat × Word)
  pubAt : List Nat
  subs : List SubSt
  stateAt : Nat
  rootStateAt : Nat
  txs : List StreamTx
  rxs : List StreamRx
  /-- Members whose reload completed since their listing, and that declined (R423); offers already made since the last CLOSE. -/
  reloaded : List Nat
  declined : List Nat
  /-- Member record in the Data flash: ordinal and domain root serial (R422). -/
  member : Option (Nat × Nat)
  /-- Reload status (`FAB_RELOAD_STATUS`), start of the wait, and the accepted offer: root address, bytes, components, root serial. -/
  reload : Nat
  reloadMs : Nat
  waitAt : Nat
  offer : Option (Nat × Nat × Nat × Nat)
  /-- What the ports sent in their last turns before FAB lost its power, by port: the member's PARK report and LEAVE (R92, R388). -/
  farewell : List (Nat × FabFrame)
  deriving DecidableEq, Repr

/-! ## Byte buffers (20, 21) -/

/-- A flash bank or buffer as (address, byte) cells: addresses strictly rising, no cell at the erased value 0xFF. -/
abbrev Mem := List Host.Cell

/-! ## The host port (18) -/

/-- A command frame in the port's queue (R433): CMD, TAG, payload. -/
structure HostEntry where
  cmd : Nat
  tag : Nat
  payload : List Byte
  deriving DecidableEq, Repr

/-- The HSPI port (R427–R436). -/
structure HostPort where
  /-- Commands accepted and not yet executed, oldest first. -/
  queue : List HostEntry
  /-- Replies ready to fetch, oldest first: whole frames. -/
  replies : List (List Byte)
  /-- Status-word bits 12, 13 and 15. -/
  crcErr : Bool
  full : Bool
  startedBit : Bool
  /-- Bytes the last FETCH or STATUS shifted out. -/
  out : List Byte
  /-- `MODE_HOST_STAY` was last written 1 at this instant (R93). -/
  stayAt : Nat
  /-- Requests the DZ0 host stream carries to other nodes and serves itself: CMD and TAG of those not yet answered, by SEQ;
  none is a local one (R418). -/
  carried : List (Option Nat × Nat × Nat)
  deriving DecidableEq, Repr

/-! ## UDS on CAN (18) -/

/-- A segmented message being received (ISO 15765-2). -/
structure IsoRx where
  total : Nat
  got : List Byte
  /-- Next sequence number, frames left in the block (0: no limit), instant of the last frame. -/
  sn : Nat
  block : Nat
  at_ : Nat
  deriving DecidableEq, Repr

/-- A message being sent. -/
structure IsoTx where
  bytes : List Byte
  sent : Nat
  sn : Nat
  /-- Frames left in the tester's block; none without a limit. -/
  block : Option Nat
  /-- Waiting for a flow control since `at_`. -/
  waitFc : Bool
  at_ : Nat
  deriving DecidableEq, Repr

/-- The transport on one CAN channel: the request being received, the response being sent and those waiting, the sprig being
received (R523), and whether a flow control waits in buffers 57 and 58. -/
structure UdsChan where
  rx : Option IsoRx
  tx : Option IsoTx
  out : List (List Byte)
  sprig : Option IsoRx
  deriving DecidableEq, Repr

/-- A request waiting for its service: channel, functional, bytes. -/
structure UdsReq where
  chan : Nat
  func : Bool
  bytes : List Byte
  deriving DecidableEq, Repr

/-- A download (R447): target 0 image or 1 key buffer, next counter, the last counter taken, next offset, total. -/
structure Download where
  key : Bool
  next : Nat
  last : Option Nat
  offset : Nat
  total : Nat
  deriving DecidableEq, Repr

/-- The UDS server (R443–R450). -/
structure Uds where
  /-- Session: 1 default, 2 programming, 3 extended; the tester's channel; the instant of its last request (S3). -/
  session : Nat
  chan : Nat
  lastAt : Nat
  waiting : List UdsReq
  chans : Vector UdsChan 3
  dl : Option Download
  /-- Image SHA-256 given by routine 0xF110. -/
  sha : Option (List Byte)
  /-- Last result of each routine. -/
  results : List (Nat × List Byte)
  deriving DecidableEq, Repr

/-! ## Security and life cycle (20) -/

/-- A SIGNER slot (Table 20-1). -/
structure Signer where
  id : Nat
  ver : Nat
  key : List Byte
  deriving DecidableEq, Repr

/-- SA1 or a CAN key: key, version, last accepted freshness and the reservation in the Data flash (R488, R492). -/
structure KeySlot where
  key : Option (List Byte)
  ver : Nat
  fv : Nat
  resv : Nat
  deriving DecidableEq, Repr

/-- The ADOPTION record (R475). -/
inductive Adoption where
  | absent
  | present (vehicle : List Byte) (maker : Nat)
  | corrupt
  deriving DecidableEq, Repr

/-- The key-store items of the Data flash (Table 20-1). -/
structure KeyItems where
  signers : List (Option Signer)
  keys : List KeySlot
  adoption : Adoption
  owner : Option (List Byte)
  revokedVer : Nat
  revoked : List Nat
  floor : Nat
  deriving DecidableEq, Repr

/-- A requester's standing: its challenge with the instant of issue, its counted failures, the refusal in force, and the
privilege a credential gave with its VALID_UNTIL and flags (R480–R483, R445). -/
structure Party where
  challenge : Option (List Byte × Nat)
  fails : List Nat
  lockedAt : Option Nat
  priv : Nat
  validUntil : Option Nat
  override : Bool
  ret : Bool
  /-- Outstanding SecurityAccess seed of level 0x01. -/
  seed : Option (List Byte)
  deriving DecidableEq, Repr

/-- The journalled intent (Table 20-11). -/
structure Intent where
  src : Nat
  target : Nat
  spare : Bool
  seq : Nat
  requester : Nat
  seed : List Byte
  deriving DecidableEq, Repr

/-- The key store, the life cycle and the test port (R474–R508). Each flash item stands for its copy in force (R474). -/
structure Sec where
  /-- Blown fuses of the four groups, eight each (R476). -/
  fuses : List Nat
  intent : Option Intent
  /-- SEQ of the newest intent; `LC_LAST`; a transition was recovered at this start. -/
  lcSeq : Nat
  lcLast : Nat
  recovered : Bool
  /-- HUK, DEVICE and TRANSPORT are erased: every bit 1. -/
  wiped : Bool
  makerRoot : Option (List Byte × Nat)
  device : Option (List Byte)
  transport : Option (List Byte)
  signers : List (Option Signer)
  /-- 0 SA1, 1–8 CAN keys 0–7. -/
  keys : List KeySlot
  adoption : Adoption
  /-- OWNER: set while OWNER_LOCK is set (R496). -/
  owner : Option (List Byte)
  revokedVer : Nat
  revoked : List Nat
  floor : Nat
  /-- The other copy of each flash item, with the lower write counter (R474): what the item held before its last write. -/
  older : KeyItems
  /-- Permit: VEHICLE_ID and its start by the RTC, none while the RTC was invalid (R495). -/
  permit : Option (List Byte × Option Nat)
  /-- Code words written, wrong codes in a row, the refusal: from an instant, hours; hours of the next refusal; result of the
  last command. -/
  code : List Word
  wrong : Nat
  refusal : Option (Nat × Nat)
  nextRefusal : Nat
  ownerLast : Nat
  adopted : Bool
  refused : Bool
  /-- 0 host, 1 test port, 2 to 4 testers on CAN0 to CAN2. -/
  parties : Vector Party 5
  /-- Requests made of the DRBG, those since it was seeded; the entropy tests pass (R505). -/
  drbg : Nat
  sinceSeed : Nat
  entropyOk : Bool
  /-- Accepted count, CMD and ARG of each authenticated command (R491). -/
  acmds : List (Nat × Nat × Nat)
  /-- Debug port unlocked (R504), the debug window's bytes written through it, and what the test port last shifted out. -/
  unlocked : Bool
  dbgMem : Mem
  tdo : List Byte
  /-- Lands driven by EXTEST. -/
  lands : List Bool
  deriving DecidableEq, Repr

/-! ## Updates (21) -/

/-- An image session (R437–R441): opened over UDS, total bytes, SHA-256 where given, received runs of 16-byte units as half-open
unit ranges, state 1 open, 2 suspended, 3 complete, instant of its suspension. -/
structure ImgSession where
  uds : Bool
  total : Nat
  sha : Option (List Byte)
  got : List (Nat × Nat)
  st : Nat
  at_ : Nat
  deriving DecidableEq, Repr

/-- An accepted manifest (Table 21-6). -/
structure Manifest where
  id : Nat
  count : Nat
  length : Nat
  hash : List Byte
  base : Nat
  expiry : Nat
  auto : Bool
  signer : Nat
  deriving DecidableEq, Repr

/-- A sprig in the store (R521): the sprig's bytes and its arrival by the RTC. -/
structure Stored where
  id : Nat
  index : Nat
  count : Nat
  bytes : List Byte
  at_ : Option Nat
  deriving DecidableEq, Repr

/-- A sprig being reassembled from fabric segments (R525). -/
structure SprigAsm where
  id : Nat
  index : Nat
  last : Nat
  segs : List (Nat × List Byte)
  at_ : Nat
  deriving DecidableEq, Repr

/-- The copy intent (R530). -/
structure CopyIntent where
  bunch : Nat
  hash : List Byte
  blocks : Nat
  lerul : Bool
  recovery : Nat
  deriving DecidableEq, Repr

/-- Firmware and configuration updates (R509–R536). -/
structure Upd where
  /-- Firmware in Bank A: none is the firmware as delivered, else the bunch's bytes copied there. -/
  bankA : Option (List Byte)
  /-- Bank S. -/
  bankS : Mem
  /-- The component in the recovery region: none as delivered. -/
  recovery : Option (List Byte)
  /-- Bank S state (Table 21-4) and BUNCH_ID in it or gathering. -/
  st : Nat
  bunch : Nat
  manifest : Option Manifest
  /-- Bits set in the resume bitmap, ascending. -/
  bitmap : List Nat
  store : List Stored
  notUs : List Nat
  /-- Deadline by the RTC; none without one. -/
  deadline : Option Nat
  last : Nat
  /-- The anti-rollback counter's fuse positions advanced, and an advance due at the first LESSON_TICK. -/
  counter : Nat
  advance : Bool
  session : Option ImgSession
  intent : Option CopyIntent
  /-- Blocks marked in the progress map: of Bank A, of the recovery region. -/
  marked : Nat
  markedRec : Nat
  copied : Nat
  resumed : Bool
  /-- Bank A holds part of a copy that did not end (R532). -/
  mixed : Bool
  /-- Running the recovery image; no image runs (R533). -/
  recovering : Bool
  dead : Bool
  asm : List SprigAsm
  /-- The instant Bank S entered its state. -/
  stAt : Nat
  /-- UPD_EVENT payloads of the changes of the Bank S state not yet announced, oldest first (R525). -/
  events : List (List Byte)
  deriving DecidableEq, Repr

/-! ## The start and the configuration in force (01, 02) -/

/-- A mirror slot (R46): the image; the record's image SHA-256, LENGTH, SEQUENCE and write counter, and whether the record's CRC-32
matches it: it does not from the start of a write of the slot until the record is written. -/
structure MirrorSlot where
  image : List Byte
  sha : List Byte
  length : Nat
  sequence : Nat
  counter : Nat
  crcOk : Bool
  deriving DecidableEq, Repr

/-- The harness key and the configuration in force (02). -/
structure Boot where
  /-- The holding configuration is in force (R48). -/
  holding : Bool
  /-- The Lerul image in force, empty under holding. -/
  image : List Byte
  /-- The key fitted: 64 KB blocks that acknowledge (0: none fitted), and its bytes from address 0. -/
  keyBlocks : Nat
  key : List Byte
  /-- The capacity found at this start (R29), in bytes. -/
  capacity : Nat
  mirror : Vector (Option MirrorSlot) 2
  /-- Slot and image of a mirror write due after the first LESSON_TICK (R47). -/
  mirrorDue : Option (Fin 2 × List Byte)
  /-- Image being written back (R50). -/
  writing : Option (List Byte)
  /-- HK_PWR is on, with HK_SCL and HK_SDA pulled up to it; otherwise the CB7 drives all three low (R31). -/
  keyPower : Bool
  /-- The staging buffer of 256 KB, and its units of 16 bytes that hold a staged block, as stretches from a unit to another (R442). -/
  staging : Mem
  staged : List (Nat × Nat)
  /-- OWNERS entries in force: KIND, INSTANCE, OWNER (Table 22-2). -/
  owners : List (Nat × Nat × Nat)
  /-- The retention RAM's header and saved state (R113). -/
  retained : Option RetHeader
  /-- Causes of the coming start (`SYS_START_CAUSE`). -/
  causes : Nat
  deriving DecidableEq, Repr

/-! ## Shared resources (22) and supply conditions (24) -/

/-- The shedding ladder and the supply conditions (R544, R545, R571). -/
structure Share where
  /-- Level 0 to 20. -/
  level : Nat
  /-- Overvoltage: the converters, bridges and charger are held off (R571). -/
  overvolt : Bool
  /-- Reverse supply: the high-side channels are fully on (R572). -/
  reverse : Bool
  /-- Instants at which the shed dwells of Table 22-4 last restarted, and the restore dwells (R545). -/
  shedAt : List Nat
  restoreAt : Nat
  deriving DecidableEq, Repr

/-! ## The whole block -/

/-- Faults that stop a step: the spec gives this block none, and no meaning answers with one. -/
inductive Fault where
  /-- Raised by no command (safe): kept so that the type has a name to report. -/
  | none_
  deriving DecidableEq, Repr

/-- Refusals: why a step has no answer. -/
inductive Refusal where
  /-- A command without a meaning yet, raised by `exec` alone (safe): the machine stops where the hardware goes on. -/
  | notModelled (mnemonic : String)
  deriving DecidableEq, Repr

/-- The state of the CB7. Times are base periods of 25 ns since the model's reset (`now`), which no command turns back. -/
structure State where
  /-- Base periods elapsed (R16). -/
  now : Nat
  /-- The instant FREE was last zero: the last power-on reset. -/
  freeBase : Nat
  /-- The model's own counter of free values (assumption log 2). -/
  free : Nat
  /-- Commands waiting, the front first. -/
  pending : List Instr
  /-- Parameter words that differ from their reset value, by rising index (R53). -/
  words : List (Nat × Word)
  /-- The first LESSON_TICK of the start has fired (R18 step 6). -/
  started : Bool
  procs : Procs
  modes : Modes
  dwell : Dwells
  pw : PowerS
  txn : Txn
  flt : FaultS
  tt : Timetable
  bn : Network
  chans : Vector Channel 42
  locks : Vector LockS 2
  band : Band
  led : Lighting
  mot : Motor
  inp : Inputs
  imu : Imu
  tch : Touch
  chg : Charger
  can : CanS
  lin : LinS
  nm : Nm
  uds : Uds
  fab : Fabric
  hst : HostPort
  sec : Sec
  upd : Upd
  share : Share
  boot : Boot
  deriving DecidableEq, Repr

/-! ## Reset -/

/-- Processors at reset: all off (Table 1-8, `SYS_PROC_STATE` 0). -/
def Procs.reset : Procs := { principal := .off, app := .off, motor := .off, park := .off, fabric := .off, stops := [] }

/-- The mode at reset: WATCH (R86). -/
def Modes.reset : Modes :=
  { mode := .watch, prev := .park, row := 0, wsBy := none, wsAt := 0, wsEnter := none, wsExit := false,
    wsRefused := none, entering := none, announced := false, rootRide := false,
    rootAwake := false, membersAwake := [], took := none, cancelled := 0 }

/-- No dwell runs at reset. -/
def Dwells.reset : Dwells := { ignOn := none, ignOff := none, empty := none, moved := none, unlinked := none, resting := none }

/-- Power at reset: RUN, the RTC invalid (R482). -/
def PowerS.reset : PowerS :=
  { pw := .run, armed := [], cause := none, waking := none, parked := none, escalated := false, parkRtc := 0,
    parkAt := 0, wakeAt := 0, failTotal := 0, abortTotal := 0, wasLow := false, brownOut := false, brownDue := false, rtc := none, rstHeld := false,
    since := 0, watchRun := 0, watchStby := 0 }

/-- No transaction (R66). -/
def Txn.reset : Txn :=
  { st := .idle, owner := none, staged := [], limit := 0, lastOp := 0, handle := none, due := none }

/-- A stage's wear record before its first reading. -/
def Stage.reset : Stage := { valley := 0, peak := 0, armed := false, fresh := true, units := 0, shorts := 0 }

/-- The fault collector of a new device. -/
def FaultS.reset : FaultS :=
  { srcs := [], sevs := [], limp := false, safe := false, dtcs := [], frozen := false, buf := [], bufAt := 0, flash := [],
    seq := 0, raises := [], lost := 0, deferred := [], stages := List.replicate 48 Stage.reset,
    stagesFlash := List.replicate 48 Stage.reset, cardAt := 0, eraseA := 0, eraseS := 0, eraseData := 0, reqCtl := false, reqCtlAt := 0,
    reqCell := false, reqEl := false, degraded := false, degradePending := false,
    warn := [false, false, false, false, false, false], starts := 0, unforced := false }

/-- An unbound phase clock (Table 6-2). -/
def PhaseClock.reset : PhaseClock :=
  { st := .unbound, pos := 2 ^ 32, posAt := 0, base := 0, coastFrom := 0, entryAt := 0, marks := [], w := 0, g := 0, next := 0,
    lastMark := 0, missFrom := 0, tracked := false, seed := none, acq := none, good := 0, froze := none, edges := 0 }

/-- An empty Timetable. -/
def Timetable.reset : Timetable :=
  { clocks := Vector.replicate 8 PhaseClock.reset, events := [], gens := [], posts := 0, log := [], freeHi := 0, nextFire := 0,
    high := [], status := 0, handles := [], waiting := [], series := [] }

/-- No network loaded. -/
def NetworkCfg.empty : NetworkCfg := { lessons := [], signals := [], blocks := [], consts := [] }

/-- A lesson that has not run. -/
def LessonSt.reset : LessonSt := { evaluated := false, last := 0, fallback := false, handle := none, pubs := [] }

/-- The network before a load. -/
def Network.reset : Network :=
  { cfg := NetworkCfg.empty, sigs := [], blocks := [], lessons := Vector.replicate 16 LessonSt.reset, handed := [],
    hostWritten := [], running := false, t0 := 0 }

/-- A channel that is OFF. -/
def Channel.reset : Channel :=
  { st := .off, drive := 0, req := 0, reqDuty := none, changedAt := none, shadow := 0, applied := 0, carryOn := 0,
    carryOff := 0, pulse := false, offAt := none, turnOn := 0, lastTrip := .none, tripAt := 0, restarts := [], open_ := false, openOff := false,
    shortBat := false, reverse := false, calDeferred := false, derated := false, held := false, offset := 0, calRun := 0,
    posted := 0, dutyPosted := 0, pend := none, period := none, flash := [], ending := false, wentOff := 0, calAt := 0, told := false,
    excess := none, low := none, high := none }

/-- No stroke. -/
def LockS.reset : LockS :=
  { st := .idle, dir := 0, startAt := 0, brakeAt := 0, history := [], waiting := none, cooling := false, noEnd := false, last := 0,
    acted := 0, turnTo := none, posted := false, stall := none }

/-- A dark string. -/
def StringS.reset : StringS :=
  { st := .disabled, req := 0, scene := 0, level := 0, target := 0, fadeFrom := 0, fadeAt := 0, fadeLen := 0, ramp := false,
    mask := 0, bypass := 0, openMask := 0, shortMask := 0, shortRun := List.replicate 16 0, carry := 0, gap := 0,
    pulse := 0, d := 10000, shortBat := false, calDeferred := false, offset := 0, calRun := 0, tripAt := 0, restarts := [],
    blinkOn := (0, 0), blinkOff := (0, 0), steady := (0, 0), periodAt := none, pulsePos := 0, sampleAt := 0, stepAt := none,
    wentDark := 0, calAt := 0, derateAt := 0, held := false }

/-- Cornering that is inactive. -/
def Corner.reset : Corner :=
  { active := false, left := 0, right := 0, lastStep := 0, speedHi := none, speedLo := none, leanRight := false,
    leanHi := [none, none, none, none], leanLo := [none, none, none, none] }

/-- Lighting before a load. -/
def Lighting.reset : Lighting :=
  { strs := Vector.replicate 4 StringS.reset, ovl := List.replicate 4 (false, false), blink := none, blinkAt := 0,
    fast := false, blinkOnPhase := false, handles := [], corner := Corner.reset, scenes := [] }

/-- A bridge that is OFF. -/
def Bridge.reset : Bridge :=
  { st := .off, since := 0, sp := .none, cap := 0, slots := [], next := [], speed := 0, ref := 0, iqRef := 0, iq := 0, id := 0,
    integ := 0, lowered := 0, rms := 0, toStop := false, reversal := none, caught := false, back := false,
    stillBrake := false, holdBrake := false, endBrake := false, rampLimited := false, clamped := false,
    depthLimited := false, calDeferred := false, watch := .clear, lastTrip := 0, tripAt := 0, restarts := [],
    losses := [], offset := 0, calRun := 0, count := 0, frac := 0, homed := false, homing := false, homeStart := 0,
    moves := 0, homeFailed := false, angle := 0, carry := [0, 0, 0], pulses := [0, 0, 0], depth := 0, depthMax := 0,
    vbat := 0, ident := none, held := false, dropping := false, forced := 0, forcedSp := 0, cutAt := none,
    peakSince := none, shift := (0, 0) }

/-- A brushed drive that is OFF. -/
def Brushed.reset : Brushed :=
  { st := .off, volt := none, cur := none, cap := 0, next := [], duty := 0, watch := .clear, rampLimited := false,
    carry := 0, turning := none, lastAt := 0, above155 := none, above165 := none, below150 := none, below155 := none }

/-- The motor drive at reset. -/
def Motor.reset : Motor :=
  { bridges := Vector.replicate 2 Bridge.reset, brushed := Vector.replicate 2 Brushed.reset, cal := .idle }

/-- A frequency input at reset. -/
def Freq.reset : Freq :=
  { lastEdge := none, interval := none, sync := false, tooth := 0, open_ := false, range := false, freq := 0,
    speed := 0 }

/-- Inputs at reset. -/
def Inputs.reset : Inputs :=
  { sw := Vector.replicate 32 { raw := false, closed := false, since := none, differ := 0, closedAt := none },
    an := Vector.replicate 8 { below := 0, above := 0, inside := 0, range := false, value := 0 },
    ssup := Vector.replicate 2 .off, shortAt := Vector.replicate 2 0,
    fq := Vector.replicate 4 Freq.reset,
    alt := { lastCross := none, cycle := none, amp := 0, marks := false, freq := 0 }, crank := 0, wake := 0,
    reference := 0 }

/-- The IMU at reset. -/
def Imu.reset : Imu :=
  { moving := false, tamper := false, fall := false, impact := false, fail := false, seen := false, calDeferred := false,
    zeroValid := false, calRun := 0, cmd := .idle, commanded := false, ref := none, zero := (0, 0, 0), attempt := none,
    level := (0, 0), lean := 0, pitch := 0, moveHi := none, moveLo := none, tiltHi := none, tiltLo := none, fallHi := none,
    fallLo := none, stillAt := 0 }

/-- An electrode at reset. -/
def Electrode.reset : Electrode :=
  { rawSelf := 0, rawMut := 0, baseSelf := 0, baseMut := 0, touched := false, up := 0, down := 0, gloveUp := 0,
    track := 0, frames := [], record := none, openRun := 0, shortRun := 0, refRun := 0, isOpen := false, isShort := false,
    refBad := false, drift := 0 }

/-- A group at reset. -/
def Group.reset : Group :=
  { glove := false, gloveAt := 0, water := false, wetRun := 0, dryRun := 0, stuck := false, stuckRun := 0,
    touchedAt := none, calDeferred := false, deferredAt := none, baseline := false, calRun := 0, attempt := none,
    position := none }

/-- The gesture recogniser at reset. -/
def Gesture.reset : Gesture :=
  { base := [none, none], prior := [none, none], gather := [], touch0 := false, touch1 := false, calm0 := 0, calm1 := 0,
    tap := 0, gap := none, swipe := none, wet := false, waters := 0, abandoned := 0, deferrals := 0, recognised := 0 }

/-- Touch at reset. -/
def Touch.reset : Touch :=
  { el := Vector.replicate 16 Electrode.reset, gr := Vector.replicate 8 Group.reset, freq := 0, testAt := none,
    frameAt := none, lastFrame := none, cmd := .idle, cmdLeft := 0, cmdDeferred := 0, gest := Gesture.reset, wokenByTouch := false }

/-- The charger at reset. -/
def Charger.reset : Charger :=
  { st := .off, heldState := .off, input := 0, svinIsRail := false, found := none, search := none, searchAt := 0,
    due := false, hush := false, backoffAt := none, lowFrom := none, calmFrom := none, openMv := 0, window := 0, present := false, cutOff := false, aoOnCell := false, onCellSaid := false, railUp := false,
    svinPresent := false, gate := false, bkoCut := false, calDeferred := false, calRun := 0, inputLimited := false,
    soc := 0, socFrac := 0, socValid := false, learned := 0, delivered := 0, startSoc := none, longPause := false,
    pausedAt := 0, conds := List.replicate 7 false, stopped := false, aim := 0, rampFrom := 0, rampAt := 0, cellMv := 0,
    cellMa := 0, cellAt := 0, inputMa := 0, timerUsed := 0, timerFrom := none }

/-- A CAN controller at reset. -/
def CanC.reset : CanC :=
  { st := .off, txErr := 0, rxErr := 0, timingBad := false, timingWait := false, term := false, lastErr := 0, bufs := [],
    rx := [], lastCancel := 0, cancelBuf := 0, busOffs := 0, activeAt := 0, busOffAt := 0, recovering := false,
    stuck := false, lastFrame := 0, noTx := false, noRx := false }

/-- The CAN service at reset. -/
def CanS.reset : CanS :=
  { db := { frames := [], signals := [] }, ctl := Vector.replicate 3 CanC.reset, entries := [], tx := [] }

/-- A LIN channel at reset. -/
def LinC.reset : LinC :=
  { status := 0, table := 0, slot := 0, nextSlot := 0, nextAt := 0, chosen := 0xFF, resume := none, header := none, sent := [], diag := [] }

/-- The LIN service at reset. -/
def LinS.reset : LinS :=
  { sched := { frames := [], signals := [], tables := [], slots := [] },
    ch := Vector.replicate 2 LinC.reset,
    tx := [], changed := [], rx := [] }

/-- NM on a CAN channel at reset. -/
def NmC.reset : NmC :=
  { st := .off, need := false, needUntil := 0, wakeUntil := 0, readyAt := 0, masterAt := 0, cmdAt := 0, held := false, pn := 0, seq := 0, sent := 0, silence := false, repeats := 0,
    offenderSaid := false, s1End := 0, heldSince := false, matchedSince := false, wakeKind := 0, wakeFrame := none,
    wakeAt := 0, lostSaid := false, doubtful := false, frozen := none, decErr := 0, falseAt := [], level := 0,
    parkCount := 0, holdEnd := none, unarmed := false, busWoken := false }

/-- Network management at reset. -/
def Nm.reset : Nm :=
  { can := Vector.replicate 3 NmC.reset, lin := Vector.replicate 2 { st := 0, pulses := 0, need := false, needUntil := 0, readyAt := 0, lastBus := 0, pulseAt := 0, busWoken := false },
    offenders := [] }

/-- The UDS server at reset. -/
def Uds.reset : Uds :=
  { session := 1, chan := 0, lastAt := 0, waiting := [],
    chans := Vector.replicate 3 { rx := none, tx := none, out := [], sprig := none }, dl := none, sha := none, results := [] }

/-- The host port at reset. -/
def HostPort.reset : HostPort :=
  { queue := [], replies := [], crcErr := false, full := false, startedBit := false, out := [], stayAt := 0, carried := [] }

/-- A requester without a credential. -/
def Party.reset : Party :=
  { challenge := none, fails := [], lockedAt := none, priv := 0, validUntil := none, override := false, ret := false,
    seed := none }

/-- An empty key slot. -/
def KeySlot.reset : KeySlot := { key := none, ver := 0, fv := 0, resv := 0 }

/-- A BLANK device with nothing in its key store. -/
def KeyItems.reset : KeyItems :=
  { signers := List.replicate 8 none, keys := List.replicate 9 KeySlot.reset, adoption := .absent, owner := none, revokedVer := 0
    revoked := [], floor := 0 }

/-- The key store of a part as delivered, with nothing installed. -/
def Sec.reset : Sec :=
  { fuses := [0, 0, 0, 0], intent := none, lcSeq := 0, lcLast := 0, recovered := false, wiped := false, makerRoot := none,
    device := none, transport := none, signers := List.replicate 8 none, keys := List.replicate 9 KeySlot.reset,
    adoption := .absent, owner := none, revokedVer := 0, revoked := [], floor := 0, older := KeyItems.reset, permit := none, code := [0, 0, 0, 0],
    wrong := 0, refusal := none, nextRefusal := 1, ownerLast := 0, adopted := false, refused := false,
    parties := Vector.replicate 5 Party.reset, drbg := 0, sinceSeed := 0, entropyOk := false,
    acmds := List.replicate 16 (0, 0, 0), unlocked := false, dbgMem := [], tdo := [], lands := [] }

/-- Updates of a part as delivered: its own firmware, an empty Bank S. -/
def Upd.reset : Upd :=
  { bankA := none, bankS := [], recovery := none, st := 0, bunch := 0, manifest := none, bitmap := [], store := [], notUs := [],
    deadline := none, last := 0, counter := 0, advance := false, session := none, intent := none, marked := 0, markedRec := 0,
    copied := 0, resumed := false, mixed := false, recovering := false, dead := false, asm := [], stAt := 0, events := [] }

/-- No key fitted, no mirror. -/
def Boot.reset : Boot :=
  { holding := false, image := [], keyBlocks := 0, key := [], capacity := 0, mirror := Vector.replicate 2 none,
    mirrorDue := none, writing := none, keyPower := false, staging := [], staged := [], owners := [], retained := none, causes := 1 }

/-- A port at reset: DISABLED. -/
def PortS.reset : PortS :=
  { st := .disabled, queue := [], flight := none, flightSync := none, attempts := 0, ownTurn := 0, dropsRow := 0, ackNext := false, lastRx := none, lastTurn := 0,
    helloAt := 0, helloAcked := false, helloGot := false, nbrSerial := 0, nbrPrio := 0, nbrRoot := 0, nbrRootPrio := 0,
    nbrDist := 63, nbrAddr := 0, child := false, finished := false, rcAt := 0, delay := none, reqAt := 0, t1 := none, t2 := none,
    syncs := [], lanes := false, rate := 0, credits := 0, packets := [], served := (0, 0) }

/-- The fabric engine at reset. -/
def Fabric.reset : Fabric :=
  { ports := Vector.replicate 3 PortS.reset, node := .unlisted, addr := 0, depth := 0, parent := none, rootSerial := 0,
    rootPrio := 0, rootDist := 63, held := [], epoch := 0, inEpoch := false, callRoot := 0, callAt := 0, dirty := false,
    lastSent := false, segs := 0, reports := [], below := [], assigned := [], mine := none, records := [], tags := [],
    retained := none, routes := [], dflt := 0, hasTable := false, seq := 0, outstanding := [], high := 0, rxq := [],
    domain := { own := 0, members := [], pubs := [], subs := [], exts := [] }, resolved := [], pubVals := [], pubAt := [],
    subs := [], stateAt := 0, rootStateAt := 0, txs := [], rxs := [], reloaded := [], declined := [], member := none,
    reload := 0, reloadMs := 0, waitAt := 0, offer := none, farewell := [] }

/-- The machine right after reset: every parameter word at its Reset column, every output off, mode WATCH, power RUN, the
processors off, no configuration loaded. Fields without a stated value are those of assumption log 1. -/
def State.reset : State :=
  { now := 0, freeBase := 0, free := 0, pending := [], words := [], started := false, procs := Procs.reset,
    modes := Modes.reset, dwell := Dwells.reset, pw := PowerS.reset, txn := Txn.reset, flt := FaultS.reset, tt := Timetable.reset,
    bn := Network.reset, chans := Vector.replicate 42 Channel.reset, locks := Vector.replicate 2 LockS.reset,
    band := .normal, led := Lighting.reset, mot := Motor.reset, inp := Inputs.reset, imu := Imu.reset,
    tch := Touch.reset, chg := Charger.reset, can := CanS.reset, lin := LinS.reset, nm := Nm.reset, uds := Uds.reset, fab := Fabric.reset,
    hst := HostPort.reset, sec := Sec.reset, upd := Upd.reset, share := { level := 0, overvolt := false, reverse := false, shedAt := [0, 0, 0, 0], restoreAt := 0 },
    boot := Boot.reset }

end Sys2Proof.Machine
end

