-- ==== Sys2Proof/Machine/Ops.lean ====
section
/-!
DEFINITION. The named operations every family uses: time, the word store, free values, channels and the outcome of a
command.
-/
namespace Sys2Proof.Machine

/-! ## Time: base periods of 25 ns (Table 0-6) -/

/-- Base periods in `n` µs. -/
def usP (n : Nat) : Nat := 40 * n
/-- Base periods in `n` ms. -/
def msP (n : Nat) : Nat := 40000 * n
/-- Base periods in `n` s. -/
def secP (n : Nat) : Nat := 40000000 * n

/-- The FREE count, 48 bits (R122). -/
def State.freeCount (s : State) : Nat := (s.now - s.freeBase) % 2 ^ 48

/-- The free-running 1 µs count, 32 bits (R16). -/
def State.us (s : State) : Nat := (s.now - s.freeBase) / 40 % 2 ^ 32

/-- The 1 µs count without its wrap: instants of the behaviour network are kept in it, so that a time measured from one does not
end where the 32-bit count wraps (R154). -/
def State.usTotal (s : State) : Nat := (s.now - s.freeBase) / 40

/-- The RTC: seconds since 2000, none while invalid (R482). -/
def State.rtcNow (s : State) : Option Nat := s.pw.rtc.map fun r => r.1 + (s.now - r.2) / secP 1

/-- `PWR_RTC_TIME` as it is recorded: 0 while invalid. -/
def State.rtcSecs (s : State) : Nat := s.rtcNow.getD 0

/-- The clock moved to an instant, never back. -/
def State.reach (s : State) (t : Nat) : State := { s with now := Nat.max s.now t }

/-- Base periods elapsed since an instant. -/
def State.since (s : State) (t : Nat) : Nat := s.now - t

/-! ## The word store (R53) -/

/-- Insert an entry in the ascending list. -/
def insertWord : List (Nat × Word) → Nat → Word → List (Nat × Word)
  | [], i, v => [(i, v)]
  | (j, w) :: t, i, v =>
    if i < j then (i, v) :: (j, w) :: t else if i = j then (i, v) :: t else (j, w) :: insertWord t i v

/-- Take an entry out of the list. -/
def eraseWord (ws : List (Nat × Word)) (i : Nat) : List (Nat × Word) := ws.filter fun e => e.1 != i

/-- The list with index `i` holding `v`: no entry where `v` is the reset value. -/
def setWords (ws : List (Nat × Word)) (i : Nat) (v : Word) : List (Nat × Word) :=
  if v = resetWord i then eraseWord ws i else insertWord ws i v

/-- What the list holds at an index: its entry, or the reset value. -/
def wordsAt (ws : List (Nat × Word)) (i : Nat) : Word := (ws.lookup i).getD (resetWord i)

/-- The canonical form of the word list: indexes strictly rising, no entry at its reset value. -/
def Words.wf : List (Nat × Word) → Bool
  | [] => true
  | [(i, v)] => v != resetWord i
  | (i, v) :: (j, w) :: t => v != resetWord i && decide (i < j) && Words.wf ((j, w) :: t)

/-- The stored value of a parameter word. -/
def State.word (s : State) (i : Nat) : Word := wordsAt s.words i

/-- A field of a stored word. -/
def State.fld (s : State) (i lo w : Nat) : Nat := Sys2Proof.Machine.fld (s.word i) lo w

/-- A flag of a stored word. -/
def State.flag (s : State) (i b : Nat) : Bool := bit (s.word i) b

/-- The stored value as a number. -/
def State.num (s : State) (i : Nat) : Nat := (s.word i).toNat

/-- Store a parameter word. -/
def State.put (s : State) (i : Nat) (v : Word) : State := { s with words := setWords s.words i v }

/-- Store a number in a parameter word. -/
def State.putNat (s : State) (i v : Nat) : State := s.put i (toWord v)

/-- Store a field of a word. -/
def State.putFld (s : State) (i lo w v : Nat) : State := s.put i (setFld (s.word i) lo w v)

/-- Raise a counter field by one, saturating. -/
def State.bump (s : State) (i lo w : Nat) : State := s.put i (bumpFld (s.word i) lo w 1)

/-- Keep the larger of a field and a value, saturating at the field's size. -/
def State.peak (s : State) (i lo w v : Nat) : State :=
  s.putFld i lo w (Nat.max (s.fld i lo w) (Nat.min v (2 ^ w - 1)))

/-- Latch the bits of a word. -/
def State.latch (s : State) (i mask : Nat) : State := s.put i (s.word i ||| toWord mask)

/-- Clear the bits of a word. -/
def State.unlatch (s : State) (i mask : Nat) : State := s.put i (s.word i &&& ~~~ toWord mask)

/-! ## Free values -/

/-- The next free value (assumption log 2). -/
def State.freeWord (s : State) : Word := Config.freeValue s.free

/-- The state after a free value was used. -/
def State.useFree (s : State) : State := { s with free := s.free + 1 }

/-! ## Interrupt causes (R436) -/

/-- Latch HIRQ cause `n` in `HST_IRQ_CAUSE`. -/
def raiseIrq (n : Nat) (s : State) : State := s.latch Ix.HST_IRQ_CAUSE (2 ^ n)

/-! ## Channels -/

/-- A channel. -/
def State.ch (s : State) (c : Ch) : Channel := s.chans[c]

/-- A channel changed. -/
def updCh (c : Ch) (f : Channel → Channel) (s : State) : State := { s with chans := s.chans.set c (f s.chans[c]) }

/-- Every channel changed by its number. -/
def mapCh (f : Ch → Channel → Channel) (s : State) : State :=
  { s with chans := Vector.ofFn fun c => f c s.chans[c] }

/-- An H-bridge's lock changed. -/
def updLock (h : Hb) (f : LockS → LockS) (s : State) : State := { s with locks := s.locks.set h (f s.locks[h]) }

/-- A string changed. -/
def updStr (t : Str) (f : StringS → StringS) (s : State) : State :=
  { s with led := { s.led with strs := s.led.strs.set t (f s.led.strs[t]) } }

/-- A motor bridge changed. -/
def updBr (b : Mot) (f : Bridge → Bridge) (s : State) : State :=
  { s with mot := { s.mot with bridges := s.mot.bridges.set b (f s.mot.bridges[b]) } }

/-- A brushed drive changed. -/
def updBrush (b : Hb) (f : Brushed → Brushed) (s : State) : State :=
  { s with mot := { s.mot with brushed := s.mot.brushed.set b (f s.mot.brushed[b]) } }

/-- A phase clock changed. -/
def updPc (p : Pc) (f : PhaseClock → PhaseClock) (s : State) : State :=
  { s with tt := { s.tt with clocks := s.tt.clocks.set p (f s.tt.clocks[p]) } }

/-- A lesson changed. -/
def updLesson (l : LessonNo) (f : LessonSt → LessonSt) (s : State) : State :=
  { s with bn := { s.bn with lessons := s.bn.lessons.set l (f s.bn.lessons[l]) } }

/-- A group of touch electrodes changed. -/
def updGroup (g : Fin 8) (f : Group → Group) (s : State) : State :=
  { s with tch := { s.tch with gr := s.tch.gr.set g (f s.tch.gr[g]) } }

/-- A CAN controller changed. -/
def updCan (c : Can) (f : CanC → CanC) (s : State) : State :=
  { s with can := { s.can with ctl := s.can.ctl.set c (f s.can.ctl[c]) } }

/-- A LIN channel changed. -/
def updLin (l : Lin) (f : LinC → LinC) (s : State) : State :=
  { s with lin := { s.lin with ch := s.lin.ch.set l (f s.lin.ch[l]) } }

/-- NM of a CAN channel changed. -/
def updNm (c : Can) (f : NmC → NmC) (s : State) : State :=
  { s with nm := { s.nm with can := s.nm.can.set c (f s.nm.can[c]) } }

/-- NM of a LIN channel changed. -/
def updNmLin (l : Lin) (f : NmLin → NmLin) (s : State) : State :=
  { s with nm := { s.nm with lin := s.nm.lin.set l (f s.nm.lin[l]) } }

/-- Apply an operation for each entry of a list, in order. -/
def forEach {α : Type} (xs : List α) (f : α → State → State) (s : State) : State := xs.foldl (fun t x => f x t) s

/-- Apply an operation where a condition holds. -/
def onlyIf (b : Bool) (f : State → State) (s : State) : State := if b then f s else s

/-- An action channel by number, none beyond 41. -/
def chOf (n : Nat) : Option Ch := if h : n < 42 then some ⟨n, h⟩ else none

/-- Modes by code (Table 0-3). -/
def Mode.code : Mode → Nat
  | .park => 0 | .watch => 1 | .ride => 2 | .workshop => 3

/-- Power states by code (R100). -/
def Power.code : Power → Nat
  | .run => 0 | .doze => 1 | .standby => 2 | .retain => 3 | .deep => 4 | .off => 5

/-- Processor states by code (`SYS_PROC_STATE`). -/
def Proc.code : Proc → Nat
  | .off => 0 | .loading => 1 | .running => 2 | .halted => 3

/-- Life-cycle states by their order (Table 0-5). -/
def Life.code : Life → Nat
  | .blank => 0 | .maker => 1 | .field => 2 | .returned => 3 | .scrapped => 4

end Sys2Proof.Machine
end

