-- ==== Sys2Proof/Machine/CanPack.lean ====
section
/-!
DEFINITION. Signal fields of CAN and LIN frames (R329, R330), the payload of a transmit entry (R333) and the bits of an
arbitration field (R335).
-/
namespace Sys2Proof.Machine

/-- Data bytes of a DLC (Table 14-3): 0–8 as they stand, 9–15 the FD lengths of ISO 11898-1. -/
def dlcLen (dlc : Nat) : Nat :=
  if dlc ≤ 8 then dlc else [12, 16, 20, 24, 32, 48, 64].getD (dlc - 9) 64

/-- Bit `b` of a data field (R329). -/
def dataBit (d : List Byte) (b : Nat) : Bool := nbits (d.getD (b / 8) 0).toNat (b % 8) 1 == 1

/-- The data field with bit `b` set to a value. -/
def setDataBit (d : List Byte) (b : Nat) (v : Bool) : List Byte :=
  d.modify (b / 8) fun x =>
    let m : Byte := BitVec.ofNat 8 (2 ^ (b % 8))
    if v then x ||| m else x &&& ~~~ m

/-- The bit positions of a field from its least significant bit up: little-endian (R329). -/
def bitsLittle (start len : Nat) : List Nat := (List.range len).map (start + ·)

/-- The bit positions of a big-endian field from its most significant bit down (R329). -/
def bitsBigDown (b : Nat) : Nat → List Nat
  | 0 => []
  | k + 1 => b :: bitsBigDown (if b % 8 = 0 then b + 15 else b - 1) k

/-- The bit positions of a signal field from its least significant bit up. -/
def fieldBits (g : BusSignalCfg) : List Nat :=
  if g.big then (bitsBigDown g.start g.len).reverse else bitsLittle g.start g.len

/-- The raw field of a signal. -/
def rawField (g : BusSignalCfg) (d : List Byte) : Nat := packBits ((fieldBits g).map (dataBit d))

/-- The data field with a raw value in a signal's field. -/
def putField (g : BusSignalCfg) (raw : Nat) (d : List Byte) : List Byte :=
  ((fieldBits g).zipIdx).foldl (fun x p => setDataBit x p.1 (nbits raw p.2 1 == 1)) d

/-- The number a raw field stands for. -/
def rawInt (g : BusSignalCfg) (raw : Nat) : Int := if g.sgn then signed raw g.len else raw

/-- The signal value of a received frame (R330). -/
def decodeField (g : BusSignalCfg) (d : List Byte) : Word :=
  let raw := rawField g d
  match g.typ with
  | 0 => if raw != 0 then 1 else 0
  | 1 => BitVec.ofInt 32 (rawInt g raw)
  | _ => BitVec.ofInt 32 (clampInt (-2147483648) 2147483647 (rawInt g raw * g.factor.toInt + g.offset.toInt))

/-- The raw field of a transmitted value, saturated to the field's range (R330). -/
def encodeField (g : BusSignalCfg) (v : Word) : Nat :=
  let x : Int := match g.typ with
    | 0 => if v != 0 then 1 else 0
    | 1 => v.toInt
    | _ => divNear (v.toInt - g.offset.toInt) g.factor.toInt
  let lo : Int := if g.sgn then -(2 ^ (g.len - 1) : Nat) else 0
  let hi : Int := if g.sgn then (2 ^ (g.len - 1) : Nat) - 1 else (2 ^ g.len : Nat) - 1
  unsigned (clampInt lo hi x) g.len

/-- The signals of a frame entry with their numbers. -/
def signalsOf (sigs : List BusSignalCfg) (frame : Nat) : List (BusSignalCfg × Nat) :=
  sigs.zipIdx.filter fun p => p.1.frame == frame

/-- A data field of `len` bytes from the values handed over; raw 0 until the first hand-over (R330). -/
def packData (sigs : List BusSignalCfg) (handed : List (Nat × Word)) (frame len : Nat) : List Byte :=
  (signalsOf sigs frame).foldl (fun d p =>
    match handed.lookup p.2 with
    | some v => putField p.1 (encodeField p.1 v) d
    | none => d) (List.replicate len 0)

/-- The transmit entry of a buffer (R328). -/
def txEntry (c : Can) (buf : Nat) (s : State) : Option Nat :=
  s.can.db.frames.findIdx? fun f => f.tx && f.chan == c.val && f.buffer == buf

/-- The payload of a transmit entry from the values handed over by now (R333). -/
def assemble (e : Nat) (s : State) : List Byte :=
  match s.can.db.frames[e]? with
  | some f => packData s.can.db.signals s.can.tx e (dlcLen f.dlc)
  | none => []

/-- Change what an entry of CANDB holds. -/
def updEntry (e : Nat) (f : CanEntry → CanEntry) (s : State) : State :=
  { s with can := { s.can with entries := s.can.entries.modify e f } }

/-- The payload of an event that becomes committed is assembled (R333). -/
def commitPayload (e : Event) (s : State) : State :=
  match e.spec.act with
  | .canRelease c buf =>
    match txEntry c buf s with
    | some n => updEntry n (fun x => { x with payload := (e.slot, assemble n s) :: x.payload.filter (·.1 != e.slot) }) s
    | none => s
  | _ => s

/-! ## Arbitration (R335, R336) -/

/-- The identifier bits from bit `hi` down, `k` of them. -/
def idBits (id hi k : Nat) : List Bool := (List.range k).map fun j => nbits id (hi - j) 1 == 1

/-- The arbitration field as it is sent, start of frame first, recessive true: base and extended frames (R335). -/
def arbField (f : CanFrame) : List Bool :=
  if f.ide then [false] ++ idBits f.id 28 11 ++ [true, true] ++ idBits f.id 17 18 ++ [false]
  else [false] ++ idBits f.id 10 11 ++ [false]

/-- The field as a number for comparison: the first bit counts most, a field that ends early is filled with dominant bits
(the IDE bit of a base frame is dominant). -/
def arbKey (f : CanFrame) : Nat := packBits ((arbField f ++ List.replicate 33 false).take 33).reverse

/-- Bits of a field with the stuff bits of ISO 11898-1: after five equal bits one complement. -/
def stuffed : Option Bool → Nat → List Bool → Nat
  | _, _, [] => 0
  | last, run, b :: bs =>
    let r := if last = some b then run + 1 else 1
    if r = 5 ∧ !bs.isEmpty then 2 + stuffed (some (!b)) 1 bs else 1 + stuffed (some b) r bs

/-- Base periods of a nominal bit (R324). -/
def nomBit (c : Can) (s : State) : Nat :=
  (s.fld (Ix.CAN_NBT c.val) 0 5 + 1) * (1 + (s.fld (Ix.CAN_NBT c.val) 5 8 + 1) + (s.fld (Ix.CAN_NBT c.val) 13 7 + 1))

/-- Base periods from the start of a nominal bit to its sample point (R324). -/
def nomSample (c : Can) (s : State) : Nat :=
  (s.fld (Ix.CAN_NBT c.val) 0 5 + 1) * (1 + (s.fld (Ix.CAN_NBT c.val) 5 8 + 1))

/-- The instant an attempt wins its arbitration: the sample point of the last bit of its arbitration field (R336). -/
def arbEnd (c : Can) (sof : Nat) (f : CanFrame) (s : State) : Nat :=
  sof + (stuffed none 0 (arbField f) - 1) * nomBit c s + nomSample c s

end Sys2Proof.Machine
end

