-- ==== Sys2Proof/Machine/Operands.lean ====
section
/-!
DEFINITION. The configuration fields of channels, strings and bridges as commands use them.
-/
namespace Sys2Proof.Machine

/-! ## Channels (Table 8-11) -/

/-- The configuration word of a channel: `HS_CFG_n`, `LSD_CFG_n` or `HB_CFG_n`. -/
def chCfg (c : Ch) (s : State) : Word :=
  if c.val < 36 then s.word (Ix.HS_CFG c.val)
  else if c.val < 40 then s.word (Ix.LSD_CFG (c.val - 36))
  else s.word (Ix.HB_CFG (c.val - 40))

/-- PROFILE. -/
def chProfile (c : Ch) (s : State) : Nat := fld (chCfg c s) 0 4
/-- FAIL: 0 off, 1 hold, 2 on (brake on HB), 3 flash. -/
def chFail (c : Ch) (s : State) : Nat := fld (chCfg c s) 4 2
/-- SAFETY. -/
def chSafety (c : Ch) (s : State) : Bool := bit (chCfg c s) 6
/-- NONESS, ignored on a SAFETY channel (R190). -/
def chNoness (c : Ch) (s : State) : Bool := bit (chCfg c s) 7 && !chSafety c s
/-- Whether a channel is an H-bridge. -/
def isHb (c : Ch) : Bool := decide (40 ≤ c.val)
/-- MODE of an H-bridge: 0 DRIVE, 1 LOCK, 2 BRUSHED. -/
def hbMode (h : Hb) (s : State) : Nat := s.fld (Ix.HB_CFG h.val) 8 2
/-- The channel of an H-bridge. -/
def hbCh (h : Hb) : Ch := ⟨40 + h.val, by omega⟩
/-- The H-bridge of a channel. -/
def chHb (c : Ch) : Option Hb := if h : 40 ≤ c.val then some ⟨c.val - 40, by omega⟩ else none
/-- The forcing word of a channel. -/
def chForceIx (c : Ch) : Nat :=
  if c.val < 36 then Ix.HS_FORCE c.val else if c.val < 40 then Ix.LSD_FORCE (c.val - 36) else Ix.HB_FORCE (c.val - 40)

/-! ## Strings (Table 9-10) -/

/-- COUNT of positions of a string, 0 unused. -/
def strCount (t : Str) (s : State) : Nat := s.fld (Ix.LED_STR_CFG t.val) 0 5
/-- SAFETY of a string. -/
def strSafety (t : Str) (s : State) : Bool := s.flag (Ix.LED_STR_CFG t.val) 5
/-- NONESS of a string, ignored with SAFETY (R220). -/
def strNoness (t : Str) (s : State) : Bool := s.flag (Ix.LED_STR_CFG t.val) 6 && !strSafety t s
/-- FAIL of a string: 0 dark, 1 hold, 2 scene. -/
def strFail (t : Str) (s : State) : Nat := s.fld (Ix.LED_STR_CFG t.val) 8 2

/-! ## Bridges (Table 10-9) -/

/-- NONESS of a bridge. -/
def motNoness (b : Mot) (s : State) : Bool := s.flag (Ix.MOT_CFG b.val) 4
/-- POLE_PAIRS, 0 unused. -/
def motPoles (b : Mot) (s : State) : Nat := s.fld (Ix.MOT_CFG b.val) 16 5

end Sys2Proof.Machine
end

