-- ==== Sys2Proof/Machine/Estimator.lean ====
section
/-!
DEFINITION. The phase clock estimator (R123–R127, R136, R591): the angle a clock shows, the instant it predicts, and what a
mark does to it. Positions count from 2^32 for revolution 0, angle 0, so that marks before the first revolution have one.
-/
namespace Sys2Proof.Machine

/-- Distance in angle units the curve of R124 covers in `dt` base periods, held at the vertex when g is below 0. -/
def curve (w g : Rat) (dt : Nat) : Nat :=
  let d : Rat := dt
  let x := if g < 0 ∧ -w / g < d then -w / g else d
  (w * x + g * x * x / 2).floor.toNat

/-- The position a clock shows at an instant (R124, R126; assumption log 12 for the rounding). -/
def PhaseClock.shownAt (c : PhaseClock) (t : Nat) : Nat :=
  match c.st with
  | .tracking =>
    match c.marks with
    | (a0, t0) :: _ => Nat.max c.pos (a0 + Nat.min (curve c.w c.g (t - t0)) c.next)
    | [] => c.pos
  | .coasting => c.pos + (c.w * (t - c.base : Nat)).floor.toNat
  | .unbound => 2 ^ 32
  | _ => c.pos

/-- The position a clock shows now; frozen in STANDBY at the entry (R147). -/
def PhaseClock.shown (c : PhaseClock) (now : Nat) : Nat := c.shownAt (c.froze.getD now)

/-- The position the estimator gives for an instant, without the hold at the next expected mark (R136): no due value beyond it is
predicted for that instant or an earlier one. -/
def PhaseClock.estimate (c : PhaseClock) (t : Nat) : Nat :=
  match c.st, c.marks with
  | .tracking, (a0, t0) :: _ => Nat.max c.pos (a0 + curve c.w c.g (t - t0))
  | _, _ => c.shownAt t

/-- The clock advances on its own (TRACKING or COASTING). -/
def PhaseClock.runs (c : PhaseClock) : Bool := c.st == .tracking || c.st == .coasting

/-- The least number in `(lo, hi]` where a monotone test holds, by halving. -/
def bisect (p : Nat → Bool) : Nat → Nat → Nat → Nat
  | 0, _, hi => hi
  | n + 1, lo, hi =>
    if hi ≤ lo + 1 then hi
    else if p ((lo + hi) / 2) then bisect p n lo ((lo + hi) / 2) else bisect p n ((lo + hi) / 2) hi

/-- The predicted instant of a position (R136); none while the estimator gives none, and while the clock is frozen (R147). -/
def PhaseClock.predict (c : PhaseClock) (due : Nat) : Option Nat :=
  if c.froze.isSome then none
  else match c.st with
  | .tracking =>
    match c.marks with
    | (a0, t0) :: _ =>
      if due ≤ a0 then some t0
      else
        let far := 2 ^ 50
        if due - a0 ≤ curve c.w c.g far then some (t0 + bisect (fun d => decide (due - a0 ≤ curve c.w c.g d)) 52 0 far)
        else none
    | [] => none
  | .coasting =>
    if due ≤ c.pos then some c.base
    else if 0 < c.w then some (c.base + (((due - c.pos : Nat) : Rat) / c.w).ceil.toNat) else none
  | _ => none

/-- The rate and the acceleration that the newest marks give (R124). -/
def ratesOf (marks : List (Nat × Nat)) (w0 : Rat) : Rat × Rat :=
  match marks with
  | (a2, t2) :: (a1, t1) :: (a0, t0) :: _ =>
    let w : Rat := ((a2 - a1 : Nat) : Rat) / ((t2 - t1 : Nat) : Rat)
    let wp : Rat := ((a1 - a0 : Nat) : Rat) / ((t1 - t0 : Nat) : Rat)
    (w, 2 * (w - wp) / ((t2 - t0 : Nat) : Rat))
  | (a2, t2) :: (a1, t1) :: _ => (((a2 - a1 : Nat) : Rat) / ((t2 - t1 : Nat) : Rat), 0)
  | _ => (w0, 0)

/-- A mark as its front end delivers it: exact angle, whether it is the reference mark (R591), the distance to the next
expected mark, and a rate the reference carries (R262). -/
structure Mark where
  angle : Nat
  ref : Bool
  next : Nat
  rate : Option Rat
  deriving DecidableEq, Repr

/-- What a mark did: the clock after it, the mark error where one was judged, and whether acquisition ended in TRACKING. -/
structure MarkOut where
  clock : PhaseClock
  err : Option Int
  entered : Bool

/-- The angular distance from one angle to the next mark's angle; a full cycle where they agree. -/
def markDist (a b : Nat) : Nat := (b + 65536 - a % 65536 + 65535) % 65536 + 1

/-- The mark error as a signed angle (R125). -/
def markErr (mark shown : Nat) : Int := signed ((mark % 65536 + 65536 - shown % 65536) % 65536) 16

/-- A reference mark begins acquisition (R591). -/
def beginAcq (c : PhaseClock) (m : Mark) (t : Nat) : PhaseClock :=
  { c with acq := some (m.angle, t), good := 0, marks := [(2 ^ 32, t)], next := m.next,
           seed := match m.rate with | some r => some r | none => c.seed }

/-- The clock enters TRACKING at the second good mark (R127). -/
def enterTracking (c : PhaseClock) (m : Mark) (marks : List (Nat × Nat)) (t : Nat) : PhaseClock :=
  let rev := if c.tracked then c.pos / 65536 + 1 else 65536
  let pos := rev * 65536 + m.angle
  let top := match marks with | (a, _) :: _ => a | [] => 0
  let moved := marks.map fun (a, u) => (pos - (top - a), u)
  let r := ratesOf moved c.w
  { c with st := .tracking, pos := pos, posAt := t, marks := moved.take 3, w := r.1, g := r.2, tracked := true, acq := none, good := 0,
           next := m.next, missFrom := t, seed := none }

/-- A mark in ACQUIRING (R591). A seeded rate does not outlast a failed acquisition: the model's choice (assumption log 56). -/
def acquireMark (tol : Nat) (c : PhaseClock) (m : Mark) (t : Nat) : MarkOut :=
  let c := { c with lastMark := t }
  match c.acq with
  | none => { clock := if m.ref then beginAcq c m t else c, err := none, entered := false }
  | some (a1, t1) =>
    let d := markDist a1 m.angle
    let marks := ((match c.marks with | (a, _) :: _ => a | [] => 2 ^ 32) + d, t) :: c.marks
    let rate := match c.marks with
      | (x1, u1) :: (x0, u0) :: _ => some (((x1 - x0 : Nat) : Rat) / ((u1 - u0 : Nat) : Rat))
      | _ => c.seed
    match rate with
    | none => { clock := { c with acq := some (m.angle, t), marks := marks, next := m.next }, err := none, entered := false }
    | some r =>
      let err : Int := (d : Int) - (r * (t - t1 : Nat)).floor
      if err.natAbs ≤ tol then
        if 1 ≤ c.good then { clock := enterTracking c m marks t, err := some err, entered := true }
        else { clock := { c with acq := some (m.angle, t), marks := marks, good := c.good + 1, next := m.next },
               err := some err, entered := false }
      else
        let c0 := { c with acq := none, good := 0, marks := [], seed := none }
        { clock := if m.ref then beginAcq c0 m t else c0, err := some err, entered := false }

/-- A mark of instant `t` in TRACKING or COASTING that arrives at `now` (R125, R126): the position the clock shows at its arrival
never falls. Rate and acceleration are formed of marks within tolerance alone, and a forward jump by a mark out of tolerance in
COASTING counts as coasted distance: the model's choices (assumption log 56). -/
def followMark (tol : Nat) (c : PhaseClock) (m : Mark) (t now : Nat) : MarkOut :=
  let shown := c.shownAt t
  let err := markErr m.angle shown
  let at_ := ((shown : Int) + err).toNat
  if err.natAbs ≤ tol then
    let marks := ((at_, t) :: c.marks).take 3
    let r := ratesOf marks c.w
    { clock := { c with st := .tracking, pos := Nat.max (c.shownAt now) at_, posAt := now, marks := marks, w := r.1, g := r.2, next := m.next,
                        lastMark := t, missFrom := t },
      err := some err, entered := false }
  else
    let from_ := if 0 < err then at_ else shown
    let pos := Nat.max (c.shownAt now) (from_ + (c.w * (now - t : Nat)).floor.toNat)
    { clock := { c with st := .coasting, pos := pos, posAt := now, base := now, lastMark := t,
                        coastFrom := if c.st == .coasting then c.coastFrom else pos },
      err := some err, entered := false }

/-- A mark of instant `t` on a bound clock that arrives at `now` (R123–R126, R591). -/
def PhaseClock.mark (tol : Nat) (c : PhaseClock) (m : Mark) (t now : Nat) : MarkOut :=
  match c.st with
  | .unbound => { clock := c, err := none, entered := false }
  | .stopped | .lost =>
    acquireMark tol { c with st := .acquiring, acq := none, good := 0, marks := [] } m t
  | .acquiring => acquireMark tol c m t
  | .tracking | .coasting => followMark tol c m t now

/-- The base period in which the clock reached a position (R130, R131), none while it has not and its present estimate does not
reach it before the next expected mark (the hold of R124); a frozen clock reaches nothing (R147). -/
def PhaseClock.reachAt (c : PhaseClock) (due : Nat) : Option Nat :=
  if c.froze.isSome || c.st == .unbound then none
  else if due ≤ c.pos then some c.posAt
  else match c.st, c.marks with
    | .tracking, (a0, _) :: _ => if due - a0 ≤ c.next then (c.predict due).map (Nat.max c.posAt) else none
    | .coasting, _ => c.predict due
    | _, _ => none

/-- The instant a mark of a TRACKING clock is missing: 1.5 expected intervals after the previous mark, and one base period
later is the first at which it has not arrived (R125). -/
def PhaseClock.missAt (c : PhaseClock) : Option Nat :=
  if c.st == .tracking && c.froze.isNone && decide (0 < c.w) then
    some (c.missFrom + (3 * (c.next : Rat) / (2 * c.w)).floor.toNat + 1)
  else none

/-- The instant the coasted distance exceeds the limit (R123). -/
def PhaseClock.limitAt (c : PhaseClock) (limit : Nat) : Option Nat :=
  if c.st == .coasting then c.predict (c.coastFrom + limit + 1) else none

/-- The clock's cycle time in base periods (`TT_PCn_PERIOD`). -/
def PhaseClock.cycle (c : PhaseClock) : Nat :=
  if c.runs && decide (0 < c.w) then Nat.min (65536 / c.w).floor.toNat (2 ^ 32 - 1) else 2 ^ 32 - 1

/-- The time stands still for the clock from now on (R147). -/
def PhaseClock.freeze (c : PhaseClock) (now : Nat) : PhaseClock :=
  if c.runs && c.froze.isNone then { c with froze := some now } else c

/-- The clock goes on after STANDBY: its instants move by the time spent, and the missing-mark timing starts afresh. -/
def PhaseClock.thaw (c : PhaseClock) (now : Nat) : PhaseClock :=
  match c.froze with
  | none => c
  | some t =>
    { c with froze := none, base := c.base + (now - t), posAt := c.posAt + (now - t), marks := c.marks.map (fun (a, u) => (a, u + (now - t))),
             missFrom := now }

end Sys2Proof.Machine
end

