-- ==== Sys2Proof/Machine/FaultTable.lean ====
section
/-!
DEFINITION. The fault sources of Table 19-2 and the severities in force (R451–R455).
-/
namespace Sys2Proof.Machine

/-- The kinds of R452. -/
inductive FKind where
  | event | cond | start
  deriving DecidableEq, Repr

/-- Kind codes of `FLT_SRC_STATE`. -/
def FKind.code : FKind → Nat
  | .event => 0 | .cond => 1 | .start => 2

/-- One row of Table 19-2: first ID, how many IDs, kind, default severity. -/
structure FaultRow where
  base : Nat
  count : Nat
  kind : FKind
  sev : Nat
  deriving DecidableEq, Repr

/-- A row of Table 19-2. -/
def frow (base count : Nat) (kind : FKind) (sev : Nat) : FaultRow := { base := base, count := count, kind := kind, sev := sev }

/-- Groups 0x0 and 0x1: system and Timetable. -/
def faultRows01 : List FaultRow :=
  [frow 0x000 1 .event 2, frow 0x001 1 .event 1, frow 0x002 1 .event 2, frow 0x003 1 .event 1, frow 0x010 5 .start 2,
   frow 0x100 1 .event 2, frow 0x101 1 .cond 1, frow 0x102 1 .event 1, frow 0x103 1 .cond 1]

/-- Groups 0x2 to 0x4: loads and lighting. -/
def faultRows24 : List FaultRow :=
  [frow 0x200 42 .event 2, frow 0x240 42 .event 2, frow 0x280 42 .event 2, frow 0x2C0 42 .cond 2, frow 0x300 42 .cond 1,
   frow 0x340 42 .cond 1, frow 0x380 42 .cond 2, frow 0x3C0 1 .cond 1, frow 0x3C1 2 .event 2, frow 0x3C3 1 .cond 1,
   frow 0x400 4 .event 2, frow 0x404 4 .event 2, frow 0x408 4 .cond 2, frow 0x40C 4 .event 2, frow 0x410 4 .cond 2,
   frow 0x414 4 .cond 2, frow 0x420 1 .cond 1, frow 0x421 1 .cond 1, frow 0x422 1 .event 1, frow 0x423 1 .cond 2,
   frow 0x424 1 .cond 1]

/-- Groups 0x5 to 0x8: motor, inputs, touch, charger. -/
def faultRows58 : List FaultRow :=
  [frow 0x500 2 .event 2, frow 0x502 2 .event 2, frow 0x504 2 .event 2, frow 0x506 2 .event 1, frow 0x508 2 .event 2,
   frow 0x50A 2 .cond 2, frow 0x50C 2 .cond 2, frow 0x50E 2 .start 2, frow 0x510 1 .cond 1, frow 0x600 1 .cond 1,
   frow 0x601 1 .cond 2, frow 0x602 1 .cond 2, frow 0x603 1 .event 1, frow 0x604 1 .cond 2, frow 0x605 1 .cond 1,
   frow 0x700 1 .cond 1, frow 0x701 3 .cond 2, frow 0x704 1 .cond 1, frow 0x800 1 .event 1, frow 0x801 7 .cond 2,
   frow 0x808 1 .cond 1, frow 0x809 1 .cond 1]

/-- Groups 0x9 to 0xB: buses, network management, fabric. -/
def faultRows9B : List FaultRow :=
  [frow 0x900 1 .cond 2, frow 0x901 2 .event 1, frow 0x903 1 .cond 2, frow 0x904 1 .cond 1, frow 0x905 2 .cond 2,
   frow 0x910 5 .event 1, frow 0xA00 1 .event 2, frow 0xA01 3 .event 1, frow 0xA04 2 .event 2, frow 0xB00 1 .cond 2,
   frow 0xB01 1 .event 1, frow 0xB02 1 .event 2, frow 0xB03 2 .event 1, frow 0xB05 1 .cond 2, frow 0xB06 1 .event 2,
   frow 0xB07 1 .start 2]

/-- Groups 0xC to 0xE: security, updates, Report Card. -/
def faultRowsCE : List FaultRow :=
  [frow 0xC00 1 .event 1, frow 0xC01 2 .event 2, frow 0xC03 1 .start 2, frow 0xC04 1 .start 1, frow 0xC05 1 .event 2,
   frow 0xC06 1 .cond 2, frow 0xD00 3 .event 1, frow 0xD03 1 .start 1, frow 0xD04 1 .start 2, frow 0xD05 1 .event 2,
   frow 0xD06 1 .event 1, frow 0xE00 1 .cond 2, frow 0xE01 1 .cond 1, frow 0xE02 1 .event 1]

/-- Table 19-2 (R453). -/
def faultRows : List FaultRow := faultRows01 ++ faultRows24 ++ faultRows58 ++ faultRows9B ++ faultRowsCE

/-- The row that defines a fault ID. -/
def faultRow (id : Nat) : Option FaultRow := faultRows.find? fun r => decide (r.base ≤ id) && decide (id < r.base + r.count)

/-- The severity the settings give an ID in a mode (R454, R455): its override, or its default; 0 for an undefined ID. -/
def sevIn (id : Nat) (m : Mode) (s : State) : Nat :=
  match s.flt.sevs.lookup id with
  | some l => l.getD m.code 0
  | none => match faultRow id with | some r => r.sev | none => 0

/-- The severity in the present mode (R456). -/
def sevNow (id : Nat) (s : State) : Nat := sevIn id s.modes.mode s

/-- The erase count of the worst Bank A or Bank S block (Table 19-8): every erase the spec gives starts at block 0. -/
def worstBank (s : State) : Nat := Nat.max s.flt.eraseA s.flt.eraseS

/-- The active sources (R452). -/
def activeSrcs (s : State) : List FaultSrc := s.flt.srcs.filter (·.active)

/-- Whether a source is active. -/
def srcActive (id inst : Nat) (s : State) : Bool := s.flt.srcs.any fun x => x.id == id && x.inst == inst && x.active

/-- Whether any instance of an ID is active. -/
def idActive (id : Nat) (s : State) : Bool := s.flt.srcs.any fun x => x.id == id && x.active

/-- Degraded operation is in force (R458, R459, R471). -/
def degradedNow (s : State) : Bool := s.flt.limp || s.flt.safe || s.flt.degraded

/-- Report Card stage of a channel, string or bridge (R466). -/
def stageOfCh (c : Ch) : Nat := c.val
/-- Stage of a string converter. -/
def stageOfStr (t : Str) : Nat := 42 + t.val
/-- Stage of a motor bridge. -/
def stageOfMot (b : Mot) : Nat := 46 + b.val

/-- The days since the controller request (RC_STATUS[31:16]), 0 without one. -/
def daysSinceRequest (s : State) : Nat :=
  if s.flt.reqCtl then Nat.min ((s.rtcSecs - s.flt.reqCtlAt) / 86400) 65535 else 0

/-- The group signals of R464: the BOOL of a kind 9 index. -/
def fltSignal (i : Nat) (s : State) : Bool :=
  if i < 0x3010 then
    (activeSrcs s).any fun x => x.id / 256 == i - 0x3000 && decide (2 ≤ sevNow x.id s)
  else if i = 0x3010 then s.flt.limp
  else if i = 0x3011 then s.flt.safe
  else if i = 0x3012 then s.flt.reqCtl
  else if i = 0x3013 then degradedNow s
  else if i = 0x3014 then s.flt.reqCell
  else if i = 0x3015 then s.flt.reqEl
  else idActive (s.fld (Ix.FLT_WATCH (i - 0x3020)) 0 12) s

end Sys2Proof.Machine
end

