-- ==== Sys2Proof/Machine/Flags.lean ====
section
/-!
DEFINITION. The status words that the block computes from its state: what a read of a read-only word gives (the Settings
table of every chapter). `State.view` gives any word; a word that no view computes reads as stored.
-/
namespace Sys2Proof.Machine

/-! ## Sharing (R543, R544) -/

/-- The factor of a class at a ladder level, in quarters of 1.00 (R544). -/
def factorAt (level k : Nat) : Nat :=
  if k < 2 ∨ 6 < k then 4 else 4 - Nat.min 4 (level - 4 * (6 - k))

/-- The factor of a class now, in quarters. -/
def factorAtLevel (s : State) (k : Nat) : Nat := factorAt s.share.level k

/-! ## Timetable (Table 6-8) -/

/-- The code of a phase clock state (Table 6-2). -/
def PcSt.code : PcSt → Nat
  | .unbound => 0 | .stopped => 1 | .acquiring => 2 | .tracking => 3 | .coasting => 4 | .lost => 5

/-- A phase clock's number as a `Pc`. -/
def pcOf (n : Nat) : Pc := ⟨n % 8, Nat.mod_lt _ (by decide)⟩

/-- Words of one phase clock that are views: NOW, PERIOD, STATE. -/
def viewPc (p : Pc) (w : Nat) (s : State) : Option Nat :=
  let c := s.tt.clocks[p]
  match w with
  | 4 => some (c.shown s.now % 2 ^ 32)
  | 5 => some c.cycle
  | 6 => some c.st.code
  | _ => none

/-- Slots in use by pool: 1 to 8 drawn from their own pool, 0 drawn from the shared range (R140). -/
def poolUse (p : Nat) (s : State) : Nat :=
  (s.tt.events.filter fun e => decide (e.slot < 4095) && if p = 0 then e.shared else !e.shared && e.spec.pool == p).length

/-- The sum of the pool sizes. -/
def poolSum (s : State) : Nat :=
  (List.range 8).foldl (fun a i => a + s.num (Ix.TT_POOL_1 + i)) 0

/-- The shared range under R140. -/
def sharedSize (s : State) : Nat := 4095 - poolSum s

/-- Timetable views. -/
def viewTt (i : Nat) (s : State) : Option Nat :=
  if i < 0x0580 then viewPc (pcOf ((i - 0x0500) / 16)) (i % 16) s
  else if i = Ix.TT_FREE_LO then some (s.freeCount % 2 ^ 32)
  else if i = Ix.TT_FREE_HI then some s.tt.freeHi.toNat
  else if 0x0610 ≤ i ∧ i ≤ 0x0618 then some (poolUse (i - 0x0610) s + s.tt.high.getD (i - 0x0610) 0 * 2 ^ 16)
  else if i = Ix.TT_SHARED_SIZE then some (sharedSize s)
  else none

/-! ## Transactions (Table 3-7) -/

/-- The owner field of a requester: kind and address. -/
def ownerCode : Option Requester → Nat
  | none => 0
  | some .host => 1
  | some (.fabric n) => 2 + n % 4096 * 4
  | some (.tester c) => 3 + c.val * 4

/-- Transaction views. -/
def viewTxn (i : Nat) (s : State) : Option Nat :=
  if i = Ix.TXN_STATE then
    some ((match s.txn.st with | .idle => 0 | .opened => 1 | .sealed => 2) + ownerCode s.txn.owner * 4)
  else if i = Ix.TXN_STAGED then some s.txn.staged.length
  else if i = Ix.TXN_DUE then
    some (match s.txn.due with
      | none => 0
      | some d => if d.clock < 8 then d.due % 2 ^ 32 else d.due / 40 % 2 ^ 32)
  else none

/-! ## Behaviour network (Table 7-10) -/

/-- Network views. -/
def viewBn (i : Nat) (s : State) : Option Nat :=
  let n := s.bn.cfg
  if i = Ix.BN_STATUS then some (n.lessons.length + n.blocks.length * 2 ^ 16)
  else if i = Ix.BN_SIGNALS then some (n.signals.length + (n.signals.filter (·.retain)).length * 2 ^ 16)
  else none

/-! ## Faults and the Report Card (Table 19-9) -/

/-- Fault collector views (page 0x30). -/
def viewFlt (i : Nat) (s : State) : Option Nat :=
  if i = Ix.FLT_STATUS then
    some ((activeSrcs s).foldl (fun a x => Nat.max a (sevNow x.id s)) 0 + b2n s.flt.limp * 8 + b2n s.flt.safe * 16
      + (activeSrcs s).length * 2 ^ 16)
  else if i = Ix.FLT_CLEAR then some 0
  else if i = Ix.FLT_SRC_STATE then
    let id := s.fld Ix.FLT_SRC_SEL 0 12
    match faultRow id with
    | none => some 0
    | some r =>
      let reps := (s.flt.srcs.filter (·.id == id)).foldl (fun a x => a + x.reports) 0
      some (b2n (idActive id s) + sevNow id s * 2 + r.kind.code * 16 + 64 + Nat.min reps 255 * 256)
  else if i = Ix.FLT_SRC_SEV then
    let id := s.fld Ix.FLT_SRC_SEL 0 12
    some (sevIn id .park s + sevIn id .watch s * 8 + sevIn id .ride s * 64 + sevIn id .workshop s * 512)
  else none

/-- Log views (page 0x31). -/
def viewLog (i : Nat) (s : State) : Option Nat :=
  if i = Ix.FLT_LOG_SEQ then some (s.flt.seq % 2 ^ 32)
  else if i = Ix.FLT_LOG_USE then some s.flt.flash.length
  else none

/-- Report Card views (page 0x34). -/
def viewRc (i : Nat) (s : State) : Option Nat :=
  if i = Ix.RC_STATUS then
    some (b2n s.flt.reqCtl + b2n s.flt.reqCell * 2 + b2n s.flt.reqEl * 4 + b2n (degradedNow s) * 8
      + packBits s.flt.warn * 256 + daysSinceRequest s * 2 ^ 16)
  else if i = Ix.RC_FLASH_BANK then some (worstBank s)
  else if i = Ix.RC_FLASH_DATA then some s.flt.eraseData
  else if i = Ix.RC_CELL then
    some (s.chg.learned % 65536 + s.chg.learned * 1000 / Nat.max 1 (s.fld Ix.CHG_CFG 16 16) % 1024 * 2 ^ 16)
  else if 0x3470 ≤ i ∧ i < 0x3480 then
    let x := s.tch.el[(⟨i % 16, Nat.mod_lt _ (by decide)⟩ : Fin 16)]
    (match x.record with
     | some r => some (unsigned x.drift 16 + Nat.min 65535 (x.drift.natAbs * 1000 / Nat.max 1 r.1) * 2 ^ 16)
     | none => some 0)
  else if 0x3410 ≤ i ∧ i < 0x3440 then some (s.flt.stages.getD (i - 0x3410) Stage.reset).units
  else if 0x3440 ≤ i ∧ i < 0x3470 then some (s.flt.stages.getD (i - 0x3440) Stage.reset).shorts
  else none

/-! ## Load switches (Table 8-11) -/

/-- WORKSHOP forcing acts: in WORKSHOP, and no LIMP or SAFE reaction makes it act as release (Table 19-4). -/
def forcingActs (s : State) : Bool := s.modes.mode == .workshop && !s.flt.limp && !s.flt.safe

/-- The forcing code of a channel, 0 for release. -/
def chForce (c : Ch) (s : State) : Nat := if forcingActs s then s.fld (chForceIx c) 0 3 else 0

/-- The code of a channel state (Table 8-6). -/
def ChSt.code : ChSt → Nat
  | .off => 0 | .inrush => 1 | .on => 2 | .tripped => 3 | .latched => 4 | .dropped => 5

/-- The code of a trip cause. -/
def Trip.code : Trip → Nat
  | .none => 0 | .short => 1 | .overload => 2 | .thermal => 3

/-- `HS_STATUS_n` and `LSD_STATUS_n`. -/
def hsStatus (c : Ch) (s : State) : Nat :=
  let x := s.chans[c]
  x.st.code + x.lastTrip.code * 2 ^ 4 + b2n (x.open_ || x.openOff) * 2 ^ 8 + b2n x.shortBat * 2 ^ 9 + b2n x.reverse * 2 ^ 10
    + b2n x.calDeferred * 2 ^ 11 + b2n x.derated * 2 ^ 12 + b2n (chForce c s != 0) * 2 ^ 13
    + (if x.drive = 0 && x.st != .on && x.st != .inrush then 0 else x.applied) * 2 ^ 16

/-- `HB_STATUS_n`. -/
def hbStatus (h : Hb) (s : State) : Nat :=
  let x := s.chans[hbCh h]
  let l := s.locks[h]
  x.st.code + x.lastTrip.code * 2 ^ 4 + l.last * 2 ^ 8 + b2n l.noEnd * 2 ^ 10 + b2n l.cooling * 2 ^ 11
    + b2n x.calDeferred * 2 ^ 12 + b2n (chForce (hbCh h) s != 0) * 2 ^ 13

/-- The latched bits of `n` channels from channel `first`. -/
def latchedBits (first n : Nat) (s : State) : Nat :=
  packBits ((List.range n).map fun k => match chOf (first + k) with | some c => s.chans[c].st == .latched | none => false)

/-- The code of a supply band. -/
def Band.code : Band → Nat
  | .crank => 0 | .normal => 1 | .jump => 2

/-- High-side views (pages 0x0C and 0x0E). -/
def viewHs (i : Nat) (s : State) : Option Nat :=
  if 0x0C80 ≤ i ∧ i < 0x0CA4 then (chOf (i - 0x0C80)).map fun c => hsStatus c s
  else if i = Ix.HS_LATCHED_LO then some (latchedBits 0 32 s)
  else if i = Ix.HS_LATCHED_HI then some (latchedBits 32 4 s)
  else if i = Ix.HS_SUPPLY_BAND then some s.band.code
  else none

/-- Low-side views (page 0x10). -/
def viewLs (i : Nat) (s : State) : Option Nat :=
  if 0x1020 ≤ i ∧ i < 0x1024 then (chOf (36 + (i - 0x1020))).map fun c => hsStatus c s
  else if i = Ix.LSD_LATCHED then some (latchedBits 36 4 s)
  else none

/-- H-bridge views (page 0x11). -/
def viewHb (i : Nat) (s : State) : Option Nat :=
  if i = 0x1120 then some (hbStatus 0 s)
  else if i = 0x1121 then some (hbStatus 1 s)
  else if i = Ix.HB_LATCHED then some (latchedBits 40 2 s)
  else none

/-! ## Lighting (Table 9-6) -/

/-- The code of a string state. -/
def StrSt.code : StrSt → Nat
  | .disabled => 0 | .dark => 1 | .lit => 2 | .tripped => 3 | .latched => 4 | .dropped => 5

/-- The forcing code of a string, 0 for release. -/
def strForce (t : Str) (s : State) : Nat := if forcingActs s then s.fld (Ix.LED_FORCE t.val) 0 2 else 0

/-- The mask of the populated positions. -/
def popMask (t : Str) (s : State) : Nat := 2 ^ Nat.min 16 (strCount t s) - 1

/-- The shunt mask as applied: positions at or above COUNT and bypassed positions are closed; a disabled string's shunts are
open (R194, R195, R214). -/
def appliedMask (t : Str) (s : State) : Nat :=
  if strCount t s = 0 then 0
  else (s.led.strs[t].mask ||| s.led.strs[t].bypass) ||| (0xFFFF - popMask t s)

/-- Positions of a string in outage. -/
def outageMask (t : Str) (s : State) : Nat := (s.led.strs[t].openMask ||| s.led.strs[t].shortMask) &&& popMask t s

/-- `LED_STR_STATUS_s`. -/
def strStatus (t : Str) (s : State) : Nat :=
  let x := s.led.strs[t]
  x.st.code + b2n x.ramp * 2 ^ 3 + b2n (decide (x.d < 10000) || (factorAtLevel s (if strSafety t s then 1 else 6) != 4)) * 2 ^ 4
    + b2n x.calDeferred * 2 ^ 5 + b2n (strForce t s != 0) * 2 ^ 6 + b2n x.shortBat * 2 ^ 7 + x.scene % 256 * 2 ^ 8
    + x.level % 65536 * 2 ^ 16

/-- Lighting views (page 0x12). -/
def viewLed (i : Nat) (s : State) : Option Nat :=
  let t : Str := ⟨i % 4, Nat.mod_lt _ (by decide)⟩
  if 0x1280 ≤ i ∧ i < 0x1284 then some (strStatus t s)
  else if 0x1284 ≤ i ∧ i < 0x1288 then some (appliedMask t s + s.led.strs[t].bypass * 2 ^ 16)
  else if 0x1290 ≤ i ∧ i < 0x1294 then some (s.led.strs[t].openMask + s.led.strs[t].shortMask * 2 ^ 16)
  else if i = Ix.LED_LATCHED then
    some (packBits ((List.finRange 4).map fun k => s.led.strs[k].st == .latched))
  else none

/-- The positions and level that an overlay claims on a string (R202). A HAZARD overlay whose word on the string is 0 takes
the union of the turn overlays' claims, at the higher of their levels (assumption log 14). -/
def claimOf (v : Nat) (t : Str) (s : State) : Nat × Nat :=
  let w := s.word (Ix.LED_OVL_MASK (4 * v + t.val))
  if v = 3 ∧ fld w 0 16 = 0 then
    let a := s.word (Ix.LED_OVL_MASK (4 + t.val))
    let b := s.word (Ix.LED_OVL_MASK (8 + t.val))
    ((fld a 0 16 ||| fld b 0 16) &&& popMask t s, Nat.max (fld a 16 16) (fld b 16 16))
  else (fld w 0 16 &&& popMask t s, fld w 16 16)

/-- The lighting signals of kind 9 (note to Table 9-5). -/
def ledSignal (i : Nat) (s : State) : Bool :=
  if i < 0x1240 then
    let t : Str := ⟨(i - 0x1200) / 16 % 4, Nat.mod_lt _ (by decide)⟩
    let x := s.led.strs[t]
    match i % 16 with
    | 0 => x.st == .lit
    | 1 => outageMask t s != 0
    | 2 => x.st == .tripped || x.st == .latched
    | 3 => bit (toWord (strStatus t s)) 4
    | 4 => s.led.corner.active && s.fld Ix.LED_CORNER_CFG 0 2 == t.val
    | _ => false
  else if i < 0x1244 then
    let v := i - 0x1240
    if v = 0 then (s.led.ovl.getD 0 (false, false)).1 else s.led.blink == some v && s.led.blinkOnPhase
  else (List.finRange 4).any fun t => (claimOf (i - 0x1244) t s).1 &&& outageMask t s != 0

/-! ## Motor drive (Table 10-7) -/

/-- A PRIO field as a class: 0 is taken as 6 (R543). -/
def prioClass (p : Nat) : Nat := if p = 0 then 6 else p

/-- The class of MA or MB (Table 22-3). -/
def motClass (b : Mot) (s : State) : Nat := prioClass (s.fld (Ix.MOT_CFG b.val) 8 3)

/-- A figure times a factor in quarters. -/
def scaled (x f : Nat) : Nat := x * f / 4

/-- A bridge's state. -/
def State.br (s : State) (b : Mot) : Bridge := s.mot.bridges[b]
/-- `MOT_LIMIT_b`. -/
def motLimitIx (b : Mot) : Nat := if b.val = 0 then Ix.MOT_LIMIT_0 else Ix.MOT_LIMIT_1
/-- PEAK in 10 mA. -/
def motPeak (b : Mot) (s : State) : Nat := s.fld (motLimitIx b) 0 16 * 10
/-- 70 % of the rated peak and rms currents (Table 10-1, R248). -/
def motRated70 (b : Mot) : Nat × Nat := if b.val = 0 then (1050, 700) else (350, 245)

/-- The WORKSHOP forcing code of a bridge: 0 release, 1 coast, 2 speed, 3 hold. -/
def motForce (b : Mot) (s : State) : Nat := if forcingActs s then s.fld (Ix.MOT_FORCE b.val) 0 2 else 0

/-- The shedding factor of a bridge in quarters; a forced bridge is not scaled (R546, R547). -/
def motFactor (b : Mot) (s : State) : Nat := if (s.br b).forced = 0 then factorAtLevel s (motClass b s) else 4

/-- The peak limit of R229 in 10 mA, with the degraded limit of R248 and the factor of Table 22-5. -/
def motPeakLimit (b : Mot) (s : State) : Nat :=
  let a := if (s.br b).cap = 0 then motPeak b s else Nat.min (motPeak b s) (s.br b).cap
  scaled (if degradedNow s then Nat.min a (motRated70 b).1 else a) (motFactor b s)

/-- The rms limit in 10 mA. -/
def motRmsLimit (b : Mot) (s : State) : Nat :=
  let a := s.fld (motLimitIx b) 16 16 * 10
  if degradedNow s then Nat.min a (motRated70 b).2 else a

/-- The Iq limit in force in 10 mA (R229). -/
def motIqLimit (b : Mot) (s : State) : Nat := motPeakLimit b s - motPeak b s * (s.br b).lowered / 100

/-- The position in µm (R238). -/
def motPos (b : Mot) (s : State) : Int := (s.br b).count * (s.fld (Ix.MOT_POS_SCALE b.val) 0 16 : Int) / 65536

/-- The code of a bridge state (Table 10-3). -/
def BrSt.code : BrSt → Nat
  | .off => 0 | .catch_ => 1 | .align => 2 | .forced => 3 | .run => 4 | .brake => 5 | .tripped => 6 | .latched => 7
  | .dropped => 8

/-- The code of a supply-watch band. -/
def Watch.code : Watch → Nat
  | .clear => 0 | .slow => 1 | .shortBrake => 2

/-- The code of a commanded operation: idle, running, done, DEFERRED. -/
def CmdSt.code : CmdSt → Nat
  | .idle => 0 | .running => 1 | .done => 2 | .deferred => 3

/-- `MOT_STATUS_b`. -/
def motStatus (b : Mot) (s : State) : Nat :=
  let x := s.br b
  let derated := decide (motIqLimit b s < motPeak b s) || (s.band == .jump && decide (1400 < x.vbat))
  x.st.code + b2n x.rampLimited * 2 ^ 4 + b2n derated * 2 ^ 5 + b2n x.calDeferred * 2 ^ 6 + b2n (motForce b s != 0) * 2 ^ 7
    + b2n (x.watch == .slow) * 2 ^ 8 + b2n (x.watch == .shortBrake) * 2 ^ 9 + b2n x.depthLimited * 2 ^ 10
    + b2n (decide (x.speed < 0)) * 2 ^ 11 + b2n x.homed * 2 ^ 12 + b2n x.clamped * 2 ^ 13 + x.lastTrip * 2 ^ 16

/-- Motor views of one bridge (page 0x17). -/
def viewBr (b : Mot) (row : Nat) (s : State) : Option Nat :=
  let x := s.br b
  match row with
  | 0 => some (motStatus b s)
  | 1 => some (unsigned x.speed 32)
  | 2 => some (unsigned x.iq 16 + unsigned x.id 16 * 2 ^ 16)
  | 3 => some (x.rms % 65536 + motIqLimit b s % 65536 * 2 ^ 16)
  | 5 => some (x.depth % 65536 + x.depthMax % 65536 * 2 ^ 16)
  | _ => none

/-- Motor views (pages 0x17 to 0x19). -/
def viewMot (i : Nat) (s : State) : Option Nat :=
  let m := s.mot
  if i < 0x170C then viewBr ⟨i % 2, Nat.mod_lt _ (by decide)⟩ ((i - 0x1700) / 2) s
  else if i = Ix.MOT_LATCHED then some (packBits ((List.finRange 2).map fun b => m.bridges[b].st == .latched))
  else if i = Ix.MOT_SUPPLY then
    some (m.bridges[0].vbat % 65536 + m.bridges[0].watch.code * 2 ^ 16 + m.bridges[1].watch.code * 2 ^ 18)
  else if i = 0x1804 ∨ i = 0x1805 then
    let b : Mot := ⟨(i - 0x1804) % 2, Nat.mod_lt _ (by decide)⟩
    some (if (s.br b).homed then unsigned (motPos b s) 32 else 0x80000000)
  else if i = Ix.MOT_CAL_CMD then some 0
  else if i = Ix.MOT_CAL_STATUS then
    some (m.cal.code + Nat.min m.bridges[0].calRun 15 * 2 ^ 4 + Nat.min m.bridges[1].calRun 15 * 2 ^ 8)
  else if i = 0x1902 ∨ i = 0x1903 then
    let x := m.brushed[(⟨(i - 0x1902) % 2, Nat.mod_lt _ (by decide)⟩ : Hb)]
    some (x.st.code + b2n x.rampLimited * 2 ^ 4 + b2n (x.watch == .slow) * 2 ^ 5 + b2n (x.watch == .shortBrake) * 2 ^ 6
      + unsigned x.duty 16 * 2 ^ 16)
  else none

/-! ## Inputs and motion (Tables 11-5 and 11-6) -/

/-- The code of a supply's status. -/
def Ssup.code : Ssup → Nat
  | .off => 0 | .ok => 1 | .outOfRange => 2 | .short => 3

/-- Whether the mode and power state have a sensor supply on (R260). -/
def ssupOn (k : Fin 2) (s : State) : Bool :=
  match s.modes.mode with
  | .park => false
  | .watch => s.flag Ix.IN_SSUP_CFG (2 + k.val) || (s.pw.pw != .standby && s.flag Ix.IN_SSUP_CFG k.val)
  | _ => s.flag Ix.IN_SSUP_CFG k.val

/-- Status of a sensor supply. -/
def ssupStatus (k : Fin 2) (s : State) : Ssup :=
  if !ssupOn k s then .off else if s.inp.ssup[k] = .off then .ok else s.inp.ssup[k]

/-- `IN_FQ_STATUS` of one input. -/
def fqStatus (f : Fin 4) (s : State) : Nat :=
  let x := s.inp.fq[f]
  let live := match x.lastEdge with | some t => decide (s.now < t + msP (s.num Ix.IN_FQ_TIMEOUT)) | none => false
  b2n live + b2n x.open_ * 2 + b2n x.range * 4 + b2n x.sync * 8

/-- Input views (page 0x1A). -/
def viewIn (i : Nat) (s : State) : Option Nat :=
  if i = Ix.IN_SW_STATE then some (packBits ((List.finRange 32).map fun n => (s.inp.sw[n]).closed))
  else if i = Ix.IN_SW_RAW then some (packBits ((List.finRange 32).map fun n => (s.inp.sw[n]).raw))
  else if i = Ix.IN_SW_WAKE then some s.inp.wake
  else if 0x1A38 ≤ i ∧ i < 0x1A40 then some (s.inp.an[(⟨i % 8, Nat.mod_lt _ (by decide)⟩ : Fin 8)]).value.toNat
  else if i = Ix.IN_SSUP_STATUS then some ((ssupStatus 0 s).code + (ssupStatus 1 s).code * 4)
  else if i = Ix.IN_FQ_STATUS then some (fqStatus 0 s + fqStatus 1 s * 16 + fqStatus 2 s * 256 + fqStatus 3 s * 4096)
  else if i = Ix.IN_ALT_STATUS then some (Nat.min s.inp.alt.amp 65535 + b2n s.inp.alt.marks * 2 ^ 16)
  else none

/-- IMU views (page 0x1B). -/
def viewImu (i : Nat) (s : State) : Option Nat :=
  let m := s.imu
  if i = Ix.IMU_STATUS then
    some (packBits [m.moving, m.tamper, m.fall, m.impact, m.calDeferred, m.zeroValid, m.fail] + Nat.min m.calRun 15 * 2 ^ 8
      + m.cmd.code * 2 ^ 12)
  else if i = Ix.IMU_LEAN then some (unsigned (m.lean / 1000) 16 + unsigned (m.pitch / 1000) 16 * 2 ^ 16)
  else if i = Ix.IMU_CAL_CMD then some 0
  else if i = Ix.IMU_CLEAR then some (b2n m.impact * 8)
  else none

/-! ## Touch (Table 12-6) -/

/-- The sense mask of a group. -/
def tchMask (g : Fin 8) (s : State) : Nat := s.fld (Ix.TCH_G_CFG g.val) 0 16

/-- The group of an electrode: by its sense mask, or as its DRIVE electrode. -/
def groupOf (e : Nat) (s : State) : Option Nat :=
  let find := fun (p : Fin 8 → Bool) => ((List.finRange 8).find? p).map (·.val)
  match find fun g => nbits (tchMask g s) e 1 == 1 with
  | some g => some g
  | none => find fun g => tchMask g s != 0 && s.flag (Ix.TCH_G_CFG g.val) 20 && s.fld (Ix.TCH_G_CFG g.val) 16 4 == e

/-- The electrodes of a group in ascending number. -/
def tchEls (g : Fin 8) (s : State) : List (Fin 16) := (List.finRange 16).filter fun e => nbits (tchMask g s) e.val 1 == 1

/-- An electrode with a finding of Table 12-4 or R295. -/
def elBad (x : Electrode) : Bool := x.isOpen || x.isShort || x.refBad

/-- An electrode belongs to a group: by its sense mask, or as its DRIVE electrode, which may serve several groups (R278). -/
def elOfGroup (g : Fin 8) (e : Fin 16) (s : State) : Bool :=
  tchMask g s != 0 && (nbits (tchMask g s) e.val 1 == 1
    || (s.flag (Ix.TCH_G_CFG g.val) 20 && s.fld (Ix.TCH_G_CFG g.val) 16 4 == e.val))

/-- A group is FAILED while an electrode of it has a finding (R296). -/
def tchFailed (g : Fin 8) (s : State) : Bool := (List.finRange 16).any fun e => elBad s.tch.el[e] && elOfGroup g e s

/-- A group is touched while any electrode of it is, and it is not STUCK (R283, R291). -/
def tchTouched (g : Fin 8) (s : State) : Bool := !(s.tch.gr[g]).stuck && (tchEls g s).any fun e => (s.tch.el[e]).touched

/-- `TCH_G_STATUS_g`. -/
def tchStatus (g : Fin 8) (s : State) : Nat :=
  let x := s.tch.gr[g]
  let ok := !tchFailed g s
  packBits [tchTouched g s && ok, x.glove && ok, x.water && ok, x.stuck, x.calDeferred, !ok, !x.baseline]
    + Nat.min x.calRun 15 * 2 ^ 8 + x.position.getD 0 % 256 * 2 ^ 16 + b2n x.position.isSome * 2 ^ 24

/-- Touch views (pages 0x1C and 0x1D). -/
def viewTch (i : Nat) (s : State) : Option Nat :=
  let e : Fin 16 := ⟨i % 16, Nat.mod_lt _ (by decide)⟩
  if i = Ix.TCH_TEST_STATUS then
    some (packBits ((List.finRange 16).map fun k => (s.tch.el[k]).isOpen || (s.tch.el[k]).isShort)
      + packBits ((List.finRange 16).map fun k => (s.tch.el[k]).refBad) * 2 ^ 16)
  else if i = Ix.TCH_CMD_STATUS then some (s.tch.cmd.code + s.tch.cmdDeferred * 2 ^ 8)
  else if i = Ix.TCH_CAL_CMD then some 0
  else if 0x1D28 ≤ i ∧ i < 0x1D30 then some (tchStatus ⟨i % 8, Nat.mod_lt _ (by decide)⟩ s)
  else if 0x1D30 ≤ i ∧ i < 0x1D40 then some ((s.tch.el[e]).rawSelf % 65536 + (s.tch.el[e]).rawMut % 65536 * 2 ^ 16)
  else if 0x1D40 ≤ i ∧ i < 0x1D50 then some ((s.tch.el[e]).baseSelf % 65536 + (s.tch.el[e]).baseMut % 65536 * 2 ^ 16)
  else none

/-! ## Charger (Table 13-7) -/

/-- The code of a charge state (Table 13-3). -/
def ChgSt.code : ChgSt → Nat
  | .off => 0 | .idle => 1 | .precharge => 2 | .fastCc => 3 | .fastCv => 4 | .done => 5 | .paused => 6 | .fault => 7

/-- The charger charges (Table 13-3). -/
def isCharging (st : ChgSt) : Bool := st == .precharge || st == .fastCc || st == .fastCv

/-- ILIM of the input in force. -/
def chgIlim (s : State) : Nat :=
  match s.chg.input with | 1 => s.fld Ix.CHG_LIMITS 0 16 | 2 => s.fld Ix.CHG_LIMITS 16 16 | _ => 0

/-- The limit in force (R311): the found limit, ILIM, and the share of class 4 (Table 22-5). -/
def chgLimit (s : State) : Nat :=
  Nat.min (Nat.min (s.chg.found.getD 50) (chgIlim s)) (scaled (chgIlim s) (factorAtLevel s 4))

/-- The charge current as it ramps towards its aim, 20 mA per ms (R313). -/
def chgNow (s : State) : Nat :=
  let c := s.chg
  let d := 20 * ((s.now - c.rampAt) / 40000)
  if c.rampFrom < c.aim then Nat.min c.aim (c.rampFrom + d) else Nat.max c.aim (c.rampFrom - d)

/-- BKOUT is on in this mode and not shut down: from the rail, or from the cell through the cell switch (R307, Tables 13-1, 13-5). -/
def bkoOn (s : State) : Bool :=
  let c := s.chg
  s.flag Ix.CHG_BKO_CFG s.modes.mode.code && !s.flag Ix.CHG_FAULTS 6 && !(c.conds.getD 6 false) &&
    (c.railUp || (s.flag Ix.CHG_BKO_CFG 4 && c.present && !c.cutOff && !c.bkoCut && !s.flag Ix.CHG_FAULTS 5
      && !(c.conds.getD 5 false)))

/-- The charge estimate in %. -/
def socPercent (s : State) : Nat := Nat.min 100 (s.chg.soc * 10 / Nat.max 1 (s.fld Ix.CHG_CFG 16 16))

/-- `CHG_STATUS`. -/
def chgStatus (s : State) : Nat :=
  let c := s.chg
  c.st.code + c.input * 2 ^ 3
    + packBits [c.aoOnCell, c.present, decide (chgNow s ≠ c.aim), c.calDeferred, c.svinPresent, bkoOn s,
                bkoOn s && !c.railUp, c.socValid, (c.inputLimited && isCharging c.st) || decide (factorAtLevel s 4 < 4)] * 2 ^ 5
    + c.window * 2 ^ 14 + Nat.min 7 c.calRun * 2 ^ 17

/-- Charger views (page 0x1E). -/
def viewChg (i : Nat) (s : State) : Option Nat :=
  let c := s.chg
  if i = Ix.CHG_STATUS then some (chgStatus s)
  else if i = Ix.CHG_CELL then some (c.cellMv % 65536 + unsigned c.cellMa 16 * 2 ^ 16)
  else if i = Ix.CHG_SOC then some (socPercent s + c.learned % 65536 * 2 ^ 16)
  else if i = Ix.CHG_INPUT_ACT then some (chgLimit s % 65536 + c.inputMa % 65536 * 2 ^ 16)
  else if i = Ix.CHG_SVIN then some (s.fld Ix.CHG_SVIN 0 16 + c.openMv % 65536 * 2 ^ 16)
  else none

/-! ## CAN and LIN (Tables 14-8 and 14-9), network sleep (Table 15-7) -/

/-- The code of a controller state (Table 14-5). -/
def CanSt.code : CanSt → Nat
  | .off => 0 | .config => 1 | .integrating => 2 | .active => 3 | .passive => 4 | .busOff => 5 | .sleep => 6

/-- The attempt of a buffer has left its arbitration field: its frame has begun (R336). -/
def begunNow (c : Can) (b : TxBuf) (s : State) : Bool :=
  match b.attempt with | some sof => decide (arbEnd c sof b.frame s ≤ s.now) | none => false

/-- A held cancel whose attempt has won its arbitration is TOO_LATE (R336). -/
def settleArb (c : Can) (s : State) : CanC :=
  let x := s.can.ctl[c]
  match x.bufs.find? fun b => b.cancel && begunNow c b s with
  | some b =>
    { x with lastCancel := 2, cancelBuf := b.buf,
             bufs := x.bufs.map fun y => if y.buf == b.buf then { y with cancel := false } else y }
  | none => x

/-- `CAN_STATUS_c`. -/
def canStatus (c : Can) (s : State) : Nat :=
  let x := s.can.ctl[c]
  x.st.code + packBits [decide (96 ≤ x.txErr ∨ 96 ≤ x.rxErr), x.timingBad, x.term] * 2 ^ 3
    + s.fld (Ix.CAN_TEST c.val) 0 2 * 2 ^ 6 + x.lastErr * 2 ^ 16

/-- Pending buffers from `lo` up, 32 of them. -/
def pendBits (c : Can) (lo : Nat) (s : State) : Nat :=
  packBits ((List.range 32).map fun k => (s.can.ctl[c]).bufs.any fun b => b.buf == lo + k)

/-- CAN views (pages 0x20 to 0x22). -/
def viewCan (i : Nat) (s : State) : Option Nat :=
  if h : i % 256 / 16 < 3 then
    let c : Can := ⟨i % 256 / 16, h⟩
    let x := s.can.ctl[c]
    let k := i - 16 * c.val
    if k = 0x2100 then some (canStatus c s)
    else if k = 0x2101 then some (x.txErr % 512 + Nat.min 255 x.rxErr * 2 ^ 16)
    else if k = 0x2005 then some 0
    else if k = 0x2200 then some (pendBits c 0 s)
    else if k = 0x2201 then some (pendBits c 32 s)
    else if k = 0x2202 then some ((settleArb c s).cancelBuf + (settleArb c s).lastCancel * 2 ^ 6)
    else none
  else none

/-- LIN views (page 0x25). -/
def viewLin (i : Nat) (s : State) : Option Nat :=
  if h : i % 256 / 16 < 2 then
    let x := s.lin.ch[(⟨i % 256 / 16, h⟩ : Lin)]
    if i % 16 = 2 then some (x.status + x.table % 256 * 2 ^ 8 + x.slot % 64 * 2 ^ 16) else none
  else none

/-- The code of an NM state (Table 15-1). -/
def NmSt.code : NmSt → Nat
  | .off => 0 | .awake => 1 | .ready => 2 | .prepare => 3 | .busSleep => 4 | .silent => 5

/-- False wakes of a channel in the past 24 h (R375). -/
def falseCount (c : Can) (s : State) : Nat :=
  ((s.nm.can[c]).falseAt.filter fun t => decide (s.rtcSecs < t + 86400)).length

/-- The escalation level a count reaches (Table 15-5). -/
def levelOf (n : Nat) (s : State) : Nat :=
  if s.fld Ix.NM_FW_CFG 16 8 ≤ n then 3 else if s.fld Ix.NM_FW_CFG 8 8 ≤ n then 2
  else if s.fld Ix.NM_FW_CFG 0 8 ≤ n then 1 else 0

/-- Hold pending at the coming PARK entry, or remaining, in minutes (`NM_FALSE_c`). -/
def nmHold (c : Can) (s : State) : Nat :=
  let x := s.nm.can[c]
  if s.modes.mode == .park then
    (match x.holdEnd with | some t => ceilDiv (t - s.now) (secP 60) | none => 0)
  else if x.level = 2 ∧ x.parkCount < falseCount c s then s.fld Ix.NM_FW_CFG 24 8 * 60
  else 0

/-- NM views (page 0x26). -/
def viewNm (i : Nat) (s : State) : Option Nat :=
  if i = Ix.NM_OFF_COUNT then some s.nm.offenders.length
  else if i = Ix.NM_FW_CLEAR ∨ i = Ix.NM_OFF_CLEAR then some 0
  else if i = 0x26C2 ∨ i = 0x26CA then
    let x := s.nm.lin[(⟨(i - 0x26C2) / 8 % 2, Nat.mod_lt _ (by decide)⟩ : Lin)]
    some (x.st + x.pulses * 2 ^ 3)
  else if h : i % 256 / 16 < 3 then
    let c : Can := ⟨i % 256 / 16, h⟩
    let x := s.nm.can[c]
    if i % 16 = 5 then
      some (x.st.code + packBits [x.need, x.held] * 2 ^ 3 + x.level * 2 ^ 5 + b2n x.unarmed * 2 ^ 7
        + Nat.min 255 x.repeats * 2 ^ 8 + x.pn % 65536 * 2 ^ 16)
    else if i % 16 = 7 then
      (match x.frozen with | some f => some (f.1 % 512 + Nat.min 255 f.2 * 2 ^ 16 + 2 ^ 31) | none => some 0)
    else if i % 16 = 8 then some (falseCount c s + x.level * 2 ^ 8 + nmHold c s % 65536 * 2 ^ 16)
    else none
  else none

/-- NM signals of kind 9 (R381), by index less 0x2600. -/
def nmSignal (k : Nat) (s : State) : Bool :=
  if k < 0x18 then
    let x := s.nm.can[(⟨k / 8 % 3, Nat.mod_lt _ (by decide)⟩ : Can)]
    match k % 8 with
    | 0 => x.st == .awake || x.st == .ready
    | 1 => x.st == .prepare
    | 2 => x.st == .silent
    | 3 => x.busWoken
    | _ => false
  else if k < 0x28 then
    let x := s.nm.lin[(⟨(k - 0x18) / 8 % 2, Nat.mod_lt _ (by decide)⟩ : Lin)]
    match k % 8 with
    | 0 => x.st == 1
    | 3 => x.busWoken
    | _ => false
  else if 0x30 ≤ k ∧ k < 0x60 then
    let x := s.nm.can[(⟨(k - 0x30) / 16 % 3, Nat.mod_lt _ (by decide)⟩ : Can)]
    nbits x.pn (k % 16) 1 == 1
  else false

/-! ## Dalrez fabric (Tables 16-8 and 17-4) -/

/-- The code of a link state (Table 16-5). -/
def LinkSt.code : LinkSt → Nat
  | .disabled => 0 | .down => 1 | .training => 2 | .up => 3 | .loop => 4

/-- The code of a Roll Call state in `FAB_NODE`. -/
def NodeSt.code : NodeSt → Nat
  | .unlisted => 0 | .listed => 1 | .root => 2

/-- `FAB_PORT_STATUS_p`. -/
def portStatus (p : Port) (s : State) : Nat :=
  let x := s.fab.ports[p]
  x.st.code + packBits [s.fab.parent == some p.val, x.child, x.lanes] * 2 ^ 3 + x.nbrAddr % 4096 * 2 ^ 8 + x.nbrPrio % 16 * 2 ^ 20

/-- The domain root's member record at this node. -/
def isDomainRoot (s : State) : Bool := !s.fab.domain.members.isEmpty && s.fab.domain.own == 0

/-- Fabric views (pages 0x28 to 0x2A). -/
def viewFab (i : Nat) (s : State) : Option Nat :=
  let f := s.fab
  let p : Port := ⟨i % 4 % 3, Nat.mod_lt _ (by decide)⟩
  if i = Ix.FAB_NODE then
    some ((if f.node == .unlisted then 0 else f.addr) + f.node.code * 2 ^ 12 + f.depth % 64 * 2 ^ 16 + (f.parent.getD 3) % 4 * 2 ^ 22)
  else if i = Ix.FAB_ROOT_LO then some (f.rootSerial % 2 ^ 32)
  else if i = Ix.FAB_ROOT_HI then some (f.rootSerial / 2 ^ 32 % 2 ^ 32)
  else if i = Ix.FAB_ROOT_INFO then some (s.fld Ix.FAB_ROOT_INFO 0 13 + f.rootPrio % 16 * 2 ^ 16)
  else if i = Ix.FAB_RC_CMD ∨ i = Ix.FAB_RELOAD_CMD then some 0
  else if i = Ix.FAB_ADDR_USE then
    if f.node == .root then
      some ((f.records.filter fun r => !r.listed).length + (4096 - f.records.length) * 2 ^ 16)
    else some 0
  else if 0x2810 ≤ i ∧ i < 0x2813 then some (portStatus p s)
  else if 0x2818 ≤ i ∧ i < 0x281B then some ((f.ports[p]).nbrSerial % 2 ^ 32)
  else if 0x281C ≤ i ∧ i < 0x281F then some ((f.ports[p]).nbrSerial / 2 ^ 32 % 2 ^ 32)
  else if i = Ix.FAB_REQ_USE then some (f.outstanding.length + f.high * 2 ^ 16)
  else if 0x2914 ≤ i ∧ i < 0x2917 then
    let x := f.ports[p]
    some (x.rate + b2n (x.rate != 0) * 4 + (if x.rate = 0 then 0 else x.credits) * 2 ^ 8)
  else if i = Ix.FAB_DOMAIN_STATUS then
    some (f.domain.own + b2n (isDomainRoot s) * 8
      + packBits ((List.range 8).map fun k => f.resolved.any fun r => r.ordinal == k) * 2 ^ 4
      + packBits ((List.range 8).map fun k => f.reloaded.contains k) * 2 ^ 12)
  else if i = Ix.FAB_RELOAD_STATUS then some (f.reload + Nat.min 65535 f.reloadMs * 2 ^ 16)
  else none

/-! ## Stationarity (R84) -/

/-- MODE of a frequency input. -/
def fqMode (f : Fin 4) (s : State) : Nat := s.fld (Ix.IN_FQ_CFG f.val) 0 2
/-- USE: 0 raw, 1 CRK, 2 WHF, 3 WHR. -/
def fqUse (f : Fin 4) (s : State) : Nat := s.fld (Ix.IN_FQ_CFG f.val) 2 2
/-- `IN_FQ_TIMEOUT` in base periods. -/
def fqTimeoutP (s : State) : Nat := msP (s.num Ix.IN_FQ_TIMEOUT)

/-- The source input of a use: the lowest-numbered one in a mode other than OFF (R594). -/
def fqSource (use : Nat) (s : State) : Option (Fin 4) :=
  (List.finRange 4).find? fun f => fqMode f s != 0 && fqUse f s == use

/-- CYCLES of the stator tap, 0 unused. -/
def altCycles (s : State) : Nat := s.fld Ix.IN_ALT_CFG 0 8

/-- Crank rotation is detected (R266). -/
def crankRotates (s : State) : Bool :=
  let late := fun (t : Option Nat) => match t with | some u => decide (s.now < u + fqTimeoutP s) | none => false
  match fqSource 1 s with
  | some f => late (s.inp.fq[f]).lastEdge || (altCycles s != 0 && s.inp.alt.marks && late s.inp.alt.lastCross)
  | none => altCycles s != 0 && s.inp.alt.marks && late s.inp.alt.lastCross

/-- Both wheel speeds lie below 1 km/h; one that is not configured counts as met (R84). -/
def wheelsSlow (s : State) : Bool :=
  [2, 3].all fun use => match fqSource use s with | some f => decide ((s.inp.fq[f]).speed.toNat < 65536) | none => true

/-- The vehicle is stationary (R84); under the holding configuration the IMU alone judges (R48). -/
def stationary (s : State) : Bool :=
  if s.boot.holding then !s.imu.moving else wheelsSlow s && !s.imu.moving && !crankRotates s

/-! ## The vehicle domain (R390, R411, R422) -/

/-- A root-loaded device waits for its reload, or receives it (R422). -/
def reloading (s : State) : Bool := s.fab.reload == 1 || s.fab.reload == 2

/-- DOMAIN_TAG (R390). -/
def ownTag (s : State) : Nat := if reloading s then 0 else s.num Ix.FAB_DOMAIN_TAG

/-- The member a source address stands for, resolved since the last CLOSE. -/
def memberAt (a : Nat) (s : State) : Option Resolved := s.fab.resolved.find? fun r => r.addr == a

/-- A peer is in the same vehicle domain (R411). -/
def sameDomain (a : Nat) (s : State) : Bool :=
  match memberAt a s with | some r => r.tag == ownTag s && ownTag s != 0 | none => false

/-- A member of a vehicle domain that is not its root. -/
def isMember (s : State) : Bool := !s.fab.domain.members.isEmpty && s.fab.domain.own != 0

/-- The ports that are UP. -/
def upPorts (s : State) : List Port := (List.finRange 3).filter fun p => (s.fab.ports[p]).st == .up

/-- A link is up to a node outside the vehicle domain (Table 4-1 bit 5). -/
def outsideLink (s : State) : Bool :=
  (upPorts s).any fun p => !s.fab.domain.members.any fun m => m.serial == (s.fab.ports[p]).nbrSerial

/-- A member has the link to its root while it is listed and has resolved ordinal 0 (R92, R411). -/
def rootLinked (s : State) : Bool := s.fab.node != .unlisted && s.fab.resolved.any fun r => r.ordinal == 0

/-! ## The start, modes and power (Tables 1-8, 2-9, 4-5, 5-9) -/

/-- The signer's key by its SIGNER_ID: a valid slot (R478). -/
def signerKey (id : Nat) (s : State) : Option (List Byte) :=
  (s.sec.signers.filterMap fun x => x).findSome? fun x => if x.id == id && !x.key.isEmpty then some x.key else none

/-- The signature of an image or a bunch over all but its last 80 bytes verifies under a key (R38, R511). -/
def blockSigned (key img : List Byte) : Bool :=
  Config.ecdsaVerify key (img.take (img.length - 80)) (img.drop (img.length - 64))

/-- A mirror slot is valid (R46): its record's CRC-32 is correct, its image's SHA-256 matches the record's, and the image's
signature verifies under a valid signer. -/
def mirrorValid (n : Fin 2) (s : State) : Bool :=
  match s.boot.mirror[n] with
  | some x =>
    x.crcOk && x.sha == Config.sha256 x.image
      && (match signerKey (leAt x.image 0x34 4) s with | some k => blockSigned k x.image | none => false)
  | none => false

/-- The active slot (R46). -/
def activeMirror (s : State) : Option (Fin 2) :=
  let c := fun (n : Fin 2) => match s.boot.mirror[n] with | some x => x.counter | none => 0
  match mirrorValid 0 s, mirrorValid 1 s with
  | true, true => if c 0 < c 1 then some 1 else some 0
  | true, false => some 0
  | false, true => some 1
  | false, false => none

/-- The image of the active slot. -/
def mirrorImage (s : State) : Option (List Byte) :=
  (activeMirror s).bind fun n => (s.boot.mirror[n]).map (·.image)

/-- Identity views (page 0x00). -/
def viewId (i : Nat) (_ : State) : Option Nat :=
  if i = Ix.SYS_SERIAL_LO then some (Config.serial.toNat % 2 ^ 32)
  else if i = Ix.SYS_SERIAL_HI then some (Config.serial.toNat / 2 ^ 32)
  else none

/-- The owner the OWNERS section in force declares of an instance; the default where it declares none (R539). -/
def ownerIn (kind inst : Nat) (owners : List (Nat × Nat × Nat)) : Nat :=
  match owners.find? fun e => e.1 == kind && e.2.1 == inst with | some e => e.2.2 | none => 0

/-- `SYS_OWNERS` (Table 22-6). -/
def ownersWord (s : State) : Nat :=
  let o := s.boot.owners
  o.length % 256
    + packBits ((List.range 8).map (fun n => ownerIn 1 (24 + n) o == 1) ++ [ownerIn 2 0 o == 1, ownerIn 3 0 o == 1, ownerIn 3 1 o == 1])
      * 2 ^ 8

/-- System views (page 0x01). -/
def viewSys (i : Nat) (s : State) : Option Nat :=
  if i = Ix.SYS_PROC_STATE then
    some (s.procs.principal.code + s.procs.app.code * 4 + s.procs.motor.code * 16 + s.procs.park.code * 64
      + s.procs.fabric.code * 256)
  else if i = Ix.SYS_SHARE_STATUS then
    some (s.share.level + (s.num Ix.SYS_SHARE_STATUS) / 2 ^ 8 * 2 ^ 8)
  else if i = Ix.SYS_OWNERS then some (ownersWord s)
  else none

/-- Mode views (page 0x02). -/
def viewMode (i : Nat) (s : State) : Option Nat :=
  if i = Ix.MODE_STATE then some (s.modes.mode.code + s.modes.prev.code * 4 + s.modes.row * 16)
  else if i = Ix.MODE_WS_REQUEST then some 0
  else none

/-! ## Domains (Tables 1-1, 5-1) -/

/-- The device runs: the Principal is up, and CORE and PER are powered (Table 5-1). -/
def deviceUp (s : State) : Bool :=
  s.procs.principal == .running && (s.pw.pw == .run || s.pw.pw == .doze || s.pw.pw == .standby)

/-- A parameter word configures a switch stage. -/
def stageWord (i : Nat) : Bool :=
  decide (Ix.HS_CFG 0 ≤ i ∧ i < Ix.HS_CFG 0 + 36) || decide (Ix.LSD_CFG 0 ≤ i ∧ i < Ix.LSD_CFG 0 + 4)
    || decide (Ix.HB_CFG 0 ≤ i ∧ i < Ix.HB_CFG 0 + 2)

/-- The configuration uses a block of PWR (R100): a channel's word differs from its reset value, a block of the network requests a
channel or a string, or a string has positions (assumption log 57). -/
def usesPwr (s : State) : Bool :=
  s.words.any (fun p => stageWord p.1) || (s.bn.cfg.blocks.any fun b => decide (0x20 ≤ b.typ ∧ b.typ ≤ 0x22))
    || (List.finRange 4).any fun t => strCount t s != 0

/-- The configuration uses a block of MOT (R100): a bridge with poles, or an H-bridge as a brushed motor (R245). -/
def usesMot (s : State) : Bool :=
  motPoles 0 s != 0 || motPoles 1 s != 0 || hbMode 0 s == 2 || hbMode 1 s == 2

/-- The configuration uses a block of FAB (R100): a port is enabled, as every port is while a reload is awaited (R422), or DZ0 serves
the host (R418). -/
def usesFab (s : State) : Bool :=
  reloading s || s.fld Ix.FAB_CFG 0 3 != 0 || s.flag (Ix.FAB_STREAM_CFG 0) 2

/-- The configuration uses a block of CHG (R100): the cell, SVIN or charging from VBAT, BKOUT in a mode, or SVIN as a wake source
(assumption log 57). -/
def usesChg (s : State) : Bool :=
  s.fld Ix.CHG_CFG 2 3 != 0 || s.fld Ix.CHG_BKO_CFG 0 4 != 0 || s.flag Ix.PWR_WAKE_ENABLE 6 || s.fld Ix.PWR_DEEP_WAKE 0 4 == 4

/-- PWR is powered (Table 5-1); in SCRAPPED outputs are inert (Table 0-5). -/
def pwrOn (s : State) : Bool := deviceUp s && usesPwr s && !s.sec.wiped
/-- MOT is powered: not in STANDBY (Table 5-1). -/
def motOn (s : State) : Bool := deviceUp s && s.pw.pw != .standby && usesMot s && !s.sec.wiped
/-- FAB is powered: not in STANDBY (Table 5-1). -/
def fabOn (s : State) : Bool := deviceUp s && s.pw.pw != .standby && usesFab s
/-- CHG is powered: in RETAIN and DEEP the power path and SVIN detect alone (Table 5-1). -/
def chgOn (s : State) : Bool :=
  (deviceUp s || s.pw.pw == .retain || s.pw.pw == .deep) && usesChg s && !s.sec.wiped

/-- `PWR_DOMAINS` (Table 5-1): AO, CORE, PER, PWR, MOT, FAB, CHG. -/
def domainsOn (s : State) : Nat :=
  packBits [deviceUp s || s.pw.pw == .retain || s.pw.pw == .deep, deviceUp s, deviceUp s, pwrOn s, motOn s, fabOn s, chgOn s]

/-- Time in RUN or STANDBY in WATCH since the last read, in ms, with the stretch that runs. -/
def watchTime (stby : Bool) (s : State) : Nat :=
  let d := if s.modes.mode == .watch && (s.pw.pw == .standby) == stby && s.started then s.now - s.pw.since else 0
  ((if stby then s.pw.watchStby else s.pw.watchRun) + d) / msP 1

/-- Power views (page 0x03). -/
def viewPwr (i : Nat) (s : State) : Option Nat :=
  if i = Ix.PWR_DOMAINS then some (domainsOn s)
  else if i = Ix.PWR_RTC_TIME then some s.rtcSecs
  else if i = Ix.PWR_WATCH_RUN then some (watchTime false s)
  else if i = Ix.PWR_WATCH_STBY then some (watchTime true s)
  else none

/-- Harness key views (page 0x04, first half). What `HK_WB_CMD` reads while a write-back runs is a free value: Table 2-9 says only
that it reads 0 when idle (DESIGN CHOICE, assumption log 60). -/
def viewHk (i : Nat) (s : State) : Option Nat :=
  if i = Ix.HK_MIRROR_STATE then
    some (packBits [mirrorValid 0 s, mirrorValid 1 s, activeMirror s == some 1, s.boot.mirrorDue.isSome])
  else if i = Ix.HK_MIRROR_SEQ then some (match mirrorImage s with | some x => leAt x 0x0C 4 | none => 0)
  else if i = Ix.HK_WB_CMD then some (if s.boot.writing.isSome then s.freeWord.toNat else 0)
  else none

/-! ## Updates (Table 21-10) -/

/-- The lowest byte offset whose unit has not been received, at most the total (Table 18-6). -/
def imgNext (x : ImgSession) : Nat :=
  match x.got with
  | (0, e) :: _ => Nat.min x.total (e * 16)
  | _ => 0

/-- VBAT below 11.8 V and the charge estimate below 40 %, an invalid estimate counting as 0 (R527). -/
def energyLow (s : State) : Bool :=
  decide (s.fld Ix.SYS_SUPPLY 0 16 < 1180) && decide ((if s.chg.socValid then socPercent s else 0) < 40)

/-- The Hall Pass is granted (R527). -/
def hallPass (s : State) : Bool := stationary s && !energyLow s && s.sec.owner.isNone

/-- FW_VERSION of the firmware in Bank A. -/
def bankAVersion (s : State) : Word := match s.upd.bankA with | some b => toWord (leAt b 0x10 4) | none => Config.factoryVersion

/-- SEC_VER of the firmware in Bank A. -/
def bankASec (s : State) : Nat := match s.upd.bankA with | some b => leAt b 0x14 1 | none => Config.factorySec

/-- `UPD_STATE`: before the first LESSON_TICK of a start only the Bank S state and the image in force show. -/
def updStateWord (s : State) : Nat :=
  s.upd.st + (if s.started then packBits [hallPass s, !stationary s, energyLow s, s.sec.owner.isSome] * 8 else 0)
    + b2n s.upd.recovering * 128

/-- Sprigs of the present bunch held, and its COUNT. -/
def updProgress (s : State) : Nat :=
  let u := s.upd
  match u.manifest with
  | some m => Nat.max u.bitmap.length (u.store.filter (·.id == u.bunch)).length % 8192 + m.count * 2 ^ 16
  | none =>
    let own := u.store.filter (·.id == u.bunch)
    if u.bunch = 0 then 0 else own.length % 8192 + (match own with | x :: _ => x.count | [] => 0) * 2 ^ 16

/-- Update views (page 0x37). -/
def viewUpd (i : Nat) (s : State) : Option Nat :=
  let u := s.upd
  if i = Ix.UPD_STATE then some (updStateWord s)
  else if i = Ix.UPD_BUNCH_ID then some u.bunch
  else if i = Ix.UPD_PROGRESS then some (updProgress s)
  else if i = Ix.UPD_SECVER then some (u.counter + (if s.started then bankASec s % 128 * 2 ^ 8 else 0))
  else if i = Ix.UPD_LAST then some u.last
  else if i = Ix.UPD_CMD then some 0
  else if i = Ix.UPD_COPY then
    some (u.copied % 256 + (if u.copied = 0 then 0 else u.marked % 256 * 2 ^ 8) + b2n u.resumed * 2 ^ 16)
  else if i = Ix.UPD_STORE then some u.store.length
  else if i = Ix.UPD_DEADLINE then some (u.deadline.getD 0)
  else none

/-! ## Host, diagnostics and security (Tables 18-11, 20-14) -/

/-- The party of a requester: 0 host, 2 to 4 testers. -/
def partyOf : Requester → Option (Fin 5)
  | .host => some 0
  | .fabric _ => none
  | .tester c => some ⟨2 + c.val, by omega⟩

/-- The privilege a requester holds (R60, R481). -/
def privOf (r : Requester) (s : State) : Nat :=
  match r with
  | .fabric a => if sameDomain a s then 1 else 0
  | .host => (s.sec.parties[0]).priv
  | .tester c => (s.sec.parties[(⟨2 + c.val, by omega⟩ : Fin 5)]).priv

/-- Host views (page 0x2C). -/
def viewHst (i : Nat) (s : State) : Option Nat :=
  if i = Ix.HST_STATUS then
    some (Nat.min 63 (s.hst.queue.length + s.hst.replies.length) + privOf .host s * 2 ^ 6
      + (match s.upd.session with | some x => x.st % 4 * 2 ^ 8 + b2n x.uds * 2 ^ 10 | none => 0))
  else if i = Ix.HST_IMG_NEXT then some (match s.upd.session with | some x => imgNext x | none => 0)
  else none

/-- Diagnostic views (page 0x2D). -/
def viewDiag (i : Nat) (s : State) : Option Nat :=
  if i = Ix.DIAG_STATUS then
    some (if s.started then s.uds.session + s.uds.chan % 4 * 4
      + (s.sec.parties[(⟨2 + s.uds.chan % 3, by omega⟩ : Fin 5)]).priv * 16 else 0)
  else none

/-- How many of eight fuses read blown. -/
def blown (g : Nat) : Nat := ((List.range 8).filter fun k => nbits g k 1 == 1).length

/-- Programmed fuse groups (R476): at least five of eight fuses blown. -/
def fuseGroups (s : State) : Nat := (s.sec.fuses.filter fun g => decide (5 ≤ blown g)).length

/-- The life-cycle state (R476). -/
def State.life (s : State) : Life :=
  match fuseGroups s with | 0 => .blank | 1 => .maker | 2 => .field | 3 => .returned | _ => .scrapped

/-- The key slot of a CAN key or of SA1. -/
def keySlot (n : Nat) (s : State) : KeySlot := s.sec.keys.getD n KeySlot.reset

/-- `SEC_STATUS`. -/
def secStatus (s : State) : Nat :=
  b2n s.sec.entropyOk + b2n (keySlot 0 s).key.isSome * 2
    + packBits ((List.range 8).map fun k => (keySlot (k + 1) s).key.isSome) * 2 ^ 2
    + packBits (s.sec.signers.map fun x => match x with | some y => !y.key.isEmpty | none => false) * 2 ^ 10

/-- Whether authenticated command `k` is configured. -/
def acmdUsed (k : Nat) (s : State) : Bool := s.flag (Ix.SEC_ACMD_CFG k) 6

/-- The key slot of command `k`. -/
def acmdKey (k : Nat) (s : State) : Nat := s.fld (Ix.SEC_ACMD_CFG k) 3 3 + 1

/-- The conditions of R506, in the order of `SEC_CERT`. -/
def certConds (s : State) : List Bool :=
  [s.life == .field, s.flag Ix.SEC_CFG 0, decide (1 ≤ s.fld Ix.FLT_COLLECT_PRIV 0 2),
   (List.range 16).all fun k => !acmdUsed k s || (keySlot (acmdKey k s) s).key.isSome, s.sec.entropyOk,
   Config.certLists (s.word Ix.SYS_FW_VERSION)]

/-- `SEC_CERT`. -/
def secCert (s : State) : Nat := packBits (certConds s) + b2n ((certConds s).all id) * 2 ^ 8

/-- The refusal of R496 remaining, in minutes. -/
def refusalLeft (s : State) : Nat :=
  match s.sec.refusal with
  | some (t, h) => ceilDiv (t + secP (3600 * h) - s.now) (secP 60)
  | none => 0

/-- The debug port is unlocked or needs no unlock (Table 20-12). -/
def debugOpen (s : State) : Bool :=
  match s.life with | .blank => true | .maker | .returned => s.sec.unlocked | .field | .scrapped => false

/-- Security views (page 0x35). -/
def viewSec (i : Nat) (s : State) : Option Nat :=
  let c := s.sec
  let slot := c.signers.getD (s.fld Ix.SEC_SIGNER_SEL 0 3) none
  if i = Ix.SEC_STATUS then some (secStatus s)
  else if i = Ix.SEC_SIGNER_ID then some (match slot with | some x => x.id | none => 0)
  else if i = Ix.SEC_SIGNER_STATE then
    some (match slot with | some x => b2n (!x.key.isEmpty) + b2n x.key.isEmpty * 2 + x.ver % 65536 * 2 ^ 16 | none => 0)
  else if i = Ix.SEC_REVOKE_VER then some c.revokedVer
  else if i = Ix.SEC_FLOOR then some c.floor
  else if i = Ix.SEC_ADOPT then
    some ((match c.adoption with | .absent => 0 | .present _ _ => 1 | .corrupt => 2)
      + packBits [c.permit.isSome, c.adopted, c.refused] * 4)
  else if i = Ix.SEC_CERT then some (if s.started then secCert s else 0)
  else if 0x3530 ≤ i ∧ i < 0x3540 then some (if acmdUsed (i - 0x3530) s then (keySlot (acmdKey (i - 0x3530) s) s).fv else 0)
  else none

/-- Life-cycle views (page 0x36). -/
def viewLc (i : Nat) (s : State) : Option Nat :=
  let c := s.sec
  if i = Ix.LC_STATE then
    some (s.life.code + b2n c.owner.isSome * 8 + b2n c.recovered * 16 + fuseGroups s * 2 ^ 8)
  else if i = Ix.LC_LAST then some c.lcLast
  else if 0x3602 ≤ i ∧ i ≤ 0x3606 then some 0
  else if i = Ix.LC_OWNER_STATUS then some (c.ownerLast + c.wrong % 16 * 2 ^ 4 + Nat.min 65535 (refusalLeft s) * 2 ^ 16)
  else if i = Ix.LC_TEST_PORT then
    some (if s.started then
      packBits [s.life != .field && s.life != .scrapped, debugOpen s, s.life != .field && s.life != .scrapped] else 0)
  else none

/-! ## Any word -/

/-- The view of a word by its page, none where the word store holds it. -/
def viewPage (i : Nat) (s : State) : Option Nat :=
  match i / 256 with
  | 0x00 => viewId i s
  | 0x01 => viewSys i s
  | 0x02 => viewMode i s
  | 0x03 => viewPwr i s
  | 0x04 => if i < 0x0480 then viewHk i s else viewTxn i s
  | 0x05 | 0x06 => viewTt i s
  | 0x08 => viewBn i s
  | 0x0C | 0x0E => viewHs i s
  | 0x10 => viewLs i s
  | 0x11 => viewHb i s
  | 0x12 => viewLed i s
  | 0x17 | 0x18 | 0x19 => viewMot i s
  | 0x1A => viewIn i s
  | 0x1B => viewImu i s
  | 0x1C | 0x1D => viewTch i s
  | 0x1E => viewChg i s
  | 0x20 | 0x21 | 0x22 => viewCan i s
  | 0x25 => viewLin i s
  | 0x26 => viewNm i s
  | 0x28 | 0x29 | 0x2A => viewFab i s
  | 0x2C => viewHst i s
  | 0x2D => viewDiag i s
  | 0x30 => viewFlt i s
  | 0x31 => viewLog i s
  | 0x34 => viewRc i s
  | 0x35 => viewSec i s
  | 0x36 => viewLc i s
  | 0x37 => viewUpd i s
  | _ => none

/-- What a word reads as. -/
def State.view (s : State) (i : Nat) : Word :=
  match viewPage i s with
  | some n => toWord n
  | none => s.word i

/-! ## Service status signals (kind 9 of Table 7-2) -/

/-- The word a kind 9 signal reads. -/
def serviceSignal (i : Nat) (s : State) : Word :=
  if 0x3000 ≤ i ∧ i < 0x3030 then toWord (b2n (fltSignal i s))
  else if 0x1200 ≤ i ∧ i < 0x1248 then toWord (b2n (ledSignal i s))
  else if 0x2600 ≤ i ∧ i < 0x2660 then toWord (b2n (nmSignal (i - 0x2600) s))
  else if 0x1E00 ≤ i ∧ i < 0x1E0E then toWord (b2n (bit (toWord (chgStatus s)) (i - 0x1E00)))
  else if 0x3500 ≤ i ∧ i < 0x3510 then
    let a := s.sec.acmds.getD (i - 0x3500) (0, 0, 0)
    toWord (a.1 % 256 * 65536 + a.2.1 * 256 + a.2.2)
  else if i = 0x3520 then toWord (b2n s.sec.owner.isSome)
  else if i = 0x3521 then toWord (b2n s.sec.adopted)
  else 0

end Sys2Proof.Machine
end

