-- ==== Sys2Proof/Machine/Ready.lean ====
section
/-!
DEFINITION. What a command needs before it can act: the power domain of its block and the processor that owns its work (R9, R10), the
return from STANDBY, the dwells of the mode manager, and how a command ends.
-/
namespace Sys2Proof.Machine

/-! ## Signals (R150) -/

/-- TYPE of a signal: 0 boolean, 1 FIX, 2 integer. -/
def sigType (n : Nat) (s : State) : Nat := match s.bn.cfg.signals[n]? with | some g => g.typ | none => 0

/-- The published value of a signal (R150, Table 7-2). -/
def sigValue (n : Nat) (s : State) : Word :=
  if n = 0x7FE then 1
  else if n = 0x7FF then 0
  else match s.bn.cfg.signals[n]? with
    | none => 0
    | some g =>
      if g.kind = 9 then serviceSignal g.index s
      else if g.kind = 10 then s.word (Ix.BN_TUNE g.index)
      else if g.kind = 11 then s.word (Ix.BN_HOST g.index)
      else if g.kind = 12 then toWord s.modes.mode.code
      else match s.bn.sigs[n]? with | some x => x.val | none => g.init

/-! ## The inputs of the mode manager (R83, R85) -/

/-- The ignition request (R83). -/
def ignition (s : State) : Bool :=
  if s.flag Ix.MODE_IGN_SIGNAL 31 && isMember s then s.modes.rootRide else sigValue (s.fld Ix.MODE_IGN_SIGNAL 0 11) s != 0

/-- A configured CAN or LIN channel is not in bus sleep (Table 4-1 bit 3, Table 5-4). -/
def busAwake (s : State) : Bool :=
  ((List.finRange 3).any fun c => match (s.nm.can[c]).st with | .off | .busSleep | .silent => false | _ => true)
    || (List.finRange 2).any fun l => (s.nm.lin[l]).st == 1

/-- A Report Card write is due (R469): ten minutes after the last one, while accumulators differ from their flash copy (assumption
log 58). -/
def cardDue (s : State) : Bool := decide (s.flt.cardAt + secP 600 ≤ s.now) && s.flt.stages != s.flt.stagesFlash

/-- A Data flash write is pending: the mirror, the fault log or the Report Card (Table 4-1 bit 7). -/
def flashPending (s : State) : Bool := s.boot.mirrorDue.isSome || !s.flt.buf.isEmpty || cardDue s

/-- The stay-awake set, bits 0 to 9 (Table 4-1). -/
def stayBits (s : State) : List Bool :=
  [ignition s, sigValue (s.fld Ix.MODE_STAY_SIGNAL 0 11) s != 0, s.flag Ix.MODE_HOST_STAY 0, busAwake s,
   isCharging s.chg.st || s.chg.svinPresent, outsideLink s, s.txn.st == .sealed, flashPending s,
   isMember s && s.modes.rootAwake, isDomainRoot s && !s.modes.membersAwake.isEmpty]

/-- The set as `MODE_STAY_AWAKE` shows it, from the first LESSON_TICK on. -/
def staySet (s : State) : Nat := if s.started then packBits (stayBits s) else 0

/-- The set that row 5 judges: for a domain root bit 9 is disregarded. -/
def stayEmpty (s : State) : Bool := !((stayBits s).take 9).any id

/-! ## Dwells (Table 4-2, R92) -/

/-- The mode manager runs with its pair, from the first LESSON_TICK on (R82). -/
def pairModes (s : State) : Bool := s.started && deviceUp s && s.procs.app == .running

/-- Since when a condition holds: from the present instant where it did not hold before, none where it does not hold. -/
def holdsSince (c : Bool) (now : Nat) (old : Option Nat) : Option Nat := if c then some (old.getD now) else none

/-- The dwells in a state, from those before it: all restart from zero with the pair (04, "When the application pair stops"). -/
def dwellsOf (s : State) (d : Dwells) : Dwells :=
  if pairModes s then
    { ignOn := holdsSince (ignition s) s.now d.ignOn
      ignOff := holdsSince (!ignition s) s.now d.ignOff
      empty := holdsSince (stayEmpty s) s.now d.empty
      moved := holdsSince (!stationary s) s.now d.moved
      unlinked := holdsSince (isMember s && !rootLinked s) s.now d.unlinked
      resting := holdsSince (wheelsSlow s && !crankRotates s) s.now d.resting }
  else Dwells.reset

/-- The dwells after a command: judged as the command found the block at the instant it reaches, and as it leaves the block. -/
def track (s t : State) : State := { t with dwell := dwellsOf t (dwellsOf { s with now := t.now } s.dwell) }

/-- A dwell of `p` base periods is over: its condition has held since an instant, counted from no earlier than `from_`. -/
def dwellOver (since : Option Nat) (from_ p : Nat) (s : State) : Bool :=
  match since with
  | some t => decide (Nat.max t from_ + p ≤ s.now)
  | none => false

/-! ## Rows of Table 4-2 -/

/-- The mode manager may take a row: no PARK entry is under way, and no row was taken at this instant (R82, R91). -/
def modesRun (s : State) : Bool := pairModes s && s.modes.entering.isNone && s.modes.took != some s.now

/-- The guard of row 2 (R88). -/
def rideGuard (s : State) : Bool := !s.boot.holding && (s.life == .maker || s.life == .field)

/-- Why row 4 refuses: 0 where it does not (Table 4-5). -/
def workshopRefusal (s : State) : Nat :=
  if s.modes.mode != .watch then 1
  else if !stationary s then 2
  else if s.life == .maker || s.life == .field || s.life == .returned then 0 else 3

/-- The entering requester no longer holds MAKER, or has sent nothing for `MODE_WS_TIMEOUT` (row 1). -/
def wsHolderGone (s : State) : Bool :=
  match s.modes.wsBy with
  | some r => decide (privOf r s < 2) || decide (s.modes.wsAt + secP (s.num Ix.MODE_WS_TIMEOUT) ≤ s.now)
  | none => true

/-- The trigger and the guard of a row of Table 4-2 hold now. Row 2 measures its dwell afresh after row 1 (04, "When the ignition
turns on in WORKSHOP"), row 5 after a cancelled PARK entry (R96). -/
def rowPasses (row : Nat) (s : State) : Bool :=
  match row with
  | 1 => s.modes.mode == .workshop
      && (s.modes.wsExit || wsHolderGone s || (!stationary s && dwellOver s.dwell.moved 0 (msP (s.num Ix.MODE_MOVE_EXIT_DWELL)) s))
  | 2 => s.modes.mode == .watch && rideGuard s && ignition s
      && dwellOver s.dwell.ignOn (s.modes.took.getD 0) (msP (s.num Ix.MODE_IGN_ON_DWELL)) s
  | 3 => s.modes.mode == .ride && !ignition s && dwellOver s.dwell.ignOff 0 (msP (s.num Ix.MODE_IGN_OFF_DWELL)) s
  | 4 => s.modes.mode == .watch && s.modes.wsEnter.isSome && workshopRefusal s == 0
  | 5 => s.modes.mode == .watch && s.modes.wsEnter.isNone && s.modes.wsRefused != some s.now && stayEmpty s
      && dwellOver s.dwell.empty s.modes.cancelled (secP (s.num Ix.MODE_PARK_DELAY)) s
  | _ => false

/-- A row passes at this evaluation and no lower-numbered one does (R82). -/
def rowWins (row : Nat) (s : State) : Bool :=
  modesRun s && rowPasses row s && !(List.range row).any fun r => rowPasses r s

/-- An instant of FREE at which the mode manager evaluates its table (R82). -/
def evalInstant (s : State) : Bool := (s.now - s.freeBase) % msP 10 == 0

/-- A transition comes before a LESSON_TICK of this instant (R95). -/
def modeFirst (s : State) : Bool := evalInstant s && [1, 2, 3, 4].any fun r => rowWins r s

/-! ## STANDBY and the stand-ins for the park sources (R97, R104–R106, R147) -/

/-- Account the present stretch of RUN or STANDBY in WATCH (`PWR_WATCH_RUN`, `PWR_WATCH_STBY`). -/
def accountWatch (s : State) : State :=
  let d := s.now - s.pw.since
  if s.modes.mode == .watch then
    { s with pw := { s.pw with since := s.now,
                               watchRun := if s.pw.pw == .standby then s.pw.watchRun else s.pw.watchRun + d,
                               watchStby := if s.pw.pw == .standby then s.pw.watchStby + d else s.pw.watchStby } }
  else { s with pw := { s.pw with since := s.now } }

/-- The CB7 is in RUN again after STANDBY (R105); the phase clocks go on (R147). -/
def leaveStandby (s : State) : State :=
  if s.pw.pw == .standby then
    let s1 := accountWatch s
    { s1 with pw := { s1.pw with pw := .run }, tt := { s1.tt with clocks := s1.tt.clocks.map fun c => c.thaw s.now } }
  else s

/-- PARK entry is cancelled before step 4 (R96): the delay of row 5 runs again from zero. -/
def cancelParkEntry (s : State) : State :=
  { s with modes := { s.modes with entering := none, announced := false, cancelled := s.now } }

/-! ## How a command ends -/

/-- A command completes: the state it leaves, with the queue as it was, the clock never turned back (assumption log 4) and the
dwells brought up to date. -/
def done (s t : State) : Host.Outcome State Fault Refusal :=
  .next (track s { t with pending := s.pending, now := Nat.max s.now t.now })

/-- What has to be powered and running for a kind of command (Tables 1-1, 1-2, 4-4). -/
inductive Part where
  /-- The supply, AO with the park engine, the test port, a start: the command judges by itself. -/
  | always
  /-- The Principal, or hardware of PER: CORE and PER are powered. -/
  | core
  /-- The same, and the command stands for something that ends STANDBY or follows its end. -/
  | coreRun
  /-- The application pair, which has no clock in STANDBY: the command ends STANDBY. -/
  | pair
  /-- The application pair, for what goes on in STANDBY. -/
  | pairQuiet
  /-- The application pair, for what STANDBY has no power or clock for. -/
  | pairAwake
  /-- The application pair's work on a stage of PWR. -/
  | stage
  /-- The hardware of PWR. -/
  | power
  /-- The motor coprocessor with MOT. -/
  | motor
  /-- The hardware of MOT. -/
  | bridge
  /-- The fabric engine with FAB. -/
  | fabric
  /-- What the fabric carries to the application pair. -/
  | fabricPair
  /-- The power path, and what the charger's hardware does by itself. -/
  | charger
  /-- The charger's service, which is the application pair's. -/
  | chgPair
  deriving DecidableEq, Repr

/-- The pair runs. -/
def pairUp (s : State) : Bool := deviceUp s && s.procs.app == .running

/-- A block is available: its domain is powered, and the owner of its work runs (R9, R10). -/
def served (p : Part) (s : State) : Bool :=
  match p with
  | .always => true
  | .core | .coreRun => deviceUp s
  | .pair | .pairQuiet => pairUp s
  | .pairAwake => pairUp s && s.pw.pw != .standby
  | .stage => pairUp s && pwrOn s
  | .power => pwrOn s
  | .motor => motOn s && s.procs.motor == .running
  | .bridge => motOn s
  | .fabric => fabOn s && s.procs.fabric == .running
  | .fabricPair => fabOn s && s.procs.fabric == .running && pairUp s
  | .charger => chgOn s
  | .chgPair => chgOn s && pairUp s

/-- A command that ends STANDBY (R105). -/
def Part.rouses : Part → Bool
  | .coreRun | .pair | .stage | .power => true
  | _ => false

/-- The block as a command of a part finds it. -/
def rouse (p : Part) (s : State) : State := if p.rouses then leaveStandby s else s

/-- A command acts where its block is available; elsewhere nothing happens. -/
def doneFor (p : Part) (s : State) (f : State → State) : Host.Outcome State Fault Refusal :=
  if served p s then done s (f (rouse p s)) else done s s

end Sys2Proof.Machine
end

