-- ==== Sys2Proof/Machine/Faults.lean ====
section
/-!
DEFINITION. The fault collector's shared operations (R451–R464, R472): reporting a source, its end, the log entry, the DTC
record and the reactions by severity.
-/
namespace Sys2Proof.Machine

/-! ## Log entries -/

/-- Freeze words 8 to 10 of a report (Table 19-1), read at the report. -/
def freezeWords (id inst : Nat) (s : State) : List Word :=
  match id / 256 with
  | 0x0 => [s.view Ix.MODE_STATE, s.view Ix.PWR_DOMAINS, s.view Ix.HK_STATUS]
  | 0x1 =>
    if id = 0x100 then [s.view (Ix.TT_POOL_USE inst)]
    else if id = 0x101 then [s.view (Ix.TT_PC_STATE inst)]
    else [s.view (Ix.BN_L_STATE inst)]
  | 0x2 | 0x3 =>
    if inst < 36 then [s.view (Ix.HS_STATUS inst), s.view (Ix.HS_CURRENT inst), s.view (Ix.HS_TEMP inst)]
    else if inst < 40 then [s.view (Ix.LSD_STATUS (inst - 36)), s.view (Ix.LSD_CURRENT (inst - 36))]
    else [s.view (Ix.HB_STATUS (inst - 40)), s.view (Ix.HB_CURRENT (inst - 40))]
  | 0x4 =>
    if id = 0x423 then []
    else
      let t := if id = 0x420 ∨ id = 0x421 then inst / 16 else inst
      [s.view (Ix.LED_STR_STATUS t), s.view (Ix.LED_STR_CURRENT t), s.view (Ix.LED_STR_TEMP t)]
  | 0x5 => [s.view (Ix.MOT_STATUS inst), s.view (Ix.MOT_RMS inst), s.view (Ix.MOT_TEMP inst)]
  | 0x6 =>
    if id = 0x604 ∨ id = 0x605 then [s.view Ix.IMU_STATUS]
    else [s.view Ix.IN_SW_STATE, s.view Ix.IN_SSUP_STATUS, s.view Ix.IN_FQ_STATUS]
  | 0x7 =>
    let g := if id = 0x701 ∨ id = 0x702 ∨ id = 0x703 then (groupOf inst s).getD 0 else inst
    [s.view (Ix.TCH_G_STATUS g), s.view Ix.TCH_TEST_STATUS]
  | 0x8 => [s.view Ix.CHG_STATUS, s.view Ix.CHG_CELL, s.view Ix.CHG_TEMP]
  | 0x9 =>
    if id < 0x910 then [s.view (Ix.CAN_STATUS inst), s.view (Ix.CAN_ERRC inst)] else [s.view (Ix.LIN_STATUS inst)]
  | 0xA => [s.view (Ix.NM_STATUS inst), s.view Ix.NM_WAKE_ID]
  | 0xB => [s.view Ix.FAB_NODE, if id = 0xB00 ∨ id = 0xB02 ∨ id = 0xB05 then s.view (Ix.FAB_PORT_STATUS inst) else 0]
  | 0xD => [s.view Ix.UPD_STATE, s.view Ix.UPD_BUNCH_ID, s.view Ix.UPD_LAST]
  | 0xE => [s.view Ix.RC_STATUS, s.view Ix.RC_REASON]
  | _ => []

/-- Words 8 to 15 of an entry: the given words, filled with zeros. -/
def padTo8 (ws : List Word) : List Word := (ws ++ List.replicate 8 0).take 8

/-- A log entry (Table 19-6): ID, instance, severity, raised or cleared, reports of the ID since the start, raise entries
suppressed, and words 8 to 15. -/
def logEntry (id inst sev : Nat) (cleared : Bool) (reports suppressed : Nat) (freeze : List Word) (s : State) : List Word :=
  [toWord (id + inst % 256 * 2 ^ 12 + sev * 2 ^ 20 + s.modes.mode.code * 2 ^ 23 + s.pw.pw.code * 2 ^ 25 + b2n cleared * 2 ^ 28),
   toWord (s.flt.seq + 1), toWord s.rtcSecs, toWord s.us, s.view Ix.SYS_SUPPLY,
   toWord (s.fld Ix.SYS_THERMAL 0 16 + Nat.min reports 65535 * 2 ^ 16),
   toWord (Nat.min suppressed 65535 + s.flt.starts % 65536 * 2 ^ 16), s.view Ix.SYS_FW_VERSION] ++ padTo8 freeze

/-- Entries the collector has room for: the SRAM buffer of 64, and after the final write of a PARK entry the 16 of the retention
list (R462). -/
def bufRoom (s : State) : Nat := if s.modes.mode == .park then 16 else 64

/-- Put an entry into the collector's buffer; an entry that arrives to a full buffer is lost (R462). -/
def pushEntry (e : List Word) (s : State) : State :=
  if bufRoom s ≤ s.flt.buf.length then { s with flt := { s.flt with lost := s.flt.lost + 1 } }
  else
    let s1 : State :=
      { s with flt := { s.flt with buf := s.flt.buf ++ [e], seq := s.flt.seq + 1,
                                   bufAt := if s.flt.buf.isEmpty then s.now else s.flt.bufAt } }
    s1.bump Ix.FLT_LOG_COUNT 0 32

/-- The raise history of an ID. -/
def raisesOf (id : Nat) (s : State) : RaiseRec := (s.flt.raises.find? (·.id == id)).getD { id := id, at_ := [], suppressed := 0 }

/-- Store the raise history of an ID. -/
def putRaises (r : RaiseRec) (s : State) : State :=
  { s with flt := { s.flt with raises := r :: s.flt.raises.filter (·.id != r.id) } }

/-- Reports of an ID since the start, over its instances. -/
def reportsOf (id : Nat) (s : State) : Nat := (s.flt.srcs.filter (·.id == id)).foldl (fun a x => a + x.reports) 0

/-- Write a raise entry under the limit of four in 60 s for each ID (R462). -/
def logRaise (id inst sev : Nat) (freeze : List Word) (s : State) : State :=
  let r := raisesOf id s
  let recent := r.at_.filter fun t => decide (s.now < t + secP 60)
  if 4 ≤ recent.length then putRaises { r with at_ := recent, suppressed := r.suppressed + 1 } s
  else
    pushEntry (logEntry id inst sev false (reportsOf id s) r.suppressed freeze s)
      (putRaises { id := id, at_ := s.now :: recent, suppressed := 0 } s)

/-- Write a clear entry (R462). -/
def logClear (id inst sev : Nat) (s : State) : State :=
  let r := raisesOf id s
  pushEntry (logEntry id inst sev true (reportsOf id s) r.suppressed (freezeWords id inst s) s)
    (putRaises { r with suppressed := 0 } s)

/-! ## Sources and DTC records -/

/-- Record a report of a source: active, one more report, its severity (R452). -/
def noteSource (id inst sev : Nat) (s : State) : State :=
  let old := s.flt.srcs.find? fun x => x.id == id && x.inst == inst
  let e : FaultSrc := match old with
    | some x => { x with active := true, sev := sev, reports := x.reports + 1, last := s.now, warned := x.warned || decide (2 ≤ sev) }
    | none => { id := id, inst := inst, active := true, sev := sev, reports := 1, last := s.now, warned := decide (2 ≤ sev) }
  { s with flt := { s.flt with srcs := e :: s.flt.srcs.filter fun x => !(x.id == id && x.inst == inst) } }

/-- The record R463 replaces when all 256 are in use: lowest confirmed severity, and among equals the one reported longest
ago. -/
def dtcVictim (ds : List Dtc) : Option Dtc :=
  ds.foldl (fun a d => match a with
    | none => some d
    | some v => if d.sev < v.sev ∨ (d.sev = v.sev ∧ d.lastAt < v.lastAt) then some d else some v) none

/-- Record `n` reports at NOTE or higher in the DTC memory (R463), unless ControlDTCSetting froze it; none where an active source is
judged again (R472). -/
def noteDtc (id inst sev n : Nat) (s : State) : State :=
  if s.flt.frozen then s
  else
    let conf := decide (2 ≤ sev)
    match s.flt.dtcs.find? fun d => d.id == id && d.inst == inst with
    | some d =>
      let d' := { d with pending := true, failedSince := true, confirmed := d.confirmed || conf,
                         sev := if conf then Nat.max d.sev sev else d.sev, count := d.count + n
                         lastRtc := if n = 0 then d.lastRtc else s.rtcSecs, lastAt := if n = 0 then d.lastAt else s.now }
      { s with flt := { s.flt with dtcs := s.flt.dtcs.map fun x => if x.id == id && x.inst == inst then d' else x } }
    | none =>
      let d : Dtc := { id := id, inst := inst, pending := true, confirmed := conf, failedSince := true,
                       sev := if conf then sev else 0, count := n, firstRtc := s.rtcSecs, lastRtc := s.rtcSecs, lastAt := s.now }
      let keep := if s.flt.dtcs.length < 256 then s.flt.dtcs
        else match dtcVictim s.flt.dtcs with
          | some v => s.flt.dtcs.filter fun x => !(x.id == v.id && x.inst == v.inst)
          | none => s.flt.dtcs
      { s with flt := { s.flt with dtcs := keep ++ [d] } }

/-! ## Reactions -/

/-- A channel's output goes off at an instant, whatever its state. -/
def Channel.dark (now : Nat) (x : Channel) : Channel :=
  { x with drive := 0, pulse := false, offAt := none, ending := false,
           wentOff := if x.st == .on || x.st == .inrush then now else x.wentOff }

/-- A stroke or a change of direction ends with its bridge (R187, R188). -/
def LockS.cut (l : LockS) : LockS := { l with st := .idle, turnTo := none, posted := false, stall := none }

/-- The lock of a channel that is a bridge, cut. -/
def cutLock (c : Ch) (s : State) : State := match chHb c with | some h => updLock h LockS.cut s | none => s

/-- A channel is off and latched (R184). -/
def latchChannel (c : Ch) (s : State) : State :=
  let s1 := cutLock c (updCh c (fun x => { x.dark s.now with st := .latched, posted := 0 }) s)
  if s.chans[c].st == .latched then s
  else if c.val < 36 then s1.bump (Ix.HS_COUNTS c.val) 24 8
  else if 40 ≤ c.val then s1.bump (Ix.HB_COUNTS (c.val - 40)) 24 8
  else s1

/-- A string's converter goes off at an instant. -/
def StringS.dark (now : Nat) (x : StringS) : StringS :=
  { x with level := 0, fadeLen := 0, ramp := false, carry := 0, gap := 0, wentDark := if x.st == .lit then now else x.wentDark }

/-- A string is dark and latched (R217). -/
def latchString (t : Str) (s : State) : State :=
  let s1 := updStr t (fun x => { x.dark s.now with st := .latched }) s
  if s.led.strs[t].st == .latched then s else s1.bump (Ix.LED_COUNTS t.val) 24 8

/-- A bridge opens every switch and is latched (R242). -/
def latchBridge (b : Mot) (s : State) : State :=
  let s1 := updBr b (fun x => { x with st := .latched, since := s.now, iqRef := 0, carry := [0, 0, 0], toStop := false,
                                       reversal := none, watch := .clear }) s
  if s.mot.bridges[b].st == .latched then s else s1.bump (Ix.MOT_COUNTS b.val) 24 8

/-- A running operation ends deferred. -/
def CmdSt.ended (c : CmdSt) : CmdSt := if c == .running then .deferred else c

/-- Commanded calibrations end with the previous values kept (Table 19-4, Table 4-2 row 1). -/
def endCalibrations (s : State) : State :=
  { s with mot := { s.mot with cal := s.mot.cal.ended },
           imu := { s.imu with cmd := s.imu.cmd.ended, calDeferred := s.imu.calDeferred || s.imu.cmd == .running,
                               attempt := if s.imu.cmd == .running then none else s.imu.attempt },
           tch := { s.tch with cmd := s.tch.cmd.ended } }

/-- Whether degraded operation drops a channel (R190). -/
def dropsCh (c : Ch) (s : State) : Bool := degradedNow s && chNoness c s

/-- Whether OVERVOLT, a SAFE reaction or the CRANK band holds a channel off (R571, R459, R189). -/
def holdsCh (c : Ch) (s : State) : Bool := s.share.overvolt || (!chSafety c s && (s.flt.safe || s.band == .crank))

/-- A channel under the drops and holds in force. -/
def limitCh (drop hold : Bool) (now : Nat) (x : Channel) : Channel :=
  if drop then
    if x.st == .latched then { x with held := hold }
    else { x.dark now with st := .dropped, held := hold, posted := 0 }
  else
    let st := if x.st == .dropped then .off else x.st
    if hold then
      if st == .on || st == .inrush then { x.dark now with st := .off, held := true, posted := 0 }
      else { x with st := st, held := true, posted := 0 }
    else { x with st := st, held := false }

/-- Whether degraded operation drops a string (R220). -/
def dropsStr (t : Str) (s : State) : Bool := degradedNow s && strNoness t s

/-- Whether OVERVOLT, a SAFE reaction or the CRANK band holds a string dark (R571, R459, R219). -/
def holdsStr (t : Str) (s : State) : Bool := !strSafety t s && (s.share.overvolt || s.flt.safe || s.band == .crank)

/-- A string under the drops and holds in force. -/
def limitStr (drop hold : Bool) (now : Nat) (x : StringS) : StringS :=
  if drop then
    if x.st == .latched ∨ x.st == .disabled then { x with held := hold }
    else { x.dark now with st := .dropped, held := hold }
  else
    let st := if x.st == .dropped then .dark else x.st
    if hold then
      if st == .lit then { x.dark now with st := .dark, held := true } else { x with st := st, held := true }
    else { x with st := st, held := false }

/-- A bridge begins to decelerate to rest, its ramp from the actual speed (R230, R235). -/
def Bridge.slowing (x : Bridge) : Bridge :=
  { x with toStop := true, reversal := none, ref := if x.st = .run ∧ !x.toStop ∧ x.reversal.isNone then x.speed * 1000 else x.ref }

/-- A bridge when degraded operation drops it or ends (R248): it decelerates to rest, and DROPPED follows at rest. -/
def limitBr (drop : Bool) (now : Nat) (x : Bridge) : Bridge :=
  if drop then
    match x.st with
    | .off | .brake | .catch_ => { x with st := .dropped, since := now, dropping := true, carry := [0, 0, 0] }
    | .latched | .dropped | .tripped => { x with dropping := true }
    | .align | .forced | .run => { x.slowing with dropping := true }
  else { x with st := if x.st == .dropped then .off else x.st, dropping := false }

/-- Bring every output within the drops and holds in force (R190, R220, R248, R459, R189, R571). -/
def applyLimits (s : State) : State :=
  let s1 := mapCh (fun c x => limitCh (dropsCh c s) (holdsCh c s) s.now x) s
  let strs := Vector.ofFn fun t : Str => limitStr (dropsStr t s) (holdsStr t s) s.now s1.led.strs[t]
  let brs := Vector.ofFn fun b : Mot => limitBr (degradedNow s && motNoness b s) s.now s1.mot.bridges[b]
  { s1 with led := { s1.led with strs := strs }, mot := { s1.mot with bridges := brs } }

/-- LIMP and SAFE reactions (R458, R459; Table 19-4). WORKSHOP forcing acts as release from then on, and the services have to bring
the outputs back to their requests (R174). -/
def limpSafe (sev : Nat) (s : State) : State :=
  if sev < 4 then s
  else
    let s1 : State := { s with flt := { s.flt with
      limp := s.flt.limp || sev == 4, safe := s.flt.safe || sev == 5, unforced := s.flt.unforced || forcingActs s } }
    applyLimits (if s.modes.mode == .workshop then endCalibrations s1 else s1)

/-! ## Reports -/

/-- Record a report and apply everything but the instance reaction, with the severity given (Table 19-4). -/
def recordAt (id inst sev : Nat) (freeze : List Word) (s : State) : State :=
  let s1 := noteSource id inst sev s
  let s2 := if 1 ≤ sev then noteDtc id inst sev 1 (logRaise id inst sev freeze s1) else s1
  let s3 := if 2 ≤ sev then raiseIrq 2 s2 else s2
  limpSafe sev s3

/-- Record with the severity of the present mode. -/
def recordFault (id inst : Nat) (s : State) : State := recordAt id inst (sevNow id s) (freezeWords id inst s) s

/-- The instance reaction of Table 19-5; the latch it sets is itself reported. -/
def instanceReaction (id inst : Nat) (s : State) : State :=
  match id / 256 with
  | 0x2 | 0x3 =>
    match chOf inst with
    | some c =>
      if s.chans[c].st == .latched then s
      else
        let s1 := latchChannel c s
        if 0x2C0 ≤ id ∧ id < 0x2EA then s1 else recordFault (0x2C0 + inst) inst s1
    | none => s
  | 0x4 =>
    let t := if id = 0x420 ∨ id = 0x421 then inst / 16 else inst
    if h : t < 4 then
      if id = 0x423 then s
      else if s.led.strs[t].st == .latched then s
      else
        let s1 := latchString ⟨t, h⟩ s
        if 0x410 ≤ id ∧ id < 0x414 then s1 else recordFault (0x410 + t) t s1
    else s
  | 0x5 =>
    if h : inst < 2 then
      if s.mot.bridges[inst].st == .latched then s
      else
        let s1 := latchBridge ⟨inst, h⟩ s
        if id = 0x50C ∨ id = 0x50D then s1 else recordFault (0x50C + inst) inst s1
    else s
  | 0x8 => { s with chg := { s.chg with stopped := true, st := if s.chg.st == .fault then .fault else .idle } }
  | _ => s

/-- Apply a report at a severity: record, and from DEGRADE the instance reaction (R456, R457). -/
def applyReport (id inst sev : Nat) (freeze : List Word) (s : State) : State :=
  let s1 := recordAt id inst sev freeze s
  if 3 ≤ sev then instanceReaction id inst s1 else s1

/-- Report a source with the words 8 to 15 its chapter names (R456). Detections in PARK, and before step 6 of a start, wait
for the first LESSON_TICK with the freeze words read at the report (assumption log 11). An undefined ID is no source. -/
def reportWith (id inst : Nat) (freeze : List Word) (s : State) : State :=
  match faultRow id with
  | none => s
  | some _ =>
    if s.modes.mode == .park || !s.started then
      { s with flt := { s.flt with deferred := s.flt.deferred ++ [{ id := id, inst := inst, freeze := freeze, ended := false }] } }
    else applyReport id inst (sevNow id s) freeze s

/-- Report a source (R456). -/
def report (id inst : Nat) (s : State) : State := reportWith id inst (freezeWords id inst s) s

/-- Whether a detection of a source waits and its condition still holds. -/
def waits (id inst : Nat) (s : State) : Bool := s.flt.deferred.any fun d => d.id == id && d.inst == inst && !d.ended

/-- The waiting detections of a source, their condition over. -/
def endWaiting (id inst : Nat) (s : State) : State :=
  { s with flt := { s.flt with deferred := s.flt.deferred.map fun d => if d.id == id && d.inst == inst then { d with ended := true } else d } }

/-- A source becomes inactive (R452), with its clear entry where a report was at WARN or higher (R462). -/
def endFault (id inst : Nat) (s0 : State) : State :=
  let s := endWaiting id inst s0
  match s.flt.srcs.find? fun x => x.id == id && x.inst == inst && x.active with
  | none => s
  | some x =>
    let s1 : State :=
      { s with flt := { s.flt with srcs := s.flt.srcs.map fun y =>
          if y.id == id && y.inst == inst then { y with active := false, warned := false } else y } }
    if x.warned then logClear id inst x.sev s1 else s1

/-- A condition source follows its condition: reported at its onset, ended with it. -/
def condFault (id inst : Nat) (now_ : Bool) (s : State) : State :=
  if now_ then (if srcActive id inst s || waits id inst s then s else report id inst s) else endFault id inst s

/-- Apply the waiting detections at the first LESSON_TICK with their PARK severity (R456); a condition that has ended since is
inactive again. -/
def applyDeferred (s : State) : State :=
  forEach s.flt.deferred (fun d t => onlyIf d.ended (endFault d.id d.inst) (applyReport d.id d.inst (sevIn d.id .park t) d.freeze t))
    { s with flt := { s.flt with deferred := [] } }

/-- Evaluate every active source again after a mode transition or a severity commit (R472). -/
def reevaluate (s : State) : State :=
  (activeSrcs s).foldl (fun t x =>
    let sev := sevNow x.id t
    if x.sev < sev then
      let t1 : State := { t with flt := { t.flt with srcs := t.flt.srcs.map fun y =>
        if y.id == x.id && y.inst == x.inst then { y with sev := sev, warned := y.warned || decide (2 ≤ sev) } else y } }
      let t2 := logRaise x.id x.inst sev (freezeWords x.id x.inst t1) t1
      let t3 := if 2 ≤ sev then raiseIrq 2 (noteDtc x.id x.inst sev 0 t2) else noteDtc x.id x.inst sev 0 t2
      let t4 := limpSafe sev t3
      if 3 ≤ sev then instanceReaction x.id x.inst t4 else t4
    else { t with flt := { t.flt with srcs := t.flt.srcs.map fun y =>
        if y.id == x.id && y.inst == x.inst then { y with sev := sev } else y } }) s

/-! ## Wear metrics and replacement requests (R468, R470, R471) -/

/-- Short count at which a stage is replaced (Table 19-8). -/
def shortLimit (i : Nat) : Nat :=
  if i < 4 then 1000 else if i < 12 then 2000 else if i < 28 then 5000 else if i < 40 then 10000 else if i < 42 then 2000
  else if i < 46 then 1000 else 500

/-- The first stage that satisfies a test. -/
def stageWhere (p : Nat → Stage → Bool) (s : State) : Option Nat := (s.flt.stages.zipIdx.find? fun x => p x.2 x.1).map (·.2)

/-- Magnitude of an electrode's drift in 0.1 % of its record. -/
def driftMag (x : Electrode) : Nat :=
  match x.record with | some r => x.drift.natAbs * 1000 / Nat.max 1 r.1 | none => 0

/-- Metrics 1 to 4 at their replace level: metric and stage, the lowest first (Table 19-8). -/
def controllerWear (s : State) : Option (Nat × Nat) :=
  match stageWhere (fun _ g => decide (150000 ≤ g.units)) s with
  | some i => some (1, i)
  | none => match stageWhere (fun i g => decide (shortLimit i ≤ g.shorts)) s with
    | some i => some (2, i)
    | none => if 8000 ≤ worstBank s then some (3, 0) else if 80000 ≤ s.flt.eraseData then some (4, 0) else none

/-- The learned capacity in 0.1 % of CAP. -/
def cellPermille (s : State) : Nat := s.chg.learned * 1000 / Nat.max 1 (s.fld Ix.CHG_CFG 16 16)

/-- Metric 5 has a value: the cell is used and a capacity was learned. -/
def cellJudged (s : State) : Bool := s.flag Ix.CHG_CFG 2 && s.chg.learned != 0

/-- Electrodes whose drift lies strictly above a level in %. -/
def driftAbove (lim : Nat) (s : State) : Bool := (List.finRange 16).any fun e => decide (10 * lim < driftMag (s.tch.el[e]))

/-- Which metrics are at their warn level (Table 19-8). -/
def wearWarn (s : State) : List Bool :=
  let cell := s.fld Ix.RC_LIMITS 0 8
  let drift := s.fld Ix.RC_LIMITS 8 8
  [ (stageWhere (fun _ g => decide (120000 ≤ g.units)) s).isSome,
    (stageWhere (fun i g => decide (shortLimit i * 8 ≤ g.shorts * 10)) s).isSome,
    decide (6400 ≤ worstBank s), decide (64000 ≤ s.flt.eraseData),
    cellJudged s && decide (cellPermille s < 10 * (cell + 10)), driftAbove (drift - 10) s ]

/-- Degraded operation begins (R190, R220, R248, R471). -/
def beginDegraded (s : State) : State :=
  if s.flt.reqCtl then applyLimits { s with flt := { s.flt with degraded := true, degradePending := false } } else s

/-- The controller request is raised: it never ends (R470); degraded operation begins at once in WATCH and WORKSHOP (R471). -/
def raiseController (m i : Nat) (s : State) : State :=
  if s.flt.reqCtl then s
  else
    let s1 := condFault 0xE00 0 true
      ({ s with flt := { s.flt with reqCtl := true, reqCtlAt := s.rtcSecs, degradePending := true } }.putNat Ix.RC_REASON (m + i * 2 ^ 8))
    if s.modes.mode == .watch || s.modes.mode == .workshop then beginDegraded s1 else s1

/-- Every metric is judged: warnings and requests, those that stand from before the start among them (R468, R470). -/
def judgeMetrics (s : State) : State :=
  let w := wearWarn s
  let s1 := forEach w.zipIdx (fun (b, k) t => condFault 0xE01 (k + 1) b t) { s with flt := { s.flt with warn := w } }
  let s2 := match controllerWear s1 with | some (m, i) => raiseController m i s1 | none => s1
  let cell := if cellJudged s2 && decide (cellPermille s2 < 10 * s2.fld Ix.RC_LIMITS 0 8) then true
    else s2.flt.reqCell && !(cellJudged s2 && !(w.getD 4 false))
  let el := if driftAbove (s2.fld Ix.RC_LIMITS 8 8) s2 then true else s2.flt.reqEl && w.getD 5 false
  condFault 0xE00 2 el (condFault 0xE00 1 cell <| condFault 0xE00 0 s2.flt.reqCtl { s2 with flt := { s2.flt with reqCell := cell, reqEl := el } })

end Sys2Proof.Machine
end

