-- ==== Sys2Proof/Machine/Timetable.lean ====
section
/-!
DEFINITION. The Timetable (06_timetable.md): posting, commitment, cancelling, firing, phase clocks and their loss, the event
log; and the end of a transaction by roll-back (R77–R79), which the Timetable causes at a phase loss.
-/
namespace Sys2Proof.Machine

/-! ## The end of a transaction (Tables 3-5 to 3-7) -/

/-- A transaction ends with a status, a cause and an index, and `TXN_LAST_STATUS` says so; a host-owned one raises HIRQ
cause 1 (Table 18-7). -/
def endTxn (status cause idx : Nat) (s : State) : State :=
  let s1 := s.putNat Ix.TXN_LAST_STATUS (status + cause * 2 ^ 8 + idx % 2 ^ 14 * 2 ^ 16)
  let s2 := if s.txn.owner == some .host then raiseIrq 1 s1 else s1
  { s2 with txn := Txn.reset }

/-! ## Records and the event log -/

/-- Action codes of Table 6-4. -/
def actCode : Act → Nat
  | .outSet .. => 1 | .outDuty .. => 2 | .ledScene .. => 3 | .ledStep .. => 4 | .adcSample .. => 5 | .canRelease .. => 6
  | .lessonTick .. => 7 | .motCmd .. => 8 | .txnCommit => 9 | .fabSync .. => 10

/-- Ranks of Table 6-4 (R130). -/
def actRank : Act → Nat
  | .outSet .. => 5 | .outDuty .. => 6 | .ledScene .. => 7 | .ledStep .. => 8 | .adcSample .. => 3 | .canRelease .. => 9
  | .lessonTick .. => 10 | .motCmd .. => 4 | .txnCommit => 1 | .fabSync .. => 2

/-- ARG of an action (Table 6-4). -/
def actArg : Act → Nat
  | .outSet c st => c.val + st.val * 2 ^ 8
  | .outDuty c d => c.val + d % 2 ^ 16 * 2 ^ 16
  | .ledScene t sc => t.val + sc % 2 ^ 8 * 2 ^ 8
  | .ledStep t m => t.val + m % 2 ^ 16 * 2 ^ 4
  | .adcSample l => l % 2 ^ 8
  | .canRelease c b => c.val + b % 2 ^ 6 * 2 ^ 2
  | .lessonTick l => l.val
  | .motCmd b sl => b.val + sl % 2 ^ 8 * 2 ^ 8
  | .txnCommit => 0
  | .fabSync p c => p.val + c.val * 2 ^ 4

/-- The due value of an event as its record shows it (Table 6-3). -/
def Event.dueValue (e : Event) (s : State) : Nat :=
  if e.spec.clock = 8 then (e.due - s.freeBase) % 2 ^ 48 else e.due % 2 ^ 32

/-- The handle of a slot and generation. -/
def handleCode (slot gen : Nat) : Nat := slot % 2 ^ 12 + gen % 2 ^ 4 * 2 ^ 12

/-- Write an event log entry where `TT_LOG_MASK` selects its action and kind (R149, Table 6-9). -/
def ttLog (kind status late clock act pool due left arg handle : Nat) (s : State) : State :=
  if s.flag Ix.TT_LOG_MASK (act - 1) && s.flag Ix.TT_LOG_MASK (16 + kind) then
    let e : List Word :=
      [toWord (clock + act * 2 ^ 4 + pool * 2 ^ 8 + kind * 2 ^ 12 + status * 2 ^ 16), toWord due,
       toWord (due / 2 ^ 32 % 2 ^ 16 + left % 2 ^ 16 * 2 ^ 16), toWord arg, toWord s.us,
       toWord (Nat.min late 65535 + handle * 2 ^ 16)]
    let s1 : State := { s with tt := { s.tt with log := ringPush 256 s.tt.log e } }
    s1.bump Ix.TT_LOG_COUNT 0 32
  else s

/-- Log a pending event. -/
def logEvent (kind status late : Nat) (e : Event) (s : State) : State :=
  ttLog kind status late e.spec.clock (actCode e.spec.act) e.spec.pool (e.dueValue s) e.left (actArg e.spec.act)
    (handleCode e.slot e.gen) s

/-! ## Time of an event -/

/-- The commit horizon in base periods (R139). -/
def horizonP (s : State) : Nat := usP (s.num Ix.TT_HORIZON)

/-- The first instant beyond the horizon (R13). -/
def soonest (s : State) : Nat := s.now + horizonP s + 1

/-- The predicted instant of a due instant or position on a clock (R136). -/
def predictOn (clock due : Nat) (s : State) : Option Nat :=
  if clock = 8 then some due else (s.tt.clocks[pcOf clock]).predict due

/-- The instant an event is predicted for. -/
def Event.predicted (e : Event) (s : State) : Option Nat := predictOn e.spec.clock e.due s

/-- Whether an event is committed now: it stays committed, and it is once its predicted instant lies within the horizon
(R136). -/
def Event.isCommitted (e : Event) (s : State) : Bool :=
  e.committed || match e.predicted s with | some t => decide (t ≤ s.now + horizonP s) | none => false

/-- Mark every event whose predicted instant lies within the horizon as committed, with its committed instant (R136); the
payload of a frame is assembled then (R333). -/
def settle (s0 : State) : State :=
  let s := (s0.tt.events.filter fun e => !e.committed && e.isCommitted s0).foldl (fun t e => commitPayload e t) s0
  let f : Event → Event := fun e =>
    if e.committed then e
    else match e.predicted s with
      | some t => if t ≤ s.now + horizonP s then { e with committed := true, commitAt := t } else e
      | none => e
  { s with tt := { s.tt with events := s.tt.events.map f } }

/-! ## Posting (R133–R135, R140) -/

/-- How far a due value lies ahead of the present count or position, modulo its clock (R132). -/
def aheadOf (e : EventSpec) (s : State) : Nat :=
  if e.clock = 8 then (e.due % 2 ^ 48 + 2 ^ 48 - s.freeCount) % 2 ^ 48
  else (e.due % 2 ^ 32 + 2 ^ 32 - (s.tt.clocks[pcOf e.clock]).shown s.now % 2 ^ 32) % 2 ^ 32

/-- The due value lies behind or at the present count (R132). -/
def isBehind (e : EventSpec) (s : State) : Bool :=
  let a := aheadOf e s
  a == 0 || decide ((if e.clock = 8 then 2 ^ 47 else 2 ^ 31) ≤ a)

/-- The due instant on FREE, or the due position of the clock, without wrap. -/
def dueOf (e : EventSpec) (s : State) : Nat :=
  if e.clock = 8 then s.now + aheadOf e s
  else
    let pos := (s.tt.clocks[pcOf e.clock]).shown s.now
    if isBehind e s && aheadOf e s != 0 then pos + aheadOf e s - 2 ^ 32 else pos + aheadOf e s

/-- NO_CLOCK (R134). -/
def noClock (clock : Nat) (s : State) : Bool :=
  if clock < 8 then (s.tt.clocks[pcOf clock]).st == .unbound else clock != 8

/-- BAD_PERIOD (R134). -/
def badPeriod (e : EventSpec) : Bool := e.rep != 1 && decide (e.period < if e.clock = 8 then 400 else 256)

/-- TOO_LATE (R134). -/
def tooLate (e : EventSpec) (s : State) : Bool :=
  if e.clock = 8 then isBehind e s || decide (aheadOf e s ≤ horizonP s)
  else
    let c := s.tt.clocks[pcOf e.clock]
    c.runs && (isBehind e s || match c.predict (dueOf e s) with
      | some t => decide (t ≤ s.now + horizonP s)
      | none => false)

/-- How many revolutions the due value of a phase clock lies beyond the clock's present revolution (R134). -/
def revsAhead (e : EventSpec) (s : State) : Nat :=
  (e.due % 2 ^ 32 / 65536 + 65536 - (s.tt.clocks[pcOf e.clock]).shown s.now / 65536 % 65536) % 65536

/-- BAD_DUE (R134). -/
def badDue (e : EventSpec) (s : State) : Bool :=
  !isBehind e s && (if e.clock = 8 then decide (secP 86400 < aheadOf e s) else decide (32767 < revsAhead e s))

/-- The events whose slot counts against the pools: all but the reserved slot 4095 (R72). -/
def pooled (s : State) : List Event := s.tt.events.filter fun e => decide (e.slot < 4095)

/-- Whether the next slot of a pool comes from the pool itself (some false), from the shared range (some true), or is not
to be had (R140), with `own` and `shared` slots already taken by the same group. -/
def slotFrom (pool own shared : Nat) (s : State) : Option Bool :=
  if 1 ≤ pool ∧ pool ≤ 8 ∧ poolUse pool s + own < s.num (Ix.TT_POOL_1 + (pool - 1)) then some false
  else if poolUse 0 s + shared < sharedSize s then some true
  else none

/-- The lowest free slot. -/
def freeSlot (s : State) : Nat := (firstBelow (fun n => !s.tt.events.any (·.slot == n)) 4095).getD 4095

/-- The generation a slot takes at its next use (R128). -/
def nextGen (slot : Nat) (s : State) : Nat := match s.tt.gens.lookup slot with | some g => (g + 1) % 16 | none => 0

/-- Put one event into a slot. -/
def placeEvent (slot : Nat) (shared : Bool) (e : EventSpec) (due : Nat) (s : State) : State :=
  let g := nextGen slot s
  let ev : Event := { slot := slot, gen := g, shared := shared, spec := e, due := due, left := e.rep, committed := false,
                      commitAt := 0, order := s.tt.posts, stop := false, late := false }
  let s1 : State :=
    { s with tt := { s.tt with events := s.tt.events ++ [ev], gens := (slot, g) :: s.tt.gens.filter (·.1 != slot),
                               posts := s.tt.posts + 1, handles := s.tt.handles ++ [(slot, g)] } }
  let p := if shared then 0 else e.pool
  let high := (List.range 9).map fun k => if k = p then Nat.max (s.tt.high.getD k 0) (poolUse p s1) else s.tt.high.getD k 0
  if slot = 4095 then s1 else { s1 with tt := { s1.tt with high := high } }

/-- The status of a group before its slots are drawn: the first test of R134 that any event of it fails. -/
def groupStatus (es : List EventSpec) (s : State) : Nat :=
  if es.any fun e => noClock e.clock s then 0x13
  else if es.any badPeriod then 0x11
  else if es.any fun e => tooLate e s then 0x07
  else if es.any fun e => badDue e s then 0x12
  else 0

/-- Draw slots for a whole group; the pool of the first event that finds none (R140). -/
def placeGroup : List EventSpec → State → Except Nat State
  | [], s => .ok s
  | e :: es, s =>
    match slotFrom e.pool 0 0 s with
    | none => .error e.pool
    | some sh => placeGroup es (placeEvent (freeSlot s) sh e (dueOf e s) s)

/-- A refused group: its status and one REFUSED entry per event (R149). -/
def refuseGroup (status : Nat) (es : List EventSpec) (s : State) : State :=
  let s1 : State := { s with tt := { s.tt with status := status, handles := [] } }
  es.foldl (fun t e => ttLog 4 status 0 e.clock (actCode e.act) e.pool e.due e.rep (actArg e.act) 0 t) s1

/-- Post a group whole or not at all (R133). -/
def postGroup (es : List EventSpec) (s : State) : State :=
  let st := groupStatus es s
  if st ≠ 0 then refuseGroup st es s
  else
    match placeGroup es { s with tt := { s.tt with status := 0, handles := [] } } with
    | .ok t => t
    | .error pool =>
      let s1 := (s.bump Ix.TT_FULL_COUNT 0 16).putFld Ix.TT_FULL_COUNT 16 4 pool
      report 0x100 pool (refuseGroup 0x10 es s1)

/-- The service records the handles of a group that was accepted. -/
def keepHandles (by_ : Poster) (s : State) : State :=
  match by_ with
  | .plain => s
  | .period c => updCh c (fun y => { y with period := s.tt.handles.head? }) s
  | .single c => updCh c (fun y => { y with pend := s.tt.handles.head? }) s
  | .duty _ => s
  | .flash c => updCh c (fun y => { y with flash := s.tt.handles }) s
  | .cycle => { s with led := { s.led with handles := s.led.handles ++ s.tt.handles } }
  | .series l => { s with tt := { s.tt with series := s.tt.series.map fun x =>
      if x.list == l then { x with handle := s.tt.handles.headD x.handle } else x } }

/-- A service posts a group, records its handles, and keeps the group for a retry where it meets TT_FULL (R140). -/
def servicePostAs (by_ : Poster) (es : List EventSpec) (s : State) : State :=
  let t := postGroup es s
  if t.tt.status = 0x10 then
    { t with tt := { t.tt with waiting := t.tt.waiting ++ [{ group := es, by_ := by_, since := s.now }] } }
  else if t.tt.status = 0 then keepHandles by_ t else t

/-- A service posts a group of which it keeps no handle. -/
def servicePost (es : List EventSpec) (s : State) : State := servicePostAs .plain es s

/-- The groups of a poster wait no longer. -/
def dropWaiting (by_ : Poster) (s : State) : State :=
  { s with tt := { s.tt with waiting := s.tt.waiting.filter (·.by_ != by_) } }

/-- An event on FREE at an instant. -/
def freeEvent (t rep period : Nat) (act : Act) (pool : Nat) (s : State) : EventSpec :=
  { clock := 8, due := (t - s.freeBase) % 2 ^ 48, rep := rep, period := period, act := act, pool := pool }

/-- Post one single event on FREE at an instant. -/
def postFree (t : Nat) (act : Act) (pool : Nat) (s : State) : State := servicePost [freeEvent t 1 0 act pool s] s

/-- The handle the last post gave its first event. -/
def lastHandle (s : State) : Option (Nat × Nat) := s.tt.handles.head?

/-! ## Removing and cancelling (R142) -/

/-- Free the slot of an event. -/
def dropEvent (slot : Nat) (s : State) : State :=
  { s with tt := { s.tt with events := s.tt.events.filter (·.slot != slot) } }

/-- The event of a slot. -/
def eventAt (slot : Nat) (s : State) : Option Event := s.tt.events.find? (·.slot == slot)

/-- Change the event of a slot. -/
def updEvent (slot : Nat) (f : Event → Event) (s : State) : State :=
  { s with tt := { s.tt with events := s.tt.events.map fun e => if e.slot == slot then f e else e } }

/-- Cancel by handle (R142): the result stands in `tt.status`. -/
def cancelHandle (h : Nat × Nat) (s : State) : State :=
  match s.tt.events.find? fun e => e.slot == h.1 && e.gen == h.2 with
  | none => { s with tt := { s.tt with status := 0x14 } }
  | some e =>
    if e.isCommitted s then
      let s1 := logEvent 3 7 0 e (updEvent e.slot (fun x => { x with stop := true }) (settle s))
      { s1 with tt := { s1.tt with status := 7 } }
    else
      let s1 := dropEvent e.slot (logEvent 2 0 0 e s)
      { s1 with tt := { s1.tt with status := 0 } }

/-- Cancel where a handle is held. -/
def cancelOpt (h : Option (Nat × Nat)) (s : State) : State := match h with | some x => cancelHandle x s | none => s

/-! ## Sampling series (R181, R215, R259, R281) -/

/-- The series of a conversion list. -/
def seriesOf (l : Nat) (s : State) : Option Series := s.tt.series.find? (·.list == l)

/-- A series ends: its event is cancelled and its group waits no longer. -/
def endSeries (l : Nat) (s : State) : State :=
  match seriesOf l s with
  | none => s
  | some x =>
    let s1 := cancelHandle x.handle (dropWaiting (.series l) s)
    { s1 with tt := { s1.tt with series := s1.tt.series.filter (·.list != l) } }

/-- A service posts the sampling series of a list in place of the one before; `rev` is the revolution it was chosen in. -/
def startSeries (l rev : Nat) (e : EventSpec) (s : State) : State :=
  let s1 := endSeries l s
  servicePostAs (.series l) [e] { s1 with tt := { s1.tt with series := { list := l, handle := (4096, 0), rev := rev } :: s1.tt.series } }

/-- The series on FREE of a conversion list. -/
def freeSeries (l period : Nat) (s : State) : EventSpec := freeEvent (soonest s) 0 period (.adcSample l) 5 s

/-! ## Phase loss (R145, R592) -/

/-- A lesson's FALLBACK in base periods (Table 7-5). -/
def fallbackP (l : LessonNo) (s : State) : Nat :=
  match s.bn.cfg.lessons[l.val]? with | some c => usP (100 * c.fallback) | none => usP 1000

/-- An event moved to FREE at an instant with a period. -/
def moveFree (t period : Nat) (e : Event) : Event :=
  { e with spec := { e.spec with clock := 8, period := period }, due := t }

/-- A LESSON_TICK goes over to its fallback period (R145, R157). -/
def lessonFallback (e : Event) (l : LessonNo) (s : State) : State :=
  let s1 := logEvent 6 0 0 e (updEvent e.slot (moveFree (soonest s) (fallbackP l s)) s)
  condFault 0x103 l.val true (updLesson l (fun x => { x with fallback := true }) s1)

/-- The period of a repeating event taken to FREE (Table 6-6): PERIOD in ac times the last cycle time, 65,536 / w, divided by
65,536, rounded once. On a clock that holds no rate it is the FREE minimum: the model's choice (assumption log 56). -/
def convertedPeriod (period : Nat) (w : Rat) : Nat :=
  if 0 < w then Nat.max 400 ((period : Rat) / w + 1 / 2).floor.toNat else 400

/-- One uncommitted event of a clock that is lost, under a policy (R145). The load service takes its sampling to FREE instead
(R181). -/
def loseEvent (policy : Nat) (c : PhaseClock) (e : Event) (s : State) : State :=
  match e.spec.act with
  | .txnCommit => endTxn 9 6 0 (dropEvent e.slot (logEvent 5 0 0 e s))
  | .lessonTick l => lessonFallback e l s
  | .adcSample l =>
    if (seriesOf l s).any (·.handle == (e.slot, e.gen)) then startSeries l 0 (freeSeries l (msP 1) s) s else loseOther policy c e s
  | _ => loseOther policy c e s
where
  /-- An event that none of the exceptions of R145 takes (Table 6-6). -/
  loseOther (policy : Nat) (c : PhaseClock) (e : Event) (s : State) : State :=
    if policy = 0 then s
    else if policy = 1 then
      let t := if 0 < c.w ∧ c.pos < e.due then c.entryAt + (((e.due - c.pos : Nat) : Rat) / c.w).ceil.toNat else 0
      logEvent 6 0 0 e
        (updEvent e.slot (moveFree (if s.now + horizonP s < t then t else soonest s) (convertedPeriod e.spec.period c.w)) s)
    else dropEvent e.slot (logEvent 5 0 0 e s)

/-- The clock's LOSS policy. -/
def lossOf (p : Pc) (s : State) : Nat := s.fld (Ix.TT_PC_CFG p.val) 4 2

/-- The later firings of a repeating event whose committed firing took place on a clock that was lost, or bound anew, since: they
are uncommitted events on it and follow its policy as its other events did; those on an unbound clock are removed (R145, R157,
R592; assumption log 56). -/
def loseRest (slot : Nat) (s : State) : State :=
  match eventAt slot s with
  | none => s
  | some e =>
    if h : e.spec.clock < 8 then
      let c := s.tt.clocks[e.spec.clock]
      if c.runs then s else loseEvent (if c.st == .unbound then 2 else lossOf ⟨e.spec.clock, h⟩ s) c e s
    else s

/-! ## Firing (R130, R131, R137) -/

/-- After a firing the event advances by its period, or its slot is freed. -/
def advanceEvent (e : Event) (s : State) : State :=
  if e.stop ∨ (e.spec.rep ≠ 0 ∧ e.left ≤ 1) then dropEvent e.slot s
  else
    updEvent e.slot (fun x => { x with due := x.due + x.spec.period, left := x.left - 1, committed := false, late := false }) s

/-- The bound of R137: the committed instant plus the horizon in force now, where the rule does not say of which moment the horizon
is: the model's choice (assumption log 56). -/
def Event.bound (e : Event) (s : State) : Nat := e.commitAt + horizonP s

/-- Whether R137 bounds the present firing: a committed event of a phase clock. -/
def Event.bounded (e : Event) : Bool := e.committed && decide (e.spec.clock < 8)

/-- The base period in which an event's due count or value is reached: the due count on FREE; on a phase clock the one in which
the clock's shown angle reaches it, none while that is held short of it (R124, R131). -/
def Event.reached (e : Event) (s : State) : Option Nat :=
  if e.spec.clock = 8 then some e.due else (s.tt.clocks[pcOf e.spec.clock]).reachAt e.due

/-- The due instant of an event (R130): the due count on FREE, or the base period in which its clock reaches the due value, and
no later than the bound of R137 once it is committed. -/
def Event.dueInstant (e : Event) (s : State) : Nat :=
  match e.reached s with
  | some t => if e.bounded then Nat.min t (e.bound s) else t
  | none => if e.bounded then e.bound s else s.now

/-- Whether the engine comes to fire an event: a FREE event and a committed one always, an uncommitted event of a phase clock
only where its clock runs and reaches its due value (R131, R136, R137, R145). -/
def Event.fires (e : Event) (s : State) : Bool :=
  e.committed || e.spec.clock == 8 || ((s.tt.clocks[pcOf e.spec.clock]).runs && (e.reached s).isSome)

/-- The order of R130: by due instant, then by rank, then by posting. -/
def Event.before (x e : Event) (s : State) : Bool :=
  let dx := x.dueInstant s
  let de := e.dueInstant s
  decide (dx < de) || (dx == de && (decide (actRank x.spec.act < actRank e.spec.act) ||
    (actRank x.spec.act == actRank e.spec.act && decide (x.order < e.order))))

/-- No other event that fires stands before this one (R130). -/
def Event.isNext (e : Event) (s : State) : Bool := s.tt.events.all fun x => x.slot == e.slot || !x.fires s || !x.before e s

/-- The firing reached the bound of R137, or is the one held over a loss (R145 HOLD): it is logged LATE (R149). -/
def Event.logsLate (e : Event) (s : State) : Bool := e.late || (e.bounded && e.reached s != some (e.dueInstant s))

/-- The instant lateness is measured from: the due instant, or the committed instant of a firing at the bound. -/
def Event.lateFrom (e : Event) (s : State) : Nat :=
  if e.bounded && e.reached s != some (e.dueInstant s) then e.commitAt else e.dueInstant s

/-- A lesson tick waits for the transition that the mode manager takes at its instant (R95). -/
def Event.afterMode (e : Event) (s : State) : Bool :=
  match e.spec.act with
  | .lessonTick _ => modeFirst s
  | _ => false

/-- Take the event of a slot as it fires: it is the first in the order of R130, and it fires at its due instant, or in the first
base period after it in which the engine fires no other: the event and the state after the engine's part. Its log entry shows LEFT
and DUE as they stood before this firing is counted down, where R149 does not say: the model's choice (assumption log 56). -/
def takeEvent (slot : Nat) (s : State) : Option (Event × State) :=
  match eventAt slot s with
  | none => none
  | some e =>
    let s1 := s.reach (Nat.max (e.dueInstant s) s.tt.nextFire)
    if e.fires s && e.isNext s && !e.afterMode s1 then
      let late := s1.now - e.lateFrom s
      let s2 : State := { s1 with tt := { s1.tt with nextFire := s1.now + 1 } }
      some (e, loseRest e.slot (advanceEvent e (logEvent (if e.logsLate s then 1 else 0) 0 late e (s2.peak Ix.TT_LATE_MAX 0 32 late))))
    else none

/-- Take a committed event whose angle is not reached by the bound of R137. -/
def takeAtBound (slot : Nat) (s : State) : Option (Event × State) :=
  match eventAt slot s with
  | none => none
  | some e => if e.bounded && e.dueInstant s == e.bound s then takeEvent slot s else none

/-! ## Entry into LOST and a new binding (R145, R592) -/

/-- The uncommitted events of a clock. -/
def uncommittedOn (p : Pc) (s : State) : List Event := s.tt.events.filter fun e => e.spec.clock == p.val && !e.committed

/-- Handle a clock's uncommitted events as at a loss, and report TT_PHASE_LOST (R145). -/
def loseClockEvents (p : Pc) (policy : Nat) (s : State) : State :=
  let c := s.tt.clocks[p]
  report 0x101 p.val ((uncommittedOn p s).foldl (fun t e => loseEvent policy c e t) s)

/-- Entry into LOST at an instant (R123, R145). -/
def loseClock (p : Pc) (s : State) : State :=
  let c := s.tt.clocks[p]
  let s1 := updPc p (fun c => { c with st := .lost, pos := c.shown s.now, posAt := s.now, entryAt := s.now }) (settle s)
  let s2 := (if c.st == .lost then s1 else s1.bump (Ix.TT_PC_ERR p.val) 16 16)
  loseClockEvents p (lossOf p s2) s2

/-- A committed change of a clock's binding (R592): the source 0 unbinds it, another source or publisher rebinds it. A clock that
was unbound has tracked no more and enters TRACKING at revolution 0 when it is bound again; where one commit changes the binding
and LOSS, the new policy holds: the model's choices (assumption log 56). -/
def rebindClock (p : Pc) (newSource : Nat) (s0 : State) : State :=
  let s := settle s0
  let c := s.tt.clocks[p]
  if c.st == .unbound then
    if newSource = 0 then s else updPc p (fun c => { c with st := .stopped, pos := 2 ^ 32 }) s
  else if newSource = 0 then
    let s1 := (uncommittedOn p s).foldl (fun t e => loseEvent 2 c e t) s
    endFault 0x101 p.val (updPc p (fun _ => PhaseClock.reset) s1)
  else
    let frozen := c.shown s.now
    let s1 := updPc p (fun c => { c with pos := frozen, posAt := s.now, entryAt := s.now }) s
    let s2 := loseClockEvents p (lossOf p s1) s1
    updPc p (fun c => { c with st := .stopped, marks := [], acq := none, good := 0, seed := none }) s2

/-- When a clock re-tracks under HOLD, events whose due value it has already reached fire at once: they are marked LATE (R145). -/
def markLate (p : Pc) (s : State) : State :=
  let pos := (s.tt.clocks[p]).shown s.now
  if lossOf p s ≠ 0 then s
  else { s with tt := { s.tt with events := s.tt.events.map fun e =>
      if e.spec.clock == p.val && !e.committed && decide (e.due ≤ pos) then { e with late := true } else e } }

/-! ## Meanings -/

/-- TT_POST (R133, R134). -/
def execTtPost (group : List EventSpec) (s : State) : Host.Outcome State Fault Refusal :=
  doneFor .pair s fun s => servicePost group s

/-- TT_CANCEL (R142). -/
def execTtCancel (slot gen : Nat) (s : State) : Host.Outcome State Fault Refusal :=
  doneFor .pair s fun s => cancelHandle (slot, gen) s

/-- The commitment of an event at the first base period its predicted instant lies within the horizon (R136). -/
def commitEvent (slot : Nat) (s : State) : State :=
  match eventAt slot s with
  | none => s
  | some e =>
    if e.committed then s
    else match e.predicted s with
      | some t =>
        let s1 := s.reach (t - horizonP s)
        commitPayload e (updEvent slot (fun x => { x with committed := true, commitAt := t }) s1)
      | none => s

/-- EVENT_COMMIT (R136). -/
def execEventCommit (slot : Nat) (s : State) : Host.Outcome State Fault Refusal := doneFor .coreRun s fun s => commitEvent slot s

/-- A mark is missing: the clock coasts from the angle it shows (R125). -/
def markMissing (p : Pc) (s : State) : State :=
  match (s.tt.clocks[p]).missAt with
  | none => s
  | some t =>
    let s1 := s.reach t
    updPc p (fun c => { c with st := .coasting, pos := c.shown s1.now, posAt := s1.now, base := s1.now, coastFrom := c.shown s1.now }) s1

/-- MARK_MISSING (R125). -/
def execMarkMissing (p : Pc) (s : State) : Host.Outcome State Fault Refusal := doneFor .core s fun s => markMissing p s

/-- The coasted distance exceeds `TT_PCn_COAST` (R123, R145). -/
def coastLimit (p : Pc) (s : State) : State :=
  match (s.tt.clocks[p]).limitAt (s.num (Ix.TT_PC_COAST p.val)) with
  | none => s
  | some t => loseClock p (s.reach t)

/-- COAST_LIMIT (R123). -/
def execCoastLimit (p : Pc) (s : State) : Host.Outcome State Fault Refusal := doneFor .core s fun s => coastLimit p s

/-- No mark for `TT_PCn_STOP` (R123). In STANDBY every clock keeps its state (R147). -/
def clockStop (p : Pc) (s : State) : State :=
  let c := s.tt.clocks[p]
  let lim := msP (s.num (Ix.TT_PC_STOP p.val))
  if s.pw.pw == .standby then s
  else match c.st with
  | .acquiring => updPc p (fun c => { c with st := .stopped, acq := none, marks := [], good := 0 }) (s.reach (c.lastMark + lim))
  | .lost => updPc p (fun c => { c with st := .stopped }) (s.reach (Nat.max c.lastMark c.entryAt + lim))
  | _ => s

/-- CLOCK_STOP_TIMEOUT (R123). -/
def execClockStopTimeout (p : Pc) (s : State) : Host.Outcome State Fault Refusal := doneFor .core s fun s => clockStop p s

/-- A write to `TT_LOG_SEL` latches the entry of that age; six words of zero at or beyond the entries held (R149). -/
def ttLogSel (age : Nat) (s : State) : State :=
  let e := if age < s.tt.log.length then s.tt.log.getD (s.tt.log.length - 1 - age) [] else []
  (List.range 6).foldl (fun t k => t.put (Ix.TT_LOG_ENTRY k) (e.getD k 0)) (s.putNat Ix.TT_LOG_SEL (age % 256))

/-- TT_LOG_SEL_WRITE (R149). -/
def execTtLogSelWrite (age : Nat) (s : State) : Host.Outcome State Fault Refusal := doneFor .pair s fun s => ttLogSel age s

/-- The least number of periods that brings a repeating event's due value beyond the horizon. -/
def periodsLate (e : EventSpec) (s : State) : Nat :=
  bisect (fun k => !tooLate { e with due := (e.due + k * e.period) % (if e.clock = 8 then 2 ^ 48 else 2 ^ 32) } s) 40 0 (2 ^ 38)

/-- A waiting group as it is posted again: a lesson's tick that has come too near moves on by whole periods, which keeps its grid
(R155); the events of any other group on FREE move together by what brings the nearest of them beyond the horizon, which keeps the
offsets among them (R208). -/
def reaim (es : List EventSpec) (s : State) : List EventSpec :=
  let late := es.filter fun e => e.clock == 8 && tooLate e s
  let by_ := late.foldl (fun d e => Nat.max d ((soonest s - s.freeBase + 2 ^ 48 - e.due % 2 ^ 48) % 2 ^ 48)) 0
  es.map fun e =>
    match e.act with
    | .lessonTick _ =>
      if e.rep ≠ 1 ∧ 0 < e.period ∧ tooLate e s then
        { e with due := (e.due + periodsLate e s * e.period) % (if e.clock = 8 then 2 ^ 48 else 2 ^ 32) }
      else if e.clock = 8 then { e with due := (e.due + by_) % 2 ^ 48 } else e
    | _ => if e.clock = 8 then { e with due := (e.due + by_) % 2 ^ 48 } else e

/-- A posting that was retried records how long after the tick that produced it the events were posted (R14, `SYS_POST_LAT_MAX`). -/
def notePostDelay (since : Nat) (s : State) : State := s.peak Ix.SYS_POST_LAT_MAX 0 32 ((s.now - since) / 40)

/-- SERVICE_POST_RETRY: the first waiting group is posted again (R140). -/
def postRetry (s : State) : State :=
  match s.tt.waiting with
  | [] => s
  | w :: rest =>
    let t := postGroup (reaim w.group s) { s with tt := { s.tt with waiting := rest } }
    if t.tt.status = 0x10 then { t with tt := { t.tt with waiting := w :: rest } }
    else if t.tt.status = 0 then keepHandles w.by_ (notePostDelay w.since t) else t

/-! ## Roll-back (R77, R79) -/

/-- Roll an OPEN transaction back, or a SEALED one whose commit event is not yet inside the horizon (R79). -/
def rollBack (status cause : Nat) (s0 : State) : State :=
  let s := settle s0
  match s.txn.st with
  | .idle => s0
  | .opened => endTxn status cause 0 s
  | .sealed =>
    match s.txn.handle with
    | none => endTxn status cause 0 s
    | some h =>
      if s.tt.events.any fun e => e.slot == h.1 && e.gen == h.2 && e.isCommitted s then s
      else endTxn status cause 0 (cancelHandle h s)

/-- Roll back where the owner is a requester. -/
def rollBackOf (r : Requester) (cause : Nat) (s : State) : State :=
  if s.txn.owner == some r then rollBack 9 cause s else s

/-- A fabric node that owns the transaction is out of reach: it has ceased to exist for this device (R79). -/
def dropFabOwner (s : State) : State :=
  match s.txn.owner with
  | some (.fabric _) => rollBack 9 2 s
  | _ => s

end Sys2Proof.Machine
end

