-- ==== Sys2Proof/Machine/Network.lean ====
section
/-!
DEFINITION. The behaviour network at run time (07_behaviour_network.md): signals, block types, evaluation, publication and
lesson ticks.
-/
namespace Sys2Proof.Machine

/-! ## Signals (R150, R151) -/

/-- The stale flag of a signal (R151, R163). -/
def sigStale (n : Nat) (s : State) : Bool :=
  match s.bn.cfg.signals[n]? with
  | none => false
  | some g =>
    if g.kind = 11 then !s.bn.hostWritten.contains g.index
    else if 1 ≤ g.kind ∧ g.kind ≤ 8 then (match s.bn.sigs[n]? with | some x => x.stale | none => false)
    else false

/-- Publish a value on a signal. -/
def publishSig (n : Nat) (v : Word) (s : State) : State :=
  { s with bn := { s.bn with sigs := s.bn.sigs.modify n fun x => { x with val := v } } }

/-- Publish a value on every signal that a source kind and index name, with its stale flag. -/
def publishSource (kind index : Nat) (v : Word) (stale : Bool) (s : State) : State :=
  let f : Nat → Sig → Sig := fun i x =>
    match s.bn.cfg.signals[i]? with
    | some g => if g.kind = kind ∧ g.index = index then { x with val := v, stale := stale } else x
    | none => x
  { s with bn := { s.bn with sigs := s.bn.sigs.mapIdx f } }

/-- Set the stale flag of the signals of a source, which keep their value. -/
def staleSource (kind index : Nat) (stale : Bool) (s : State) : State :=
  let f : Nat → Sig → Sig := fun i x =>
    match s.bn.cfg.signals[i]? with
    | some g => if g.kind = kind ∧ g.index = index then { x with stale := stale } else x
    | none => x
  { s with bn := { s.bn with sigs := s.bn.sigs.mapIdx f } }

/-! ## Block types (R154, Table 7-8) -/

/-- A word as a signed number. -/
def sInt (w : Word) : Int := w.toInt

/-- A signed number as a word. -/
def ofSInt (i : Int) : Word := BitVec.ofInt 32 i

/-- The least and the greatest value of INT and FIX. -/
def minNum : Int := -2147483648
/-- The greatest value. -/
def maxNum : Int := 2147483647

/-- A number saturated to its type, and whether it saturated. -/
def satNum (x : Int) : Word × Nat := (ofSInt (clampInt minNum maxNum x), if x < minNum ∨ maxNum < x then 1 else 0)

/-- A truth value as a word. -/
def boolW (b : Bool) : Word := if b then 1 else 0

/-- A scaled quotient: rounded to nearest on FIX, truncated on INT (R154). -/
def scaleDiv (fix : Bool) (a b : Int) : Int := if fix then divNear a b else a.tdiv b

/-- µs elapsed between two instants of the 1 µs count, of which the network keeps no wrap (R154). -/
def usSince (t t0 : Nat) : Nat := t - t0

/-- Interpolate in the points of a TABLE block, in order. -/
def interpolate (fix : Bool) (x : Int) : List (Int × Int) → Int
  | [] => 0
  | [(_, y)] => y
  | (x0, y0) :: (x1, y1) :: rest =>
    if x ≤ x0 then y0
    else if x < x1 then y0 + scaleDiv fix ((y1 - y0) * (x - x0)) (x1 - x0)
    else interpolate fix x ((x1, y1) :: rest)

/-- The points of a TABLE block from the constant pool. -/
def poolPoints (consts : List Word) (p n : Nat) : List (Int × Int) :=
  (List.range n).map fun k => (sInt (consts.getD (p + 2 * k) 0), sInt (consts.getD (p + 2 * k + 1) 0))

/-- A comparison code of CMP. -/
def cmpOp (op : Nat) (a b : Int) : Bool :=
  match op with
  | 0 => decide (a = b) | 1 => decide (a ≠ b) | 2 => decide (a < b) | 3 => decide (a ≤ b) | 4 => decide (a > b)
  | _ => decide (a ≥ b)

/-- What a block reads at one evaluation: input words, the type of its numbers, the stale flag of its first input, the tick
instant and the time since the last evaluation, in µs. -/
structure BlockIn where
  ins : List Word
  typ : Nat
  inType : Nat
  stale : Bool
  t : Nat
  dt : Nat

/-- The result of a block: its new memory and the saturations counted. -/
structure BlockOut where
  st : BlockSt
  sat : Nat

/-- The block writes an output value. -/
def outWord (b : BlockSt) (w : Word) : BlockOut := { st := { b with out := w }, sat := 0 }
/-- The block writes a truth value. -/
def outBool (b : BlockSt) (v : Bool) : BlockOut := outWord b (boolW v)
/-- The block writes a saturating number. -/
def outNum (b : BlockSt) (x : Int) : BlockOut := { st := { b with out := (satNum x).1 }, sat := (satNum x).2 }

/-- HYST (0x06). -/
def hystBlock (upper lower : Int) (dwell : Nat) (x : Int) (t : Nat) (b : BlockSt) : BlockOut :=
  let a := if upper < x then (match b.t0 with | some u => some u | none => some t) else none
  let c := if x < lower then (match b.t1 with | some u => some u | none => some t) else none
  let up := match a with | some u => decide (dwell ≤ usSince t u) | none => false
  let dn := match c with | some u => decide (dwell ≤ usSince t u) | none => false
  { st := { b with t0 := a, t1 := c, out := if up then 1 else if dn then 0 else b.out }, sat := 0 }

/-- TON (0x14). -/
def tonBlock (x : Bool) (p t : Nat) (b : BlockSt) : BlockOut :=
  if x then
    let u := b.t0.getD t
    { st := { b with t0 := some u, out := boolW (decide (p ≤ usSince t u)) }, sat := 0 }
  else { st := { b with t0 := none, out := 0 }, sat := 0 }

/-- TOF (0x15). -/
def tofBlock (x : Bool) (p t : Nat) (b : BlockSt) : BlockOut :=
  if x then { st := { b with t0 := none, out := 1 }, sat := 0 }
  else if b.out = 0 then { st := { b with t0 := none }, sat := 0 }
  else
    let u := b.t0.getD t
    if usSince t u < p then { st := { b with t0 := some u }, sat := 0 } else { st := { b with t0 := none, out := 0 }, sat := 0 }

/-- PULSE (0x16). -/
def pulseBlock (x prev : Bool) (p t : Nat) (b : BlockSt) : BlockOut :=
  let on := match b.t0 with | some u => decide (usSince t u < p) | none => false
  if on then { st := { b with out := 1 }, sat := 0 }
  else if x && !prev && decide (0 < p) then { st := { b with t0 := some t, out := 1 }, sat := 0 }
  else { st := { b with t0 := none, out := 0 }, sat := 0 }

/-- BLINK (0x17). -/
def blinkBlock (x : Bool) (p0 p1 t : Nat) (b : BlockSt) : BlockOut :=
  if x then
    let u := b.t0.getD t
    { st := { b with t0 := some u, out := boolW (decide (usSince t u % (p0 + p1) < p0)) }, sat := 0 }
  else { st := { b with t0 := none, out := 0 }, sat := 0 }

/-- RAMP (0x1A). -/
def rampBlock (fix : Bool) (target : Int) (rise fall : Nat) (dt : Nat) (b : BlockSt) : BlockOut :=
  if !b.ran then outWord b (ofSInt target)
  else
    let y := sInt b.out
    let up := scaleDiv fix ((rise * dt : Nat) : Int) 1000000
    let dn := scaleDiv fix ((fall * dt : Nat) : Int) 1000000
    if y < target then outWord b (ofSInt (if y + up < target then y + up else target))
    else outWord b (ofSInt (if target < y - dn then y - dn else target))

/-- The number of an input. -/
def BlockIn.num (i : BlockIn) (k : Nat) : Int := sInt (i.ins.getD k 0)
/-- The truth of an input. -/
def BlockIn.truth (i : BlockIn) (k : Nat) : Bool := i.ins.getD k 0 != 0
/-- A previous input as a truth value; the present one at the first evaluation. -/
def prevTruth (i : BlockIn) (b : BlockSt) (k : Nat) : Bool := if b.ran then b.prev.getD k 0 != 0 else i.truth k
/-- A rising edge of an input. -/
def rising (i : BlockIn) (b : BlockSt) (k : Nat) : Bool := i.truth k && !prevTruth i b k

/-- CAST (0x11). -/
def castBlock (from_ to_ : Nat) (x : Word) (b : BlockSt) : BlockOut :=
  match to_, from_ with
  | 0, _ => outBool b (x != 0)
  | 1, 2 => outWord b (ofSInt ((sInt x).tdiv 65536))
  | 2, 2 => outWord b x
  | 2, _ => outNum b (sInt x * 65536)
  | _, _ => outWord b x

/-- COUNT (0x19). -/
def countBlock (i : BlockIn) (low high : Int) (b : BlockSt) : BlockOut :=
  if i.truth 2 then outWord b (ofSInt low)
  else
    let y := sInt b.out + (if rising i b 0 then 1 else 0) - (if rising i b 1 then 1 else 0)
    outWord b (ofSInt (clampInt low high y))

/-- What a block computes (Table 7-8); sinks and unknown types keep their memory. -/
def blockValue (c : BlockCfg) (consts : List Word) (i : BlockIn) (b : BlockSt) : BlockOut :=
  let fix := i.typ == 2
  let p0 := c.p0.toNat
  let p1 := c.p1.toNat
  match c.typ with
  | 0x01 => outBool b (i.ins.all (· != 0))
  | 0x02 => outBool b (i.ins.any (· != 0))
  | 0x03 => outBool b ((i.ins.filter (· != 0)).length % 2 == 1)
  | 0x04 => outBool b (!i.truth 0)
  | 0x05 => outBool b (cmpOp (nbits p0 0 3) (i.num 0) (if c.nin = 1 then sInt c.p1 else i.num 1))
  | 0x06 => hystBlock (sInt (consts.getD p0 0)) (sInt (consts.getD (p0 + 1) 0)) (consts.getD (p0 + 2) 0).toNat (i.num 0) i.t b
  | 0x07 => outNum b ((i.ins.map sInt).foldl (· + ·) 0)
  | 0x08 => outNum b (i.num 0 - i.num 1)
  | 0x09 => outNum b (if fix then divNear (i.num 0 * i.num 1) 65536 else i.num 0 * i.num 1)
  | 0x0A =>
    if i.num 1 = 0 then outWord b (ofSInt (if 0 ≤ i.num 0 then maxNum else minNum))
    else outNum b (if fix then divNear (i.num 0 * 65536) (i.num 1) else (i.num 0).tdiv (i.num 1))
  | 0x0B => outWord b (ofSInt ((i.ins.map sInt).foldl min maxNum))
  | 0x0C => outWord b (ofSInt ((i.ins.map sInt).foldl max minNum))
  | 0x0D => outWord b (ofSInt (clampInt (sInt c.p0) (sInt c.p1) (i.num 0)))
  | 0x0E => outNum b (divNear (sInt c.p0 * i.num 0) 65536 + sInt c.p1)
  | 0x0F => outNum b (interpolate fix (i.num 0) (poolPoints consts p0 p1))
  | 0x10 => outWord b (if i.truth 0 then i.ins.getD 2 0 else i.ins.getD 1 0)
  | 0x11 => castBlock i.inType (nbits p0 0 2) (i.ins.getD 0 0) b
  | 0x12 => outWord b b.store
  | 0x13 =>
    let now_ := i.truth 0
    let was := prevTruth i b 0
    outBool b (match p0 with | 0 => now_ && !was | 1 => !now_ && was | _ => now_ != was)
  | 0x14 => tonBlock (i.truth 0) p0 i.t b
  | 0x15 => tofBlock (i.truth 0) p0 i.t b
  | 0x16 => pulseBlock (i.truth 0) (prevTruth i b 0) p0 i.t b
  | 0x17 => blinkBlock (i.truth 0) p0 p1 i.t b
  | 0x18 =>
    let sset := i.truth 0
    let rset := i.truth 1
    outWord b (if p0 = 0 then (if rset then 0 else if sset then 1 else b.out)
      else (if sset then 1 else if rset then 0 else b.out))
  | 0x19 => countBlock i (sInt c.p0) (sInt c.p1) b
  | 0x1A => rampBlock fix (i.num 0) p0 p1 i.dt b
  | 0x1B =>
    if !b.ran then outWord b (i.ins.getD 0 0)
    else outNum b (sInt b.out + scaleDiv fix ((i.num 0 - sInt b.out) * (i.dt : Int)) ((p0 + i.dt : Nat) : Int))
  | 0x1C => outBool b i.stale
  | _ => { st := b, sat := 0 }

/-! ## Evaluation (R158–R160) -/

/-- Whether a block is a sink. -/
def isSink (c : BlockCfg) : Bool := decide (0x20 ≤ c.typ) && decide (c.typ ≤ 0x24)

/-- The producing block of a signal, by number. -/
def producer (cfg : NetworkCfg) (sig : Nat) : Option Nat := cfg.blocks.findIdx? fun c => !isSink c && c.out == sig

/-- The blocks of the same lesson a block must run after (R159): the producers of its inputs; none for a DELAY. -/
def runsAfter (cfg : NetworkCfg) (n : Nat) : List Nat :=
  match cfg.blocks[n]? with
  | none => []
  | some c =>
    if c.typ = 0x12 then []
    else c.ins.filterMap fun sig =>
      match producer cfg sig with
      | some b => match cfg.blocks[b]? with
        | some d => if d.lesson = c.lesson then some b else none
        | none => none
      | none => none

/-- The blocks of a lesson by number. -/
def blocksOf (cfg : NetworkCfg) (l : Nat) : List Nat :=
  (List.range cfg.blocks.length).filter fun n => match cfg.blocks[n]? with | some c => c.lesson == l | none => false

/-- Topological order: at each turn the lowest block all of whose predecessors have run (R159). -/
def orderLoop (cfg : NetworkCfg) : Nat → List Nat → List Nat → List Nat
  | 0, _, acc => acc.reverse
  | k + 1, todo, acc =>
    match todo.find? fun n => (runsAfter cfg n).all acc.contains with
    | none => acc.reverse
    | some n => orderLoop cfg k (todo.filter (· != n)) (n :: acc)

/-- The order of a lesson's blocks (R159). -/
def lessonOrder (cfg : NetworkCfg) (l : Nat) : List Nat :=
  orderLoop cfg (blocksOf cfg l).length (blocksOf cfg l) []

/-- The value a block reads of a signal during its lesson's evaluation: the value computed earlier in this evaluation for a
signal of its own lesson, else the published value (R160). -/
def evalRead (s : State) (env : List (Nat × Word)) (sig : Nat) : Word := (env.lookup sig).getD (sigValue sig s)

/-- The running part of an evaluation: block memories, values of own signals, saturations, sink values. -/
structure EvalSt where
  blocks : List BlockSt
  env : List (Nat × Word)
  sat : Nat
  sinks : List (Nat × Word)

/-- The default block memory. -/
def BlockSt.reset : BlockSt := { out := 0, ran := false, prev := [], store := 0, t0 := none, t1 := none }

/-- Evaluate one block. -/
def evalBlock (s : State) (t dt : Nat) (n : Nat) (e : EvalSt) : EvalSt :=
  match s.bn.cfg.blocks[n]? with
  | none => e
  | some c =>
    let b := e.blocks.getD n BlockSt.reset
    let ins := c.ins.map (evalRead s e.env)
    if isSink c then { e with sinks := e.sinks ++ [(n, ins.getD 0 0)] }
    else
      let first := c.ins.getD 0 0x7FF
      let i : BlockIn := { ins := ins, typ := sigType c.out s, inType := sigType first s, stale := sigStale first s, t := t, dt := dt }
      let o := blockValue c s.bn.cfg.consts i b
      let st := { o.st with ran := true, prev := ins }
      { e with blocks := e.blocks.set n st, env := (c.out, st.out) :: e.env, sat := e.sat + o.sat }

/-- Every DELAY store takes its input's value (R158). -/
def storeDelays (s : State) (order : List Nat) (e : EvalSt) : EvalSt :=
  order.foldl (fun e n =>
    match s.bn.cfg.blocks[n]? with
    | some c =>
      if c.typ = 0x12 then
        { e with blocks := e.blocks.modify n fun b => { b with store := evalRead s e.env (c.ins.getD 0 0x7FF) } }
      else e
    | none => e) e

/-- Publications of a lesson due at or before an instant take effect (R160). -/
def flushPubs (t : Nat) (s : State) : State :=
  let due := ((List.finRange 16).map fun l => (s.bn.lessons[l]).pubs.filter fun p => decide (p.1 ≤ t)).flatten
  let s1 := due.foldl (fun a p => publishSig p.2.1 p.2.2 a) s
  let f : LessonSt → LessonSt := fun x => { x with pubs := x.pubs.filter fun p => decide (t < p.1) }
  { s1 with bn := { s1.bn with lessons := s1.bn.lessons.map f } }

/-- Whether a lesson's mask holds a mode (R158). -/
def lessonIn (l : LessonNo) (m : Mode) (s : State) : Bool :=
  match s.bn.cfg.lessons[l.val]? with | some c => nbits c.modes m.code 1 == 1 | none => false

/-- Evaluate a lesson's blocks at a tick instant: the state after it and the sink values to hand, in block order. -/
def evaluateLesson (l : LessonNo) (s : State) : State × List (Nat × Word) :=
  let st := s.bn.lessons[l]
  let order := lessonOrder s.bn.cfg l.val
  let dt := if st.evaluated then usSince s.usTotal st.last else 0
  let e0 : EvalSt := { blocks := s.bn.blocks, env := [], sat := 0, sinks := [] }
  let e1 := storeDelays s order (order.foldl (fun e n => evalBlock s s.usTotal dt n e) e0)
  let pubs := e1.env.reverse.map fun p => (s.now + usP 250, p.1, p.2)
  let s1 : State := { s with bn := { s.bn with blocks := e1.blocks } }
  let s2 := updLesson l (fun x => { x with evaluated := true, last := s.usTotal, pubs := x.pubs ++ pubs }) s1
  let sat := s2.word Ix.BN_SAT_COUNT
  ((s2.put Ix.BN_SAT_COUNT (bumpFld sat 0 32 e1.sat)).bump (Ix.BN_L_EVALS l.val) 0 32, e1.sinks)

/-- A lesson tick (R158): what it does to the network and the sink values to hand. A tick of a lesson's fallback event, on FREE,
counts as a fallback tick (R157). -/
def lessonTick (l : LessonNo) (free : Bool) (s0 : State) : State × List (Nat × Word) :=
  let s := flushPubs s0.now s0
  match s.bn.cfg.lessons[l.val]? with
  | none => (s, [])
  | some c =>
    if !lessonIn l s.modes.mode s then (s, [])
    else
      let s1 := s.bump (Ix.BN_L_TICKS l.val) 0 32
      let s2 := if free && (s.bn.lessons[l]).fallback then s1.bump (Ix.BN_L_SKIPS l.val) 16 16 else s1
      if (blocksOf s.bn.cfg l.val).isEmpty then (s2, [])
      else if (s.bn.lessons[l]).evaluated && decide (usSince s.usTotal (s.bn.lessons[l]).last < c.minPeriod) then
        (report 0x102 l.val (s2.bump (Ix.BN_L_SKIPS l.val) 0 16), [])
      else evaluateLesson l s2

/-- The sink values that are new requests, with the record of what was handed (R162). -/
def newRequests (vals : List (Nat × Word)) (s : State) : State × List (Nat × Word) :=
  let new_ := vals.filter fun v => s.bn.handed.lookup v.1 != some v.2
  let keep := s.bn.handed.filter fun h => !new_.any fun v => v.1 == h.1
  ({ s with bn := { s.bn with handed := keep ++ new_ } }, new_)

/-- The off values that sinks of lessons outside a mode hand at a transition (R162). -/
def offValues (m : Mode) (s : State) : List (Nat × Word) :=
  (List.range s.bn.cfg.blocks.length).filterMap fun n =>
    match s.bn.cfg.blocks[n]? with
    | some c =>
      if h : c.lesson < 16 then
        if isSink c && !lessonIn ⟨c.lesson, h⟩ m s then some (n, c.p1) else none
      else none
    | none => none

/-! ## Lesson ticks (R155–R157) -/

/-- The events that tick a lesson repeatedly. -/
def tickEvents (l : LessonNo) (s : State) : List Event :=
  s.tt.events.filter fun e => e.spec.act == .lessonTick l && e.spec.rep == 0

/-- The next due position of a phase-clock lesson beyond the horizon (R155, R157). -/
def nextLessonPos (c : LessonCfg) (s : State) : Nat :=
  let k := s.tt.clocks[pcOf c.clock]
  let q := k.estimate (s.now + horizonP s + 1) - 2 ^ 32
  let per := Nat.max c.period 1
  let n := if q < c.phase then c.phase else c.phase + per * ((q - c.phase) / per + 1)
  2 ^ 32 + n

/-- The repeating event of a lesson on its own phase clock. -/
def phaseTick (l : LessonNo) (c : LessonCfg) (s : State) : EventSpec :=
  { clock := c.clock, due := nextLessonPos c s % 2 ^ 32, rep := 0, period := c.period, act := .lessonTick l, pool := 7 }

/-- Post a lesson's ticks from a start tick instant (R155–R157). -/
def startLesson (t0 : Nat) (l : LessonNo) (s : State) : State :=
  match s.bn.cfg.lessons[l.val]? with
  | none => s
  | some c =>
    if c.clock = 8 then
      if c.phase = 0 then servicePost [freeEvent t0 0 (usP c.period) (.lessonTick l) 7 s] s
      else
        servicePost [freeEvent (t0 + usP c.phase) 0 (usP c.period) (.lessonTick l) 7 s]
          (servicePost [freeEvent t0 1 0 (.lessonTick l) 7 s] s)
    else if (s.tt.clocks[pcOf c.clock]).runs then
      servicePost [phaseTick l c s] (servicePost [freeEvent t0 1 0 (.lessonTick l) 7 s] s)
    else
      let s1 := updLesson l (fun x => { x with fallback := true }) s
      condFault 0x103 l.val true (servicePost [freeEvent t0 0 (fallbackP l s) (.lessonTick l) 7 s] s1)

/-- A block's memory at the start: its output's INIT; LATCH, COUNT and DELAY resume from a restored value (R154, R164). -/
def startBlock (s : State) (c : BlockCfg) : BlockSt :=
  let init := match s.bn.cfg.signals[c.out]? with | some g => g.init | none => 0
  let v := if c.typ = 0x12 ∨ c.typ = 0x18 ∨ c.typ = 0x19 then
      (match s.bn.sigs[c.out]? with | some x => x.val | none => init) else init
  { BlockSt.reset with out := v, store := v }

/-- Step 6: a start tick for every lesson 1 ms after step 5, in lesson order; one for lesson 0 of an empty network (R156). -/
def startNetwork (s : State) : State :=
  let t0 := s.now + msP 1
  let n := s.bn.cfg.lessons.length
  let s1 : State :=
    { s with bn := { s.bn with running := true, t0 := t0, handed := [], lessons := Vector.replicate 16 LessonSt.reset,
                               blocks := s.bn.cfg.blocks.map (startBlock s) } }
  if n = 0 then servicePost [freeEvent t0 1 0 (.lessonTick 0) 7 s] s1
  else (List.finRange 16).foldl (fun t l => if l.val < n then startLesson t0 l t else t) s1

/-- A clock tracks again: its lessons leave their fallback (R157). -/
def resumeLessons (p : Pc) (s : State) : State :=
  (List.finRange 16).foldl (fun t l =>
    match t.bn.cfg.lessons[l.val]? with
    | some c =>
      if c.clock = p.val ∧ (t.bn.lessons[l]).fallback then
        let t1 := (tickEvents l t).foldl (fun a e => cancelHandle (e.slot, e.gen) a) t
        let t2 := updLesson l (fun x => { x with fallback := false }) t1
        endFault 0x103 l.val (servicePost [phaseTick l c t2] t2)
      else t
    | none => t) s

/-- A mark of an instant arrives on a phase clock: the estimator, its error record, the state and what follows it (R124–R127, R157).
In STANDBY no clock receives marks (R147). An error judged in ACQUIRING enters `TT_PCn_ERR` as one judged in TRACKING does: the
model's choice (assumption log 56). -/
def phaseMarkAt (p : Pc) (m : Mark) (t : Nat) (s0 : State) : State :=
  if s0.pw.pw == .standby then s0 else
  let s := settle s0
  let c := s.tt.clocks[p]
  let o := c.mark (s.num (Ix.TT_PC_TOL p.val)) m t s.now
  let s1 := updPc p (fun _ => o.clock) s
  let s2 := match o.err with | some e => s1.peak (Ix.TT_PC_ERR p.val) 0 16 e.natAbs | none => s1
  if o.entered then resumeLessons p (endFault 0x101 p.val (markLate p s2)) else s2

/-- A mark that arrives now. -/
def phaseMark (p : Pc) (m : Mark) (s : State) : State := phaseMarkAt p m s.now s

/-- The angle of tooth `k` of `n`, without OFFSET: round(k × 65,536 / n) (R262, R263). -/
def toothAngle (k n : Nat) : Nat := (2 * k * 65536 + n) / (2 * n)

/-- A mark for every phase clock bound to a source (R122). -/
def sourceMark (source : Nat) (m : Mark) (s : State) : State :=
  (List.finRange 8).foldl (fun t p => if t.fld (Ix.TT_PC_CFG p.val) 0 4 = source then phaseMark p m t else t) s

/-- An edge of a wheel source with `n` pulses in a revolution, for every phase clock bound to it (R263): each clock counts the edges
since it last left STOPPED or LOST. -/
def wheelMark (source n : Nat) (s : State) : State :=
  (List.finRange 8).foldl (fun t p =>
    if t.fld (Ix.TT_PC_CFG p.val) 0 4 = source then
      let c := t.tt.clocks[p]
      let k := if c.st == .stopped || c.st == .lost then 0 else c.edges
      phaseMark p { angle := toothAngle (k % n) n % 65536, ref := k % n == 0, next := toothAngle (k % n + 1) n - toothAngle (k % n) n,
                    rate := none } (updPc p (fun c => { c with edges := k + 1 }) t)
    else t) s

/-- The publication of a lesson's outputs 250 µs after its tick (R160). -/
def lessonPublish (l : LessonNo) (s : State) : State :=
  match (s.bn.lessons[l]).pubs with
  | [] => s
  | p :: _ =>
    let s1 := s.reach p.1
    let mine := ((s1.bn.lessons[l]).pubs.filter fun q => decide (q.1 ≤ s1.now))
    let s2 := mine.foldl (fun a q => publishSig q.2.1 q.2.2 a) s1
    updLesson l (fun x => { x with pubs := x.pubs.filter fun q => decide (s1.now < q.1) }) s2

/-- LESSON_PUBLISH (R160). -/
def execLessonPublish (l : LessonNo) (s : State) : Host.Outcome State Fault Refusal := doneFor .pair s fun s => lessonPublish l s

end Sys2Proof.Machine
end

