-- ==== Sys2Proof/Machine/Sharing.lean ====
section
/-!
DEFINITION. Priority classes and the factors of the shedding ladder (22_shared_resources.md, R543–R547).
-/
namespace Sys2Proof.Machine

/-- The class of a channel (Table 22-3). -/
def chClass (c : Ch) (s : State) : Nat :=
  match chHb c with
  | some h => if chSafety c s then 1 else if hbMode h s = 1 then 3 else 6
  | none => if chSafety c s then 1 else prioClass (fld (chCfg c s) 8 3)

/-- The class of a string (Table 22-3). -/
def strClass (t : Str) (s : State) : Nat := if strSafety t s then 1 else 6

/-- The factor of a class now, in quarters. -/
def factor (k : Nat) (s : State) : Nat := factorAtLevel s k

end Sys2Proof.Machine
end

