-- ==== Sys2Proof/Machine/Loads.lean ====
section
/-!
DEFINITION. The load service and its stages (08_load_switches.md): profiles, requests, turn-on, PWM, detections, restart and
latch, calibration, H-bridges and lock strokes.
-/
namespace Sys2Proof.Machine

/-! ## Classes and profiles (R167–R170) -/

/-- Rating in mA and minimum on-time in µs of a channel's class (Table 8-1). -/
def classFigures (c : Ch) : Nat × Nat :=
  if c.val < 4 then (12000, 200) else if c.val < 12 then (5000, 100) else if c.val < 28 then (2000, 50)
  else if c.val < 36 then (500, 20) else if c.val < 40 then (1000, 20) else (4000, 50)

/-- Rating in mA. -/
def rating (c : Ch) : Nat := (classFigures c).1

/-- Word `w` of the profile a channel follows: LIMIT, INRUSH, PULSE, OPEN, SLEW, REACT (R169, R192). -/
def profWord (c : Ch) (w : Nat) (s : State) : Word := s.word (Ix.HS_PROF0_w0 + 16 * chProfile c s + w)

/-- Effective minimum on-time in base periods (R170). -/
def minOnP (c : Ch) (s : State) : Nat := usP (Nat.max (fld (profWord c 2 s) 0 16) (classFigures c).2)

/-- Hardware current limit in mA and short filter in µs of a channel's class (Table 8-1). -/
def shortFigures (c : Ch) : Nat × Nat :=
  if c.val < 4 then (70000, 500) else if c.val < 12 then (30000, 300) else if c.val < 28 then (12000, 200)
  else if c.val < 40 then (3000, 100) else (8000, 200)

/-- Range of the current sense in mA (Table 8-2). -/
def senseRange (c : Ch) : Int × Int :=
  if c.val < 4 then (-5000, 80000) else if c.val < 12 then (-2000, 35000) else if c.val < 28 then (-1000, 14000)
  else if c.val < 40 then (-200, 3500) else (-10000, 10000)

/-- HOLD and DECAY in base periods. -/
def holdP (c : Ch) (s : State) : Nat := usP (100 * fld (profWord c 1 s) 0 16)
/-- DECAY in base periods. -/
def decayP (c : Ch) (s : State) : Nat := usP (100 * fld (profWord c 1 s) 16 16)

/-- RETRY in base periods. -/
def retryP (c : Ch) (s : State) : Nat := msP (10 * fld (profWord c 5 s) 8 8)

/-- The steady allowance in mA (R176, R190). -/
def steadyMa (c : Ch) (s : State) : Nat :=
  let base := fld (profWord c 0 s) 0 8 * rating c / 100
  if degradedNow s && decide (c.val < 12) then base * 8 / 10 else base

/-- The allowance in mA at `tau` base periods after the turn-on, capped by the hardware current limit (R176) and on a brushed
bridge by BR_CURRENT_LIMIT (R224, R245); PEAK is capped at 200 %
in the JUMP band (R189). -/
def allowance (c : Ch) (tau : Nat) (s : State) : Nat :=
  let steady := steadyMa c s
  let pk := fld (profWord c 0 s) 8 8
  let peak := (if s.band == .jump then Nat.min pk 20 else pk) * steady / 10
  let hold := holdP c s
  let dec := decayP c s
  let a :=
    if tau < hold then peak
    else if tau < hold + dec then peak - (peak - steady) * (tau - hold) / dec
    else steady
  let b := Nat.min a (shortFigures c).1
  match chHb c with
  | some h => if hbMode h s = 2 ∧ (s.mot.brushed[h]).cap ≠ 0 then Nat.min b (s.mot.brushed[h]).cap else b
  | none => b

/-! ## Requests (R173, R174) -/

/-- PWM is enabled on a channel. -/
def pwmEnabled (c : Ch) (s : State) : Bool := decide (c.val < 40) && bit (chCfg c s) 11

/-- The duty word of a channel: `HS_DUTY_n` or `LSD_DUTY_n`. -/
def dutyWord (c : Ch) (s : State) : Nat :=
  if c.val < 36 then s.fld (Ix.HS_DUTY c.val) 0 16 else s.fld (Ix.LSD_DUTY (c.val - 36)) 0 16

/-- The factor of the channel's class, in quarters; an output forced in WORKSHOP is not scaled (R546, R547). -/
def chFactor (c : Ch) (s : State) : Nat := if chForce c s = 0 then factor (chClass c s) s else 4

/-- The duty requested before shedding: the forcing word's, the DUTY sink's, or the duty word under an OUT sink. -/
def reqDutyOf (c : Ch) (s : State) : Nat :=
  if chForce c s = 0 then (match s.chans[c].reqDuty with | some d => d | none => dutyWord c s)
  else s.fld (chForceIx c) 16 16

/-- The duty after shedding (Table 22-5). -/
def shedDuty (c : Ch) (s : State) : Nat := scaled (reqDutyOf c s) (chFactor c s)

/-- The state requested of a channel before it meets its limits: 0 off, 1 on or forward, 2 reverse, 3 brake. -/
def reqState (c : Ch) (s : State) : Nat :=
  let f := chForce c s
  if f = 0 then s.chans[c].req else f - 1

/-- A brushed drive has a set-point other than 0 (R246). -/
def brushAsked (h : Hb) (s : State) : Bool :=
  let x := s.mot.brushed[h]
  (match x.volt with | some v => v != 0 | none => false) || (match x.cur with | some i => i != 0 | none => false)

/-- The state the service aims at: shedding turns a channel without PWM, and a bridge in DRIVE, off (Table 22-5). -/
def wantState (c : Ch) (s : State) : Nat :=
  let r := match chHb c with
    | some h => if hbMode h s = 2 ∧ chForce c s = 0 then b2n (brushAsked h s) else reqState c s
    | none => reqState c s
  if r = 0 then 0
  else if pwmEnabled c s then (if shedDuty c s = 0 then 0 else r)
  else if isHb c then (if chFactor c s < 4 then 0 else r)
  else if chFactor c s < 4 then 0 else 1

/-- VCOMP acts on a channel: its profile has it, and the supply is in the JUMP band (R180). -/
def compensated (c : Ch) (s : State) : Bool := bit (profWord c 5 s) 3 && s.band == .jump

/-- Whether a channel runs PWM edges: enabled, and a duty between off and full (R179), or a full one that VCOMP reduces (R180). -/
def wantsPwm (c : Ch) (s : State) : Bool :=
  pwmEnabled c s && (decide (shedDuty c s < 0xFFFF) || compensated c s) && decide (0 < shedDuty c s)

/-- The pool of a channel's events (R178, Table 6-5). -/
def chPool (c : Ch) (s : State) : Nat := if chSafety c s then 1 else 3

/-- The channel is on: INRUSH or ON. -/
def Channel.isOn (x : Channel) : Bool := x.st == .on || x.st == .inrush

/-- A channel that cannot be turned on now: tripped, latched, dropped, or held (R15, R459, R189). -/
def blocked (x : Channel) : Bool := x.st == .tripped || x.st == .latched || x.st == .dropped || x.held

/-! ## PWM (R178–R180) -/

/-- The PWM word of a channel. -/
def pwmWord (c : Ch) (s : State) : Word := if c.val < 36 then s.word (Ix.HS_PWM c.val) else s.word (Ix.LSD_PWM (c.val - 36))

/-- CLOCK of a channel's PWM. -/
def pwmClock (c : Ch) (s : State) : Nat := fld (pwmWord c s) 0 4

/-- PWM period in the units of its clock: base periods on FREE, angle units on a phase clock. -/
def pwmPeriod (c : Ch) (s : State) : Nat :=
  if pwmClock c s < 8 then 65536 / 2 ^ fld (pwmWord c s) 4 3 else usP (fld (pwmWord c s) 8 20)

/-- A length in the units of the PWM clock as base periods, by the clock's present rate (R179). -/
def pwmTime (c : Ch) (len : Nat) (s : State) : Nat :=
  if pwmClock c s < 8 then
    let w := (s.tt.clocks[pcOf (pwmClock c s)]).w
    if 0 < w then ((len : Rat) / w).floor.toNat else 0
  else len

/-- The duty applied at a period start: VCOMP in the JUMP band (R180), with VBAT in 10 mV, rounded down where the rule does not round
(assumption log 61). -/
def vcompDuty (c : Ch) (duty v : Nat) (s : State) : Nat :=
  if compensated c s && decide (0 < v) then Nat.min 0xFFFF (duty * 1400 * 1400 / (v * v)) else duty

/-- What a PWM period does: no pulse, a pulse with an off edge after a time, or on throughout; and the carries. -/
structure Pulse where
  on : Bool
  off : Option Nat
  carryOn : Nat
  carryOff : Nat

/-- The minimum pulse policies of Table 8-7 on candidate times in base periods. -/
def pulsePolicy (policy min_ per on carryOn carryOff : Nat) : Pulse :=
  if policy = 0 then
    let cand := on + carryOn
    if cand < min_ then { on := false, off := none, carryOn := cand, carryOff := carryOff }
    else
      let gap := per - cand + carryOff
      if gap < min_ then { on := true, off := none, carryOn := 0, carryOff := gap }
      else { on := true, off := some (per - gap), carryOn := 0, carryOff := 0 }
  else if policy = 1 then
    let o := Nat.max on min_
    if per - o < min_ then { on := true, off := some (per - min_), carryOn := 0, carryOff := 0 }
    else { on := true, off := some o, carryOn := 0, carryOff := 0 }
  else
    if on < min_ then { on := false, off := none, carryOn := 0, carryOff := 0 }
    else if per - on < min_ then { on := true, off := none, carryOn := 0, carryOff := 0 }
    else { on := true, off := some on, carryOn := 0, carryOff := 0 }

/-- The pulse of a period that starts with a VBAT (R178, R179). -/
def pulseOf (c : Ch) (vbat : Nat) (s : State) : Pulse :=
  let x := s.chans[c]
  let duty := vcompDuty c x.shadow vbat s
  let per := pwmPeriod c s
  if duty = 0 then { on := false, off := none, carryOn := 0, carryOff := 0 }
  else if duty = 0xFFFF then { on := true, off := none, carryOn := 0, carryOff := 0 }
  else
    let on := (divNear ((per * duty : Nat) : Int) 65535).toNat
    pulsePolicy (fld (profWord c 2 s) 16 2) (minOnP c s) (pwmTime c per s) (pwmTime c on s) x.carryOn x.carryOff

/-! ## Current sampling (R181) -/

/-- The next value of a grid of step `per` and offset `a` beyond `q`. -/
def gridAfterQ (q per a : Nat) : Nat := q + (per - (q + per - a) % per)

/-- A channel's edges are those of its PWM periods. -/
def pulsing (x : Channel) : Bool := x.posted == 2 && x.isOn

/-- Whether a channel is sampled: in WATCH while it is on, in RIDE and WORKSHOP always (R181, assumption log 24). -/
def sampled (c : Ch) (s : State) : Bool := s.modes.mode != .watch || s.chans[c].isOn

/-- The clock and the spacing in ac of angle sampling: the smallest m from 0 to 4 that keeps the predicted spacing at or below
1 ms; none where the service samples on FREE (R181). -/
def senseGrid (s : State) : Option (Nat × Nat) :=
  let k := s.fld Ix.HS_SENSE 0 4
  let c := s.tt.clocks[pcOf k]
  if decide (k < 8) && (c.st == .tracking || c.st == .coasting) then
    ((List.range 5).find? fun m => decide (((65536 / 2 ^ m : Nat) : Rat) ≤ 40000 * c.w)).map fun m => (k, 65536 / 2 ^ m)
  else none

/-- The sampling series of a channel that runs no PWM. -/
def senseSpec (c : Ch) (s : State) : EventSpec :=
  match senseGrid s with
  | none => freeSeries c.val (msP 1) s
  | some (k, step) =>
    let q := (s.tt.clocks[pcOf k]).estimate (s.now + horizonP s + 1)
    { clock := k, due := gridAfterQ q step (s.fld Ix.HS_SENSE 16 16 % step) % 2 ^ 32, rep := 0, period := step, act := .adcSample c.val,
      pool := 5 }

/-- The present revolution of the clock that `HS_SENSE` names. -/
def senseRev (s : State) : Nat := (s.tt.clocks[pcOf (s.fld Ix.HS_SENSE 0 4)]).shown s.now / 65536

/-- The service samples a channel that is to be sampled and runs no PWM. -/
def ensureSense (c : Ch) (s : State) : State :=
  if !sampled c s || pulsing s.chans[c] || (seriesOf c.val s).isSome then s else startSeries c.val (senseRev s) (senseSpec c s) s

/-- After a sample of a channel's series: the series ends with its need, and its spacing is chosen again after each angle 0 of the
clock, or where `HS_SENSE` names another clock. -/
def renewSense (c : Ch) (s : State) : State :=
  match seriesOf c.val s with
  | none => ensureSense c s
  | some x =>
    if !sampled c s || pulsing s.chans[c] then endSeries c.val s
    else
      match s.tt.events.find? fun e => e.slot == x.handle.1 && e.gen == x.handle.2 with
      | none => ensureSense c { s with tt := { s.tt with series := s.tt.series.filter (·.list != c.val) } }
      | some e =>
        let want := (senseGrid s).getD (8, msP 1)
        let other := e.spec.clock < 8 ∧ e.spec.clock ≠ s.fld Ix.HS_SENSE 0 4
        if (senseRev s ≠ x.rev ∨ other) ∧ want ≠ (e.spec.clock, e.spec.period) then startSeries c.val (senseRev s) (senseSpec c s) s
        else { s with tt := { s.tt with series := s.tt.series.map fun y => if y.list == c.val then { y with rev := senseRev s } else y } }

/-- The sample of the PWM period that starts at an event's due value: at the middle of the on-time, none below 4 µs (R181). -/
def pwmSample (c : Ch) (start : EventSpec) (vbat : Nat) (s : State) : State :=
  let p := pulseOf c vbat s
  let len := p.off.getD (pwmTime c (pwmPeriod c s) s)
  if p.on && decide (usP 4 ≤ len) then
    let w := (s.tt.clocks[pcOf start.clock]).w
    let half := if start.clock < 8 then ((len : Rat) * w / 2).floor.toNat else len / 2
    servicePost [{ start with due := (start.due + half) % (if start.clock < 8 then 2 ^ 32 else 2 ^ 48), rep := 1, period := 0,
                              act := .adcSample c.val, pool := 5 }] s
  else s

/-! ## Turning on and off (R175, R177) -/

/-- The channel is off. -/
def chOff (now : Nat) (x : Channel) : Channel := { x.dark now with st := if x.isOn then .off else x.st }

/-- The channel goes off: what is judged while it is on ends (R182), and the service samples it as its mode asks. -/
def turnOffCh (c : Ch) (s : State) : State :=
  ensureSense c (endFault 0x3C0 c.val (updCh c (fun x => { chOff s.now x with reverse := false }) s))

/-- A turn-on from OFF at this instant: INRUSH until HOLD and DECAY have elapsed, else ON (R175). What is judged while the channel is
off ends, and the filters start afresh (R182, assumption log 61). -/
def chTurnOn (c : Ch) (drive : Nat) (s : State) : State :=
  let st : ChSt := if holdP c s + decayP c s = 0 then .on else .inrush
  let s1 := updCh c (fun x => { x with st := st, drive := drive, turnOn := s.now, pulse := true, offAt := none, ending := false,
                                       applied := if pwmEnabled c s then x.applied else 0xFFFF, openOff := false, shortBat := false,
                                       excess := none, low := none, high := none }) s
  ensureSense c (endFault (0x340 + c.val) c.val (endFault (0x380 + c.val) c.val s1))

/-- The start of a PWM period after the one that starts now. -/
def nextStart (c : Ch) (s : State) : EventSpec :=
  let k := pwmClock c s
  if k < 8 then
    { clock := k, due := ((s.tt.clocks[pcOf k]).shown s.now + pwmPeriod c s) % 2 ^ 32, rep := 1, period := 0, act := .outSet c 1, pool := 5 }
  else freeEvent (s.now + pwmPeriod c s) 1 0 (.outSet c 1) 5 s

/-- A PWM period starts (R178, R179): the pulse is formed, and the sample of the next period is posted. -/
def pwmPeriodStart (c : Ch) (vbat : Nat) (s : State) : State :=
  let p := pulseOf c vbat s
  let duty := vcompDuty c s.chans[c].shadow vbat s
  let s1 := updCh c (fun x => { x with drive := if p.on then 1 else 0, pulse := p.on, offAt := p.off.map (s.now + ·), carryOn := p.carryOn,
                                       carryOff := p.carryOff, applied := duty, ending := false,
                                       derated := duty != x.shadow || decide (chFactor c s < 4) }) s
  pwmSample c (nextStart c s1) vbat (endSeries c.val s1)

/-- An OUT_SET on a high-side or low-side channel fires, with VBAT at that instant (R175, R178). An off takes effect no earlier than the
turn-on and the minimum on-time (R143). -/
def fireSwitch (c : Ch) (on : Bool) (vbat : Nat) (s : State) : State :=
  let x := s.chans[c]
  if !on then
    if x.isOn && decide (s.now < x.turnOn + minOnP c s) then
      updCh c (fun y => { y with ending := true, offAt := some (y.turnOn + minOnP c s) }) s
    else turnOffCh c s
  else if blocked x then s
  else
    let s1 := if x.st == .off then chTurnOn c 1 s else s
    if x.posted = 2 then pwmPeriodStart c vbat s1
    else updCh c (fun y => { y with drive := 1, pulse := true, offAt := none, ending := false, applied := 0xFFFF, derated := false }) s1

/-! ## Lock strokes (R188) and changes of direction (R187) -/

/-- Fields of `HB_LOCK_n` in base periods: STROKE_MAX, BRAKE, REV_BRAKE. -/
def strokeMaxP (h : Hb) (s : State) : Nat := msP (s.fld (Ix.HB_LOCK h.val) 0 12)
/-- BRAKE. -/
def strokeBrakeP (h : Hb) (s : State) : Nat := msP (5 * s.fld (Ix.HB_LOCK h.val) 20 6)
/-- REV_BRAKE. -/
def revBrakeP (h : Hb) (s : State) : Nat := msP (5 * s.fld (Ix.HB_LOCK h.val) 26 6)
/-- STALL in mA. -/
def stallMa (h : Hb) (s : State) : Nat := 50 * s.fld (Ix.HB_LOCK h.val) 12 8

/-- A bridge in DRIVE takes a state: 1 forward, 2 reverse, 3 brake. -/
def driveBridge (c : Ch) (h : Hb) (st : Nat) (s : State) : State :=
  updLock h (fun l => { l with turnTo := none, dir := if st = 3 then l.dir else st,
                               brakeAt := if st = 3 ∧ s.chans[c].drive ≠ 3 then s.now else l.brakeAt })
    (updCh c (fun y => { y with drive := st }) s)

/-- An OUT_SET on an H-bridge in DRIVE fires: a change between forward and reverse passes through brake for REV_BRAKE, of which a
brake under way counts (R187). -/
def fireBridge (c : Ch) (h : Hb) (st : Nat) (s : State) : State :=
  let x := s.chans[c]
  let l := s.locks[h]
  if st = 0 then updLock h (fun l => { l with turnTo := none }) (turnOffCh c s)
  else if blocked x then s
  else if x.st == .off then driveBridge c h st (chTurnOn c st s)
  else if st = 3 ∨ l.dir = st then driveBridge c h st s
  else if x.drive = 3 then
    if l.brakeAt + revBrakeP h s ≤ s.now then driveBridge c h st s else updLock h (fun l => { l with turnTo := some st }) s
  else updLock h (fun l => { l with turnTo := some st, brakeAt := s.now }) (updCh c (fun y => { y with drive := 3 }) s)

/-- Strokes within the past 60 s. -/
def recentStrokes (h : Hb) (s : State) : List Nat := (s.locks[h]).history.filter fun t => decide (s.now < t + secP 60)

/-- A stroke starts (Table 8-9). -/
def startStroke (h : Hb) (dir : Nat) (s : State) : State :=
  let c := hbCh h
  if blocked s.chans[c] then updLock h (fun l => { l with posted := false }) s
  else
    let s1 := chTurnOn c dir s
    let s2 := updLock h (fun l => { l with st := .drive, dir := dir, startAt := s.now, history := s.now :: recentStrokes h s,
                                           cooling := false, noEnd := false, posted := false, stall := none }) s1
    s2.bump (Ix.HB_COUNTS h.val) 8 8

/-! ## The service (R13, R173, R177, R178) -/

/-- The OUT_SET state of a wanted state. -/
def outState (n : Nat) : Fin 4 := ⟨n % 4, Nat.mod_lt _ (by decide)⟩

/-- The posted state of a channel and its intention. -/
def setPosted (c : Ch) (n : Nat) (s : State) : State := updCh c (fun x => { x with posted := n }) s

/-- The earliest instant of an OUT_SET on: beyond the horizon, and for a TRIPPED channel not before RETRY ends (R13, R183). -/
def turnOnAt (c : Ch) (s : State) : Nat :=
  let x := s.chans[c]
  if x.st == .tripped then Nat.max (soonest s) (x.tripAt + retryP c s) else soonest s

/-- Post one OUT_SET of a channel on FREE. -/
def postSingle (c : Ch) (t n : Nat) (s : State) : State :=
  servicePostAs (.single c) [freeEvent t 1 0 (.outSet c (outState n)) (chPool c s) s] s

/-- Stop the PWM period event of a channel. -/
def stopPwm (c : Ch) (s : State) : State :=
  let s1 := dropWaiting (.period c) s
  match s1.chans[c].period with
  | none => s1
  | some h => updCh c (fun x => { x with period := none }) (cancelHandle h s1)

/-- Take back what a channel's service has posted: groups that wait, the single event, the period event (R142). What is committed
fires nevertheless. -/
def withdraw (c : Ch) (s : State) : State :=
  let s1 := dropWaiting (.single c) (dropWaiting (.duty c) s)
  updCh c (fun x => { x with pend := none }) (stopPwm c (cancelOpt s1.chans[c].pend s1))

/-- The latest instant at which a committed turn-on or period start of a channel fires: what a withdrawal came too late for. -/
def comingOn (c : Ch) (s : State) : Option Nat :=
  let on := s.tt.events.filter fun e => e.isCommitted s && (match e.spec.act with | .outSet d st => d == c && st.val != 0 | _ => false)
  on.foldl (fun a e =>
    let t := if e.bounded then e.bound s else e.dueInstant s
    some (Nat.max t (a.getD 0))) none

/-- The instant of the OUT_SET off that ends a request: no earlier than the turn-on, made or committed, and the minimum on-time
(R143, R177); none for a channel that is off and stays off. -/
def turnOffAt (c : Ch) (s : State) : Option Nat :=
  let x := s.chans[c]
  match x.isOn, comingOn c s with
  | true, none => some (Nat.max (soonest s) (x.turnOn + minOnP c s))
  | true, some t => some (Nat.max (Nat.max (soonest s) (x.turnOn + minOnP c s)) (t + 1))
  | false, some t => some (Nat.max (soonest s) (t + minOnP c s))
  | false, none => none

/-- A request ends: what is posted is withdrawn, and an OUT_SET off follows where the channel is on or comes on. -/
def requestOff (c : Ch) (s : State) : State :=
  let s1 := setPosted c 0 (withdraw c s)
  match turnOffAt c s1 with
  | some t => postSingle c t 0 s1
  | none => s1

/-- The period starts of a PWM channel from the earliest instant on. -/
def pwmStart (c : Ch) (s : State) : EventSpec :=
  let k := pwmClock c s
  let t := turnOnAt c s
  if k < 8 then
    let per := pwmPeriod c s
    let q := (s.tt.clocks[pcOf k]).estimate t
    { clock := k, due := gridAfterQ q per (fld (pwmWord c s) 16 16 % per) % 2 ^ 32, rep := 0, period := per, act := .outSet c 1,
      pool := chPool c s }
  else freeEvent t 0 (pwmPeriod c s) (.outSet c 1) (chPool c s) s

/-- PWM begins: the repeating period start, and the sample of its first period. -/
def beginPwm (c : Ch) (s : State) : State :=
  let d := shedDuty c s
  let s1 := updCh c (fun y => { y with shadow := d, dutyPosted := d, carryOn := 0, carryOff := 0, posted := 2 }) (withdraw c s)
  let e := pwmStart c s1
  pwmSample c e (s1.fld Ix.SYS_SUPPLY 0 16) (servicePostAs (.period c) [e] s1)

/-- A new duty for a channel that runs PWM (R178). -/
def postDuty (c : Ch) (s : State) : State :=
  let d := shedDuty c s
  servicePostAs (.duty c) [freeEvent (soonest s) 1 0 (.outDuty c d) (chPool c s) s]
    (updCh c (fun y => { y with dutyPosted := d }) (dropWaiting (.duty c) s))

/-- A request cannot be served now: the channel is latched, dropped or held. A TRIPPED channel's turn-on is posted; it has no effect
where it fires while the channel is TRIPPED (R15, 08 "When the requested turn-on meets a trip"). -/
def shut (x : Channel) : Bool := x.st == .latched || x.st == .dropped || x.held

/-- Serve a high-side or low-side channel: post what its request needs. -/
def serveSwitch (c : Ch) (s : State) : State :=
  let x := s.chans[c]
  if wantState c s = 0 then (if x.posted = 0 then s else requestOff c s)
  else if shut x then s
  else if wantsPwm c s then
    if x.posted ≠ 2 then beginPwm c s else if x.dutyPosted = shedDuty c s then s else postDuty c s
  else if x.posted = 1 then s
  else
    let s1 := setPosted c 1 (withdraw c s)
    postSingle c (turnOnAt c s1) 1 s1

/-- A request for a stroke: post its start, or let it wait for a stroke under way, for COOLING, or for its class (R188,
Table 22-5). -/
def requestStroke (h : Hb) (dir : Nat) (s : State) : State :=
  let l := s.locks[h]
  if l.st != .idle ∨ l.posted then updLock h (fun l => { l with waiting := some dir }) s
  else if 6 ≤ (recentStrokes h s).length then updLock h (fun l => { l with waiting := some dir, cooling := true }) s
  else if chFactor (hbCh h) s < 4 then updLock h (fun l => { l with waiting := some dir }) s
  else postSingle (hbCh h) (soonest s) (if dir = 1 then 1 else 2) (updLock h (fun l => { l with posted := true }) s)

/-- The lock request is served: a change to 1 or 2 asks for a stroke (R188). -/
def serveLock (h : Hb) (s : State) : State :=
  let want := reqState (hbCh h) s
  if want = (s.locks[h]).acted then s
  else
    let s1 := updLock h (fun l => { l with acted := want }) s
    if want = 1 ∨ want = 2 then requestStroke h want (updLock h (fun l => { l with waiting := none, cooling := false }) s1) else s1

/-- A waiting stroke is asked for again. -/
def wakeStroke (h : Hb) (s : State) : State :=
  match (s.locks[h]).waiting with
  | none => s
  | some d => requestStroke h d (updLock h (fun l => { l with waiting := none, cooling := false }) s)

/-- Serve an H-bridge by its mode (R187). -/
def serveBridge (c : Ch) (h : Hb) (s : State) : State :=
  if hbMode h s = 1 then serveLock h s
  else if hbMode h s = 2 then s
  else
    let x := s.chans[c]
    let want := wantState c s
    if x.posted = want then s
    else if want = 0 then requestOff c s
    else if shut x then s
    else
      let s1 := setPosted c want (withdraw c s)
      postSingle c (turnOnAt c s1) want s1

/-- The service brings a channel towards its request. -/
def serveCh (c : Ch) (s : State) : State :=
  match chHb c with
  | some h => serveBridge c h s
  | none => serveSwitch c s

/-- Serve every channel. -/
def serveAll (s : State) : State := (List.finRange 42).foldl (fun t c => serveCh c t) s

/-- The posted OUT_SET on, or the series of period starts, of a channel is still to come. -/
def onPending (c : Ch) (s : State) : Bool :=
  let x := s.chans[c]
  x.posted != 0 && s.tt.events.any fun e => x.pend == some (e.slot, e.gen) || x.period == some (e.slot, e.gen)

/-- Turn a channel on again where its request is on (R183, R184): a bridge in LOCK runs the stroke of its request. -/
def resumeCh (c : Ch) (s : State) : State :=
  if onPending c s then s
  else match chHb c with
    | some h =>
      if hbMode h s = 1 then (if reqState c s = 1 ∨ reqState c s = 2 then requestStroke h (reqState c s) s else s)
      else serveCh c (setPosted c 0 s)
    | none => serveCh c (setPosted c 0 s)

/-- The period of a running channel starts afresh after a change of its PWM word (R178). -/
def restartPwm (c : Ch) (s : State) : State := if s.chans[c].posted = 2 then serveCh c (setPosted c 4 s) else s

/-- Take a handed flash out: the first value after a restart cancels it (R191). -/
def cancelFlash (c : Ch) (s : State) : State :=
  let s1 := s.chans[c].flash.foldl (fun t h => cancelHandle h t) (dropWaiting (.flash c) s)
  updCh c (fun x => { x with flash := [] }) s1

/-- A sink hands a request: a change of value is one that differs from the value handed before (R191). -/
def handRequest (c : Ch) (req : Nat) (duty : Option Nat) (s : State) : State :=
  serveCh c (updCh c (fun x => { x with
    req := req, reqDuty := duty, told := true,
    changedAt := if x.told && (x.req != req || x.reqDuty != duty) then some s.now else x.changedAt }) (cancelFlash c s))

/-- An OUT sink hands a request (R162, R173): 0 or false is off; a bridge takes the state. -/
def handOut (c : Ch) (v : Word) (s : State) : State :=
  handRequest c (if isHb c then v.toNat % 4 else if v = 0 then 0 else 1) none s

/-- A DUTY sink hands a duty (R173): 0.0 is off, 1.0 is 0xFFFF. -/
def handDuty (c : Ch) (v : Word) (s : State) : State :=
  let x := clampInt 0 65536 (sInt v)
  let d := (divNear (x * 65535) 65536).toNat
  handRequest c (if d = 0 then 0 else 1) (some d) s

/-! ## Trips (R182–R184) -/

/-- Add a short trip to a Report Card stage (R467). -/
def countShort (i : Nat) (s : State) : State :=
  { s with flt := { s.flt with stages := s.flt.stages.modify i fun g => { g with shorts := g.shorts + 1 } } }

/-- The count field of a trip kind: thermal, short, overload of `HS_COUNTS_n`, trips of `HB_COUNTS_n`. -/
def countTrip (c : Ch) (k : Trip) (s : State) : State :=
  if c.val < 36 then
    s.bump (Ix.HS_COUNTS c.val) (match k with | .thermal => 0 | .short => 8 | _ => 16) 8
  else if 40 ≤ c.val then s.bump (Ix.HB_COUNTS (c.val - 40)) 0 8
  else s

/-- The fault ID of a trip. -/
def tripId (c : Ch) : Trip → Nat
  | .short => 0x200 + c.val | .overload => 0x240 + c.val | .thermal => 0x280 + c.val | .none => 0

/-- REACT bit of a trip kind: true for LATCH. -/
def latchBit (c : Ch) (k : Trip) (s : State) : Bool :=
  match k with
  | .thermal => bit (profWord c 5 s) 0 | .short => bit (profWord c 5 s) 1 | .overload => bit (profWord c 5 s) 2 | .none => false

/-- Restarts within the 60 s before now. -/
def recentRestarts (x : Channel) (s : State) : List Nat := x.restarts.filter fun t => decide (s.now ≤ t + secP 60)

/-- A channel trips (R182): off, TRIPPED or latched at once (R184), counted and reported. The service posts the turn-on of a request
that stays on for the end of RETRY (R12, R183). -/
def tripChannel (c : Ch) (k : Trip) (s : State) : State :=
  let x := s.chans[c]
  if x.isOn then
    let rs := recentRestarts x s
    let s1 := updCh c (fun y => { y.dark s.now with st := .tripped, lastTrip := k, tripAt := s.now, restarts := rs, reverse := false,
                                                    posted := 0 }) (withdraw c s)
    let s2 := endFault 0x3C0 c.val (cutLock c s1)
    let s3 := countTrip c k s2
    let s4 := report (tripId c k) c.val (if k = .short then countShort c.val s3 else s3)
    if latchBit c k s4 || decide (8 ≤ rs.length) then condFault (0x2C0 + c.val) c.val true (latchChannel c s4)
    else if pairUp s4 then ensureSense c (serveCh c s4) else s4
  else s

/-- A TRIPPED channel leaves TRIPPED once RETRY has elapsed and its junction has read at or below 155 °C for 10 ms (R183): `most` is
the highest reading of the 10 ms before `at_`. -/
def restartChannel (c : Ch) (at_ : Nat) (most : Int) (s : State) : State :=
  let x := s.chans[c]
  if x.st == .tripped ∧ most ≤ 155 then
    let s1 := s.reach (Nat.max at_ (x.tripAt + retryP c s))
    let s2 := updCh c (fun y => { y with st := .off }) s1
    if wantState c s2 = 0 then s2
    else resumeCh c (updCh c (fun y => { y with restarts := s1.now :: y.restarts }) s2)
  else s

/-- A latched channel is cleared (R184): its history is emptied, and it turns on at once where its request is on. -/
def clearLatch (c : Ch) (s : State) : State :=
  if s.chans[c].st == .latched then
    let s1 := endFault (0x2C0 + c.val) c.val (updCh c (fun y => { y with st := .off, restarts := [], posted := 0 }) s)
    resumeCh c (applyLimits s1)
  else s

/-- The sense offset is measured (R185). -/
def senseCal (c : Ch) (outMv : Nat) (raw offset : Int) (s : State) : State :=
  if outMv < 300 ∧ raw.natAbs ≤ 30 then
    endFault 0x3C3 c.val (updCh c (fun x => { x with offset := offset, calDeferred := false, calRun := 0 }) s)
  else
    let n := s.chans[c].calRun + 1
    let s1 := updCh c (fun x => { x with calDeferred := true, calRun := n }) s
    if 3 ≤ n then condFault 0x3C3 c.val true s1 else s1

/-- The reading of a stage at step 6: zero where the start lists none. -/
def offsetAt (n : Nat) (rs : List OffsetReading) : OffsetReading :=
  (rs.find? (·.stage == n)).getD { stage := n, mv := 0, raw := 0, offset := 0 }

/-- Step 6 measures the offset of every channel, while every output is off (R185). -/
def startOffsets (rs : List OffsetReading) (s : State) : State :=
  forEach (List.finRange 42) (fun c t =>
    let r := offsetAt c.val rs
    updCh c (fun x => { x with calAt := t.now }) (senseCal c r.mv r.raw r.offset t)) s

/-! ## Application pair stop (R21, R191) -/

/-- The flash events of a channel whose FAIL is 3 (R191). -/
def flashEvents (c : Ch) (s : State) : List EventSpec :=
  let per := msP (s.fld Ix.LED_TURN_TIME 0 16)
  let on := msP (s.fld Ix.LED_TURN_TIME 16 16)
  [freeEvent (soonest s) 0 per (.outSet c 1) 1 s, freeEvent (soonest s + on) 0 per (.outSet c 0) 1 s]

/-- Whether a channel's sink changed within the two turn periods before now (R191). -/
def changedLately (c : Ch) (s : State) : Bool :=
  match s.chans[c].changedAt with
  | some t => decide (s.now ≤ t + 2 * msP (s.fld Ix.LED_TURN_TIME 0 16))
  | none => false

/-- A channel takes its fail state (R21, R191); a SAFETY channel running PWM keeps its period. What the service posts next is judged
afresh after the restart, and a flash or a held channel follows its sink's first value. A brushed drive is the coprocessor's. -/
def failChannel (c : Ch) (s0 : State) : State :=
  let s := updCh c (fun y => { y with told := false, pend := none }) s0
  let x := s.chans[c]
  let off := fun (t : State) => updCh c (fun y => { chOff t.now y with posted := 0, req := 0, reqDuty := none, period := none }) t
  let kept := updCh c (fun y => { y with posted := 4, period := none }) s
  match chHb c with
  | some h =>
    let s1 := updLock h (fun l => { l with posted := false }) s
    if hbMode h s = 2 then s
    else
      match chFail c s with
      | 1 => setPosted c 4 s1
      | 2 => if blocked x then s1 else updCh c (fun y => { y with st := .on, drive := 3, req := 3, posted := 4 }) (updLock h LockS.cut s1)
      | _ => updLock h LockS.cut (off s1)
  | none =>
    if chSafety c s && x.posted == 2 then s
    else match chFail c s with
      | 1 => kept
      | 2 => fireSwitch c true 0 (updCh c (fun y => { y with req := 1, reqDuty := none }) kept)
      | 3 => if changedLately c s then servicePostAs (.flash c) (flashEvents c s) kept else kept
      | _ => off s

/-! ## Meanings -/

/-- An OUT_SET event fires (R175, R187, R188), at a VBAT in 10 mV. Where the domain PWR is off the stages are not there (R9). -/
def fireOutSet (c : Ch) (st : Fin 4) (vbat : Nat) (s : State) : State :=
  if !pwrOn s then s
  else match chHb c with
    | none => fireSwitch c (st.val != 0) vbat s
    | some h =>
      if hbMode h s = 1 then
        if (st.val = 1 ∨ st.val = 2) ∧ (s.locks[h]).st = .idle then startStroke h st.val s
        else if st.val = 0 then turnOffCh c (updLock h LockS.cut s) else updLock h (fun l => { l with posted := false }) s
      else if hbMode h s = 2 then updLock h (fun l => { l with posted := false }) s
      else fireBridge c h st.val s

/-- EVENT_OUT_SET (R175). -/
def outSetEvent (slot vbat : Nat) (s : State) : State :=
  match takeEvent slot s with
  | some (e, t) => match e.spec.act with | .outSet c st => fireOutSet c st vbat t | _ => s
  | none => s

/-- EVENT_OUT_SET (R175). -/
def execEventOutSet (slot vbat : Nat) (s : State) : Host.Outcome State Fault Refusal :=
  doneFor .coreRun s fun s => outSetEvent slot vbat s

/-- The gate of a channel is pre-charged: from 8 µs before the instant of a committed turn-on, and no earlier than its commitment, with
the output below 0.5 V (R129, R138, R175). -/
def precharging (c : Ch) (s : State) : Bool :=
  !s.chans[c].isOn && s.tt.events.any fun e =>
    e.committed && (match e.spec.act with | .outSet d st => d == c && st.val != 0 | _ => false)
      && decide (Nat.max (e.dueInstant s - usP 8) (e.commitAt - horizonP s) ≤ s.now)

/-- The off edge of a PWM period (R178), or an off that waited for the minimum on-time (R143). -/
def pwmOffEdge (c : Ch) (s : State) : State :=
  match s.chans[c].offAt with
  | some t =>
    if s.chans[c].ending then turnOffCh c (s.reach t)
    else updCh c (fun x => { x with drive := 0, pulse := false, offAt := none }) (s.reach t)
  | none => s

/-- PWM_OFF_EDGE (R178). -/
def execPwmOffEdge (c : Ch) (s : State) : Host.Outcome State Fault Refusal := doneFor .power s fun s => pwmOffEdge c s

/-- A new duty enters the shadow register; a changed duty drops the carries (R178, R179). -/
def fireOutDuty (c : Ch) (d : Nat) (s : State) : State :=
  updCh c (fun x => if x.shadow = d % 65536 then x else { x with shadow := d % 65536, carryOn := 0, carryOff := 0 }) s

/-- EVENT_OUT_DUTY (R178). -/
def outDutyEvent (slot : Nat) (s : State) : State :=
  match takeEvent slot s with
  | some (e, t) => match e.spec.act with | .outDuty c d => fireOutDuty c d t | _ => s
  | none => s

/-- EVENT_OUT_DUTY (R178). -/
def execEventOutDuty (slot : Nat) (s : State) : Host.Outcome State Fault Refusal :=
  doneFor .coreRun s fun s => outDutyEvent slot s

/-- INRUSH ends after HOLD and DECAY (R175). -/
def inrushEnd (c : Ch) (s : State) : State :=
  let x := s.chans[c]
  if x.st == .inrush then
    updCh c (fun y => { y with st := .on }) (s.reach (x.turnOn + holdP c s + decayP c s))
  else s

/-- INRUSH_END (R175). -/
def execInrushEnd (c : Ch) (s : State) : Host.Outcome State Fault Refusal := doneFor .stage s fun s => inrushEnd c s

/-- The rise of a CAP slew code in mV per ms, none for the codes that rise at once (Table 8-5). -/
def capSlew (c : Ch) (s : State) : Option Nat :=
  match fld (profWord c 4 s) 0 3 with
  | 3 => some 5000 | 4 => some 2000 | 5 => some 500 | _ => none

/-- The voltage, in mV, of which a short lies below the half: VBAT, or during a CAP slew the ramp's present target (R182). -/
def shortLevel (c : Ch) (vbat : Nat) (s : State) : Nat :=
  match capSlew c s with
  | some r => Nat.min vbat (r * (s.now - s.chans[c].turnOn) / msP 1)
  | none => vbat

/-- Short: the current stayed at the hardware limit, `least` mA or more, with the output at `most` mV or below, for `us` µs (R182). -/
def shortDetect (c : Ch) (least most vbat us : Nat) (s : State) : State :=
  let g := shortFigures c
  if g.1 ≤ least ∧ 2 * most < shortLevel c vbat s ∧ g.2 ≤ us then tripChannel c .short s else s

/-- HS_SHORT_DETECT (R182). -/
def execHsShortDetect (c : Ch) (least most vbat us : Nat) (s : State) : Host.Outcome State Fault Refusal :=
  doneFor .power s fun s => shortDetect c least most vbat us s

/-- OVL_FILTER in base periods. -/
def ovlFilterP (c : Ch) (s : State) : Nat := msP (fld (profWord c 2 s) 24 8)
/-- OPEN_FILTER in base periods. -/
def openFilterP (c : Ch) (s : State) : Nat := msP (10 * fld (profWord c 3 s) 24 8)
/-- OPEN_ON in 0.1 % of the rating times the rating: a current in µA. -/
def openThr (c : Ch) (s : State) : Nat := fld (profWord c 3 s) 0 10 * rating c

/-- A sample of a channel's current: stored in its range (R168), and judged against the allowance, OPEN_ON and STALL (R182, R188). A
bridge is judged by its magnitude. -/
def chSample (c : Ch) (raw : Int) (s : State) : State :=
  let ma := clampInt (senseRange c).1 (senseRange c).2 raw
  let i := if c.val < 36 then Ix.HS_CURRENT c.val else if c.val < 40 then Ix.LSD_CURRENT (c.val - 36) else Ix.HB_CURRENT (c.val - 40)
  let m : Int := if isHb c then ma.natAbs else ma
  let x := s.chans[c]
  let thr : Int := openThr c s
  let run := fun (b : Bool) (old : Option Nat) => holdsSince (x.isOn && b) s.now old
  let s1 := updCh c (fun y => { y with
    excess := run (decide ((allowance c (s.now - x.turnOn) s : Int) < m)) y.excess
    low := run (decide (0 < thr ∧ m * 1000 < thr)) y.low
    high := run (decide (0 < thr ∧ 2 * thr < m * 1000)) y.high }) (s.putNat i (unsigned ma 32))
  match chHb c with
  | some h =>
    let l := s.locks[h]
    let stalls := l.st == .drive && decide (l.startAt + msP 50 ≤ s.now ∧ (stallMa h s : Int) < m)
    updLock h (fun l => { l with stall := holdsSince stalls s.now l.stall }) s1
  | none => s1

/-- Overload: every sample lay strictly above the allowance over OVL_FILTER (R176, R182). -/
def overload (c : Ch) (s : State) : State :=
  match s.chans[c].excess with
  | some t => tripChannel c .overload (s.reach (t + ovlFilterP c s))
  | none => s

/-- HS_OVERLOAD_DETECT (R182). -/
def execHsOverloadDetect (c : Ch) (s : State) : Host.Outcome State Fault Refusal := doneFor .stage s fun s => overload c s

/-- Thermal: the junction reaches 175 °C (R182). -/
def thermalDetect (c : Ch) (temp : Int) (s : State) : State := if 175 ≤ temp then tripChannel c .thermal s else s

/-- HS_THERMAL_DETECT (R182). -/
def execHsThermalDetect (c : Ch) (temp : Int) (s : State) : Host.Outcome State Fault Refusal :=
  doneFor .power s fun s => thermalDetect c temp s

/-- Open load while on: every on-state sample below OPEN_ON over OPEN_FILTER sets it, every one above twice OPEN_ON clears it (R182). -/
def openOn (c : Ch) (s : State) : State :=
  let x := s.chans[c]
  match (if x.open_ then x.high else x.low) with
  | some t => condFault (0x300 + c.val) c.val (!x.open_) (updCh c (fun y => { y with open_ := !x.open_ }) (s.reach (t + openFilterP c s)))
  | none => s

/-- HS_OPEN_ON_DETECT (R182). -/
def execHsOpenOnDetect (c : Ch) (s : State) : Host.Outcome State Fault Refusal := doneFor .stage s fun s => openOn c s

/-- The off-state test applies: OFF_DIAG is set (Table 8-3), the channel is off, in WATCH, RIDE or WORKSHOP (R182). -/
def offTest (c : Ch) (s : State) : Bool :=
  bit (profWord c 3 s) 16 && !s.chans[c].isOn && s.chans[c].drive == 0 && s.modes.mode != .park

/-- The instant at which a channel has been off for 10 ms, from which the test is active, and 50 ms more (R182). -/
def offJudged (c : Ch) (s : State) : State := s.reach (s.chans[c].wentOff + msP 60)

/-- Open load while off, judged on the least and the greatest output voltage in mV over 50 ms; the low-side channels read
strictly below 2.0 V (R182). -/
def openOff (c : Ch) (least most : Nat) (s : State) : State :=
  if offTest c s then
    let low := decide (36 ≤ c.val ∧ c.val < 40)
    let found := if low then decide (most < 2000) else decide (3000 < least) && decide (most ≤ 6000)
    condFault (0x340 + c.val) c.val found (updCh c (fun y => { y with openOff := found }) (offJudged c s))
  else s

/-- HS_OPEN_OFF_DETECT (R182). -/
def execHsOpenOffDetect (c : Ch) (least most : Nat) (s : State) : Host.Outcome State Fault Refusal :=
  doneFor .stage s fun s => openOff c least most s

/-- Short to battery: the output of an off channel stays strictly above 6.0 V for 50 ms (R182). -/
def shortBat (c : Ch) (least : Nat) (s : State) : State :=
  if offTest c s then
    let found := decide (6000 < least)
    condFault (0x380 + c.val) c.val found (updCh c (fun y => { y with shortBat := found }) (offJudged c s))
  else s

/-- HS_SHORT_BAT_DETECT (R182). -/
def execHsShortBatDetect (c : Ch) (least : Nat) (s : State) : Host.Outcome State Fault Refusal :=
  doneFor .stage s fun s => shortBat c least s

/-- Back-feed: the current of an on channel stays strictly below −2 % of its rating for 10 ms (R182). -/
def backfeed (c : Ch) (most : Int) (s : State) : State :=
  let found := s.chans[c].isOn && decide (most * 50 < -(rating c : Int))
  condFault 0x3C0 c.val found (updCh c (fun y => { y with reverse := found }) s)

/-- HS_BACKFEED_DETECT (R182). -/
def execHsBackfeedDetect (c : Ch) (most : Int) (s : State) : Host.Outcome State Fault Refusal :=
  doneFor .stage s fun s => backfeed c most s

/-- CHANNEL_RESTART (R183). -/
def execChannelRestart (c : Ch) (at_ : Nat) (most : Int) (s : State) : Host.Outcome State Fault Refusal :=
  doneFor .stage s fun s => restartChannel c at_ most s

/-- HS_LATCHED_CLEAR (R184). -/
def execHsLatchedClear (c : Ch) (s : State) : Host.Outcome State Fault Refusal := doneFor .pair s fun s => clearLatch c s

/-- SENSE_CAL_RETRY: a deferred measurement is tried again each time the channel has been off for 500 ms, counted from the last try
where it stayed off (R185, assumption log 61). -/
def senseRetry (c : Ch) (outMv : Nat) (raw offset : Int) (s : State) : State :=
  let x := s.chans[c]
  if x.calDeferred && !x.isOn && x.drive == 0 then
    let s1 := s.reach (Nat.max x.wentOff x.calAt + msP 500)
    updCh c (fun y => { y with calAt := s1.now }) (senseCal c outMv raw offset s1)
  else s

/-- SENSE_CAL_RETRY (R185). -/
def execSenseCalRetry (c : Ch) (outMv : Nat) (raw offset : Int) (s : State) : Host.Outcome State Fault Refusal :=
  doneFor .stage s fun s => senseRetry c outMv raw offset s

/-- The drive of a stroke ends and the brake begins (Table 8-9). -/
def beginBrake (h : Hb) (s : State) : State :=
  updLock h (fun l => { l with st := .brake, brakeAt := s.now, stall := none }) (updCh (hbCh h) (fun x => { x with drive := 3 }) s)

/-- End stop: every sample after the blanking of 50 ms lay above STALL for 20 ms (R188). -/
def lockEndstop (h : Hb) (s : State) : State :=
  match (s.locks[h]).stall with
  | some t => if (s.locks[h]).st == .drive then beginBrake h (s.reach (t + msP 20)) else s
  | none => s

/-- LOCK_ENDSTOP (R188). -/
def execLockEndstop (h : Hb) (s : State) : Host.Outcome State Fault Refusal := doneFor .stage s fun s => lockEndstop h s

/-- STROKE_MAX without an end stop (R188). -/
def lockStrokeMax (h : Hb) (s : State) : State :=
  let l := s.locks[h]
  if l.st == .drive then
    let s1 := updLock h (fun l => { l with noEnd := true }) (beginBrake h (s.reach (l.startAt + strokeMaxP h s)))
    report (0x3C1 + h.val) (40 + h.val) (s1.bump (Ix.HB_COUNTS h.val) 16 8)
  else s

/-- LOCK_STROKE_MAX (R188). -/
def execLockStrokeMax (h : Hb) (s : State) : Host.Outcome State Fault Refusal := doneFor .stage s fun s => lockStrokeMax h s

/-- The brake ends, the bridge is off and the stroke complete; a waiting request is acted on (R188). -/
def lockBrakeEnd (h : Hb) (s : State) : State :=
  let l := s.locks[h]
  if l.st == .brake then
    let s1 := s.reach (l.brakeAt + strokeBrakeP h s)
    let s2 := updLock h (fun l => { l with st := .idle, last := l.dir }) (turnOffCh (hbCh h) s1)
    wakeStroke h s2
  else s

/-- LOCK_BRAKE_END (R188). -/
def execLockBrakeEnd (h : Hb) (s : State) : Host.Outcome State Fault Refusal := doneFor .stage s fun s => lockBrakeEnd h s

/-- COOLING ends when fewer than six strokes lie within the past 60 s (R188, assumption log 13). -/
def coolingEnd (h : Hb) (s : State) : State :=
  let l := s.locks[h]
  if l.cooling then
    let s1 := match (recentStrokes h s)[5]? with | some t => s.reach (t + secP 60) | none => s
    wakeStroke h s1
  else s

/-- LOCK_COOLING_END (R188). -/
def execLockCoolingEnd (h : Hb) (s : State) : Host.Outcome State Fault Refusal := doneFor .stage s fun s => coolingEnd h s

/-- REV_BRAKE ends and the bridge drives in its new direction (R187). -/
def revBrakeEnd (h : Hb) (s : State) : State :=
  let l := s.locks[h]
  match l.turnTo with
  | some d =>
    let s1 := s.reach (l.brakeAt + revBrakeP h s)
    if blocked s1.chans[hbCh h] || !s1.chans[hbCh h].isOn then updLock h (fun l => { l with turnTo := none }) s1
    else driveBridge (hbCh h) h d s1
  | none => s

/-- HB_REV_BRAKE_END (R187). -/
def execHbRevBrakeEnd (h : Hb) (s : State) : Host.Outcome State Fault Refusal := doneFor .stage s fun s => revBrakeEnd h s

end Sys2Proof.Machine
end

