-- ==== Sys2Proof/Machine/Lighting.lean ====
section
/-!
DEFINITION. The lighting service and the string drivers (09_lighting.md): scenes, overlays and their composition, fades,
pulses, blink cycles, cornering, derating, outages and trips.
-/
namespace Sys2Proof.Machine

/-! ## Scenes (R196, R197) -/

/-- Scene 0: dark. -/
def darkScene : SceneCfg := { shunt := 0xFFFF, level := 0, fade := 0, strings := 15 }

/-- A scene by its number; scene 0 is always dark, and so is an undefined one. -/
def sceneOf (k : Nat) (s : State) : SceneCfg := if k = 0 ∨ 247 < k then darkScene else (s.led.scenes[k]?).getD darkScene

/-- Whether a SCENE sink may name a scene on a string (R197). -/
def sceneAllowed (k : Nat) (t : Str) (s : State) : Bool :=
  k == 0 || (decide (k ≤ 247) && match s.led.scenes[k]? with | some c => nbits c.strings t.val 1 == 1 | none => false)

/-! ## Levels (R198) -/

/-- Effective level as numerator and denominator: requested level × D × C, and the shedding factor of a string without
SAFETY (R198, Table 22-5). -/
def effLevel (t : Str) (s : State) : Nat × Nat :=
  let x := s.led.strs[t]
  let c := if strSafety t s && s.band == .crank then 1 else 2
  (x.level * x.d * c * factor (strClass t s) s, 65535 * 10000 * 2 * 4)

/-- CROSS of a string in %. -/
def strCross (t : Str) (s : State) : Nat := s.fld (Ix.LED_STR_ISET t.val) 16 8

/-- The target of the string current in mA (R198). -/
def strTarget (t : Str) (s : State) : Nat :=
  let iset := s.fld (Ix.LED_STR_ISET t.val) 0 11
  let e := effLevel t s
  if e.1 = 0 then 0 else if strCross t s * e.2 ≤ 100 * e.1 then iset * e.1 / e.2 else iset * strCross t s / 100

/-- Every populated position is shunted. -/
def allShunted (t : Str) (s : State) : Bool := popMask t s &&& (0xFFFF - appliedMask t s) == 0

/-- The string current in mA: the target, and 10 % of it while every populated position is shunted (R205). -/
def strCurrent (t : Str) (s : State) : Nat := if allShunted t s then strTarget t s / 10 else strTarget t s

/-- A committed LED_STEP or scene of a string changes its mask, and the driver has begun to lower the current: from 20 µs before the
instant, and no earlier than the commitment (R138, R204). -/
def preReduced (t : Str) (s : State) : Bool :=
  s.tt.events.any fun e =>
    let changes := match e.spec.act with
      | .ledStep u m => u == t && m % 65536 != s.led.strs[t].mask
      | .ledScene u k => u == t && (match k with
        | 0xF8 => s.led.strs[t].steady.1
        | 0xF9 => s.led.strs[t].blinkOn.1
        | 0xFA => s.led.strs[t].blinkOff.1
        | _ => match s.led.scenes[k]? with | some c => c.shunt | none => 0xFFFF) != s.led.strs[t].mask
      | _ => false
    e.committed && changes && decide (Nat.max (e.dueInstant s - usP 20) (e.commitAt - horizonP s) ≤ s.now)

/-- The mask changed within the last 180 µs (R204). -/
def restores (t : Str) (s : State) : Bool := match s.led.strs[t].stepAt with | some u => decide (s.now < u + usP 180) | none => false

/-- The bounds of the string current in mA around a change of mask (R204): at most 25 % of its value once it is pre-reduced, at most
110 % of target within 180 µs after the change, and the string's current at any other time. -/
def currentBounds (t : Str) (s : State) : Nat × Nat :=
  let i := strCurrent t s
  if preReduced t s then (0, i / 4) else if restores t s then (0, i * 110 / 100) else (i, i)

/-! ## Composition (R203) -/

/-- HAZARD acts: its own overlay, or both turn overlays together (R202). -/
def hazardOn (s : State) : Bool :=
  let v := fun k => (s.led.ovl.getD k (false, false)).1
  v 3 || (v 1 && v 2)

/-- The blinking overlay that acts, none without one (R202, R208). -/
def blinkWanted (s : State) : Option Nat :=
  let v := fun k => (s.led.ovl.getD k (false, false)).1
  if hazardOn s then some 3 else if v 1 then some 1 else if v 2 then some 2 else none

/-- BRAKE is active. -/
def brakeOn (s : State) : Bool := (s.led.ovl.getD 0 (false, false)).1

/-- The position list of a cornering side: position of segment k (R212). -/
def cornerPositions (right : Bool) (s : State) : List Nat :=
  let w := s.word (if right then Ix.LED_CORNER_RIGHT else Ix.LED_CORNER_LEFT)
  (List.range (Nat.min 4 (fld w 16 3))).map fun k => fld w (4 * k) 4

/-- A mask from a list of positions. -/
def maskOf (ps : List Nat) : Nat := ps.foldl (fun m p => m ||| 2 ^ p) 0

/-- The cornering positions of a string, and those lit. -/
def cornerMasks (t : Str) (s : State) : Nat × Nat :=
  if s.fld Ix.LED_CORNER_CFG 0 2 = t.val then
    let l := cornerPositions false s
    let r := cornerPositions true s
    let lit := fun (ps : List Nat) (m : Nat) =>
      maskOf ((List.range ps.length).filterMap fun k => if nbits m k 1 = 1 then ps[k]? else none)
    (maskOf l ||| maskOf r,
     if s.led.corner.active then lit l s.led.corner.left ||| lit r s.led.corner.right else 0)
  else (0, 0)

/-- The claimed positions of one side of a blinking overlay in sequence order (R208). -/
def sideOrder (claim : Nat) (desc : Bool) : List Nat :=
  let ps := (List.range 16).filter fun p => nbits claim p 1 == 1
  if desc then ps.reverse else ps

/-- The sides of a blinking overlay on a string; the left side of HAZARD is its claim within TURN_L's (assumption log 14). -/
def blinkSides (v : Nat) (t : Str) (s : State) : List (List Nat) :=
  let q := s.word Ix.LED_TURN_SEQ
  let claim := (claimOf v t s).1
  let all := if v = 1 then [sideOrder claim (bit q 16)] else if v = 2 then [sideOrder claim (bit q 17)]
    else
      let left := claim &&& (claimOf 1 t s).1
      [sideOrder left (bit q 16), sideOrder (claim - left) (bit q 17)]
  all.filter fun x => !x.isEmpty

/-- The positions lit at sequence step `i`: the first `i + 1` of each side; all of them from step 16 on. -/
def seqLit (v i : Nat) (t : Str) (s : State) : Nat :=
  ((blinkSides v t s).map fun ps => maskOf (ps.take (i + 1))).foldl (· ||| ·) 0

/-- The composed state of a string: shunt mask, level, and whether an active overlay shapes it. `blink` holds the
positions that the acting blinking overlay lights now, none where no blink cycle runs (R203). -/
def composeWith (t : Str) (blink : Option Nat) (s : State) : Nat × Nat × Bool :=
  let sc := sceneOf s.led.strs[t].req s
  let full := 0xFFFF
  let scene := full - sc.shunt % 65536
  let corner := cornerMasks t s
  let a := (scene &&& (full - corner.1)) ||| corner.2
  let brake := if brakeOn s then claimOf 0 t s else (0, 0)
  let b := a ||| brake.1
  let bl := match s.led.blink, blink with
    | some v, some lit => ((claimOf v t s).1, lit &&& (claimOf v t s).1, (claimOf v t s).2)
    | _, _ => (0, 0, 0)
  let lit := (b &&& (full - bl.1)) ||| bl.2.1
  let level := if bl.2.1 ≠ 0 then bl.2.2 else if brake.1 &&& (full - bl.1) ≠ 0 then brake.2 else sc.level
  (full - lit, level, bl.1 != 0 || brake.1 != 0)

/-- What WORKSHOP forcing makes of a string: mask and level, none on release (R174, Table 9-6). -/
def forcedState (t : Str) (s : State) : Option (Nat × Nat) :=
  let w := s.word (Ix.LED_FORCE t.val)
  match strForce t s with
  | 1 => some (0xFFFF, 0)
  | 2 => let sc := sceneOf (fld w 8 8) s
         some (sc.shunt, sc.level)
  | 3 => some (fld w 16 16, 0x4000)
  | _ => none

/-- The claimed positions a running blink cycle lights now: in its on phase those that its present step has brought. -/
def blinkLitNow (t : Str) (s : State) : Option Nat :=
  s.led.blink.map fun v => if s.led.blinkOnPhase then (claimOf v t s).1 &&& (0xFFFF - s.led.strs[t].mask) else 0

/-- The composed state now. -/
def composeNow (t : Str) (s : State) : Nat × Nat × Bool :=
  match forcedState t s with
  | some f => (f.1, f.2, true)
  | none => composeWith t (blinkLitNow t s) s

/-! ## Serving a string (R201, R208, R209) -/

/-- The pool of a string's own events (R201). -/
def strPool (t : Str) (s : State) : Nat := if strSafety t s then 1 else 2

/-- Post the composed state 0xF8 of a string, which applies with no fade (R197, R206). -/
def postComposed (pool : Nat) (t : Str) (s : State) : State :=
  let c := composeNow t s
  postFree (soonest s) (.ledScene t 0xF8) pool (updStr t (fun x => { x with steady := (c.1, c.2.1) }) s)

/-- Post the state a string shall have now (R197, R201–R203): the composed state under an overlay or forcing; else its scene with its
fade, and with the scene an LED_STEP where cornering changes the scene's mask (R207). -/
def serveStrFrom (pool : Nat) (t : Str) (s : State) : State :=
  if strCount t s = 0 then s
  else
    let c := composeNow t s
    let k := s.led.strs[t].req
    if c.2.2 then postComposed pool t s
    else
      let at_ := fun a => freeEvent (soonest s) 1 0 a pool s
      servicePost ([at_ (.ledScene t k)] ++ if c.1 = (sceneOf k s).shunt % 65536 then [] else [at_ (.ledStep t c.1)]) s

/-- Serve a string for a reason of its own. -/
def serveStr (t : Str) (s : State) : State := serveStrFrom (strPool t s) t s

/-- Post the mask a string shall have now as an LED_STEP (R209, R212). -/
def stepStr (t : Str) (s : State) : State :=
  if strCount t s = 0 then s else postFree (soonest s) (.ledStep t (composeNow t s).1) 1 s

/-- PERIOD, ON and SEQ_TIME of a blink cycle in base periods, halved by FAIL_FAST (R210). -/
def blinkTimes (s : State) : Nat × Nat × Nat :=
  let per := msP (s.fld Ix.LED_TURN_TIME 0 16)
  let on := msP (s.fld Ix.LED_TURN_TIME 16 16)
  (if s.led.fast then per / 2 else per, if s.led.fast then on / 2 else on, msP (s.fld Ix.LED_TURN_SEQ 0 16))

/-- The events of one blink cycle on a string as offset and action (Table 9-3). -/
def cycleSteps (v : Nat) (t : Str) (s : State) : List (Nat × Act) :=
  let n := ((blinkSides v t s).map List.length).foldl Nat.max 0
  let times := blinkTimes s
  let seq := times.2.2
  let steps := if seq = 0 then [] else (List.range (n - 1)).map fun k =>
    let i := k + 1
    (usP ((2 * i * (seq / 40) + n) / (2 * n)), Act.ledStep t (composeWith t (some (seqLit v i t s)) s).1)
  [(0, Act.ledScene t 0xF9)] ++ steps ++ [(times.2.1, Act.ledScene t 0xFA)]

/-- Write the blink states of a string into its driver (R197, R208). -/
def writeBlink (v : Nat) (t : Str) (s : State) : State :=
  let first := if (blinkTimes s).2.2 = 0 then 15 else 0
  let on := composeWith t (some (seqLit v first t s)) s
  let off := composeWith t (some 0) s
  updStr t (fun x => { x with blinkOn := (on.1, on.2.1), blinkOff := (off.1, off.2.1) }) s

/-- The strings that an overlay's cycle drives: it claims positions on them, and no forcing outranks it (R15). -/
def claimedStrs (v : Nat) (s : State) : List Str :=
  (List.finRange 4).filter fun t => (claimOf v t s).1 != 0 && strForce t s == 0

/-- Post the cycle's events on one string from an instant on its grid: each at its next firing beyond the horizon. -/
def postCycle (v : Nat) (t : Str) (s : State) : State :=
  let per := (blinkTimes s).1
  let due := fun off =>
    let d := s.led.blinkAt + off
    if s.now + horizonP s < d then d else d + per * ((s.now + horizonP s - d) / per + 1)
  servicePostAs .cycle ((cycleSteps v t s).map fun e => freeEvent (due e.1) 0 per e.2 1 s) s

/-- Cancel the events of the running cycle; for each that is too late, a compensating step one horizon later (R209). -/
def cancelCycle (compensate : Bool) (s : State) : State :=
  let f : State → Nat × Nat → State := fun a h =>
    let b := cancelHandle h a
    if compensate && b.tt.status == 7 then
      match eventAt h.1 b with
      | some e => match e.spec.act with
        | .ledStep t _ | .ledScene t _ => postFree (soonest b + horizonP b) (.ledStep t (composeNow t b).1) 1 b
        | _ => b
      | none => b
    else b
  let s1 := s.led.handles.foldl f (dropWaiting .cycle s)
  { s1 with led := { s1.led with handles := [] } }

/-- A blink cycle starts at the first instant beyond the horizon (R208). -/
def startCycle (v : Nat) (fast : Bool) (s : State) : State :=
  let s1 : State := { s with led := { s.led with blink := some v, fast := fast, blinkAt := soonest s, blinkOnPhase := false } }
  (claimedStrs v s1).foldl (fun a t => postCycle v t (writeBlink v t a)) s1

/-- The running cycle ends: its events are cancelled and the steady state posted at once (R208). -/
def endCycle (s : State) : State :=
  match s.led.blink with
  | none => s
  | some v =>
    let ts := claimedStrs v s
    let s1 := cancelCycle false s
    let s2 : State := { s1 with led := { s1.led with blink := none, fast := false, blinkOnPhase := false } }
    ts.foldl (fun a t => serveStrFrom 1 t a) s2

/-- Another input of R203 changed: the steady part of every string named is posted, and the events of a running cycle that claims one
of them are replaced (R209). -/
def recomposeWith (post : Str → State → State) (ts : List Str) (s : State) : State :=
  let s1 := ts.foldl (fun a t => post t a) s
  match s.led.blink with
  | none => s1
  | some v =>
    if ts.any fun t => (claimOf v t s).1 != 0 then
      (claimedStrs v s).foldl (fun a t => postCycle v t (writeBlink v t a)) (cancelCycle true s1)
    else s1

/-- Strings are served for a reason of their own. -/
def recompose (ts : List Str) (s : State) : State := recomposeWith serveStr ts s

/-- Strings are served for an overlay: the events draw from pool 1 (R202). -/
def recomposeOvl (ts : List Str) (s : State) : State := recomposeWith (serveStrFrom 1) ts s

/-! ## Overlays (R202, R210) -/

/-- The new value of an overlay: its signal, kept while stale. -/
def overlayValue (v : Nat) (s : State) : Bool × Bool :=
  let n := s.fld (Ix.LED_OVL_SRC v) 0 11
  let old := s.led.ovl.getD v (false, false)
  if n = 0x7FF then (false, false)
  else if sigStale n s then (old.1, true)
  else (sigValue n s != 0, false)

/-- FAIL_FAST applies to a turn overlay with an outage in its claim (R210). -/
def failFast (v : Option Nat) (s : State) : Bool :=
  match v with
  | some k => s.flag Ix.LED_TURN_SEQ 18 && (k == 1 || k == 2) &&
      (List.finRange 4).any fun t => (claimOf k t s).1 &&& outageMask t s != 0
  | none => false

/-- The next 1 ms instant of FREE, the present one included. -/
def nextMs (s : State) : Nat := s.freeBase + msP (ceilDiv (s.now - s.freeBase) (msP 1))

/-- The service reads the overlay signals at a 1 ms instant of FREE (R202, R208–R210). -/
def overlayRead (s0 : State) : State :=
  if s0.modes.mode == .park then s0
  else
    let s := s0.reach (nextMs s0)
    let vals := (List.range 4).map fun v => overlayValue v s
    let brake := brakeOn s
    let s1 : State := { s with led := { s.led with ovl := vals } }
    let s2 := (List.range 4).foldl (fun a v => condFault 0x423 v (vals.getD v (false, false)).2 a) s1
    let want := blinkWanted s2
    let fast := failFast want s2
    if want ≠ s2.led.blink ∨ fast ≠ s2.led.fast then
      let s3 := endCycle s2
      let s4 := match want with | some v => startCycle v fast s3 | none => s3
      if brake ≠ brakeOn s4 then recomposeOvl ((List.finRange 4).filter fun t => (claimOf 0 t s4).1 != 0) s4 else s4
    else if brake ≠ brakeOn s2 then recomposeOvl ((List.finRange 4).filter fun t => (claimOf 0 t s2).1 != 0) s2
    else s2

/-- OVERLAY_READ (R202). -/
def execOverlayRead (s : State) : Host.Outcome State Fault Refusal := doneFor .stage s fun s => overlayRead s

/-- A SCENE sink hands a scene (R197, R201); on a disabled string the request has no effect (R195). -/
def handScene (t : Str) (v : Word) (s : State) : State :=
  let k := v.toNat
  if sceneAllowed k t s then recompose [t] (updStr t (fun x => { x with req := k }) s)
  else if strCount t s = 0 then updStr t (fun x => { x with req := 0 }) s
  else report 0x422 t.val (recompose [t] (updStr t (fun x => { x with req := 0 }) s))

/-! ## The driver (R204–R207) -/

/-- A string that shows no light whatever is asked of it. -/
def strBlocked (x : StringS) : Bool :=
  x.st == .disabled || x.st == .tripped || x.st == .latched || x.st == .dropped || x.held

/-- LIT or DARK by the level. -/
def litState (now : Nat) (x : StringS) : StringS :=
  if strBlocked x then x
  else if x.level = 0 ∧ x.target = 0 then { x with st := .dark, wentDark := if x.st == .lit then now else x.wentDark }
  else { x with st := .lit }

/-- The mask changes at an instant (R204). -/
def setMask (now mask : Nat) (x : StringS) : StringS :=
  { x with mask := mask % 65536, stepAt := if x.mask = mask % 65536 then x.stepAt else some now }

/-- Apply a mask and a level at once (R206: composed states have no fade). -/
def applyStep (now code mask level : Nat) (x : StringS) : StringS :=
  let y := { setMask now mask x with scene := code, target := level, fadeLen := 0, ramp := false, carry := 0, gap := 0 }
  litState now { y with level := if strBlocked x then 0 else level }

/-- The shortest time the string allows for a change (R206): `LED_STR_RATE_s` in 0.1 ms for full scale. -/
def rateLen (t : Str) (delta : Nat) (s : State) : Nat := usP (100 * s.fld (Ix.LED_STR_RATE t.val) 0 16) * delta / 65535

/-- A scene with its fade from the present level (R206). -/
def applyScene (code : Nat) (t : Str) (s : State) : State :=
  let x := s.led.strs[t]
  let sc := sceneOf code s
  let delta := if x.level < sc.level then sc.level - x.level else x.level - sc.level
  let want := msP sc.fade
  let floor_ := rateLen t delta s
  let len := Nat.max want floor_
  let slow := decide (want < floor_)
  if strBlocked x then updStr t (fun y => { setMask s.now sc.shunt y with scene := code, target := sc.level, fadeLen := 0 }) s
  else if len = 0 then updStr t (applyStep s.now code sc.shunt sc.level) s
  else
    let s1 := updStr t (fun y => litState s.now { setMask s.now sc.shunt y with
      scene := code, target := sc.level, fadeFrom := y.level, fadeAt := s.now, fadeLen := len, ramp := slow, carry := 0, gap := 0 }) s
    if slow then s1.bump (Ix.LED_COUNTS t.val) 16 8 else s1

/-- An LED_SCENE fires (R197, R206). A forced string takes the state that forcing posted, and no other (R15). -/
def fireScene (t : Str) (code : Nat) (s0 : State) : State :=
  let s : State := if code = 0xF9 ∨ code = 0xFA then { s0 with led := { s0.led with blinkOnPhase := code == 0xF9 } } else s0
  let x := s.led.strs[t]
  if x.st == .disabled ∨ (strForce t s ≠ 0 ∧ code ≠ 0xF8) then s
  else if code = 0xF8 then updStr t (applyStep s.now code x.steady.1 x.steady.2) s
  else if code = 0xF9 then updStr t (applyStep s.now code x.blinkOn.1 x.blinkOn.2) s
  else if code = 0xFA then updStr t (applyStep s.now code x.blinkOff.1 x.blinkOff.2) s
  else applyScene code t s

/-- EVENT_LED_SCENE (R206). -/
def ledSceneEvent (slot : Nat) (s : State) : State :=
  match takeEvent slot s with
  | some (e, u) => match e.spec.act with | .ledScene t k => fireScene t k u | _ => s
  | none => s

/-- EVENT_LED_SCENE (R206). -/
def execEventLedScene (slot : Nat) (s : State) : Host.Outcome State Fault Refusal :=
  doneFor .coreRun s fun s => ledSceneEvent slot s

/-- An LED_STEP fires: the shunt mask changes (R204). -/
def fireStep (t : Str) (mask : Nat) (s : State) : State :=
  if s.led.strs[t].st == .disabled ∨ strForce t s ≠ 0 then s else updStr t (setMask s.now mask) s

/-- EVENT_LED_STEP (R204). -/
def ledStepEvent (slot : Nat) (s : State) : State :=
  match takeEvent slot s with
  | some (e, u) => match e.spec.act with | .ledStep t m => fireStep t m u | _ => s
  | none => s

/-- EVENT_LED_STEP (R204). -/
def execEventLedStep (slot : Nat) (s : State) : Host.Outcome State Fault Refusal :=
  doneFor .coreRun s fun s => ledStepEvent slot s

/-- The level at a time into a fade: linear from its start (R206). -/
def fadeLevel (x : StringS) (dt : Nat) : Nat :=
  if x.fadeLen ≤ dt then x.target
  else if x.fadeFrom ≤ x.target then x.fadeFrom + (x.target - x.fadeFrom) * dt / x.fadeLen
  else x.fadeFrom - (x.fadeFrom - x.target) * dt / x.fadeLen

/-- The next 100 µs instant of a fade (R206). -/
def fadeTick (t : Str) (s : State) : State :=
  let x := s.led.strs[t]
  if x.fadeLen = 0 then s
  else
    let k := (s.now - x.fadeAt) / usP 100 + 1
    let s1 := s.reach (x.fadeAt + k * usP 100)
    let dt := s1.now - x.fadeAt
    let keep := fun (y : StringS) (n : Nat) => if fadeLevel y dt = y.level then n else 0
    updStr t (fun y => litState s1.now { y with
      level := fadeLevel y dt, fadeLen := if y.fadeLen ≤ dt then 0 else y.fadeLen, ramp := y.ramp && decide (dt < y.fadeLen)
      carry := keep y y.carry, gap := keep y y.gap }) s1

/-- FADE_TICK (R206). -/
def execFadeTick (t : Str) (s : State) : Host.Outcome State Fault Refusal := doneFor .power s fun s => fadeTick t s

/-! ## Dimming pulses (R199, R200) -/

/-- The pulse period of a string in base periods; on a phase clock by its present rate (R199). -/
def pulsePeriodP (t : Str) (s : State) : Nat :=
  let w := s.word (Ix.LED_STR_PWM t.val)
  let k := fld w 0 4
  if k < 8 then
    let r := (s.tt.clocks[pcOf k]).w
    if 0 < r then ((65536 / 2 ^ fld w 4 3 : Nat) / r).floor.toNat else 0
  else usP (fld w 8 20)

/-- The next period start of a string: on FREE one period after the last, the first at once; on a phase clock the base period in
which the clock reaches the next start angle, none while it does not (R199). -/
def nextPulse (t : Str) (s : State) : Option (Nat × Nat) :=
  let w := s.word (Ix.LED_STR_PWM t.val)
  let x := s.led.strs[t]
  if fld w 0 4 < 8 then
    let c := s.tt.clocks[pcOf (fld w 0 4)]
    let per := 65536 / 2 ^ fld w 4 3
    let pos := gridAfterQ (Nat.max x.pulsePos (c.shown s.now - 1)) per (fld w 16 16 % per)
    if c.runs then (c.reachAt pos).map fun u => (u, pos) else none
  else some (match x.periodAt with | some u => u + pulsePeriodP t s | none => s.now, 0)

/-- OVERVOLT above 40.0 V, where no string regulates (R571, Table 24-3). -/
def above40 (s : State) : Bool := s.share.overvolt && decide (4000 < s.fld Ix.SYS_SUPPLY 0 16)

/-- The pulse of a period that starts now (R199, R200): its width rounded to the nearest base period, or the carry below 4 µs. -/
def formPulse (t : Str) (s : State) : State :=
  let x := s.led.strs[t]
  let per := pulsePeriodP t s
  let e := effLevel t s
  let cross := strCross t s
  if strBlocked x ∨ e.1 = 0 ∨ above40 s then updStr t (fun y => { y with pulse := 0, carry := 0, gap := 0 }) s
  else if cross * e.2 ≤ 100 * e.1 then updStr t (fun y => { y with pulse := per, carry := 0, gap := 0 }) s
  else
    let width := (divNear ((per * e.1 * 100 : Nat) : Int) ((e.2 * cross : Nat) : Int)).toNat
    let min_ := usP 4
    if width < min_ then
      let c := x.carry + width
      if c < min_ then updStr t (fun y => { y with pulse := 0, carry := c }) s
      else updStr t (fun y => { y with pulse := min_, carry := c - min_ }) s
    else if per - width < min_ then
      let g := x.gap + (per - width)
      if g < min_ then updStr t (fun y => { y with pulse := per, gap := g }) s
      else updStr t (fun y => { y with pulse := per - min_, gap := g - min_ }) s
    else updStr t (fun y => { y with pulse := width }) s

/-- The conversion list of a string (assumption log 24). -/
def strList (t : Str) : Nat := 42 + t.val

/-- The service posts the sample of a lit string, 10 ms after the last, at the middle of a pulse of 20 µs or more that starts beyond
the horizon (R215); the pulse of a coming period is taken to be as wide as the present one (assumption log 24). -/
def strSample (t : Str) (s : State) : State :=
  let x := s.led.strs[t]
  let per := pulsePeriodP t s
  if x.st == .lit && decide (usP 20 ≤ x.pulse) && decide (0 < per) && pairUp s then
    let mid := s.now + x.pulse / 2
    let due := mid + per * Nat.max 1 (ceilDiv (soonest s - mid) per)
    if x.sampleAt + msP 10 ≤ due then postFree due (.adcSample (strList t)) 5 (updStr t (fun y => { y with sampleAt := due }) s)
    else s
  else s

/-- A dimming pulse period starts (R199, R200). -/
def pulsePeriod (t : Str) (s : State) : State :=
  match nextPulse t s with
  | none => s
  | some (u, pos) =>
    let s1 := s.reach u
    strSample t (formPulse t (updStr t (fun y => { y with periodAt := some s1.now, pulsePos := pos }) s1))

/-- LED_PULSE_PERIOD (R200). -/
def execLedPulsePeriod (t : Str) (s : State) : Host.Outcome State Fault Refusal := doneFor .power s fun s => pulsePeriod t s

/-! ## Outages (R214, R215) -/

/-- The number of positions in outage. -/
def outageCount (t : Str) (s : State) : Nat := ((List.range 16).filter fun p => nbits (outageMask t s) p 1 == 1).length

/-- LED_STRING_FAIL follows the outages against OUT_LIMIT (R215). -/
def judgeStringFail (t : Str) (s : State) : State :=
  let lim := s.fld (Ix.LED_STR_DIAG t.val) 8 8
  condFault (0x414 + t.val) t.val (decide (lim ≠ 0) && decide (lim ≤ outageCount t s)) s

/-- A position is lit now. -/
def positionLit (t : Str) (p : Fin 16) (s : State) : Bool :=
  s.led.strs[t].st == .lit && nbits (appliedMask t s) p.val 1 == 0

/-- An open position, at `least` mV or above for `us` µs, is bypassed and reported (R214). -/
def posOpen (t : Str) (p : Fin 16) (least us : Nat) (s : State) : State :=
  if positionLit t p s && decide (8000 < least ∧ 2 ≤ us) then
    let b := 2 ^ p.val
    let s1 := updStr t (fun x => { x with bypass := x.bypass ||| b, openMask := x.openMask ||| b }) s
    judgeStringFail t (condFault 0x420 (16 * t.val + p.val) true (s1.bump (Ix.LED_COUNTS t.val) 8 8))
  else s

/-- LED_POS_OPEN_DETECT (R214). -/
def execLedPosOpenDetect (t : Str) (p : Fin 16) (least us : Nat) (s : State) : Host.Outcome State Fault Refusal :=
  doneFor .power s fun s => posOpen t p least us s

/-- A sample of a string's current (R215). -/
def strCurrentSample (t : Str) (ma : Nat) (s : State) : State := s.putNat (Ix.LED_STR_CURRENT t.val) ma

/-- The string current lies within ±10 % of its target (R215). -/
def currentNear (t : Str) (s : State) : Bool :=
  let c := s.num (Ix.LED_STR_CURRENT t.val)
  let g := strCurrent t s
  decide ((if c < g then g - c else c - g) * 10 ≤ g)

/-- A sampled position: on the third consecutive sample below VF_MIN it joins the short bits (R215). -/
def posSample (t : Str) (p : Fin 16) (vf : Nat) (s : State) : State :=
  if positionLit t p s then
    let low := decide (vf < 10 * s.fld (Ix.LED_STR_DIAG t.val) 0 8) && currentNear t s
    let n := if low then s.led.strs[t].shortRun.getD p.val 0 + 1 else 0
    let s1 := updStr t (fun x => { x with shortRun := x.shortRun.set p.val n }) s
    if 3 ≤ n then
      let s2 := updStr t (fun x => { x with shortMask := x.shortMask ||| 2 ^ p.val }) s1
      judgeStringFail t (condFault 0x421 (16 * t.val + p.val) true s2)
    else s1
  else s

/-- Bits of `LED_OUTAGE_s` are cleared: the positions leave the outage, an open one its bypass (R214). -/
def clearOutage (t : Str) (mask : Word) (s : State) : State :=
  let o := fld mask 0 16
  let sh := fld mask 16 16
  let s1 := updStr t (fun x => { x with openMask := x.openMask &&& (0xFFFF - o), bypass := x.bypass &&& (0xFFFF - o),
                                        shortMask := x.shortMask &&& (0xFFFF - sh) }) s
  let s2 := (List.range 16).foldl (fun a p =>
    let b := if nbits o p 1 = 1 then endFault 0x420 (16 * t.val + p) a else a
    if nbits sh p 1 = 1 then endFault 0x421 (16 * t.val + p) b else b) s1
  judgeStringFail t s2

/-- LED_OUTAGE_CLEAR (R214). -/
def execLedOutageClear (t : Str) (mask : Word) (s : State) : Host.Outcome State Fault Refusal :=
  doneFor .pair s fun s => clearOutage t mask s

/-! ## Trips (R216, R217) -/

/-- A string trips (R216), and latches after eight restarts within 60 s (R184, R217). -/
def tripString (t : Str) (id : Nat) (short : Bool) (s : State) : State :=
  let x := s.led.strs[t]
  let rs := x.restarts.filter fun u => decide (s.now ≤ u + secP 60)
  let s1 := updStr t (fun y => { y.dark s.now with st := .tripped, tripAt := s.now, restarts := rs }) s
  let s2 := s1.bump (Ix.LED_COUNTS t.val) 0 8
  let s3 := report (id + t.val) t.val (if short then countShort (stageOfStr t) s2 else s2)
  if 8 ≤ rs.length then condFault (0x410 + t.val) t.val true (latchString t s3) else s3

/-- The converter is on: the string is LIT and its level is not 0 (R198). -/
def converterOn (t : Str) (s : State) : Bool := s.led.strs[t].st == .lit && (effLevel t s).1 != 0

/-- Open string: the output at the 58 V clamp, `least` mV or above, with the current at most `most` mA for `us` µs (R216). -/
def strOpen (t : Str) (least most us : Nat) (s : State) : State :=
  if converterOn t s && decide (58000 ≤ least ∧ 2 * most < strCurrent t s ∧ 100 ≤ us) then tripString t 0x400 false s else s

/-- LED_STR_OPEN_DETECT (R216). -/
def execLedStrOpenDetect (t : Str) (least most us : Nat) (s : State) : Host.Outcome State Fault Refusal :=
  doneFor .stage s fun s => strOpen t least most us s

/-- Short to ground: the output current exceeds the return current by `excess` mA or more for `us` µs (R216). -/
def strShort (t : Str) (excess us : Nat) (s : State) : State :=
  if converterOn t s && decide (s.fld (Ix.LED_STR_ISET t.val) 0 11 < 5 * excess ∧ 20 ≤ us) then tripString t 0x404 true s else s

/-- LED_STR_SHORT_DETECT (R216). -/
def execLedStrShortDetect (t : Str) (excess us : Nat) (s : State) : Host.Outcome State Fault Refusal :=
  doneFor .power s fun s => strShort t excess us s

/-- Thermal: the converter junction reaches 175 °C, whether the string is lit or dark (R216). -/
def strThermal (t : Str) (temp : Int) (s : State) : State :=
  let st := s.led.strs[t].st
  if 175 ≤ temp ∧ (st = .lit ∨ st = .dark) then tripString t 0x40C false s else s

/-- LED_THERMAL_DETECT (R216). -/
def execLedThermalDetect (t : Str) (temp : Int) (s : State) : Host.Outcome State Fault Refusal :=
  doneFor .power s fun s => strThermal t temp s

/-- Short to battery: with the converter off the node stays strictly above 3.0 V for 50 ms (R216). -/
def strShortBat (t : Str) (least : Nat) (s : State) : State :=
  let x := s.led.strs[t]
  if !converterOn t s && x.st != .disabled then
    let found := decide (3000 < least)
    condFault (0x408 + t.val) t.val found (updStr t (fun y => { y with shortBat := found }) (s.reach (x.wentDark + msP 50)))
  else s

/-- LED_STR_SHORT_BAT_DETECT (R216). -/
def execLedStrShortBatDetect (t : Str) (least : Nat) (s : State) : Host.Outcome State Fault Refusal :=
  doneFor .stage s fun s => strShortBat t least s

/-- A string that may be lit again takes its composed state in one level step from 0 (R204, R217). -/
def relight (t : Str) (s : State) : State := if (composeNow t s).2.1 = 0 then s else postComposed (strPool t s) t s

/-- A TRIPPED string restarts after 100 ms, once its junction has read at or below 155 °C for 10 ms (R183, R217): `most` is the
highest reading of the 10 ms before `at_`. -/
def restartString (t : Str) (at_ : Nat) (most : Int) (s : State) : State :=
  let x := s.led.strs[t]
  if x.st == .tripped ∧ most ≤ 155 then
    let s1 := s.reach (Nat.max at_ (x.tripAt + msP 100))
    let s2 := updStr t (fun y => { y with st := .dark }) s1
    if (composeNow t s2).2.1 = 0 then s2 else relight t (updStr t (fun y => { y with restarts := s1.now :: y.restarts }) s2)
  else s

/-- STRING_RESTART (R217). -/
def execStringRestart (t : Str) (at_ : Nat) (most : Int) (s : State) : Host.Outcome State Fault Refusal :=
  doneFor .stage s fun s => restartString t at_ most s

/-- A latched string is cleared (R184, R217). -/
def clearStrLatch (t : Str) (s : State) : State :=
  if s.led.strs[t].st == .latched then
    relight t (applyLimits (endFault (0x410 + t.val) t.val (updStr t (fun y => { y with st := .dark, restarts := [] }) s)))
  else s

/-- LED_LATCHED_CLEAR (R217). -/
def execLedLatchedClear (t : Str) (s : State) : Host.Outcome State Fault Refusal := doneFor .pair s fun s => clearStrLatch t s

/-- The current-sense offset of a string (R218). -/
def strCal (t : Str) (n00Mv : Nat) (raw offset : Int) (s : State) : State :=
  if n00Mv < 300 ∧ raw.natAbs ≤ 30 then
    endFault 0x424 t.val (updStr t (fun x => { x with offset := offset, calDeferred := false, calRun := 0 }) s)
  else
    let n := s.led.strs[t].calRun + 1
    let s1 := updStr t (fun x => { x with calDeferred := true, calRun := n }) s
    if 3 ≤ n then condFault 0x424 t.val true s1 else s1

/-- Step 6 measures the offset of every string that is not disabled (R195, R218). -/
def startStrOffsets (rs : List OffsetReading) (s : State) : State :=
  forEach (List.finRange 4) (fun t u =>
    let r := offsetAt (strList t) rs
    if strCount t u = 0 then u else updStr t (fun x => { x with calAt := u.now }) (strCal t r.mv r.raw r.offset u)) s

/-- LED_CAL_RETRY: a deferred measurement is tried again whenever the string has been dark for 500 ms, counted from the last try where
it stayed dark (R218, assumption log 61). -/
def strCalRetry (t : Str) (n00Mv : Nat) (raw offset : Int) (s : State) : State :=
  let x := s.led.strs[t]
  if x.calDeferred && x.st != .lit && x.st != .disabled then
    let s1 := s.reach (Nat.max x.wentDark x.calAt + msP 500)
    updStr t (fun y => { y with calAt := s1.now }) (strCal t n00Mv raw offset s1)
  else s

/-- LED_CAL_RETRY (R218). -/
def execLedCalRetry (t : Str) (n00Mv : Nat) (raw offset : Int) (s : State) : Host.Outcome State Fault Refusal :=
  doneFor .stage s fun s => strCalRetry t n00Mv raw offset s

/-! ## Derating (R213) -/

/-- A derating factor in 0.01 %, of a temperature in 1/65,536 °C: full at or below the knee, the floor at or above the end, linear
between. -/
def kneeFactor (knee end_ floor_ : Nat) (temp : Int) : Int :=
  let k : Int := knee * 65536
  let e : Int := end_ * 65536
  if temp ≤ k then 10000
  else if e ≤ temp then 100 * floor_
  else 10000 - (10000 - 100 * (floor_ : Int)) * (temp - k) / (e - k)

/-- D is recomputed, 10 ms after the last time: towards the lower of the converter and lamp factors, by at most 5 % of full level per
second (R213). -/
def derateUpdate (t : Str) (temp : Int) (s0 : State) : State :=
  let s := s0.reach (s0.led.strs[t].derateAt + msP 10)
  let w := s.word (Ix.LED_DERATE t.val)
  let conv := kneeFactor (fld w 0 8) (fld w 8 8) (fld w 16 8) (temp * 65536)
  let l := s.word (Ix.LED_LAMP_TEMP t.val)
  let lamp := if fld l 0 11 = 0x7FF then 10000
    else kneeFactor (fld l 16 8) (fld l 24 8) (fld w 16 8) (sInt (sigValue (fld l 0 11) s))
  let low := min conv lamp
  let goal := (if strSafety t s then max low (100 * (fld w 24 8 : Int)) else low).toNat
  let d := s.led.strs[t].d
  let d' := if d < goal then Nat.min goal (d + 5) else Nat.max goal (d - 5)
  updStr t (fun x => { x with d := d', derateAt := s.now }) (s.putNat (Ix.LED_STR_TEMP t.val) (unsigned temp 16 + d' / 10 * 2 ^ 16))

/-- LED_DERATE_UPDATE (R213). -/
def execLedDerateUpdate (t : Str) (temp : Int) (s : State) : Host.Outcome State Fault Refusal :=
  doneFor .stage s fun s => derateUpdate t temp s

/-! ## Cornering (R211, R212) -/

/-- A dwell timer: since when a condition holds. -/
def holdSince (cond : Bool) (old : Option Nat) (now : Nat) : Option Nat :=
  if cond then (match old with | some t => some t | none => some now) else none

/-- Whether a dwell has elapsed. -/
def dwelt (t : Option Nat) (len now : Nat) : Bool := match t with | some u => decide (u + len ≤ now) | none => false

/-- The cornering state after an evaluation, before the limit of one step per 100 ms. -/
def cornerEval (s : State) : Corner :=
  let k := s.led.corner
  let cfg := s.word Ix.LED_CORNER_CFG
  let t : Str := ⟨fld cfg 0 2, by unfold fld nbits; exact Nat.mod_lt _ (by decide)⟩
  let dwell := msP (s.fld Ix.LED_CORNER_HYST 8 16)
  let hyst := (s.fld Ix.LED_CORNER_HYST 0 8 : Int)
  let speed := sInt (sigValue (s.fld Ix.LED_CORNER_SIG 16 11) s)
  let minS := (fld cfg 8 8 : Int) * 65536
  let lean0 := sInt (sigValue (s.fld Ix.LED_CORNER_SIG 0 11) s)
  let lean := if bit cfg 3 then -lean0 else lean0
  let right := decide (0 ≤ lean)
  let mag := (lean.natAbs : Int)
  let same := right == k.leanRight
  let thr := fun i => (s.fld Ix.LED_CORNER_THR (8 * i) 8 : Int) * 32768
  let hi := (List.range 4).map fun i =>
    holdSince (decide (thr i < mag)) (if same then k.leanHi.getD i none else none) s.now
  let lo := (List.range 4).map fun i =>
    holdSince (decide (mag < thr i - hyst * 32768)) (if same then k.leanLo.getD i none else none) s.now
  let shi := holdSince (decide (minS < speed)) k.speedHi s.now
  let slo := holdSince (decide (speed < minS - 2 * 65536)) k.speedLo s.now
  let lit := decide (0 < (sceneOf s.led.strs[t].req s).level) && s.led.strs[t].st == .lit
  let active := bit cfg 2 && lit && (if k.active then !dwelt slo dwell s.now else dwelt shi dwell s.now)
  let old := if right then k.right else k.left
  let segs := packBits ((List.range 4).map fun i =>
    if dwelt (hi.getD i none) dwell s.now then true
    else if dwelt (lo.getD i none) dwell s.now then false
    else same && nbits old i 1 == 1)
  { active := active, left := if active && !right then segs else 0, right := if active && right then segs else 0,
    lastStep := k.lastStep, speedHi := shi, speedLo := slo, leanRight := right, leanHi := hi, leanLo := lo }

/-- Cornering is evaluated; a change of the lit segments is one LED_STEP, at most one per 100 ms (R212). -/
def cornerUpdate (at_ : Nat) (s0 : State) : State :=
  let s := s0.reach at_
  let k := s.led.corner
  let n := cornerEval s
  let same := decide (n.active = k.active) && decide (n.left = k.left) && decide (n.right = k.right)
  if same then { s with led := { s.led with corner := n } }
  else if k.lastStep ≠ 0 ∧ s.now < k.lastStep + msP 100 then
    { s with led := { s.led with corner := { n with active := k.active, left := k.left, right := k.right } } }
  else
    let s1 : State := { s with led := { s.led with corner := { n with lastStep := s.now } } }
    let t : Str := ⟨s.fld Ix.LED_CORNER_CFG 0 2, by unfold State.fld fld nbits; exact Nat.mod_lt _ (by decide)⟩
    recomposeWith stepStr [t] s1

/-- CORNERING_UPDATE (R212). -/
def execCorneringUpdate (at_ : Nat) (s : State) : Host.Outcome State Fault Refusal := doneFor .stage s fun s => cornerUpdate at_ s

/-! ## Application pair stop -/

/-- A string takes its fail state; a SAFETY string holds its last composed state (R21). -/
def failString (t : Str) (s : State) : State :=
  if strSafety t s then s
  else match strFail t s with
    | 1 => s
    | 2 =>
      let k := s.fld (Ix.LED_STR_CFG t.val) 16 8
      let sc := sceneOf k s
      if s.led.strs[t].st == .disabled then s else updStr t (applyStep s.now k sc.shunt sc.level) s
    | _ => if s.led.strs[t].st == .disabled then s else updStr t (applyStep s.now 0 0xFFFF 0) s

/-- What a disabled string reported has ended (R195). -/
def endStrFaults (t : Str) (s : State) : State :=
  let s1 := forEach [0x400, 0x404, 0x408, 0x40C, 0x410, 0x414] (fun i u => endFault (i + t.val) t.val u) (endFault 0x424 t.val s)
  forEach (List.range 16) (fun p u => endFault 0x420 (16 * t.val + p) (endFault 0x421 (16 * t.val + p) u)) s1

/-- A string's state by its COUNT at a configuration commit (R195). -/
def initString (t : Str) (s : State) : State :=
  let st := s.led.strs[t].st
  if strCount t s = 0 then
    if st == .disabled then s
    else endStrFaults t (updStr t (fun x => { StringS.reset with req := x.req, offset := x.offset, d := x.d, wentDark := s.now }) s)
  else if st == .disabled then updStr t (fun x => { x with st := .dark, mask := 0xFFFF, wentDark := s.now }) s
  else s

end Sys2Proof.Machine
end

