-- ==== Sys2Proof/Machine/Motor.lean ====
section
/-!
DEFINITION. The motor drive (10_motor_drive.md): commands and set-points, the start sequence, ramps and the speed loop, the
modulator's limits and short pulses, stopping, the supply watch, reversal, position mode, protection, calibration, and the
brushed drives on HB0 and HB1. Speeds are in 1/1000 r/min and currents in 10 mA unless a name says otherwise.
-/
namespace Sys2Proof.Machine

/-! ## Settings (Table 10-7) -/

/-- ACCEL and DECEL as 1/1000 r/min per ms. -/
def motAccel (b : Mot) (s : State) : Nat := s.fld (Ix.MOT_RAMP b.val) 0 16 * 10
/-- DECEL. -/
def motDecel (b : Mot) (s : State) : Nat := s.fld (Ix.MOT_RAMP b.val) 16 16 * 10
/-- HANDOFF. -/
def motHandoff (b : Mot) (s : State) : Nat := s.fld (Ix.MOT_SPEED b.val) 0 16 * 1000
/-- MAX. -/
def motMax (b : Mot) (s : State) : Nat := s.fld (Ix.MOT_SPEED b.val) 16 16 * 1000
/-- The forced ramp rate HANDOFF / IF_TIME as 1/1000 r/min per ms (R232). -/
def motForcedRate (b : Mot) (s : State) : Nat := motHandoff b s / (10 * Nat.max 1 (s.fld (Ix.MOT_START b.val) 16 8))
/-- IF_TIME in base periods. -/
def motIfP (b : Mot) (s : State) : Nat := msP (10 * s.fld (Ix.MOT_START b.val) 16 8)
/-- ALIGN current in 10 mA, or the CURRENT_LIMIT set-point where that is lower (R225a, R232). -/
def motAlign (b : Mot) (s : State) : Nat :=
  let a := s.fld (Ix.MOT_START b.val) 0 8 * 10
  if (s.br b).cap = 0 then a else Nat.min a (s.br b).cap
/-- PWM period in ns. -/
def motPeriodNs (b : Mot) (s : State) : Nat := 1000000 / Nat.max 1 (s.fld (Ix.MOT_PWM b.val) 0 8)
/-- Dead time in ns. -/
def motDeadNs (b : Mot) (s : State) : Nat := 50 * s.fld (Ix.MOT_PWM b.val) 8 5
/-! ## Set-points (R224, R225) -/

/-- A FIX value in thousandths. -/
def fixMilli (v : Int) : Int := (v * 1000).tdiv 65536

/-- A SPEED set-point, FIX, within MAX and HANDOFF (R225). -/
def clampSpeed (b : Mot) (v : Int) (s : State) : Int :=
  if v = 0 then 0
  else
    let a := Nat.max (motHandoff b s) (Nat.min (motMax b s) (fixMilli v).natAbs)
    if v < 0 then -(a : Int) else a

/-- A SPEED set-point other than 0 lies outside HANDOFF to MAX (R225). -/
def outOfSpeed (b : Mot) (v : Int) (s : State) : Bool :=
  v != 0 && (decide (s.fld (Ix.MOT_SPEED b.val) 16 16 * 65536 < v.natAbs) || decide (v.natAbs < s.fld (Ix.MOT_SPEED b.val) 0 16 * 65536))

/-- The set-point that acts: WORKSHOP forcing outranks the sink's (R15); at a shedding factor of 0 the bridge is brought to
rest and keeps its own (Table 22-5). -/
def motTarget (b : Mot) (s : State) : SetPoint :=
  match (s.br b).forced with
  | 0 => if motFactor b s = 0 then .speed 0 else (s.br b).sp
  | 2 => .speed ((s.br b).forcedSp * 65536)
  | _ => .speed 0

/-- Whether a stop ends in BRAKE: STOP HOLD, or forcing hold; forcing coast opens every switch. -/
def motHolds (b : Mot) (s : State) : Bool :=
  match (s.br b).forced with
  | 1 => false
  | 3 => true
  | _ => s.fld (Ix.MOT_CFG b.val) 0 2 == 1

/-- A POSITION target in µm, clamped to 0 to TRAVEL (R238). -/
def motPosTarget (b : Mot) (v : Int) (s : State) : Int :=
  clampInt 0 (100 * s.fld (Ix.MOT_POS_SCALE b.val) 16 16 : Nat) (fixMilli v)

/-- What the acting set-point asks of a bridge. -/
inductive Want where
  /-- Nothing: no set-point, or one without effect. -/
  | leave
  | stop
  /-- Turn, in reverse where the flag is set. -/
  | turn (back : Bool)
  deriving DecidableEq, Repr

/-- What the acting set-point asks of a bridge (R225, R231, R238, R239). -/
def motWant (b : Mot) (s : State) : Want :=
  match motTarget b s with
  | .none => .leave
  | .speed v => if v = 0 then .stop else .turn (decide (v < 0))
  | .current v => if v = 0 then .leave else .turn (decide (v < 0))
  | .position v =>
    let x := s.br b
    if x.homeFailed then .leave
    else if x.homing || !x.homed then .turn true
    else
      let p := motPos b s
      let t := motPosTarget b v s
      if t = p then .stop else .turn (decide (t < p))

/-- Whether the acting set-point is SPEED or POSITION, which start a bridge that is OFF (R231). -/
def motStarts (b : Mot) (s : State) : Bool :=
  match motTarget b s with | .speed _ | .position _ => true | _ => false

/-! ## Changes of state -/

/-- A bridge enters a state: the short-pulse carry is emptied (R234). -/
def enterBr (b : Mot) (st : BrSt) (s : State) : State :=
  updBr b (fun x => { x with st := st, since := s.now, carry := [0, 0, 0] }) s

/-- A bridge's trip is over for a start request (R183, R231): RETRY has elapsed and its junction reads at or below 155 °C (assumption
log 62). -/
def tripOver (b : Mot) (s : State) : Bool :=
  decide ((s.br b).tripAt + msP (10 * s.fld (Ix.MOT_CFG b.val) 24 8) ≤ s.now) && decide (signed (s.fld (Ix.MOT_TEMP b.val) 0 16) 16 ≤ 155)

/-- A bridge that may not be driven now: tripped, latched, dropped or being dropped, held by the CRANK band or by the
overvoltage reaction, or its coprocessor not running. -/
def motBlocked (b : Mot) (s : State) : Bool :=
  let x := s.br b
  (x.st == .tripped && !tripOver b s) || x.st == .latched || x.st == .dropped || x.dropping || x.held || s.share.overvolt ||
    s.procs.motor != .running || motPoles b s == 0

/-- The start sequence begins with Catch (R231). -/
def startBr (b : Mot) (back : Bool) (s : State) : State :=
  updBr b (fun x => { x with back := back, toStop := false, reversal := none, caught := false, stillBrake := false,
                             holdBrake := false, endBrake := false, rampLimited := true, integ := 0,
                             homing := x.homing || (match motTarget b s with | .position _ => !x.homed | _ => false),
                             homeStart := if x.homing then x.homeStart else x.count })
    (enterBr b .catch_ s)

/-- The reversal hold begins (R237). -/
def beginHold (b : Mot) (back : Bool) (s : State) : State :=
  updBr b (fun x => { x with reversal := some back, holdBrake := true, endBrake := true, toStop := false, caught := false,
                             iqRef := 0, ref := 0 }) (enterBr b .brake s)

/-- The end of R235 step 3: DROPPED where degraded operation drops the bridge, BRAKE under HOLD, else OFF. -/
def applyStop (b : Mot) (s : State) : State :=
  let x := s.br b
  let st : BrSt := if x.dropping then .dropped else if motHolds b s then .brake else .off
  let moved := match motTarget b s with | .position _ => x.homed | _ => false
  let fromDecel := x.st == .forced || x.st == .run
  updBr b (fun x => { x with toStop := false, reversal := none, stillBrake := false, holdBrake := false, caught := false,
                             endBrake := fromDecel, rampLimited := false, ref := 0, iqRef := 0, integ := 0,
                             watch := if st = .brake then x.watch else .clear,
                             moves := if moved && fromDecel then x.moves + 1 else x.moves })
    (enterBr b st s)

/-- The rotor is at rest after a deceleration: the reversal hold, or the stop (R235, R237). -/
def restBr (b : Mot) (s : State) : State :=
  match (s.br b).reversal with
  | some d => if (s.br b).dropping then applyStop b s else beginHold b d s
  | none => applyStop b s

/-- Whether the bridge decelerates to rest or for a reversal. -/
def motDecelerates (x : Bridge) : Bool := x.toStop || x.reversal.isSome

/-- A set-point replaces the target of a deceleration that a catch or SHORT_BRAKE interrupts (R237): the original direction ends it and
the rotor is caught, the other one is the direction of the reversal. -/
def aim (b : Mot) (back : Bool) (s : State) : State :=
  updBr b (fun x => { x with toStop := false, reversal := if back = x.back then none else some back }) s

/-- A set-point, or its return, acts on a bridge (R225a, R230, R231, R235, R237). -/
def serveBr (b : Mot) (s : State) : State :=
  if motBlocked b s then s
  else
    let x := s.br b
    match motWant b s with
    | .leave => s
    | .stop =>
      match x.st with
      | .catch_ => if motDecelerates x then updBr b Bridge.slowing s else applyStop b s
      | .align => applyStop b s
      | .forced | .run => updBr b Bridge.slowing s
      | .brake =>
        if x.stillBrake || x.holdBrake then applyStop b s
        else if motDecelerates x then updBr b Bridge.slowing s else s
      | _ => s
    | .turn back =>
      match x.st with
      | .off => if motStarts b s then startBr b back s else s
      | .tripped =>
        if motStarts b s then startBr b back (updBr b (fun x => { x with restarts := s.now :: x.restarts }) s) else s
      | .catch_ => if motDecelerates x then aim b back s else updBr b (fun x => { x with back := back }) s
      | .align => if x.back = back then s else beginHold b back s
      | .forced =>
        if x.back = back then
          (if x.watch = .clear then updBr b (fun x => { x with toStop := false, reversal := none, rampLimited := true }) s else s)
        else updBr b (fun x => { x with reversal := some back, toStop := false, rampLimited := true }) s
      | .run =>
        if decide (x.speed < 0) = back ∨ (x.speed = 0 ∧ x.back = back) then
          (if x.watch = .clear then
            updBr b (fun x => { x with toStop := false, reversal := none, caught := false, back := back,
                                       ref := x.speed * 1000, rampLimited := true }) s
          else s)
        else updBr b (fun x => { x with reversal := some back, toStop := false, ref := x.speed * 1000, rampLimited := true }) s
      | .brake =>
        if x.watch = .shortBrake then aim b back s
        else if x.stillBrake then updBr b (fun x => { x with back := back }) s
        else if x.holdBrake then (if x.reversal = some back then s else startBr b back s)
        else startBr b back s
      | _ => s

/-- The status CLAMPED follows the set-point that acts (R225). -/
def noteClamp (b : Mot) (s : State) : State :=
  let c := match motTarget b s with | .speed v => outOfSpeed b v s | _ => false
  updBr b (fun x => { x with clamped := c }) s

/-- The forcing of a bridge, or its return to the sink's set-point, takes effect (R15). -/
def serveForced (b : Mot) (s : State) : State :=
  let f := motForce b s
  let was := (s.br b).forced
  let s1 := noteClamp b (updBr b (fun x => { x with forced := f, forcedSp := signed (s.fld (Ix.MOT_FORCE b.val) 16 16) 16 }) s)
  if f = 1 ∧ !motBlocked b s1 then updBr b (fun x => { x with toStop := false, reversal := none, iqRef := 0 }) (enterBr b .off s1)
  else if f = 0 ∧ was = 0 then s1
  else
    let s2 := serveBr b s1
    match (s2.br b).sp with
    | .none => if f = 0 ∧ was ≠ 0 ∧ !motBlocked b s2 then
        match (s2.br b).st with
        | .catch_ | .align => applyStop b s2
        | .forced | .run => updBr b Bridge.slowing s2
        | _ => s2
      else s2
    | _ => s2

/-! ## Commands (R228) -/

/-- A command takes effect: it becomes the set-point in force, or the forcing of `MOT_FORCE_b` does (code 0xF0 of a command slot, the
model's own: assumption log 62). A CURRENT_LIMIT is rounded up to 10 mA, so that a cap stays one. -/
def applyCmd (b : Mot) (c : MotCmd) (s : State) : State :=
  match c.quantity with
  | 3 => updBr b (fun x => { x with cap := ((c.value * 100 + 65535) / 65536).toNat }) s
  | 0 => serveBr b (noteClamp b (updBr b (fun x => { x with sp := .speed c.value }) s))
  | 1 => serveBr b (noteClamp b (updBr b (fun x => { x with sp := .current c.value }) s))
  | 2 =>
    let x := s.br b
    let again := decide (0 < s.fld (Ix.MOT_POS_HOME b.val) 24 8) && x.homed && decide (s.fld (Ix.MOT_POS_HOME b.val) 24 8 ≤ x.moves)
    serveBr b (noteClamp b (updBr b (fun x => { x with sp := .position c.value, homed := x.homed && !again }) s))
  | 0xF0 => serveForced b s
  | _ => s

/-- The lowest command slot that is free. -/
def freeCmdSlot (b : Mot) (s : State) : Nat := (firstBelow (fun n => (s.br b).slots.lookup n |>.isNone) 256).getD 255

/-- A MOTOR sink hands a value: it is written into a command slot and its MOT_CMD posted (R162, R228). -/
def handMotor (b : Mot) (quantity : Nat) (v : Word) (s : State) : State :=
  let k := freeCmdSlot b s
  let s1 := updBr b (fun x => { x with slots := (k, { quantity := quantity, value := v.toInt }) :: x.slots.filter (·.1 != k) }) s
  postFree (soonest s1) (.motCmd b k) 4 s1

/-- The forcing of a bridge changed: the motor service posts its MOT_CMD (R12). -/
def postForce (b : Mot) (s : State) : State := if motForce b s = 0 ∧ (s.br b).forced = 0 then s else handMotor b 0xF0 0 s

/-- A brushed command takes effect at the next period (R224, R245). -/
def queueBrushed (h : Hb) (c : MotCmd) (s : State) : State :=
  if hbMode h s = 2 then updBrush h (fun x => { x with next := x.next ++ [c] }) s else s

/-- EVENT_MOT_CMD: the command of the slot takes effect from the next PWM period start (R228). -/
def fireMotCmd (b : Mot) (slot : Nat) (s : State) : State :=
  match (s.br b).slots.lookup slot with
  | none => s
  | some c =>
    let s1 := updBr b (fun x => { x with slots := x.slots.filter (·.1 != slot) }) s
    if c.quantity < 0x10 ∨ c.quantity = 0xF0 then updBr b (fun x => { x with next := x.next ++ [c] }) s1 else queueBrushed b c s1

/-- EVENT_MOT_CMD (R228). -/
def motCmdEvent (slot : Nat) (s : State) : State :=
  match takeEvent slot s with
  | some (e, t) => match e.spec.act with | .motCmd b k => fireMotCmd b k t | _ => s
  | none => s

/-- EVENT_MOT_CMD (R228). -/
def execEventMotCmd (slot : Nat) (s : State) : Host.Outcome State Fault Refusal := doneFor .coreRun s fun s => motCmdEvent slot s

/-! ## The PWM period (R227, R233, R234, R238) -/

/-- m_lim in 0.001: 1 − 2 × (1.6 µs + dead time) / PWM period (R233); in JUMP at most what 14.0 V gives (R247). -/
def depthLimit (b : Mot) (vbat : Nat) (s : State) : Nat :=
  let per := motPeriodNs b s
  let m := 1000 - 2000 * (1600 + motDeadNs b s) / per
  if s.band == .jump ∧ 1400 < vbat then m * 1400 / vbat else m

/-- One phase's pulse: the on-time applied and the new carry, both in ns (R234). -/
def phasePulse (per dead : Int) (on sign carry : Int) : Int × Int :=
  let least := dead + 250
  let w := clampInt 0 per (on + (if 0 < sign then dead else if sign < 0 then -dead else 0) + carry)
  if w < least then (0, clampInt (-least) least w)
  else if per - w < least then (per, clampInt (-least) least (w - per))
  else (w, 0)

/-- The pulses of a period and the carries (R234). -/
def phasePulses (per dead : Int) : List (Nat × Int) → List Int → List (Int × Int)
  | [], _ => []
  | (on, sg) :: ps, cs => phasePulse per dead on sg (cs.headD 0) :: phasePulses per dead ps cs.tail

/-- The forced angle a period adds, with the fraction kept (R232, R238): in electrical angle units. -/
def forcedTurn (b : Mot) (s : State) : Int × Int :=
  let x := s.br b
  let den : Int := (60000 * 1000 * Nat.max 1 (s.fld (Ix.MOT_PWM b.val) 0 8) : Nat)
  let num := x.frac + x.ref * (motPoles b s : Int) * 65536
  (num / den, num % den)

/-- Marks for every multiple of 8,192 ac passed forward in RUN (R227). -/
def motMarks (b : Mot) (from_ to_ : Int) (s : State) : State :=
  let a := from_ / 8192
  let n := (to_ / 8192 - a).toNat
  (List.range n).foldl (fun t (k : Nat) =>
    let m := ((a + 1 + k) % 8).toNat
    sourceMark (5 + b.val) { angle := m * 8192, ref := m == 0, next := 8192, rate := none } t) s

/-- The depth in 0.001 of a voltage vector of `volt` against VBAT / √3, both in 10 mV (R233). -/
def depthOf (volt vbat : Nat) : Nat :=
  if vbat = 0 then 0 else bisect (fun k => decide (3000000 * volt * volt < (k + 1) * (k + 1) * (vbat * vbat))) 24 0 (2 ^ 24)

/-- A phase's on-time under the limit: its distance from half a period shrinks with the vector (R233). -/
def limitedOn (per depth lim on : Nat) : Nat :=
  if depth ≤ lim then on else ((per / 2 : Int) + ((on : Int) - per / 2) * lim / depth).toNat

/-- By how much a pulse is shifted to open each of the two active-vector windows of 1.6 µs, from the on-times of a centre-aligned
period; every on-time stays (R233). -/
def windowShift (ons : List Nat) : Nat × Nat :=
  match (ons.mergeSort (fun a b => decide (b ≤ a))) with
  | [a, b, c] => (1600 - (a - b) / 2, 1600 - (b - c) / 2)
  | _ => (0, 0)

/-- A centre-aligned pulse that ends where a phase current reaches PEAK (R241). -/
def cutPulse (per : Nat) (cut : Option Nat) (on : Nat) : Nat :=
  match cut with | some t => Nat.min on (t - (per - on) / 2) | none => on

/-- An angle count of 32 bits, signed (R238). -/
def wrap32 (x : Int) : Int := signed (unsigned x 32) 32

/-- The watch bands that hold from a period start on: none outside a deceleration, SLOW throughout one in JUMP (R236). -/
def bandAtPeriod (x : Bridge) (s : State) : Watch :=
  if !((x.st == .run || x.st == .forced) && motDecelerates x) then
    (if x.st == .brake || x.st == .catch_ then x.watch else .clear)
  else if s.band == .jump && x.watch == .clear then .slow else x.watch

/-- A PWM period of MA or MB starts: the waiting commands take effect, angle and position advance, the depth is limited, the sampling
windows open, the short-pulse carry applies, pulses end at PEAK, and marks are delivered (R227, R228, R232–R234, R236, R238, R241). -/
def bridgePeriod (b : Mot) (at_ vbat : Nat) (turn iq id : Int) (volt : Nat) (phases : List (Nat × Int)) (peakAt : Option Nat)
    (s0 : State) : State :=
  let s := s0.reach at_
  let cmds := (s.br b).next
  let s2 := cmds.foldl (fun t c => applyCmd b c t) (updBr b (fun x => { x with next := [], vbat := vbat }) s)
  let x := s2.br b
  let lim := depthLimit b vbat s2
  let depth := depthOf volt vbat
  let per := motPeriodNs b s2
  let pp := phasePulses per (motDeadNs b s2) (phases.map fun p => (limitedOn per depth lim p.1, p.2)) x.carry
  let f := forcedTurn b s2
  let adv := match x.st with | .align => 0 | .forced => f.1 | _ => turn
  let s3 := updBr b (fun x => { x with
    iq := iq, id := id, depth := Nat.min depth lim, depthMax := lim, depthLimited := decide (lim < depth)
    pulses := pp.map fun p => cutPulse per peakAt p.1.toNat, carry := pp.map (·.2), angle := x.angle + adv
    count := wrap32 (x.count + adv), frac := if x.st = .forced then f.2 else 0
    shift := windowShift (pp.map (·.1.toNat)), cutAt := peakAt, peakSince := holdsSince peakAt.isSome s2.now x.peakSince
    watch := bandAtPeriod x s2
    iqRef := if x.st = .align ∨ x.st = .forced then motAlign b s2 else x.iqRef }) s2
  if x.st = .run ∧ 0 < turn then motMarks b x.angle (x.angle + turn) s3 else s3

/-! ## Brushed drives (R245, R246) -/

/-- PWM period of a brushed drive in ns. -/
def brushPeriodNs (h : Hb) (s : State) : Nat := 1000000 / Nat.max 1 (s.fld (Ix.MOT_BR_CFG h.val) 0 6)

/-- A FIX value without its fraction, rounded away from 0, so that a value other than 0 stays one. -/
def fixAway (v : Int) : Int := if v < 0 then -((-v + 65535) / 65536) else (v + 65535) / 65536

/-- A brushed command takes effect. -/
def applyBrushCmd (h : Hb) (c : MotCmd) (s : State) : State :=
  match c.quantity with
  | 0x10 => updBrush h (fun x => { x with volt := some (clampInt (-32767) 32767 (divNear (c.value * 32767) 65536)), cur := none, rampLimited := true }) s
  | 0x11 => updBrush h (fun x => { x with cur := some (fixAway (c.value * 1000)), volt := none, rampLimited := true }) s
  | 0x14 => updBrush h (fun x => { x with cap := ((c.value * 1000 + 65535) / 65536).toNat }) s
  | _ => s

/-- The duty a brushed drive aims at, in full scale × f (Table 22-5), with WORKSHOP forcing of its channel. -/
def brushGoal (h : Hb) (loop : Int) (s : State) : Int :=
  let x := s.mot.brushed[h]
  let c := hbCh h
  let raw : Int := match chForce c s with
    | 0 => (match x.volt with | some v => v | none => (match x.cur with | some i => if i = 0 then 0 else loop | none => 0))
    | 2 => 32767
    | 3 => -32767
    | _ => 0
  let top : Int := scaled 32767 (chFactor c s)
  clampInt (-top) top raw

/-- The dwells of Table 10-5 on the VBAT of the period starts. -/
def brushDwells (vbat now : Nat) (x : Brushed) : Brushed :=
  { x with above155 := holdsSince (decide (1550 < vbat)) now x.above155, above165 := holdsSince (decide (1650 < vbat)) now x.above165
           below150 := holdsSince (decide (vbat < 1500)) now x.below150, below155 := holdsSince (decide (vbat < 1550)) now x.below155 }

/-- The watch band of a brushed ramp to 0 (R236, R246). -/
def brushWatch (jump : Bool) (now : Nat) (x : Brushed) : Watch :=
  let lasted := fun (t : Option Nat) (p : Nat) => match t with | some u => decide (u + p ≤ now) | none => false
  match x.watch with
  | .shortBrake => if lasted x.below155 (msP 1) then .slow else .shortBrake
  | w =>
    if jump then .slow
    else if lasted x.above165 (usP 20) then .shortBrake
    else if w = .clear ∧ lasted x.above155 (usP 100) then .slow
    else if w = .slow ∧ lasted x.below150 (msP 1) then .clear
    else w

/-- The duty of a brushed drive ramps towards its goal, first to 0 for a reversal (R246). -/
def brushRamp (h : Hb) (goal : Int) (s : State) : State :=
  let x := s.mot.brushed[h]
  let ramp := s.fld (Ix.MOT_BR_CFG h.val) 16 16
  let step : Int := if ramp = 0 then 65534 else (32767 * (s.now - x.lastAt) / msP ramp : Nat)
  let turns := decide (0 < x.duty ∧ goal < 0) || decide (x.duty < 0 ∧ 0 < goal)
  let aim := if turns then 0 else goal
  let slow := x.watch != .clear && decide (aim.natAbs < x.duty.natAbs)
  let d := if slow then x.duty else if x.duty < aim then min aim (x.duty + step) else max aim (x.duty - step)
  updBrush h (fun x => { x with duty := d, lastAt := s.now, rampLimited := decide (d ≠ goal),
                                turning := if turns ∧ d = 0 then some s.now else x.turning }) s

/-- A PWM period of a brushed drive (R245, R246). -/
def brushedPeriod (h : Hb) (at_ vbat : Nat) (loop : Int) (s0 : State) : State :=
  let c := hbCh h
  if hbMode h s0 ≠ 2 then s0
  else
    let s := s0.reach at_
    let cmds := (s.mot.brushed[h]).next
    let s1 := cmds.foldl (fun t c => applyBrushCmd h c t) (updBrush h (fun x => { x with next := [] }) s)
    let decel := decide ((brushGoal h loop s1).natAbs < (s1.mot.brushed[h]).duty.natAbs)
    let y := brushDwells vbat s1.now s1.mot.brushed[h]
    let w : Watch := if decel then brushWatch (s1.band == .jump) s1.now y else .clear
    let s2 := updBrush h (fun _ => { y with watch := w }) s1
    if blocked s2.chans[c] ∨ s2.procs.motor ≠ .running ∨ s2.share.overvolt then
      updCh c (chOff s2.now) (updBrush h (fun x => { x with duty := 0, lastAt := s2.now, st := .off, turning := none, carry := 0 }) s2)
    else
      match (s2.mot.brushed[h]).turning with
      | some t =>
        if s2.now < t + revBrakeP h s2 then
          updCh c (fun y => { y with drive := 3 }) (updBrush h (fun x => { x with st := .brake, lastAt := s2.now, carry := 0 }) s2)
        else updBrush h (fun x => { x with turning := none, lastAt := s2.now }) s2
      | none =>
        let s3 := brushRamp h (brushGoal h loop s2) s2
        let d := (s3.mot.brushed[h]).duty
        let per : Int := brushPeriodNs h s3
        let p := phasePulse per 500 (per * d.natAbs / 32767) 0 (s3.mot.brushed[h]).carry
        if d = 0 ∧ (s3.mot.brushed[h]).volt.isNone ∧ (s3.mot.brushed[h]).cur.isNone ∧ chForce c s3 = 0 then s3
        else if d = 0 then
          let brake := s3.flag (Ix.MOT_BR_CFG h.val) 8
          let s4 := updBrush h (fun x => { x with st := if brake then .brake else .off, carry := 0 }) s3
          if brake then updCh c (fun y => { y with drive := 3 }) s4 else turnOffCh c s4
        else
          let s4 := if (s3.chans[c]).st == .off then chTurnOn c (if 0 < d then 1 else 2) s3 else s3
          updCh c (fun y => { y with drive := if w = .shortBrake then 3 else if 0 < d then 1 else 2 })
            (updBrush h (fun x => { x with st := .run, carry := p.2 }) s4)

/-- MOT_PWM_PERIOD (R228, R245). -/
def pwmPeriod_ (m : MotorPeriod) (s : State) : State :=
  match m with
  | .bridge b t v turn iq id u ps pk => bridgePeriod b t v turn iq id u ps pk s
  | .brushed h t v d => brushedPeriod h t v d s

/-- MOT_PWM_PERIOD (R228). -/
def execMotPwmPeriod (m : MotorPeriod) (s : State) : Host.Outcome State Fault Refusal := doneFor .motor s fun s => pwmPeriod_ m s

/-! ## The speed loop and the ramps (R229, R230, R232, R235, R240) -/

/-- A value moved towards a target by a step. -/
def approach (x target : Int) (up down : Nat) : Int :=
  if x < target then
    let r := if x < 0 then down else up
    if x + r < target then x + r else target
  else
    let r := if x ≤ 0 then up else down
    if target < x - r then x - r else target

/-- Whether a position move must begin its deceleration: what is left is at most the way to stop (R240). -/
def mustBrake (b : Mot) (v : Int) (s : State) : Bool :=
  let x := s.br b
  let left := (motPosTarget b v s - motPos b s).natAbs
  let sp := x.speed.natAbs
  let h := motHandoff b s * 9 / 10000
  let d := motDecel b s
  let f := motForcedRate b s
  let way := if h < sp then (sp * sp - h * h) * f + h * h * d else sp * sp * d
  decide (left * 120 * d * f ≤ way * motPoles b s * s.fld (Ix.MOT_POS_SCALE b.val) 0 16)

/-- The speed a bridge is ramped towards in RUN; none under a CURRENT set-point. -/
def speedGoal (b : Mot) (s : State) : Option Int :=
  let x := s.br b
  if motDecelerates x then some 0
  else match motTarget b s with
    | .speed v => some (clampSpeed b v s)
    | .current _ => none
    | .position _ =>
      let top : Int := if x.homing then (s.fld (Ix.MOT_POS_HOME b.val) 0 16 * 1000 : Nat) else motMax b s
      some (if x.back then -top else top)
    | .none => some x.ref

/-- The speed loop in RUN (R229, R230). -/
def speedLoop (b : Mot) (s : State) : State :=
  let x := s.br b
  let lim : Int := motIqLimit b s
  match speedGoal b s with
  | none =>
    let goal : Int := match motTarget b s with | .current v => (v * 100).tdiv 65536 | _ => 0
    let g := clampInt (-lim) lim goal
    let step := motPeak b s / 10
    let i := clampInt (-lim) lim (approach x.iqRef g step step)
    updBr b (fun x => { x with iqRef := i, rampLimited := decide (i ≠ g) }) s
  | some g =>
    let slow := x.watch != .clear && motDecelerates x
    let ref := if slow then x.speed * 1000 else approach x.ref g (motAccel b s) (motDecel b s)
    let e := ref - x.speed * 1000
    let integ := if slow then x.integ else x.integ + (s.fld (Ix.MOT_GAIN b.val) 16 16 : Int) * e
    let i := if slow then 0
      else clampInt (-lim) lim (((s.fld (Ix.MOT_GAIN b.val) 0 16 : Int) * e * 1000 + integ).tdiv 10000000)
    updBr b (fun x => { x with ref := ref, integ := integ, iqRef := i, id := 0,
                               rampLimited := decide (ref ≠ g) || motDecelerates x }) s

/-- MOT_SPEED_LOOP_TICK (R229, R230, R232, R235, R240). -/
def speedTick (b : Mot) (at_ : Nat) (speed : Int) (s0 : State) : State :=
  let s := updBr b (fun x => { x with speed := speed }) (s0.reach at_)
  let x := s.br b
  match x.st with
  | .run =>
    let s1 := match motTarget b s with
      | .position v => if !x.homing && !motDecelerates x && mustBrake b v s then updBr b Bridge.slowing s else s
      | _ => if motFactor b s = 0 ∧ !motDecelerates x then updBr b Bridge.slowing s else s
    speedLoop b s1
  | .forced =>
    let f := motForcedRate b s
    let h : Int := motHandoff b s
    let hold := motDecelerates x && x.watch != .clear
    let goal := if motDecelerates x then 0 else if x.back then -h else h
    if hold then s else updBr b (fun x => { x with ref := approach x.ref goal f f }) s
  | _ => s

/-- MOT_SPEED_LOOP_TICK (R229). -/
def execMotSpeedLoopTick (b : Mot) (at_ : Nat) (speed : Int) (s : State) : Host.Outcome State Fault Refusal :=
  doneFor .motor s fun s => speedTick b at_ speed s

/-- The rms rule every 10 ms (R229). -/
def rmsUpdate (b : Mot) (rms : Nat) (s : State) : State :=
  let lim := motRmsLimit b s
  updBr b (fun x => { x with rms := rms, lowered :=
    if lim < rms then Nat.min 100 (x.lowered + 2) else if rms * 100 < 95 * lim then x.lowered - 2 else x.lowered }) s

/-- MOT_RMS_UPDATE (R229). -/
def execMotRmsUpdate (b : Mot) (rms : Nat) (s : State) : Host.Outcome State Fault Refusal :=
  doneFor .motor s fun s => rmsUpdate b rms s

/-! ## The start sequence (R231, R232) -/

/-- The least speed at which a caught rotor counts as turning: 0.9 × HANDOFF, in r/min × 10. -/
def turningAt (b : Mot) (speed : Int) (s : State) : Bool :=
  decide (9 * s.fld (Ix.MOT_SPEED b.val) 0 16 ≤ 10 * speed.natAbs)

/-- The CATCH window ends (Table 10-4): `emfMv` is the largest line-to-line back-EMF, `speed` the estimate in r/min and `angle` the
electrical angle, with which the observer is seeded. A catch after SHORT_BRAKE goes on with the deceleration it interrupted (Table
10-5). -/
def catchDone (b : Mot) (emfMv angle : Nat) (speed : Int) (s0 : State) : State :=
  let x := s0.br b
  if x.st ≠ .catch_ then s0
  else
    let s := s0.reach (x.since + msP (s0.fld (Ix.MOT_START b.val) 24 8))
    let moving := decide (200 ≤ emfMv) && turningAt b speed s
    let fwd := decide (speed < 0) = x.back
    let s1 := updBr b (fun x => { x with speed := if moving then speed else 0, angle := if moving then angle else x.angle }) s
    if motDecelerates x then
      if moving then updBr b (fun x => { x with ref := speed * 1000 }) (enterBr b .run s1) else restBr b s1
    else if moving ∧ fwd then updBr b (fun x => { x with ref := speed * 1000 }) (enterBr b .run s1)
    else if moving then
      updBr b (fun y => { y with ref := speed * 1000, reversal := some x.back, caught := true }) (enterBr b .run s1)
    else updBr b (fun x => { x with stillBrake := true, endBrake := false }) (enterBr b .brake s1)

/-- MOT_CATCH_DONE (R231). -/
def execMotCatchDone (b : Mot) (emfMv angle : Nat) (speed : Int) (s : State) : Host.Outcome State Fault Refusal :=
  doneFor .motor s fun s => catchDone b emfMv angle speed s

/-- ALIGN begins (Table 10-4). -/
def beginAlign (b : Mot) (s : State) : State :=
  updBr b (fun x => { x with stillBrake := false, holdBrake := false, endBrake := false, reversal := none, toStop := false,
                             watch := .clear, ref := 0, iqRef := motAlign b s }) (enterBr b .align s)

/-- The brake of a still catch ends after 100 ms. -/
def stillBrakeDone (b : Mot) (s : State) : State :=
  let x := s.br b
  if x.st = .brake ∧ x.stillBrake then beginAlign b (s.reach (x.since + msP 100)) else s

/-- MOT_STILL_BRAKE_DONE (R231). -/
def execMotStillBrakeDone (b : Mot) (s : State) : Host.Outcome State Fault Refusal := doneFor .motor s fun s => stillBrakeDone b s

/-- The ALIGN time ends with the rotor at angle 0 (R226, R227, R231, R232). -/
def alignDone (b : Mot) (s : State) : State :=
  let x := s.br b
  if x.st = .align then
    updBr b (fun x => { x with ref := 0, angle := 0 })
      (enterBr b .forced (s.reach (x.since + msP (10 * s.fld (Ix.MOT_START b.val) 8 8))))
  else s

/-- MOT_ALIGN_DONE (R231). -/
def execMotAlignDone (b : Mot) (s : State) : Host.Outcome State Fault Refusal := doneFor .motor s fun s => alignDone b s

/-- Handoff: the forced speed is at HANDOFF and the greatest observer error of 8 periods within 2,048 ac (Table 10-4); from RUN on the
angle is the observer's. -/
def handoff (b : Mot) (err angle : Nat) (speed : Int) (s : State) : State :=
  let x := s.br b
  if x.st = .forced ∧ motDecelerates x = false ∧ motHandoff b s ≤ x.ref.natAbs ∧ err ≤ 2048 then
    updBr b (fun x => { x with speed := speed, ref := speed * 1000, integ := 0, angle := angle }) (enterBr b .run s)
  else s

/-- MOT_HANDOFF (R231). -/
def execMotHandoff (b : Mot) (err angle : Nat) (speed : Int) (s : State) : Host.Outcome State Fault Refusal :=
  doneFor .motor s fun s => handoff b err angle speed s

/-! ## Trips, restarts and latches (R241, R242) -/

/-- Restarts within the 60 s before now. -/
def recentBrRestarts (x : Bridge) (s : State) : List Nat := x.restarts.filter fun t => decide (s.now ≤ t + secP 60)

/-- A bridge that drives a rotor or its own switches. -/
def BrSt.drives : BrSt → Bool
  | .catch_ | .align | .forced | .run | .brake => true
  | _ => false

/-- A bridge trips with a cause (Table 10-6): every switch opens; the eighth restart within 60 s latches (R242). -/
def tripBridge (b : Mot) (cause id : Nat) (s : State) : State :=
  let x := s.br b
  if x.st.drives then
    let rs := recentBrRestarts x s
    let s1 := updBr b (fun y => { y with lastTrip := cause, tripAt := s.now, restarts := rs, toStop := false, reversal := none,
                                         caught := false, stillBrake := false, holdBrake := false, endBrake := false,
                                         watch := .clear, iqRef := 0, ref := 0, integ := 0 }) (enterBr b .tripped s)
    let s2 := s1.bump (Ix.MOT_COUNTS b.val) 0 8
    let s3 := report id b.val (if cause = 1 then countShort (stageOfMot b) s2 else s2)
    if 8 ≤ rs.length then condFault (0x50C + b.val) b.val true (latchBridge b s3) else s3
  else s

/-- Short: a phase current strictly above the cut-off of Table 10-1 for 2 µs; `ma` is its least over `us` µs (R223, R241). -/
def motShort (b : Mot) (ma us : Nat) (s : State) : State :=
  if (if b.val = 0 then 40000 else 15000) < ma ∧ 2 ≤ us then tripBridge b 1 (0x500 + b.val) s else s

/-- MOT_SHORT_DETECT (R223, R241). -/
def execMotShortDetect (b : Mot) (ma us : Nat) (s : State) : Host.Outcome State Fault Refusal :=
  doneFor .bridge s fun s => motShort b ma us s

/-- The peak limit was reached in every period for 100 ms (R241). -/
def peakTrip (b : Mot) (s : State) : State :=
  match (s.br b).peakSince with
  | some t => tripBridge b 2 (0x502 + b.val) (s.reach (t + msP 100))
  | none => s

/-- MOT_PEAK_TRIP (R241). -/
def execMotPeakTrip (b : Mot) (s : State) : Host.Outcome State Fault Refusal := doneFor .bridge s fun s => peakTrip b s

/-- Thermal: the bridge junction reaches 175 °C (R241). -/
def motThermal (b : Mot) (temp : Int) (s : State) : State := if 175 ≤ temp then tripBridge b 3 (0x504 + b.val) s else s

/-- MOT_THERMAL_DETECT (R241). -/
def execMotThermalDetect (b : Mot) (temp : Int) (s : State) : Host.Outcome State Fault Refusal :=
  doneFor .bridge s fun s => motThermal b temp s

/-- No handoff by IF_TIME plus 200 ms: the bridge trips with cause stall (R232). -/
def handoffTimeout (b : Mot) (s : State) : State :=
  let x := s.br b
  if x.st = .forced ∧ motDecelerates x = false then
    tripBridge b 4 (0x508 + b.val) (s.reach (x.since + motIfP b s + msP 200))
  else s

/-- MOT_HANDOFF_TIMEOUT (R232). -/
def execMotHandoffTimeout (b : Mot) (s : State) : Host.Outcome State Fault Refusal := doneFor .motor s fun s => handoffTimeout b s

/-- Observer loss: an error strictly above 4,096 ac for 8 periods, of which `err` is the least; the bridge coasts and catches, the third
within 10 s trips it (R241). -/
def observerLoss (b : Mot) (err : Nat) (s : State) : State :=
  let x := s.br b
  if x.st = .run ∧ 4096 < err then
    let ls := s.now :: x.losses.filter fun t => decide (s.now ≤ t + secP 10)
    let s1 := (updBr b (fun y => { y with losses := ls }) s).bump (Ix.MOT_COUNTS b.val) 8 8
    if 3 ≤ ls.length then tripBridge b 4 (0x506 + b.val) (updBr b (fun y => { y with losses := [] }) s1)
    else report (0x506 + b.val) b.val (updBr b (fun y => { y with iqRef := 0, integ := 0 }) (enterBr b .catch_ s1))
  else s

/-- MOT_OBSERVER_LOSS (R241). -/
def execMotObserverLoss (b : Mot) (err : Nat) (s : State) : Host.Outcome State Fault Refusal :=
  doneFor .motor s fun s => observerLoss b err s

/-- Phase open: one phase current strictly below 5 % of the others over an electrical revolution, with |Iq| above 10 % of PEAK;
the currents are given in 10 mA (R241). -/
def phaseOpen (b : Mot) (least others : Nat) (s : State) : State :=
  let x := s.br b
  if x.st.drives ∧ least * 20 < others ∧ motPeak b s < 10 * x.iq.natAbs then
    let s1 := latchBridge b (updBr b (fun y => { y with lastTrip := 5 }) s)
    condFault (0x50C + b.val) b.val true (condFault (0x50A + b.val) b.val true s1)
  else s

/-- MOT_PHASE_OPEN_DETECT (R241). -/
def execMotPhaseOpenDetect (b : Mot) (least others : Nat) (s : State) : Host.Outcome State Fault Refusal :=
  doneFor .motor s fun s => phaseOpen b least others s

/-- A bridge that may move starts from Catch where its set-point is not zero (R231, R242, R247). -/
def startFromCatch (b : Mot) (s : State) : State :=
  match motWant b s with
  | .turn back => if motBlocked b s then s else startBr b back s
  | _ => s

/-- A TRIPPED bridge leaves TRIPPED once RETRY has elapsed and its junction has read at or below 155 °C for 10 ms (R183, R242): `most`
is the highest reading of the 10 ms before `at_`. -/
def restartBr (b : Mot) (at_ : Nat) (most : Int) (s : State) : State :=
  let x := s.br b
  if x.st = .tripped ∧ most ≤ 155 then
    let s1 := s.reach (Nat.max at_ (x.tripAt + msP (10 * s.fld (Ix.MOT_CFG b.val) 24 8)))
    let s2 := enterBr b .off s1
    match motWant b s2 with
    | .turn _ => startFromCatch b (updBr b (fun y => { y with restarts := s1.now :: y.restarts }) s2)
    | _ => s2
  else s

/-- MOT_RESTART (R242). -/
def execMotRestart (b : Mot) (at_ : Nat) (most : Int) (s : State) : Host.Outcome State Fault Refusal :=
  doneFor .motor s fun s => restartBr b at_ most s

/-- A latched bridge is cleared through `MOT_LATCHED` (R242). -/
def clearBrLatch (b : Mot) (s : State) : State :=
  if (s.br b).st = .latched then
    let s1 := enterBr b .off (updBr b (fun y => { y with restarts := [] }) s)
    startFromCatch b (applyLimits (endFault (0x50A + b.val) b.val (endFault (0x50C + b.val) b.val s1)))
  else s

/-- MOT_LATCHED_CLEAR (R242). -/
def execMotLatchedClear (b : Mot) (s : State) : Host.Outcome State Fault Refusal := doneFor .pair s fun s => clearBrLatch b s

/-! ## Stopping, the supply watch, reversal and homing (R235–R239) -/

/-- A decelerating bridge in RUN below 0.9 × HANDOFF enters FORCED at that speed (R235); a rotor caught against the request
goes to the reversal hold (Table 10-4). -/
def forcedEntry (b : Mot) (speed : Int) (s : State) : State :=
  let x := s.br b
  if x.st = .run ∧ motDecelerates x ∧ !turningAt b speed s then
    let s1 := updBr b (fun x => { x with speed := speed, ref := speed * 1000 }) s
    match x.caught, x.reversal with
    | true, some d => beginHold b d s1
    | _, _ => updBr b (fun x => { x with back := decide (speed < 0) }) (enterBr b .forced s1)
  else s

/-- MOT_FORCED_ENTRY (R235). -/
def execMotForcedEntry (b : Mot) (speed : Int) (s : State) : Host.Outcome State Fault Refusal :=
  doneFor .motor s fun s => forcedEntry b speed s

/-- The forced speed reaches zero (R235). -/
def forcedStop (b : Mot) (s : State) : State :=
  let x := s.br b
  if x.st = .forced ∧ motDecelerates x then restBr b (updBr b (fun x => { x with speed := 0, ref := 0 }) s) else s

/-- MOT_FORCED_STOP (R235). -/
def execMotForcedStop (b : Mot) (s : State) : Host.Outcome State Fault Refusal := doneFor .motor s fun s => forcedStop b s

/-- In WATCH a HOLD brake ends after 1 s (R235). -/
def holdTimeout (b : Mot) (s : State) : State :=
  let x := s.br b
  if x.st = .brake ∧ x.stillBrake = false ∧ x.holdBrake = false ∧ x.watch ≠ .shortBrake ∧ s.modes.mode = .watch then
    updBr b (fun x => { x with watch := .clear }) (enterBr b .off (s.reach (x.since + secP 1)))
  else s

/-- MOT_HOLD_TIMEOUT (R235). -/
def execMotHoldTimeout (b : Mot) (s : State) : Host.Outcome State Fault Refusal := doneFor .motor s fun s => holdTimeout b s

/-- The supply watch is active (R236). -/
def watchActive (x : Bridge) : Bool :=
  ((x.st == .run || x.st == .forced) && motDecelerates x) || (x.st == .brake && (x.endBrake || x.watch == .shortBrake))

/-- VBAT beyond a level for its dwell changes the band (Table 10-5): `least` and `most` are VBAT in 10 mV over the dwell of the
level they meet. In JUMP the band is SLOW and SHORT_BRAKE is not entered. A bridge that leaves SHORT_BRAKE at rest under HOLD is caught
on its way to rest, so that it comes to HOLD again. -/
def watchBand (b : Mot) (least most : Nat) (s : State) : State :=
  let x := s.br b
  if !watchActive x then updBr b (fun x => { x with watch := .clear }) s
  else if s.band = .jump then (if x.watch = .shortBrake then s else updBr b (fun x => { x with watch := .slow }) s)
  else
    match x.watch with
    | .shortBrake =>
      if most < 1550 then
        updBr b (fun x => { x with watch := .slow, toStop := x.toStop || x.reversal.isNone }) (enterBr b .catch_ s)
      else s
    | w =>
      if 1650 < least then
        (updBr b (fun x => { x with watch := .shortBrake }) (enterBr b .brake s)).bump (Ix.MOT_COUNTS b.val) 16 8
      else if w = .clear ∧ 1550 < least then updBr b (fun x => { x with watch := .slow }) s
      else if w = .slow ∧ most < 1500 then serveBr b (updBr b (fun x => { x with watch := .clear }) s)
      else s

/-- MOT_SUPPLY_WATCH_BAND (R236). -/
def execMotSupplyWatchBand (b : Mot) (least most : Nat) (s : State) : Host.Outcome State Fault Refusal :=
  doneFor .motor s fun s => watchBand b least most s

/-- The reversal hold ends: the bridge starts in the new direction from Align (R237). -/
def reversalHoldEnd (b : Mot) (s : State) : State :=
  let x := s.br b
  match x.holdBrake, x.reversal with
  | true, some d =>
    beginAlign b (updBr b (fun x => { x with back := d }) (s.reach (x.since + msP (s.fld (Ix.MOT_REV b.val) 0 16))))
  | _, _ => s

/-- MOT_REVERSAL_HOLD_END (R237). -/
def execMotReversalHoldEnd (b : Mot) (s : State) : Host.Outcome State Fault Refusal :=
  doneFor .motor s fun s => reversalHoldEnd b s

/-- The stall of homing: a phase current strictly above HOME_STALL for 100 ms. The move follows at the next PWM period (R239). -/
def homeStall (b : Mot) (least : Nat) (s : State) : State :=
  let x := s.br b
  if x.homing ∧ (x.st = .run ∨ x.st = .forced) ∧ s.fld (Ix.MOT_POS_HOME b.val) 16 8 * 10 < least then
    let again : List MotCmd := match x.sp with | .position v => [{ quantity := 2, value := v }] | _ => []
    updBr b (fun x => { x with homing := false, homed := true, count := 0, moves := 0, toStop := false, reversal := none,
                               iqRef := 0, ref := 0, endBrake := false, rampLimited := false, next := x.next ++ again })
      (enterBr b .brake s)
  else s

/-- MOT_HOME_STALL (R239). -/
def execMotHomeStall (b : Mot) (least : Nat) (s : State) : Host.Outcome State Fault Refusal :=
  doneFor .motor s fun s => homeStall b least s

/-- Homing finds no end stop within 1.5 × TRAVEL: the bridge stops and MOT_NO_HOME is reported (R239). -/
def homeFail (b : Mot) (s : State) : State :=
  let x := s.br b
  let way := (x.homeStart - x.count) * (s.fld (Ix.MOT_POS_SCALE b.val) 0 16 : Int)
  if x.homing ∧ ((150 * s.fld (Ix.MOT_POS_SCALE b.val) 16 16 * 65536 : Nat) : Int) ≤ way then
    report (0x50E + b.val) b.val
      (updBr b (fun x => { x with homing := false, homeFailed := true, homed := false }) (updBr b Bridge.slowing s))
  else s

/-- MOT_HOME_FAIL (R239). -/
def execMotHomeFail (b : Mot) (s : State) : Host.Outcome State Fault Refusal := doneFor .motor s fun s => homeFail b s

/-! ## Calibration (R243, R244) -/

/-- The preconditions of R243: back-EMF below 0.2 V for 20 ms, and the raw reading in mA within ±3 % of full scale. -/
def offsetOk (b : Mot) (emfMv : Nat) (raw : Int) : Bool :=
  decide (emfMv < 200) && decide (raw.natAbs ≤ if b.val = 0 then 750 else 240)

/-- The offset is measured, or deferred; the third deferral in a row raises CAL_STARVED (R243). -/
def offsetCal (b : Mot) (emfMv : Nat) (raw offset : Int) (s : State) : State :=
  if offsetOk b emfMv raw then
    condFault 0x510 b.val false (updBr b (fun x => { x with offset := offset, calDeferred := false, calRun := 0 }) s)
  else
    let n := (s.br b).calRun + 1
    let s1 := updBr b (fun x => { x with calDeferred := true, calRun := n }) s
    if 3 ≤ n then condFault 0x510 b.val true s1 else s1

/-- Step 6 measures the offset of both bridges (R243); the reading of a bridge gives its largest back-EMF, and in 0.1 % of full scale
its raw value. -/
def startBrOffsets (rs : List OffsetReading) (s : State) : State :=
  forEach (List.finRange 2) (fun b t =>
    let r := offsetAt (46 + b.val) rs
    offsetCal b r.mv (r.raw * (if b.val = 0 then 25 else 8)) r.offset t) s

/-- A bridge OFF for 500 ms measures its offset (R243). -/
def offsetCalTry (b : Mot) (emfMv : Nat) (raw offset : Int) (s : State) : State :=
  if (s.br b).st = .off then offsetCal b emfMv raw offset (s.reach ((s.br b).since + msP 500)) else s

/-- MOT_OFFSET_CAL (R243). -/
def execMotOffsetCal (b : Mot) (emfMv : Nat) (raw offset : Int) (s : State) : Host.Outcome State Fault Refusal :=
  doneFor .motor s fun s => offsetCalTry b emfMv raw offset s

/-- The commanded offset measurement: it needs the bridge OFF (R244). -/
def calOffset (b : Mot) (emfMv : Nat) (raw offset : Int) (s : State) : State :=
  let ok := (s.br b).st == .off && offsetOk b emfMv raw
  let s1 : State := { s with mot := { s.mot with cal := if ok then .done else .deferred } }
  if (s.br b).st = .off then offsetCal b emfMv raw offset s1 else s1

/-- The commanded identification: `res` in mΩ and `ind` in µH are what the steps of R244 find. -/
def calIdentify (b : Mot) (emfMv res ind : Nat) (s : State) : State :=
  if (s.br b).st = .off ∧ emfMv < 200 then
    updBr b (fun x => { x with ident := some (res, ind) }) { s with mot := { s.mot with cal := .done } }
  else { s with mot := { s.mot with cal := .deferred } }

/-! ## What other chapters do to the bridges -/

/-- The supply band changed (R247): in CRANK every bridge opens all switches and keeps its set-point; afterwards it starts from
Catch. -/
def crankBr (b : Mot) (s : State) : State :=
  let x := s.br b
  if s.band = .crank then
    let s1 := updBr b (fun x => { x with held := true }) s
    if x.st.drives then updBr b (fun x => { x with toStop := false, reversal := none, watch := .clear, iqRef := 0 }) (enterBr b .off s1) else s1
  else if x.held then
    let s1 := updBr b (fun x => { x with held := false }) s
    if (s1.br b).st = .off then startFromCatch b s1 else s1
  else s

/-- The application pair stopped: FAIL holds the set-point, ramps to zero, or coasts (Edges of chapter 10). -/
def failBr (b : Mot) (s : State) : State :=
  match s.fld (Ix.MOT_CFG b.val) 2 2 with
  | 1 => serveBr b (updBr b (fun x => { x with sp := .speed 0, slots := [] }) s)
  | 2 =>
    let s1 := updBr b (fun x => { x with sp := .none, slots := [], toStop := false, reversal := none, watch := .clear, iqRef := 0 }) s
    if (s.br b).st.drives then enterBr b .off s1 else s1
  | _ => updBr b (fun x => { x with slots := [] }) s

/-- The application pair stopped: a brushed bridge takes the FAIL state of its channel, 0 off, 1 hold, 2 brake (R21, Table 8-11). -/
def failBrushed (h : Hb) (s : State) : State :=
  if hbMode h s ≠ 2 ∨ chFail (hbCh h) s = 1 then s
  else
    let brake := decide (chFail (hbCh h) s = 2) && !blocked s.chans[hbCh h]
    let s1 := updBrush h (fun x => { x with volt := none, cur := none, next := [], duty := 0, turning := none, carry := 0,
                                            st := if brake then .brake else .off, rampLimited := false }) s
    if brake then updCh (hbCh h) (fun y => { y with st := .on, drive := 3 }) s1 else updCh (hbCh h) (chOff s1.now) s1

/-- The motor coprocessor stopped: every switch of MA and MB opens, and the brushed bridges turn off (R24). -/
def coproStop (s : State) : State :=
  let s1 := (List.finRange 2).foldl (fun t b =>
    updBr b (fun x => { x with st := if x.st.drives then .off else x.st, since := t.now, carry := [0, 0, 0], next := [], toStop := false,
                               reversal := none, watch := .clear, iqRef := 0, integ := 0, homed := false, homing := false }) t) s
  (List.finRange 2).foldl (fun t h =>
    if hbMode h t = 2 then
      updCh (hbCh h) (chOff t.now) (updBrush h (fun x => { x with st := .off, duty := 0, next := [], turning := none, carry := 0 }) t)
    else t) s1

/-- The reload of the coprocessor completes: each bridge with a non-zero set-point starts from Catch; POSITION homes again. -/
def coproResume (s : State) : State :=
  (List.finRange 2).foldl (fun t b => if (t.br b).st = .off ∨ (t.br b).st = .tripped then startFromCatch b t else t)
    { s with procs := { s.procs with motor := .running } }

/-- MOT_COPRO_RELOAD_DONE (R24, R231). -/
def execMotCoproReloadDone (s : State) : Host.Outcome State Fault Refusal :=
  doneFor .always s fun s => if s.procs.motor = .loading then coproResume s else s

/-- Every bridge opens its switches and forgets its set-point, as the loss of the MOT domain in a park state leaves it. -/
def parkBridges (s : State) : State :=
  (List.finRange 2).foldl (fun t b =>
    updBr b (fun x => { x with st := if x.st.drives then .off else x.st, since := t.now, carry := [0, 0, 0], next := [], slots := [],
                               sp := .none, toStop := false, reversal := none, watch := .clear, iqRef := 0, integ := 0 }) t) s

end Sys2Proof.Machine
end

