-- ==== Sys2Proof/Machine/Standby.lean ====
section
/-!
DEFINITION. STANDBY and the stand-ins for the park sources, which every service may end (R97, R104–R106, R147).
-/
namespace Sys2Proof.Machine

/-- Whether wake source `n` is enabled for the coming park: its bit, or a set alarm for source 0 (R97). -/
def parkSourceSet (n : Nat) (s : State) : Bool :=
  if n = 0 then s.num Ix.PWR_RTC_WAKE != 0 else s.flag Ix.PWR_WAKE_ENABLE n

/-- The stand-in of wake source `n` fires during PARK entry (R96, R97). DEEP has none of the sources 2 to 6. -/
def parkSourceFires (n : Nat) (s : State) : State :=
  if s.modes.entering.isSome && parkSourceSet n s && (n == 0 || s.fld Ix.PWR_PARK_STATE 0 1 == 0) then cancelParkEntry s else s

end Sys2Proof.Machine
end

