-- ==== Sys2Proof/Machine/Inputs.lean ====
section
/-!
DEFINITION. Switch, analogue and frequency inputs, the stator tap and the IMU (11_inputs_and_motion.md).
-/
namespace Sys2Proof.Machine

/-! ## Switches (R250–R257) -/

/-- A switch input changed. -/
def updSw (n : SwitchNo) (f : Switch → Switch) (s : State) : State :=
  { s with inp := { s.inp with sw := s.inp.sw.set n (f s.inp.sw[n]) } }

/-- TYPE of a switch input: true for BAT. -/
def swBat (n : SwitchNo) (s : State) : Bool := s.flag (Ix.IN_SW_CFG n.val) 0
/-- DEBOUNCE in base periods. -/
def swDebounceP (n : SwitchNo) (s : State) : Nat := msP (s.fld (Ix.IN_SW_CFG n.val) 4 8)
/-- The land of a switch input is owned by touch (R256). -/
def swOfTouch (n : SwitchNo) (s : State) : Bool := decide (24 ≤ n.val) && ownerIn 1 n.val s.boot.owners == 1
/-- A switch input in use: WET is not 0 and its land is its own (R251, R256). -/
def swUsed (n : SwitchNo) (s : State) : Bool := s.fld (Ix.IN_SW_CFG n.val) 1 2 != 0 && !swOfTouch n s

/-- The wetting current in mA now (R251). -/
def swWetting (n : SwitchNo) (s : State) : Nat :=
  let full := match s.fld (Ix.IN_SW_CFG n.val) 1 2 with | 0 => 0 | 1 => 1 | 2 => 5 | _ => 12
  if s.flag (Ix.IN_SW_CFG n.val) 3 && full != 0 then
    match (s.inp.sw[n]).closedAt with
    | some t => if s.now < t + msP 20 then full else 1
    | none => 1
  else full

/-- The raw state at a voltage in mV; between the two levels of the type it holds (R250). -/
def swRaw (n : SwitchNo) (mv : Nat) (s : State) : Bool :=
  let old := (s.inp.sw[n]).raw
  if swBat n s then
    let vbat := s.fld Ix.SYS_SUPPLY 0 16 * 10
    if vbat < 2 * mv then true else if 10 * mv < 3 * vbat then false else old
  else if mv < 2000 then true else if 3000 < mv then false else old

/-- Whether a confirmed change is of the kind PARK_EDGE selects (R97, R254). -/
def parkEdge (n : SwitchNo) (closed : Bool) (s : State) : Bool :=
  match s.fld (Ix.IN_SW_CFG n.val) 12 2 with
  | 1 => closed
  | 2 => !closed
  | _ => true

/-- The raw state is confirmed and published (R252). -/
def confirmSwitch (n : SwitchNo) (s : State) : State :=
  let x := s.inp.sw[n]
  let s1 := updSw n (fun x => { x with closed := x.raw, since := none, differ := 0,
                                       closedAt := if x.raw && !x.closed then some s.now else x.closedAt }) s
  let s2 := publishSource 1 n.val (toWord (b2n x.raw)) false s1
  if x.raw != x.closed && s.flag Ix.IN_SW_PARK_MASK n.val && parkEdge n x.raw s then parkSourceFires 2 s2 else s2

/-- The debounce timer starts or restarts; a DEBOUNCE of 0 confirms at once (R252). -/
def startDebounce (n : SwitchNo) (t : Nat) (s : State) : State :=
  if s.band = .crank then s
  else if swDebounceP n s = 0 then confirmSwitch n s
  else updSw n (fun x => { x with since := some t }) s

/-- A raw edge (R250, R252). -/
def swRawEdge (n : SwitchNo) (at_ mv : Nat) (s0 : State) : State :=
  let s := s0.reach at_
  let r := swRaw n mv s
  if !swUsed n s || r == (s.inp.sw[n]).raw then s
  else startDebounce n s.now (updSw n (fun x => { x with raw := r }) s)

/-- SW_RAW_EDGE (R252). -/
def execSwRawEdge (n : SwitchNo) (at_ mv : Nat) (s : State) : Host.Outcome State Fault Refusal :=
  doneFor .pairAwake s fun s => swRawEdge n at_ mv s

/-- The debounce timer reaches DEBOUNCE (R252). -/
def swExpiry (n : SwitchNo) (s : State) : State :=
  match (s.inp.sw[n]).since with
  | some t => if s.band = .crank then s else confirmSwitch n (s.reach (t + swDebounceP n s))
  | none => s

/-- SW_DEBOUNCE_EXPIRY (R252). -/
def execSwDebounceExpiry (n : SwitchNo) (s : State) : Host.Outcome State Fault Refusal :=
  doneFor .pairAwake s fun s => swExpiry n s

/-- One cyclic sample of an input in STANDBY: the second in a row that differs from the confirmed state returns the CB7 to RUN,
the debounce timer having started at the first (R253). -/
def standbySample (e : SwitchNo × Nat) (s : State) : State :=
  let n := e.1
  if !swUsed n s then s
  else
    let r := swRaw n e.2 s
    if r == (s.inp.sw[n]).closed then updSw n (fun x => { x with differ := 0 }) s
    else
      let k := (s.inp.sw[n]).differ + 1
      if k < 2 then updSw n (fun x => { x with differ := k }) s
      else
        let first := s.now - msP (s.fld Ix.IN_SW_CYCLE 16 16)
        leaveStandby (startDebounce n first (updSw n (fun x => { x with raw := r, differ := 0 }) s))

/-- SW_STANDBY_SAMPLE: every used input is sensed (R253). -/
def swStandby (at_ : Nat) (mvs : List (SwitchNo × Nat)) (s0 : State) : State :=
  if s0.pw.pw = .standby then mvs.foldl (fun t e => standbySample e t) (s0.reach at_) else s0

/-- SW_STANDBY_SAMPLE (R253). -/
def execSwStandbySample (at_ : Nat) (mvs : List (SwitchNo × Nat)) (s : State) : Host.Outcome State Fault Refusal :=
  doneFor .pairQuiet s fun s => swStandby at_ mvs s

/-- The first edge of the 32.768 kHz clock at or after an instant; the edges count from PARK entry (R120; assumption log 59). -/
def wakeEdge (from_ t : Nat) : Nat := from_ + ceilDiv (ceilDiv ((t - from_) * 64) 78125 * 78125) 64

/-- A wake source's condition is met in RETAIN or DEEP (R110, R120): the cause is latched at the next sampling edge, a lower code
takes the place of a higher one latched at that edge, and the wake order begins at W1, or W0 from DEEP, which last 0.1 ms and 0.5 ms
before W2 starts (Table 5-6). Other sources that fire later are ignored. -/
def wakeFires (code : Nat) (s : State) : State :=
  let e := wakeEdge s.pw.parkAt s.now
  let takes : Bool := match s.pw.cause with | some c => decide (code < c) && s.pw.wakeAt == e | none => true
  if (s.pw.pw = .retain ∨ s.pw.pw = .deep) ∧ s.pw.armed.contains code ∧ takes then
    { s with pw := { s.pw with cause := some code, wakeAt := e,
                               waking := some { wstep := if s.pw.pw = .deep then 0 else 1, fails := 0,
                                                from_ := e + usP (if s.pw.pw = .deep then 600 else 100),
                                                backoff := s.num Ix.PWR_WAKE_BACKOFF, waiting := none } } }
  else s

/-- One sample of a masked input in RETAIN: the second in a row with a change of the kind PARK_EDGE selects fires source 2
(R254). -/
def parkSample (e : SwitchNo × Nat) (s : State) : State :=
  let n := e.1
  if !(swUsed n s && s.flag Ix.IN_SW_PARK_MASK n.val) then s
  else
    let r := swRaw n e.2 s
    let was := nbits s.inp.reference n.val 1 == 1
    let s1 := updSw n (fun x => { x with raw := r, differ := if r != was && parkEdge n r s then x.differ + 1 else 0 }) s
    let s2 := if 2 ≤ (s1.inp.sw[n]).differ then wakeFires 2 s1 else s1
    if s2.pw.cause == some 2 && s.pw.cause != some 2 then { s2 with inp := { s2.inp with wake := n.val } } else s2

/-- PARK_SWITCH_SAMPLE (R254). -/
def parkSwitches (at_ : Nat) (mvs : List (SwitchNo × Nat)) (s0 : State) : State :=
  if s0.pw.pw = .retain then mvs.foldl (fun t e => parkSample e t) (s0.reach at_) else s0

/-- PARK_SWITCH_SAMPLE (R254). -/
def execParkSwitchSample (at_ : Nat) (mvs : List (SwitchNo × Nat)) (s : State) : Host.Outcome State Fault Refusal :=
  doneFor .always s fun s => parkSwitches at_ mvs s

/-- The supply band changed: in CRANK the signals are stale; afterwards every input is debounced afresh (R257). -/
def switchBand (s : State) : State :=
  if s.band = .crank then
    (List.finRange 32).foldl (fun t n => staleSource 1 n.val true (updSw n (fun x => { x with since := none }) t)) s
  else
    (List.finRange 32).foldl (fun t n =>
      let t1 := staleSource 1 n.val false t
      if swUsed n t1 then startDebounce n t1.now t1 else t1) s

/-! ## Analogue inputs and sensor supplies (R258–R260) -/

/-- The value of an analogue input as FIX and its full scale (Table 11-2): `mv` is the voltage at the input. -/
def analogValue (n : Fin 8) (mv : Int) (s : State) : Int × Int :=
  let v := Int.toNat mv
  let ratio := fun k => let r := s.fld Ix.IN_SSUP_VOLT (16 * k) 16; if r = 0 then 0 else v * 65536 / r
  let res := fun (pull top : Nat) => if 5000 ≤ v then top * 65536 else Nat.min (top * 65536) (pull * v * 65536 / (5000 - v))
  match s.fld (Ix.IN_AN_CFG n.val) 0 3 with
  | 1 => (Nat.min (v * 65536 / 1000) 360448, 360448)
  | 2 => (Nat.min (v * 65536 / 1000) 2097152, 2097152)
  | 3 => (Nat.min (ratio 0) 65536, 65536)
  | 4 => (Nat.min (ratio 1) 65536, 65536)
  | 5 => (res 1000 5000, 5000 * 65536)
  | 6 => (res 10000 32000, 32000 * 65536)
  | _ => (0, 65536)

/-- Whether a ratio mode's supply is not OK (R259). -/
def ratioBad (n : Fin 8) (s : State) : Bool :=
  match s.fld (Ix.IN_AN_CFG n.val) 0 3 with
  | 3 => ssupStatus 0 s != .ok
  | 4 => ssupStatus 1 s != .ok
  | _ => false

/-- MODE of an analogue input selects a measurement (R258). -/
def anUsed (n : Fin 8) (s : State) : Bool := s.fld (Ix.IN_AN_CFG n.val) 0 3 != 0 && s.fld (Ix.IN_AN_CFG n.val) 0 3 != 7

/-- The conversion list of an analogue input (assumption log 24). -/
def anList (n : Fin 8) : Nat := 46 + n.val

/-- The service samples a used input every PERIOD on FREE from pool 5 (R259). -/
def ensureAn (n : Fin 8) (s : State) : State :=
  if !anUsed n s then endSeries (anList n) s
  else if (seriesOf (anList n) s).isSome then s
  else startSeries (anList n) 0 (freeSeries (anList n) (msP (s.fld (Ix.IN_AN_CFG n.val) 4 12)) s) s

/-- An input whose samples have waited for a slot for 100 ms is stale until a sample succeeds (11, "When an ADC sample meets
TT_FULL"). -/
def staleWaiting (s : State) : State :=
  forEach (List.finRange 8) (fun n t =>
    if t.tt.waiting.any (fun w => w.by_ == .series (anList n) && decide (w.since + msP 100 ≤ t.now)) then staleSource 2 n.val true t else t) s

/-- One sample of an analogue input: published, with its range judgement (R259). -/
def analogSample (n : Fin 8) (mv : Int) (s : State) : State :=
  let cfg := s.word (Ix.IN_AN_CFG n.val)
  if fld cfg 0 3 = 0 ∨ fld cfg 0 3 = 7 then s
  else
    let (v, fs) := analogValue n mv s
    let lo := decide (v * 100 < fs * fld cfg 16 8)
    let hi := decide (fs * fld cfg 24 8 < v * 100)
    let x := s.inp.an[n]
    let below := if lo then x.below + 1 else 0
    let above := if hi then x.above + 1 else 0
    let inside := if lo || hi then 0 else x.inside + 1
    let range := if x.range then decide (inside < 3) else decide (3 ≤ below + above)
    let y : Analog := { below := Nat.min below 3, above := Nat.min above 3, inside := Nat.min inside 3, range := range, value := ofSInt v }
    let s1 : State := { s with inp := { s.inp with an := s.inp.an.set n y } }
    condFault 0x600 n.val range (publishSource 2 n.val (ofSInt v) (range || ratioBad n s1) s1)

/-- Volts in FIX from mV. -/
def fixVolts (mv : Nat) : Word := toWord (mv * 65536 / 1000)

/-- A supply voltage conversion publishes VBAT and VBATP (Table 11-4); values in 10 mV. -/
def supplySample (vbat vbatp : Nat) (s : State) : State :=
  publishSource 2 11 (fixVolts (vbatp * 10)) false (publishSource 2 10 (fixVolts (vbat * 10)) false
    ((s.putFld Ix.SYS_SUPPLY 0 16 vbat).putNat Ix.SYS_VBATP (vbatp % 65536)))

/-- The ratio inputs follow their supplies' state. -/
def staleRatios (s : State) : State :=
  (List.finRange 8).foldl (fun t n => staleSource 2 n.val ((t.inp.an[n]).range || ratioBad n t) t) s

/-- A supply stays outside 4.85 V to 5.15 V, or at its limit, for 10 ms; or is within range again (R260). -/
def ssupDetect (k : Fin 2) (mv : Nat) (limited : Bool) (s : State) : State :=
  if !ssupOn k s then s
  else
    let st : Ssup := if limited then .short else if mv < 4850 ∨ 5150 < mv then .outOfRange else .ok
    let shorts := if st == .short then s.inp.shortAt.set k s.now else s.inp.shortAt
    let s1 : State := { s with inp := { s.inp with ssup := s.inp.ssup.set k st, shortAt := shorts } }
    let s2 := publishSource 2 (8 + k.val) (fixVolts mv) false (s1.putFld Ix.IN_SSUP_VOLT (16 * k.val) 16 mv)
    condFault 0x601 k.val (st != .ok) (staleRatios s2)

/-- SSUP_FAULT_DETECT (R260). -/
def execSsupFaultDetect (k : Fin 2) (mv : Nat) (limited : Bool) (s : State) : Host.Outcome State Fault Refusal :=
  doneFor .pairAwake s fun s => ssupDetect k mv limited s

/-- A shorted supply is switched on again 1 s after it was switched off (R260). -/
def ssupRetry (k : Fin 2) (s0 : State) : State :=
  if s0.inp.ssup[k] = .short then
    let s := s0.reach (s0.inp.shortAt[k] + secP 1)
    condFault 0x601 k.val false (staleRatios { s with inp := { s.inp with ssup := s.inp.ssup.set k .ok } })
  else s0

/-- SSUP_RETRY (R260). -/
def execSsupRetry (k : Fin 2) (s : State) : Host.Outcome State Fault Refusal := doneFor .pairAwake s fun s => ssupRetry k s

/-! ## Frequency inputs and the stator tap (R261–R266, R594) -/

/-- A frequency input changed. -/
def updFq (f : Fin 4) (g : Freq → Freq) (s : State) : State :=
  { s with inp := { s.inp with fq := s.inp.fq.set f (g s.inp.fq[f]) } }

/-- TEETH. -/
def fqTeeth (f : Fin 4) (s : State) : Nat := Nat.max 1 (s.fld (Ix.IN_FQ_CFG f.val) 4 8)
/-- MISSING. -/
def fqMissing (f : Fin 4) (s : State) : Nat := s.fld (Ix.IN_FQ_CFG f.val) 12 2

/-- The input is its use's source. -/
def isSource (f : Fin 4) (s : State) : Bool := fqUse f s != 0 && fqSource (fqUse f s) s == some f

/-- A frequency in Hz, FIX, of an interval in base periods. -/
def hzFix (iv : Nat) : Nat := 40000000 * 65536 / Nat.max 1 iv

/-- Crank speed in r/min, FIX (R264). -/
def crankFix (iv n : Nat) : Nat := 60 * 40000000 * 65536 / (Nat.max 1 iv * n)

/-- Wheel speed in km/h, FIX, of a circumference in mm (R264). -/
def wheelFix (circ iv n : Nat) : Nat := circ * 144000 * 65536 / (n * Nat.max 1 iv)

/-- The speed of a source input at an interval. -/
def fqSpeed (f : Fin 4) (iv : Nat) (s : State) : Nat :=
  match fqUse f s with
  | 1 => crankFix iv (fqTeeth f s)
  | 2 => wheelFix (s.fld Ix.IN_WHEEL 0 16) iv (fqTeeth f s)
  | 3 => wheelFix (s.fld Ix.IN_WHEEL 16 16) iv (fqTeeth f s)
  | _ => 0

/-- FIX saturates at its largest value. -/
def fixSat (n : Nat) : Word := toWord (Nat.min n 0x7FFFFFFF)

/-- The signal index of a source's speed (Table 11-4). -/
def speedIndex (use : Nat) : Nat := if use = 1 then 1 else use

/-- Publish a source's speed; crank speed is also what other services read. -/
def publishSpeed (f : Fin 4) (v : Word) (s : State) : State :=
  let use := fqUse f s
  let s1 := updFq f (fun x => { x with speed := v }) s
  let s2 : State := if use = 1 then { s1 with inp := { s1.inp with crank := v } } else s1
  publishSource 3 (speedIndex use) v ((s.inp.fq[f]).open_ || (s.inp.fq[f]).range) s2

/-- Publish the edge frequency. -/
def publishFreq (f : Fin 4) (iv : Nat) (s : State) : State :=
  let s1 := updFq f (fun x => { x with freq := fixSat (hzFix iv) }) s
  publishSource 3 (4 + f.val) (fixSat (hzFix iv)) ((s.inp.fq[f]).open_ || (s.inp.fq[f]).range) (s1.putNat (Ix.IN_FQ_FREQ f.val) (Nat.min (4000000000 / Nat.max 1 iv) 0xFFFFFFFF))

/-- The mark of tooth `k` of a CRK input (R262). -/
def crkMark (f : Fin 4) (k : Nat) (rate : Option Rat) (s : State) : State :=
  let n := fqTeeth f s
  let m := fqMissing f s
  let nx := if k + 1 < n - m then toothAngle (k + 1) n else 65536
  sourceMark 2 { angle := (s.fld (Ix.IN_FQ_CFG f.val) 16 16 + toothAngle k n) % 65536, ref := k == 0,
                 next := nx - toothAngle k n, rate := rate } s

/-- An accepted edge of the CRK source: gap, sync and marks (R262). `prev` is the interval before this one. -/
def crkEdge (f : Fin 4) (iv prev : Option Nat) (s : State) : State :=
  let x := s.inp.fq[f]
  let n := fqTeeth f s
  let m := fqMissing f s
  let gap := match iv, prev with | some a, some p => decide ((m + 2) * p < 2 * a) | _, _ => false
  if !x.sync then
    if gap then
      let r : Option Rat := prev.map fun p => (65536 : Rat) / ((n * p : Nat) : Rat)
      crkMark f 0 r (updFq f (fun x => { x with sync := true, tooth := 0 }) s)
    else s
  else if gap = decide (x.tooth + 1 = n - m) then
    if gap then
      let r : Option Rat := prev.map fun p => (65536 : Rat) / ((n * p : Nat) : Rat)
      crkMark f 0 r (updFq f (fun x => { x with tooth := 0 }) s)
    else crkMark f (x.tooth + 1) none (updFq f (fun x => { x with tooth := x.tooth + 1 }) s)
  else report 0x603 f.val (updFq f (fun x => { x with sync := false }) s)

/-- An accepted edge of a wheel source (R263). -/
def wheelEdge (f : Fin 4) (s : State) : State := wheelMark (fqUse f s + 1) (fqTeeth f s) s

/-- An accepted frequency edge (R261–R264, R594). -/
def fqEdge (f : Fin 4) (at_ : Nat) (s0 : State) : State :=
  let s := s0.reach at_
  let x := s.inp.fq[f]
  let ok := match x.lastEdge with | some t => decide (t + usP 20 ≤ s.now) | none => true
  if fqMode f s = 0 ∨ !ok then s0
  else
    let iv := x.lastEdge.map fun t => s.now - t
    let s1 := updFq f (fun x => { x with lastEdge := some s.now, interval := iv }) s
    let s2 := match iv with | some i => publishFreq f i s1 | none => s1
    if !isSource f s2 then s2
    else
      let m := fqMissing f s2
      let isGap := match iv, x.interval with | some a, some p => fqUse f s2 == 1 && decide ((m + 2) * p < 2 * a) | _, _ => false
      let s3 := match iv with
        | some i => publishSpeed f (fixSat (fqSpeed f (if isGap then i / (m + 1) else i) s2)) s2
        | none => s2
      if x.open_ || x.range then s3
      else if fqUse f s3 = 1 then crkEdge f iv x.interval s3 else wheelEdge f s3

/-- FQ_EDGE (R261). -/
def execFqEdge (f : Fin 4) (at_ : Nat) (s : State) : Host.Outcome State Fault Refusal :=
  doneFor .pairAwake s fun s => fqEdge f at_ s

/-- A diagnosis of a frequency input, or its end (R261): open in mode VR, the current range in mode HALL_I (Table 11-3). -/
def fqDiag (f : Fin 4) (open_ current : Bool) (s : State) : State :=
  let isOpen := open_ && fqMode f s == 1
  let range := current && fqMode f s == 3
  let bad := isOpen || range
  let s1 := updFq f (fun x => { x with open_ := isOpen, range := range, sync := x.sync && !bad }) s
  let s2 := staleSource 3 (4 + f.val) bad s1
  let s3 := if isSource f s2 then staleSource 3 (speedIndex (fqUse f s2)) bad s2 else s2
  condFault 0x602 f.val bad s3

/-- FQ_DIAG_FAULT (R261). -/
def execFqDiagFault (f : Fin 4) (isOpen range : Bool) (s : State) : Host.Outcome State Fault Refusal :=
  doneFor .pairAwake s fun s => fqDiag f isOpen range s

/-- The lower of a published value and the one that the time elapsed would give; 0 after the timeout (R264). -/
def decayed (last : Word) (elapsed now_ : Nat) (s : State) : Word :=
  if fqTimeoutP s ≤ elapsed then 0 else if now_ < last.toNat then fixSat now_ else last

/-- A frequency input is evaluated again while no edge arrives (R264). -/
def fqReeval (f : Fin 4) (s : State) : State :=
  let x := s.inp.fq[f]
  match x.lastEdge with
  | none => s
  | some t =>
    let e := s.now - t
    let v := decayed x.freq e (hzFix e) s
    let s1 := publishSource 3 (4 + f.val) v (x.open_ || x.range) (updFq f (fun x => { x with freq := v }) s)
    let s2 := s1.putNat (Ix.IN_FQ_FREQ f.val) (v.toNat * 100 / 65536)
    if isSource f s2 then
      let sp := decayed x.speed e (fqSpeed f e s2) s2
      let s3 := publishSpeed f sp s2
      staleSource 3 (speedIndex (fqUse f s3)) (x.open_ || x.range) s3
    else s2


/-- The tap's frequency, and the crank speed where no CRK input is configured (R265). -/
def publishAlt (v : Word) (s : State) : State :=
  let s1 := publishSource 3 0 v false { s with inp := { s.inp with alt := { s.inp.alt with freq := v } } }
  if (fqSource 1 s1).isNone then
    let c := fixSat (v.toNat * 60 / Nat.max 1 (altCycles s1))
    publishSource 3 1 c false { s1 with inp := { s1.inp with crank := c } }
  else s1

/-- SPEED_REEVALUATION: inputs 0 to 3 are FQ0–FQ3, 4 the stator tap (R264; assumption log 16). -/
def speedReeval (f : Fin 5) (at_ : Nat) (s0 : State) : State :=
  let s := s0.reach at_
  if h : f.val < 4 then fqReeval ⟨f.val, h⟩ s
  else match s.inp.alt.lastCross with
    | none => s
    | some t => publishAlt (decayed s.inp.alt.freq (s.now - t) (hzFix (s.now - t)) s) s

/-- SPEED_REEVALUATION (R264). -/
def execSpeedReevaluation (f : Fin 5) (at_ : Nat) (s : State) : Host.Outcome State Fault Refusal :=
  doneFor .pairAwake s fun s => speedReeval f at_ s

/-- A rising zero crossing of the stator tap; `peak` is the peak of the cycle that ends, in 0.1 V (R265). -/
def altCrossing (at_ peak : Nat) (s0 : State) : State :=
  let s := s0.reach at_
  let a := s.inp.alt
  let early := match a.lastCross, a.cycle with | some t, some c => decide (4 * (s.now - t) < c) | _, _ => false
  if altCycles s == 0 || early then s0
  else
    let cyc := a.lastCross.map fun t => s.now - t
    let on := decide (s.fld Ix.IN_ALT_CFG 8 8 < peak)
    let s1 : State := { s with inp := { s.inp with alt := { a with lastCross := some s.now, cycle := cyc, amp := peak, marks := on } } }
    if on then
      let s2 := match cyc with | some c => publishAlt (fixSat (hzFix c)) s1 | none => s1
      sourceMark 1 { angle := 0, ref := true, next := 65536, rate := none } s2
    else s1

/-- ALT_ZERO_CROSSING (R265). -/
def execAltZeroCrossing (at_ peak : Nat) (s : State) : Host.Outcome State Fault Refusal :=
  doneFor .pairAwake s fun s => altCrossing at_ peak s

/-! ## The IMU (R268–R274) -/

/-- Rotate (a, b) by an angle in 0.01°. -/
def rot2 (deg : Int) (p : Rat × Rat) : Rat × Rat :=
  (p.1 * Config.cosine deg - p.2 * Config.sine deg, p.1 * Config.sine deg + p.2 * Config.cosine deg)

/-- Rotation about x, y and z. -/
def rotX (deg : Int) (v : Rat × Rat × Rat) : Rat × Rat × Rat := let r := rot2 deg (v.2.1, v.2.2); (v.1, r.1, r.2)
/-- Rotation about y. -/
def rotY (deg : Int) (v : Rat × Rat × Rat) : Rat × Rat × Rat := let r := rot2 deg (v.2.2, v.1); (r.2, v.2.1, r.1)
/-- Rotation about z. -/
def rotZ (deg : Int) (v : Rat × Rat × Rat) : Rat × Rat × Rat := let r := rot2 deg (v.1, v.2.1); (r.1, r.2, v.2.2)

/-- The mounting angles in 0.01°: `IMU_MOUNT` and the level corrections (R268, R274). -/
def mountAngles (s : State) : Int × Int × Int :=
  (signed (s.fld Ix.IMU_MOUNT 0 10) 10 * 100 + s.imu.level.1, signed (s.fld Ix.IMU_MOUNT 10 10) 10 * 100 + s.imu.level.2,
   signed (s.fld Ix.IMU_MOUNT 20 10) 10 * 100)

/-- The steering angle in 0.01°, 0 without a signal. -/
def steerAngle (s : State) : Int :=
  let n := s.fld Ix.IMU_STEER 0 11
  if n = 0x7FF then 0 else ((sigValue n s).toInt * 100) / 65536

/-- A vector in vehicle axes (R268): yaw, pitch, roll of the mounting, then minus the steering angle about the axis tilted back by
RAKE. -/
def toVehicle (v : Int × Int × Int) (s : State) : Rat × Rat × Rat :=
  let m := mountAngles s
  let a := rotX m.1 (rotY m.2.1 (rotZ m.2.2 ((v.1 : Rat), (v.2.1 : Rat), (v.2.2 : Rat))))
  let rake : Int := s.fld Ix.IMU_STEER 16 8 * 100
  if s.fld Ix.IMU_STEER 0 11 = 0x7FF then a else rotY (-rake) (rotZ (-(steerAngle s)) (rotY rake a))

/-- The speed of SPEED_SRC in km/h, FIX; none without a source (R270). -/
def leanSpeed (s : State) : Option Nat :=
  let use := s.fld Ix.IMU_LEAN_CFG 0 2 + 1
  if use = 2 ∨ use = 3 then (fqSource use s).map fun f => (s.inp.fq[f]).speed.toNat else none

/-- The lean reference in 0.01° (R270). -/
def leanReference (acc rate : Rat × Rat × Rat) (s : State) : Int :=
  let gravity := Config.arctan acc.2.1 acc.2.2
  match leanSpeed s with
  | some v =>
    if 10 * 65536 ≤ v then
      let w := rate.2.2
      let mag := if w < 0 then -w else w
      let a := Config.arctan (((v : Rat) / 65536 / 36 * 10) * (mag / 100 * 314159 / 18000000)) (981 / 100)
      if 0 < w then -a else a
    else gravity
  | none => gravity

/-- One step of a complementary filter over 5 ms in 0.00001°: a rate in 0.01 °/s, a reference in 0.01° (R270). -/
def pulled (x : Int) (rate : Rat) (ref : Int) (s : State) : Int :=
  let tau : Int := Nat.max 1 (s.fld Ix.IMU_LEAN_CFG 8 8)
  x + (rate * 5).floor + (ref * 1000 - x) * 5 / (tau * 100)

/-- Since when a condition holds: kept while it does. -/
def sinceWhen (c : Bool) (t : Option Nat) (now_ : Nat) : Option Nat := if c then (match t with | some u => some u | none => some now_) else none

/-- A condition has held for a dwell. -/
def heldFor (t : Option Nat) (dwell now_ : Nat) : Bool := match t with | some u => decide (u + dwell ≤ now_) | none => false

/-- Tamper from the angle to the reference (R271). -/
def judgeTamper (gravity : Int × Int × Int) (s : State) : State :=
  match s.imu.ref with
  | none => s
  | some r =>
    let a := Config.angleBetween gravity r
    let tilt := s.fld Ix.IMU_TAMPER 0 8 * 50
    let hys := s.fld Ix.IMU_TAMPER 8 8 * 50
    let dwell := msP (s.fld Ix.IMU_TAMPER 16 16)
    let hi := sinceWhen (decide (tilt < a)) s.imu.tiltHi s.now
    let lo := sinceWhen (decide (a + hys < tilt)) s.imu.tiltLo s.now
    let t := if heldFor hi dwell s.now then true else if heldFor lo dwell s.now then false else s.imu.tamper
    { s with imu := { s.imu with tiltHi := hi, tiltLo := lo, tamper := t } }

/-- Fall from the lean (R272). -/
def judgeFall (s : State) : State :=
  let a := s.imu.lean.natAbs
  let dwell := msP (100 * s.fld Ix.IMU_FALL 24 8)
  let hi := sinceWhen (decide (s.fld Ix.IMU_FALL 0 8 * 100000 < a)) s.imu.fallHi s.now
  let lo := sinceWhen (decide (a < s.fld Ix.IMU_FALL 8 8 * 100000)) s.imu.fallLo s.now
  let f := if heldFor hi dwell s.now then true else if heldFor lo dwell s.now then false else s.imu.fall
  { s with imu := { s.imu with fallHi := hi, fallLo := lo, fall := f } }

/-- A rational as FIX. -/
def ratFix (q : Rat) : Word := ofSInt (clampInt minNum maxNum (q * 65536).floor)

/-- Publish the truth results (Table 11-4). -/
def publishImuFlags (s : State) : State :=
  [s.imu.moving, s.imu.tamper, s.imu.fall, s.imu.impact].zipIdx.foldl (fun t p =>
    publishSource 4 p.2 (toWord (b2n p.1)) (t.imu.fail || !t.imu.seen) t) s

/-- IMU_PUBLISH: results every 5 ms (R268, R270–R272). -/
def imuPublish (m : ImuSample) (s0 : State) : State :=
  let s := s0.reach m.at_
  let z := s.imu.zero
  let acc := toVehicle m.acc s
  let rate := toVehicle (m.gyro.1 - z.1, m.gyro.2.1 - z.2.1, m.gyro.2.2 - z.2.2) s
  let lean := pulled s.imu.lean rate.1 (leanReference acc rate s) s
  let pitch := pulled s.imu.pitch (-rate.2.1) (Config.arctan acc.1 acc.2.2) s
  let impact := s.imu.impact || decide (s.fld Ix.IMU_FALL 16 8 * 100 < m.least)
  let s1 : State := { s with imu := { s.imu with lean := lean, pitch := pitch, impact := impact, seen := true } }
  let s2 := publishImuFlags (judgeFall (judgeTamper m.acc s1))
  let stale := s2.imu.fail
  let vals : List Word := [ratFix ((lean : Rat) / 100000), ratFix ((pitch : Rat) / 100000), ratFix (acc.1 / 1000),
    ratFix (acc.2.1 / 1000), ratFix (acc.2.2 / 1000), ratFix (rate.1 / 100), ratFix (rate.2.1 / 100), ratFix (rate.2.2 / 100)]
  vals.zipIdx.foldl (fun t p => publishSource 4 (4 + p.2) p.1 stale t) s2

/-- IMU_PUBLISH (R268). -/
def execImuPublish (m : ImuSample) (s : State) : Host.Outcome State Fault Refusal := doneFor .pairAwake s fun s => imuPublish m s

/-- Moving at a window end: A in 0.001 g and G in 0.01 °/s (R269). -/
def judgeMoving (accel gyro : Nat) (s : State) : State :=
  let up := decide (s.fld Ix.IMU_MOVE 0 8 * 10 < accel) || decide (s.fld Ix.IMU_MOVE 16 8 * 10 < gyro)
  let dn := decide (accel < s.fld Ix.IMU_MOVE 8 8 * 10) && decide (gyro < s.fld Ix.IMU_MOVE 24 8 * 10)
  let hi := sinceWhen up s.imu.moveHi s.now
  let lo := sinceWhen dn s.imu.moveLo s.now
  let m := if heldFor hi (msP (s.fld Ix.IMU_DWELL 0 16)) s.now then true
    else if heldFor lo (msP (s.fld Ix.IMU_DWELL 16 16)) s.now then false else s.imu.moving
  { s with imu := { s.imu with moveHi := hi, moveLo := lo, moving := m, stillAt := if s.imu.moving && !m then s.now else s.imu.stillAt } }

/-- IMU_ACTIVITY_WINDOW (R269). -/
def activityWindow (at_ accel gyro : Nat) (s : State) : State := publishImuFlags (judgeMoving accel gyro (s.reach at_))

/-- IMU_ACTIVITY_WINDOW (R269). -/
def execImuActivityWindow (at_ accel gyro : Nat) (s : State) : Host.Outcome State Fault Refusal :=
  doneFor .pairAwake s fun s => activityWindow at_ accel gyro s

/-- The tamper reference is captured once in each WATCH, when moving has been false for the still dwell (R271). -/
def captureRef (at_ : Nat) (gravity : Int × Int × Int) (s0 : State) : State :=
  let s := s0.reach at_
  let still := !s.imu.moving && decide (s.imu.stillAt + msP (s.fld Ix.IMU_DWELL 16 16) ≤ s.now)
  if s.modes.mode == .watch && still && s.imu.ref.isNone then { s with imu := { s.imu with ref := some gravity, tiltHi := none, tiltLo := none } }
  else s

/-- TAMPER_REFERENCE_CAPTURE (R271). -/
def execTamperReferenceCapture (at_ : Nat) (gravity : Int × Int × Int) (s : State) : Host.Outcome State Fault Refusal :=
  doneFor .pairAwake s fun s => captureRef at_ gravity s

/-- IMU_STANDBY_EVAL: moving and tamper at 25 Hz; a change of either returns the CB7 to RUN (R271). -/
def imuStandby (at_ accel gyro : Nat) (gravity : Int × Int × Int) (s0 : State) : State :=
  if s0.pw.pw = .standby then
    let s := s0.reach at_
    let t := judgeTamper gravity (judgeMoving accel gyro s)
    if t.imu.moving != s.imu.moving || t.imu.tamper != s.imu.tamper then publishImuFlags (leaveStandby t) else t
  else s0

/-- IMU_STANDBY_EVAL (R271). -/
def execImuStandbyEval (at_ accel gyro : Nat) (gravity : Int × Int × Int) (s : State) : Host.Outcome State Fault Refusal :=
  doneFor .pairQuiet s fun s => imuStandby at_ accel gyro gravity s

/-- A gyro zero attempt starts (R273). -/
def startZero (commanded : Bool) (s : State) : State :=
  { s with imu := { s.imu with attempt := some s.now, commanded := commanded, cmd := if commanded then .running else s.imu.cmd } }

/-- A gyro zero attempt succeeds within 60 s (R273): the conditions on the wheels and the crank and their 10 s are the model's to
judge, those on the gyro the command's. -/
def zeroSuccess (at_ : Nat) (mean : Int × Int × Int) (s0 : State) : State :=
  let s := s0.reach at_
  match s.imu.attempt with
  | none => s
  | some t =>
    if wheelsSlow s && !crankRotates s && dwellOver s.dwell.resting t (secP 10) s && decide (s.now ≤ t + secP 60) then
      condFault 0x605 0 false
        { s with imu := { s.imu with zero := mean, attempt := none, zeroValid := true, calDeferred := false, calRun := 0,
                                     cmd := if s.imu.commanded then .done else s.imu.cmd, commanded := false } }
    else s

/-- GYRO_ZERO_SUCCESS (R273). -/
def execGyroZeroSuccess (at_ : Nat) (mean : Int × Int × Int) (s : State) : Host.Outcome State Fault Refusal :=
  doneFor .pairAwake s fun s => zeroSuccess at_ mean s

/-- An attempt without success within 60 s is deferred (R273). -/
def zeroTimeout (s0 : State) : State :=
  match s0.imu.attempt with
  | none => s0
  | some t =>
    let s := s0.reach (t + secP 60)
    let n := s.imu.calRun + 1
    let s1 : State :=
      { s with imu := { s.imu with attempt := none, calDeferred := true, calRun := n,
                                   cmd := if s.imu.commanded then .deferred else s.imu.cmd, commanded := false } }
    if 3 ≤ n then condFault 0x605 0 true s1 else s1

/-- GYRO_ZERO_TIMEOUT (R273). -/
def execGyroZeroTimeout (s : State) : Host.Outcome State Fault Refusal := doneFor .pairAwake s fun s => zeroTimeout s

/-- The level command (R274): gravity averaged over 2 s in sensor axes; `held` says that R84 held and moving was false
throughout. -/
def calLevel (gravity : Int × Int × Int) (held : Bool) (s0 : State) : State :=
  let s := s0.reach (s0.now + secP 2)
  if held && stationary s0 && !s0.imu.moving then
    let v := toVehicle gravity s
    let l := s.imu.level
    { s with imu := { s.imu with cmd := .done, level := (l.1 - Config.arctan v.2.1 v.2.2, l.2 + Config.arctan v.1 v.2.2) } }
  else { s with imu := { s.imu with cmd := .deferred } }

/-- Impact ends when a 1 is written to `IMU_CLEAR`[3] (R272). -/
def imuClear (v : Word) (s : State) : State :=
  if bit v 3 then publishImuFlags { s with imu := { s.imu with impact := false } } else s

/-- A start: moving has been false from there on, and a zero attempt begins (R271, R273). -/
def imuStart (s : State) : State := startZero false { s with imu := { s.imu with stillAt := s.now } }

/-- A switch input that is not in use reads 0 (R251, R256). -/
def quietSwitches (s : State) : State :=
  forEach (List.finRange 32) (fun n t =>
    if swUsed n t || !(t.inp.sw[n]).closed then t
    else publishSource 1 n.val 0 false (updSw n (fun x => { x with raw := false, closed := false, since := none, differ := 0 }) t)) s

/-- Entry to WATCH: a zero attempt, and a tamper reference to come (R271, R273). -/
def imuEnterWatch (s : State) : State := startZero false { s with imu := { s.imu with ref := none } }

/-- On leaving WATCH tamper is false and the reference released (R271). -/
def imuLeaveWatch (s : State) : State :=
  publishImuFlags { s with imu := { s.imu with ref := none, tamper := false, tiltHi := none, tiltLo := none } }

end Sys2Proof.Machine
end

