-- ==== Sys2Proof/Machine/Touch.lean ====
section
/-!
DEFINITION. Capacitive touch (12_touch.md): frames, touch, glove and water, baselines, calibration, self-tests and the park
wake gesture.
-/
namespace Sys2Proof.Machine

/-- An electrode changed. -/
def updEl (e : Fin 16) (f : Electrode → Electrode) (s : State) : State :=
  { s with tch := { s.tch with el := s.tch.el.set e (f s.tch.el[e]) } }

/-- MODE of an electrode: 0 OFF, 1 SENSE, 2 DRIVE, 3 GUARD (R277). -/
def elMode (e : Fin 16) (s : State) : Nat := s.fld (Ix.TCH_EL_CFG e.val) 0 2

/-- The group has a DRIVE electrode. -/
def tchDrive (g : Fin 8) (s : State) : Bool := s.flag (Ix.TCH_G_CFG g.val) 20

/-- Self levels in counts: TOUCH upper and lower, GLOVE upper and lower (Table 12-6). -/
def selfLevel (g : Fin 8) (k : Nat) (s : State) : Int := (s.fld (Ix.TCH_G_SELF g.val) (8 * k) 8 * 4 : Nat)
/-- Mutual levels in counts: MUT upper and lower, MUT_GLOVE upper and lower. -/
def mutLevel (g : Fin 8) (k : Nat) (s : State) : Int := (s.fld (Ix.TCH_G_MUT g.val) (8 * k) 8 * 4 : Nat)
/-- Glove is disabled on a group (GLOVE upper 0). -/
def gloveOff (g : Fin 8) (s : State) : Bool := selfLevel g 2 s == 0

/-- Ds and Dm of an electrode (R280). -/
def dSelf (x : Electrode) : Int := (x.rawSelf : Int) - x.baseSelf
/-- Dm. -/
def dMut (x : Electrode) : Int := (x.baseMut : Int) - x.rawMut

/-- Dwells of `TCH_G_TIME_g`: TOUCH, RELEASE, GLOVE in frames. -/
def tchDwell (g : Fin 8) (k : Nat) (s : State) : Nat := s.fld (Ix.TCH_G_TIME g.val) (4 * k) 4

/-! ## Conversions (R282) -/

/-- Insert a number in an ascending list. -/
def insertNat (x : Nat) : List Nat → List Nat
  | [] => [x]
  | y :: t => if x ≤ y then x :: y :: t else y :: insertNat x t

/-- A list in ascending order. -/
def sortNat : List Nat → List Nat
  | [] => []
  | x :: t => insertNat x (sortNat t)

/-- The mean of the middle two of four sub-conversions. -/
def middleMean (xs : List Nat) : Nat := let ys := sortNat xs; (ys.getD 1 0 + ys.getD 2 0) / 2

/-- The sub-conversions differ by strictly more than NOISE_MAX. -/
def isNoisy (xs : List Nat) (s : State) : Bool :=
  let ys := sortNat xs
  decide (s.fld Ix.TCH_SCAN 16 8 < ys.getLastD 0 - ys.headD 0)

/-- Latch the raw counts of a frame. -/
def latchRaw (m : TouchFrame) (s : State) : State :=
  (m.convs.filter fun c => elMode c.1 s == 1).foldl (fun t c =>
    updEl c.1 (fun x => { x with rawSelf := middleMean c.2.1, rawMut := middleMean c.2.2 }) t) s

/-- A group has a noisy conversion in the frame. -/
def groupNoisy (m : TouchFrame) (g : Fin 8) (s : State) : Bool :=
  m.convs.any fun c => nbits (tchMask g s) c.1.val 1 == 1 && (isNoisy c.2.1 s || (tchDrive g s && isNoisy c.2.2 s))

/-! ## Touch, glove and water (R283–R287) -/

/-- The levels of the present mode: self upper and lower, mutual upper and lower. -/
def levelsNow (g : Fin 8) (s : State) : Int × Int × Int × Int :=
  if (s.tch.gr[g]).glove then (selfLevel g 2 s, selfLevel g 3 s, mutLevel g 2 s, mutLevel g 3 s)
  else (selfLevel g 0 s, selfLevel g 1 s, mutLevel g 0 s, mutLevel g 1 s)

/-- One electrode's dwells and state in a frame (R283, R284, R286). -/
def judgeEl (g : Fin 8) (s : State) (x : Electrode) : Electrode :=
  let l := levelsNow g s
  let dr := tchDrive g s
  let up := if l.1 < dSelf x ∧ (!dr ∨ l.2.2.1 < dMut x) then x.up + 1 else 0
  let dn := if dSelf x < l.2.1 ∨ (dr ∧ dMut x < l.2.2.2) then x.down + 1 else 0
  let gl := if selfLevel g 2 s < dSelf x ∧ dSelf x ≤ selfLevel g 0 s ∧ mutLevel g 2 s < dMut x then x.gloveUp + 1 else 0
  { x with up := up, down := dn, gloveUp := gl,
           touched := if tchDwell g 0 s ≤ up then true else if tchDwell g 1 s ≤ dn then false else x.touched }

/-- A water candidate (R285). -/
def wetCandidate (g : Fin 8) (s : State) (x : Electrode) : Bool :=
  decide ((levelsNow g s).2.1 < dSelf x) && decide (dMut x < signed (s.fld (Ix.TCH_G_WATER g.val) 0 8) 8 * 4)

/-- Electrodes of a group with their dwells fresh. -/
def freshDwells (g : Fin 8) (s : State) : State :=
  (tchEls g s).foldl (fun t e => updEl e (fun x => { x with up := 0, down := 0, gloveUp := 0 }) t) s

/-- The water flag in a frame (R285, R286). -/
def judgeWater (g : Fin 8) (s : State) : State :=
  if !tchDrive g s then s
  else
    let any_ := (tchEls g s).any fun e => wetCandidate g s s.tch.el[e]
    let d := s.fld (Ix.TCH_G_WATER g.val) 8 4
    updGroup g (fun x =>
      let wet := if any_ then x.wetRun + 1 else 0
      let dry := if any_ then 0 else x.dryRun + 1
      { x with wetRun := wet, dryRun := dry, water := if d ≤ wet then true else if d ≤ dry then false else x.water }) s

/-- A group leaves glove mode: electrodes not touched under the finger levels are released (R284). -/
def leaveGlove (g : Fin 8) (s : State) : State :=
  if (s.tch.gr[g]).glove then
    let s1 := updGroup g (fun x => { x with glove := false }) s
    (tchEls g s1).foldl (fun t e =>
      updEl e (fun x => { x with touched := x.touched && decide (selfLevel g 0 s < dSelf x) && decide (mutLevel g 0 s < dMut x),
                                 up := 0, down := 0, gloveUp := 0 }) t) s1
  else s

/-- Entry to and exit from glove mode in a frame (R284). -/
def judgeGlove (g : Fin 8) (s : State) : State :=
  let x := s.tch.gr[g]
  if x.glove then
    if x.water then leaveGlove g s
    else if (tchEls g s).any fun e => decide (selfLevel g 3 s < dSelf s.tch.el[e]) then updGroup g (fun x => { x with gloveAt := s.now }) s
    else s
  else if !gloveOff g s && tchDrive g s && !x.water && (tchEls g s).any fun e => decide (tchDwell g 2 s ≤ (s.tch.el[e]).gloveUp) then
    freshDwells g (updGroup g (fun x => { x with glove := true, gloveAt := s.now }) s)
  else s

/-- The position of a touched slider (R287). Where a slider holds its touch with every Ds at or below 0 the rule divides by 0 and states
no position: a free value of 0 to 255 (assumption log 63). -/
def sliderPos (g : Fin 8) (s : State) : Option Nat :=
  if s.flag (Ix.TCH_G_CFG g.val) 21 && tchTouched g s then
    let ds := (tchEls g s).map fun e => (dSelf s.tch.el[e]).toNat
    let sum := ds.foldl (· + ·) 0
    let w := (ds.zipIdx.map fun p => p.1 * p.2).foldl (· + ·) 0
    let den := (ds.length - 1) * sum
    if den = 0 then some (s.freeWord.toNat % 256) else some ((2 * 255 * w + den) / (2 * den))
  else none

/-- A STUCK group clears when every electrode has been below the self lower level for RELEASE_DWELL frames (R291). -/
def judgeStuck (g : Fin 8) (s : State) : State :=
  let x := s.tch.gr[g]
  if x.stuck then
    let low := (tchEls g s).all fun e => decide (dSelf s.tch.el[e] < (levelsNow g s).2.1)
    let n := if low then x.stuckRun + 1 else 0
    if tchDwell g 1 s ≤ n then condFault 0x700 g.val false (updGroup g (fun x => { x with stuck := false, stuckRun := 0 }) s)
    else updGroup g (fun x => { x with stuckRun := n }) s
  else s

/-! ## Baselines (R290) -/

/-- One count towards a value. -/
def towards (x y : Nat) : Nat := if x < y then x + 1 else if y < x then x - 1 else x

/-- The level that bounds tracking and calibration: GLOVE lower, or TOUCH lower when glove is disabled. -/
def nearSelf (g : Fin 8) (s : State) : Int := if gloveOff g s then selfLevel g 1 s else selfLevel g 3 s
/-- The mutual counterpart: MUT_GLOVE lower, or MUT lower. -/
def nearMut (g : Fin 8) (s : State) : Int := if gloveOff g s then mutLevel g 1 s else mutLevel g 3 s

/-- Baselines follow raw counts once every TRACK frames (R290). -/
def trackEl (g : Fin 8) (s : State) (x : Electrode) : Electrode :=
  let grp := s.tch.gr[g]
  if x.touched || grp.water || grp.glove || decide (nearSelf g s ≤ (dSelf x).natAbs) then x
  else if x.track + 1 < s.fld (Ix.TCH_G_TIME g.val) 16 8 then { x with track := x.track + 1 }
  else { x with track := 0, baseSelf := towards x.baseSelf x.rawSelf, baseMut := towards x.baseMut x.rawMut }

/-! ## Calibration (R292, R293) -/

/-- Mean of a list. -/
def meanNat (xs : List Nat) : Nat := xs.foldl (· + ·) 0 / Nat.max 1 xs.length

/-- Every value lies within a spread of the mean. -/
def withinSpread (xs : List Nat) (sp : Nat) : Bool :=
  let m := meanNat xs
  xs.all fun x => decide (x ≤ m + sp) && decide (m ≤ x + sp)

/-- The conditions of R292 on one electrode; a commanded attempt skips the reference. -/
def calOk (g : Fin 8) (commanded : Bool) (s : State) (x : Electrode) : Bool :=
  let sp := s.fld Ix.TCH_CAL 0 8 * 4
  let a := x.frames.map (·.1)
  let b := x.frames.map (·.2)
  let near := commanded || !(s.tch.gr[g]).baseline ||
    (decide (((meanNat a : Int) - x.baseSelf).natAbs < nearSelf g s) &&
      (!tchDrive g s || decide (((meanNat b : Int) - x.baseMut).natAbs < nearMut g s)))
  withinSpread a sp && (!tchDrive g s || withinSpread b sp) && near

/-- A commanded attempt of a group ended. -/
def cmdGroupDone (g : Fin 8) (ok : Bool) (s : State) : State :=
  let left := s.tch.cmdLeft &&& (0xFF - 2 ^ g.val)
  let def_ := if ok then s.tch.cmdDeferred else s.tch.cmdDeferred ||| 2 ^ g.val
  let st : CmdSt := if left ≠ 0 then .running else if def_ = 0 then .done else .deferred
  { s with tch := { s.tch with cmdLeft := left, cmdDeferred := def_, cmd := if s.tch.cmd = .running then st else s.tch.cmd } }

/-- The eighth frame of an attempt: success, with metric 6 judged, or deferral (R292, R293, R468). -/
def endAttempt (g : Fin 8) (commanded : Bool) (s : State) : State :=
  let els := tchEls g s
  if !(s.tch.gr[g]).water && els.all fun e => calOk g commanded s s.tch.el[e] then
    let s1 := els.foldl (fun t e => updEl e (fun x =>
      let a := meanNat (x.frames.map (·.1))
      let b := meanNat (x.frames.map (·.2))
      let rec_ := if commanded then some (a, b) else x.record
      { x with baseSelf := a, baseMut := b, frames := [], record := rec_
               drift := match rec_ with | some r => (a : Int) - r.1 | none => 0 }) t) s
    let s2 := updGroup g (fun x => { x with attempt := none, baseline := true, calDeferred := false, calRun := 0, deferredAt := none }) s1
    let s3 := judgeMetrics (condFault 0x704 g.val false s2)
    if commanded then cmdGroupDone g true s3 else s3
  else
    let s1 := els.foldl (fun t e => updEl e (fun x => { x with frames := [] }) t) s
    if commanded then cmdGroupDone g false (updGroup g (fun x => { x with attempt := none }) s1)
    else
      let n := (s.tch.gr[g]).calRun + 1
      let s2 := updGroup g (fun x => { x with attempt := none, calDeferred := true, calRun := n, deferredAt := some s.now }) s1
      if 3 ≤ n then condFault 0x704 g.val true s2 else s2

/-- Gather a frame into a running attempt; a noisy frame restarts its count (R292). -/
def gatherCal (g : Fin 8) (noisy : Bool) (s : State) : State :=
  match (s.tch.gr[g]).attempt with
  | none => s
  | some c =>
    let s1 := (tchEls g s).foldl (fun t e => updEl e (fun x =>
      { x with frames := if noisy then [] else x.frames ++ [(x.rawSelf, x.rawMut)] }) t) s
    match tchEls g s1 with
    | e :: _ => if 8 ≤ (s1.tch.el[e]).frames.length then endAttempt g c s1 else s1
    | [] => s1

/-- An attempt begins. -/
def beginCal (g : Fin 8) (commanded : Bool) (s : State) : State :=
  if tchMask g s = 0 then s
  else (tchEls g s).foldl (fun t e => updEl e (fun x => { x with frames := [] }) t)
    (updGroup g (fun x => { x with attempt := some commanded }) s)

/-! ## Self-tests (R294–R296) -/

/-- Three repeats of an outcome change a finding. -/
def runFinding (bad now_ : Bool) (run : Nat) : Bool × Nat :=
  if bad = now_ then (now_, 0) else if 3 ≤ run + 1 then (bad, 0) else (now_, run + 1)

/-- The test results of one electrode. -/
def testEl (m : TouchFrame) (e : Fin 16) (s : State) : State :=
  let self_ := m.selfTest.find? fun p => p.1 == e
  let open_ := match self_ with | some p => decide (p.2 < 40 * s.fld Ix.TCH_TEST_CFG 0 8) | none => false
  let sat := match self_ with | some p => p.2 == 0 || p.2 == 0xFFFF | none => false
  let pair := m.pairTest.any fun p => p.1 != p.2.1 && e.val == Nat.min p.1.val p.2.1.val && elMode p.1 s != 0 && elMode p.2.1 s != 0
    && decide (1000 * s.fld Ix.TCH_TEST_CFG 8 8 < p.2.2)
  let ref_ := match m.refTest.find? fun p => p.1 == e with | some p => decide (p.2 < 1940) || decide (2060 < p.2) | none => false
  let x := s.tch.el[e]
  let o := runFinding open_ x.isOpen x.openRun
  let h := runFinding (sat || pair) x.isShort x.shortRun
  let r := runFinding ref_ x.refBad x.refRun
  let s1 := updEl e (fun x => { x with isOpen := o.1, openRun := o.2, isShort := h.1, shortRun := h.2, refBad := r.1, refRun := r.2 }) s
  condFault 0x703 e.val r.1 (condFault 0x702 e.val h.1 (condFault 0x701 e.val o.1 s1))

/-- A test frame is due: the first of a start, and every PERIOD seconds (R294). -/
def testDue (s : State) : Bool :=
  match s.tch.testAt with | none => true | some t => decide (t + secP (s.fld Ix.TCH_TEST_CFG 16 8) ≤ s.now)

/-- Every used electrode is tested where a test frame is due. -/
def selfTests (m : TouchFrame) (s : State) : State :=
  if testDue s then
    ((List.finRange 16).filter fun e => elMode e s != 0).foldl (fun t e => testEl m e t)
      { s with tch := { s.tch with testAt := some s.now } }
  else s

/-! ## Frames (R281, R288, R289) -/

/-- The conversion list of the touch frames (assumption log 24). -/
def tchList : Nat := 55

/-- Frames have been refused for 100 ms (12, "When a frame meets TT_FULL"). -/
def framesStarved (s : State) : Bool :=
  s.tt.waiting.any fun w => w.by_ == .series tchList && decide (w.since + msP 100 ≤ s.now)

/-- Publish the signals of a group (R287–R289). -/
def publishGroup (g : Fin 8) (s : State) : State :=
  let x := s.tch.gr[g]
  let bad := tchFailed g s
  let stale := !x.baseline || bad || s.band == .crank || framesStarved s
  let t := tchTouched g s && !bad
  let s1 := publishSource 5 (4 * g.val) (toWord (b2n t)) stale s
  let s2 := publishSource 5 (4 * g.val + 1) (match (if t then x.position else none) with | some p => toWord p | none => 0xFFFFFFFF) stale s1
  publishSource 5 (4 * g.val + 3) (toWord (b2n (x.water && !bad))) stale
    (publishSource 5 (4 * g.val + 2) (toWord (b2n (x.glove && !bad))) stale s2)

/-- A group becoming or ceasing to be touched: the MAX_ON time, and the stand-in of wake source 3 (R97, R291). -/
def noteTouched (g : Fin 8) (was : Bool) (s : State) : State :=
  let is := tchTouched g s
  let since := fun (x : Group) => if is then (if was then x.touchedAt else some s.now) else none
  let s1 := (updGroup g (fun x => { x with position := sliderPos g s, touchedAt := since x }) s).useFree
  let a := if s.flag Ix.TCH_WAKE_CFG 2 then 1 else 0
  if is && !was && s.fld Ix.TCH_WAKE_CFG 0 2 != 0 && nbits (tchMask g s) a 1 == 1 then parkSourceFires 3 s1 else s1

/-- Classify one group (R283–R292). -/
def classifyGroup (m : TouchFrame) (g : Fin 8) (s : State) : State :=
  if tchMask g s = 0 then s
  else
    let noisy := groupNoisy m g s
    let was := tchTouched g s
    let s1 := if noisy then s
      else
        let t1 := (tchEls g s).foldl (fun t e => updEl e (judgeEl g s) t) s
        let t2 := judgeGlove g (judgeWater g t1)
        let t3 := judgeStuck g t2
        (tchEls g t3).foldl (fun t e => updEl e (trackEl g t3) t) t3
    publishGroup g (noteTouched g was (gatherCal g noisy s1))

/-- How long a frame lasts in base periods (Table 12-2). -/
def frameP (m : TouchFrame) (s : State) : Nat :=
  let sense := (List.finRange 16).filter fun e => elMode e s == 1
  let driven := sense.filter fun e => (List.finRange 8).any fun g => tchDrive g s && nbits (tchMask g s) e.val 1 == 1
  let used := ((List.finRange 16).filter fun e => elMode e s != 0).length
  usP (40 * sense.length + 60 * driven.length + 50 + (if testDue s then 100 * used + 60 * m.pairTest.length else 0))

/-- The frame period: WATCH_PERIOD in WATCH, else RUN_PERIOD (R281, assumption log 63). -/
def framePeriodP (s : State) : Nat := msP (s.fld Ix.TCH_SCAN (if s.modes.mode == .watch then 8 else 0) 8)

/-- The service scans: a group is enabled. -/
def tchScans (s : State) : Bool := (List.finRange 8).any fun g => tchMask g s != 0

/-- The frames of the service: one repeating ADC_SAMPLE on FREE from pool 5 (R281), from T0 on after a start (Table 12-7), a frame
period after the last frame where the period changes. -/
def postFrames (s : State) : State :=
  if !tchScans s then endSeries tchList s
  else
    let first := match s.tch.lastFrame with | some t => t + framePeriodP s | none => s.bn.t0
    startSeries tchList 0 (freeEvent (Nat.max (soonest s) first) 0 (framePeriodP s) (.adcSample tchList) 5 s) s

/-- The event of a frame fires; in CRANK no frame runs (R301). -/
def beginFrame (s : State) : State :=
  if s.band = .crank then s else { s with tch := { s.tch with frameAt := some s.now, lastFrame := some s.now } }

/-- The signals of the groups where their frames have been refused for 100 ms. -/
def staleFrames (s : State) : State :=
  if framesStarved s then ((List.finRange 8).filter fun g => tchMask g s != 0).foldl (fun t g => publishGroup g t) s else s

/-- TOUCH_FRAME: scan, tests when due, classification and publication of the frame under way (R281–R296). -/
def touchFrame (m : TouchFrame) (s : State) : State :=
  match s.tch.frameAt with
  | none => s
  | some at_ =>
    let s1 := { s with tch := { s.tch with frameAt := none } }.reach (at_ + frameP m s)
    let s2 := latchRaw m s1
    let noisy := (List.finRange 8).any fun g => tchMask g s2 != 0 && groupNoisy m g s2
    let s3 := if noisy then
        ({ s2 with tch := { s2.tch with freq := (s2.tch.freq + 1) % 3 } }.bump Ix.TCH_STATS 0 16).bump Ix.TCH_STATS 16 16
      else s2
    (List.finRange 8).foldl (fun t g => classifyGroup m g t) (selfTests m s3)

/-- TOUCH_FRAME (R281). -/
def execTouchFrame (m : TouchFrame) (s : State) : Host.Outcome State Fault Refusal := doneFor .pairAwake s fun s => touchFrame m s

/-- RETRY seconds after a deferral the attempt begins again (R292). -/
def calRetry (g : Fin 8) (s : State) : State :=
  match (s.tch.gr[g]).deferredAt with
  | some t =>
    let s1 := s.reach (t + secP (s.fld Ix.TCH_CAL 8 8))
    if (s1.tch.gr[g]).attempt.isNone then beginCal g false (updGroup g (fun x => { x with deferredAt := none }) s1) else s1
  | none => s

/-- TOUCH_CAL_RETRY (R292). -/
def execTouchCalRetry (g : Fin 8) (s : State) : Host.Outcome State Fault Refusal := doneFor .pairAwake s fun s => calRetry g s

/-- A group touched for MAX_ON seconds is released and STUCK (R291). -/
def stuckTimeout (g : Fin 8) (s : State) : State :=
  let on := s.fld (Ix.TCH_G_TIME g.val) 24 8
  match (s.tch.gr[g]).touchedAt with
  | some t =>
    if on = 0 then s
    else
      let s1 := s.reach (t + secP on)
      let s2 := (tchEls g s1).foldl (fun u e => updEl e (fun x => { x with touched := false, up := 0 }) u) s1
      let s3 := updGroup g (fun x => { x with stuck := true, stuckRun := 0, touchedAt := none, position := none }) s2
      publishGroup g (condFault 0x700 g.val true s3)
  | none => s

/-- TOUCH_STUCK_TIMEOUT (R291). -/
def execTouchStuckTimeout (g : Fin 8) (s : State) : Host.Outcome State Fault Refusal :=
  doneFor .pairAwake s fun s => stuckTimeout g s

/-- GLOVE_HOLD without an electrode above GLOVE lower ends glove mode (R284). -/
def gloveExpiry (g : Fin 8) (s : State) : State :=
  let x := s.tch.gr[g]
  if x.glove then
    let was := tchTouched g s
    publishGroup g (noteTouched g was (leaveGlove g (s.reach (x.gloveAt + secP (tchDwell g 3 s)))))
  else s

/-- GLOVE_HOLD_EXPIRY (R284). -/
def execGloveHoldExpiry (g : Fin 8) (s : State) : Host.Outcome State Fault Refusal :=
  doneFor .pairAwake s fun s => gloveExpiry g s

/-- The attempts a group mask written to `TCH_CAL_CMD` starts (R293). -/
def calCommand (v : Word) (s : State) : State :=
  let gs := (List.finRange 8).filter fun g => bit v g.val && tchMask g s != 0
  let left := gs.foldl (fun a g => a + 2 ^ g.val) 0
  gs.foldl (fun t g => beginCal g true t)
    { s with tch := { s.tch with cmd := if left = 0 then .done else .running, cmdLeft := left, cmdDeferred := 0 } }

/-- Leaving the CRANK band: electrodes start released and the dwells afresh; in it signals are stale (R301). -/
def touchBand (s : State) : State :=
  let s1 := if s.band = .crank then s
    else (List.finRange 16).foldl (fun t e => updEl e (fun x => { x with touched := false, up := 0, down := 0, gloveUp := 0 }) t) s
  ((List.finRange 8).filter fun g => tchMask g s != 0).foldl (fun t g => publishGroup g t) s1

/-- The service restarts with the pair: baselines kept, every electrode released, no attempt. -/
def touchRestart (s : State) : State :=
  let s1 := (List.finRange 16).foldl (fun t e => updEl e (fun x =>
    { x with touched := false, up := 0, down := 0, gloveUp := 0, frames := [] }) t) s
  { s1 with tch := { s1.tch with gr := s1.tch.gr.map (fun x => { x with attempt := none, touchedAt := none, position := none }),
                                 frameAt := none, lastFrame := none } }

/-! ## The park wake gesture (R297–R300) -/

/-- PARK_HI and PARK_LO in 20 fF. -/
def parkHi (s : State) : Nat := s.fld Ix.TCH_WAKE_CFG 8 8
/-- PARK_LO. -/
def parkLo (s : State) : Nat := s.fld Ix.TCH_WAKE_CFG 16 8

/-- The park baseline of one electrode from its four samples: their mean, or the previous park's where they differ too much; the
flag says that it was deferred (R298). -/
def parkBase (xs : List Nat) (prior : Option Nat) (s : State) : Option Nat × Bool :=
  let ys := sortNat xs
  if parkLo s < ys.getLastD 0 - ys.headD 0 then (prior, prior.isSome) else (some (meanNat xs), false)

/-- The park baseline of an electrode: kept where it exists, else from the samples. -/
def parkBaseOf (have_ : Option Nat) (xs : List Nat) (prior : Option Nat) (s : State) : Option Nat × Bool :=
  match have_ with | some b => (some b, false) | none => parkBase xs prior s

/-- A touched state by its delta (R298). -/
def parkTouch (raw base : Nat) (was : Bool) (s : State) : Bool :=
  let d : Int := (raw : Int) - base
  if (parkHi s : Int) < d then true else if d < parkLo s then false else was

/-- One step of a park baseline every 64 quiet samples (R298). -/
def parkFollow (raw base calm : Nat) (quiet : Bool) (s : State) : Nat × Nat :=
  if quiet ∧ ((raw : Int) - base).natAbs < parkLo s then
    (if 64 ≤ calm + 1 then (towards base raw, 0) else (base, calm + 1))
  else (base, calm)

/-- The progress of a gesture on one sample: the recogniser, and whether the gesture is recognised (Table 12-5, R300). -/
def gestureStep (a b : Bool) (s : State) (g : Gesture) : Gesture × Bool :=
  let hold := s.fld Ix.TCH_WAKE_TIME 0 8
  let tapMax := s.fld Ix.TCH_WAKE_TIME 8 8
  let gapMax := s.fld Ix.TCH_WAKE_TIME 16 8
  let swipeMax := s.fld Ix.TCH_WAKE_TIME 24 8
  let idle : Gesture := { g with tap := 0, gap := none, swipe := none }
  if a && b then ({ idle with wet := true, waters := Nat.min 255 (g.waters + 1) }, false)
  else if g.wet then (if a || b then (g, false) else ({ idle with wet := false }, false))
  else match s.fld Ix.TCH_WAKE_CFG 0 2 with
    | 1 =>
      if a then (if g.tap + 1 = hold then (idle, true) else ({ g with tap := g.tap + 1 }, false)) else (idle, false)
    | 2 =>
      if b then (idle, false)
      else match g.gap with
        | some k =>
          if a then (idle, true)
          else if gapMax < k + 1 then ({ idle with abandoned := Nat.min 255 (g.abandoned + 1) }, false)
          else ({ g with gap := some (k + 1) }, false)
        | none =>
          if a then ({ g with tap := g.tap + 1 }, false)
          else if g.tap = 0 then (g, false)
          else if tapMax < g.tap then ({ idle with abandoned := Nat.min 255 (g.abandoned + 1) }, false)
          else ({ g with tap := 0, gap := some 1 }, false)
    | 3 =>
      if a then ({ g with swipe := some 0 }, false)
      else match g.swipe with
        | some k =>
          if swipeMax < k + 1 then ({ idle with abandoned := Nat.min 255 (g.abandoned + 1) }, false)
          else if b then (idle, true) else ({ g with swipe := some (k + 1) }, false)
        | none => (g, false)
    | _ => (idle, false)

/-- A sample with both baselines in place. -/
def gestureSample (raw0 raw1 base0 base1 : Nat) (s : State) : State :=
  let g := s.tch.gest
  let t0 := parkTouch raw0 base0 g.touch0 s
  let t1 := parkTouch raw1 base1 g.touch1 s
  let quiet := !t0 && !t1
  let f0 := parkFollow raw0 base0 g.calm0 quiet s
  let f1 := parkFollow raw1 base1 g.calm1 quiet s
  let g1 : Gesture := { g with touch0 := t0, touch1 := t1, base := [some f0.1, some f1.1], calm0 := f0.2, calm1 := f1.2 }
  let p := if s.flag Ix.TCH_WAKE_CFG 2 then gestureStep t1 t0 s g1 else gestureStep t0 t1 s g1
  if p.2 then
    wakeFires 3 { s with tch := { s.tch with gest := { p.1 with recognised := Nat.min 255 (p.1.recognised + 1) } } }
  else { s with tch := { s.tch with gest := p.1 } }

/-- PARK_TOUCH_SAMPLE: the first four samples give the baselines; then the gesture is looked for (R297–R300). -/
def parkTouchSample (at_ raw0 raw1 : Nat) (s0 : State) : State :=
  if s0.pw.pw ≠ .retain ∨ s0.fld Ix.TCH_WAKE_CFG 0 2 = 0 ∨ !s0.pw.armed.contains 3 then s0
  else
    let s := s0.reach at_
    let g := s.tch.gest
    match g.base with
    | [some b0, some b1] => gestureSample raw0 raw1 b0 b1 s
    | _ =>
      let xs : List (Nat × Nat) := g.gather ++ [(raw0, raw1)]
      if xs.length < 4 then { s with tch := { s.tch with gest := { g with gather := xs } } }
      else
        let p0 := parkBaseOf (g.base.getD 0 none) (xs.map (·.1)) (g.prior.getD 0 none) s
        let p1 := parkBaseOf (g.base.getD 1 none) (xs.map (·.2)) (g.prior.getD 1 none) s
        { s with tch := { s.tch with gest := { g with base := [p0.1, p1.1], gather := [],
                                                      deferrals := Nat.min 255 (g.deferrals + b2n p0.2 + b2n p1.2) } } }

/-- PARK_TOUCH_SAMPLE (R298). -/
def execParkTouchSample (at_ raw0 raw1 : Nat) (s : State) : Host.Outcome State Fault Refusal :=
  doneFor .always s fun s => parkTouchSample at_ raw0 raw1 s

/-- PARK entry: the recogniser starts, the last park's baselines kept as the previous ones (R298). -/
def gestureStart (s : State) : State :=
  let g := s.tch.gest
  { s with tch := { s.tch with gest := { Gesture.reset with
      prior := (List.range 2).map fun k => match g.base.getD k none with | some b => some b | none => g.prior.getD k none } } }

end Sys2Proof.Machine
end

