-- ==== Sys2Proof/Machine/Charger.lean ====
section
/-!
DEFINITION. The backup cell, its charger, the power path and BKOUT (13_backup_cell.md).
-/
namespace Sys2Proof.Machine

/-- The charger changed. -/
def updChg (f : Charger → Charger) (s : State) : State := { s with chg := f s.chg }

/-- One row of Table 13-2 in mV. -/
structure Chem where
  vterm : Nat
  precharge : Nat
  recharge : Nat
  overMv : Nat
  empty : Nat
  dead : Nat

/-- The chemistry selected (R306). -/
def chem (s : State) : Chem :=
  match s.fld Ix.CHG_CFG 0 2 with
  | 0 => { vterm := 4200, precharge := 3000, recharge := 4100, overMv := 4350, empty := 3000, dead := 2000 }
  | 1 => { vterm := 4100, precharge := 3000, recharge := 4000, overMv := 4250, empty := 3000, dead := 2000 }
  | _ => { vterm := 3600, precharge := 2500, recharge := 3450, overMv := 3750, empty := 2500, dead := 1800 }

/-- CELL_USED. -/
def cellUsed (s : State) : Bool := s.flag Ix.CHG_CFG 2
/-- CAP in 0.1 mAh. -/
def cellCap (s : State) : Nat := s.fld Ix.CHG_CFG 16 16 * 10
/-- VBAT_FLOOR in mV. -/
def vbatFloor (s : State) : Nat := s.fld Ix.CHG_INPUT 0 16 * 10

/-! ## Conditions (R308, R309) -/

/-- A charger fault is latched, or the condition of one that stops charging persists (R315). -/
def chgFaulted (s : State) : Bool := s.num Ix.CHG_FAULTS != 0 || (s.chg.conds.take 6).any id

/-- The available input (R309). -/
def chgAvailable (s : State) : Nat :=
  if s.chg.svinPresent && s.flag Ix.CHG_CFG 3 && !s.chg.svinIsRail then 2
  else if s.flag Ix.CHG_CFG 4 && s.chg.gate then 1 else 0

/-- The conditions of R308, a share that is not 0 (Table 22-5), and neither the overvoltage reaction nor an instance reaction
(R571, Table 19-5). -/
def chgOk (s : State) : Bool :=
  cellUsed s && s.chg.present && !chgFaulted s && s.modes.mode != .park && s.band != .crank && s.chg.window != 0 &&
    s.chg.window != 4 && s.chg.input != 0 && !s.chg.stopped && factorAtLevel s 4 != 0 && !s.share.overvolt

/-- The current the profile asks for (Table 13-3, Table 13-4). -/
def chgProfile (s : State) : Nat :=
  let i := s.fld Ix.CHG_CURRENT 0 16
  match s.chg.st with
  | .precharge => Nat.max 10 (i / 10)
  | .fastCc | .fastCv => if s.chg.window = 1 ∨ s.chg.window = 3 then i / 2 else i
  | _ => 0

/-- The termination voltage, less 0.10 V in WARM. -/
def chgVterm (s : State) : Nat := if s.chg.window = 3 then (chem s).vterm - 100 else (chem s).vterm

/-! ## Transitions -/

/-- Enter a charge state: the timers run only while charging. -/
def enterChg (st : ChgSt) (s : State) : State :=
  let was := isCharging s.chg.st
  let is := isCharging st
  updChg (fun c =>
    let used := match c.timerFrom with | some t => c.timerUsed + (s.now - t) | none => c.timerUsed
    { c with st := st, timerUsed := used, timerFrom := if is then some s.now else none,
             pausedAt := if st == .paused then s.now else c.pausedAt,
             longPause := c.longPause || (!was && is && c.st == .paused && decide (c.pausedAt + secP 3600 < s.now)) }) s

/-- The precharge or fast timer starts anew. -/
def restartTimer (s : State) : State := updChg (fun c => { c with timerUsed := 0, timerFrom := some s.now }) s

/-- The charge current aims at what the state asks for, ramping from its present value (R313). -/
def aimChg (s : State) : State :=
  let want := if s.chg.found = some 0 ∨ s.chg.hush then 0 else chgProfile s
  if s.chg.aim = want then s else updChg (fun c => { c with rampFrom := chgNow s, rampAt := s.now, aim := want }) s

/-- A charge begins from IDLE: in PRECHARGE where the cell has lain strictly below Precharge for 1 s (Table 13-3, R319). -/
def beginCharge (s : State) : State :=
  let st : ChgSt := if dwellOver s.chg.lowFrom 0 (secP 1) s then .precharge else .fastCc
  restartTimer (updChg (fun c => { c with
      delivered := 0, longPause := false,
      startSoc := if c.socValid && decide (100 * c.soc ≤ 20 * cellCap s) then some (socPercent s) else none }) (enterChg st s))

/-- The state of Table 13-3 follows its conditions. -/
def settleChg (s : State) : State :=
  let c := s.chg
  if !cellUsed s || !c.present then enterChg .off s
  else if chgFaulted s then (if c.st == .fault then s else enterChg .fault s)
  else
    let s1 := if c.st == .off || c.st == .fault then enterChg .idle s else s
    if !chgOk s1 then
      if isCharging s1.chg.st then enterChg .paused (updChg (fun d => { d with heldState := d.st }) s1) else s1
    else if s1.chg.found = some 0 then (if isCharging s1.chg.st then enterChg .idle s1 else s1)
    else match s1.chg.st with
      | .idle => beginCharge s1
      | .paused => enterChg s1.chg.heldState s1
      | _ => s1

/-- Conditions changed: the input, the state and the current follow. On a change of input the current ramps to 0 and a new search is
due (R309). -/
def refreshChg (s : State) : State :=
  let a := chgAvailable s
  let s1 := if a = s.chg.input then s
    else updChg (fun c => { c with input := a, search := none, inputLimited := false, due := a != 0, hush := a != 0, backoffAt := none,
                                   rampFrom := chgNow s, rampAt := s.now, aim := 0 }) s
  aimChg (settleChg s1)

/-- A reading of the cell: the estimate counts the current since the last one (R318). -/
def readCell (r : CellReading) (s0 : State) : State :=
  let s := s0.reach r.at_
  let c := s.chg
  let q := c.cellMa * ((s.now - c.cellAt : Nat) : Int) + c.socFrac
  let unit : Int := 14400000000
  let steps := q / unit
  updChg (fun c => { c with cellMv := r.mv, cellMa := r.ma, cellAt := s.now, socFrac := q % unit,
                            lowFrom := holdsSince (decide (r.mv < (chem s).precharge)) s.now c.lowFrom,
                            calmFrom := holdsSince (decide (r.ma.natAbs ≤ 5)) s.now c.calmFrom,
                            soc := if c.socValid then Nat.min (cellCap s) ((c.soc : Int) + steps).toNat else c.soc,
                            delivered := c.delivered + steps.toNat }) s

/-! ## The power path (R304, R307, R309) -/

/-- The AO input rail crosses 4.5 V or 5.0 V (R304, R307). -/
def cellSwitch (railMv : Nat) (s : State) : State :=
  let c := s.chg
  let s1 := updChg (fun c => { c with railUp := decide (5000 < railMv), bkoCut := c.bkoCut && !decide (5000 < railMv) }) s
  if railMv < 4500 ∧ !c.aoOnCell ∧ !c.cutOff ∧ !s.flag Ix.CHG_FAULTS 5 ∧ !c.conds.getD 5 false then
    let s2 := (updChg (fun c => { c with aoOnCell := true, onCellSaid := true }) s1).bump Ix.CHG_COUNTS 16 16
    if c.onCellSaid then s2 else report 0x800 0 s2
  else if 5000 < railMv then updChg (fun c => { c with aoOnCell := false }) s1
  else s1

/-- CELL_SWITCH_CHANGEOVER (R304). -/
def execCellSwitchChangeover (railMv : Nat) (s : State) : Host.Outcome State Fault Refusal :=
  doneFor .charger s fun s => cellSwitch railMv s

/-- SVIN over 100 ms: present where it stays strictly above 4.5 V; in a park state it fires its wake source (R109). -/
def svinPresent (mv least : Nat) (s : State) : State :=
  let p := decide (4500 < least)
  let s1 := (updChg (fun c => { c with svinPresent := p, svinIsRail := c.svinIsRail && p }) s).putFld Ix.CHG_SVIN 0 16 mv
  let s2 := if p && !s.chg.svinPresent then
      wakeFires (if s.fld Ix.PWR_DEEP_WAKE 0 4 = 4 ∧ s.pw.pw = .deep then 7 else 6) (parkSourceFires 6 s1)
    else s1
  if s2.modes.mode = .park then s2 else refreshChg s2

/-- SVIN_PRESENT (R109). -/
def execSvinPresent (mv least : Nat) (s : State) : Host.Outcome State Fault Refusal :=
  doneFor .charger s fun s => svinPresent mv least s

/-- VBAT in mV over 10 s: the gate opens and closes (R309). -/
def vbatGate (least most : Nat) (s : State) : State :=
  let g := if vbatFloor s + 300 < least then true else if most < vbatFloor s then false else s.chg.gate
  refreshChg (updChg (fun c => { c with gate := g }) s)

/-- VBAT_GATE_CHANGE (R309). -/
def execVbatGateChange (least most : Nat) (s : State) : Host.Outcome State Fault Refusal :=
  doneFor .chgPair s fun s => vbatGate least most s

/-! ## The input-current search (R310–R312) -/

/-- The floor of a search in mV. -/
def searchFloor (openMv : Nat) (s : State) : Nat :=
  if s.chg.input = 2 then openMv * s.fld Ix.CHG_INPUT 16 8 / 100 else vbatFloor s

/-- The end of the search period that the last search began. -/
def searchPeriodEnd (s : State) : Nat := s.chg.searchAt + secP (s.fld Ix.CHG_SEARCH 0 8)

/-- The earliest instant of the next search (R310, R312): an input that became available once the current is at 0, 1 s after a back-off,
every PERIOD while charging; a charger left idle by a search and a SVIN taken for the vehicle rail wait for the period too. -/
def searchDue (s : State) : Option Nat :=
  let c := s.chg
  let period := if isCharging c.st || c.found == some 0 || c.svinIsRail then [searchPeriodEnd s] else []
  let times :=
    if c.search.isSome then []
    else if c.hush then [c.rampAt + msP (ceilDiv c.rampFrom 20)]
    else if c.due then [s.now]
    else (c.backoffAt.map (· + secP 1)).toList ++ period
  times.foldl (fun a t => some (match a with | some u => Nat.min u t | none => t)) none

/-- A search begins: `openMv` is the input with the charger at zero, `apart` the greatest |SVIN − VBAT| over 100 ms, in mV. A SVIN
taken for the vehicle rail is tried again at a search period (R312). -/
def searchStart (at_ openMv vbatMv apart : Nat) (s0 : State) : State :=
  match searchDue s0 with
  | none => s0
  | some t =>
    let s := s0.reach (Nat.max at_ t)
    let again := s.chg.svinIsRail && decide (searchPeriodEnd s ≤ s.now)
    let s1 := if again then refreshChg (updChg (fun c => { c with svinIsRail := false }) s) else s
    if s1.chg.input = 0 then s1
    else
      aimChg (updChg (fun c => { c with
        searchAt := s1.now, due := false, hush := false, backoffAt := none, openMv := if c.input = 2 then openMv else c.openMv,
        search := some { limit := 50, openMv := openMv, vbat := vbatMv, near := c.input == 2 && decide (apart < 150),
                         stepAt := s1.now } }) s1)

/-- CHG_SEARCH_START (R310). -/
def execChgSearchStart (at_ openMv vbatMv apart : Nat) (s : State) : Host.Outcome State Fault Refusal :=
  doneFor .chgPair s fun s => searchStart at_ openMv vbatMv apart s

/-- A search ends with a limit (R310, R312). -/
def searchEnd (limit : Nat) (limited : Bool) (s : State) : State :=
  refreshChg (condFault 0x809 0 false
    (updChg (fun c => { c with search := none, found := some limit, inputLimited := limited, calDeferred := false, calRun := 0 }) s))

/-- A search is deferred: SVIN is the vehicle rail, the previous limit stays (R310, R312). -/
def searchDefer (s : State) : State :=
  let n := s.chg.calRun + 1
  let s1 := updChg (fun c => { c with search := none, svinIsRail := true, calDeferred := true, calRun := n }) s
  refreshChg (if 3 ≤ n then condFault 0x809 0 true s1 else s1)

/-- One step of a search after its 20 ms: the least input voltage and the greatest input current over the last 10 ms, and VBAT
(R310). It stops at the share as it stops at ILIM (22, "When the charger's search meets its share"). -/
def searchStep (least maxMa vbatMv : Nat) (s0 : State) : State :=
  match s0.chg.search with
  | none => s0
  | some q =>
    let s := updChg (fun c => { c with inputMa := maxMa }) (s0.reach (q.stepAt + msP 20))
    if q.near && q.limit == 50 && decide (vbatMv + 50 < q.vbat) then searchDefer s
    else if least ≤ searchFloor q.openMv s then searchEnd (q.limit - 50) true s
    else if maxMa + 20 < q.limit then searchEnd q.limit false s
    else if Nat.min (chgIlim s) (scaled (chgIlim s) (factorAtLevel s 4)) ≤ q.limit then searchEnd q.limit true s
    else updChg (fun c => { c with search := some { q with limit := q.limit + 50, stepAt := s.now } }) s

/-- CHG_SEARCH_STEP (R310). -/
def execChgSearchStep (least maxMa vbatMv : Nat) (s : State) : Host.Outcome State Fault Refusal :=
  doneFor .chgPair s fun s => searchStep least maxMa vbatMv s

/-- Outside a search, an input at or below its floor for 2 ms lowers the limit by 50 mA (R310). -/
def inputBackoff (most : Nat) (s : State) : State :=
  if s.chg.search.isNone ∧ s.chg.input ≠ 0 ∧ most ≤ searchFloor s.chg.openMv s then
    refreshChg ((updChg (fun c => { c with found := some (c.found.getD 50 - 50), inputLimited := true, backoffAt := some s.now }) s).bump Ix.CHG_COUNTS 0 16)
  else s

/-- CHG_INPUT_BACKOFF (R310). -/
def execChgInputBackoff (most : Nat) (s : State) : Host.Outcome State Fault Refusal :=
  doneFor .chgPair s fun s => inputBackoff most s

/-! ## The charge profile (R313, R318, R319) -/

/-- The cell stays strictly above Precharge + 0.10 V for 1 s; charging also ends a cut-off above Empty + 0.20 V (R313). -/
def prechargeDone (r : CellReading) (least : Nat) (s0 : State) : State :=
  let s := readCell r s0
  let s1 := updChg (fun c => { c with cutOff := c.cutOff && !decide ((chem s).empty + 200 < r.mv) }) s
  if s1.chg.st = .precharge ∧ (chem s).precharge + 100 < least then aimChg (restartTimer (enterChg .fastCc s1)) else s1

/-- CHG_PRECHARGE_DONE (R313). -/
def execChgPrechargeDone (cell : CellReading) (least : Nat) (s : State) : Host.Outcome State Fault Refusal :=
  doneFor .chgPair s fun s => prechargeDone cell least s

/-- The cell reaches VTERM (R313). -/
def vtermReached (r : CellReading) (s0 : State) : State :=
  let s := readCell r s0
  let s1 := updChg (fun c => { c with cutOff := c.cutOff && !decide ((chem s).empty + 200 < r.mv) }) s
  if s1.chg.st = .fastCc ∧ chgVterm s ≤ r.mv then aimChg (enterChg .fastCv s1) else s1

/-- CHG_VTERM_REACHED (R313). -/
def execChgVtermReached (cell : CellReading) (s : State) : Host.Outcome State Fault Refusal :=
  doneFor .chgPair s fun s => vtermReached cell s

/-- The learned capacity in mAh of a charge that ends at DONE (R319). -/
def learnCapacity (c : Charger) : Nat :=
  match c.startSoc with
  | some p => if c.longPause then c.learned else c.delivered * 10 / (100 - p)
  | none => c.learned

/-- The current stays strictly below ITERM for 60 s: DONE, the estimate 100 %, and metric 5 judged (R313, R318, R319, R468). -/
def termination (r : CellReading) (most : Int) (s0 : State) : State :=
  let s := readCell r s0
  if s.chg.st = .fastCv ∧ most < (s.fld Ix.CHG_CURRENT 16 16 : Int) then
    judgeMetrics (aimChg (updChg (fun c =>
      { c with soc := cellCap s, socFrac := 0, socValid := true, learned := learnCapacity c, startSoc := none }) (enterChg .done s)))
  else s

/-- CHG_TERMINATION (R313). -/
def execChgTermination (cell : CellReading) (most : Int) (s : State) : Host.Outcome State Fault Refusal :=
  doneFor .chgPair s fun s => termination cell most s

/-- The cell stays strictly below Recharge for 10 s (R313). -/
def recharge (r : CellReading) (most : Nat) (s0 : State) : State :=
  let s := readCell r s0
  if s.chg.st = .done ∧ most < (chem s).recharge ∧ chgOk s then aimChg (restartTimer (enterChg .fastCc s)) else s

/-- CHG_RECHARGE_START (R313). -/
def execChgRechargeStart (cell : CellReading) (most : Nat) (s : State) : Host.Outcome State Fault Refusal :=
  doneFor .chgPair s fun s => recharge cell most s

/-- A charger fault latches (R315). -/
def latchChg (k : Nat) (s : State) : State :=
  let s1 := condFault (0x801 + k) 0 true (s.latch Ix.CHG_FAULTS (2 ^ k))
  let s2 := if k = 5 then updChg (fun c => { c with aoOnCell := false }) s1 else s1
  refreshChg s2

/-- The timer of the present phase expires after its charging time (R313). -/
def timerExpiry (s : State) : State :=
  let c := s.chg
  match c.timerFrom with
  | none => s
  | some t =>
    let lim := if c.st = .precharge then secP (60 * s.fld Ix.CHG_TIMER 0 8) else secP (360 * s.fld Ix.CHG_TIMER 8 8)
    latchChg 4 (s.reach (t + (lim - c.timerUsed)))

/-- CHG_TIMER_EXPIRY (R313). -/
def execChgTimerExpiry (s : State) : Host.Outcome State Fault Refusal := doneFor .chgPair s fun s => timerExpiry s

/-! ## Windows and faults (R314–R316) -/

/-- A boundary T1 to T4 in 0.1 °C. -/
def tBound (k : Nat) (s : State) : Int := signed (s.fld Ix.CHG_TWIN (8 * k) 8) 8 * 10

/-- The window after a temperature of at least `least` and at most `most` over 10 s, in 0.1 °C (R314). -/
def nextWindow (w : Nat) (least most : Int) (s : State) : Nat :=
  let up := ((List.range 4).filter fun k => decide (tBound k s + 10 < least)).length
  let dn := ((List.range 4).filter fun k => decide (tBound k s - 10 ≤ most)).length
  if w < up then up else if dn < w then dn else w

/-- CHG_WINDOW_CHANGE (R314). -/
def windowChange (least most : Int) (s : State) : State :=
  let s1 := s.putNat Ix.CHG_TEMP (unsigned most 16)
  refreshChg (updChg (fun c => { c with window := nextWindow c.window least most s }) s1)

/-- CHG_WINDOW_CHANGE (R314). -/
def execChgWindowChange (least most : Int) (s : State) : Host.Outcome State Fault Refusal :=
  doneFor .chgPair s fun s => windowChange least most s

/-- The condition of a fault over its dwell (Table 13-5): temperatures in 0.1 °C, voltages in mV; none where it neither holds nor is
absent. TIMER has no lasting condition. -/
def chgCond (k : Nat) (least most : Int) (s : State) : Option Bool :=
  match k with
  | 0 => some (decide (most < -500))
  | 1 => some (decide (1250 < least))
  | 2 => some (decide (((chem s).overMv : Int) < least))
  | 3 => some (decide (most < (chem s).dead))
  | 5 => if 700 < least then some true else if most < 650 then some false else none
  | 6 => some (decide (most < 6000))
  | _ => some false

/-- An absent cell: state OFF, the estimate invalid, CHG_CELL_ABSENT (R317). -/
def cellGone (s : State) : State :=
  condFault 0x808 0 true (refreshChg (updChg (fun c => { c with present := false, socValid := false, startSoc := none }) s))

/-- A fault condition is judged over its dwell; for CELL_OV `stay` says that the probe found the cell present, otherwise it is a
removal (R315–R317). -/
def chgFault (k : Fin 7) (least most : Int) (stay : Bool) (s : State) : State :=
  match chgCond k.val least most s with
  | none => s
  | some c =>
    if c && k.val == 2 && !stay then cellGone s
    else if c && k.val == 3 && !s.chg.present then s
    else
      let s1 := updChg (fun d => { d with conds := d.conds.set k.val c }) s
      if c then latchChg k.val s1 else refreshChg s1

/-- What a permitted read of `CHG_FAULTS` does: every latched bit is cleared (R315). -/
def chgFaultsRead (s : State) : State :=
  let w := s.word Ix.CHG_FAULTS
  refreshChg (((List.range 7).filter fun k => bit w k).foldl (fun t k => endFault (0x801 + k) 0 t) (s.put Ix.CHG_FAULTS 0))

/-! ## Presence and the estimate (R317, R318, R307) -/

/-- The cell is found present by a probe. -/
def cellProbe (r : CellReading) (least drop : Nat) (s0 : State) : State :=
  let s := readCell r s0
  if 1000 < least ∧ drop ≤ 100 then
    refreshChg (condFault 0x808 0 false (updChg (fun c => { c with present := true }) s))
  else cellGone s

/-- CELL_PROBE (R317): in WATCH, RIDE and WORKSHOP, not while the charger charges; a CELL_OV detection probes by itself. -/
def execCellProbe (cell : CellReading) (least drop : Nat) (s : State) : Host.Outcome State Fault Refusal :=
  doneFor .chgPair s fun s =>
    if cellUsed s && s.modes.mode != .park && !isCharging s.chg.st then cellProbe cell least drop s else s

/-- Linear between the points of Table 13-6: the share of a capacity, in its unit. -/
def seedPoints (cap v : Nat) : List (Nat × Nat) → Nat
  | (v0, p0) :: (v1, p1) :: rest =>
    if v ≤ v0 then cap * p0 / 100
    else if v < v1 then cap * (p0 * (v1 - v0) + (p1 - p0) * (v - v0)) / (100 * (v1 - v0)) else seedPoints cap v ((v1, p1) :: rest)
  | [(_, p)] => cap * p / 100
  | [] => 0

/-- The seed of an invalid estimate (Table 13-6). -/
def seedCharge (chem_ cap v : Nat) : Nat :=
  seedPoints cap v (if chem_ = 0 then [(3000, 0), (3600, 10), (3700, 30), (3800, 55), (3950, 75), (4100, 95), (4200, 100)]
    else [(3000, 0), (3600, 11), (3700, 32), (3800, 58), (3950, 79), (4100, 100), (4200, 100)])

/-- An invalid estimate is seeded after 30 min at rest; LFP_360 is not (R318). -/
def socSeed (r : CellReading) (s0 : State) : State :=
  let s := readCell r s0
  let k := s.fld Ix.CHG_CFG 0 2
  if s.chg.present && !s.chg.socValid && decide (k < 2) && dwellOver s.chg.calmFrom 0 (secP 1800) s then
    updChg (fun c => { c with soc := seedCharge k (cellCap s) r.mv, socFrac := 0, socValid := true }) s
  else s

/-- SOC_SEED (R318). -/
def execSocSeed (cell : CellReading) (s : State) : Host.Outcome State Fault Refusal := doneFor .chgPair s fun s => socSeed cell s

/-- BKOUT stops drawing from the cell (R307). -/
def bkoCutoff (r : CellReading) (s0 : State) : State :=
  let s := readCell r s0
  let c := s.chg
  let low := if c.socValid then decide (socPercent s ≤ s.fld Ix.CHG_BKO_CFG 16 8) else decide (r.mv ≤ (chem s).empty + 300)
  if low && !c.railUp then updChg (fun c => { c with bkoCut := true }) s else s

/-- BKOUT_CELL_CUTOFF (R307). -/
def execBkoutCellCutoff (cell : CellReading) (s : State) : Host.Outcome State Fault Refusal :=
  doneFor .charger s fun s => bkoCutoff cell s

/-- The cell is cut off: strictly below Empty for 1 s while it feeds AO or BKOUT (R313). -/
def cellCutoff (r : CellReading) (most : Nat) (s0 : State) : State :=
  let s := readCell r s0
  let feeds := s.chg.aoOnCell || (bkoOn s && !s.chg.railUp)
  if feeds && decide (most < (chem s).empty) then
    updChg (fun c => { c with cutOff := true, soc := 0, socFrac := 0, socValid := true, aoOnCell := false }) s
  else s

/-- At PARK entry the charger stops. -/
def chgPark (s : State) : State := refreshChg s

/-- The service restarts with the pair: a new search, the estimate kept. -/
def chgRestart (s : State) : State := updChg (fun c => { c with search := none, due := c.input != 0 }) s

end Sys2Proof.Machine
end

