-- ==== Sys2Proof/Machine/Can.lean ====
section
/-!
DEFINITION. The CAN FD controllers and the CAN service (14_can_and_lin.md).
-/
namespace Sys2Proof.Machine

/-! ## Configuration -/

/-- MODE of a channel: 0 unused, 1 classical, 2 FD. -/
def canMode (c : Can) (s : State) : Nat := s.fld (Ix.CAN_CFG c.val) 0 2

/-- A bit of `q` quanta with `t1` quanta of TSEG1 samples between 50 % and 90 % (R325). -/
def sampleOk (t1 q : Nat) : Bool := decide (q * 50 ≤ (1 + t1) * 100) && decide ((1 + t1) * 100 ≤ q * 90)

/-- The timing of a channel is valid (R325, Table 14-2). -/
def canTimingOk (c : Can) (s : State) : Bool :=
  let n := s.word (Ix.CAN_NBT c.val)
  let d := s.word (Ix.CAN_DBT c.val)
  let brp := fld n 0 5 + 1; let t1 := fld n 5 8 + 1; let t2 := fld n 13 7 + 1; let sjw := fld n 20 7 + 1
  let dbrp := fld d 0 5 + 1; let d1 := fld d 5 5 + 1; let d2 := fld d 10 4 + 1; let dsjw := fld d 14 4 + 1
  let nq := 1 + t1 + t2; let dq := 1 + d1 + d2
  decide (2 ≤ t1) && decide (2 ≤ t2) && decide (sjw ≤ t2) && decide (dsjw ≤ d2)
    && decide (40 ≤ brp * nq) && decide (brp * nq ≤ 320)
    && (canMode c s != 2 || (decide (8 ≤ dbrp * dq) && decide (dbrp * dq ≤ 40) && decide (dbrp * dq ≤ brp * nq)))
    && sampleOk t1 nq && sampleOk d1 dq
    && (bit d 18 || decide (40 ≤ dbrp * dq))

/-- The test mode of a channel (R342). -/
def testMode (c : Can) (s : State) : Nat := s.fld (Ix.CAN_TEST c.val) 0 2

/-! ## The end of an attempt (R334, R336, R337) -/

/-- Take a buffer's frame out; a waiting release becomes pending (R334). -/
def freeBuffer (c : Can) (buf : Nat) (s : State) : State :=
  updCan c (fun x => { x with bufs := x.bufs.filterMap fun y =>
    if y.buf == buf then y.next.map fun f => { y with frame := f, attempt := none, cancel := false, next := none } else some y }) s

/-- The result of a cancel in `CAN_TXB_LAST_c`. -/
def cancelResult (c : Can) (buf res : Nat) (s : State) : State :=
  updCan c (fun x => { x with cancelBuf := buf, lastCancel := res }) s

/-- An attempt ends unsent: a SINGLE frame is dropped (R337), a held cancel of an attempt that lost withdraws it (R336). -/
def attemptEnds (c : Can) (b : TxBuf) (s : State) : State :=
  if b.single then
    report 0x901 c.val (freeBuffer c b.buf (s.bump (Ix.CAN_TX_COUNT c.val) 24 8))
  else if b.cancel && !begunNow c b s then cancelResult c b.buf 1 (freeBuffer c b.buf s)
  else
    let s1 := onlyIf b.next.isSome (fun t => t.bump (Ix.CAN_TX_COUNT c.val) 16 8) s
    updCan c (fun x => { x with bufs := x.bufs.map fun y =>
      if y.buf == b.buf then { y with attempt := none, cancel := false, frame := y.next.getD y.frame, next := none } else y }) s1

/-- The buffer with an attempt in progress. -/
def inAttempt (c : Can) (s : State) : Option TxBuf := (s.can.ctl[c]).bufs.find? fun b => b.attempt.isSome

/-- The controller stops: an attempt in progress ends unsent. -/
def dropAttempts (c : Can) (s : State) : State :=
  match inAttempt c s with | some b => attemptEnds c b s | none => s

/-! ## Controller states (R332, R343) -/

/-- Enter a controller state: a stretch of 1 s in ACTIVE ends the count of consecutive bus-offs (R344). -/
def enterCan (c : Can) (st : CanSt) (s : State) : State :=
  updCan c (fun x =>
    { x with
      busOffs := if x.st == .active && st != .active && decide (x.activeAt + secP 1 ≤ s.now) then 0 else x.busOffs,
      activeAt := if st == .active && x.st != .active then s.now else x.activeAt,
      st := st }) s

/-- A begun frame's controller goes bus-off: it has not begun any longer (R336, R344). -/
def canBusOff (c : Can) (s : State) : State :=
  let s1 := enterCan c .busOff (dropAttempts c (s.bump (Ix.CAN_ERR_COUNT c.val) 8 8))
  let s2 := updCan c (fun x => { x with busOffs := x.busOffs + 1, busOffAt := s.now, recovering := false }) s1
  condFault 0x905 c.val true (endFault 0x904 c.val s2)

/-- The state follows the error counters (R343). -/
def canErrors (c : Can) (s : State) : State :=
  let x := s.can.ctl[c]
  if x.st == .active || x.st == .passive then
    if 255 < x.txErr then canBusOff c s
    else
      let passive := decide (128 ≤ x.txErr ∨ 128 ≤ x.rxErr)
      condFault 0x904 c.val passive (enterCan c (if passive then .passive else .active) s)
  else s

/-- The controller leaves CONFIG, or a stop, and integrates; an invalid timing keeps it in CONFIG (R325, R332). -/
def canIntegrate (c : Can) (s : State) : State :=
  if canMode c s = 0 then
    enterCan c .off (updCan c (fun x => { x with timingBad := false, timingWait := false, stuck := false }) (dropAttempts c s))
  else
    let ok := canTimingOk c s
    let s1 := updCan c (fun x => { x with timingBad := !ok, timingWait := false, stuck := false }) (dropAttempts c s)
    condFault 0x900 c.val (!ok) (enterCan c (if ok then .integrating else .config) s1)

/-- Step 5 of a start: every controller leaves CONFIG and the terminations follow TERM (R322, R332). -/
def canStart (s : State) : State :=
  forEach (List.finRange 3) (fun c t =>
    canIntegrate c (updCan c (fun x => { x with term := t.flag (Ix.CAN_CFG c.val) 3, bufs := [], rx := [] }) t)) s

/-- A committed change of a channel's mode or timing waits for the next bus idle (R325); TERM acts at once (R322). -/
def canConfigChange (c : Can) (s : State) : State :=
  updCan c (fun x => { x with term := s.flag (Ix.CAN_CFG c.val) 3, timingWait := true }) s

/-- CAN_TIMING_APPLY: bus idle at an instant. In bus sleep the decoder takes the words at once and the controller when it wakes; bus-off
outlasts a valid change (assumption log 64). -/
def timingApply (c : Can) (at_ : Nat) (s0 : State) : State :=
  let x := s0.can.ctl[c]
  if x.timingWait && !x.bufs.any (fun b => begunNow c b s0) then
    let s := s0.reach at_
    if canMode c s != 0 && (x.st == .sleep || (x.st == .busOff && canTimingOk c s)) then
      updCan c (fun y => { y with timingWait := false }) s
    else canIntegrate c s
  else s0

/-- Eleven recessive bits have been read (R332, R343, R345). -/
def integrated (c : Can) (at_ : Nat) (s0 : State) : State :=
  let s := s0.reach at_
  let x := s.can.ctl[c]
  let s1 := onlyIf x.stuck (fun t => endFault 0x906 c.val (updCan c (fun y => { y with stuck := false }) t)) s
  if x.st == .integrating then canErrors c (enterCan c .active s1) else s1

/-- CAN_INTEGRATION_COMPLETE (R332). -/
def execCanIntegrationComplete (c : Can) (at_ : Nat) (s : State) : Host.Outcome State Fault Refusal :=
  doneFor .coreRun s fun s => integrated c at_ s

/-! ## Buffers (R334–R337) -/

/-- Put a frame into a buffer (R334). -/
def putBuffer (c : Can) (buf : Nat) (f : CanFrame) (single : Bool) (s : State) : State :=
  match (s.can.ctl[c]).bufs.find? fun b => b.buf == buf with
  | none =>
    updCan c (fun x => { x with bufs := x.bufs ++
      [{ buf := buf, frame := f, single := single, attempt := none, cancel := false, next := none }] }) s
  | some b =>
    let ended := b.attempt.isNone || b.next.isSome
    let s1 := onlyIf ended (fun t => t.bump (Ix.CAN_TX_COUNT c.val) 16 8) s
    updCan c (fun x => { x with bufs := x.bufs.map fun y =>
      if y.buf == buf then (if y.attempt.isNone then { y with frame := f, single := single } else { y with next := some f })
      else y }) s1

/-- Cancel the frame of a buffer (R336). -/
def cancelBuffer (c : Can) (buf : Nat) (s0 : State) : State :=
  let s := updCan c (fun _ => settleArb c s0) s0
  match (s.can.ctl[c]).bufs.find? fun b => b.buf == buf with
  | none => s
  | some b =>
    if b.attempt.isNone then cancelResult c buf 1 (freeBuffer c buf s)
    else if begunNow c b s then cancelResult c buf 2 s
    else updCan c (fun x => { x with bufs := x.bufs.map fun y => if y.buf == buf then { y with cancel := true } else y }) s

/-- Cancel the buffers whose bits of a write to `CAN_TXB_PEND_LO_c` or `_HI_c` are 1 (R336). -/
def cancelMask (c : Can) (lo : Nat) (v : Word) (s : State) : State :=
  forEach (List.range 32) (fun k t => if bit v k then cancelBuffer c (lo + k) t else t) s

/-- The buffer the controller offers: the lowest arbitration field, then the lower number (R335). -/
def offered (x : CanC) : Option TxBuf :=
  x.bufs.foldl (fun a b => match a with
    | none => some b
    | some m =>
      if arbKey b.frame < arbKey m.frame ∨ (arbKey b.frame = arbKey m.frame ∧ b.buf < m.buf) then some b else some m) none

/-- The controller may start an attempt: ACTIVE or PASSIVE, not stuck, not listen-only, none in progress (Table 14-5, R342,
R345). -/
def canSends (c : Can) (s : State) : Bool :=
  let x := s.can.ctl[c]
  (x.st == .active || x.st == .passive) && !x.stuck && testMode c s != 3 && x.bufs.all fun b => b.attempt.isNone

/-- An attempt's start of frame; an FD frame in PASSIVE carries ESI recessive (R335, R343). -/
def txAttempt (c : Can) (at_ : Nat) (s0 : State) : State :=
  let s := s0.reach at_
  if canSends c s then
    match offered (s.can.ctl[c]) with
    | none => s
    | some b =>
      let esi := b.frame.fdf && (s.can.ctl[c]).st == .passive
      updCan c (fun x => { x with bufs := x.bufs.map fun y =>
        if y.buf == b.buf then { y with attempt := some s.now, frame := { y.frame with esi := esi } } else y }) s
  else s

/-- CAN_TX_ATTEMPT (R335). -/
def execCanTxAttempt (c : Can) (at_ : Nat) (s : State) : Host.Outcome State Fault Refusal :=
  doneFor .coreRun s fun s => txAttempt c at_ s

/-- An attempt loses arbitration (R336). -/
def arbLost (c : Can) (s : State) : State :=
  match inAttempt c s with | some b => attemptEnds c b s | none => s

/-- CAN_ARBITRATION_LOST (R336). -/
def execCanArbitrationLost (c : Can) (s : State) : Host.Outcome State Fault Refusal := doneFor .coreRun s fun s => arbLost c s

/-! ## Stamps (R341) -/

/-- The 1 µs count at an instant. -/
def usAt (t : Nat) (s : State) : Nat := (t - s.freeBase) / 40 % 2 ^ 32

/-- The angle stamp of an instant and whether it is valid; without a named clock the stamp is a free value. -/
def angleStamp (c : Can) (t : Nat) (s : State) : Nat × Bool :=
  let k := s.fld (Ix.CAN_STAMP c.val) 0 4
  if k < 8 then
    let p := s.tt.clocks[pcOf k]
    (p.shownAt t % 2 ^ 32, p.st == .tracking || p.st == .coasting)
  else (s.freeWord.toNat, false)

/-- The successful transmission of the frame in progress: stamps, counters, and the buffer is free (R341, R334, R326). `tdc` is
the transmitter delay measured in 25 ns steps. -/
def txSuccess (c : Can) (at_ tdc : Nat) (s0 : State) : State :=
  let s1 := s0.reach at_
  let s := updCan c (fun _ => settleArb c s1) s1
  match inAttempt c s with
  | none => s
  | some b =>
    let sof := b.attempt.getD s.now
    let st := angleStamp c sof s
    let s2 := ((s.putNat (Ix.CAN_TX_STAMP c.val) (usAt sof s)).putNat (Ix.CAN_TX_ASTAMP c.val) st.1).useFree
    let s3 := s2.bump (Ix.CAN_TX_COUNT c.val) 0 16
    let s4 := if b.frame.fdf && b.frame.brs && s.flag (Ix.CAN_DBT c.val) 18 then
        (s3.putFld (Ix.CAN_TDC_MEAS c.val) 0 7 (Nat.min 127 tdc)).peak (Ix.CAN_TDC_MEAS c.val) 8 7 (Nat.min 127 tdc)
      else s3
    canErrors c (updCan c (fun x => { x with txErr := x.txErr - 1, lastFrame := s.now }) (freeBuffer c b.buf s4))

/-! ## Errors (R343–R345) -/

/-- Error counters after an error (R343; ISO 11898-1, assumption log 20): `tx` for the transmitter, `exempt` for its error that
does not count, `more` the further steps of 8. -/
def countError (tx exempt : Bool) (more : Nat) (x : CanC) : CanC :=
  if tx then { x with txErr := x.txErr + (if exempt then 0 else 8) + 8 * more }
  else { x with rxErr := Nat.min 255 (x.rxErr + (if exempt then 0 else 1) + 8 * more) }

/-- The wake-up-frame decoder's counter in bus sleep (R372). -/
def decoderError (c : Can) (kind : Nat) (fdf : Bool) (s : State) : State :=
  if !fdf && (kind == 1 || kind == 2 || kind == 6) && s.flag (Ix.NM_CFG c.val) 9 then
    updNm c (fun x => { x with decErr := x.decErr + 1 }) s
  else s

/-- An error on the bus at an instant (R343): kind as in `CAN_STATUS_c`. -/
def errorFrame (c : Can) (at_ kind : Nat) (tx exempt fdf : Bool) (more : Nat) (s0 : State) : State :=
  let s1 := s0.reach at_
  let s := updCan c (fun _ => settleArb c s1) s1
  let x := s.can.ctl[c]
  if x.st == .active || x.st == .passive then
    let s2 := updCan c (fun y => { y with lastErr := kind % 8 }) s
    if testMode c s = 3 then s2
    else
      let s3 := updCan c (countError tx exempt more) (s2.bump (Ix.CAN_ERR_COUNT c.val) 0 8)
      let s4 := if tx then (match inAttempt c s3 with | some b => attemptEnds c b s3 | none => s3) else s3
      canErrors c s4
  else s

/-- CAN_ERROR_FRAME (R343); on a channel asleep the decoder of AO sees the error, in PARK too (R372). -/
def execCanErrorFrame (c : Can) (at_ kind : Nat) (tx exempt fdf : Bool) (more : Nat) (s : State) :
    Host.Outcome State Fault Refusal :=
  if (s.can.ctl[c]).st == .sleep then done s (decoderError c kind fdf (s.reach at_))
  else doneFor .coreRun s fun s => errorFrame c at_ kind tx exempt fdf more s

/-- A recessive res bit: the protocol exception event, or a form error with DIS_EXC set (R343, Table 14-1). -/
def protocolException (c : Can) (at_ : Nat) (s0 : State) : State :=
  let s := s0.reach at_
  if s.flag (Ix.CAN_CFG c.val) 2 then errorFrame c at_ 2 false false true 0 s
  else if (s.can.ctl[c]).st == .active || (s.can.ctl[c]).st == .passive then
    enterCan c .integrating
      (updCan c (fun x => { x with lastErr := 7 }) (s.bump (Ix.CAN_ERR_COUNT c.val) 24 8))
  else s

/-- CAN_PROTOCOL_EXCEPTION (R343). -/
def execCanProtocolException (c : Can) (at_ : Nat) (s : State) : Host.Outcome State Fault Refusal :=
  doneFor .coreRun s fun s => protocolException c at_ s

/-- The wait of AUTO ends: HOLD, or SLOW from the QUICK-th consecutive bus-off on (R344). -/
def busOffWait (c : Can) (s : State) : Nat :=
  let w := Ix.CAN_BUSOFF c.val
  msP (if s.fld w 12 4 ≤ (s.can.ctl[c]).busOffs then s.fld w 16 16 else s.fld w 2 10)

/-- HOLD or SLOW has run: recovery begins (R344). -/
def holdExpiry (c : Can) (s : State) : State :=
  let x := s.can.ctl[c]
  if x.st == .busOff && !x.recovering && s.fld (Ix.CAN_BUSOFF c.val) 0 2 == 0 then
    updCan c (fun y => { y with recovering := true }) (s.reach (x.busOffAt + busOffWait c s))
  else s

/-- CAN_BUSOFF_HOLD_EXPIRY (R344). -/
def execCanBusoffHoldExpiry (c : Can) (s : State) : Host.Outcome State Fault Refusal := doneFor .coreRun s fun s => holdExpiry c s

/-- 128 occurrences of 11 recessive bits: the controller is ACTIVE with both counters at 0 (R344, ISO 11898-1). -/
def recoveryDone (c : Can) (at_ : Nat) (s0 : State) : State :=
  let s := s0.reach at_
  if (s.can.ctl[c]).st == .busOff && (s.can.ctl[c]).recovering then
    endFault 0x905 c.val
      (enterCan c .active (updCan c (fun x => { x with txErr := 0, rxErr := 0, recovering := false }) s))
  else s

/-- CAN_RECOVERY_DONE (R344). -/
def execCanRecoveryDone (c : Can) (at_ : Nat) (s : State) : Host.Outcome State Fault Refusal :=
  doneFor .coreRun s fun s => recoveryDone c at_ s

/-- A 1 in `CAN_RECOVER_c` starts recovery in MANUAL (R344). -/
def canRecover (c : Can) (v : Word) (s : State) : State :=
  if bit v 0 && (s.can.ctl[c]).st == .busOff && s.fld (Ix.CAN_BUSOFF c.val) 0 2 == 1 then
    updCan c (fun x => { x with recovering := true }) s
  else s

/-- The bus was dominant for 2 ms (R345). -/
def busStuck (c : Can) (at_ : Nat) (s0 : State) : State :=
  let s := s0.reach at_
  if (s.can.ctl[c]).st == .off then s
  else condFault 0x906 c.val true (updCan c (fun x => { x with stuck := true }) (dropAttempts c s))

/-- CAN_BUS_STUCK (R345). -/
def execCanBusStuck (c : Can) (at_ : Nat) (s : State) : Host.Outcome State Fault Refusal :=
  doneFor .coreRun s fun s => busStuck c at_ s

/-! ## Releases (R333) -/

/-- The least of `base + k × per` beyond a limit. -/
def gridAfter (base per limit : Nat) : Nat :=
  if limit < base then base else base + Nat.max per 1 * ((limit - base) / Nat.max per 1 + 1)

/-- The cyclic release event of a transmit entry: on FREE from T0 + PHASE, on a phase clock from the start angle (R333). -/
def releaseSpec (c : Can) (f : CanFrameCfg) (s : State) : Option EventSpec :=
  if f.clock = 8 then
    if f.time = 0 then none
    else
      let per := msP f.time
      some (freeEvent (gridAfter (s.bn.t0 + usP f.phase) per (s.now + horizonP s)) 0 per (.canRelease c f.buffer) 6 s)
  else
    let per := 65536 / 2 ^ (f.time % 8)
    let lim := (s.tt.clocks[pcOf f.clock]).estimate (s.now + horizonP s + 1)
    some { clock := f.clock, due := gridAfter (2 ^ 32 + f.phase % 65536) per lim % 2 ^ 32, rep := 0, period := per,
           act := .canRelease c f.buffer, pool := 6 }

/-- The transmit entries of a channel with their numbers. -/
def txEntries (c : Can) (s : State) : List (CanFrameCfg × Nat) :=
  s.can.db.frames.zipIdx.filter fun p => p.1.tx && p.1.chan == c.val

/-- The receive entries of a channel with their numbers. -/
def rxEntries (c : Can) (s : State) : List (CanFrameCfg × Nat) :=
  s.can.db.frames.zipIdx.filter fun p => !p.1.tx && p.1.chan == c.val

/-- Post the cyclic releases of a channel (R333, R368). -/
def postReleases (c : Can) (s : State) : State :=
  forEach (txEntries c s) (fun p t => match releaseSpec c p.1 t with | some e => servicePost [e] t | none => t) s

/-- Cancel the release events of a channel's CANDB buffers. -/
def cancelReleases (c : Can) (s : State) : State :=
  let mine := s.tt.events.filter fun e => match e.spec.act with | .canRelease d b => d == c && decide (b < 56) | _ => false
  let s1 := forEach mine (fun e t => cancelHandle (e.slot, e.gen) t) s
  { s1 with tt := { s1.tt with waiting := s1.tt.waiting.filter fun g => !g.group.any fun e =>
      match e.act with | .canRelease d b => d == c && decide (b < 56) | _ => false } }

/-- Cancel the CANDB frames of a channel that have not begun (R368). -/
def cancelFrames (c : Can) (s : State) : State :=
  forEach ((s.can.ctl[c]).bufs.filter fun b => decide (b.buf < 56)) (fun b t => cancelBuffer c b.buf t) s

/-- The frame of a transmit entry with a payload. -/
def entryFrame (f : CanFrameCfg) (d : List Byte) : CanFrame :=
  { id := f.id, ide := f.ide, fdf := f.fdf, brs := f.brs, esi := false, dlc := f.dlc, data := d }

/-- The channel transmits everything (Table 15-1). -/
def nmOpen (c : Can) (s : State) : Bool := (s.nm.can[c]).st == .awake || (s.nm.can[c]).st == .ready

/-- A release event of a CANDB buffer fires: the payload enters the buffer, which becomes pending (R333). -/
def releaseFrame (c : Can) (buf slot : Nat) (s : State) : State :=
  match txEntry c buf s with
  | none => s
  | some n =>
    match s.can.db.frames[n]? with
    | none => s
    | some f =>
      let kept := match s.can.entries[n]? with | some x => x.payload.lookup slot | none => none
      let d := kept.getD (assemble n s)
      let s1 := updEntry n (fun x => { x with payload := x.payload.filter (·.1 != slot), releasedAt := some s.now }) s
      if nmOpen c s && !(s.can.ctl[c]).noTx && (s.can.ctl[c]).st != .off then putBuffer c buf (entryFrame f d) f.single s1
      else s1

/-- The single releases of an entry that wait on FREE. -/
def singles (c : Can) (buf : Nat) (s : State) : List Event :=
  s.tt.events.filter fun e => e.spec.act == .canRelease c buf && e.spec.rep == 1

/-- A hand-over that changed a signal of an ON_CHANGE entry adds one single release (R333): none while one that is not
committed waits, for its payload takes the change. -/
def releaseOnChange (n : Nat) (s : State) : State :=
  match s.can.db.frames[n]? with
  | none => s
  | some f =>
    if h : f.chan < 3 then
      let c : Can := ⟨f.chan, h⟩
      let mine := singles c f.buffer s
      if !f.onChange || !nmOpen c s || (s.can.ctl[c]).noTx || mine.any (fun e => !e.isCommitted s) then s
      else
        let last := match s.can.entries[n]? with | some x => x.releasedAt | none => none
        let times := last.toList ++ mine.map fun e => e.commitAt
        let t := times.foldl (fun a b => Nat.max a (b + msP 5)) (soonest s)
        postFree t (.canRelease c f.buffer) 6 s
    else s

/-- A TX sink hands a value for a CANDB signal (R330, R333). -/
def handCan (sig : Nat) (v : Word) (s0 : State) : State :=
  let s := settle s0
  let old := s.can.tx.lookup sig
  let s1 : State := { s with can := { s.can with tx := (sig, v) :: s.can.tx.filter (·.1 != sig) } }
  match s.can.db.signals[sig]? with
  | some g => if old == some v then s1 else releaseOnChange g.frame s1
  | none => s1

/-! ## Reception (R338–R341) -/

/-- A receive entry matches a frame (R338). -/
def entryMatches (f : CanFrameCfg) (x : CanFrame) : Bool :=
  f.ide == x.ide && f.fdf == x.fdf && ((x.id ^^^ f.id) &&& f.mask) == 0

/-- The first receive entry of a channel that matches. -/
def firstMatch (c : Can) (x : CanFrame) (s : State) : Option (CanFrameCfg × Nat) :=
  (rxEntries c s).find? fun p => entryMatches p.1 x

/-- The channel has a receive entry turned stale by its timeout. -/
def anyRxStale (c : Can) (s : State) : Bool :=
  (rxEntries c s).any fun p => match s.can.entries[p.2]? with | some e => e.stale | none => false

/-- Set the stale flag of every signal of a receive entry, its stamps among them. -/
def staleEntry (n : Nat) (b : Bool) (s : State) : State :=
  forEach (signalsOf s.can.db.signals n) (fun p t => staleSource 6 p.2 b t)
    (staleSource 6 (0x1400 + n) b (staleSource 6 (0x1000 + n) b s))

/-- Publish the signals of a receive entry from a frame (R330, R331). -/
def publishEntry (n : Nat) (x : CanFrame) (stamp angle : Nat) (s : State) : State :=
  let s1 := forEach (signalsOf s.can.db.signals n) (fun p t => publishSource 6 p.2 (decodeField p.1 x.data) false t) s
  publishSource 6 (0x1400 + n) (toWord angle) false (publishSource 6 (0x1000 + n) (toWord stamp) false s1)

/-- A matched frame reaches the service: signals and record, or a length error that updates none (R338–R341). -/
def acceptEntry (c : Can) (x : CanFrame) (sof : Nat) (s : State) : State :=
  match firstMatch c x s with
  | none => s
  | some (f, n) =>
    let s1 := updEntry n (fun e => { e with lastAt := s.now, stale := false }) s
    let s2 := onlyIf (!anyRxStale c s1) (endFault 0x903 c.val) (staleEntry n false s1)
    if dlcLen x.dlc < dlcLen f.dlc then s2
    else
      let st := angleStamp c sof s2
      let s3 := updEntry n (fun e => { e with last := some x, stamp := usAt sof s2, angle := st.1, stampValid := st.2 }) s2
      publishEntry n x (usAt sof s2) st.1 s3.useFree

/-- Reception by the CANDB entries: counted, and queued for the service, which runs at once while the application pair does
(R338, R339). -/
def receiveEntries (c : Can) (x : CanFrame) (sof : Nat) (s : State) : State :=
  if (s.can.ctl[c]).noRx then s else
  match firstMatch c x s with
  | none => s.bump (Ix.CAN_RX_COUNT c.val) 16 16
  | some _ =>
    let s1 := s.bump (Ix.CAN_RX_COUNT c.val) 0 16
    if s.procs.app == .running then acceptEntry c x sof s1
    else if 64 ≤ (s.can.ctl[c]).rx.length then report 0x902 c.val (s1.bump (Ix.CAN_ERR_COUNT c.val) 16 8)
    else updCan c (fun y => { y with rx := y.rx ++ [(x, sof)] }) s1

/-- The queued frames reach the service after a restart of the application pair. -/
def drainRx (s : State) : State :=
  forEach (List.finRange 3) (fun c t =>
    let q := (t.can.ctl[c]).rx
    forEach q (fun p u => acceptEntry c p.1 p.2 u) (updCan c (fun y => { y with rx := [] }) t)) s

/-- The receive counter after a frame received without error (R343; ISO 11898-1, assumption log 20). -/
def rxGood (c : Can) (s : State) : State :=
  let free := 119 + s.freeWord.toNat % 9
  canErrors c (updCan c (fun x =>
    { x with rxErr := if 127 < x.rxErr then free else x.rxErr - 1, lastFrame := s.now }) s.useFree)

/-- A receive entry's TIME passes without a match (R340): CAN by entry of CANDB, LIN by entry of LINSCHED. -/
def rxTimeoutCan (n : Nat) (s : State) : State :=
  match s.can.db.frames[n]?, s.can.entries[n]? with
  | some f, some e =>
    if h : f.chan < 3 then
      let c : Can := ⟨f.chan, h⟩
      if f.tx || f.time == 0 || e.stale || (s.nm.can[c]).st == .busSleep || (s.nm.can[c]).st == .silent then s
      else
        report 0x903 c.val
          (staleEntry n true (updEntry n (fun x => { x with stale := true }) (s.reach (e.lastAt + msP f.time))))
    else s
  | _, _ => s

/-- The signals of the receive entries of a channel are stale in bus sleep (R368). -/
def staleChannel (c : Can) (s : State) : State := forEach (rxEntries c s) (fun p t => staleEntry p.2 true t) s

/-- Timeouts of a channel restart (R340, R368). -/
def restartTimeouts (c : Can) (s : State) : State :=
  forEach (rxEntries c s) (fun p t => updEntry p.2 (fun e => { e with lastAt := t.now }) t) s

/-- A write to `CAN_RX_SEL` latches the last frame of a receive entry (Table 14-8); zeros where there is none. -/
def rxSelect (n : Nat) (s : State) : State :=
  let s1 := s.putNat Ix.CAN_RX_SEL (n % 512)
  let ws : List Nat := match s.can.entries[n % 512]? with
    | some e =>
      (match e.last with
       | some x =>
         [x.id % 2 ^ 29 + packBits [x.ide, x.fdf, x.brs] * 2 ^ 29, x.dlc % 16 + packBits [x.esi, e.stampValid] * 2 ^ 4,
          e.stamp, e.angle]
       | none => [])
    | none => []
  forEach (List.range 4) (fun k t => t.putNat (Ix.CAN_RX_REC k) (ws.getD k 0)) s1

/-- A write to `CAN_TEST_c` (R342). -/
def canTest (c : Can) (v : Word) (s : State) : State := s.put (Ix.CAN_TEST c.val) (maskWord v 3)

/-- Run-time records of the CANDB entries when a database comes into force. -/
def freshEntries (db : CanDb) (now : Nat) : List CanEntry :=
  db.frames.map fun _ =>
    { last := none, stamp := 0, angle := 0, stampValid := false, lastAt := now, stale := false, payload := [],
      releasedAt := none }

end Sys2Proof.Machine
end

