-- ==== Sys2Proof/Machine/Lin.lean ====
section
/-!
DEFINITION. The LIN channels: schedule engine, responses, responder, and LIN sleep and wake (14_can_and_lin.md,
15_network_sleep.md).
-/
namespace Sys2Proof.Machine

/-! ## Frames of ISO 17987-3 -/

/-- The protected identifier: two parity bits above the identifier (R346; ISO 17987-3, assumption log 20). -/
def linPid (id : Nat) : Nat :=
  let b := fun k => nbits id k 1
  id % 64 + (b 0 + b 1 + b 2 + b 4) % 2 * 64 + (1 + b 1 + b 3 + b 4 + b 5) % 2 * 128

/-- The sum with end-around carry over bytes. -/
def carrySum (xs : List Nat) : Nat := xs.foldl (fun a b => if 256 ≤ a + b then a + b - 255 else a + b) 0

/-- The checksum of a response: classic over the data, enhanced over the protected identifier too (R346). -/
def linCheck (classic : Bool) (id : Nat) (d : List Byte) : Nat :=
  255 - carrySum ((if classic then [] else [linPid id]) ++ d.map (·.toNat))

/-- Frames 0x3C and 0x3D always use the classic checksum (R346). -/
def linClassic (f : LinFrameCfg) : Bool := f.classic || f.id == 0x3C || f.id == 0x3D

/-- A whole frame on the bus from the sync byte on. -/
def linFrame (classic : Bool) (id : Nat) (d : List Byte) : List Byte :=
  [0x55, BitVec.ofNat 8 (linPid id)] ++ d ++ [BitVec.ofNat 8 (linCheck classic id d)]

/-- ROLE of a channel: 0 unused, 1 commander, 2 responder. -/
def linRole (l : Lin) (s : State) : Nat := s.fld (Ix.LIN_CFG l.val) 0 2

/-- The response of a publish entry from the values handed over by now (R347, R349). -/
def linData (n : Nat) (f : LinFrameCfg) (s : State) : List Byte := packData s.lin.sched.signals s.lin.tx n f.len

/-- Bus activity at this instant. -/
def linActive (l : Lin) (s : State) : State := updNmLin l (fun x => { x with lastBus := s.now }) s

/-! ## The schedule engine (R347, R348) -/

/-- The table `LIN_SCHED_l` names now, 0xFF for none; a number that names no table of the channel stops the schedule. -/
def wantTable (l : Lin) (s : State) : Nat :=
  let sig := s.fld (Ix.LIN_SCHED l.val) 0 11
  let n := if sig = 0x7FF then s.fld (Ix.LIN_SCHED l.val) 16 8 else (sigValue sig s).toNat
  match s.lin.sched.tables[n]? with
  | some t => if t.chan = l.val then n else 0xFF
  | none => 0xFF

/-- Put a table in force from its first slot at an instant; 0xFF stops the schedule. -/
def linTable (l : Lin) (t at_ : Nat) (s : State) : State :=
  updLin l (fun x =>
    if t = 0xFF then { x with status := 2, chosen := t, resume := none }
    else { x with status := 1, table := t, nextSlot := 0, nextAt := at_, chosen := t, resume := none }) s

/-- A channel takes its role: a commander's schedule starts at its first slot (R346, R348). -/
def linBegin (l : Lin) (at_ : Nat) (s : State) : State :=
  if linRole l s = 0 then updLin l (fun x => { x with status := 0 }) (updNmLin l (fun x => { x with st := 0 }) s)
  else
    let s1 := updNmLin l (fun x => { x with st := 1, readyAt := at_, lastBus := at_, pulses := 0 }) s
    let s2 := updLin l (fun x => { x with header := none, sent := [], diag := [] }) s1
    if linRole l s = 1 then linTable l (wantTable l s2) at_ s2 else updLin l (fun x => { x with status := 1 }) s2

/-- Step 6 of a start. -/
def linStart (s : State) : State := forEach (List.finRange 2) (fun l t => linBegin l t.bn.t0 t) s

/-- The application pair has restarted: the schedule of a commander that is awake starts at its first slot, a responder has gone on
(ch. 14 Edges). -/
def linRestart (s : State) : State :=
  forEach (List.finRange 2) (fun l t =>
    if linRole l t = 1 ∧ (t.nm.lin[l]).st = 1 then linTable l (wantTable l t) t.bn.t0 t else t) s

/-- Put a header, and the response of an own frame, on the bus. -/
def linHeader (l : Lin) (h : LinHdr) (bytes : List Byte) (s : State) : State :=
  linActive l (updLin l (fun x => { x with header := some h, sent := bytes }) s)

/-- Send the frame of an entry: header, and the response where it is published. -/
def linSend (l : Lin) (n : Nat) (s : State) : State :=
  match s.lin.sched.frames[n]? with
  | none => s
  | some f =>
    let h : LinHdr := { id := f.id, entry := some n }
    if f.dir = 1 then
      let s1 := linHeader l h (linFrame (linClassic f) f.id (linData n f s)) s
      { s1 with lin := { s1.lin with changed := s1.lin.changed.filter (· != n) } }
    else linHeader l h [0x55, BitVec.ofNat 8 (linPid f.id)] s

/-- A diagnostic slot: the queue's head, or silence (R347). -/
def linDiag (l : Lin) (n : Nat) (s : State) : State :=
  match (s.lin.ch[l]).diag with
  | [] => updLin l (fun x => { x with header := none, sent := [] }) s
  | some d :: rest =>
    linHeader l { id := 0x3C, entry := some n } (linFrame true 0x3C d) (updLin l (fun x => { x with diag := rest }) s)
  | none :: rest =>
    linHeader l { id := 0x3D, entry := some n } [0x55, BitVec.ofNat 8 (linPid 0x3D)] (updLin l (fun x => { x with diag := rest }) s)

/-- What a slot sends (R347). -/
def linSlot (l : Lin) (sl : LinSlotCfg) (s : State) : State :=
  match s.lin.sched.frames[sl.frame]? with
  | none => s
  | some f =>
    if f.typ = 2 then
      match [sl.frame, sl.second, sl.third].find? s.lin.changed.contains with
      | some n => linSend l n s
      | none => updLin l (fun x => { x with header := none, sent := [] }) s
    else if f.typ = 3 then linDiag l sl.frame s
    else linSend l sl.frame s

/-- Run the next slot of the table in force. -/
def linRun (l : Lin) (s : State) : State :=
  let x := s.lin.ch[l]
  match s.lin.sched.tables[x.table]? with
  | none => s
  | some t =>
    match s.lin.sched.slots[t.first + x.nextSlot]? with
    | none => s
    | some sl =>
      linSlot l sl (updLin l (fun y => { y with slot := y.nextSlot, nextSlot := y.nextSlot + 1, nextAt := s.now + 4000 * sl.delay }) s)

/-- The slots of a table. -/
def tableLen (t : Nat) (s : State) : Nat := match s.lin.sched.tables[t]? with | some x => x.count | none => 0

/-- At the end of a table: a collision table gives way to the interrupted one, a RUN_ONCE table stops, another begins again
(R348). -/
def linWrap (l : Lin) (s : State) : State :=
  let x := s.lin.ch[l]
  if x.nextSlot < tableLen x.table s then s
  else
    match x.resume with
    | some (t, k) =>
      let s1 := s.bump (Ix.LIN_FRAMES l.val) 16 16
      updLin l (fun y => { y with table := t, nextSlot := if k < tableLen t s then k else 0, resume := none }) s1
    | none =>
      match s.lin.sched.tables[x.table]? with
      | some t => updLin l (fun y => if t.once then { y with status := 2 } else { y with nextSlot := 0 }) s
      | none => s

/-- LIN_SLOT_START: the slot that is due starts, after a table change (R348); the engine pauses in the CRANK band (R352) and
stops with the application pair. A stopped schedule starts at `at_` once another table is named. -/
def slotStart (l : Lin) (at_ : Nat) (s : State) : State :=
  let x := s.lin.ch[l]
  if linRole l s != 1 || (s.nm.lin[l]).st != 1 then s
  else if x.status = 1 then
    let s1 := s.reach x.nextAt
    if s.procs.app != .running then updLin l (fun y => { y with status := 2 }) s1
    else if s.band == .crank then updLin l (fun y => { y with status := 3 }) s1
    else
      let s2 := if wantTable l s1 = x.chosen then linWrap l s1 else linTable l (wantTable l s1) s1.now s1
      if (s2.lin.ch[l]).status = 1 then linRun l s2 else s2
  else if x.status = 2 && s.procs.app == .running && wantTable l s != x.chosen && wantTable l s != 0xFF then
    let s1 := s.reach at_
    linRun l (linTable l (wantTable l s1) s1.now s1)
  else if x.status = 2 && wantTable l s != x.chosen then linTable l (wantTable l s) at_ s
  else s

/-- LIN_SLOT_START (R347). -/
def execLinSlotStart (l : Lin) (at_ : Nat) (s : State) : Host.Outcome State Fault Refusal :=
  doneFor .coreRun s fun s => slotStart l at_ s

/-- The signals of a LINSCHED entry are stale, or not. -/
def staleLin (n : Nat) (b : Bool) (s : State) : State := forEach (signalsOf s.lin.sched.signals n) (fun p t => staleSource 7 p.2 b t) s

/-- The CRANK band begins or ends (R352): kind 7 signals are stale within it; paused schedules resume with the next slot, and an entry
whose timeout has not passed is fresh again. -/
def linBand (s : State) : State :=
  if s.band == .crank then
    forEach (List.range s.lin.sched.signals.length) (fun k t => staleSource 7 k true t) s
  else
    forEach (List.finRange 2) (fun l t =>
      if (t.lin.ch[l]).status = 3 then updLin l (fun y => { y with status := 1, nextAt := t.now }) t else t)
      (forEach s.lin.rx (fun e t => if e.2.2 then t else staleLin e.1 false t) s)

/-! ## Responses (R348, R350) -/

/-- The reception record of a LINSCHED entry. -/
def putLinRx (n : Nat) (stale : Bool) (s : State) : State :=
  { s with lin := { s.lin with rx := (n, s.now, stale) :: s.lin.rx.filter (·.1 != n) } }

/-- A response is accepted: its signals are published (R350, R351). -/
def linAccept (l : Lin) (n : Nat) (d : List Byte) (s : State) : State :=
  let s1 := putLinRx n false (s.bump (Ix.LIN_FRAMES l.val) 0 16)
  forEach (signalsOf s.lin.sched.signals n) (fun p t => publishSource 7 p.2 (decodeField p.1 d) (s.band == .crank) t) s1

/-- A collision in an event-triggered slot: the frame's collision table runs once (R348). -/
def linCollision (l : Lin) (f : LinFrameCfg) (s : State) : State :=
  updLin l (fun x =>
    { x with resume := some (x.resume.getD (x.table, x.nextSlot)), table := f.collision, nextSlot := 0 }) s

/-- The channel enters BUS_SLEEP and its schedule stops (R378). -/
def linSleep (l : Lin) (s : State) : State :=
  updNmLin l (fun x => { x with st := 4, pulses := 0, need := false })
    (updLin l (fun x => { x with status := 2, chosen := 0xFF, header := none }) s)

/-- The go-to-sleep command of ISO 17987 (R378). -/
def goToSleepData : List Byte := [0x00, 0xFF, 0xFF, 0xFF, 0xFF, 0xFF, 0xFF, 0xFF]

/-- A response that is neither an own frame nor a collision is checked (Table 14-7). -/
def linChecked (l : Lin) (h : LinHdr) (f : LinFrameCfg) (n : Nat) (d : List Byte) (check : Byte) (framing : Bool) (s : State) : State :=
  let bad := check.toNat != linCheck (linClassic f) h.id d
  if (framing || bad) && f.typ == 1 && linRole l s == 1 then linCollision l f s
  else if framing then report 0x912 l.val (s.bump (Ix.LIN_ERR_COUNT l.val) 16 8)
  else if bad then report 0x911 l.val (s.bump (Ix.LIN_ERR_COUNT l.val) 8 8)
  else linAccept l n d s

/-- The response to the header on the bus is complete (Table 14-7): of another node, or the own one as it was read back. -/
def linResponse (l : Lin) (at_ : Nat) (d : List Byte) (check : Byte) (framing bitError : Bool) (s0 : State) : State :=
  let s := linActive l (s0.reach at_)
  match (s.lin.ch[l]).header with
  | none => s
  | some h =>
    let s1 := updLin l (fun x => { x with header := none }) s
    let own := match h.entry with
      | some n => (match s.lin.sched.frames[n]? with | some f => f.dir == 1 || (f.typ == 3 && h.id == 0x3C && linRole l s == 1) | none => false)
      | none => false
    if own then
      if bitError then report 0x913 l.val (s1.bump (Ix.LIN_ERR_COUNT l.val) 24 8) else s1.bump (Ix.LIN_FRAMES l.val) 0 16
    else if h.id = 0x3C ∧ linRole l s = 2 ∧ d = goToSleepData ∧ check.toNat = linCheck true 0x3C d ∧ !framing then linSleep l s1
    else
      match h.entry with
      | none => s1
      | some n =>
        match s.lin.sched.frames[n]? with
        | some f => if f.dir = 0 then linChecked l h f n d check framing s1 else s1
        | none => s1

/-- LIN_RESPONSE_RECEIVED (R350). -/
def execLinResponseReceived (l : Lin) (at_ : Nat) (data : List Byte) (check : Byte) (framing bitError : Bool) (s : State) :
    Host.Outcome State Fault Refusal := doneFor .coreRun s fun s => linResponse l at_ data check framing bitError s

/-- A subscribed response is incomplete at the frame's maximum time, 1.4 × (34 + 10 × (LEN + 1)) bits from the header's start
(Table 14-7, R347). -/
def linNoResponse (l : Lin) (s : State) : State :=
  match (s.lin.ch[l]).header with
  | none => s
  | some h =>
    match h.entry.bind fun n => s.lin.sched.frames[n]? with
    | none => s
    | some f =>
      if linRole l s = 1 ∧ f.dir = 0 then
        let bits := 14 * (34 + 10 * (f.len + 1))
        let t := (s.nm.lin[l]).lastBus + ceilDiv (bits * 4000000) (Nat.max 1 (s.fld (Ix.LIN_CFG l.val) 16 15))
        report 0x910 l.val ((updLin l (fun x => { x with header := none }) (s.reach t)).bump (Ix.LIN_ERR_COUNT l.val) 0 8)
      else s

/-- LIN_NO_RESPONSE (R350). -/
def execLinNoResponse (l : Lin) (s : State) : Host.Outcome State Fault Refusal := doneFor .coreRun s fun s => linNoResponse l s

/-- A header arrives at a responder (R349, Table 14-7). -/
def linHeaderRx (l : Lin) (at_ : Nat) (pid : Byte) (syncOk : Bool) (s0 : State) : State :=
  let s1 := s0.reach at_
  if linRole l s1 != 2 || (s1.nm.lin[l]).st != 1 then s1
  else
    let s := updNmLin l (fun x => { x with pulses := 0 }) (linActive l s1)
    let id := pid.toNat % 64
    if !syncOk || linPid id != pid.toNat then report 0x914 l.val (s.bump (Ix.LIN_ERR_COUNT l.val) 16 8)
    else
      match s.lin.sched.frames.findIdx? fun f => f.chan == l.val && f.id == id with
      | some n =>
        (match s.lin.sched.frames[n]? with
         | some f =>
           let h : LinHdr := { id := id, entry := some n }
           if f.dir = 1 then
             let s2 := linHeader l h ((linFrame (linClassic f) id (linData n f s)).drop 2) s
             { s2 with lin := { s2.lin with changed := s2.lin.changed.filter (· != n) } }
           else updLin l (fun x => { x with header := some h, sent := [] }) s
         | none => s)
      | none => updLin l (fun x => { x with header := some { id := id, entry := none }, sent := [] }) s

/-- LIN_HEADER_RECEIVED (R349). -/
def execLinHeaderReceived (l : Lin) (at_ : Nat) (pid : Byte) (syncOk : Bool) (s : State) : Host.Outcome State Fault Refusal :=
  doneFor .coreRun s fun s => linHeaderRx l at_ pid syncOk s

/-- A TX sink hands a value for a LIN signal (R351). -/
def handLin (sig : Nat) (v : Word) (s : State) : State :=
  let old := s.lin.tx.lookup sig
  let s1 : State := { s with lin := { s.lin with tx := (sig, v) :: s.lin.tx.filter (·.1 != sig) } }
  match s.lin.sched.signals[sig]? with
  | some g =>
    if old == some v || s.lin.changed.contains g.frame then s1
    else { s1 with lin := { s1.lin with changed := g.frame :: s1.lin.changed } }
  | none => s1

/-- The timeout of a subscribe entry (R350). -/
def rxTimeoutLin (n : Nat) (s : State) : State :=
  match s.lin.sched.frames[n]? with
  | none => s
  | some f =>
    match s.lin.rx.find? (·.1 == n) with
    | some (_, t, false) =>
      if f.dir != 0 || f.timeout == 0 then s
      else
        let s1 := s.reach (t + msP f.timeout)
        staleLin n true { s1 with lin := { s1.lin with rx := (n, t, true) :: s1.lin.rx.filter (·.1 != n) } }
    | _ => s

/-- CAN_RX_TIMEOUT (R340; for LIN R350). -/
def execCanRxTimeout (lin : Bool) (entry : Nat) (s : State) : Host.Outcome State Fault Refusal :=
  doneFor .pair s fun s => if lin then rxTimeoutLin entry s else rxTimeoutCan entry s

/-- Reception records when a LINSCHED comes into force: the timeouts run from then (R340, R350). -/
def freshLinRx (l : LinSched) (now : Nat) : List (Nat × Nat × Bool) :=
  (l.frames.zipIdx.filter fun p => p.1.dir == 0).map fun p => (p.2, now, false)

/-! ## LIN sleep and wake (R378, R379) -/

/-- A LIN channel wakes: a commander starts its table 100 ms after an instant. -/
def linWake (l : Lin) (t : Nat) (s : State) : State :=
  let s1 := updNmLin l (fun x => { x with st := 1, lastBus := s.now, readyAt := s.now }) s
  if linRole l s = 1 then linTable l (wantTable l s1) (t + msP 100) s1 else updLin l (fun x => { x with status := 1 }) s1

/-- Own need of a LIN channel (R378). -/
def linNeed (l : Lin) (s : State) : Bool :=
  let w := Ix.NM_LIN_CFG l.val
  let sig := s.fld w 0 11
  let can := s.fld w 12 2
  s.modes.mode == .ride || s.modes.mode == .workshop || (sig != 0x7FF && sigValue sig s != 0)
    || (s.flag w 11 && (if h : can < 3 then
          (match (s.nm.can[(⟨can, h⟩ : Can)]).st with | .busSleep | .silent => false | _ => true) else false))
    || decide (s.now < (s.nm.lin[l]).needUntil)

/-- Own need of a LIN channel is evaluated: its end starts READY, its return wakes a sleeping channel by a 1 ms pulse. -/
def linNeedChange (l : Lin) (s : State) : State :=
  let x := s.nm.lin[l]
  let need := linNeed l s
  if x.st = 0 then s
  else if need && x.st == 4 then
    let s1 := s.reach (s.now + msP 1)
    let until_ := if linRole l s = 2 then s1.now + msP (100 * s.fld (Ix.NM_LIN_TIME l.val) 0 8) else x.needUntil
    updNmLin l (fun y => { y with need := true, pulses := 1, pulseAt := s1.now, needUntil := until_ }) (linWake l s1.now s1)
  else if need then updNmLin l (fun y => { y with need := true }) s
  else if x.need then updNmLin l (fun y => { y with need := false, readyAt := s.now }) s
  else s

/-- A commander without need for READY sends go-to-sleep at the end of its slot; not while it is paused (R378). -/
def goToSleep (l : Lin) (s : State) : State :=
  let x := s.nm.lin[l]
  let t := Nat.max x.readyAt x.needUntil + msP (100 * s.fld (Ix.NM_LIN_TIME l.val) 0 8)
  let s1 := s.reach (if (s.lin.ch[l]).status = 1 then Nat.max t (s.lin.ch[l]).nextAt else t)
  if linRole l s != 1 || x.st != 1 || linNeed l s1 || (s.lin.ch[l]).status = 3 || s.band == .crank then s
  else
    linSleep l (updLin l (fun y => { y with sent := linFrame true 0x3C goToSleepData }) s1)

/-- LIN_GO_TO_SLEEP (R378). -/
def execLinGoToSleep (l : Lin) (s : State) : Host.Outcome State Fault Refusal := doneFor .coreRun s fun s => goToSleep l s

/-- A responder sees no bus activity for 4 s (R378). -/
def responderIdle (l : Lin) (s : State) : State :=
  if linRole l s = 2 ∧ (s.nm.lin[l]).st = 1 then linSleep l (s.reach ((s.nm.lin[l]).lastBus + secP 4)) else s

/-- LIN_RESPONDER_IDLE (R378). -/
def execLinResponderIdle (l : Lin) (s : State) : Host.Outcome State Fault Refusal := doneFor .coreRun s fun s => responderIdle l s

/-- A dominant level ends at an instant after `dur` base periods: strictly longer than 150 µs wakes the channel; not in PARK
(R379). -/
def linDominant (l : Lin) (at_ dur : Nat) (s0 : State) : State :=
  let s := s0.reach at_
  if (s.nm.lin[l]).st = 4 ∧ usP 150 < dur ∧ s.modes.mode ≠ .park then
    let ready := s.now + msP (100 * s.fld (Ix.NM_LIN_TIME l.val) 0 8)
    let s1 := s.putNat Ix.NM_WAKE_CAUSE (l.val + 4 + 5 * 2 ^ 4)
    linWake l s1.now (updNmLin l (fun x => { x with busWoken := true, needUntil := ready }) s1)
  else s

/-- LIN_WAKE_DOMINANT (R379). -/
def execLinWakeDominant (l : Lin) (at_ dur : Nat) (s : State) : Host.Outcome State Fault Refusal :=
  doneFor .coreRun s fun s => linDominant l at_ dur s

/-- No header within 200 ms of a responder's wake pulse: it repeats; after three it waits 1.5 s (R379). -/
def wakePulseTimeout (l : Lin) (s : State) : State :=
  let x := s.nm.lin[l]
  if linRole l s = 2 ∧ x.st = 1 ∧ 0 < x.pulses then
    let t := x.pulseAt + (if x.pulses < 3 then msP 200 else msP 1500)
    let s1 := s.reach (t + msP 1)
    updNmLin l (fun y => { y with pulses := if y.pulses < 3 then y.pulses + 1 else 1, pulseAt := s1.now }) s1
  else s

/-- LIN_WAKE_PULSE_TIMEOUT (R379). -/
def execLinWakePulseTimeout (l : Lin) (s : State) : Host.Outcome State Fault Refusal :=
  doneFor .coreRun s fun s => wakePulseTimeout l s

end Sys2Proof.Machine
end

