-- ==== Sys2Proof/Machine/Nm.lean ====
section
/-!
DEFINITION. Network management on the CAN channels: need, the sleep sequence, wakes, silent ignoring, false wakes and the
offender log (15_network_sleep.md).
-/
namespace Sys2Proof.Machine

/-! ## Settings -/

/-- ROLE of a channel: 0 NONE, 1 MASTER, 2 FOLLOWER; NONE under the holding configuration (R356). -/
def nmRole (c : Can) (s : State) : Nat := if s.boot.holding then 0 else s.fld (Ix.NM_CFG c.val) 0 2
/-- CYCLE. -/
def nmCycle (c : Can) (s : State) : Nat := msP (10 * s.fld (Ix.NM_TIME c.val) 0 8)
/-- READY. -/
def nmReady (c : Can) (s : State) : Nat := msP (100 * s.fld (Ix.NM_TIME c.val) 8 8)
/-- SILENCE. -/
def nmSilence (c : Can) (s : State) : Nat := msP (10 * s.fld (Ix.NM_TIME c.val) 16 8)
/-- OFFENDER. -/
def nmOffender (c : Can) (s : State) : Nat := secP (s.fld (Ix.NM_TIME c.val) 24 8)
/-- NM_IDLE. -/
def nmIdle (c : Can) (s : State) : Nat := msP (s.fld (Ix.NM_IDLE c.val) 0 16)
/-- SEL_WAKE, on CAN0 and CAN1 only (R370). -/
def selWake (c : Can) (s : State) : Bool := s.flag (Ix.NM_CFG c.val) 9 && decide (c.val < 2)

/-! ## Own need (R359, R362) -/

/-- Own need but for a wake's own READY (Table 15-3). -/
def realNeed (c : Can) (s : State) : Bool :=
  let sig := s.fld (Ix.NM_CFG c.val) 10 11
  s.modes.mode == .ride || s.modes.mode == .workshop || (sig != 0x7FF && sigValue sig s != 0)
    || decide (s.now < (s.nm.can[c]).needUntil) || (s.uds.session != 1 && s.uds.chan == c.val)

/-- Own need: a wake by another kind than 1, and a start, count as need for READY (R362). -/
def ownNeed (c : Can) (s : State) : Bool := realNeed c s || decide (s.now < (s.nm.can[c]).wakeUntil)

/-! ## The NM frame (R357) -/

/-- The CB7's NM frame (Table 15-2). -/
def nmFrame (c : Can) (s : State) : CanFrame :=
  let x := s.nm.can[c]
  let role := nmRole c s
  let node := s.fld (Ix.NM_CFG c.val) 2 6
  let sig := s.fld (Ix.NM_PN c.val) 0 11
  let prep := x.st == .prepare
  let flags := packBits [ownNeed c s && !prep, prep && role == 1, prep && role == 2,
    x.wakeKind == 1 && decide (s.now < x.wakeAt + nmReady c s), role == 1]
  let pn := if sig = 0x7FF then 0 else (sigValue sig s).toNat % 65536
  { id := s.fld (Ix.NM_BASE c.val) 0 11 + node, ide := false, fdf := false, brs := false, esi := false, dlc := 8,
    data := (leBytes node 1 ++ leBytes flags 1 ++ leBytes x.seq 1 ++ leBytes x.wakeKind 1 ++ leBytes pn 2 ++ [0, 0]) }

/-- A release event of buffer 56 fires: the NM frame enters the buffer while the channel sends NM frames (Table 15-1). -/
def releaseNm (c : Can) (s : State) : State :=
  let st := (s.nm.can[c]).st
  if nmRole c s != 0 && (st == .awake || st == .ready || st == .prepare) then putBuffer c 56 (nmFrame c s) false s else s

/-- The NM releases of a channel. -/
def nmEvents (c : Can) (s : State) : List Event := s.tt.events.filter fun e => e.spec.act == .canRelease c 56

/-- Stop the cyclic NM frames. -/
def stopNmCycle (c : Can) (s : State) : State := forEach (nmEvents c s) (fun e t => cancelHandle (e.slot, e.gen) t) s

/-- Start the cyclic NM frames at the instant R13 gives (R361). -/
def startNmCycle (c : Can) (s : State) : State :=
  if nmRole c s = 0 then s else servicePost [freeEvent (soonest s) 0 (nmCycle c s) (.canRelease c 56) 6 s] s

/-- One NM frame at the instant R13 gives. -/
def nmOnce (c : Can) (s : State) : State :=
  if nmRole c s = 0 then s else servicePost [freeEvent (soonest s) 1 0 (.canRelease c 56) 6 s] s

/-! ## The offender log (R377) -/

/-- The entry a full log gives up: the lowest count, and among equals the oldest last-seen time. -/
def offVictim (xs : List Offender) : Option Offender :=
  xs.foldl (fun a o => match a with
    | none => some o
    | some v => if o.count < v.count ∨ (o.count = v.count ∧ o.last < v.last) then some o else some v) none

/-- Two entries share one place. -/
def Offender.same (a b : Offender) : Bool := a.chan == b.chan && a.id == b.id && a.ide == b.ide && a.kind == b.kind

/-- Log an offender. -/
def logOffender (c : Can) (kind : Nat) (f : CanFrame) (nm : Bool) (s : State) : State :=
  let node := if nm then (f.data.getD 0 0).toNat % 64 else 0
  let o : Offender := { id := f.id, ide := f.ide, fdf := f.fdf, nm := nm, chan := c.val, kind := kind, node := node, count := 1,
                        first := s.rtcSecs, last := s.rtcSecs }
  let xs := s.nm.offenders
  let ys :=
    if xs.any o.same then
      xs.map fun x => if x.same o then { x with count := Nat.min 65535 (x.count + 1), last := s.rtcSecs } else x
    else if xs.length < 256 then xs ++ [o]
    else match offVictim xs with
      | some v => (xs.filter fun x => !x.same v) ++ [o]
      | none => xs
  { s with nm := { s.nm with offenders := ys } }

/-- Insert by falling count, after equal counts. -/
def insertOff (o : Offender) : List Offender → List Offender
  | [] => [o]
  | x :: xs => if o.count ≤ x.count then x :: insertOff o xs else o :: x :: xs

/-- The log by falling count. -/
def rankedOff (s : State) : List Offender := s.nm.offenders.foldl (fun a o => insertOff o a) []

/-- The four words of an offender entry. -/
def offWords (o : Offender) : List Nat :=
  [o.id % 2 ^ 29 + packBits [o.ide, o.fdf, o.nm] * 2 ^ 29, o.chan + o.kind * 2 ^ 2 + o.node * 2 ^ 8 + o.count * 2 ^ 16, o.first, o.last]

/-- A write to `NM_OFF_SEL` latches the entry of that rank; zeros beyond the log. -/
def offSelect (v : Nat) (s : State) : State :=
  let k := v % 256
  let ws := match (rankedOff s)[k]? with | some o => offWords o | none => []
  forEach (List.range 4) (fun j t => t.putNat (Ix.NM_OFF_ENTRY j) (ws.getD j 0)) (s.putNat Ix.NM_OFF_SEL k)

/-- A 1 in `NM_OFF_CLEAR` empties the log. -/
def offClear (v : Word) (s : State) : State := if bit v 0 then { s with nm := { s.nm with offenders := [] } } else s

/-! ## False wakes (R375, R376) -/

/-- The level is assessed. -/
def nmAssess (c : Can) (s : State) : State := updNm c (fun x => { x with level := levelOf (falseCount c s) s }) s

/-- A doubtful wake was false: it enters the record, the log and, from level 1, the faults (R375, R377). -/
def nmFalse (c : Can) (s : State) : State :=
  let x := s.nm.can[c]
  if !x.doubtful then s
  else
    let s1 := nmAssess c (updNm c (fun y => { y with doubtful := false, falseAt := ringPush 32 y.falseAt s.rtcSecs }) s)
    let s2 := match x.wakeFrame with
      | some (id, ide) =>
        if x.wakeKind = 3 then
          logOffender c 3 { id := id, ide := ide, fdf := false, brs := false, esi := false, dlc := 0, data := [] } false s1
        else s1
      | none => s1
    onlyIf (decide (1 ≤ (s2.nm.can[c]).level)) (report 0xA03 c.val) s2

/-- The record of a channel is cleared (R376). -/
def nmForgive (c : Can) (s : State) : State :=
  updNm c (fun x => { x with falseAt := [], level := 0, holdEnd := none, unarmed := false, parkCount := 0 }) s

/-- Writing 1 bits to `NM_FW_CLEAR` (R376). -/
def nmFwClear (v : Word) (s : State) : State := forEach (List.finRange 3) (fun c t => if bit v c.val then nmForgive c t else t) s

/-! ## States (Table 15-1) -/

/-- The channel sends nothing but NM frames: the service cancels what has not begun and posts no releases (R368). -/
def nmQuiet (c : Can) (s : State) : State := stopNmCycle c (cancelFrames c (cancelReleases c s))

/-- The controller leaves SLEEP with the frozen counters (R369, R370). -/
def nmController (c : Can) (s : State) : State :=
  let f := (s.nm.can[c]).frozen.getD (0, 0)
  let s1 := updCan c (fun x => { x with txErr := f.1, rxErr := f.2, lastFrame := s.now, recovering := false }) s
  if 255 < f.1 then canBusOff c s1 else canIntegrate c s1

/-- Enter AWAKE: from sleep the controller integrates again and the timeouts restart; releases and NM frames go on (R361,
R368). -/
def nmAwake (c : Can) (s : State) : State :=
  let was := (s.nm.can[c]).st
  let s1 := updNm c (fun x => { x with st := .awake, need := ownNeed c s, masterAt := s.now, lostSaid := false }) s
  match was with
  | .awake | .ready | .off => s1
  | .prepare => startNmCycle c (postReleases c s1)
  | .busSleep | .silent => startNmCycle c (postReleases c (restartTimeouts c (nmController c s1)))

/-- Own need has ended (R362). -/
def nmEnterReady (c : Can) (s : State) : State := updNm c (fun x => { x with st := .ready, need := false, readyAt := s.now }) s

/-- Enter BUS_SLEEP or SILENT (R368, R369, R375). -/
def nmSleep (c : Can) (silent : Bool) (s : State) : State :=
  let x := s.can.ctl[c]
  let s1 := nmFalse c (staleChannel c (nmQuiet c s))
  let s2 := updNm c (fun y => { y with st := if silent then .silent else .busSleep, frozen := some (x.txErr, x.rxErr), held := false,
                                       pn := 0, decErr := 0, silence := false, need := false }) s1
  let s3 := enterCan c .sleep (updCan c (fun y => { y with bufs := [], recovering := false, stuck := false }) s2)
  let s4 := endFault 0x906 c.val (endFault 0x905 c.val (endFault 0x904 c.val s3))
  if !silent && nmRole c s == 1 then s4.bump (Ix.NM_COUNTS c.val) 0 8 else s4

/-- Leave bus sleep by a wake of a kind (R370, R362, R376). -/
def nmWake (c : Can) (kind : Nat) (frame : Option (Nat × Bool)) (s : State) : State :=
  let st := (s.nm.can[c]).st
  if st == .busSleep || st == .silent then
    let s1 := updNm c (fun x => { x with
      wakeKind := kind, wakeFrame := frame, wakeAt := s.now, doubtful := kind != 1, busWoken := x.busWoken || kind != 1,
      wakeUntil := if kind = 1 then x.wakeUntil else s.now + nmReady c s }) s
    let s2 := if kind = 1 then nmForgive c s1 else s1
    let id := match frame with | some f => f.1 % 2 ^ 29 + b2n f.2 * 2 ^ 29 | none => 0
    nmAwake c ((s2.putNat Ix.NM_WAKE_CAUSE (c.val + kind * 2 ^ 4)).putNat Ix.NM_WAKE_ID id)
  else s

/-- PREPARE begins: S1 of a MASTER, the silence of a FOLLOWER (R363, R366). -/
def nmPrepare (c : Can) (silence : Bool) (s : State) : State :=
  updNm c (fun x => { x with st := .prepare, need := false, sent := 0, repeats := 0, offenderSaid := false, silence := silence, s1End := s.now,
                             cmdAt := s.now, heldSince := false, matchedSince := false, held := false, pn := 0 })
    (nmQuiet c s)

/-- The sequence aborts (R364). -/
def nmAbort (c : Can) (s : State) : State :=
  nmAwake c (if nmRole c s = 1 then s.bump (Ix.NM_COUNTS c.val) 8 8 else s)

/-- Own need of a CAN channel is evaluated (R359, R362, R364, R366, R370). -/
def nmNeed (c : Can) (s : State) : State :=
  let s1 := if realNeed c s then updNm c (fun x => { x with doubtful := false }) s else s
  match (s1.nm.can[c]).st with
  | .off => s1
  | .awake => if ownNeed c s1 then updNm c (fun x => { x with need := true }) s1 else nmEnterReady c s1
  | .ready => if ownNeed c s1 then nmAwake c s1 else s1
  | .prepare => if ownNeed c s1 then nmAbort c s1 else s1
  | .busSleep | .silent => if ownNeed c s1 then nmWake c 1 none s1 else s1

/-- NM_OWN_NEED_CHANGE: CAN channels 0 to 2, LIN channels 3 and 4. -/
def needChange (ch : Fin 5) (at_ : Nat) (s : State) : State :=
  if h : ch.val < 3 then nmNeed ⟨ch.val, h⟩ (s.reach at_)
  else linNeedChange ⟨(ch.val - 3) % 2, Nat.mod_lt _ (by decide)⟩ (s.reach at_)

/-- RIDE is entered: the records of false wakes are cleared (R376), and every configured channel is woken by its need (Table 4-2 row 2,
R359). -/
def nmRide (s : State) : State :=
  forEach (List.finRange 5) (fun ch t => needChange ch t.now t) (forEach (List.finRange 3) (fun c t => nmForgive c t) s)

/-- NM_OWN_NEED_CHANGE (R362). -/
def execNmOwnNeedChange (ch : Fin 5) (at_ : Nat) (s : State) : Host.Outcome State Fault Refusal :=
  doneFor .pair s fun s => needChange ch at_ s

/-- A frame matched a reserved diagnostic, security or sprig filter: need for READY (R359). -/
def nmServiceFrame (c : Can) (s : State) : State :=
  nmNeed c (updNm c (fun x => { x with needUntil := s.now + nmReady c s }) s)

/-! ## Frames (R358, R360, R364–R366) -/

/-- A frame is an NM frame of a channel with a role (R358). -/
def isNmFrame (c : Can) (f : CanFrame) (s : State) : Bool :=
  let base := s.fld (Ix.NM_BASE c.val) 0 11
  nmRole c s != 0 && !f.ide && !f.fdf && !f.rtr && f.dlc == 8 && decide (base ≤ f.id) && decide (f.id ≤ base + 63)
    && (f.data.getD 0 0).toNat % 64 == f.id - base

/-- A KEEP_AWAKE frame holds the channel unless it serves other partial networks only (R360). -/
def nmHolds (c : Can) (f : CanFrame) (s : State) : Bool :=
  let pn := leAt f.data 4 2
  let member := s.fld (Ix.NM_PN c.val) 16 16
  nbits (f.data.getD 1 0).toNat 0 1 == 1 && !(member != 0 && pn != 0 && pn &&& member == 0)

/-- A received NM frame (R360, R363–R366, R377). -/
def nmReceive (c : Can) (f : CanFrame) (s : State) : State :=
  let flags := (f.data.getD 1 0).toNat
  let keep := nbits flags 0 1 == 1
  let cmd := nbits flags 1 1 == 1 && !keep
  let role := nmRole c s
  let st := (s.nm.can[c]).st
  let s1 := if nbits flags 4 1 = 1 then updNm c (fun x => { x with masterAt := s.now, lostSaid := false }) s else s
  if nmHolds c f s1 then
    let s2 := updNm c (fun x => { x with held := true, pn := x.pn ||| leAt f.data 4 2, doubtful := false, readyAt := s.now,
                                         heldSince := true }) s1
    let s3 := onlyIf (role == 1 && (st == .ready || st == .prepare)) (logOffender c 0 f true) s2
    if role = 1 ∧ st = .prepare then nmAbort c s3 else s3
  else if cmd then
    if role = 1 then report 0xA05 c.val (logOffender c 2 f true s1)
    else if st == .awake || st == .ready then
      if ownNeed c s1 then nmOnce c s1 else nmOnce c (nmPrepare c true s1)
    else s1
  else s1

/-- NM_FRAME_RECEIVED: an NM frame becomes valid at an instant. -/
def nmFrameReceived (c : Can) (at_ : Nat) (f : CanFrame) (s0 : State) : State :=
  let s := s0.reach at_
  let st := (s.can.ctl[c]).st
  if (st == .active || st == .passive) && isNmFrame c f s then
    nmReceive c f ((rxGood c s).bump (Ix.CAN_RX_COUNT c.val) 0 16)
  else s

/-- NM_FRAME_RECEIVED (R358). -/
def execNmFrameReceived (c : Can) (at_ : Nat) (f : CanFrame) (s : State) : Host.Outcome State Fault Refusal :=
  doneFor .pair s fun s => nmFrameReceived c at_ f s

/-- A non-NM frame on an awake channel: in PREPARE it is logged, and judged by whether it matched (R365, R377). -/
def nmForeign (c : Can) (f : CanFrame) (matched : Bool) (s : State) : State :=
  if (s.nm.can[c]).st == .prepare then
    logOffender c 1 f false (updNm c (fun x => { x with matchedSince := x.matchedSince || matched }) s)
  else s

/-- An own NM frame was sent: SEQ, and the frames of S1 (R357, R363). -/
def nmSent (c : Can) (s : State) : State :=
  let f : NmC → NmC := fun x =>
    let y := { x with seq := (x.seq + 1) % 256 }
    if x.st == .prepare && nmRole c s == 1 && !x.silence then
      let z := { y with sent := y.sent + 1 }
      if z.sent = 3 then { z with silence := true, s1End := s.now, heldSince := false, matchedSince := false } else z
    else y
  updNm c f s

/-! ## Timers -/

/-- NM_CYCLE_SEND: the cyclic NM release fires (R361). -/
def cycleSend (c : Can) (s : State) : State :=
  match (nmEvents c s).find? fun e => e.spec.rep == 0 with
  | none => s
  | some e => match takeEvent e.slot s with | some (_, t) => releaseNm c t | none => s

/-- NM_CYCLE_SEND (R361). -/
def execNmCycleSend (c : Can) (s : State) : Host.Outcome State Fault Refusal := doneFor .pair s fun s => cycleSend c s

/-- READY elapses at a MASTER with no frame that holds the channel: S1 (R363). -/
def readyExpiry (c : Can) (s : State) : State :=
  let x := s.nm.can[c]
  if x.st == .ready && nmRole c s == 1 && !ownNeed c s then nmPrepare c false (s.reach (x.readyAt + nmReady c s)) else s

/-- NM_READY_EXPIRY (R363). -/
def execNmReadyExpiry (c : Can) (s : State) : Host.Outcome State Fault Refusal := doneFor .pair s fun s => readyExpiry c s

/-- The next SLEEP_CMD frame of S1 (R363). -/
def sleepCmd (c : Can) (s : State) : State :=
  let x := s.nm.can[c]
  if x.st == .prepare && nmRole c s == 1 && !x.silence then
    let s1 := s.reach x.cmdAt
    releaseNm c (updNm c (fun y => { y with cmdAt := s1.now + msP 100 }) s1)
  else s

/-- NM_SLEEP_CMD_SEND (R363). -/
def execNmSleepCmdSend (c : Can) (s : State) : Host.Outcome State Fault Refusal := doneFor .pair s fun s => sleepCmd c s

/-- SILENCE without a frame: BUS_SLEEP (R363, R366). -/
def silenceExpiry (c : Can) (s : State) : State :=
  let x := s.nm.can[c]
  if x.st == .prepare && x.silence then
    nmSleep c false (s.reach (Nat.max x.s1End (s.can.ctl[c]).lastFrame + nmSilence c s))
  else s

/-- NM_SILENCE_EXPIRY (R363). -/
def execNmSilenceExpiry (c : Can) (s : State) : Host.Outcome State Fault Refusal := doneFor .pair s fun s => silenceExpiry c s

/-- OFFENDER seconds after S1: SILENT, or S1 and S2 again (R365). -/
def offenderTimeout (c : Can) (s0 : State) : State :=
  let x := s0.nm.can[c]
  if x.st == .prepare && x.silence && nmRole c s0 == 1 then
    let s := s0.reach (x.s1End + nmOffender c s0)
    if s.flag (Ix.NM_CFG c.val) 8 && !x.heldSince && !x.matchedSince then nmSleep c true s
    else
      let s1 := updNm c (fun y => { y with sent := 0, silence := false, repeats := y.repeats + 1, cmdAt := s.now, offenderSaid := true })
        (s.bump (Ix.NM_COUNTS c.val) 16 8)
      onlyIf (!x.offenderSaid) (report 0xA00 c.val) s1
  else s0

/-- NM_OFFENDER_TIMEOUT (R365). -/
def execNmOffenderTimeout (c : Can) (s : State) : Host.Outcome State Fault Refusal := doneFor .pair s fun s => offenderTimeout c s

/-- NM_IDLE passes without frames on a NONE channel, or without a master's NM frame at a FOLLOWER (R366, R367). -/
def idleTimeout (c : Can) (s : State) : State :=
  let x := s.nm.can[c]
  let live := x.st == .awake || x.st == .ready
  match nmRole c s with
  | 0 =>
    if live && !ownNeed c s then nmSleep c false (s.reach ((s.can.ctl[c]).lastFrame + nmIdle c s)) else s
  | 2 =>
    if live then
      let s1 := s.reach (x.masterAt + nmIdle c s)
      let s2 := onlyIf (!x.lostSaid) (report 0xA01 c.val) (updNm c (fun y => { y with lostSaid := true }) s1)
      if ownNeed c s2 then s2 else nmPrepare c true s2
    else s
  | _ => s

/-- NM_IDLE_TIMEOUT (R366, R367). -/
def execNmIdleTimeout (c : Can) (s : State) : Host.Outcome State Fault Refusal := doneFor .pair s fun s => idleTimeout c s

/-! ## Bus wakes (R370–R374) -/

/-- A wake from PARK latches the kind and the frame; the start reports them with bit 3 of `NM_WAKE_CAUSE` (R374). -/
def parkWake (code : Nat) (c : Can) (kind : Nat) (frame : Option (Nat × Bool)) (s : State) : State :=
  let s1 := wakeFires code s
  if s.pw.cause != some code && s1.pw.cause == some code then
    let id := match frame with | some f => f.1 % 2 ^ 29 + b2n f.2 * 2 ^ 29 | none => 0
    updNm c (fun x => { x with wakeKind := kind, wakeFrame := frame, doubtful := true, busWoken := true })
      ((s1.putNat Ix.NM_WAKE_CAUSE (c.val + 8 + kind * 2 ^ 4)).putNat Ix.NM_WAKE_ID id)
  else s1

/-- The wake-up pattern ends at an instant (R370, R108). -/
def wakePattern (c : Can) (at_ : Nat) (s0 : State) : State :=
  let s := s0.reach at_
  if s.modes.mode == .park then
    if s.num Ix.PWR_DEEP_WAKE % 16 = 2 + c.val ∧ c.val < 2 then parkWake 7 c 2 none s else s
  else if selWake c s then s
  else nmWake c 2 none s

/-- BUS_WAKE_PATTERN (R370). -/
def execBusWakePattern (c : Can) (at_ : Nat) (s : State) : Host.Outcome State Fault Refusal :=
  doneFor .always s fun s => wakePattern c at_ s

/-- A frame matches wake-up filter `f` of a channel (R371). -/
def wufMatches (c : Can) (f : Nat) (x : CanFrame) (s : State) : Bool :=
  let k := 2 * c.val + f
  let idw := s.word (Ix.NM_WUF_ID k)
  let mask := s.fld (Ix.NM_WUF_MASK k) 0 29
  let dm := s.num (Ix.NM_WUF_DATA_LO k) + s.num (Ix.NM_WUF_DATA_HI k) * 2 ^ 32
  s.flag (Ix.NM_WUF_DLC k) 4 && !x.fdf && bit idw 29 == x.ide && ((x.id ^^^ fld idw 0 29) &&& mask) == 0
    && (dm == 0 || (x.dlc == s.fld (Ix.NM_WUF_DLC k) 0 4 && (leNat x.data &&& dm) != 0))

/-- A frame matches a wake-up filter of the channel. -/
def wufAny (c : Can) (x : CanFrame) (s : State) : Bool := wufMatches c 0 x s || wufMatches c 1 x s

/-- A wake-up frame on a channel asleep: kind 3 (R370, R371, R374); during PARK entry it stands for the channel's wake source (R97). -/
def wufWake (c : Can) (at_ : Nat) (x : CanFrame) (s0 : State) : State :=
  let s := s0.reach at_
  if selWake c s && wufAny c x s && (s.can.ctl[c]).st == .sleep then
    if s.modes.mode == .park then parkWake (4 + c.val) c 3 (some (x.id, x.ide)) s
    else nmWake c 3 (some (x.id, x.ide)) (parkSourceFires (4 + c.val) (leaveStandby s))
  else s

/-- WUF_MATCH (R371). -/
def execWufMatch (c : Can) (at_ : Nat) (f : CanFrame) (s : State) : Host.Outcome State Fault Refusal :=
  doneFor .always s fun s => wufWake c at_ f s

/-- The decoder's error counter exceeds 31: kind 4 (R372). -/
def decoderFallback (c : Can) (s : State) : State :=
  let x := s.nm.can[c]
  if selWake c s && (s.can.ctl[c]).st == .sleep && decide (31 < x.decErr) then
    let s1 := report 0xA02 c.val (s.bump (Ix.NM_COUNTS c.val) 24 8)
    if s.modes.mode == .park then parkWake (4 + c.val) c 4 none s1 else nmWake c 4 none s1
  else s

/-- WUF_DECODER_FALLBACK (R372). -/
def execWufDecoderFallback (c : Can) (s : State) : Host.Outcome State Fault Refusal :=
  doneFor .always s fun s => decoderFallback c s

/-- A frame without error on a channel asleep: the decoder's counter falls, and a match wakes the channel (R371–R373). -/
def decoderFrame (c : Can) (at_ : Nat) (x : CanFrame) (s : State) : State :=
  let s1 := if x.fdf then s else updNm c (fun y => { y with decErr := y.decErr - 1 }) s
  wufWake c at_ x s1

/-! ## PARK and the start (R374, R375, R362) -/

/-- The wake sources of a channel: 4 or 5, and source 7 where the DEEP wake input is the channel's activity. -/
def nmSources (c : Can) (s : State) : List Nat :=
  (if selWake c s && s.flag Ix.PWR_WAKE_ENABLE (4 + c.val) then [4 + c.val] else [])
    ++ (if s.num Ix.PWR_DEEP_WAKE % 16 = 2 + c.val ∧ c.val < 2 then [7] else [])

/-- Step 4 of PARK entry: false wakes, levels and what stays unarmed (Table 15-5). -/
def nmPark (s : State) : State :=
  forEach (List.finRange 3) (fun c t0 =>
    let t := nmAssess c (nmFalse c t0)
    let x := t.nm.can[c]
    let n := falseCount c t
    let hold := x.level = 2 ∧ x.parkCount < n
    let t1 := updNm c (fun y => { y with
      parkCount := n, unarmed := decide (x.level = 3) || decide hold,
      holdEnd := if hold then some (t.now + secP (3600 * t.fld Ix.NM_FW_CFG 24 8)) else none }) t
    onlyIf (decide (x.level = 3)) (report 0xA04 c.val) t1) s

/-- The hold of a channel ends: the park engine arms its sources (Table 15-5). -/
def holdExpires (c : Can) (s : State) : State :=
  match (s.nm.can[c]).holdEnd with
  | none => s
  | some t =>
    if s.pw.pw = .retain ∨ s.pw.pw = .deep then
      let s1 := updNm c (fun x => { x with holdEnd := none, unarmed := false }) (s.reach t)
      let mine := (nmSources c s1).filter fun k => (k == 7) == (s1.pw.pw == .deep)
      { s1 with pw := { s1.pw with armed := s1.pw.armed ++ mine } }
    else s

/-- NM_ESCALATION_HOLD_EXPIRY (R375). -/
def execNmEscalationHoldExpiry (c : Can) (s : State) : Host.Outcome State Fault Refusal :=
  doneFor .always s fun s => holdExpires c s

/-- A channel restarts in AWAKE with need for READY from T0 (R355, R362), its controller from the frozen counters where they
are restored (R369). -/
def nmStartChannel (c : Can) (s : State) : State :=
  if canMode c s = 0 then updNm c (fun x => { x with st := .off }) s
  else
    let f := (s.nm.can[c]).frozen.getD (0, 0)
    let s1 := updNm c (fun x => { x with
      st := .awake, need := true, wakeUntil := s.bn.t0 + nmReady c s, wakeAt := s.bn.t0, masterAt := s.bn.t0, lostSaid := false,
      held := false, pn := 0, sent := 0, silence := false, repeats := 0, needUntil := 0, unarmed := false, holdEnd := none }) s
    let s2 := updCan c (fun x => { x with txErr := f.1, rxErr := f.2, lastFrame := s.bn.t0 }) s1
    startNmCycle c (postReleases c (restartTimeouts c s2))

/-- A committed change reaches network management: the cyclic NM frames follow ROLE and CYCLE, and a LIN channel whose `LIN_CFG_l`
changed takes its role anew (assumption log 64). -/
def nmCommit (old s : State) : State :=
  let s1 := forEach (List.finRange 3) (fun c t =>
    if nmRole c t = nmRole c old ∧ nmCycle c t = nmCycle c old then t
    else
      let u := stopNmCycle c t
      if (u.nm.can[c]).st == .awake || (u.nm.can[c]).st == .ready then startNmCycle c u else u) s
  forEach (List.finRange 2) (fun l t =>
    if t.word (Ix.LIN_CFG l.val) == old.word (Ix.LIN_CFG l.val) then t else linBegin l t.now t) s1

/-- The committed MODE of a channel comes into force with its timing: an unused channel is OFF, one newly used is AWAKE (R355, Table
14-5). -/
def nmFollowMode (c : Can) (s : State) : State :=
  let st := (s.nm.can[c]).st
  if canMode c s = 0 then
    if st == .off then s else updNm c (fun x => { x with st := .off, need := false }) (nmQuiet c s)
  else if st == .off then
    let s1 := updNm c (fun x => { x with st := .awake, need := ownNeed c s, masterAt := s.now, lostSaid := false }) s
    startNmCycle c (postReleases c (restartTimeouts c s1))
  else s

/-- CAN_TIMING_APPLY (R325). -/
def execCanTimingApply (c : Can) (at_ : Nat) (s : State) : Host.Outcome State Fault Refusal :=
  doneFor .coreRun s fun s =>
    let t := timingApply c at_ s
    if (s.can.ctl[c]).timingWait && !(t.can.ctl[c]).timingWait then nmFollowMode c t else t

/-- Step 6 of a start. -/
def nmStart (s : State) : State := forEach (List.finRange 3) (fun c t => nmStartChannel c t) s

/-- The application pair has restarted: every channel not asleep restarts in AWAKE, its controller running on (ch. 15 Edges). -/
def nmRestart (s : State) : State :=
  forEach (List.finRange 3) (fun c t =>
    match (t.nm.can[c]).st with
    | .off | .busSleep | .silent => t
    | _ =>
      let t1 := updNm c (fun x => { x with st := .awake, need := true, wakeUntil := t.bn.t0 + nmReady c t, silence := false, sent := 0 }) t
      startNmCycle c (postReleases c (restartTimeouts c t1))) s

end Sys2Proof.Machine
end

