-- ==== Sys2Proof/Machine/Package.lean ====
section
/-!
DEFINITION. What an image and a bunch hold where (Tables 2-2 to 2-4, 21-3), for the services before the load: their tables,
Bank A, and what a root-loaded member is sent (R423).
-/
namespace Sys2Proof.Machine

/-- Closed range test. -/
def within (lo hi x : Nat) : Bool := decide (lo ≤ x) && decide (x ≤ hi)

/-! ## The section table of a Lerul image -/

/-- LENGTH of an image. -/
def imgLength (b : List Byte) : Nat := leAt b 8 4
/-- SECTIONS of an image. -/
def imgSections (b : List Byte) : Nat := leAt b 0x14 2

/-- An entry of the section table, with its own offset. -/
structure Entry where
  at_ : Nat
  typ : Nat
  essential : Bool
  off : Nat
  size : Nat
  crc : Nat
  deriving DecidableEq, Repr

/-- The entries of the section table. -/
def entries (b : List Byte) : List Entry :=
  (List.range (imgSections b)).map fun k =>
    let at_ := 0x60 + 16 * k
    let e := slice b at_ 16
    { at_ := at_, typ := leAt e 0 2, essential := leAt e 2 2 % 2 == 1, off := leAt e 4 4, size := leAt e 8 4,
      crc := leAt e 12 4 }

/-- The bytes of a section. -/
def secBytes (b : List Byte) (e : Entry) : List Byte := slice b e.off e.size

/-- The image of a MEMBER section (Table 2-4), empty where the image holds none for the ordinal. -/
def memberImage (ordinal : Nat) (b : List Byte) : List Byte :=
  match (entries b).find? fun e => e.typ == 0x10 && e.size != 0 && leAt b e.off 1 == ordinal with
  | some e => slice b (e.off + 16) (e.size - 16)
  | none => []

/-! ## The table of a bunch, and Bank A (R511) -/

/-- A byte of Bank A: of the firmware copied there, or as delivered (assumption log 21). -/
def bankAByte (a : Nat) (s : State) : Byte := match s.upd.bankA with | some b => b.getD a 0xFF | none => Config.factoryByte a

/-- An entry of a bunch's table. -/
structure Comp where
  typ : Nat
  off : Nat
  size : Nat
  deriving DecidableEq, Repr

/-- The table of a bunch. -/
def comps (b : List Byte) : List Comp :=
  (List.range (Nat.min 8 (leAt b 0x15 1))).map fun k =>
    let e := slice b (128 + 16 * k) 16
    { typ := leAt e 0 2, off := leAt e 4 4, size := leAt e 8 4 }

/-- A firmware type (Table 21-2). -/
def isFirmware (c : Comp) : Bool := within 1 5 c.typ

/-- The bytes of a component. -/
def compBytes (b : List Byte) (c : Comp) : List Byte := slice b c.off c.size

/-- The component of a type. -/
def compOf (b : List Byte) (t : Nat) : Option (List Byte) := ((comps b).find? (·.typ == t)).map (compBytes b)

/-- `n` bytes of Bank A from an offset. -/
def bankABytes (off n : Nat) (s : State) : List Byte :=
  match s.upd.bankA with | some b => slice b off n | none => (List.range n).map fun k => bankAByte (off + k) s

/-- The component of a type in Bank A; empty where there is none. -/
def bankAComp (t : Nat) (s : State) : List Byte :=
  match (comps (bankABytes 0 256 s)).find? (·.typ == t) with | some c => bankABytes c.off c.size s | none => []

/-- The components a member runs (R423, Table 17-5): those of the four processors that step 4 loads. -/
def memberComps (s : State) : List (List Byte) := [2, 3, 4, 5].map fun t => bankAComp t s

/-- What stream 0 carries to a member (R423): the components, then its image. -/
def reloadBytes (ordinal : Nat) (s : State) : List Byte := (memberComps s).flatten ++ memberImage ordinal s.boot.image

end Sys2Proof.Machine
end

