-- ==== Sys2Proof/Machine/Fabric.lean ====
section
/-!
DEFINITION. Dalrez links, root choice and Roll Call (16_fabric_roll_call.md).
-/
namespace Sys2Proof.Machine

/-! ## Frames and ports -/

/-- The device's serial number. -/
def ownSerial : Nat := Config.serial.toNat

/-- A port changed. -/
def updPort (p : Port) (f : PortS → PortS) (s : State) : State :=
  { s with fab := { s.fab with ports := s.fab.ports.set p (f s.fab.ports[p]) } }

/-- The fabric engine changed. -/
def updFab (f : Fabric → Fabric) (s : State) : State := { s with fab := f s.fab }

/-- ROOT_PRIO; 1 while a reload is awaited (R422). -/
def ownPrio (s : State) : Nat := if reloading s then 1 else s.fld Ix.FAB_CFG 4 4

/-- A port is enabled: its bit of PORTS, or every port while a reload is awaited; DZ0 serves the host with HOST set (R418). -/
def portOn (p : Port) (s : State) : Bool :=
  (reloading s || s.flag Ix.FAB_CFG p.val) && !(p.val == 0 && s.flag (Ix.FAB_STREAM_CFG 0) 2)

/-- The address a node sends from: 0 without one (Table 16-2). -/
def srcAddr (s : State) : Nat := if s.fab.node == .unlisted then 0 else s.fab.addr

/-- A frame of this node with its next sequence number. -/
def mkFrame (typ : Nat) (bcast : Bool) (dst : Nat) (payload : List Byte) (s : State) : FabFrame :=
  { typ := typ, bcast := bcast, dst := dst, src := srcAddr s, hops := 0, seq := s.fab.seq, payload := payload }

/-- The sequence number advances. -/
def stepSeq (s : State) : State := updFab (fun f => { f with seq := (f.seq + 1) % 256 }) s

/-- Queue a frame on a port (R385). -/
def enqueue (p : Port) (f : FabFrame) (s : State) : State := updPort p (fun x => { x with queue := x.queue ++ [f] }) s

/-- Send a link or Roll Call message on a port. -/
def sendLink (p : Port) (typ : Nat) (bcast : Bool) (payload : List Byte) (s : State) : State :=
  stepSeq (enqueue p (mkFrame typ bcast 0 payload s) s)

/-- A port by number. -/
def portOf (n : Nat) : Option Port := if h : n < 3 then some ⟨n, h⟩ else none

/-- Send a message on the parent port. -/
def sendParent (typ : Nat) (payload : List Byte) (s : State) : State :=
  match s.fab.parent.bind portOf with | some p => sendLink p typ false payload s | none => s

/-- A frame as bytes with its CRC-32 (R386). -/
def frameBytes (f : FabFrame) : List Byte :=
  let h := f.typ % 64 + b2n f.bcast * 2 ^ 6 + f.dst % 4096 * 2 ^ 8 + f.src % 4096 * 2 ^ 20 + f.hops % 64 * 2 ^ 32
    + f.payload.length * 2 ^ 40 + f.seq % 256 * 2 ^ 56
  let b := leBytes h 8 ++ f.payload
  b ++ leBytes (crc32 b) 4

/-- The frame of a byte string: none where the length or the CRC is wrong (R386). -/
def frameOf (b : List Byte) : Option FabFrame :=
  let len := leAt b 5 2 % 512
  if b.length = 12 + len ∧ len ≤ 256 ∧ leAt b (8 + len) 4 = crc32 (b.take (8 + len)) then
    let h := leAt b 0 8
    some { typ := nbits h 0 6, bcast := nbits h 6 1 == 1, dst := nbits h 8 12, src := nbits h 20 12, hops := nbits h 32 6,
           seq := nbits h 56 8, payload := slice b 8 len }
  else none

/-! ## HELLO (Table 16-3) -/

/-- The HELLO of a port. -/
def helloPayload (p : Port) (s : State) : List Byte :=
  leBytes ownSerial 8 ++ leBytes (ownPrio s) 1 ++ leBytes s.fab.rootSerial 8 ++ leBytes s.fab.rootPrio 1 ++ leBytes s.fab.rootDist 1
    ++ leBytes (ownTag s) 4 ++ leBytes p.val 1

/-- Send HELLO on a port. -/
def sendHello (p : Port) (s : State) : State :=
  sendLink p 0x01 false (helloPayload p s) (updPort p (fun x => { x with helloAt := s.now }) s)

/-- HELLO at once on every UP port where its content changed (R387). -/
def announce (old s : State) : State :=
  if old.fab.rootSerial = s.fab.rootSerial ∧ old.fab.rootPrio = s.fab.rootPrio ∧ old.fab.rootDist = s.fab.rootDist then s
  else forEach (upPorts s) (fun p t => sendHello p t) s

/-! ## Root view (R391–R393) -/

/-- One key is better than another (R391). -/
def betterKey (a b : Nat × Nat) : Bool := decide (b.1 < a.1) || (a.1 == b.1 && decide (a.2 < b.2))

/-- The UP neighbours' root keys that take part, with their distance and port: none that is held down still. -/
def candidates (s : State) : List ((Nat × Nat) × Nat × Port) :=
  (upPorts s).filterMap fun p =>
    let x := s.fab.ports[p]
    if x.nbrDist < 63 && !s.fab.held.any (fun h => h.1 == x.nbrRootPrio && h.2.1 == x.nbrRoot && decide (s.now < h.2.2)) then
      some ((x.nbrRootPrio, x.nbrRoot), x.nbrDist, p)
    else none

/-- The own key. -/
def ownKey (s : State) : Nat × Nat := (ownPrio s, ownSerial)

/-- The best key of the root view. -/
def bestKey (s : State) : Nat × Nat :=
  (candidates s).foldl (fun a c => if betterKey c.1 a then c.1 else a) (ownKey s)

/-- The port that advertises a key with the lowest distance, then the lowest number. -/
def viewPort (k : Nat × Nat) (s : State) : Option (Nat × Port) :=
  ((candidates s).filter fun c => c.1 == k).foldl (fun a c => match a with
    | none => some (c.2.1, c.2.2)
    | some m => if c.2.1 < m.1 ∨ (c.2.1 = m.1 ∧ c.2.2.val < m.2.val) then some (c.2.1, c.2.2) else some m) none

/-- Subscriptions are stale while the node is UNLISTED, or their source is not resolved (R412). -/
def staleSubs (s : State) : State :=
  forEach (List.range s.fab.domain.subs.length) (fun n t => staleSource 8 n true t)
    (updFab (fun f => { f with subs := f.subs.map fun x => { x with stale := true } }) s)

/-- The node is UNLISTED: no address, no route table (R389, R393, R400, R404). -/
def unlist (s : State) : State :=
  dropFabOwner (staleSubs (updFab (fun f => { f with
    node := .unlisted, addr := 0, routes := [], dflt := 0, hasTable := false, resolved := [], mine := none }) s))

/-! ## Reports (Table 16-4) -/

/-- The own REPORT entry. -/
def ownEntry (s : State) : List Byte :=
  let f := s.fab
  let prior := match f.retained with | some (a, _, r) => if r = f.callRoot then some a else none | none => none
  let lanes := match f.parent.bind portOf with | some p => (f.ports[p]).lanes | none => false
  leBytes ownSerial 8 ++ leBytes (ownTag s) 4 ++ leBytes (prior.getD 0 + ownPrio s * 2 ^ 12) 2
    ++ leBytes (f.depth % 64 + f.parent.getD 3 * 64) 1 ++ leBytes (b2n prior.isSome + b2n lanes * 2) 1

/-- The header of a REPORT segment. -/
def reportHead (epoch seg count : Nat) (last : Bool) : List Byte :=
  leBytes epoch 4 ++ leBytes seg 2 ++ leBytes count 1 ++ leBytes (b2n last) 1

/-- Send the own entry to the parent. -/
def sendEntry (last : Bool) (s : State) : State :=
  updFab (fun f => { f with segs := f.segs + 1 })
    (sendParent 0x04 (reportHead s.fab.epoch s.fab.segs 1 last ++ ownEntry s) s)

/-- Every child port of the epoch is finished (R396). -/
def allFinished (s : State) : Bool := (List.finRange 3).all fun p => !(s.fab.ports[p]).child || (s.fab.ports[p]).finished

/-- The entries of a REPORT payload. -/
def reportEntries (p : Port) (b : List Byte) : List Reported :=
  (chunks 16 (b.drop 8)).filterMap fun e =>
    if e.length = 16 then
      let prior := leAt e 12 2
      some { serial := leAt e 0 8, tag := leAt e 8 4, prior := prior % 4096, prio := prior / 4096, depth := leAt e 14 1 % 64,
             priorValid := leAt e 15 1 % 2 == 1, lanes := leAt e 15 1 / 2 % 2 == 1, port := p.val }
    else none

/-! ## Address assignment (R397–R399) -/

/-- Bits [47:0] of a serial. -/
def ser48 (n : Nat) : Nat := n % 2 ^ 48

/-- The order of assignment: ascending depth, then serial (R398). -/
def insertReported (r : Reported) : List Reported → List Reported
  | [] => [r]
  | x :: xs =>
    if x.serial = r.serial then x :: xs
    else if r.depth < x.depth ∨ (r.depth = x.depth ∧ r.serial < x.serial) then r :: x :: xs
    else x :: insertReported r xs

/-- A record of an address. -/
def recAt (rs : List AddrRec) (a : Nat) : Option AddrRec := rs.find? (·.addr == a)

/-- The RESERVED record with the highest AGE, then the lowest address. -/
def oldestReserved (rs : List AddrRec) : Option AddrRec :=
  (rs.filter fun r => !r.listed).foldl (fun a r => match a with
    | none => some r
    | some m => if m.age < r.age ∨ (m.age = r.age ∧ r.addr < m.addr) then some r else some m) none

/-- The address rule 2 to 6 of R398 give a node. -/
def pickAddr (r : Reported) (rs : List AddrRec) : Option Nat :=
  match rs.find? fun x => x.serial == ser48 r.serial with
  | some x => some x.addr
  | none =>
    if r.priorValid ∧ (recAt rs r.prior).isNone then some r.prior
    else match firstBelow (fun a => (recAt rs a).isNone) 4096 with
      | some a => some a
      | none => (oldestReserved rs).map (·.addr)

/-- Put a node into a record: LISTED, AGE 0. -/
def listRec (a serial : Nat) (rs : List AddrRec) : List AddrRec :=
  { addr := a, serial := ser48 serial, age := 0, listed := true } :: rs.filter (·.addr != a)

/-- Assign the reported nodes in order: the records, the addresses given, and the serials that got none. -/
def assignAll : List Reported → List AddrRec → List (Reported × Nat) → List Reported → List AddrRec × List (Reported × Nat) × List Reported
  | [], rs, got, none_ => (rs, got, none_)
  | r :: rest, rs, got, none_ =>
    match pickAddr r rs with
    | some a => assignAll rest (listRec a r.serial rs) (got ++ [(r, a)]) none_
    | none => assignAll rest rs got (none_ ++ [r])

/-- The records at CLOSE: addresses not listed in this epoch age (R399). -/
def ageRecs (given : List Nat) (before now_ : List AddrRec) : List AddrRec :=
  now_.filterMap fun r =>
    if given.contains r.addr then some { r with age := 0, listed := true }
    else if r.listed then some { r with listed := false, age := 0 }
    else if (before.any fun b => b.addr == r.addr && !b.listed) then (if 8 ≤ r.age + 1 then none else some { r with age := r.age + 1 })
    else some r

/-! ## Routes at CLOSE (R404) -/

/-- The table is rebuilt: own address LOCAL (1), assigned addresses by child port, the rest the default. -/
def rebuildRoutes (s : State) : State :=
  let dflt := if s.fab.node == .root then 0 else match s.fab.parent with | some p => 2 + p | none => 0
  updFab (fun f => { f with hasTable := true, dflt := dflt,
                            routes := (f.addr, 1) :: (f.assigned.filter fun a => a.1 != f.addr).map fun a => (a.1, 2 + a.2) }) s

/-- The entry of an address: 0 NONE, 1 LOCAL, 2 to 4 the port (R404). -/
def routeCode (a : Nat) (s : State) : Nat :=
  if !s.fab.hasTable then 0 else (s.fab.routes.lookup a).getD s.fab.dflt

/-- After a change of routes or of resolved members: a fabric owner without a route has departed, and one that is no longer resolved
in the own domain has a lower privilege (R79, R411). -/
def fabOwner (before s : State) : State :=
  match s.txn.owner with
  | some (.fabric a) =>
    if routeCode a s = 0 then rollBack 9 2 s
    else if privOf (.fabric a) s < privOf (.fabric a) before then rollBack 9 3 s else s
  | _ => s

/-- Members are resolved afresh after each CLOSE with one RESOLVE to 0x000 (R411): the serials of the other members. -/
def resolveList (s : State) : List Nat :=
  (s.fab.domain.members.filter fun m => m.ordinal != s.fab.domain.own).map (·.serial)

/-- A sequence number no outstanding request uses (R408). -/
def freeSeq (s : State) : Nat :=
  match firstBelow (fun k => !s.fab.outstanding.any fun r => r.seq == (s.fab.seq + k) % 256) 256 with
  | some k => (s.fab.seq + k) % 256
  | none => s.fab.seq

/-- Send a frame by its route, without a count (own frames of this node). -/
def sendRouted (f : FabFrame) (s : State) : State :=
  match portOf (routeCode f.dst s - 2) with
  | some p => if 2 ≤ routeCode f.dst s ∧ (s.fab.ports[p]).st == .up then enqueue p f s else s.bump Ix.FAB_ROUTE_STATS 16 8
  | none => s.bump Ix.FAB_ROUTE_STATS 16 8

/-- Send an own request (R408): kept outstanding until its reply or TIMEOUT; the 257th gets BUSY locally. -/
def sendRequest (typ dst : Nat) (payload : List Byte) (owner mark : Nat) (s : State) : State :=
  if 256 ≤ s.fab.outstanding.length then s.bump Ix.FAB_REQ_COUNTS 16 8
  else
    let q := freeSeq s
    let f : FabFrame := { typ := typ, bcast := false, dst := dst, src := srcAddr s, hops := 0, seq := q, payload := payload }
    let r : FabReq := { seq := q, dst := dst, typ := typ, at_ := s.now, owner := owner, mark := mark }
    let s1 := updFab (fun x => { x with outstanding := x.outstanding ++ [r], high := Nat.max x.high (x.outstanding.length + 1),
                                        seq := (q + 1) % 256 }) s
    sendRouted f s1

/-- The subscriptions whose source is not resolved are stale (R412). -/
def staleUnresolved (s : State) : State :=
  forEach s.fab.domain.subs.zipIdx (fun (x, n) t =>
    if t.fab.resolved.any fun r => r.ordinal == x.ordinal then t
    else staleSource 8 n true (updFab (fun f => { f with subs := f.subs.modify n fun y => { y with stale := true } }) t)) s

/-- The resolved members of a destination mask. -/
def maskAddrs (mask : Nat) (s : State) : List Nat :=
  (s.fab.resolved.filter fun r => nbits mask r.ordinal 1 == 1).map (·.addr)

/-- The predicted interval of FAB_SYNC marks of a clock with 2^M marks per cycle, in base periods. -/
def syncM (clk : Nat) (m : Nat) (s : State) : Nat :=
  let cyc := (s.tt.clocks[pcOf clk]).cycle
  match (List.range (m + 1)).reverse.find? fun k => decide (usP 500 ≤ cyc / 2 ^ k) with
  | some k => k
  | none => 0

/-- Post the FAB_SYNC events of the published clocks: at the angles k × 65,536 / 2^M, one for each route port (R419). -/
def postSyncs (s : State) : State :=
  let mine := s.tt.events.filter fun e => match e.spec.act with | .fabSync .. => true | _ => false
  let s1 := forEach mine (fun e t => cancelHandle (e.slot, e.gen) t) s
  forEach s1.fab.domain.exts (fun x t =>
    let ports := (List.finRange 3).filter fun p => (maskAddrs x.mask t).any fun a => routeCode a t == 2 + p.val
    forEach ports (fun p u =>
      let c := pcOf x.clock
      let per := 65536 / 2 ^ syncM x.clock x.m u
      let lim := (u.tt.clocks[c]).estimate (u.now + horizonP u + 1)
      servicePost [{ clock := x.clock, due := gridAfter (2 ^ 32) per lim % 2 ^ 32, rep := 0, period := per,
                     act := .fabSync p c, pool := 8 }] u) t) s1

/-- Stream lanes on the whole path to a member (R423): on the own port of its route, and, beyond the direct neighbour, on links
this node knows nothing of, which are a free value. -/
def pathLanes (serial : Nat) (r : Resolved) (s : State) : Bool :=
  match portOf (routeCode r.addr s - 2) with
  | some p =>
    let x := s.fab.ports[p]
    x.st == .up && x.rate != 0 && (ser48 x.nbrSerial == ser48 serial || s.freeWord.toNat % 2 == 1)
  | none => false

/-- An offer to a member is under way: not answered yet, or being streamed. -/
def reloadUnderWay (m : MemberCfg) (r : Resolved) (s : State) : Bool :=
  (s.fab.outstanding.any fun q => q.owner == 1 && q.mark == m.ordinal)
    || (s.fab.txs.any fun t => t.stream == 0 && t.dst == r.addr)

/-- RELOAD_OFFER to one member (R423, Table 17-1), or FAB_RELOAD_NO_STREAM. -/
def offerReload (m : MemberCfg) (r : Resolved) (s0 : State) : State :=
  let s := s0.useFree
  if pathLanes m.serial r s0 then
    sendRequest 0x1F r.addr (leBytes (reloadBytes m.ordinal s).length 4 ++ [4, 0, 0, 0] ++ leBytes ownSerial 8) 1 m.ordinal s
  else report 0xB06 m.ordinal s

/-- After each CLOSE the domain root offers a reload to each resolved ROOT_LOADED member that has not completed or declined one
since it was listed (R423); what a member did before it left the resolved ones is forgotten. -/
def offerReloads (s : State) : State :=
  if !isDomainRoot s then s
  else
    let here := fun (k : Nat) => s.fab.resolved.any fun r => r.ordinal == k
    let s1 := updFab (fun f => { f with reloaded := f.reloaded.filter here, declined := f.declined.filter here }) s
    forEach (s1.fab.domain.members.filter fun m => m.rootLoaded && m.ordinal != 0) (fun m t =>
      match t.fab.resolved.find? fun r => r.ordinal == m.ordinal with
      | none => t
      | some r =>
        if t.fab.reloaded.contains m.ordinal || t.fab.declined.contains m.ordinal || reloadUnderWay m r t then t
        else offerReload m r t) s1

/-- After a CLOSE the members are resolved with one RESOLVE to 0x000; the fabric root answers itself from its records (R411). -/
def resolveMembers (s : State) : State :=
  let want := resolveList s
  if want.isEmpty then fabOwner s s
  else if s.fab.node == .root then
    let got := s.fab.domain.members.filterMap fun m =>
      match s.fab.records.find? fun r => r.listed && r.serial == ser48 m.serial with
      | some r => if m.ordinal = s.fab.domain.own then none
                  else some { ordinal := m.ordinal, addr := r.addr, tag := (s.fab.tags.lookup r.addr).getD 0 : Resolved }
      | none => none
    offerReloads (postSyncs (staleUnresolved (fabOwner s (updFab (fun f => { f with resolved := got }) s))))
  else
    sendRequest 0x1C 0 ((want.map fun n => leBytes n 8).flatten) 0 0
      (staleUnresolved (fabOwner s (updFab (fun f => { f with resolved := [] }) s)))

/-! ## The epoch at the root (R394, Table 16-6) -/

/-- E1: the root increments the epoch and sends CALL on every UP port. -/
def epochBegin (s : State) : State :=
  let s1 := updFab (fun f => { f with
    epoch := f.epoch + 1, inEpoch := true, dirty := false, callRoot := ownSerial, callAt := s.now, lastSent := false, segs := 0,
    reports := [], below := [], assigned := [], mine := none }) s
  forEach (List.finRange 3) (fun p t =>
    let up := (t.fab.ports[p]).st == .up
    let t1 := updPort p (fun x => { x with child := up, finished := false, rcAt := s.now }) t
    if up then sendLink p 0x02 false (leBytes t1.fab.epoch 4 ++ leBytes ownSerial 8) t1 else t1) s1

/-- The ASSIGN entry of a node. -/
def assignEntry (r : Reported) (a : Nat) : List Byte := leBytes (ser48 r.serial) 6 ++ leBytes a 2 ++ leBytes r.depth 1 ++ [0]

/-- Send ASSIGN entries on a port in segments of 24. -/
def sendAssign (p : Port) (es : List (List Byte)) (s : State) : State :=
  forEach (chunks 240 es.flatten) (fun b t =>
    sendLink p 0x05 false (leBytes t.fab.epoch 4 ++ leBytes (b.length / 10) 1 ++ [0, 0, 0] ++ b) t) s

/-- What a CLOSE does to the counters and times of a node. -/
def closeCounts (dirty : Bool) (listed : Nat) (s : State) : State :=
  let s1 := (s.putNat Ix.FAB_EPOCH (s.fab.epoch % 2 ^ 32)).bump Ix.FAB_RC_STATS 0 8
  let s2 := if dirty then s1.bump Ix.FAB_RC_STATS 8 8 else s1
  (s2.putNat Ix.FAB_RC_LAST_TIME ((s.now - s.fab.callAt) / msP 1)).putNat Ix.FAB_ROOT_INFO (listed % 2 ^ 13)

/-- E3 and E4: addresses, ASSIGN, CLOSE, and the records of the root (R398, R399). -/
def epochClose (s : State) : State :=
  let f := s.fab
  let own : Reported := { serial := ownSerial, tag := ownTag s, prior := 0, prio := ownPrio s, depth := 0, priorValid := false,
                          lanes := false, port := 3 }
  let nodes := (f.reports.filter fun r => r.serial != ownSerial).foldl (fun a r => insertReported r a) []
  let base := listRec 0 ownSerial (f.records.filter fun r => r.serial != ser48 ownSerial)
  let (rs, got, none_) := assignAll nodes base [] []
  let given := 0 :: got.map (·.2)
  let s1 := updFab (fun x => { x with
    records := ageRecs given f.records rs, addr := 0, inEpoch := false,
    assigned := got.map fun g => (g.2, g.1.port),
    tags := (0, own.tag) :: got.map fun g => (g.2, g.1.tag) }) s
  let s2 := forEach none_ (fun r t => reportWith 0xB03 0 [t.view Ix.FAB_NODE, 0, toWord r.serial] t) s1
  let s3 := forEach (List.finRange 3) (fun p t =>
    if (t.fab.ports[p]).child then
      sendLink p 0x06 true (leBytes f.epoch 4 ++ leBytes given.length 2 ++ leBytes (b2n f.dirty) 2)
        (sendAssign p ((got.filter fun g => g.1.port == p.val).map fun g => assignEntry g.1 g.2) t)
    else t) s2
  resolveMembers (rebuildRoutes (closeCounts f.dirty given.length s3))

/-- Run an epoch; a root without a child port closes it at once. -/
def runEpoch (s : State) : State :=
  let t := epochBegin s
  if allFinished t then epochClose t else t

/-- E2 is done once every child port is finished: E3 and E4 at the root, LAST elsewhere; a DIRTY epoch is followed by the next
(R396, R401). -/
def checkReports (s : State) : State :=
  if !s.fab.inEpoch || !allFinished s then s
  else if s.fab.node == .root then
    let t := epochClose s
    if s.fab.dirty then runEpoch t else t
  else if s.fab.lastSent then s
  else updFab (fun f => { f with lastSent := true }) (sendEntry true s)

/-- A child port is finished (R396). -/
def finishChild (p : Port) (s : State) : State :=
  if s.fab.inEpoch && (s.fab.ports[p]).child && !(s.fab.ports[p]).finished then
    checkReports (updPort p (fun x => { x with finished := true }) s)
  else s

/-! ## The view is formed (R391–R393) -/

/-- Form the root view; a node that becomes ROOT starts an epoch at once (R393). A node keeps the parent its CALL gave it while it is
in the epoch or LISTED by it (R395); any other takes the port of the lowest distance (R391, assumption log 65). -/
def formView (s : State) : State :=
  let best := bestKey s
  let changed := best.1 != s.fab.rootPrio || best.2 != s.fab.rootSerial
  let s0 := if changed && s.fab.rootPrio != 0 then s.bump Ix.FAB_RC_STATS 16 8 else s
  if best == ownKey s then
    if s.fab.node == .root then announce s (updFab (fun f => { f with rootPrio := best.1, rootSerial := best.2, rootDist := 0 }) s0)
    else
      let s1 := updFab (fun f => { f with node := .root, addr := 0, depth := 0, parent := none, rootPrio := best.1, rootSerial := best.2,
                                          rootDist := 0, resolved := [] }) s0
      runEpoch (announce s (dropFabOwner s1))
  else
    match viewPort best s with
    | none => s0
    | some (d, q) =>
      let keep := !changed && (s.fab.inEpoch || s.fab.node == .listed) && (match s.fab.parent.bind portOf with
        | some p => (candidates s).any fun c => c.1 == best && c.2.2 == p
        | none => false)
      let dist := if keep then (match s.fab.parent.bind portOf with | some p => (s.fab.ports[p]).nbrDist | none => d) else d
      let s1 := updFab (fun f => { f with rootPrio := best.1, rootSerial := best.2, rootDist := Nat.min 63 (dist + 1),
                                          parent := if keep then f.parent else some q.val }) s0
      let s2 := if changed then updFab (fun f => { f with inEpoch := false }) (unlist s1) else s1
      announce s s2

/-- The node loses its root (R392). -/
def loseRoot (s : State) : State :=
  let hold := s.now + msP (100 * s.fld Ix.FAB_TIME 16 8)
  let key := (s.fab.rootPrio, s.fab.rootSerial)
  let inst := s.fab.parent.getD 0
  let s1 := updFab (fun f => { f with rootDist := 63, parent := none, inEpoch := false,
                                      held := (key.1, key.2, hold) :: f.held.filter fun h => !(h.1 == key.1 && h.2.1 == key.2) })
    (unlist s)
  formView (report 0xB01 inst (announce s s1))

/-- A LISTED node or the root sees a port go UP or DOWN (R394, R401). -/
def linkChanged (p : Port) (s : State) : State :=
  match s.fab.node with
  | .unlisted => s
  | .root => if s.fab.inEpoch then updFab (fun f => { f with dirty := true }) s else runEpoch s
  | .listed =>
    sendParent 0x07 (leBytes s.fab.epoch 4 ++ leBytes p.val 1 ++ leBytes (s.fab.ports[p]).st.code 1 ++ leBytes (s.fab.ports[p]).nbrSerial 8)
      (if s.fab.inEpoch then updFab (fun f => { f with dirty := true }) s else s)

/-! ## Link states (R387) -/

/-- A port that is DOWN: nothing of the neighbour is known; waiting frames are gone. -/
def downPort (st : LinkSt) (now : Nat) (x : PortS) : PortS :=
  { PortS.reset with st := st, ownTurn := now, child := x.child, finished := x.finished, rcAt := x.rcAt }

/-- A port goes DOWN: its routes end (R404), and a fabric owner beyond it has departed (R79); the change marks an epoch in progress DIRTY
before the port's report is finished (R401); the parent's loss is the root's (R392). -/
def portDown (p : Port) (s : State) : State :=
  let was := (s.fab.ports[p]).st
  let s1 := endFault 0xB05 p.val (endFault 0xB00 p.val
    ((updPort p (downPort .down s.now) s).bump (Ix.FAB_PORT_COUNTS p.val) 24 8))
  if was != .up then s1
  else
    let s2 := fabOwner s1 (updFab (fun f => { f with
      dflt := if f.dflt = 2 + p.val then 0 else f.dflt,
      routes := f.routes.map fun r => if r.2 = 2 + p.val then (r.1, 0) else r }) s1)
    if s2.fab.parent = some p.val ∧ s2.fab.node != .root then loseRoot (finishChild p s2)
    else formView (finishChild p (linkChanged p s2))

/-- A port comes UP: `train` is the rate at which its stream lanes train, 0 without lanes, 4 where no rate does (R383, R408a). -/
def portUp (p : Port) (train : Nat) (s : State) : State :=
  let cfg := s.fld (Ix.FAB_STREAM_CFG p.val) 0 2
  let rate := if train ≤ 3 then Nat.min train cfg else 0
  let s1 := updPort p (fun x => { x with st := .up, lanes := rate != 0, rate := rate, credits := 32, reqAt := s.now, helloAt := s.now }) s
  linkChanged p (formView (condFault 0xB05 p.val (decide (4 ≤ train) && cfg != 0) s1))

/-- TRAINING ends once both HELLOs are acknowledged (Table 16-5). -/
def checkTrained (p : Port) (train : Nat) (s : State) : State :=
  let x := s.fab.ports[p]
  if x.st == .training && x.helloAcked && x.helloGot then portUp p train s else s

/-- A received HELLO (R387, R391, R392). -/
def helloRx (p : Port) (at_ : Nat) (f : FabFrame) (train : Nat) (s0 : State) : State :=
  let s := s0.reach at_
  let st := (s.fab.ports[p]).st
  if st != .training && st != .up then s
  else
    let b := f.payload
    let s1 := updPort p (fun x => { x with
      nbrSerial := leAt b 0 8, nbrPrio := leAt b 8 1 % 16, nbrRoot := leAt b 9 8, nbrRootPrio := leAt b 17 1,
      nbrDist := leAt b 18 1, nbrAddr := f.src, helloGot := true }) s
    let x := s1.fab.ports[p]
    if x.nbrSerial = ownSerial then
      condFault 0xB00 p.val true (updPort p (fun y => { y with st := .loop, queue := [], flight := none }) s1)
    else if st == .training then checkTrained p train s1
    else if s1.fab.parent = some p.val ∧ s1.fab.node != .root
        ∧ (x.nbrRoot ≠ s1.fab.rootSerial ∨ x.nbrRootPrio ≠ s1.fab.rootPrio ∨ 63 ≤ x.nbrDist) then loseRoot s1
    else formView s1

/-- HELLO (R391). -/
def execHello (p : Port) (at_ : Nat) (f : FabFrame) (train : Nat) (s : State) : Host.Outcome State Fault Refusal :=
  doneFor .fabric s fun s => helloRx p at_ f train s

/-- A DOWN port sends an idle turn every 10 ms (R387). -/
def idleTurn (p : Port) (s : State) : State :=
  if (s.fab.ports[p]).st == .down then
    let s1 := s.reach ((s.fab.ports[p]).ownTurn + msP 10)
    updPort p (fun x => { x with ownTurn := s1.now }) s1
  else s

/-- FAB_IDLE_TURN_TIMER (R387). -/
def execFabIdleTurnTimer (p : Port) (s : State) : Host.Outcome State Fault Refusal := doneFor .fabric s fun s => idleTurn p s

/-- No valid turn for 1 ms (R387). -/
def linkTimeout (p : Port) (s : State) : State :=
  match (s.fab.ports[p]).st with
  | .training | .up | .loop => portDown p (s.reach ((s.fab.ports[p]).lastTurn + msP 1))
  | _ => s

/-- FAB_LINK_TIMEOUT (R387). -/
def execFabLinkTimeout (p : Port) (s : State) : Host.Outcome State Fault Refusal := doneFor .fabric s fun s => linkTimeout p s

/-- An UP port sends HELLO every `FAB_TIME`.HELLO (R387). -/
def helloTimer (p : Port) (s : State) : State :=
  if (s.fab.ports[p]).st == .up then
    sendHello p (s.reach ((s.fab.ports[p]).helloAt + msP (10 * s.fld Ix.FAB_TIME 0 8)))
  else s

/-- HELLO_SEND_TIMER (R387). -/
def execHelloSendTimer (p : Port) (s : State) : Host.Outcome State Fault Refusal := doneFor .fabric s fun s => helloTimer p s

/-- A received LEAVE (R387). -/
def leaveRx (p : Port) (at_ : Nat) (s : State) : State :=
  if (s.fab.ports[p]).st == .up then portDown p (s.reach at_) else s

/-- LEAVE (R387). -/
def execLeave (p : Port) (at_ : Nat) (s : State) : Host.Outcome State Fault Refusal := doneFor .fabric s fun s => leaveRx p at_ s

/-- HOLD of a root key expires: the view is formed again (R392). -/
def holdEnds (s : State) : State :=
  match s.fab.held.foldl (fun a h => match a with | none => some h.2.2 | some m => some (Nat.min m h.2.2)) none with
  | none => s
  | some t =>
    let s1 := s.reach t
    formView (updFab (fun f => { f with held := f.held.filter fun h => decide (s1.now < h.2.2) }) s1)

/-- ROOT_HOLD_EXPIRY (R392). -/
def execRootHoldExpiry (s : State) : Host.Outcome State Fault Refusal := doneFor .fabric s fun s => holdEnds s

/-- The root starts an epoch when it is idle. -/
def epochStart (s : State) : State := if s.fab.node == .root && !s.fab.inEpoch then runEpoch s else s

/-- EPOCH_START (R394). -/
def execEpochStart (s : State) : Host.Outcome State Fault Refusal := doneFor .fabric s fun s => epochStart s

/-- Writing 1 to `FAB_RC_CMD` at the root (R394); a busy root marks its epoch DIRTY, and the next follows. -/
def rcCommand (v : Word) (s : State) : State :=
  if bit v 0 && s.fab.node == .root then
    if s.fab.inEpoch then updFab (fun f => { f with dirty := true }) s else runEpoch s
  else s

/-! ## Roll Call messages (R395, R396) -/

/-- A received CALL. -/
def callRx (p : Port) (at_ : Nat) (f : FabFrame) (s0 : State) : State :=
  let s := s0.reach at_
  let e := leAt f.payload 0 4
  if (s.fab.ports[p]).st != .up then s
  else if s.fab.epoch < e ∧ s.fab.node != .root then
    let depth := f.hops + 1
    let s1 := updFab (fun x => { x with
      epoch := e, inEpoch := true, dirty := false, parent := some p.val, depth := depth, callRoot := leAt f.payload 4 8,
      callAt := s.now, lastSent := false, segs := 0, below := [], assigned := [], mine := none, reports := [] }) s
    let s2 := forEach (List.finRange 3) (fun q t =>
      let fwd := (t.fab.ports[q]).st == .up && q != p && decide (depth < 63)
      let t1 := updPort q (fun x => { x with child := fwd, finished := false, rcAt := s.now }) t
      if fwd then enqueue q { f with hops := f.hops + 1 } t1 else t1) s1
    if allFinished s2 then updFab (fun x => { x with lastSent := true }) (sendEntry true s2) else sendEntry false s2
  else if s.fab.epoch = e ∧ s.fab.parent ≠ some p.val then sendLink p 0x03 false (leBytes e 4) s
  else if s.fab.epoch = e ∧ s.fab.node == .root then sendLink p 0x03 false (leBytes e 4) s
  else if s.fab.epoch < e ∧ !s.fab.inEpoch then updFab (fun x => { x with epoch := e }) s
  else s

/-- CALL (R395). A root between its epochs remembers the higher epoch it has seen (R393). -/
def execCall (p : Port) (at_ : Nat) (f : FabFrame) (s : State) : Host.Outcome State Fault Refusal :=
  doneFor .fabric s fun s => callRx p at_ f s

/-- A received DECLINE finishes the child port, which is none of this epoch's (R396). -/
def declineRx (p : Port) (at_ : Nat) (f : FabFrame) (s0 : State) : State :=
  let s := s0.reach at_
  if s.fab.inEpoch ∧ leAt f.payload 0 4 = s.fab.epoch ∧ (s.fab.ports[p]).child then
    let s1 := finishChild p s
    if s1.fab.epoch = s.fab.epoch then updPort p (fun x => { x with child := false }) s1 else s1
  else s

/-- DECLINE (R396). -/
def execDecline (p : Port) (at_ : Nat) (f : FabFrame) (s : State) : Host.Outcome State Fault Refusal :=
  doneFor .fabric s fun s => declineRx p at_ f s

/-- A received REPORT segment: forwarded to the parent, or collected at the root (R396); a node at depth 63 is reported there as
FAB_TOO_DEEP. -/
def reportRx (p : Port) (at_ : Nat) (f : FabFrame) (s0 : State) : State :=
  let s := s0.reach at_
  let b := f.payload
  if !(s.fab.inEpoch && (s.fab.ports[p]).child && leAt b 0 4 == s.fab.epoch) then s
  else
    let es := reportEntries p b
    let s1 := updPort p (fun x => { x with rcAt := s.now })
      (updFab (fun x => { x with below := (es.map fun e => (ser48 e.serial, p.val)) ++ x.below }) s)
    let s2 :=
      if s.fab.node == .root then
        forEach (es.filter fun e => e.depth == 63) (fun _ t => report 0xB02 p.val t)
          (updFab (fun x => { x with reports := x.reports ++ es }) s1)
      else
        updFab (fun x => { x with segs := x.segs + 1 })
          (sendParent 0x04 (reportHead s.fab.epoch s.fab.segs es.length false ++ b.drop 8) s1)
    if leAt b 7 1 % 2 = 1 then finishChild p s2 else s2

/-- REPORT (R396). -/
def execReport (p : Port) (at_ : Nat) (f : FabFrame) (s : State) : Host.Outcome State Fault Refusal :=
  doneFor .fabric s fun s => reportRx p at_ f s

/-- A child port was silent for RC_WAIT (R396). -/
def rcWait (p : Port) (s : State) : State :=
  if s.fab.inEpoch && (s.fab.ports[p]).child && !(s.fab.ports[p]).finished then
    finishChild p (s.reach ((s.fab.ports[p]).rcAt + msP (s.fld Ix.FAB_TIME 8 8)))
  else s

/-- RC_WAIT_TIMEOUT (R396). -/
def execRcWaitTimeout (p : Port) (s : State) : Host.Outcome State Fault Refusal := doneFor .fabric s fun s => rcWait p s

/-- The entries of an ASSIGN payload: serial bits [47:0], address, depth, and the entry's bytes. -/
def assignEntries (b : List Byte) : List (Nat × Nat × Nat × List Byte) :=
  (chunks 10 (b.drop 8)).filterMap fun e =>
    if e.length = 10 then some (leAt e 0 6, leAt e 6 2 % 4096, leAt e 8 1, e) else none

/-- A received ASSIGN segment (R395). -/
def assignRx (p : Port) (at_ : Nat) (f : FabFrame) (s0 : State) : State :=
  let s := s0.reach at_
  if !(s.fab.inEpoch && s.fab.parent == some p.val && leAt f.payload 0 4 == s.fab.epoch) then s
  else
    let es := assignEntries f.payload
    let s1 := match es.find? fun e => e.1 == ser48 ownSerial with
      | some e => updFab (fun x => { x with mine := some (e.2.1, e.2.2.1) }) s
      | none => s
    forEach (List.finRange 3) (fun q t =>
      let mine := es.filter fun e => e.1 != ser48 ownSerial && t.fab.below.lookup e.1 == some q.val
      if mine.isEmpty then t
      else
        sendAssign q (mine.map fun e => e.2.2.2)
          (updFab (fun x => { x with assigned := x.assigned ++ mine.map fun e => (e.2.1, q.val) }) t)) s1

/-- ASSIGN (R395). -/
def execAssign (p : Port) (at_ : Nat) (f : FabFrame) (s : State) : Host.Outcome State Fault Refusal :=
  doneFor .fabric s fun s => assignRx p at_ f s

/-- A received CLOSE: forwarded on the child ports; the node is LISTED at the address assigned to it (R395, R399, R400, R404,
R411). -/
def closeRx (p : Port) (at_ : Nat) (f : FabFrame) (s0 : State) : State :=
  let s := s0.reach at_
  if !(s.fab.inEpoch && s.fab.parent == some p.val && leAt f.payload 0 4 == s.fab.epoch) then s
  else
    let s1 := if s.fab.node == .unlisted then s.bump Ix.FAB_RC_STATS 24 8 else s
    let s2 := forEach (List.finRange 3) (fun q t =>
      if (t.fab.ports[q]).child then enqueue q { f with hops := f.hops + 1 } t else t) s1
    let s3 := closeCounts (leAt f.payload 6 2 % 2 == 1) (leAt f.payload 4 2)
      (updFab (fun x => { x with inEpoch := false, reloaded := if x.node == .unlisted then [] else x.reloaded,
                                 declined := if x.node == .unlisted then [] else x.declined }) s2)
    match s3.fab.mine with
    | none => unlist s3
    | some (a, d) =>
      resolveMembers (rebuildRoutes (updFab (fun x => { x with
        node := .listed, addr := a, depth := d, retained := some (a, x.epoch, x.callRoot), mine := none }) s3))

/-- CLOSE (R399). -/
def execClose (p : Port) (at_ : Nat) (f : FabFrame) (s : State) : Host.Outcome State Fault Refusal :=
  doneFor .fabric s fun s => closeRx p at_ f s

/-- A received LINK_CHANGE (R394, R401). -/
def linkChangeRx (at_ : Nat) (f : FabFrame) (s0 : State) : State :=
  let s := s0.reach at_
  match s.fab.node with
  | .root => if s.fab.inEpoch then updFab (fun x => { x with dirty := true }) s else runEpoch s
  | _ => match s.fab.parent.bind portOf with | some q => enqueue q { f with hops := f.hops + 1 } s | none => s

/-- LINK_CHANGE (R401). -/
def execLinkChange (at_ : Nat) (f : FabFrame) (s : State) : Host.Outcome State Fault Refusal :=
  doneFor .fabric s fun s => linkChangeRx at_ f s

/-! ## Start, stop and settings -/

/-- Ports follow their enable bits. -/
def fabPorts (s : State) : State :=
  forEach (List.finRange 3) (fun p t =>
    let st := (t.fab.ports[p]).st
    if portOn p t then (if st == .disabled then updPort p (fun _ => { PortS.reset with st := .down, ownTurn := t.now }) t else t)
    else if st == .up then updPort p (fun _ => PortS.reset) (portDown p t)
    else updPort p (fun _ => PortS.reset) t) s

/-- The fabric engine starts: the node is ROOT alone (R391). -/
def fabStart (s : State) : State :=
  formView (fabPorts (updFab (fun f => { f with
    ports := Vector.replicate 3 PortS.reset, node := .unlisted, addr := 0, depth := 0, parent := none, rootSerial := 0, rootPrio := 0,
    rootDist := 63, held := [], inEpoch := false, routes := [], hasTable := false, outstanding := [], rxq := [], resolved := [],
    txs := [], rxs := [] }) s))

/-- LEAVE on every UP port before the FAB domain goes, after a PARK report that waits there (R92, R388); the ports are then off. -/
def fabLeave (s : State) : State :=
  let s0 := forEach (upPorts s) (fun p t => sendLink p 0x08 false [] t) s
  let last := (upPorts s).flatMap fun p =>
    ((s0.fab.ports[p]).queue.filter fun q => q.typ == 0x1E || q.typ == 0x08).map fun q => (p.val, q)
  let s1 := updFab (fun f => { f with farewell := last }) s0
  let quiet : PortS → PortS := fun x =>
    { PortS.reset with st := if x.st == .disabled then .disabled else .down }
  unlist (updFab (fun f => { f with ports := f.ports.map quiet, inEpoch := false, parent := none, rootDist := 63 }) s1)

/-- A write to `FAB_ADDR_SEL` latches the record of an address; zeros at a node that is not the root (R403). -/
def addrSelect (a : Nat) (s : State) : State :=
  let n := a % 4096
  let v := if s.fab.node == .root then (match recAt s.fab.records n with
      | some r => r.serial + r.age * 2 ^ 48 + (if r.listed then 1 else 2) * 2 ^ 52
      | none => 0) else 0
  ((s.putNat Ix.FAB_ADDR_SEL n).putNat Ix.FAB_ADDR_REC_LO (v % 2 ^ 32)).putNat Ix.FAB_ADDR_REC_HI (v / 2 ^ 32)

end Sys2Proof.Machine
end

