-- ==== Sys2Proof/Machine/Routes.lean ====
section
/-!
DEFINITION. Routing, requests between nodes, domain signals, phase clock publication and stream lanes
(17_fabric_routes_and_streams.md).
-/
namespace Sys2Proof.Machine

/-! ## Routing (R405, R406) -/

/-- Forward a frame that is not for this node (R405): no route, hop limit, or the named port. -/
def forwardFrame (f : FabFrame) (s : State) : State :=
  match portOf (routeCode f.dst s - 2) with
  | none => s.bump Ix.FAB_ROUTE_STATS 16 8
  | some q =>
    if routeCode f.dst s < 2 ∨ (s.fab.ports[q]).st != .up then s.bump Ix.FAB_ROUTE_STATS 16 8
    else if 62 ≤ f.hops then report 0xB04 0 (s.bump Ix.FAB_ROUTE_STATS 24 8)
    else enqueue q { f with hops := f.hops + 1 } (s.bump Ix.FAB_ROUTE_STATS 0 16)

/-- The types that may be broadcast (R406). -/
def mayBroadcast (typ : Nat) : Bool := typ == 0x18 || typ == 0x1E || (0x24 ≤ typ && typ ≤ 0x27)

/-- Forward a broadcast on every child port: at and below its DST node (R406). -/
def spread (f : FabFrame) (s : State) : State :=
  forEach (List.finRange 3) (fun q t =>
    if (t.fab.ports[q]).child && (t.fab.ports[q]).st == .up then
      if 62 ≤ f.hops then report 0xB04 0 (t.bump Ix.FAB_ROUTE_STATS 24 8)
      else enqueue q { f with hops := f.hops + 1 } (t.bump Ix.FAB_ROUTE_STATS 0 16)
    else t) s

/-- A broadcast frame is delivered here: at its DST node, and at every node below, which it reaches on the parent port
(R406). -/
def broadcastHere (p : Port) (f : FabFrame) (s : State) : Bool :=
  routeCode f.dst s == 1 || (s.fab.parent == some p.val && routeCode f.dst s == 2 + p.val)

/-- A one-way message of this node by its route (to itself: nothing is sent). -/
def sendMessage (typ dst : Nat) (payload : List Byte) (s : State) : State :=
  if routeCode dst s = 1 then s else stepSeq (sendRouted (mkFrame typ false dst payload s) s)

/-- The status header of a reply (R407). -/
def statusHead (st : Nat) : List Byte := leBytes st 1 ++ [0, 0, 0]

/-- Reply to a request: same SEQ, to its SRC (R408). -/
def sendReply (f : FabFrame) (typ : Nat) (payload : List Byte) (s : State) : State :=
  sendRouted { typ := typ, bcast := false, dst := f.src, src := srcAddr s, hops := 0, seq := f.seq, payload := payload } s

/-! ## Requests (R408) -/

/-- An own request ends. -/
def endRequest (q : Nat) (s : State) : State := updFab (fun f => { f with outstanding := f.outstanding.filter (·.seq != q) }) s

/-- The own request a reply answers. -/
def requestOf (f : FabFrame) (s : State) : Option FabReq := s.fab.outstanding.find? fun r => r.seq == f.seq && r.dst == f.src

/-- TIMEOUT of an own request (R408). -/
def requestTimeout (q : Nat) (s : State) : State :=
  match s.fab.outstanding.find? (·.seq == q) with
  | none => s
  | some r => (endRequest q (s.reach (r.at_ + msP (s.fld Ix.FAB_REQ_CFG 0 16)))).bump Ix.FAB_REQ_COUNTS 0 16

/-- REQUEST_TIMEOUT (R408). -/
def execRequestTimeout (seq : Nat) (s : State) : Host.Outcome State Fault Refusal :=
  doneFor .fabric s fun s => requestTimeout seq s

/-- An ECHO request is answered with its bytes (Table 17-1). -/
def echoRx (at_ : Nat) (f : FabFrame) (s : State) : State := sendReply f 0x11 (statusHead 0 ++ f.payload) (s.reach at_)

/-- ECHO (R407). -/
def execEcho (at_ : Nat) (f : FabFrame) (s : State) : Host.Outcome State Fault Refusal :=
  doneFor .fabric s fun s => echoRx at_ f s

/-! ## The vehicle domain (R410–R413) -/

/-- The address of a member. -/
def memberAddr (ordinal : Nat) (s : State) : Option Nat := (s.fab.resolved.find? fun r => r.ordinal == ordinal).map (·.addr)

/-- A RESOLVE request at the fabric root: addresses and tags from its records (R411). -/
def resolveRx (at_ : Nat) (f : FabFrame) (s0 : State) : State :=
  let s := s0.reach at_
  let one : List Byte → List Byte := fun b =>
    match s.fab.records.find? fun r => r.listed && r.serial == ser48 (leNat b) with
    | some r => leBytes r.addr 2 ++ [0, 0] ++ leBytes ((s.fab.tags.lookup r.addr).getD 0) 4
    | none => [0xFF, 0xFF, 0, 0, 0, 0, 0, 0]
  if s.fab.node == .root then sendReply f 0x1D (statusHead 0 ++ ((chunks 8 f.payload).map one).flatten) s else s

/-- RESOLVE (R411). -/
def execResolve (at_ : Nat) (f : FabFrame) (s : State) : Host.Outcome State Fault Refusal :=
  doneFor .fabric s fun s => resolveRx at_ f s

/-- A RESOLVE_REPLY: which members are resolved (R411); the published clocks follow their routes. -/
def resolveReply (at_ : Nat) (f : FabFrame) (s0 : State) : State :=
  let s := s0.reach at_
  let others := s.fab.domain.members.filter fun m => m.ordinal != s.fab.domain.own
  let es := (chunks 8 (f.payload.drop 4)).zip others
  let got := es.filterMap fun (b, m) =>
    if leAt b 0 2 = 0xFFFF then none else some { ordinal := m.ordinal, addr := leAt b 0 2 % 4096, tag := leAt b 4 4 : Resolved }
  offerReloads (postSyncs (fabOwner s (updFab (fun x => { x with resolved := got }) s)))

/-- RESOLVE_REPLY (R411). -/
def execResolveReply (at_ : Nat) (f : FabFrame) (s : State) : Host.Outcome State Fault Refusal :=
  doneFor .fabric s fun s => match requestOf f s with | some r => if r.typ = 0x1C then resolveReply at_ f (endRequest f.seq s) else s | none => s

/-- A TX sink hands a value of a publication: 32 × group + position (R412). -/
def handFab (k : Nat) (v : Word) (s : State) : State :=
  updFab (fun f => { f with pubVals := (k, v) :: f.pubVals.filter (·.1 != k) }) s

/-- Publication `k` of the DOMAIN section is sent to every resolved member of its mask (R412). -/
def signalsSend (k : Nat) (s : State) : State :=
  match s.fab.domain.pubs[k]? with
  | none => s
  | some p =>
    let s1 := s.reach (s.fab.pubAt.getD k 0)
    let vals := ((List.range p.count).map fun i => leBytes ((s1.fab.pubVals.lookup (32 * p.group + i)).getD 0).toNat 4).flatten
    let s2 := forEach (maskAddrs p.mask s1) (fun a t => sendMessage 0x18 a (leBytes p.group 1 ++ leBytes p.count 1 ++ [0, 0] ++ vals) t) s1
    updFab (fun f => { f with pubAt := f.pubAt.set k (s1.now + msP p.period) }) s2

/-- SIGNALS_SEND (R412). -/
def execSignalsSend (pub : Nat) (s : State) : Host.Outcome State Fault Refusal := doneFor .fabric s fun s => signalsSend pub s

/-- A word converted under a signal type (R412, Table 7-1). -/
def asType (typ : Nat) (w : Word) : Word := if typ = 0 then (if w = 0 then 0 else 1) else w

/-- A SIGNALS message: the subscriptions of its group and source (R412). -/
def signalsRx (at_ : Nat) (f : FabFrame) (s0 : State) : State :=
  let s := s0.reach at_
  match memberAt f.src s with
  | none => s
  | some m =>
    let group := leAt f.payload 0 1
    let count := leAt f.payload 1 1
    forEach s.fab.domain.subs.zipIdx (fun (x, n) t =>
      if x.ordinal = m.ordinal ∧ x.group = group then
        let t1 := updFab (fun y => { y with subs := y.subs.set n { lastAt := t.now, stale := false } }) t
        if x.pos < count then publishSource 8 n (asType x.typ (toWord (leAt f.payload (4 + 4 * x.pos) 4))) false t1
        else t1
      else t) s

/-- SIGNALS_RECEIVED (R412). -/
def execSignalsReceived (at_ : Nat) (f : FabFrame) (s : State) : Host.Outcome State Fault Refusal :=
  doneFor .fabric s fun s => signalsRx at_ f s

/-- The timeout of a subscription (R412). -/
def subTimeout (n : Nat) (s : State) : State :=
  match s.fab.domain.subs[n]?, s.fab.subs[n]? with
  | some c, some x =>
    if x.stale then s
    else
      staleSource 8 n true
        (updFab (fun y => { y with subs := y.subs.set n { x with stale := true } }) (s.reach (x.lastAt + msP c.timeout)))
  | _, _ => s

/-- SUBSCRIPTION_TIMEOUT (R412). -/
def execSubscriptionTimeout (n : Nat) (s : State) : Host.Outcome State Fault Refusal := doneFor .fabric s fun s => subTimeout n s

/-- The DOMAIN_STATE of this node (Table 17-1). -/
def domainState (s : State) : List Byte :=
  leBytes (b2n (s.modes.mode == .ride) + b2n s.modes.announced * 2 + s.fab.domain.own % 8 * 4) 1 ++ [0, 0, 0]

/-- The domain root sends DOMAIN_STATE to every resolved member (R413). -/
def sendDomainState (s : State) : State :=
  if isDomainRoot s then
    forEach s.fab.resolved (fun r t => sendMessage 0x1E r.addr (domainState t) t) (updFab (fun f => { f with stateAt := s.now }) s)
  else s

/-- DOMAIN_STATE_SEND: every 100 ms (R413). -/
def domainStateTimer (s : State) : State :=
  if isDomainRoot s then sendDomainState (s.reach (s.fab.stateAt + msP 100)) else s

/-- DOMAIN_STATE_SEND (R413). -/
def execDomainStateSend (s : State) : Host.Outcome State Fault Refusal := doneFor .fabric s fun s => domainStateTimer s

/-- A received DOMAIN_STATE: the root's RIDE and PARK at a member, a member's PARK at the root (R83, R91, R92, R413). -/
def domainStateRx (at_ : Nat) (f : FabFrame) (s0 : State) : State :=
  let s := s0.reach at_
  match memberAt f.src s with
  | none => s
  | some m =>
    let b := leAt f.payload 0 1
    if m.ordinal = 0 then
      { updFab (fun x => { x with rootStateAt := s.now }) s with
        modes := { s.modes with rootRide := b % 2 == 1, rootAwake := b / 2 % 2 == 0, announced := s.modes.announced || b / 2 % 2 == 1 } }
    else if isDomainRoot s && b / 2 % 2 == 1 then
      { s with modes := { s.modes with membersAwake := s.modes.membersAwake.filter (· != m.ordinal) } }
    else s

/-- DOMAIN_STATE_RECEIVED (R413). -/
def execDomainStateReceived (at_ : Nat) (f : FabFrame) (s : State) : Host.Outcome State Fault Refusal :=
  doneFor .fabric s fun s => domainStateRx at_ f s

/-- No DOMAIN_STATE from the root for 300 ms: RIDE is taken as false (R413). -/
def rootStateTimeout (s : State) : State :=
  if s.modes.rootRide then
    let s1 := s.reach (s.fab.rootStateAt + msP 300)
    { s1 with modes := { s1.modes with rootRide := false } }
  else s

/-- ROOT_STATE_TIMEOUT (R413). -/
def execRootStateTimeout (s : State) : Host.Outcome State Fault Refusal := doneFor .fabric s fun s => rootStateTimeout s

/-! ## Phase clock publication (R419–R421) -/

/-- Base periods from the end of a peer's turn to the end of the own TURN byte: the nominal 2 µs gap, preamble and TURN byte
(R384). -/
def turnByteP : Nat := usP 8

/-- The FAB_SYNC message of a clock at an instant. -/
def syncPayload (c : Pc) (m : Nat) (s : State) : List Byte :=
  let pos := (s.tt.clocks[c]).shown s.now
  leBytes (pos % 65536) 2 ++ leBytes (pos / 65536 % 65536) 2 ++ leBytes (c.val + m * 16) 1 ++ [0] ++ leBytes (s.freeCount % 2 ^ 32) 4
    ++ leBytes 0 4 ++ [0, 0]

/-- Put CORR into a FAB_SYNC payload. -/
def withCorr (corr : Nat) (b : List Byte) : List Byte := b.take 10 ++ leBytes corr 4 ++ b.drop 14

/-- A FAB_SYNC event fires on a port: one message for each resolved destination by that port; a link without a measured delay
carries none (R419–R421). -/
def fireFabSync (p : Port) (c : Pc) (s : State) : State :=
  if (s.fab.ports[p]).delay.isNone then s
  else
    forEach (s.fab.domain.exts.filter fun x => x.clock == c.val) (fun x t =>
      forEach ((maskAddrs x.mask t).filter fun a => routeCode a t == 2 + p.val) (fun a u =>
        let f := mkFrame 0x19 false a (syncPayload c (syncM x.clock x.m u) u) u
        stepSeq (updPort p (fun y => { y with syncs := y.syncs ++ [{ frame := f, corr := 0, at_ := u.now }] }) u)) t) s

/-- The clocks bound to a publisher's clock (Table 6-1 EXT). -/
def extClocks (src clk : Nat) (s : State) : List Pc :=
  (List.finRange 8).filter fun p =>
    s.fld (Ix.TT_PC_CFG p.val) 0 4 == 7 && s.fld (Ix.TT_PC_CFG p.val) 8 12 == src && s.fld (Ix.TT_PC_CFG p.val) 20 3 == clk

/-- A FAB_SYNC for this node becomes a mark, or is discarded and counted (R421). `at_` is the end of its TURN byte. -/
def syncMark (p : Port) (at_ : Nat) (f : FabFrame) (s : State) : State :=
  let b := f.payload
  let clk := leAt b 4 1 % 8
  let m := leAt b 4 1 / 16 % 4
  match (s.fab.ports[p]).delay with
  | none => s
  | some d =>
    let mine := extClocks f.src clk s
    if mine.isEmpty then
      (match (List.finRange 8).find? fun c => s.fld (Ix.TT_PC_CFG c.val) 0 4 == 7 with
       | some c => s.bump (Ix.FAB_EXT c.val) 8 8
       | none => s)
    else
      forEach mine (fun c t =>
        if 7 < f.hops then t.bump (Ix.FAB_EXT c.val) 8 8
        else
          let inst := at_ - leAt b 10 4 - d
          let angle := leAt b 0 2
          let k : Mark := { angle := angle, ref := angle == 0, next := 65536 / 2 ^ m, rate := none }
          let t1 := ((t.putFld (Ix.FAB_EXT c.val) 0 3 (f.hops + 1)).putFld (Ix.FAB_EXT c.val) 4 2 m).putFld (Ix.FAB_EXT c.val) 16 16 (leAt b 2 2)
          phaseMarkAt c k inst t1) s

/-- A FAB_SYNC is received: a mark here, or forwarded in the next own turn of its port with CORR extended (R421). -/
def syncRx (p : Port) (at_ : Nat) (f : FabFrame) (s0 : State) : State :=
  let s := s0.reach at_
  if routeCode f.dst s = 1 then syncMark p at_ f s
  else
    match portOf (routeCode f.dst s - 2), (s.fab.ports[p]).delay with
    | some q, some d =>
      if routeCode f.dst s < 2 ∨ (s.fab.ports[q]).st != .up then s.bump Ix.FAB_ROUTE_STATS 16 8
      else if 62 ≤ f.hops then report 0xB04 0 (s.bump Ix.FAB_ROUTE_STATS 24 8)
      else if (s.fab.ports[q]).delay.isNone then s
      else
        updPort q (fun y => { y with syncs := y.syncs ++ [{ frame := { f with hops := f.hops + 1 }, corr := leAt f.payload 10 4 + d, at_ := at_ }] })
          (s.bump Ix.FAB_ROUTE_STATS 0 16)
    | _, _ => s.bump Ix.FAB_ROUTE_STATS 16 8

/-- FAB_SYNC_RECEIVED (R421). -/
def execFabSyncReceived (p : Port) (at_ : Nat) (f : FabFrame) (s : State) : Host.Outcome State Fault Refusal :=
  doneFor .fabric s fun s => syncRx p at_ f s

/-- Every 1 s an UP port sends DELAY_REQ (R420). -/
def delayReqSend (p : Port) (s : State) : State :=
  if (s.fab.ports[p]).st == .up then
    let s1 := s.reach ((s.fab.ports[p]).reqAt + secP 1)
    sendLink p 0x1A false [] (updPort p (fun x => { x with reqAt := s1.now }) s1)
  else s

/-- DELAY_REQ_SEND (R420). -/
def execDelayReqSend (p : Port) (s : State) : Host.Outcome State Fault Refusal := doneFor .fabric s fun s => delayReqSend p s

/-- A DELAY_REQ is answered: t2 is the end of its TURN byte, t3 is set when the answer goes (R420). -/
def delayReqRx (p : Port) (at_ : Nat) (s0 : State) : State :=
  let s := s0.reach at_
  if (s.fab.ports[p]).st == .up then sendLink p 0x1B false [] (updPort p (fun x => { x with t2 := some at_ }) s) else s

/-- DELAY_REQ (R420). -/
def execDelayReq (p : Port) (at_ : Nat) (s : State) : Host.Outcome State Fault Refusal :=
  doneFor .fabric s fun s => delayReqRx p at_ s

/-- A DELAY_RESP gives the link delay ((t4 − t1) − (t3 − t2)) / 2 in base periods of the 32-bit counts (R420). -/
def delayRespRx (p : Port) (at_ : Nat) (f : FabFrame) (s0 : State) : State :=
  let s := s0.reach at_
  match (s.fab.ports[p]).t1 with
  | none => s
  | some t1 =>
    let t2 := leAt f.payload 0 4
    let t3 := leAt f.payload 4 4
    let d := ((at_ - t1) - (t3 + 2 ^ 32 - t2) % 2 ^ 32) / 2
    updPort p (fun x => { x with delay := some d, t1 := none }) s

/-- DELAY_RESP (R420). -/
def execDelayResp (p : Port) (at_ : Nat) (f : FabFrame) (s : State) : Host.Outcome State Fault Refusal :=
  doneFor .fabric s fun s => delayRespRx p at_ f s

/-! ## Stream lanes (R414–R417) -/

/-- Credits of a packet (R415). -/
def pktCredits (k : FabPacket) : Nat := ceilDiv k.payload.length 64

/-- A packet's turn: ascending STREAM and SRC after the one served last (R416). -/
def pickPacket (x : PortS) : Option FabPacket :=
  let key : FabPacket → Nat := fun k => k.stream * 4096 + k.src
  let last := x.served.1 * 4096 + x.served.2
  let least : List FabPacket → Option FabPacket := fun l =>
    l.foldl (fun a k => match a with | none => some k | some m => if key k < key m then some k else some m) none
  match least (x.packets.filter fun k => decide (last < key k)) with
  | some k => some k
  | none => least x.packets

/-- Send packets while credits last (R415); `fuel` bounds the packets. -/
def pump (p : Port) : Nat → State → State
  | 0, s => s
  | n + 1, s =>
    let x := s.fab.ports[p]
    match pickPacket x with
    | none => s
    | some k =>
      if pktCredits k ≤ x.credits then
        pump p n ((updPort p (fun y => { y with credits := y.credits - pktCredits k, packets := y.packets.erase k,
                                                served := (k.stream, k.src) }) s).bump (Ix.FAB_STREAM_COUNTS p.val) 0 16)
      else s.bump (Ix.FAB_STREAM_COUNTS p.val) 24 8

/-- Send what waits on a port. -/
def pumpPort (p : Port) (s : State) : State :=
  if (s.fab.ports[p]).packets.isEmpty then s else pump p ((s.fab.ports[p]).packets.length) s

/-- A packet goes to its route's port; a link without stream lanes drops it (R416). -/
def routePacket (k : FabPacket) (s : State) : State :=
  match portOf (routeCode k.dst s - 2) with
  | none => s.bump Ix.FAB_ROUTE_STATS 16 8
  | some q =>
    if routeCode k.dst s < 2 ∨ (s.fab.ports[q]).st != .up ∨ (s.fab.ports[q]).rate = 0 then s.bump Ix.FAB_ROUTE_STATS 16 8
    else pumpPort q (updPort q (fun y => { y with packets := y.packets ++ [k] }) s)

/-- Change a stream this node sends. -/
def updTx (stream dst : Nat) (f : StreamTx → StreamTx) (s : State) : State :=
  updFab (fun x => { x with txs := x.txs.map fun t => if t.stream == stream && t.dst == dst then f t else t }) s

/-- Send the packets of a stream that the window of 128 lets go (R417). -/
def streamPump (stream dst : Nat) (s : State) : State :=
  match s.fab.txs.find? fun t => t.stream == stream && t.dst == dst with
  | none => s
  | some t =>
    let hi := Nat.min (t.acked + 128) (t.acked + t.data.length)
    let todo := (List.range (hi - t.next)).map fun i => t.next + i
    forEach todo (fun n u =>
      routePacket { dst := dst, src := srcAddr u, stream := stream, seq := n % 65536, hops := 0, payload := t.data.getD (n - t.acked) [] } u)
      (updTx stream dst (fun x => { x with next := Nat.max x.next hi }) s)

/-- Open a stream and send (R417). -/
def openStream (stream dst : Nat) (bytes : List Byte) (s : State) : State :=
  let t : StreamTx := { stream := stream, dst := dst, acked := 0, next := 0, data := chunks 512 bytes, resends := 0, lastAck := s.now }
  streamPump stream dst (updFab (fun x => { x with txs := t :: x.txs.filter fun y => !(y.stream == stream && y.dst == dst) }) s)

/-- STREAM_ACK of a received stream. -/
def sendAck (src stream expected : Nat) (s : State) : State :=
  sendMessage 0x22 src (leBytes stream 1 ++ [0] ++ leBytes expected 2) s

/-- A packet for this node (R417): in order it is taken; an ACK every 32 packets, at the stream's last packet, and once per gap. -/
def streamTake (k : FabPacket) (s : State) : State :=
  let old := (s.fab.rxs.find? fun r => r.src == k.src && r.stream == k.stream).getD
    { src := k.src, stream := k.stream, expected := 0, gapSaid := false, bytes := [] }
  let put := fun (r : StreamRx) (t : State) =>
    updFab (fun x => { x with rxs := r :: x.rxs.filter fun y => !(y.src == k.src && y.stream == k.stream) }) t
  if k.seq = old.expected % 65536 then
    let r := { old with expected := old.expected + 1, gapSaid := false, bytes := old.bytes ++ k.payload }
    let total := match s.fab.offer with | some (a, n, _) => if a = k.src ∧ k.stream = 0 then some n else none | none => none
    let s1 := put r s
    if r.expected % 32 = 0 ∨ total = some r.bytes.length then sendAck k.src k.stream r.expected s1 else s1
  else if (k.seq + 65536 - old.expected % 65536) % 65536 < 32768 ∧ !old.gapSaid then
    sendAck k.src k.stream old.expected (put { old with gapSaid := true } s)
  else s

/-- A stream packet on a port (R414–R417). -/
def packetRx (p : Port) (at_ : Nat) (k : FabPacket) (crcOk : Bool) (s0 : State) : State :=
  let s := s0.reach at_
  if (s.fab.ports[p]).rate = 0 then s
  else if !crcOk then s.bump (Ix.FAB_STREAM_COUNTS p.val) 16 8
  else if routeCode k.dst s = 1 then streamTake k s
  else if 62 ≤ k.hops then report 0xB04 0 (s.bump Ix.FAB_ROUTE_STATS 24 8)
  else routePacket { k with hops := k.hops + 1 } s

/-- STREAM_PACKET_RECEIVED (R414). -/
def execStreamPacketReceived (p : Port) (at_ : Nat) (k : FabPacket) (crcOk : Bool) (s : State) : Host.Outcome State Fault Refusal :=
  doneFor .fabric s fun s => packetRx p at_ k crcOk s

/-- A credit symbol (R415). -/
def creditRx (p : Port) (n : Nat) (s : State) : State :=
  pumpPort p (updPort p (fun x => { x with credits := Nat.min 32 (x.credits + n) }) s)

/-- STREAM_CREDIT_RETURN (R415). -/
def execStreamCreditReturn (p : Port) (n : Nat) (s : State) : Host.Outcome State Fault Refusal :=
  doneFor .fabric s fun s => creditRx p n s

/-- The full packet number an ACK names: the one in the window after the acknowledged ones. -/
def ackNumber (acked seq : Nat) : Nat := acked + (seq + 65536 - acked % 65536) % 65536

/-- A STREAM_ACK releases packets; one that names a SEQ below the next has the rest sent again from there (R417). -/
def streamAck (at_ : Nat) (f : FabFrame) (s0 : State) : State :=
  let s := s0.reach at_
  let stream := leAt f.payload 0 1
  match s.fab.txs.find? fun t => t.stream == stream && t.dst == f.src with
  | none => s
  | some t =>
    let n := ackNumber t.acked (leAt f.payload 2 2)
    if t.next < n then s
    else
      let moved := decide (t.acked < n)
      streamPump stream f.src (updTx stream f.src (fun x => { x with
        acked := n, data := x.data.drop (n - x.acked), next := n, resends := if moved then 0 else x.resends, lastAck := s.now }) s)

/-- STREAM_ACK (R417). -/
def execStreamAck (at_ : Nat) (f : FabFrame) (s : State) : Host.Outcome State Fault Refusal :=
  doneFor .fabric s fun s => streamAck at_ f s

/-- No ACK for 50 ms: resend from the last acknowledged SEQ; after the third without progress the stream is abandoned (R417). -/
def streamTimeout (stream dst : Nat) (s : State) : State :=
  match s.fab.txs.find? fun t => t.stream == stream && t.dst == dst with
  | none => s
  | some t =>
    if t.data.isEmpty then s
    else
      let s1 := s.reach (t.lastAck + msP 50)
      if 3 ≤ t.resends then updFab (fun x => { x with txs := x.txs.filter fun y => !(y.stream == stream && y.dst == dst) }) s1
      else
        streamPump stream dst (updTx stream dst (fun x => { x with next := x.acked, resends := x.resends + 1, lastAck := s1.now }) s1)

/-- A write to `FAB_ROUTE_SEL` latches the route entry of an address (Table 17-4). -/
def routeSelect (a : Nat) (s : State) : State :=
  (s.putNat Ix.FAB_ROUTE_SEL (a % 4096)).putNat Ix.FAB_ROUTE_PORT (routeCode (a % 4096) s)

/-- Publications begin with the start tick; subscriptions time out from then (R412). -/
def domainStart (s : State) : State :=
  updFab (fun f => { f with
    pubAt := f.domain.pubs.map fun p => s.bn.t0 + msP p.period,
    subs := f.domain.subs.map fun _ => { lastAt := s.bn.t0, stale := true },
    stateAt := s.bn.t0, rootStateAt := s.bn.t0 }) s

end Sys2Proof.Machine
end

