-- ==== Sys2Proof/Machine/FaultCmds.lean ====
section
/-!
DEFINITION. The log, the event sources' end, FLT_CLEAR and the Report Card (19_faults_and_health.md).
-/
namespace Sys2Proof.Machine

/-! ## Sources and reactions -/

/-- FAULT_REPORT (R456). -/
def execFaultReport (id inst : Nat) (s : State) : Host.Outcome State Fault Refusal := doneFor .always s fun s => report id inst s

/-- An event source is inactive 1 s after its last report (R452). -/
def eventExpiry (id inst : Nat) (s : State) : State :=
  match faultRow id, s.flt.srcs.find? fun x => x.id == id && x.inst == inst && x.active with
  | some r, some x => if r.kind = .event then endFault id inst (s.reach (x.last + secP 1)) else s
  | _, _ => s

/-- FAULT_EVENT_EXPIRY (R452). -/
def execFaultEventExpiry (id inst : Nat) (s : State) : Host.Outcome State Fault Refusal :=
  doneFor .pairQuiet s fun s => eventExpiry id inst s

/-- An active source has a severity in the present mode. -/
def anySeverity (sev : Nat) (s : State) : Bool := (activeSrcs s).any fun x => sevNow x.id s == sev

/-- LIMP and SAFE end while no active source has that severity (R460); what they held follows its requests again. -/
def clearReactions (s : State) : State :=
  let limp := s.flt.limp && anySeverity 4 s
  let safe := s.flt.safe && anySeverity 5 s
  if limp == s.flt.limp && safe == s.flt.safe then s
  else recompose (List.finRange 4) (serveAll (applyLimits { s with flt := { s.flt with limp := limp, safe := safe } }))

/-- A 1 in `FLT_CLEAR` (R460). -/
def fltClear (v : Word) (s : State) : State := if bit v 0 then clearReactions s else s

/-! ## The log (R462) -/

/-- Put the number of lost entries into word 6 of the newest entry, where it is FLT_LOG_LOST's. -/
def markLost (n : Nat) (s : State) : State :=
  match s.flt.buf.getLast? with
  | some e =>
    if fld (e.getD 0 0) 0 12 = 0xE02 then
      { s with flt := { s.flt with buf := s.flt.buf.dropLast ++ [e.set 6 (setFld (e.getD 6 0) 0 16 (Nat.min 65535 n))] } }
    else s
  | none => s

/-- Write the buffer to the flash ring of 4,096; lost entries are then reported. -/
def writeLog (s : State) : State :=
  let s1 : State := { s with flt := { s.flt with flash := s.flt.buf.foldl (fun r e => ringPush 4096 r e) s.flt.flash, buf := [], lost := 0 } }
  if s.flt.lost = 0 then s1 else markLost s.flt.lost (report 0xE02 0 s1)

/-- LOG_FLUSH: the buffer holds 16 entries, or its oldest is 1 s old. -/
def logFlush (s : State) : State :=
  if s.flt.buf.isEmpty then s
  else if 16 ≤ s.flt.buf.length then writeLog s
  else writeLog (s.reach (s.flt.bufAt + secP 1))

/-- LOG_FLUSH (R462). -/
def execLogFlush (s : State) : Host.Outcome State Fault Refusal := doneFor .pairQuiet s fun s => logFlush s

/-- A write to `FLT_LOG_SEL` latches the entry of that age; zeros beyond the entries held (Table 19-9). -/
def logSelect (v : Nat) (s : State) : State :=
  let age := v % 4096
  let e := if age < s.flt.flash.length then s.flt.flash.getD (s.flt.flash.length - 1 - age) [] else []
  forEach (List.range 16) (fun k t => t.put (Ix.FLT_LOG_ENTRY k) (e.getD k 0)) (s.putNat Ix.FLT_LOG_SEL age)

/-- A committed write to `FLT_SEV_SET` replaces the four severities of its ID (R455), and active sources are judged again
(R472). -/
def sevSet (v : Word) (s : State) : State :=
  let id := fld v 0 12
  let l := [fld v 12 3, fld v 15 3, fld v 18 3, fld v 21 3]
  reevaluate { s with flt := { s.flt with sevs := (id, l) :: s.flt.sevs.filter (·.1 != id) } }

/-! ## The Report Card (R466–R471) -/

/-- The weight of a temperature swing (R467). -/
def swingWeight (k : Int) : Nat := if k < 80 then 1 else if k < 100 then 3 else if k < 120 then 8 else 20

/-- One reading of a stage (R467). -/
def stageStep (t : Int) (g : Stage) : Stage :=
  if g.fresh then { g with valley := t, armed := false, fresh := false }
  else if !g.armed then
    let v := min g.valley t
    if v + 60 ≤ t then { g with valley := v, armed := true, peak := t } else { g with valley := v }
  else
    let p := max g.peak t
    if t ≤ p - 60 then { g with peak := p, units := g.units + swingWeight (p - g.valley), armed := false, valley := t }
    else { g with peak := p }

/-- Whether a power stage's domain is powered: MOT for a bridge, PWR for the rest (R466, Table 5-1). -/
def stagePowered (i : Nat) (s : State) : Bool := if i < 46 then pwrOn s else motOn s

/-- REPORT_CARD_SAMPLE: the junction temperatures in °C of the stages whose domain is powered, and the erase count of the worst
Data sector, which the flash reports (assumption log 32). -/
def reportCardSample (at_ : Nat) (temps : List (Nat × Int)) (erases : Nat) (s0 : State) : State :=
  let s := s0.reach at_
  judgeMetrics { s with flt := { s.flt with
    stages := (temps.filter fun x => stagePowered x.1 s).foldl (fun g x => g.modify x.1 (stageStep x.2)) s.flt.stages, eraseData := Nat.max s.flt.eraseData erases } }

/-- REPORT_CARD_SAMPLE (R467). -/
def execReportCardSample (at_ : Nat) (temps : List (Nat × Int)) (erases : Nat) (s : State) : Host.Outcome State Fault Refusal :=
  doneFor .pairQuiet s fun s => reportCardSample at_ temps erases s

/-- The accumulators are written to the Data flash (R469). -/
def reportCardFlush (s : State) : State := { s with flt := { s.flt with stagesFlash := s.flt.stages, cardAt := s.now } }

/-- REPORT_CARD_FLUSH (R469): every 10 min in RUN, DOZE and WATCH. -/
def execReportCardFlush (at_ : Nat) (s : State) : Host.Outcome State Fault Refusal :=
  doneFor .pairQuiet s fun s => reportCardFlush (s.reach at_)

/-- The next transition out of RIDE, and the first LESSON_TICK of a start, begin degraded operation where a controller request
stands (R471). -/
def execDegradedOperationStart (s : State) : Host.Outcome State Fault Refusal :=
  doneFor .pair s fun s => if s.modes.mode == .ride then s else beginDegraded s

end Sys2Proof.Machine
end

