-- ==== Sys2Proof/Machine/Security.lean ====
section
/-!
DEFINITION. Security functions (20_security_and_lifecycle.md): credentials and challenges, the key store,
authenticated CAN commands, permits, OWNER_LOCK, the entropy source and the debug port.
-/
namespace Sys2Proof.Machine

/-! ## Parties -/

/-- A party changed. -/
def updParty (w : Fin 5) (f : Party → Party) (s : State) : State :=
  { s with sec := { s.sec with parties := s.sec.parties.set w (f s.sec.parties[w]) } }

/-- The key store changed. -/
def updSec (f : Sec → Sec) (s : State) : State := { s with sec := f s.sec }

/-- A changed slot leaves its former content in the other copy. -/
def olderSlots {α : Type} [DecidableEq α] (same : α → α) (was now other : List α) : List α :=
  (was.zip (now.zip other)).map fun x => if same x.1 = same x.2.1 then x.2.2 else x.1

/-- The other copies after a write of the key store: what each item that changed held before (R474). The freshness of a CAN key lies
in the retention list and is not written (R492). -/
def olderItems (c d : Sec) : KeyItems :=
  { signers := olderSlots id c.signers d.signers c.older.signers
    keys := olderSlots (fun x => { x with fv := 0 }) c.keys d.keys c.older.keys
    adoption := if d.adoption = c.adoption then c.older.adoption else c.adoption
    owner := if d.owner = c.owner then c.older.owner else c.owner
    revokedVer := if d.revokedVer = c.revokedVer then c.older.revokedVer else c.revokedVer
    revoked := if d.revokedVer = c.revokedVer then c.older.revoked else c.revoked
    floor := if d.floor = c.floor then c.older.floor else c.floor }

/-- The key store written: the copy with the lower counter is the one replaced (R474). -/
def writeStore (f : Sec → Sec) (s : State) : State :=
  updSec (fun c => { f c with older := olderItems c (f c) }) s

/-- A start finds the copy in force of an item without a valid CMAC: the other copy is in force, and where that fails too the item is
absent, a corrupt ADOPTION record excepted (R474, R475). -/
def rotItem (c : Sec) (x : KeyItem × Bool) : Sec :=
  let o := if x.2 then KeyItems.reset else c.older
  match x.1 with
  | .signer n => { c with signers := c.signers.set n.val (o.signers.getD n.val none) }
  | .key n => { c with keys := modifyAt c.keys n.val fun k => { o.keys.getD n.val KeySlot.reset with fv := k.fv } }
  | .adoption => { c with adoption := if x.2 then .corrupt else o.adoption }
  | .owner => { c with owner := o.owner }
  | .revoked => { c with revokedVer := o.revokedVer, revoked := o.revoked }
  | .floor => { c with floor := o.floor }

/-- The requester that a party is: none for the test port. -/
def requesterOf (w : Fin 5) : Option Requester :=
  if w.val = 0 then some .host else if h : 2 ≤ w.val then some (.tester ⟨w.val - 2, by omega⟩) else none

/-- Requester kind of R480: 1 host, 2 test port, 3 UDS. -/
def kindCode (w : Fin 5) : Nat := if w.val = 0 then 1 else if w.val = 1 then 2 else 3

/-- Freeze word w10 of group 0xC for a party (R505). -/
def partyCode (w : Fin 5) : Nat := if w.val = 0 then 0 else if w.val = 1 then 2 else 1 + (w.val - 2) * 4

/-- Report a source of group 0xC with its freeze words (R505). -/
def secReport (id who : Nat) (s : State) : State :=
  reportWith id 0 [s.view Ix.LC_STATE, s.view Ix.SEC_STATUS, toWord who] s

/-- Bytes from the DRBG, and the state after the request (R505). -/
def draw (n : Nat) (s : State) : List Byte × State :=
  (Config.drbg s.sec.drbg n, updSec (fun c => { c with drbg := c.drbg + 1, sinceSeed := c.sinceSeed + 1 }) s)

/-- Challenge and seed requests of a party are refused (R483). -/
def lockedOut (w : Fin 5) (s : State) : Bool :=
  match (s.sec.parties[w]).lockedAt with | some t => decide (s.now < t + secP 10) | none => false

/-- Issue a challenge of 32 bytes (R480). -/
def issueChallenge (w : Fin 5) (s : State) : List Byte × State :=
  let d := draw 32 s
  (d.1, updParty w (fun p => { p with challenge := some (d.1, s.now) }) d.2)

/-- Count a failure; the third within 10 min begins the refusal and spends them, and counting starts afresh when it ends (R483). -/
def countFailure (w : Fin 5) (s : State) : State :=
  let p := s.sec.parties[w]
  if lockedOut w s then s else
  let recent := s.now :: p.fails.filter fun t => decide (s.now ≤ t + secP 600)
  if 3 ≤ recent.length then
    (updParty w (fun p => { p with fails := [], lockedAt := some s.now }) s).bump Ix.SEC_AUTH_COUNTS 16 8
  else updParty w (fun p => { p with fails := recent }) s

/-- Whether the present failures make the next one the third (R445). -/
def thirdFailure (w : Fin 5) (s : State) : Bool :=
  decide (2 ≤ ((s.sec.parties[w]).fails.filter fun t => decide (s.now ≤ t + secP 600)).length)

/-- A party's privilege falls to the default; its open transaction is rolled back with cause 0x3 (R481, R79). -/
def dropPriv (w : Fin 5) (s : State) : State :=
  let fell := decide (0 < (s.sec.parties[w]).priv)
  let s1 := updParty w (fun p => { p with priv := 0, validUntil := none, override := false, ret := false }) s
  match requesterOf w, fell with
  | some r, true => rollBackOf r 3 s1
  | _, _ => s1

/-- Every party falls to its default privilege. -/
def dropAll (s : State) : State := forEach (List.finRange 5) dropPriv s

/-! ## Credentials (R479–R483) -/

/-- A value is listed in REVOKED by an entry of its kind: bits [30:0] agree (R487). -/
def isRevoked (signer : Bool) (v : Nat) (s : State) : Bool := s.sec.revoked.contains (v % 2 ^ 31 + b2n signer * 2 ^ 31)

/-- The key that issues a credential of a privilege (Table 20-3). -/
def issuerKey (priv : Nat) (s : State) : Option (List Byte) :=
  if priv = 3 then some Config.vendorRoot else s.sec.makerRoot.map (·.1)

/-- MAKER_ID of a credential is valid under Table 20-3. -/
def makerOk (priv id : Nat) (s : State) : Bool :=
  (id == 0 && priv == 3) || (match s.sec.makerRoot with | some m => m.2 == id | none => false)

/-- VALID_UNTIL and VALID_FROM hold (R480 check 6). -/
def windowOk (from_ until_ : Nat) (s : State) : Bool :=
  decide (s.sec.floor ≤ until_) &&
    (match s.rtcNow with | some t => decide (from_ ≤ t) && decide (t ≤ until_) | none => true)

/-- The checks of R480 on a response of 252 bytes against a challenge. -/
def credentialOk (w : Fin 5) (challenge resp : List Byte) (s : State) : Bool :=
  let priv := leAt resp 6 1
  let device := leAt resp 0x10 8
  resp.length == 252 && leAt resp 0 4 == 0x31445243 && leAt resp 4 2 == 1 && decide (1 ≤ priv) && decide (priv ≤ 3) &&
    (match issuerKey priv s with | some k => Config.ecdsaVerify k (resp.take 0x7C) (slice resp 0x7C 64) | none => false) &&
    !isRevoked false (leAt resp 8 4) s && makerOk priv (leAt resp 0x0C 4) s &&
    (device == 0 || device == Config.serial.toNat) && windowOk (leAt resp 0x18 4) (leAt resp 0x1C 4) s &&
    Config.ecdsaVerify (slice resp 0x20 64) (challenge ++ leBytes Config.serial.toNat 8 ++ leBytes (kindCode w) 1)
      (resp.drop 188)

/-- FLOOR is raised to the RTC by an acceptance (R482). -/
def raiseFloor (s : State) : State :=
  match s.rtcNow with | some t => writeStore (fun c => { c with floor := Nat.max c.floor t }) s | none => s

/-- An accepted credential gives its privilege (R481); one below the present privilege rolls the party's transaction back (R79). -/
def acceptCredential (w : Fin 5) (resp : List Byte) (s : State) : State :=
  let flags := leAt resp 7 1
  let s1 := raiseFloor ((updParty w (fun p =>
    { p with priv := leAt resp 6 1, validUntil := some (leAt resp 0x1C 4), override := nbits flags 0 1 == 1,
             ret := nbits flags 1 1 == 1 }) s).bump Ix.SEC_AUTH_COUNTS 0 8)
  match requesterOf w, decide (leAt resp 6 1 < (s.sec.parties[w]).priv) with
  | some r, true => rollBackOf r 3 s1
  | _, _ => s1

/-- A response consumes the outstanding challenge and is judged (R480): whether it was accepted, and the state. -/
def respond (w : Fin 5) (resp : List Byte) (s : State) : Bool × State :=
  let open_ := match (s.sec.parties[w]).challenge with
    | some (c, t) => if s.now < t + secP 10 then some c else none
    | none => none
  let s1 := updParty w (fun p => { p with challenge := none }) s
  match open_ with
  | some c =>
    if credentialOk w c resp s then (true, acceptCredential w resp s1)
    else (false, countFailure w (secReport 0xC00 (partyCode w) (s1.bump Ix.SEC_AUTH_COUNTS 8 8)))
  | none => (false, countFailure w (secReport 0xC00 (partyCode w) (s1.bump Ix.SEC_AUTH_COUNTS 8 8)))

/-- CREDENTIAL_EXPIRY (R481): VALID_UNTIL has passed by the RTC, at the second after it. -/
def credentialExpiry (w : Fin 5) (s : State) : State :=
  match (s.sec.parties[w]).validUntil, s.pw.rtc with
  | some u, some (secs, at_) => dropPriv w (s.reach (at_ + secP (u + 1 - secs)))
  | _, _ => s

/-- The RTC was set to a time: a privilege whose VALID_UNTIL has passed ends at once (R481). -/
def credentialsAt (t : Nat) (s : State) : State :=
  forEach (List.finRange 5) (fun w u => match (u.sec.parties[w]).validUntil with
    | some v => if v < t then dropPriv w u else u
    | none => u) s

/-- CREDENTIAL_EXPIRY (R481). -/
def execCredentialExpiry (w : Fin 5) (s : State) : Host.Outcome State Fault Refusal :=
  doneFor .core s fun s => credentialExpiry w s

/-- The 10 s refusal of a party ends (R483). -/
def lockoutEnds (w : Fin 5) (s : State) : State :=
  match (s.sec.parties[w]).lockedAt with
  | some t => updParty w (fun p => { p with lockedAt := none }) (s.reach (t + secP 10))
  | none => s

/-- AUTH_LOCKOUT_EXPIRY (R483). -/
def execAuthLockoutExpiry (w : Fin 5) (s : State) : Host.Outcome State Fault Refusal := doneFor .core s fun s => lockoutEnds w s

/-- The party of a tester. -/
def testerParty (c : Can) : Fin 5 := ⟨2 + c.val, by omega⟩

/-- SA_DELAY_EXPIRY (R445): the 10 s after the third invalid key end. -/
def execSaDelayExpiry (c : Can) (s : State) : Host.Outcome State Fault Refusal :=
  doneFor .pair s fun s => lockoutEnds (testerParty c) s

/-- A challenge ends 10 s after its issue (R480). -/
def challengeExpiry (w : Fin 5) (s : State) : State :=
  match (s.sec.parties[w]).challenge with
  | some (_, t) => updParty w (fun p => { p with challenge := none }) (s.reach (t + secP 10))
  | none => s

/-- CHALLENGE_EXPIRY (R480). -/
def execChallengeExpiry (w : Fin 5) (s : State) : Host.Outcome State Fault Refusal := doneFor .core s fun s => challengeExpiry w s

/-! ## Authenticated CAN commands (R489–R492) -/

/-- The configured command of a frame's channel and identifier. -/
def acmdOf (c : Can) (f : CanFrame) (s : State) : Option Nat :=
  (List.range 16).find? fun k =>
    acmdUsed k s && s.fld (Ix.SEC_ACMD_CFG k) 0 2 == c.val && s.flag (Ix.SEC_ACMD_CFG k) 2 == f.ide &&
      s.fld (Ix.SEC_ACMD_ID k) 0 29 == f.id

/-- A key slot changed. -/
def updKey (n : Nat) (f : KeySlot → KeySlot) (s : State) : State := writeStore (fun c => { c with keys := modifyAt c.keys n f }) s

/-- The smallest value strictly above `last` whose low 16 bits are `lo` (R490). -/
def fullFreshness (last lo : Nat) : Nat := last + 1 + (lo + 65536 - (last + 1) % 65536) % 65536

/-- The message the MAC covers (Table 20-6). -/
def acmdMessage (f : CanFrame) (fv : Nat) : List Byte :=
  leBytes (f.id + b2n f.ide * 2 ^ 31) 4 ++ f.data.take 2 ++ leBytes fv 4

/-- An accepted command: freshness, reservation, count and the published value (R490–R492). -/
def acceptAcmd (k n fv : Nat) (f : CanFrame) (s : State) : State :=
  let s1 := updKey n (fun x => { x with fv := fv, resv := if x.resv < fv then fv + 64 else x.resv }) s
  let s2 := updSec (fun c => { c with acmds := modifyAt c.acmds k fun a => ((a.1 + 1) % 256, leAt f.data 0 1, leAt f.data 1 1) }) s1
  s2.bump (Ix.SEC_ACMD_COUNT k) 0 8

/-- The checks of R490 on a frame that matches command `k`. -/
def acmdFrame (c : Can) (k : Nat) (f : CanFrame) (s : State) : State :=
  let n := acmdKey k s
  let slot := keySlot n s
  let who := 3 + c.val * 4 + k * 256
  if f.fdf || f.dlc != 8 || f.data.length != 8 then s.bump (Ix.SEC_ACMD_COUNT k) 24 8
  else
    let fv := fullFreshness slot.fv (leAt f.data 2 2)
    if s.fld (Ix.SEC_ACMD_CFG k) 16 10 < fv - slot.fv ∨ 0xFFFFFFFF < fv then
      secReport 0xC02 who (s.bump (Ix.SEC_ACMD_COUNT k) 16 8)
    else
      let good := match slot.key with
        | some key => (Config.aesCmac key (acmdMessage f fv)).take 4 == f.data.drop 4
        | none => false
      if good then acceptAcmd k n fv f s else secReport 0xC01 who (s.bump (Ix.SEC_ACMD_COUNT k) 8 8)

/-- A frame at the reserved filters of the authenticated commands, received while the controller takes part. -/
def acmdRx (c : Can) (f : CanFrame) (s : State) : State :=
  match acmdOf c f s with
  | some k => acmdFrame c k f s
  | none => s

/-- AUTH_COMMAND_FRAME (R490): a frame received on a channel; nothing is received in BUS_SLEEP or SILENT. -/
def execAuthCommandFrame (c : Can) (at_ : Nat) (f : CanFrame) (s : State) : Host.Outcome State Fault Refusal :=
  doneFor .pair s fun s =>
    let st := (s.can.ctl[c]).st
    if st == .active || st == .passive then acmdRx c f (s.reach at_) else s

/-! ## Permits (R495) -/

/-- The permit's 24 h have passed, or pass now at the latest. -/
def permitExpiry (s : State) : State :=
  match s.sec.permit, s.pw.rtc with
  | some (_, some t), some (secs, at_) =>
    updSec (fun c => { c with permit := none }) (s.reach (at_ + secP (t + 86400 - secs)))
  | _, _ => s

/-- PERMIT_EXPIRY (R495). -/
def execPermitExpiry (s : State) : Host.Outcome State Fault Refusal := doneFor .core s fun s => permitExpiry s

/-- The RTC became valid or was set: a permit given while it was invalid starts now, and one that is 24 h old ends (R495). -/
def permitRtc (t : Nat) (s : State) : State :=
  match s.sec.permit with
  | some (v, none) => updSec (fun c => { c with permit := some (v, some t) }) s
  | some (_, some t0) => if t0 + 86400 ≤ t then updSec (fun c => { c with permit := none }) s else s
  | none => s

/-! ## OWNER_LOCK (R496) -/

/-- The 16 code bytes written. -/
def ownerBytes (s : State) : List Byte := s.sec.code.flatMap fun w => leBytes w.toNat 4

/-- The hash OWNER holds for a code. -/
def ownerHash (code : List Byte) : List Byte := Config.sha256 (code ++ leBytes Config.serial.toNat 8)

/-- The code words are cleared and the result of the command stands. -/
def ownerResult (n : Nat) (s : State) : State := updSec (fun c => { c with ownerLast := n, code := [0, 0, 0, 0] }) s

/-- The words of R496 are alive: FIELD, WATCH or WORKSHOP, stationary. -/
def ownerAlive (s : State) : Bool :=
  s.life == .field && (s.modes.mode == .watch || s.modes.mode == .workshop) && stationary s

/-- Attempts are refused (R496). -/
def ownerRefused (s : State) : Bool :=
  match s.sec.refusal with | some (t, h) => decide (s.now < t + secP (3600 * h)) | none => false

/-- Set the lock: status 0 OK or 5 BAD_VALUE. -/
def ownerSet (s : State) : Nat × State :=
  if s.sec.owner.isSome || ownerRefused s then (0, ownerResult 3 s)
  else if s.sec.code.all (· == 0) then (5, ownerResult 3 s)
  else (0, ownerResult 1 (writeStore (fun c => { c with owner := some (ownerHash (ownerBytes s)), wrong := 0 }) s))

/-- The requester may clear the lock without the code. -/
def ownerOverride (r : Requester) (s : State) : Bool :=
  match partyOf r with
  | some w => (s.sec.parties[w]).priv == 3 || ((s.sec.parties[w]).priv == 2 && (s.sec.parties[w]).override)
  | none => false

/-- A wrong code; every fifth in a row begins a refusal whose length doubles (R496). -/
def wrongCode (s : State) : State :=
  let n := s.sec.wrong + 1
  let s1 := ownerResult 2 (updSec (fun c => { c with wrong := n }) s)
  if n % 5 = 0 then
    updSec (fun c => { c with refusal := some (s.now, c.nextRefusal), nextRefusal := Nat.min 64 (2 * c.nextRefusal) }) s1
  else s1

/-- Clear the lock with the code or an override: OWNER is erased in both copies. -/
def ownerClear (r : Requester) (s : State) : State :=
  match s.sec.owner with
  | none => ownerResult 3 s
  | some h =>
    let open_ := updSec (fun c => { c with
      owner := none, older := { c.older with owner := none }, wrong := 0, refusal := none, nextRefusal := 1 }) s
    if ownerOverride r s then ownerResult 1 open_
    else if ownerRefused s then ownerResult 3 s
    else if ownerHash (ownerBytes s) = h then ownerResult 1 open_
    else wrongCode s

/-- OWNER_REFUSAL_EXPIRY (R496). -/
def ownerRefusalEnds (s : State) : State :=
  match s.sec.refusal with
  | some (t, h) => updSec (fun c => { c with refusal := none }) (s.reach (t + secP (3600 * h)))
  | none => s

/-- OWNER_REFUSAL_EXPIRY (R496). -/
def execOwnerRefusalExpiry (s : State) : Host.Outcome State Fault Refusal := doneFor .core s fun s => ownerRefusalEnds s

/-! ## Entropy (R505) -/

/-- The health tests ran: SEC_ENTROPY follows their outcome. -/
def entropyTest (pass : Bool) (s : State) : State :=
  let s1 := updSec (fun c => { c with entropyOk := pass }) s
  if pass then endFault 0xC06 0 s1 else if srcActive 0xC06 0 s1 || waits 0xC06 0 s1 then s1 else secReport 0xC06 0 s1

/-- ENTROPY_HEALTH_TEST (R505). -/
def execEntropyHealthTest (at_ : Nat) (pass : Bool) (s : State) : Host.Outcome State Fault Refusal :=
  doneFor .core s fun s => entropyTest pass (s.reach at_)

/-- The DRBG is seeded afresh once 2^20 requests were made of it; the tests run at the seeding. -/
def reseed (pass : Bool) (s : State) : State :=
  if s.sec.sinceSeed < 2 ^ 20 then s
  else updSec (fun c => { c with sinceSeed := if pass then 0 else c.sinceSeed }) (entropyTest pass s)

/-- DRBG_RESEED (R505). -/
def execDrbgReseed (pass : Bool) (s : State) : Host.Outcome State Fault Refusal := doneFor .core s fun s => reseed pass s

/-! ## The test port (R502–R504) -/

/-- What the test port last shifted out. -/
def shiftOut (bs : List Byte) (s : State) : State := updSec (fun c => { c with tdo := bs }) s

/-- The port is open in this life-cycle state (Table 20-12). -/
def portOpen (s : State) : Bool := s.life != .field && s.life != .scrapped

/-- The bypass register shifts its input through. -/
def execTestPortBypass (bits : List Byte) (s : State) : Host.Outcome State Fault Refusal :=
  doneFor .always s fun s => shiftOut bits s

/-- IDCODE reads 0xBCB0_7A3F in every state (R502). -/
def execTestPortIdcode (s : State) : Host.Outcome State Fault Refusal :=
  doneFor .always s fun s => shiftOut (leBytes 0xBCB07A3F 4) s

/-- EXTEST drives the lands while TST_RSTN is held low and boundary scan is offered; elsewhere it acts as BYPASS. -/
def execTestPortExtest (drive : List Bool) (s : State) : Host.Outcome State Fault Refusal :=
  doneFor .always s fun s => if portOpen s && s.pw.rstHeld then updSec (fun c => { c with lands := drive }) s else s

/-- UNLOCK: without a response it issues the challenge; a response is judged with requester kind 2 (R504). -/
def testUnlock (response : Option (List Byte)) (s : State) : State :=
  if !portOpen s || !s.sec.entropyOk then s
  else match response with
    | none =>
      if lockedOut 1 s then s
      else
        let d := issueChallenge 1 s
        shiftOut d.1 d.2
    | some resp =>
      let j := respond 1 resp s
      let priv := (j.2.sec.parties[1]).priv
      let enough := match s.life with | .maker => decide (2 ≤ priv) | .returned => decide (3 ≤ priv) | _ => false
      if !j.1 then secReport 0xC05 2 j.2
      else if enough then updSec (fun c => { c with unlocked := true }) j.2 else j.2

/-- TEST_PORT_UNLOCK (R504). -/
def execTestPortUnlock (response : Option (List Byte)) (s : State) : Host.Outcome State Fault Refusal :=
  doneFor .always s fun s => testUnlock response s

/-- The byte a memory holds at an address; 0xFF where nothing is listed. -/
def memByte (m : Mem) (a : Nat) : Byte := (m.lookup a).getD 0xFF

/-- Insert a cell in the rising list. -/
def insertCell : Mem → Nat → Byte → Mem
  | [], a, b => [(a, b)]
  | (x, y) :: t, a, b => if a < x then (a, b) :: (x, y) :: t else if a = x then (a, b) :: t else (x, y) :: insertCell t a b

/-- Write one byte; writing 0xFF takes the cell out, so that equal contents are equal data. -/
def memSet (m : Mem) (a : Nat) (b : Byte) : Mem := if b = 0xFF then m.filter (·.1 != a) else insertCell m a b

/-- Write bytes from an address on. -/
def memWrite (m : Mem) (a : Nat) (bs : List Byte) : Mem := bs.zipIdx.foldl (fun m x => memSet m (a + x.2) x.1) m

/-- Read bytes from an address on. -/
def memRead (m : Mem) (a n : Nat) : List Byte := (List.range n).map fun k => memByte m (a + k)

/-- The canonical form: addresses strictly rising, no cell at 0xFF. -/
def Memory.wf : Mem → Bool
  | [] => true
  | [(_, b)] => b != 0xFF
  | (a, b) :: (x, y) :: t => b != 0xFF && decide (a < x) && Memory.wf ((x, y) :: t)

/-- DEBUG_ACCESS (R504): an open debug port reads or writes a byte of processor memory. What a memory location means to the
running firmware is not described; a location holds what was written to it (assumption log 23). -/
def debugAccess (addr : Nat) (write : Option Byte) (s : State) : State :=
  if !debugOpen s then s
  else match write with
    | some b => updSec (fun c => { c with dbgMem := insertCell c.dbgMem addr b }) s
    | none =>
      if s.sec.dbgMem.any (·.1 == addr) then shiftOut [memByte s.sec.dbgMem addr] s
      else shiftOut [BitVec.ofNat 8 s.freeWord.toNat] s.useFree

/-- DEBUG_ACCESS (R504). -/
def execDebugAccess (addr : Nat) (write : Option Byte) (s : State) : Host.Outcome State Fault Refusal :=
  doneFor .always s fun s => debugAccess addr write s

/-! ## Loads of keys, signers and revocations (R486–R488) -/

/-- SIGNER_LOAD: id, slot, version, key, signature of MAKER_ROOT over the first 76 bytes; false where refused. -/
def signerLoad (o : List Byte) (s : State) : Option State :=
  let slot := leAt o 4 1
  let ver := leAt o 8 4
  let old := match s.sec.signers.getD slot none with | some x => x.ver | none => 0
  match s.sec.makerRoot with
  | some m =>
    if 8 ≤ slot ∨ ver ≤ old ∨ !Config.ecdsaVerify m.1 (o.take 76) (o.drop 76) then none
    else
      let x : Signer := { id := leAt o 0 4, ver := ver, key := if isRevoked true (leAt o 0 4) s then [] else slice o 12 64 }
      some (writeStore (fun c => { c with signers := c.signers.set slot (some x) }) s)
  | none => none

/-- REVOKE: version, count, entries, signature of MAKER_ROOT; the list is replaced and listed signers end at once. -/
def revoke (o : List Byte) (s : State) : Option State :=
  let ver := leAt o 0 4
  let n := leAt o 4 1
  let entries := (List.range n).map fun k => leAt o (8 + 4 * k) 4
  match s.sec.makerRoot with
  | some m =>
    if ver ≤ s.sec.revokedVer ∨ 64 < n ∨ o.length ≠ 72 + 4 * n ∨
        !Config.ecdsaVerify m.1 (o.take (8 + 4 * n)) (o.drop (8 + 4 * n)) then none
    else
      let gone := fun (x : Signer) => entries.contains (x.id % 2 ^ 31 + 2 ^ 31)
      let signers := s.sec.signers.map fun x => x.map fun y => if gone y then { y with key := [] } else y
      some (writeStore (fun c => { c with revokedVer := ver, revoked := entries, signers := signers }) s)
  | none => none

/-- KEY_LOAD (Table 20-5): the key is decrypted under TRANSPORT; a CAN key's last accepted freshness becomes FV0 (R488). -/
def keyLoad (o : List Byte) (s : State) : Option State :=
  let slot := leAt o 0 1
  let ver := leAt o 4 4
  match s.sec.transport with
  | some t =>
    if 9 ≤ slot ∨ ver ≤ (keySlot slot s).ver ∨ Config.aesCmac t (o.take 32) ≠ slice o 32 16 then none
    else
      some (updKey slot (fun x => { x with key := some (Config.aesDecrypt t (slice o 16 16)), ver := ver, fv := leAt o 8 4,
                                           resv := leAt o 8 4 }) s)
  | none => none

/-- ADOPT_PERMIT stores one permit (R495). -/
def storePermit (vehicle : List Byte) (s : State) : State := updSec (fun c => { c with permit := some (vehicle, s.rtcNow) }) s

end Sys2Proof.Machine
end

