-- ==== Sys2Proof/Machine/Ranges.lean ====
section
/-!
DEFINITION. Whether a value may stand in a parameter word (R6, R65, R73, and the Settings tables): reserved bits, the range
of each field, and the ranges stated against another word.
-/
namespace Sys2Proof.Machine

/-! ## Reserved bits (R6) -/

/-- Whether a row has the CLOCK, period and angle fields of `HS_PWM_n`. -/
def isPwmRow (x : ParamRow) : Bool := x.checks.any fun c => match c with | .pwm _ _ => true | _ => false

/-- The bits of a word that are not reserved: on a PWM word they depend on CLOCK (Table 8-11). -/
def usedBits (x : ParamRow) (v : Word) : Nat :=
  if isPwmRow x then (if fld v 0 4 = 8 then 0x0FFFFF0F else 0xFFFF007F) else x.mask

/-- A written value with its reserved bits taken as zero (R6). -/
def cleanValue (idx : Nat) (v : Word) : Word :=
  match paramRow idx with | some x => maskWord v (usedBits x v) | none => 0

/-! ## Ranges of one word (R65) -/

/-- Signed bytes of a word, strictly rising. -/
def risingBytes (v : Word) : Bool :=
  let b := (List.range 4).map fun k => signed (fld v (8 * k) 8) 8
  decide (b.getD 0 0 < b.getD 1 0) && decide (b.getD 1 0 < b.getD 2 0) && decide (b.getD 2 0 < b.getD 3 0)

/-- Special range rules that one word states alone (Tables 8-11, 11-5, 12-6, 13-7, 14-8, 15-5, 19-7). -/
def specialOk (x : Special) (inst : Nat) (v : Word) : Bool :=
  match x with
  | .chgCap => fld v 0 2 != 3 && (!bit v 2 || (decide (100 ≤ fld v 16 16) && decide (fld v 16 16 ≤ 10000)))
  | .cornerAsc => true
  | .crkTeeth =>
    fld v 2 2 != 1 || (decide (8 ≤ fld v 4 8) && decide (fld v 4 8 ≤ 60) && decide (1 ≤ fld v 12 2))
  | .failSafety => fld v 4 2 != 3 || bit v 6
  | .gloveOrder => fld v 16 8 == 0 || (decide (fld v 24 8 < fld v 16 8) && decide (fld v 16 8 < fld v 0 8))
  | .iset => decide (1 ≤ fld v 0 11) && decide (fld v 0 11 ≤ (if inst < 2 then 1500 else 500))
  | .linRate =>
    (decide (1000 ≤ fld v 16 15) && decide (fld v 16 15 ≤ 20000)) || (fld v 0 2 == 0 && fld v 16 15 == 0)
  | .linTable => decide (fld v 16 8 ≤ 63) || fld v 16 8 == 0xFF
  | .motLimit =>
    decide (10 ≤ fld v 0 16) && decide (fld v 0 16 ≤ (if inst = 0 then 150 else 50)) && decide (10 ≤ fld v 16 16)
      && decide (fld v 16 16 ≤ (if inst = 0 then 100 else 35))
  | .nmBase => fld v 0 6 == 0
  | .prioSafety => fld v 8 3 != 1 || bit v 6
  | .sevSet =>
    (faultRow (fld v 0 12)).isSome && (List.range 4).all fun k => decide (fld v (12 + 3 * k) 3 ≤ 5)
  | .stamp => decide (fld v 0 4 ≤ 7) || fld v 0 4 == 15
  | .twinAsc => risingBytes v

/-- One range rule that the word states alone; rules against another word hold here (R65). -/
def chkOk (c : Chk) (inst : Nat) (v : Word) : Bool :=
  match c with
  | .rng lo w mn mx => decide (mn ≤ fld v lo w) && decide (fld v lo w ≤ mx)
  | .rngz lo w mn mx => fld v lo w == 0 || (decide (mn ≤ fld v lo w) && decide (fld v lo w ≤ mx))
  | .srng lo w mn mx => decide (mn ≤ signed (fld v lo w) w) && decide (signed (fld v lo w) w ≤ mx)
  | .ge loA wA loB wB k => decide (fld v loB wB + k ≤ fld v loA wA)
  | .pwm mn mx =>
    (fld v 0 4 == 8 && decide (mn ≤ fld v 8 20) && decide (fld v 8 20 ≤ mx))
      || (decide (fld v 0 4 ≤ 7) && decide (fld v 4 3 ≤ 6))
  | .xge .. => true
  | .xle .. => true
  | .sp x => specialOk x inst v

/-- A tuning or host word that a signal binds as BOOL (R163). -/
def boundBool (idx : Nat) (s : State) : Bool :=
  s.bn.cfg.signals.any fun g =>
    g.typ == 0 && ((g.kind == 10 && Ix.BN_TUNE g.index == idx) || (g.kind == 11 && Ix.BN_HOST g.index == idx))

/-- A value lies in the range its table states for the word alone (R65); reserved bits are taken as zero. -/
def rangeOk (idx : Nat) (v : Word) : Bool :=
  match paramRow idx with
  | none => false
  | some x => x.checks.all fun c => chkOk c (x.inst idx) (maskWord v (usedBits x v))

/-- A word that a signal binds as BOOL holds 0 or 1 (R163). -/
def boundOk (idx : Nat) (v : Word) (s : State) : Bool := !boundBool idx s || decide (v.toNat ≤ 1)

/-- A value a permitted write may bring (R65, R163). -/
def valueOk (idx : Nat) (v : Word) (s : State) : Bool := rangeOk idx v && boundOk idx v s

/-! ## Ranges stated against another word (R37, R73) -/

/-- A profile that the channel of a configuration word names is defined: built in, or not all zeros (R171). -/
def profileDefined (p : Nat) (s : State) : Bool :=
  decide (p < 8) || (List.range 6).any fun w => s.num (Ix.HS_PROF0_w0 + 16 * p + w) != 0

/-- The thresholds of cornering rise strictly over the used count (`LED_CORNER_THR`). -/
def cornerRising (s : State) : Bool :=
  let n := Nat.max (s.fld Ix.LED_CORNER_LEFT 16 3) (s.fld Ix.LED_CORNER_RIGHT 16 3)
  (List.range 3).all fun k =>
    decide (n ≤ k + 1) || decide (s.fld Ix.LED_CORNER_THR (8 * k) 8 < s.fld Ix.LED_CORNER_THR (8 * k + 8) 8)

/-- The DEEP switch wake input is a BAT-type input (R255). -/
def deepSwitchOk (s : State) : Bool :=
  s.fld Ix.PWR_DEEP_WAKE 0 4 != 1 || s.flag (Ix.IN_SW_CFG (s.fld Ix.PWR_DEEP_WAKE 8 5)) 0

/-- One rule against another word, on the words of the state. -/
def crossChk (c : Chk) (idx inst : Nat) (s : State) : Bool :=
  match c with
  | .xge lo w j stride loB wB k => decide (s.fld (j + stride * inst) loB wB + k ≤ s.fld idx lo w)
  | .xle lo w j stride loB wB k => decide (s.fld idx lo w + k ≤ s.fld (j + stride * inst) loB wB)
  | .sp .cornerAsc => cornerRising s
  | _ => true

/-- A configuration word of an action channel. -/
def isChCfg (idx : Nat) : Bool := (List.finRange 42).any fun c : Ch =>
  idx == (if c.val < 36 then Ix.HS_CFG c.val else if c.val < 40 then Ix.LSD_CFG (c.val - 36) else Ix.HB_CFG (c.val - 40))

/-- The other words that a rule of a word is stated against. -/
def crossWords (c : Chk) (inst : Nat) : List Nat :=
  match c with
  | .xge _ _ j stride _ _ _ | .xle _ _ j stride _ _ _ => [j + stride * inst]
  | .sp .cornerAsc => [Ix.LED_CORNER_LEFT, Ix.LED_CORNER_RIGHT]
  | _ => []

/-- The words of a user profile, none of a built-in one. -/
def profileIdxs (p : Nat) : List Nat := if p < 8 then [] else (List.range 6).map fun w => Ix.HS_PROF0_w0 + 16 * p + w

/-- Every range of a word that is stated against other words (R37, R73): whether it holds on the words of the state, and the words
it involves. -/
def crossRules (idx : Nat) (s : State) : List (Bool × List Nat) :=
  match paramRow idx with
  | none => []
  | some x =>
    x.checks.map (fun c => (crossChk c idx (x.inst idx) s, idx :: crossWords c (x.inst idx)))
      ++ [(!isChCfg idx || profileDefined (s.fld idx 0 4) s, idx :: profileIdxs (s.fld idx 0 4)),
          (idx != Ix.PWR_DEEP_WAKE || deepSwitchOk s, [idx, Ix.IN_SW_CFG (s.fld Ix.PWR_DEEP_WAKE 8 5)])]

/-- Every range of a word that is stated against another word holds on the words of the state (R37, R73). -/
def crossOk (idx : Nat) (s : State) : Bool := (crossRules idx s).all (·.1)


/-! ## Ownership (R73 check 2, R540, R541, R141) -/

/-- A land TE08–TE15 that touch owns (Table 22-2: LAND names the switch input 24–31). -/
def landTouch (e : Nat) (owners : List (Nat × Nat × Nat)) : Bool := decide (e < 8) || ownerIn 1 (e + 16) owners == 1

/-- Electrode `e` is configured, as an electrode, drive, guard or the wake electrodes (R279). -/
def electrodeUsed (e : Nat) (s : State) : Bool :=
  s.fld (Ix.TCH_EL_CFG e) 0 2 != 0
    || (List.range 8).any fun g =>
      fld (s.word (Ix.TCH_G_CFG g)) e 1 == 1 || (s.flag (Ix.TCH_G_CFG g) 20 && s.fld (Ix.TCH_G_CFG g) 16 4 == e)

/-- The ownership rule that a word takes part in holds on the words of the state (R540, R541). -/
def ownershipOk (idx : Nat) (s : State) : Bool :=
  let o := s.boot.owners
  ((List.range 2).all fun h =>
      idx != Ix.HB_CFG h || ((s.fld (Ix.HB_CFG h) 8 2 == 2) == (ownerIn 3 h o == 1)))
    && (idx != Ix.FAB_STREAM_CFG 0 || (s.flag (Ix.FAB_STREAM_CFG 0) 2 == (ownerIn 2 0 o == 1)))
    && ((List.range 16).all fun e =>
      (idx != Ix.TCH_EL_CFG e && !(List.range 8).any fun g => idx == Ix.TCH_G_CFG g)
        || landTouch e o || !electrodeUsed e s)
    && ((List.range 2).all fun b =>
      idx != Ix.MOT_CFG b || s.fld (Ix.MOT_CFG b) 16 5 == 0 || ownerIn 4 (46 + b) o == 1)

end Sys2Proof.Machine
end

