-- ==== Sys2Proof/Machine/Image.lean ====
section
/-!
DEFINITION. The Lerul image (02_harness_key_and_startup.md): its layout, what its sections say, and the checks of step 5 in
the order of Table 2-11 (R595).
-/
namespace Sys2Proof.Machine

/-- A failing check: outcome (Table 2-8), DETAIL (Table 2-10), image offset, and for a NETWORK error the sub-code and item. -/
structure LoadErr where
  outcome : Nat
  detail : Nat
  offset : Nat
  sub : Nat
  item : Nat
  deriving DecidableEq, Repr

/-- A failing check without a NETWORK sub-code. -/
def loadErr (outcome detail offset : Nat) : LoadErr :=
  { outcome := outcome, detail := detail, offset := offset, sub := 0, item := 0 }

/-- The error of a check where its condition does not hold. -/
def need (ok : Bool) (e : LoadErr) : Option LoadErr := if ok then none else some e

/-- The first failing check of a list. -/
def firstErr {α : Type} (xs : List α) (f : α → Option LoadErr) : Option LoadErr := xs.findSome? f

/-! ## Header (Table 2-2) -/

/-- VEHICLE_ID of an image. -/
def imgVehicle (b : List Byte) : List Byte := slice b 0x18 24
/-- MAKER_ID of an image. -/
def imgMaker (b : List Byte) : Nat := leAt b 0x30 4
/-- SIGNER_ID of an image. -/
def imgSigner (b : List Byte) : Nat := leAt b 0x34 4
/-- SEQUENCE of an image. -/
def imgSequence (b : List Byte) : Nat := leAt b 0xC 4
/-- DOMAIN_SIZE of an image. -/
def imgDomain (b : List Byte) : Nat := leAt b 0x16 1

/-- Checks of 5c, in order, on a header and the key capacity in bytes (R595). -/
def headerErr (b : List Byte) (cap : Nat) : Option LoadErr :=
  let magic := leAt b 0 4
  if magic = 0xFFFFFFFF ∨ magic = 0 then some (loadErr 2 0 0)
  else need (magic == 0x314C524C) (loadErr 3 3 0)
    <|> need (crc32 (b.take 0x5C) == leAt b 0x5C 4) (loadErr 3 4 0x5C)
    <|> need (leAt b 4 2 == 1) (loadErr 3 5 4)
    <|> need (leAt b 6 2 == 96) (loadErr 3 5 6)
    <|> need (within 176 cap (imgLength b)) (loadErr 3 6 8)
    <|> need (decide (imgSections b ≤ 32) && decide (0x60 + 16 * imgSections b + 80 ≤ imgLength b)) (loadErr 3 7 0x14)

/-! ## Section table (Table 2-3, R34, R36) -/

/-- A section type of Table 2-4. -/
def knownType (t : Nat) : Bool := within 1 0xA t || t == 0x10 || t == 0xF0

/-- Two entries count as a second occurrence of one another (R36): one known type, and for MEMBER one ordinal, with those of
SIZE 0 counting together. NAMES may repeat. -/
def sameSection (b : List Byte) (x y : Entry) : Bool :=
  x.typ == y.typ && knownType x.typ && x.typ != 0xF0
    && (x.typ != 0x10
        || ((x.size == 0) == (y.size == 0) && (x.size == 0 || leAt b x.off 1 == leAt b y.off 1)))

/-- Two sections share a byte; absent sections share none. -/
def overlap (x y : Entry) : Bool :=
  x.size != 0 && y.size != 0 && decide (x.off < y.off + y.size) && decide (y.off < x.off + x.size)

/-- Layout of every entry, then every CRC (5e, R595). -/
def layoutErr (b : List Byte) : Option LoadErr :=
  let es := entries b
  let top := 0x60 + 16 * imgSections b
  firstErr es.zipIdx (fun p =>
      let e := p.1
      let before := es.take p.2
      need ((e.size == 0 || (e.off % 16 == 0 && decide (top ≤ e.off) && decide (e.off + e.size + 80 ≤ imgLength b)))
        && !(before.any fun x => overlap x e || sameSection b x e)) (loadErr 3 7 e.at_))
    <|> firstErr es (fun e =>
      if e.size = 0 then need (e.crc == 0) (loadErr 3 8 (e.at_ + 12))
      else need (crc32 (secBytes b e) == e.crc) (loadErr 3 8 e.off))

/-- The first section of a type that is present, with its offset. -/
def sectionEntry (b : List Byte) (t : Nat) : Option Entry := (entries b).find? fun e => e.typ == t && e.size != 0

/-- The bytes of the section of a type, empty where absent. -/
def sectionOf (b : List Byte) (t : Nat) : List Byte :=
  match sectionEntry b t with | some e => secBytes b e | none => []

/-- The offset of the section of a type. -/
def offOf (b : List Byte) (t : Nat) : Nat := match sectionEntry b t with | some e => e.off | none => 0

/-! ## Signature (5f, R38, R478) -/

/-- The signature block's fields, then the signer, then r and s (R595). -/
def signatureErr (b : List Byte) (s : State) : Option LoadErr :=
  let l := imgLength b
  need (leAt b (l - 80) 4 == 0x31474953) (loadErr 3 9 (l - 80))
    <|> need (leAt b (l - 76) 2 == 1) (loadErr 3 9 (l - 76))
    <|> need (leAt b (l - 72) 4 == imgSigner b) (loadErr 3 9 (l - 72))
    <|> match signerKey (imgSigner b) s with
      | none => some (loadErr 3 0xA 0x34)
      | some k => need (Config.ecdsaVerify k (b.take (l - 80)) (slice b (l - 64) 64)) (loadErr 3 9 (l - 64))

/-! ## What the sections say -/

/-- A 32-bit word of a record. -/
def wAt (b : List Byte) (off : Nat) : Word := toWord (leAt b off 4)

/-- Entries of `sz` bytes from offset `off`. -/
def records (b : List Byte) (off n sz : Nat) : List (List Byte) :=
  (chunks sz ((b.drop off).take (n * sz))).take n

/-- OWNERS: KIND, INSTANCE, OWNER (Table 22-2). -/
def parseOwners (b : List Byte) : List (Nat × Nat × Nat) :=
  (records b 0 (b.length / 4) 4).map fun r => (leAt r 0 1, leAt r 1 1, leAt r 2 1)

/-- PARAMS: index and value (Table 2-5). -/
def parseParams (b : List Byte) : List (Nat × Word) :=
  (records b 0 (b.length / 8) 8).map fun r => (leAt r 0 4 % 2 ^ 14, wAt r 4)

/-- A lesson entry (Table 7-5); reserved bits are taken as zero (R6). -/
def parseLesson (r : List Byte) : LessonCfg :=
  let clock := leAt r 0 1
  { clock := clock, modes := leAt r 1 1 % 16, fallback := leAt r 2 2, period := leAt r 4 4,
    phase := if clock = 8 then leAt r 8 4 else leAt r 8 2, minPeriod := leAt r 12 2 }

/-- A signal entry (Table 7-6). -/
def parseSignal (r : List Byte) : SignalCfg :=
  let w := wAt r 0
  { typ := fld w 0 2, retain := bit w 2, kind := fld w 8 8, index := fld w 16 16, init := wAt r 4 }

/-- A block entry (Table 7-7); inputs beyond NIN are ignored (R6). -/
def parseBlock (r : List Byte) : BlockCfg :=
  let nin := leAt r 2 1
  { typ := leAt r 0 1, lesson := leAt r 1 1, nin := nin, out := leAt r 4 2,
    ins := (List.range (Nat.min nin 8)).map fun k => leAt r (8 + 2 * k) 2, p0 := wAt r 24, p1 := wAt r 28 }

/-- NETWORK (R153). -/
def parseNetwork (b : List Byte) : NetworkCfg :=
  if b.length < 16 then NetworkCfg.empty
  else
    let nb := leAt b 0 2; let ns := leAt b 2 2; let nl := leAt b 4 1; let nc := leAt b 6 2
    let os := 16 + 16 * nl; let ob := os + 8 * ns; let oc := ob + 32 * nb
    { lessons := (records b 16 nl 16).map parseLesson,
      signals := (records b os ns 8).map parseSignal,
      blocks := (records b ob nb 32).map parseBlock,
      consts := (records b oc nc 4).map fun r => wAt r 0 }

/-- A CANDB frame entry (Table 14-3). -/
def parseCanFrame (r : List Byte) : CanFrameCfg :=
  let ch := toWord (leAt r 0 1); let fm := toWord (leAt r 1 1); let ck := toWord (leAt r 14 1)
  let tx := bit ch 7
  let ide := bit fm 0
  { chan := fld ch 0 2, tx := tx, ide := ide, fdf := bit fm 1, brs := tx && bit fm 2,
    single := tx && bit fm 3, dlc := leAt r 2 1, buffer := if tx then leAt r 3 1 else 0,
    id := leAt r 4 4 % (if ide then 2 ^ 29 else 2 ^ 11), mask := leAt r 8 4 % (if ide then 2 ^ 29 else 2 ^ 11),
    time := if tx && fld ck 0 4 != 8 then leAt r 12 2 % 8 else leAt r 12 2,
    clock := fld ck 0 4, onChange := tx && bit ck 4,
    phase := if fld ck 0 4 = 8 then leAt r 16 4 else leAt r 16 2 }

/-- A signal entry of CANDB or LINSCHED (Table 14-4). -/
def parseBusSignal (r : List Byte) : BusSignalCfg :=
  let f := toWord (leAt r 5 1)
  { frame := leAt r 0 2, start := leAt r 2 2, len := leAt r 4 1, big := bit f 0, sgn := bit f 1, typ := fld f 2 2,
    factor := wAt r 8, offset := wAt r 12 }

/-- CANDB (R327). -/
def parseCanDb (b : List Byte) : CanDb :=
  let nf := leAt b 0 2; let ns := leAt b 2 2
  { frames := (records b 16 nf 20).map parseCanFrame, signals := (records b (16 + 20 * nf) ns 16).map parseBusSignal }

/-- A LINSCHED frame entry (Table 14-6). -/
def parseLinFrame (r : List Byte) : LinFrameCfg :=
  let f := toWord (leAt r 0 1)
  { chan := fld f 0 1, dir := fld f 1 2, classic := bit f 3, id := leAt r 1 1, len := leAt r 2 1, typ := leAt r 3 1,
    timeout := leAt r 4 2, collision := leAt r 6 1 }

/-- LINSCHED (R346). -/
def parseLinSched (b : List Byte) : LinSched :=
  let nf := leAt b 0 2; let ns := leAt b 2 2; let nt := leAt b 4 2; let nl := leAt b 6 2
  let o1 := 16 + 8 * nf; let o2 := o1 + 16 * ns; let o3 := o2 + 4 * nt
  { frames := (records b 16 nf 8).map parseLinFrame, signals := (records b o1 ns 16).map parseBusSignal,
    tables := (records b o2 nt 4).map fun r =>
      { first := leAt r 0 2, count := leAt r 2 1, chan := leAt r 3 1 % 2, once := leAt r 3 1 / 2 % 2 == 1 },
    slots := (records b o3 nl 8).map fun r =>
      { frame := leAt r 0 2, second := leAt r 2 2, third := leAt r 4 2, delay := leAt r 6 2 } }

/-- SCENES: entry k is scene k; scene 0 is dark (R196, Table 9-2). -/
def parseScenes (b : List Byte) : List SceneCfg :=
  (records b 0 (b.length / 8) 8).zipIdx.map fun p =>
    if p.2 = 0 then { shunt := 0xFFFF, level := 0, fade := 0, strings := 0xF }
    else { shunt := leAt p.1 0 2, level := leAt p.1 2 2, fade := leAt p.1 4 2 % 4096, strings := leAt p.1 6 1 % 16 }

/-- SEVERITY: ID and the four codes (Table 19-3). -/
def parseSeverity (b : List Byte) : List (Nat × List Nat) :=
  (records b 0 (b.length / 4) 4).map fun r =>
    let w := wAt r 0
    (fld w 0 12, [fld w 12 3, fld w 15 3, fld w 18 3, fld w 21 3])

/-- DOMAIN (R410, Table 17-2). -/
def parseDomain (b : List Byte) : DomainCfg :=
  let nm := leAt b 1 1; let np := leAt b 2 1; let nx := leAt b 3 1; let ns := leAt b 4 2
  let o1 := 16 + 16 * nm; let o2 := o1 + 8 * np; let o3 := o2 + 8 * ns
  { own := leAt b 0 1,
    members := (records b 16 nm 16).map fun r =>
      { serial := leAt r 0 8, ordinal := leAt r 8 1, rootLoaded := leAt r 9 1 % 2 == 1 },
    pubs := (records b o1 np 8).map fun r =>
      { group := leAt r 0 1, count := leAt r 1 1, mask := leAt r 2 1, period := leAt r 4 2 },
    subs := (records b o2 ns 8).map fun r =>
      { ordinal := leAt r 0 1, group := leAt r 1 1, pos := leAt r 2 1, typ := leAt r 3 1, timeout := leAt r 4 2 },
    exts := (records b o3 nx 8).map fun r => { clock := leAt r 0 1, mask := leAt r 1 1, m := leAt r 2 1 } }

/-- The domain of a device without a DOMAIN section. -/
def DomainCfg.empty : DomainCfg := { own := 0, members := [], pubs := [], subs := [], exts := [] }

/-- The words of PROFILES: profiles 8 to 15, six words each (R171). -/
def profileWords (b : List Byte) : List (Nat × Word) :=
  (records b 0 8 24).zipIdx.flatMap fun p =>
    (List.range 6).map fun w => (Ix.HS_PROF0_w0 + 16 * (8 + p.2) + w, wAt p.1 (4 * w))

/-- The state with the configuration an image brings: words of PROFILES and PARAMS over the reset values, ownership, network,
databases, scenes, severities and the domain (R42). -/
def withImage (b : List Byte) (s : State) : State :=
  let put := fun (ws : List (Nat × Word)) (p : Nat × Word) => setWords ws p.1 (cleanValue p.1 p.2)
  let ws := (profileWords (sectionOf b 7) ++ parseParams (sectionOf b 2)).foldl put s.words
  { s with
    words := ws,
    boot := { s.boot with owners := parseOwners (sectionOf b 1) },
    bn := { s.bn with cfg := parseNetwork (sectionOf b 3) },
    can := { s.can with db := parseCanDb (sectionOf b 5) },
    lin := { s.lin with sched := parseLinSched (sectionOf b 6) },
    led := { s.led with scenes := parseScenes (sectionOf b 8) },
    flt := { s.flt with sevs := parseSeverity (sectionOf b 9) },
    fab := { s.fab with domain := if (sectionOf b 0xA).isEmpty then DomainCfg.empty else parseDomain (sectionOf b 0xA) } }

/-! ## Ownership (5g, R538–R540) -/

/-- KIND, INSTANCE and OWNER lie in Table 22-2. -/
def ownerEntryOk (e : Nat × Nat × Nat) : Bool :=
  decide (e.2.2 ≤ 1)
    && (match e.1 with
      | 1 => within 24 31 e.2.1 | 2 => e.2.1 == 0 | 3 => decide (e.2.1 ≤ 1) | 4 => decide (e.2.1 ≤ 47) | _ => false)

/-- The words the ownership rules bind (R540). -/
def ownedWords : List Nat :=
  [Ix.HB_CFG 0, Ix.HB_CFG 1, Ix.FAB_STREAM_CFG 0] ++ (List.range 16).map Ix.TCH_EL_CFG
    ++ (List.range 8).map Ix.TCH_G_CFG ++ [Ix.MOT_CFG 0, Ix.MOT_CFG 1]

/-- The OWNERS entry that a word without a record contradicts: of its kind, else the section. -/
def ownerAt (idx off : Nat) (os : List (Nat × Nat × Nat)) : Nat :=
  let kind := if idx = Ix.FAB_STREAM_CFG 0 then 2 else if idx = Ix.HB_CFG 0 ∨ idx = Ix.HB_CFG 1 then 3 else 0
  let inst := if idx = Ix.HB_CFG 1 then 1 else 0
  match os.findIdx? fun e => e.1 == kind && e.2.1 == inst with | some k => off + 4 * k | none => off

/-- The ownership checks on the state an image would bring: DETAIL 0x0E at the offending entry or record (R540, R595). -/
def ownersErr (b : List Byte) (s : State) : Option LoadErr :=
  let ob := sectionOf b 1
  let oo := offOf b 1
  let os := parseOwners ob
  let ps := parseParams (sectionOf b 2)
  need (ob.length % 4 == 0) (loadErr 5 0xE oo)
    <|> firstErr os.zipIdx (fun p =>
      need (ownerEntryOk p.1 && !((os.take p.2).any fun e => e.1 == p.1.1 && e.2.1 == p.1.2.1))
        (loadErr 5 0xE (oo + 4 * p.2)))
    <|> firstErr ps.zipIdx (fun p =>
      need (!ownedWords.contains p.1.1 || ownershipOk p.1.1 s) (loadErr 5 0xE (offOf b 2 + 8 * p.2)))
    <|> firstErr ownedWords (fun i => need (ownershipOk i s) (loadErr 5 0xE (ownerAt i oo os)))

/-! ## NETWORK (R165, R593) -/

/-- The type of a kind 9 index, none where the index names nothing (R221, R320, R381, R464, R491, R497). -/
def statusType (i : Nat) : Option Nat :=
  if within 0x1200 0x123F i && decide (i % 16 ≤ 4) then some 0
  else if within 0x1240 0x1247 i || within 0x1E00 0x1E0D i then some 0
  else if within 0x2600 0x2617 i && decide (i % 8 ≤ 3) then some 0
  else if within 0x2618 0x2627 i && (i % 8 == 0 || i % 8 == 3) then some 0
  else if within 0x2630 0x265F i then some 0
  else if within 0x3000 0x300E i || within 0x3010 0x3015 i || within 0x3020 0x302F i then some 0
  else if within 0x3500 0x350F i then some 1
  else if within 0x3520 0x3521 i then some 0
  else none

/-- Whether a source index is defined, and that the entry's TYPE is the one its chapter gives (R593, R267, R288, R331, R351,
R412, Table 7-2). The state holds the image's databases. -/
def sourceOk (g : SignalCfg) (s : State) : Bool :=
  let i := g.index
  match g.kind with
  | 0 => true
  | 1 => decide (i < 32) && g.typ == 0
  | 2 => decide (i < 12) && g.typ == 2
  | 3 => decide (i < 8) && g.typ == 2
  | 4 => decide (i < 12) && g.typ == (if i < 4 then 0 else 2)
  | 5 => (decide (i < 32) && g.typ == (if i % 4 = 1 then 1 else 0)) || (i == 32 && g.typ == 0)
  | 6 =>
    let rxFrame := fun n => match s.can.db.frames[n]? with | some f => !f.tx | none => false
    (match s.can.db.signals[i]? with | some q => rxFrame q.frame && q.typ == g.typ | none => false)
      || (within 0x1000 0x13FF i && rxFrame (i - 0x1000) && g.typ == 1)
      || (within 0x1400 0x17FF i && rxFrame (i - 0x1400) && g.typ == 1)
  | 7 =>
    match s.lin.sched.signals[i]? with
    | some q => (match s.lin.sched.frames[q.frame]? with | some f => f.dir == 0 | none => false) && q.typ == g.typ
    | none => false
  | 8 => match s.fab.domain.subs[i]? with | some q => q.typ == g.typ | none => false
  | 9 => statusType i == some g.typ
  | 10 => decide (i < 64)
  | 11 => decide (i < 64)
  | 12 => i == 0 && g.typ == 1
  | _ => false

/-- Least and most inputs of a block type, none for an unknown type (Table 7-8). -/
def ninRange (t : Nat) : Option (Nat × Nat) :=
  if within 1 3 t || t == 7 || t == 0xB || t == 0xC then some (1, 8)
  else if t = 5 then some (1, 2)
  else if within 8 0xA t || t == 0x18 then some (2, 2)
  else if t = 0x10 ∨ t = 0x19 then some (3, 3)
  else if t = 4 ∨ t = 6 ∨ within 0xD 0xF t ∨ within 0x11 0x17 t ∨ within 0x1A 0x1C t ∨ within 0x20 0x24 t then some (1, 1)
  else none

/-- The type of a signal number: 0x7FE and 0x7FF are BOOL (R150). -/
def netType (cfg : NetworkCfg) (n : Nat) : Nat :=
  if 0x7FE ≤ n then 0 else match cfg.signals[n]? with | some g => g.typ | none => 0

/-- Input and output types of a block (Table 7-8). -/
def blockTypesOk (cfg : NetworkCfg) (c : BlockCfg) : Bool :=
  let ts := c.ins.map (netType cfg)
  let t0 := ts.getD 0 0
  let out := netType cfg c.out
  let num := t0 == 1 || t0 == 2
  let same := ts.all (· == t0)
  if within 1 4 c.typ || within 0x13 0x18 c.typ then ts.all (· == 0) && out == 0
  else if c.typ = 5 ∨ c.typ = 6 then num && same && out == 0
  else if within 7 0xF c.typ || c.typ == 0x1A || c.typ == 0x1B then num && same && out == t0
  else match c.typ with
    | 0x10 => t0 == 0 && ts.getD 1 0 == ts.getD 2 0 && out == ts.getD 1 0
    | 0x11 => fld c.p0 0 2 == 3 || out == fld c.p0 0 2
    | 0x12 => out == t0
    | 0x19 => ts.all (· == 0) && out == 1
    | 0x1C => out == 0
    | 0x20 => t0 == 0 || t0 == 1
    | 0x21 => t0 == 2
    | 0x22 => t0 == 1
    | 0x23 => t0 == 2
    | _ => true

/-- Strictly ascending numbers. -/
def ascending : List Int → Bool
  | a :: b :: t => decide (a < b) && ascending (b :: t)
  | _ => true

/-- The channel of an OUT or DUTY sink. -/
def sinkCh (c : BlockCfg) : Nat := fld c.p0 0 8

/-- Parameters of a block, pool references and the targets a sink can name (Table 7-8, R154, R224, R331, R351, R412). -/
def blockParamsOk (cfg : NetworkCfg) (c : BlockCfg) (s : State) : Bool :=
  let p0 := c.p0.toNat; let p1 := c.p1.toNat
  let pool := fun k => (cfg.consts.getD k 0).toInt
  let tMax := 2000000000
  match c.typ with
  | 0x05 => decide (fld c.p0 0 3 ≤ 5)
  | 0x06 =>
    decide (p0 + 3 ≤ cfg.consts.length) && decide (pool (p0 + 1) < pool p0)
      && decide ((cfg.consts.getD (p0 + 2) 0).toNat ≤ tMax)
  | 0x0D => decide (c.p0.toInt ≤ c.p1.toInt)
  | 0x0F =>
    within 2 16 p1 && decide (p0 + 2 * p1 ≤ cfg.consts.length) && ascending ((List.range p1).map fun k => pool (p0 + 2 * k))
  | 0x11 => fld c.p0 0 2 != 3
  | 0x13 => decide (p0 ≤ 2)
  | 0x14 => decide (p0 ≤ tMax)
  | 0x15 => decide (p0 ≤ tMax)
  | 0x16 => decide (p0 ≤ tMax)
  | 0x17 => decide (p0 ≤ tMax) && decide (p1 ≤ tMax) && decide (1 ≤ p0 + p1)
  | 0x18 => decide (p0 ≤ 1)
  | 0x19 => decide (c.p0.toInt ≤ c.p1.toInt)
  | 0x1A => decide (0 ≤ c.p0.toInt) && decide (0 ≤ c.p1.toInt)
  | 0x1B => within 1 tMax p0
  | 0x20 => decide (sinkCh c ≤ 41) && decide (p1 ≤ if 40 ≤ sinkCh c then 3 else 1)
  | 0x21 => decide (sinkCh c ≤ 41)
  | 0x22 => decide (p1 ≤ 255)
  | 0x23 => [0, 1, 2, 3, 0x10, 0x11, 0x14].contains (fld c.p0 8 8)
  | 0x24 =>
    let k := fld c.p0 8 24
    match fld c.p0 0 8 with
    | 0 => (match s.can.db.signals[k]? with
        | some q => (match s.can.db.frames[q.frame]? with | some f => f.tx | none => false) | none => false)
    | 1 => (match s.lin.sched.signals[k]? with
        | some q => (match s.lin.sched.frames[q.frame]? with | some f => f.dir == 1 | none => false) | none => false)
    | 2 => s.fab.domain.pubs.any fun p => p.group == k / 32 && decide (k % 32 < p.count)
    | _ => false
  | _ => true

/-- The target of a sink (R162): kind, number, and for a bridge the quantity. -/
def sinkTarget (c : BlockCfg) : Nat × Nat × Nat :=
  match c.typ with
  | 0x22 => (1, fld c.p0 0 2, 0)
  | 0x23 => (if 0x10 ≤ fld c.p0 8 8 then 3 else 2, fld c.p0 0 1, fld c.p0 8 8)
  | 0x24 => (4, fld c.p0 0 8, fld c.p0 8 24)
  | _ => (0, sinkCh c, 0)

/-- The control quantity a MOTOR sink names: its bridge and quantity, none for a limit (R224). -/
def controlOf (c : BlockCfg) : Option (Nat × Nat) :=
  if c.typ = 0x23 ∧ fld c.p0 8 8 ≠ 3 ∧ fld c.p0 8 8 ≠ 0x14 then some ((sinkTarget c).1, (sinkTarget c).2.1) else none

/-- The declarations a sink needs (R539). -/
def sinkOwned (c : BlockCfg) (os : List (Nat × Nat × Nat)) : Bool :=
  match sinkTarget c with
  | (1, n, _) => ownerIn 4 (42 + n) os == 1
  | (2, n, _) => ownerIn 4 (46 + n) os == 1
  | (3, n, _) => ownerIn 4 (40 + n) os == 1 && ownerIn 3 n os == 1
  | (4, _, _) => true
  | (_, n, _) => ownerIn 4 n os == 1

/-- The cost of a block in WU (Table 7-8). -/
def blockCost (c : BlockCfg) : Nat :=
  if within 1 3 c.typ || c.typ == 7 || c.typ == 0xB || c.typ == 0xC then 2 + c.nin
  else match c.typ with
    | 0x04 => 2 | 0x05 => 3 | 0x06 => 5 | 0x08 => 3 | 0x09 => 3 | 0x0A => 6 | 0x0D => 3 | 0x0E => 4
    | 0x0F => 4 + c.p1.toNat | 0x10 => 3 | 0x11 => 2 | 0x12 => 2 | 0x13 => 2 | 0x14 => 4 | 0x15 => 4 | 0x16 => 4
    | 0x17 => 5 | 0x18 => 3 | 0x19 => 5 | 0x1A => 6 | 0x1B => 8 | 0x1C => 2 | 0x24 => 10 | _ => 12

/-- The cost of a lesson: 40 WU and its blocks (R152). -/
def lessonCost (cfg : NetworkCfg) (l : Nat) : Nat :=
  40 + ((cfg.blocks.filter fun c => c.lesson == l).map blockCost).sum

/-- The work per second of all lessons (R152). -/
def workRate (cfg : NetworkCfg) : Rat :=
  (cfg.lessons.zipIdx.map fun p => ((lessonCost cfg p.2 * 1000000 : Nat) : Rat) / ((p.1.minPeriod : Nat) : Rat)).sum

/-- A lesson entry in range (Table 7-5). -/
def lessonOk (l : LessonCfg) : Bool :=
  decide (1000 ≤ l.minPeriod)
    && (if l.clock = 8 then within 1000 100000000 l.period && decide (l.phase < l.period)
        else decide (l.clock ≤ 7) && decide (10 ≤ l.fallback)
          && ((List.range 9).any (fun m => l.period == 65536 / 2 ^ m)
            || (l.period % 65536 == 0 && within 2 255 (l.period / 65536))))

/-- The producers of a signal among the blocks. -/
def producersOf (cfg : NetworkCfg) (k : Nat) : List Nat :=
  (List.range cfg.blocks.length).filter fun n =>
    match cfg.blocks[n]? with | some c => !isSink c && c.out == k | none => false

/-- The blocks of a block's lesson that it depends on, directly or not, within `fuel` steps. -/
def reachBack (cfg : NetworkCfg) : Nat → List Nat → List Nat
  | 0, acc => acc
  | k + 1, acc => reachBack cfg k (acc ++ (acc.flatMap (runsAfter cfg)).eraseDups.filter fun n => !acc.contains n)

/-- A block lies on a cycle inside its lesson (R161). -/
def onCycle (cfg : NetworkCfg) (n : Nat) : Bool :=
  (reachBack cfg (cfg.blocks.length + 1) (runsAfter cfg n)).contains n

/-- The lesson of a block has no order for all its blocks. -/
def cyclic (cfg : NetworkCfg) : Bool :=
  (List.range cfg.lessons.length).any fun l => (lessonOrder cfg l).length != (blocksOf cfg l).length

/-- A NETWORK error: sub-code, item and the item's offset in the section (Table 7-9). -/
def netErr (base sub item off : Nat) : LoadErr :=
  { outcome := 5, detail := 0x11, offset := base + off, sub := sub, item := item }

/-- Checks of one signal entry (Table 7-9 codes 0x03 to 0x05). -/
def signalErr (base at_ : Nat) (cfg : NetworkCfg) (s : State) (k : Nat) (g : SignalCfg) : Option LoadErr :=
  let made := producersOf cfg k
  need (g.typ != 3 && (!g.retain || g.kind == 0) && sourceOk g s && (g.typ != 0 || decide (g.init.toNat ≤ 1)))
      (netErr base 3 k at_)
    <|> need (if g.kind = 0 then made == [g.index] else made.isEmpty) (netErr base 4 k at_)
    <|> need (!g.retain || decide (((cfg.signals.take (k + 1)).filter (·.retain)).length ≤ 1024)) (netErr base 5 k at_)

/-- Checks of one block entry (Table 7-9 codes 0x06 to 0x0A). -/
def blockErr (base at_ : Nat) (cfg : NetworkCfg) (s : State) (n : Nat) (c : BlockCfg) : Option LoadErr :=
  let before := cfg.blocks.take n
  need (match ninRange c.typ with | some r => within r.1 r.2 c.nin | none => false) (netErr base 6 n at_)
    <|> need (decide (c.lesson < cfg.lessons.length)
        && (c.ins.all fun i => decide (i < cfg.signals.length) || i == 0x7FE || i == 0x7FF)
        && (if isSink c then c.out == 0xFFFF else decide (c.out < cfg.signals.length))) (netErr base 7 n at_)
    <|> need (blockTypesOk cfg c) (netErr base 8 n at_)
    <|> need (blockParamsOk cfg c s) (netErr base 9 n at_)
    <|> need (!isSink c
        || (sinkOwned c s.boot.owners && !(before.any fun d => isSink d && sinkTarget d == sinkTarget c)
          && ((controlOf c).isNone || !(before.any fun d => controlOf d == controlOf c)))) (netErr base 0xA n at_)

/-- Check 5g of the NETWORK section, in the order header, lessons, signals, blocks, evaluation order, cost (R165). -/
def networkErr (b : List Byte) (base : Nat) (s : State) : Option LoadErr :=
  let nb := leAt b 0 2; let ns := leAt b 2 2; let nl := leAt b 4 1; let nc := leAt b 6 2
  let os := 16 + 16 * nl; let ob := os + 8 * ns
  let cfg := parseNetwork b
  need (decide (16 ≤ b.length) && decide (nb ≤ 1024) && decide (ns ≤ 2046) && decide (nl ≤ 16) && decide (nc ≤ 4096)
      && b.length == 16 + 16 * nl + 8 * ns + 32 * nb + 4 * nc) (netErr base 1 0 0)
    <|> firstErr cfg.lessons.zipIdx (fun p => need (lessonOk p.1) (netErr base 2 p.2 (16 + 16 * p.2)))
    <|> firstErr cfg.signals.zipIdx (fun p => signalErr base (os + 8 * p.2) cfg s p.2 p.1)
    <|> firstErr cfg.blocks.zipIdx (fun p => blockErr base (ob + 32 * p.2) cfg s p.2 p.1)
    <|> (if cyclic cfg then
          match (List.range cfg.blocks.length).find? (onCycle cfg) with
          | some n => some (netErr base 0xB n (ob + 32 * n)) | none => none
        else none)
    <|> firstErr cfg.lessons.zipIdx (fun p =>
      need (decide (lessonCost cfg p.2 ≤ 3000)) (netErr base 0xC p.2 (16 + 16 * p.2)))
    <|> need (decide (workRate cfg ≤ 6000000)) (netErr base 0xD 0 0)

/-! ## The other sections (5g) -/

/-- A record PARAMS may hold (R37): a word an integrator configures, with a value of its range. -/
def recordOk (p : Nat × Word) : Bool :=
  match paramRow p.1 with
  | none => false
  | some x =>
    (x.access == .rw || x.access == .rwt) && x.priv != .vendor && x.alive == .always && !x.command && rangeOk p.1 p.2

/-- PARAMS in record order: 0x0F for a bad record, 0x10 for a second record of an index (R37). -/
def paramsErr (b : List Byte) (base : Nat) : Option LoadErr :=
  let ps := parseParams b
  need (b.length % 8 == 0) (loadErr 5 0xF base)
    <|> firstErr ps.zipIdx (fun p =>
      need (recordOk p.1) (loadErr 5 0xF (base + 8 * p.2))
        <|> need (!(ps.take p.2).any fun q => q.1 == p.1.1) (loadErr 5 0x10 (base + 8 * p.2)))

/-- A field of a profile entry in the range of Table 8-3. -/
def profileFieldOk (w : Nat) (v : Word) : Bool :=
  match w with
  | 0 => within 10 100 (fld v 0 8) && within 10 80 (fld v 8 8)
  | 1 => decide (fld v 0 16 ≤ 10000) && decide (fld v 16 16 ≤ 10000)
  | 2 => decide (fld v 0 16 ≤ 10000) && decide (fld v 16 2 ≤ 2) && decide (1 ≤ fld v 24 8)
  | 3 => decide (fld v 0 10 ≤ 500) && decide (1 ≤ fld v 24 8)
  | 4 => decide (fld v 0 3 ≤ 5)
  | _ => decide (1 ≤ fld v 8 8)

/-- PROFILES: eight entries of 24 bytes, each all zeros or in range (R171). -/
def profilesErr (b : List Byte) (base : Nat) : Option LoadErr :=
  need (b.length == 192) (loadErr 5 0xF base)
    <|> firstErr (records b 0 8 24).zipIdx (fun p =>
      if p.1.all (· == 0) then none
      else firstErr (List.range 6) fun w =>
        need (profileFieldOk w (wAt p.1 (4 * w))) (loadErr 5 0xF (base + 24 * p.2 + 4 * w)))

/-- SCENES: entries of 8 bytes, at most 248 (R196); every field spans its whole width. -/
def scenesErr (b : List Byte) (base : Nat) : Option LoadErr :=
  need (b.length % 8 == 0 && decide (b.length ≤ 8 * 248)) (loadErr 5 0xF base)

/-- SEVERITY (R454). -/
def severityErr (b : List Byte) (base : Nat) : Option LoadErr :=
  let es := parseSeverity b
  need (b.length % 4 == 0) (loadErr 5 0xF base)
    <|> firstErr es.zipIdx (fun p =>
      need ((faultRow p.1.1).isSome && (p.1.2.all fun c => decide (c ≤ 5))
        && !((es.take p.2).any fun q => q.1 == p.1.1)) (loadErr 5 0xF (base + 4 * p.2)))

/-- The bits of two signal fields of one frame do not meet. -/
def fieldsApart (x y : BusSignalCfg) : Bool :=
  x.frame != y.frame || !((fieldBits x).any fun p => (fieldBits y).contains p)

/-- A signal entry in range, inside its frame and apart from the ones before it (R329, Table 14-4). -/
def busSignalOk (bits : Option Nat) (little : Bool) (g : BusSignalCfg) (before : List BusSignalCfg) : Bool :=
  match bits with
  | none => false
  | some n =>
    within 1 32 g.len && decide (g.start ≤ 511) && g.typ != 3 && (g.typ != 2 || g.factor != 0) && !(little && g.big)
      && (fieldBits g).all (fun p => decide (p < n)) && before.all fun x => fieldsApart x g

/-- A CANDB frame entry in range (Table 14-3, R328). -/
def canFrameOk (f : CanFrameCfg) (before : List CanFrameCfg) (s : State) : Bool :=
  let same := before.filter fun g => g.chan == f.chan && g.tx == f.tx
  decide (f.chan ≤ 2) && decide (f.dlc ≤ if f.fdf then 15 else 8) && (!f.brs || f.fdf)
    && (!f.fdf || s.fld (Ix.CAN_CFG f.chan) 0 2 != 1)
    && (if f.tx then
          decide (f.buffer ≤ 55) && decide (f.clock ≤ 8) && !(same.any fun g => g.buffer == f.buffer)
            && decide (same.length < 56)
            && (if f.clock = 8 then
                  decide (f.time ≤ 60000) && (f.time != 0 || f.onChange)
                    && (f.time == 0 || decide (f.phase < 1000 * f.time))
                else decide (f.time ≤ 6))
        else decide (same.length < 112))

/-- CANDB (R327–R329). -/
def canDbErr (b : List Byte) (base : Nat) (s : State) : Option LoadErr :=
  let nf := leAt b 0 2; let ns := leAt b 2 2
  let db := parseCanDb b
  need (decide (16 ≤ b.length) && decide (nf ≤ 384) && decide (ns ≤ 2048) && b.length == 16 + 20 * nf + 16 * ns)
      (loadErr 5 0xF base)
    <|> firstErr db.frames.zipIdx (fun p =>
      need (canFrameOk p.1 (db.frames.take p.2) s) (loadErr 5 0xF (base + 16 + 20 * p.2)))
    <|> firstErr db.signals.zipIdx (fun p =>
      need (busSignalOk ((db.frames[p.1.frame]?).map fun f => 8 * dlcLen f.dlc) false p.1 (db.signals.take p.2))
        (loadErr 5 0xF (base + 16 + 20 * nf + 16 * p.2)))

/-- The maximum time of a LIN frame in bit times, times ten (R347). -/
def linFrameTime (len : Nat) : Nat := 14 * (34 + 10 * (len + 1))

/-- A LINSCHED frame entry in range (Table 14-6). -/
def linFrameOk (f : LinFrameCfg) (sc : LinSched) : Bool :=
  decide (f.dir ≤ 2) && decide (f.id ≤ 0x3F) && within 1 8 f.len && decide (f.typ ≤ 3)
    && (f.typ != 1 || decide (f.collision < sc.tables.length))

/-- A slot names a frame, and its DELAY is at least the longest of its frames' maximum times (R347). -/
def linSlotOk (x : LinSlotCfg) (chan : Nat) (sc : LinSched) (s : State) : Bool :=
  let names := [x.frame] ++ (if x.second = 0xFFFF then [] else [x.second]) ++ (if x.third = 0xFFFF then [] else [x.third])
  let rate := s.fld (Ix.LIN_CFG chan) 16 15
  decide (10 ≤ x.delay)
    && names.all fun n =>
      match sc.frames[n]? with
      | some f => decide (linFrameTime f.len * 1000 ≤ x.delay * rate)
      | none => false

/-- LINSCHED (R346, R347, Table 14-6). Slots are judged on the channel of the table that holds them. -/
def linErr (b : List Byte) (base : Nat) : Option LoadErr :=
  let nf := leAt b 0 2; let ns := leAt b 2 2; let nt := leAt b 4 2; let nl := leAt b 6 2
  let sc := parseLinSched b
  let o1 := base + 16 + 8 * nf; let o2 := o1 + 16 * ns
  need (decide (16 ≤ b.length) && decide (nf ≤ 128) && decide (ns ≤ 512) && decide (nt ≤ 64) && decide (nl ≤ 512)
      && b.length == 16 + 8 * nf + 16 * ns + 4 * nt + 8 * nl) (loadErr 5 0xF base)
    <|> firstErr sc.frames.zipIdx (fun p => need (linFrameOk p.1 sc) (loadErr 5 0xF (base + 16 + 8 * p.2)))
    <|> firstErr sc.signals.zipIdx (fun p =>
      need (busSignalOk ((sc.frames[p.1.frame]?).map fun f => 8 * f.len) true p.1 (sc.signals.take p.2))
        (loadErr 5 0xF (o1 + 16 * p.2)))
    <|> firstErr sc.tables.zipIdx (fun p =>
      need (within 1 64 p.1.count && decide (p.1.first + p.1.count ≤ sc.slots.length)) (loadErr 5 0xF (o2 + 4 * p.2)))
    <|> firstErr sc.slots.zipIdx (fun p =>
      need (decide (10 ≤ p.1.delay)
          && ([p.1.frame] ++ (if p.1.second = 0xFFFF then [] else [p.1.second])
              ++ (if p.1.third = 0xFFFF then [] else [p.1.third])).all fun n => decide (n < sc.frames.length))
        (loadErr 5 0xF (o2 + 4 * nt + 8 * p.2)))

/-- DOMAIN (R410, Table 17-2). -/
def domainErr (b : List Byte) (base size : Nat) : Option LoadErr :=
  let nm := leAt b 1 1; let np := leAt b 2 1; let nx := leAt b 3 1; let ns := leAt b 4 2
  let d := parseDomain b
  let o1 := base + 16 + 16 * nm; let o2 := o1 + 8 * np; let o3 := o2 + 8 * ns
  need (decide (16 ≤ b.length) && decide (d.own ≤ 7) && within 1 8 nm && nm == size && decide (np ≤ 16)
      && decide (nx ≤ 4) && decide (ns ≤ 256) && b.length == 16 + 16 * nm + 8 * (np + ns + nx)) (loadErr 5 0xF base)
    <|> firstErr d.members.zipIdx (fun p =>
      need (decide (p.1.ordinal ≤ 7) && !((d.members.take p.2).any fun m => m.ordinal == p.1.ordinal))
        (loadErr 5 0xF (base + 16 + 16 * p.2)))
    <|> firstErr d.pubs.zipIdx (fun p =>
      need (decide (p.1.group ≤ 15) && within 1 32 p.1.count && within 5 10000 p.1.period
        && !((d.pubs.take p.2).any fun m => m.group == p.1.group)) (loadErr 5 0xF (o1 + 8 * p.2)))
    <|> firstErr d.subs.zipIdx (fun p =>
      need (decide (p.1.ordinal ≤ 7) && decide (p.1.group ≤ 15) && decide (p.1.pos ≤ 31) && decide (p.1.typ ≤ 2)
        && within 10 60000 p.1.timeout) (loadErr 5 0xF (o2 + 8 * p.2)))
    <|> firstErr d.exts.zipIdx (fun p =>
      need (decide (p.1.clock ≤ 7) && decide (p.1.m ≤ 3)) (loadErr 5 0xF (o3 + 8 * p.2)))

/-- MEMBER: the ordinal 1–7 before the image it holds (Table 2-4). -/
def memberErr (b : List Byte) (base : Nat) : Option LoadErr :=
  need (decide (16 ≤ b.length) && within 1 7 (leAt b 0 1)) (loadErr 5 0xF base)

/-- The checks of one known section (R595); `s` is the state the image would bring. The spec gives the TIMETABLE section (0x0004) no
byte layout: any content of it passes and brings nothing, and its bindings and pools come from PARAMS (DESIGN CHOICE, assumption log
60). -/
def sectionErr (b : List Byte) (s : State) (e : Entry) : Option LoadErr :=
  let x := secBytes b e
  if e.size = 0 then none
  else match e.typ with
    | 2 => paramsErr x e.off
    | 3 => networkErr x e.off s
    | 5 => canDbErr x e.off s
    | 6 => linErr x e.off
    | 7 => profilesErr x e.off
    | 8 => scenesErr x e.off
    | 9 => severityErr x e.off
    | 0xA => domainErr x e.off (imgDomain b)
    | 0x10 => memberErr x e.off
    | _ => none

/-! ## Rules over the configuration as a whole (5g) -/

/-- The groups of touch follow R278. -/
def touchGroupsOk (s : State) : Bool :=
  let senses := fun g => (List.range 16).filter fun e => s.flag (Ix.TCH_G_CFG g) e
  (List.range 8).all fun g =>
    let m := senses g
    m.isEmpty
      || ((if s.flag (Ix.TCH_G_CFG g) 21 then within 2 8 m.length else m.length == 1)
          && (m.all fun e => s.fld (Ix.TCH_EL_CFG e) 0 2 == 1)
          && ((List.range g).all fun h => (senses h).all fun e => !m.contains e)
          && (!s.flag (Ix.TCH_G_CFG g) 20 || s.fld (Ix.TCH_EL_CFG (s.fld (Ix.TCH_G_CFG g) 16 4)) 0 2 == 2))

/-- The duration of a frame without tests in µs (R281). -/
def touchFrameUs (s : State) : Nat :=
  let sense := (List.range 16).filter fun e => s.fld (Ix.TCH_EL_CFG e) 0 2 == 1
  let driven := sense.filter fun e => (List.range 8).any fun g =>
    s.flag (Ix.TCH_G_CFG g) e && s.flag (Ix.TCH_G_CFG g) 20
  40 * sense.length + 60 * driven.length + 50

/-- The wake electrodes are SENSE or OFF where a gesture is configured (R297). -/
def wakeElectrodesOk (s : State) : Bool :=
  s.fld Ix.TCH_WAKE_CFG 0 2 == 0 || [0, 1].all fun e => decide (s.fld (Ix.TCH_EL_CFG e) 0 2 ≤ 1)

/-- ISET × CROSS reaches the lowest analogue current on every used string (R198). -/
def stringCurrentOk (t : Nat) (s : State) : Bool :=
  s.fld (Ix.LED_STR_CFG t) 0 5 == 0
    || decide ((if t < 2 then 5000 else 2000) ≤ s.fld (Ix.LED_STR_ISET t) 0 11 * s.fld (Ix.LED_STR_ISET t) 16 8)

/-- The data mask of a wake-up filter stays below its DLC (R371). -/
def wufOk (k : Nat) (s : State) : Bool :=
  let dlc := s.fld (Ix.NM_WUF_DLC k) 0 4
  (List.range 8).all fun j =>
    decide (j < dlc) || s.fld (Ix.NM_WUF_DATA_LO k + j / 4) (8 * (j % 4)) 8 == 0

/-- Authenticated commands: at most 8 on a channel, one per identifier (R489). -/
def acmdsOk (s : State) : Bool :=
  let used := (List.range 16).filter fun k => s.flag (Ix.SEC_ACMD_CFG k) 6
  let key := fun k => (s.fld (Ix.SEC_ACMD_CFG k) 0 3, s.fld (Ix.SEC_ACMD_ID k) 0 29)
  ([0, 1, 2].all fun c => decide ((used.filter fun k => s.fld (Ix.SEC_ACMD_CFG k) 0 2 == c).length ≤ 8))
    && used.all fun k => used.all fun j => j == k || key j != key k

/-- Every slot of the LIN tables allows its longest frame (R347). -/
def linSlotsOk (s : State) : Bool :=
  s.lin.sched.tables.all fun t =>
    s.fld (Ix.LIN_CFG t.chan) 0 2 == 0
      || ((s.lin.sched.slots.drop t.first).take t.count).all fun x => linSlotOk x t.chan s.lin.sched s

/-- The rules stated over the configuration as a whole, each with the words it involves and its section (R595). -/
def wholeRules (s : State) : List (Bool × List Nat × Nat) :=
  [(touchGroupsOk s, (List.range 8).map Ix.TCH_G_CFG ++ (List.range 16).map Ix.TCH_EL_CFG, 2),
   (decide (touchFrameUs s ≤ 1000 * s.fld Ix.TCH_SCAN 0 8),
     [Ix.TCH_SCAN] ++ (List.range 16).map Ix.TCH_EL_CFG ++ (List.range 8).map Ix.TCH_G_CFG, 2),
   (wakeElectrodesOk s, [Ix.TCH_EL_CFG 0, Ix.TCH_EL_CFG 1, Ix.TCH_WAKE_CFG], 2),
   (acmdsOk s, (List.range 16).map Ix.SEC_ACMD_CFG ++ (List.range 16).map Ix.SEC_ACMD_ID, 2),
   (linSlotsOk s, [], 6)]
    ++ (List.range 4).map (fun t => (stringCurrentOk t s, [Ix.LED_STR_ISET t, Ix.LED_STR_CFG t], 2))
    ++ (List.finRange 3).map (fun c => (canMode c s == 0 || canTimingOk c s,
        [Ix.CAN_CFG c.val, Ix.CAN_NBT c.val, Ix.CAN_DBT c.val], 2))
    ++ (List.range 3).map (fun c => (!s.flag (Ix.NM_CFG c) 8 || s.flag (Ix.NM_CFG c) 9, [Ix.NM_CFG c], 2))
    ++ (List.range 4).map (fun k => (wufOk k s, (List.range 5).map fun w => Ix.NM_WUF_ID k + w, 2))

/-- The first record of an image that names one of the words, else the table entry of a section. -/
def firstRecord (b : List Byte) (idxs : List Nat) (t : Nat) : Nat :=
  match (parseParams (sectionOf b 2)).findIdx? fun p => idxs.contains p.1 with
  | some k => offOf b 2 + 8 * k
  | none => match sectionEntry b t with | some e => e.at_ | none => 0x60

/-- The last row of Table 2-11 (R595). The order within the row is the model's (DESIGN CHOICE, assumption log 60): ranges against
another word in record order, every rule over the configuration, then the pool sum. A failing rule names the first record that it
involves. -/
def wholeErr (b : List Byte) (s : State) : Option LoadErr :=
  firstErr (parseParams (sectionOf b 2)).zipIdx (fun p =>
      firstErr (crossRules p.1.1 s) (fun r => need r.1 (loadErr 5 0xF (firstRecord b r.2 2)))
        <|> need (boundOk p.1.1 p.1.2 s) (loadErr 5 0xF (offOf b 2 + 8 * p.2)))
    <|> firstErr (wholeRules s) (fun r => need r.1 (loadErr 5 0xF (firstRecord b r.2.1 r.2.2)))
    <|> need (decide (poolSum s ≤ 4095)) (loadErr 5 0x12 (firstRecord b ((List.range 8).map (Ix.TT_POOL_1 + ·)) 2))

/-- The content checks of 5g after the binding (R595): MIN_FW against a firmware version, unknown essential sections,
ownership, each known section, the configuration as a whole. `s` holds the reset words. -/
def contentErr (b : List Byte) (fw : Nat) (s : State) : Option LoadErr :=
  let t := withImage b s
  need (decide (leAt b 0x10 4 ≤ fw)) (loadErr 5 0xC 0x10)
    <|> firstErr (entries b) (fun e => need (knownType e.typ || !e.essential) (loadErr 5 0xD e.at_))
    <|> ownersErr b t
    <|> firstErr (entries b) (sectionErr b t)
    <|> wholeErr b t

/-- Sections skipped under R35. -/
def skipped (b : List Byte) : Nat := ((entries b).filter fun e => !knownType e.typ).length

/-- Checks 5c to 5f of a whole image (R595). -/
def formErr (b : List Byte) (cap : Nat) (s : State) : Option LoadErr :=
  headerErr b cap <|> layoutErr b <|> signatureErr b s

end Sys2Proof.Machine
end

