-- ==== Sys2Proof/Machine/Updates.lean ====
section
/-!
DEFINITION. Firmware and configuration updates (21_updates.md): bunches, sprigs and their store, verification, activation and
discard, and the fabric's update relay. The copy itself belongs to the start.
-/
namespace Sys2Proof.Machine

/-! ## Updates as state -/

/-- The update manager changed. -/
def updUpd (f : Upd → Upd) (s : State) : State := { s with upd := f s.upd }

/-- The payload of UPD_EVENT (Table 21-8). -/
def updEventBytes (s : State) : List Byte :=
  leBytes (updStateWord s) 4 ++ leBytes s.upd.bunch 4 ++ leBytes s.upd.last 4 ++ leBytes (s.word Ix.SYS_FW_VERSION).toNat 4

/-- Bank S enters a state (Table 21-4); a LISTED node owes an UPD_EVENT for it (R525). -/
def bankState (st : Nat) (s : State) : State :=
  if s.upd.st = st then s
  else
    let s1 := updUpd (fun u => { u with st := st, stAt := s.now }) s
    if s.fab.node == .unlisted then s1 else updUpd (fun u => { u with events := u.events ++ [updEventBytes s1] }) s1

/-- `UPD_LAST` records a cause. -/
def updLast (c : Nat) (s : State) : State := updUpd (fun u => { u with last := c }) s

/-- UPD_SPRIG_BAD (0xD00): the sprig is counted (R517). -/
def sprigBad (s : State) : State := report 0xD00 0 (s.bump Ix.UPD_COUNTS 0 8)

/-- The device's MAKER_ID, none before MAKER_ROOT is programmed. -/
def ownMaker (s : State) : Option Nat := s.sec.makerRoot.map (·.2)

/-- A DEVICE and MAKER_ID name this device; 0 names any (Table 21-3). -/
def forUs (device maker : Nat) (s : State) : Bool :=
  (device == 0 || device == Config.serial.toNat) && (maker == 0 || ownMaker s == some maker)

/-! ## Binding and adoption (R493, Table 20-8) -/

/-- What the binding check decides. -/
inductive Binding where
  | bound | adopt | foreign | unbound
  deriving DecidableEq, Repr

/-- The permit names a vehicle, or any (R486, R493). -/
def permitNames (v : List Byte) (s : State) : Bool :=
  match s.sec.permit with | some (w, _) => w == v || w.all (· == 0) | none => false

/-- The binding of an image's identifiers against ADOPTION (R493). -/
def bindingOf (vehicle : List Byte) (maker : Nat) (s : State) : Binding :=
  if s.life == .returned then .unbound
  else if ownMaker s != some maker then .foreign
  else
    let equal := s.sec.adoption == .present vehicle maker
    match s.life with
    | .maker => if equal then .bound else .adopt
    | .field =>
      if equal then .bound
      else if s.sec.owner.isSome then .foreign
      else if s.sec.adoption == .absent then .adopt
      else if permitNames vehicle s then .adopt else .foreign
    | _ => .foreign

/-- Checks 5e to 5g of an image against the present adoption record (R49, R526): form, binding, content. -/
def imageErr (b : List Byte) (s : State) : Option LoadErr :=
  formErr b b.length s
    <|> need (bindingOf (imgVehicle b) (imgMaker b) s != .foreign) (loadErr 4 0xB 0x18)
    <|> contentErr b (bankAVersion s).toNat { s with words := [] }

/-! ## Bunches (R510–R512) -/

/-- The entries are in rising offset order. -/
def offsetsRise : List Comp → Bool
  | x :: y :: t => decide (x.off + x.size ≤ y.off) && offsetsRise (y :: t)
  | _ => true

/-- Header fields and HDR_CRC of a bunch (R511, R526 check 1). -/
def bunchHeaderOk (b : List Byte) : Bool :=
  leAt b 0 4 == 0x314E5542 && crc32 (b.take 0x7C) == leAt b 0x7C 4 && leAt b 4 2 == 1 && leAt b 6 2 == 128
    && within 16 8388608 (leAt b 8 4) && leAt b 0xC 4 != 0 && within 1 8 (leAt b 0x15 1)

/-- The well-formedness rules (R512). -/
def bunchFormOk (b : List Byte) : Bool :=
  let cs := comps b
  let fw := cs.filter isFirmware
  (cs.all fun c => isFirmware c || c.typ == 0x10 || c.typ == 0x20)
    && (fw.length == 0 || fw.length == 5)
    && (cs.map (·.typ)).eraseDups.length == cs.length
    && (cs.all fun c => c.off % 16 == 0 && decide (c.off + c.size + 80 ≤ leAt b 8 4))
    && cs.take fw.length == fw && offsetsRise fw
    && (match fw with | c :: _ => c.off == 0x1000 | [] => true)
    && (leAt b 0x24 4 == 0 || cs.all fun c => c.typ == 0x10)

/-- A component's HASH fits its body (R510). -/
def compHashOk (c : List Byte) : Bool :=
  leAt c 0 4 == 0x31504D43 && c.length == 128 + leAt c 8 4
    && Config.sha256 (slice c 64 (leAt c 8 4)) == slice c 0x18 32

/-- A component's signature verifies under VENDOR_ROOT (R510). -/
def compSigOk (c : List Byte) : Bool :=
  Config.ecdsaVerify Config.vendorRoot (c.take (64 + leAt c 8 4)) (slice c (64 + leAt c 8 4) 64)

/-- SEC_VER of a component. -/
def compSec (c : List Byte) : Nat := leAt c 0x10 1

/-- The key a bunch or manifest of a SIGNER_ID is signed under (R511). -/
def bunchKey (signer : Nat) (s : State) : Option (List Byte) := if signer = 0 then some Config.vendorRoot else signerKey signer s

/-- The checks of R526 on the bytes of Bank S, against a length and a SHA-256 where they are known: the cause for `UPD_LAST`,
none where all pass. -/
def bunchErr (b : List Byte) (len : Nat) (sha : Option (List Byte)) (s : State) : Option Nat :=
  let fail := fun (ok : Bool) (c : Nat) => if ok then none else some c
  let cs := comps b
  let parts := cs.filter (·.typ != 0x10)
  fail (bunchHeaderOk b) 10
    <|> fail (forUs (leAt b 0x18 8) (leAt b 0x20 4) s) 6
    <|> fail (bunchFormOk b) 10
    <|> fail (leAt b 8 4 == len && (match sha with | some h => Config.sha256 b == h | none => true)) 2
    <|> (match bunchKey (leAt b 0x24 4) s with
      | some k => fail (blockSigned k b) 3
      | none => some 3)
    <|> parts.findSome? (fun c => fail (compHashOk (compBytes b c)) 2 <|> fail (compSigOk (compBytes b c)) 3)
    <|> (cs.filter isFirmware).findSome? (fun c => fail (decide (s.upd.counter ≤ compSec (compBytes b c))) 4)
    <|> (match compOf b 0x10 with | some i => fail (imageErr i s).isNone 11 | none => none)
    <|> fail ((compOf b 0x20).isNone || s.life == .maker || s.life == .returned) 12

/-! ## Bank S -/

/-- The store without the sprigs of a bunch. -/
def dropStored (id : Nat) (s : State) : State := updUpd (fun u => { u with store := u.store.filter (·.id != id) }) s

/-- Bank S is EMPTY and the bitmap clear; an intent goes with an ACTIVATED bunch. -/
def bankEmpty (s : State) : State :=
  bankState 0 (updUpd (fun u => { u with bunch := 0, manifest := none, bitmap := [], deadline := none, session := none,
                                         intent := none, marked := 0, markedRec := 0 }) s)

/-- The deadline of a manifest accepted at an RTC time (R522). -/
def expirySecs (days : Nat) (s : State) : Nat := 86400 * (if days = 0 then s.fld Ix.UPD_CFG 0 16 else days)

/-- All bits 0 to COUNT − 1 are set. -/
def allSprigs (u : Upd) : Bool := match u.manifest with | some m => decide (m.count ≤ u.bitmap.length) | none => false

/-! ## Sprigs (R516–R521) -/

/-- One delta operation: the bytes it writes and the rest of the payload; none where it is not valid (Table 21-7). -/
def deltaOp (p : List Byte) (base : Nat) (s : State) : Option (List Byte × List Byte) :=
  let w := leAt p 0 2
  let len := w % 2 ^ 14 + 1
  let rest := p.drop 2
  if p.length < 2 then none
  else match w / 2 ^ 14 with
    | 0 => if len ≤ rest.length then some (rest.take len, rest.drop len) else none
    | 1 =>
      let src := leAt rest 0 4
      if 4 ≤ rest.length ∧ base ≠ 0 ∧ src + len ≤ 8388608 then
        some ((List.range len).map fun k => bankAByte (src + k) s, rest.drop 4)
      else none
    | 2 => match rest with | x :: t => some (List.replicate len x, t) | [] => none
    | _ => none

/-- The bytes a payload writes; none where an operation is not valid or the payload is not consumed exactly (R519). -/
def deltaBytes (base : Nat) (s : State) : Nat → List Byte → Option (List Byte)
  | _, [] => some []
  | 0, _ => none
  | k + 1, p =>
    match deltaOp p base s with
    | none => none
    | some (w, rest) => (deltaBytes base s k rest).map (w ++ ·)

/-- INDEX set in the resume bitmap. -/
def setSprigBit (i : Nat) (s : State) : State :=
  let f := fun u : Upd =>
    if u.bitmap.contains i then u else { u with bitmap := u.bitmap.filter (· < i) ++ [i] ++ u.bitmap.filter (i < ·) }
  updUpd f s

/-- Apply a data sprig of the accepted bunch: written, read back, marked; the last one starts verification (R519, R520). -/
def sprigApply (b : List Byte) (s : State) : State :=
  match s.upd.manifest with
  | none => s
  | some m =>
    let target := leAt b 0xC 4; let tlen := leAt b 0x10 4
    let payload := slice b 32 (leAt b 0x14 2)
    match deltaBytes m.base s payload.length payload with
    | none => sprigBad s
    | some w =>
      if w.length ≠ tlen ∨ target + tlen > m.length then sprigBad s
      else
        let s1 := setSprigBit (leAt b 8 2) (updUpd (fun u => { u with bankS := memWrite u.bankS target w }) s)
        if allSprigs s1.upd then bankState 5 s1 else s1

/-- Put a sprig in the store (R521): one copy of each, 2,048 slots; with Bank S EMPTY its bunch gathers. -/
def storeSprig (b : List Byte) (s : State) : State :=
  let id := leAt b 4 4; let i := leAt b 8 2
  if s.upd.store.any fun x => x.id == id && x.index == i then s
  else if 2048 ≤ s.upd.store.length then s.bump Ix.UPD_COUNTS 24 8
  else
    let x : Stored := { id := id, index := i, count := leAt b 0xA 2, bytes := b, at_ := s.rtcNow }
    let s1 := updUpd (fun u => { u with store := u.store ++ [x] }) s
    if s1.upd.st = 0 then bankState 2 (updUpd (fun u => { u with bunch := id }) s1) else s1

/-- The bunch is not for this CB7: it joins the list of the 16 most recent (R518). -/
def notForUs (id : Nat) (s : State) : State :=
  updLast 6 (updUpd (fun u => { u with notUs := ringPush 16 (u.notUs.filter (· != id)) id }) s)

/-- A manifest meets the checks of R518 in order; it is accepted, refused, or stored while Bank S is busy. -/
def manifestRx (b : List Byte) (s : State) : State :=
  let id := leAt b 4 4
  let p := slice b 32 128
  let signer := leAt p 0x38 4
  if leAt b 0x14 2 ≠ 128 then sprigBad s
  else if !forUs (leAt p 0x28 8) (leAt p 0x30 4) s then notForUs id s
  else
    let msg := slice b 4 4 ++ slice b 0xA 2 ++ p.take 0x40
    let signed := match bunchKey signer s with | some k => Config.ecdsaVerify k msg (slice p 0x40 64) | none => false
    if !signed then sprigBad s
    else if leAt p 0x24 4 ≠ 0 ∧ leAt p 0x24 4 ≠ (bankAVersion s).toNat then updLast 5 s
    else if leAt p 0x36 1 < s.upd.counter then updLast 4 s
    else if s.upd.st ≠ 0 ∧ ¬(s.upd.st = 2 ∧ s.upd.bunch = id) then storeSprig b s
    else
      let m : Manifest :=
        { id := id, count := leAt b 0xA 2, length := leAt p 0 4, hash := slice p 4 32, base := leAt p 0x24 4,
          expiry := leAt p 0x34 2, auto := leAt p 0x37 1 % 2 == 1, signer := signer }
      let s1 := updUpd (fun u =>
        { u with
          manifest := some m, bunch := id, bitmap := [0],
          store := u.store.filter fun x => !(x.id == id && x.index == 0),
          deadline := s.rtcNow.map (· + expirySecs m.expiry s) }) s
      bankState 3 s1

/-- When Bank S is EMPTY the stored bunch whose manifest is present is taken up, or the one with the most sprigs (R521). -/
def takeStored : Nat → State → State
  | 0, s => s
  | k + 1, s =>
    if s.upd.st ≠ 0 ∨ s.upd.store.isEmpty then s
    else match s.upd.store.find? (·.index == 0) with
      | some x =>
        takeStored k (manifestRx x.bytes
          (updUpd (fun u => { u with store := u.store.filter fun y => !(y.id == x.id && y.index == 0) }) s))
      | none =>
        let size := fun id => (s.upd.store.filter (·.id == id)).length
        let best := s.upd.store.foldl (fun b x => if size b < size x.id then x.id else b)
          (match s.upd.store with | x :: _ => x.id | [] => 0)
        bankState 2 (updUpd (fun u => { u with bunch := best }) s)

/-- Bank S returns to EMPTY and the store is looked at (R521). -/
def bankFree (s : State) : State :=
  let s1 := bankEmpty s
  takeStored (s1.upd.store.length + 1) s1

/-- The bunch in Bank S is discarded with its stored sprigs. -/
def discardBunch (cause : Nat) (s : State) : State := bankFree (updLast cause (dropStored s.upd.bunch s))

/-- A received sprig: empty, malformed, not for this CB7, duplicate, manifest, applied or stored (R517–R521). -/
def sprigReceived (b : List Byte) (s : State) : State :=
  let id := leAt b 4 4; let i := leAt b 8 2; let n := leAt b 0xA 2
  let target := leAt b 0xC 4; let tlen := leAt b 0x10 4; let len := leAt b 0x14 2
  let mine := s.upd.manifest.isSome && s.upd.bunch == id
  let limit := match s.upd.manifest with | some m => if mine then m.length else 8388608 | none => 8388608
  if s.modes.mode == .park then s
  else if 32 ≤ b.length ∧ len = 0 then report 0xD01 0 (s.bump Ix.UPD_COUNTS 8 8)
  else if b.length < 32 ∨ leAt b 0 4 ≠ 0x31525053 ∨ 960 < len ∨ b.length ≠ 32 + len
      ∨ crc32 (b.take 0x1C ++ slice b 32 len) ≠ leAt b 0x1C 4 ∨ id = 0 ∨ n ≤ i ∨ n < 2 ∨ 4096 < n
      ∨ (i ≠ 0 ∧ (target % 16 ≠ 0 ∨ tlen = 0 ∨ 65536 < tlen ∨ limit < target + tlen)) then sprigBad s
  else if s.upd.notUs.contains id then s
  else if mine && s.upd.bitmap.contains i then s.bump Ix.UPD_COUNTS 16 8
  else if i = 0 then manifestRx b s
  else if mine ∧ s.upd.st = 4 then sprigApply b s
  else storeSprig b s

/-- CAN_SPRIG_MESSAGE (R523): a message on the identifier of `UPD_CAN_c` carries one sprig. -/
def execCanSprigMessage (c : Can) (at_ : Nat) (msg : List Byte) (s : State) : Host.Outcome State Fault Refusal :=
  doneFor .pair s fun s => if s.flag (Ix.UPD_CAN c.val) 30 then sprigReceived msg (s.reach at_) else s.reach at_

/-- LIN_SPRIG_MESSAGE (R524): on a responder channel with EN set, a message to the NAD of `UPD_LIN_l`. -/
def execLinSprigMessage (l : Lin) (at_ nad : Nat) (msg : List Byte) (s : State) : Host.Outcome State Fault Refusal :=
  doneFor .pair s fun s =>
    let s1 := s.reach at_
    if s.fld (Ix.LIN_CFG l.val) 0 2 == 2 && s.flag (Ix.UPD_LIN l.val) 8 && s.fld (Ix.UPD_LIN l.val) 0 8 == nad
      then sprigReceived msg s1 else s1

/-! ## The fabric's update relay (R525) -/

/-- A SPRIG_SEG segment joins its sprig; at most 16 are reassembled at a time. -/
def sprigSeg (at_ : Nat) (f : FabFrame) (s : State) : State :=
  let s1 := s.reach at_
  let p := f.payload
  let id := leAt p 0 4; let i := leAt p 4 2; let seg := leAt p 6 1 % 4; let last := leAt p 6 1 / 4 % 4
  let d := p.drop 8
  let same := fun x : SprigAsm => x.id == id && x.index == i
  if d.isEmpty ∨ 248 < d.length ∨ (seg < last ∧ d.length ≠ 248) ∨ last < seg then s1
  else
    let old := s1.upd.asm.find? same
    if old.isNone ∧ 16 ≤ s1.upd.asm.length then s1
    else
      let x := old.getD { id := id, index := i, last := last, segs := [], at_ := s1.now }
      let y := { x with segs := x.segs.filter (·.1 != seg) ++ [(seg, d)], last := last }
      let rest := s1.upd.asm.filter fun z => !same z
      if (List.range (last + 1)).all fun k => y.segs.any (·.1 == k) then
        sprigReceived ((List.range (last + 1)).flatMap fun k => (y.segs.lookup k).getD [])
          (updUpd (fun u => { u with asm := rest }) s1)
      else updUpd (fun u => { u with asm := rest ++ [y] }) s1

/-- SPRIG_SEG (R525). -/
def execSprigSeg (at_ : Nat) (f : FabFrame) (s : State) : Host.Outcome State Fault Refusal :=
  doneFor .fabricPair s fun s => sprigSeg at_ f s

/-- SPRIG_REASSEMBLY_TIMEOUT: the oldest incomplete sprig is discarded 2 s after its first segment (R525). -/
def sprigTimeout (s : State) : State :=
  match s.upd.asm with
  | [] => s
  | x :: _ =>
    let first := s.upd.asm.foldl (fun a y => Nat.min a y.at_) x.at_
    updUpd (fun u => { u with asm := u.asm.filter (·.at_ != first) }) (s.reach (first + secP 2))

/-- SPRIG_REASSEMBLY_TIMEOUT (R525). -/
def execSprigReassemblyTimeout (s : State) : Host.Outcome State Fault Refusal := doneFor .pair s fun s => sprigTimeout s

/-- A byte of the resume bitmap (R520). -/
def bitmapByte (u : Upd) (k : Nat) : Byte := BitVec.ofNat 8 (packBits ((List.range 8).map fun j => u.bitmap.contains (8 * k + j)))

/-- A slice of the resume bitmap of a bunch: 128 bytes; zeros where no manifest of it was accepted. -/
def bitmapSlice (id slice : Nat) (s : State) : List Byte :=
  (List.range 128).map fun k =>
    if s.upd.bunch = id && s.upd.manifest.isSome then bitmapByte s.upd (128 * slice + k) else 0

/-- UPD_QUERY is answered with UPD_REPLY; one received with BCAST is dropped (R525). -/
def updQuery (at_ : Nat) (f : FabFrame) (s : State) : State :=
  let s1 := s.reach at_
  if f.bcast then s1
  else
    let id := if leAt f.payload 0 4 = 0 then s1.upd.bunch else leAt f.payload 0 4
    let k := leAt f.payload 4 1 % 4
    let bits := if s1.upd.bunch = id && s1.upd.manifest.isSome then s1.upd.bitmap.length else 0
    sendReply f 0x26 (statusHead 0 ++ leBytes (updStateWord s1) 4 ++ leBytes id 4 ++ leBytes bits 2 ++ leBytes k 1 ++ [0]
      ++ bitmapSlice id k s1) s1

/-- UPD_QUERY (R525). -/
def execUpdQuery (at_ : Nat) (f : FabFrame) (s : State) : Host.Outcome State Fault Refusal :=
  doneFor .fabricPair s fun s => updQuery at_ f s

/-- UPD_EVENT: a change of the Bank S state is announced to 0x000 by a LISTED node (R525). -/
def updEvent_ (s : State) : State :=
  match s.upd.events with
  | [] => s
  | e :: es =>
    if s.fab.node == .unlisted then updUpd (fun u => { u with events := [] }) s
    else sendMessage 0x27 0 e (updUpd (fun u => { u with events := es }) s)

/-- UPD_EVENT (R525). -/
def execUpdEvent (s : State) : Host.Outcome State Fault Refusal := doneFor .fabricPair s fun s => updEvent_ s

/-! ## Erase, verification and expiry -/

/-- Blocks of 64 KB a length spans. -/
def blocks64 (n : Nat) : Nat := ceilDiv n 65536

/-- The erase of Bank S ends, 30 ms for each block: the stored sprigs of the bunch are applied in order (R518, R520). -/
def eraseDone (s : State) : State :=
  match s.upd.manifest with
  | none => s
  | some m =>
    if s.upd.st ≠ 3 then s
    else
      let r := s.reach (s.upd.stAt + msP (30 * blocks64 m.length))
      let s0 : State := { r with flt := { s.flt with eraseS := s.flt.eraseS + Nat.min 1 (blocks64 m.length) } }
      let s1 := bankState 4 (updUpd (fun u => { u with bankS := u.bankS.filter fun c => decide (65536 * blocks64 m.length ≤ c.1) }) s0)
      let own := s1.upd.store.filter (·.id == m.id)
      own.foldl (fun t x => if t.upd.st = 4 && !t.upd.bitmap.contains x.index then sprigApply x.bytes t else t) (dropStored m.id s1)

/-- BANK_S_ERASE_DONE (R518). -/
def execBankSEraseDone (s : State) : Host.Outcome State Fault Refusal := doneFor .core s fun s => eraseDone s

/-- The length and SHA-256 Bank S is checked against: of its manifest, or of its image session (R526 check 3). -/
def expectedBunch (s : State) : Nat × Option (List Byte) :=
  match s.upd.manifest, s.upd.session with
  | some m, _ => (m.length, some m.hash)
  | none, some x => (x.total, x.sha)
  | none, none => (0, none)

/-- How long the checks of R526 last where all pass: 1 ms of hashing per MB, and 5 ms for the signature of the bunch and of each of its
components. -/
def verifyP (b : List Byte) : Nat := b.length * msP 1 / 2 ^ 20 + msP (5 * (1 + (comps b).length))

/-- Verification ends with VERIFIED, or the bunch is discarded (R526). -/
def verifyDone (s : State) : State :=
  if s.upd.st ≠ 5 then s
  else
    let e := expectedBunch s
    let b := memRead s.upd.bankS 0 e.1
    match bunchErr b e.1 e.2 s with
    | none =>
      bankState 6 (updLast 1 (updUpd (fun u => { u with bunch := leAt b 0xC 4, session := none }) (s.reach (s.upd.stAt + verifyP b))))
    | some c => discardBunch c (report (if c = 4 then 0xD05 else 0xD00) 0 s)

/-- BANK_S_VERIFY_DONE (R526). -/
def execBankSVerifyDone (s : State) : Host.Outcome State Fault Refusal := doneFor .core s fun s => verifyDone s

/-- A stored sprig has reached its own expiry at an RTC time (R522); one whose bunch is accepted or has its manifest stored
expires with the bunch. -/
def sprigExpired (t : Nat) (s : State) (x : Stored) : Bool :=
  !(s.upd.store.any fun y => y.id == x.id && y.index == 0) && !(s.upd.manifest.isSome && s.upd.bunch == x.id) &&
  match x.at_ with | some a => decide (a + 86400 * s.fld Ix.UPD_CFG 0 16 ≤ t) | none => false

/-- What has reached its deadline is discarded (R522). -/
def updExpiry (s : State) : State :=
  match s.rtcNow with
  | none => s
  | some t =>
    let s1 :=
      if s.upd.st < 6 && (match s.upd.deadline with | some d => decide (d ≤ t) | none => false) then
        discardBunch 7 (report 0xD02 0 s)
      else s
    let gone := s1.upd.store.filter (sprigExpired t s1)
    if gone.isEmpty then s1
    else
      let s2 := report 0xD02 0 (updUpd (fun u => { u with store := u.store.filter fun x => !sprigExpired t s1 x }) s1)
      if s2.upd.st = 2 ∧ gone.any (·.id == s2.upd.bunch) then bankFree (updLast 7 s2) else updLast 7 s2

/-- UPDATE_EXPIRY (R522). -/
def execUpdateExpiry (s : State) : Host.Outcome State Fault Refusal := doneFor .core s fun s => updExpiry s

/-- The RTC became valid: a manifest accepted without it gets its deadline, and a sprig stored without it its arrival
(R522). -/
def updRtc (t : Nat) (s : State) : State :=
  updUpd (fun u =>
    { u with
      deadline := match u.deadline, u.manifest with
        | none, some m => if u.st < 6 then some (t + expirySecs m.expiry s) else none
        | d, _ => d,
      store := u.store.map fun x => { x with at_ := some (x.at_.getD t) } }) s

/-! ## Activation and discard (R527–R530) -/

/-- The conditions of R528 but the Hall Pass. -/
def activationReady (s : State) : Bool := s.upd.st == 6 && s.sec.intent.isNone && !idActive 0xC06 s

/-- The end of the last firmware component of a bunch; 0 without firmware. -/
def firmwareEnd (b : List Byte) : Nat := ((comps b).filter isFirmware).foldl (fun a c => Nat.max a (c.off + c.size)) 0

/-- The copy intent is written and Bank S is ACTIVATED (R530). -/
def writeIntent (s : State) : State :=
  let b0 := memRead s.upd.bankS 0 4096
  let b := memRead s.upd.bankS 0 (leAt b0 8 4)
  let i : CopyIntent :=
    { bunch := leAt b 0xC 4, hash := Config.sha256 b, blocks := blocks64 (firmwareEnd b), lerul := (compOf b 0x10).isSome,
      recovery := match compOf b 0x20 with | some c => blocks64 c.length | none => 0 }
  bankState 7 (updUpd (fun u => { u with intent := some i, marked := 0, markedRec := 0 }) s)

/-- AUTO of the bunch in Bank S (Table 21-3). -/
def bunchAuto (s : State) : Bool := (memByte s.upd.bankS 0x16).toNat % 2 == 1

/-- UPD_DISCARD: Bank S returns to EMPTY from any state but SESSION; false where it is one (R536). -/
def updDiscard (s : State) : Bool × State :=
  if s.upd.st = 1 then (false, s)
  else if s.upd.st = 0 then (true, s)
  else (true, discardBunch 8 s)

/-- UPD_BITMAP_SEL: a write latches the bitmap word (Table 21-10). -/
def bitmapSelect (v : Word) (s : State) : State :=
  let k := fld v 0 7
  let w := leNat ((List.range 4).map fun j => bitmapByte s.upd (4 * k + j))
  (s.putNat Ix.UPD_BITMAP_SEL k).putNat Ix.UPD_BITMAP_WORD w

end Sys2Proof.Machine
end

