-- ==== Sys2Proof/Machine/Handover.lean ====
section
/-!
DEFINITION. The hand-over of sink values to their services (R162, Table 7-8), which lesson ticks and mode transitions use.
-/
namespace Sys2Proof.Machine

/-- A bridge by number. -/
def motOf (n : Nat) : Mot := ⟨n % 2, Nat.mod_lt _ (by decide)⟩

/-- A string by number. -/
def strOf (n : Nat) : Str := ⟨n % 4, Nat.mod_lt _ (by decide)⟩

/-- A TX sink hands a value to CAN, LIN or the fabric (Table 7-8). -/
def handTx (p0 : Nat) (v : Word) (s : State) : State :=
  match nbits p0 0 8 with
  | 0 => handCan (p0 / 256) v s
  | 1 => handLin (p0 / 256) v s
  | 2 => handFab (p0 / 256) v s
  | _ => s

/-- A sink hands a value to its service (Table 7-8). -/
def handSink (block : Nat) (v : Word) (s : State) : State :=
  match s.bn.cfg.blocks[block]? with
  | none => s
  | some c =>
    let p0 := c.p0.toNat
    match c.typ with
    | 0x20 => (match chOf (nbits p0 0 8) with | some ch => handOut ch v s | none => s)
    | 0x21 => (match chOf (nbits p0 0 8) with | some ch => handDuty ch v s | none => s)
    | 0x22 => handScene (strOf p0) v s
    | 0x23 => handMotor (motOf p0) (nbits p0 8 8) v s
    | 0x24 => handTx p0 v s
    | _ => s

/-- Hand the values that are new requests, in their order (R162). -/
def handValues (vals : List (Nat × Word)) (s : State) : State :=
  let n := newRequests vals s
  forEach n.2 (fun p t => handSink p.1 p.2 t) n.1

end Sys2Proof.Machine
end

