-- ==== Sys2Proof/Machine/Modes.lean ====
section
/-!
DEFINITION. The mode manager (04_operating_modes.md): the rows of Table 4-2, workshop requests and PARK entry up to its step 4.
-/
namespace Sys2Proof.Machine

/-- The 10 ms instant of FREE at which an evaluation at or after an instant falls (R82). -/
def evalAt (at_ : Nat) (s : State) : State :=
  let t := Nat.max at_ s.now - s.freeBase
  s.reach (s.freeBase + ceilDiv t (msP 10) * msP 10)

/-! ## A transition (R89) -/

/-- A commit event falls due at this instant and has not fired: it comes before a transition (R95). -/
def commitFirst (s : State) : Bool := s.tt.events.any fun e => (match e.spec.act with | .txnCommit => true | _ => false) && e.fires s && decide (e.dueInstant s ≤ s.now)

/-- The state at the evaluation at or after an instant where a row of Table 4-2 is taken there, none where it is not: its trigger and
guard hold, no lower-numbered row passes, no row was taken at this instant, and no commit is still to come (R82, R87, R95). -/
def evalRow (row at_ : Nat) (s : State) : Option State :=
  let s1 := evalAt at_ s
  if rowWins row s1 && !commitFirst s1 then some s1 else none

/-- Power state RUN after DOZE or STANDBY (R8, Table 5-2). -/
def wakeRun (s : State) : State :=
  let s1 := leaveStandby s
  if s1.pw.pw == .doze then { s1 with pw := { s1.pw with pw := .run } } else s1

/-- A transition takes effect (R89): the words, the off values of sinks without the mode (R162), severities (R472), HIRQ cause
3, the root's DOMAIN_STATE (R413), RUN, the channels sampled and the touch frames spaced as the mode asks (R181, R281). -/
def changeMode (m : Mode) (row : Nat) (s0 : State) : State :=
  let s := accountWatch (wakeRun s0)
  let s1 := (s.bump Ix.MODE_TRANSITIONS 0 32).putNat Ix.MODE_ENTERED_TIME s.us
  let s2 := { s1 with modes := { s1.modes with mode := m, prev := s.modes.mode, row := row, took := some s.now } }
  let s3 := handValues (offValues m s2) (raiseIrq 3 s2)
  let s4 := forEach (List.finRange 42) ensureSense (sendDomainState (reevaluate s3))
  if framePeriodP s4 = framePeriodP s then s4 else postFrames s4

/-! ## RIDE -/

/-- WATCH to RIDE (row 2): the channels are woken by their need, the tamper reference is released, escalation starts afresh
(R271, R376). -/
def enterRide (s : State) : State := nmRide (imuLeaveWatch (changeMode .ride 2 s))

/-- RIDE_ENTRY (R87 row 2) at an evaluation. -/
def rideEntry (at_ : Nat) (s : State) : State :=
  match evalRow 2 at_ s with
  | some s1 => enterRide s1
  | none => s

/-- RIDE_ENTRY (R87). -/
def execRideEntry (at_ : Nat) (s : State) : Host.Outcome State Fault Refusal := doneFor .pair s fun s => rideEntry at_ s

/-- RIDE_EXIT (R87 row 3): motors decelerate by their off values; degraded operation that is due begins (R471). -/
def rideExit (at_ : Nat) (s : State) : State :=
  match evalRow 3 at_ s with
  | some s1 =>
    let s2 := imuEnterWatch (changeMode .watch 3 s1)
    if s2.flt.degradePending then beginDegraded s2 else s2
  | none => s

/-- RIDE_EXIT (R87). -/
def execRideExit (at_ : Nat) (s : State) : Host.Outcome State Fault Refusal := doneFor .pair s fun s => rideExit at_ s

/-! ## WORKSHOP -/

/-- A request to enter waits for the next evaluation (R90). -/
def wsEnter (r : Requester) (s : State) : State := { s with modes := { s.modes with wsEnter := some r } }

/-- A request to leave waits for the next evaluation (R90). -/
def wsLeave (s : State) : State := { s with modes := { s.modes with wsExit := true } }

/-- `MODE_LAST_REFUSAL` records a request and its reason. -/
def refuseMode (m : Mode) (reason : Nat) (s : State) : State := s.putNat Ix.MODE_LAST_REFUSAL (m.code + reason * 2 ^ 4)

/-- WORKSHOP_ENTRY (R87 row 4): the waiting request is taken or refused; where a lower-numbered row passes at the same evaluation it goes first, and
the request waits for the next one (R82). -/
def workshopEntry (at_ : Nat) (s : State) : State :=
  let s1 := evalAt at_ s
  if !modesRun s1 || commitFirst s1 || [1, 2, 3].any (fun r => rowWins r s1) then s
  else match s1.modes.wsEnter with
    | none => s
    | some r =>
      let s2 := { s1 with modes := { s1.modes with wsEnter := none } }
      let why := workshopRefusal s2
      if why = 0 then
        let s3 := imuLeaveWatch (changeMode .workshop 4 s2)
        { s3 with modes := { s3.modes with wsBy := some r, wsAt := s3.now, wsExit := false } }
      else refuseMode .workshop why { s2 with modes := { s2.modes with wsRefused := some s2.now } }

/-- WORKSHOP_ENTRY (R87). -/
def execWorkshopEntry (at_ : Nat) (s : State) : Host.Outcome State Fault Refusal := doneFor .pair s fun s => workshopEntry at_ s

/-- The words that force outputs or test a controller. -/
def forcingWords : List Nat :=
  (List.range 36).map Ix.HS_FORCE ++ (List.range 4).map Ix.LSD_FORCE ++ (List.range 2).map Ix.HB_FORCE
    ++ (List.range 4).map Ix.LED_FORCE ++ (List.range 2).map Ix.MOT_FORCE ++ (List.range 3).map Ix.CAN_TEST

/-- All forcing is released and outputs follow the network; commanded calibrations end; test modes and the staging buffer end
(Table 4-2 row 1, R342, R442). -/
def releaseWorkshop (s : State) : State :=
  let s1 := forEach forcingWords (fun i t => t.put i 0) s
  let s2 : State := { endCalibrations s1 with boot := { s1.boot with staging := [], staged := [] } }
  let s3 := forEach (List.finRange 2) (fun b t => postForce b t) (serveAll s2)
  recompose (List.finRange 4) s3

/-- WORKSHOP_EXIT (R87 row 1). Outside WORKSHOP a waiting request to leave is refused (R90). -/
def workshopExit (at_ : Nat) (s : State) : State :=
  match evalRow 1 at_ s with
  | some s1 =>
    let s2 := { s1 with modes := { s1.modes with wsExit := false, wsBy := none } }
    imuEnterWatch (releaseWorkshop (changeMode .watch 1 s2))
  | none =>
    let s1 := evalAt at_ s
    if modesRun s1 && s1.modes.mode != .workshop && s1.modes.wsExit then
      refuseMode .watch 4 { s1 with modes := { s1.modes with wsExit := false } }
    else s

/-- WORKSHOP_EXIT (R87). -/
def execWorkshopExit (at_ : Nat) (s : State) : Host.Outcome State Fault Refusal := doneFor .pair s fun s => workshopExit at_ s

/-- A requester's request of any kind restarts the workshop's inactivity time where it holds WORKSHOP (Table 4-2 row 1). -/
def noteRequest (r : Requester) (s : State) : State :=
  if s.modes.wsBy == some r then { s with modes := { s.modes with wsAt := s.now } } else s

/-- A requester ceases to exist: its transaction is rolled back with cause 0x2, and the workshop it holds ends at the next
evaluation (R79, Table 4-2 row 1). -/
def requesterGone (r : Requester) (s : State) : State :=
  let s1 := rollBackOf r 2 s
  if s1.modes.wsBy == some r then { s1 with modes := { s1.modes with wsExit := true } } else s1

/-! ## Staying awake -/

/-- `MODE_HOST_STAY` written (R93). -/
def hostStay (v : Word) (s : State) : State :=
  { s.put Ix.MODE_HOST_STAY (maskWord v 1) with hst := { s.hst with stayAt := if bit v 0 then s.now else s.hst.stayAt } }

/-- HOST_STAY_EXPIRY (R93): `MODE_HOST_STAY_MAX` after the last write of 1. -/
def hostStayExpiry (s : State) : State :=
  if s.flag Ix.MODE_HOST_STAY 0 then
    (s.reach (s.hst.stayAt + secP (s.num Ix.MODE_HOST_STAY_MAX))).put Ix.MODE_HOST_STAY 0
  else s

/-- HOST_STAY_EXPIRY (R93). -/
def execHostStayExpiry (s : State) : Host.Outcome State Fault Refusal := doneFor .pairQuiet s fun s => hostStayExpiry s

/-- MEMBER_ROOT_LINK_LOSS (R92): bit 8 clears once the link to the root has been lost for `MODE_IGN_OFF_DWELL`. -/
def rootLinkLoss (at_ : Nat) (s : State) : State :=
  let s1 := s.reach at_
  if isMember s && !rootLinked s && dwellOver s.dwell.unlinked 0 (msP (s.num Ix.MODE_IGN_OFF_DWELL)) s1 then
    { s1 with modes := { s1.modes with rootAwake := false } }
  else s

/-- MEMBER_ROOT_LINK_LOSS (R92). -/
def execMemberRootLinkLoss (at_ : Nat) (s : State) : Host.Outcome State Fault Refusal :=
  doneFor .pairQuiet s fun s => rootLinkLoss at_ s

/-! ## PARK entry (R91, R96, R97) -/

/-- PARK_ENTRY (R87 row 5, R91 steps 1 and 2); a waiting or refused workshop request comes first. -/
def parkEntry (at_ : Nat) (s : State) : State :=
  match evalRow 5 at_ s with
  | some s1 =>
    let s2 := if s1.txn.st == .opened then rollBack 9 4 s1 else s1
    sendDomainState { s2 with modes := { s2.modes with entering := some s2.now, announced := isDomainRoot s2 } }
  | none => s

/-- PARK_ENTRY (R91). -/
def execParkEntry (at_ : Nat) (s : State) : Host.Outcome State Fault Refusal := doneFor .pair s fun s => parkEntry at_ s

/-- The wake source is configured in its chapter (R97). -/
def sourceConfigured (code : Nat) (s : State) : Bool :=
  match code with
  | 2 => (List.finRange 32).any fun n => swUsed n s && s.flag Ix.IN_SW_PARK_MASK n.val
  | 3 => s.fld Ix.TCH_WAKE_CFG 0 2 != 0
  | 4 => selWake 0 s
  | 5 => selWake 1 s
  | _ => true

/-- PARK_ENTRY_CANCEL (R96, R97): a stand-in of a wake source fires before step 4. Source 0 fires at its alarm, counted from
row 5; source 1 cannot fire. The root's members learn that it stays awake (R413). -/
def parkCancel (at_ code : Nat) (s : State) : State :=
  match s.modes.entering with
  | none => s
  | some t0 =>
    let s1 := s.reach (if code = 0 then t0 + secP (s.num Ix.PWR_RTC_WAKE) else at_)
    if code ≠ 1 ∧ code < 7 ∧ sourceConfigured code s1 then
      let s2 := parkSourceFires code s1
      if s2.modes.entering.isNone then sendDomainState s2 else s2
    else s1

/-- PARK_ENTRY_CANCEL (R96). -/
def execParkEntryCancel (at_ : Nat) (code : Fin 8) (s : State) : Host.Outcome State Fault Refusal :=
  doneFor .pairQuiet s fun s => parkCancel at_ code.val s

end Sys2Proof.Machine
end

