-- ==== Sys2Proof/Machine/Power.lean ====
section
/-!
DEFINITION. The power manager and the park engine (05_power_domains.md): DOZE, STANDBY, step 4 of PARK entry, the wake order,
escalation, brown-out and the loss of AO.
-/
namespace Sys2Proof.Machine

/-! ## DOZE and STANDBY (R103–R106) -/

/-- A step of the power state. -/
def setPower (p : Power) (s : State) : State := { s with pw := { s.pw with pw := p } }

/-- DOZE_ENTRY (R103, Table 5-2): in RIDE or WORKSHOP. -/
def dozeEntry (s : State) : State :=
  if s.pw.pw == .run && s.started && (s.modes.mode == .ride || s.modes.mode == .workshop) then setPower .doze s else s

/-- DOZE_ENTRY (R103). -/
def execDozeEntry (s : State) : Host.Outcome State Fault Refusal := doneFor .pairQuiet s fun s => dozeEntry s

/-- DOZE_EXIT (R103). -/
def execDozeExit (s : State) : Host.Outcome State Fault Refusal :=
  doneFor .pairQuiet s fun s => if s.pw.pw == .doze then setPower .run s else s

/-- A Timetable event is due within `PWR_STBY_MIN_GAP`; every event of a running phase clock counts as due (R147). -/
def eventSoon (s : State) : Bool :=
  s.tt.events.any fun e =>
    if e.spec.clock = 8 then decide (e.due ≤ s.now + msP (s.num Ix.PWR_STBY_MIN_GAP)) else (s.tt.clocks[pcOf e.spec.clock]).runs

/-- A stage is active: PWM, low side, H-bridge, string or bridge (Table 5-4). -/
def stageActive (s : State) : Bool :=
  ((List.finRange 42).any fun c =>
      let x := s.chans[c]
      (wantsPwm c s || decide (36 ≤ c.val)) && (x.drive != 0 || x.st == .on || x.st == .inrush))
    || ((List.finRange 4).any fun t => s.led.strs[t].st == .lit)
    || ((List.finRange 2).any fun b => (match s.mot.bridges[b].st with | .off | .latched | .dropped | .tripped => false | _ => true)
      || (match s.mot.brushed[b].st with | .off | .latched | .dropped | .tripped => false | _ => true))

/-- A RUN hold of Table 5-4 applies. -/
def runHold (s : State) : Bool :=
  eventSoon s || stageActive s || isCharging s.chg.st || busAwake s || !(upPorts s).isEmpty
    || !s.hst.queue.isEmpty || !s.hst.replies.isEmpty || s.txn.st != .idle || flashPending s

/-- Ports without power (Table 5-1): no link, training or loop stays. -/
def portsOff (s : State) : State :=
  { s with fab := { s.fab with ports := s.fab.ports.map fun x => { PortS.reset with st := if x.st == .disabled then .disabled else .down } } }

/-- STANDBY_ENTRY (R104): WATCH without a hold; LEAVE has nothing to go to, as no link is up (R388). FAB goes off (Table 5-1). -/
def standbyEntry (s : State) : State :=
  if s.pw.pw == .run && pairModes s && s.modes.entering.isNone && s.modes.mode == .watch && !runHold s then
    let s1 := portsOff (setPower .standby (accountWatch s))
    { s1 with tt := { s1.tt with clocks := s1.tt.clocks.map fun c => c.freeze s1.now } }
  else s

/-- STANDBY_ENTRY (R104). -/
def execStandbyEntry (s : State) : Host.Outcome State Fault Refusal := doneFor .pairQuiet s fun s => standbyEntry s

/-- The earliest due instant of a FREE event. -/
def nextDue (s : State) : Option Nat :=
  s.tt.events.foldl (fun a e =>
    if e.spec.clock = 8 then (match a with | some t => some (Nat.min t e.due) | none => some e.due) else a) none

/-- STANDBY_EXIT_SCHEDULED (R105): 200 µs before the earliest due event. -/
def standbyScheduled (s : State) : State :=
  if s.pw.pw == .standby then
    match nextDue s with
    | some t => leaveStandby (s.reach (t - usP 200))
    | none => s
  else s

/-- STANDBY_EXIT_SCHEDULED (R105). -/
def execStandbyExitScheduled (s : State) : Host.Outcome State Fault Refusal := doneFor .pairQuiet s fun s => standbyScheduled s

/-- STANDBY_EXIT_HOLD (R105, R106): a hold started, or a protection trip. -/
def execStandbyExitHold (at_ : Nat) (s : State) : Host.Outcome State Fault Refusal :=
  doneFor .pairQuiet s fun s => if s.pw.pw == .standby then leaveStandby (s.reach at_) else s

/-! ## What loses power -/

/-- Every output is off, and what CORE, PER, PWR, MOT and FAB hold while they run is gone; offsets, calibration records and
what other domains or memories keep stays. -/
def coreDown (s : State) : State :=
  let led := { Lighting.reset with scenes := s.led.scenes,
                                   strs := s.led.strs.map fun x => { StringS.reset with offset := x.offset, calRun := x.calRun } }
  let bridges := s.mot.bridges.map fun x => { Bridge.reset with offset := x.offset, calRun := x.calRun, ident := x.ident }
  { portsOff s with
    started := false
    procs := { Procs.reset with stops := s.procs.stops }
    txn := Txn.reset
    tt := { s.tt with events := [], waiting := [], series := [] }
    bn := { s.bn with running := false }
    chans := s.chans.map fun x => { Channel.reset with offset := x.offset, calRun := x.calRun }
    locks := Vector.replicate 2 LockS.reset
    led := led
    mot := { Motor.reset with bridges := bridges }
    hst := HostPort.reset
    uds := Uds.reset
    boot := { s.boot with keyPower := false } }

/-! ## Step 4 of PARK entry (R91, R107, R113) -/

/-- The switch input that `PWR_DEEP_WAKE` names (R108). -/
def deepSwitch (s : State) : SwitchNo := ⟨s.fld Ix.PWR_DEEP_WAKE 8 5 % 32, Nat.mod_lt _ (by decide)⟩

/-- The sources armed for a park state (Table 5-5, R107): the DEEP switch input is a BAT-type input in use (R251, R255, R256). -/
def armedFor (deep : Bool) (s : State) : List Nat :=
  let can := (List.finRange 3).flatMap fun c => if (s.nm.can[c]).unarmed then [] else nmSources c s
  let input := s.num Ix.PWR_DEEP_WAKE % 16
  let switch := deepSwitch s
  (if s.num Ix.PWR_RTC_WAKE = 0 then [] else [0]) ++ [1]
    ++ (if deep then (if (input = 1 ∧ swUsed switch s ∧ swBat switch s) ∨ input = 4 then [7] else can.filter (· == 7))
      else (([2, 3, 6].filter fun k => s.flag Ix.PWR_WAKE_ENABLE k && sourceConfigured k s) ++ can.filter (· != 7)))

/-- A member reports PARK to its root (R92, R413). -/
def reportPark (s : State) : State :=
  match s.fab.resolved.find? fun r => r.ordinal == 0 with
  | some r =>
    if isMember s then sendMessage 0x1E r.addr (domainState { s with modes := { s.modes with announced := true } }) s else s
  | none => s

/-- The retention list (Table 5-7): bytes of each block, and whether its tier is DEEP. -/
def retBlocks : List (Nat × Bool) :=
  [(64, true), (32, true), (16, true), (1024, true), (512, true), (128, true), (256, true), (320, true), (32, true), (2048, false),
   (1024, false), (256, false), (256, false), (512, false), (64, false), (4096, false), (8192, false), (32768, false)]

/-- The retention list is saved, its header last (R113): what each block holds stays in its consumer's state, and the block map
says that it is held; a park straight into DEEP keeps the DEEP blocks alone (R114). -/
def retentionSave (deep : Bool) (s : State) : State :=
  let map := retBlocks.map fun b => !deep || b.2
  let head : RetHeader := { valid := true, sha := Config.sha256 s.boot.image, map := map, mode := s.modes.mode, row := s.modes.row }
  { s with boot := { s.boot with retained := some head } }

/-- Step 4: the log and the Report Card are written, the sources armed, the list saved, the park state entered. -/
def enterPark (s0 : State) : State :=
  let s := nmPark (fabLeave (reportPark s0))
  let deep := s.flag Ix.PWR_PARK_STATE 0
  let closed := bitsClosed s
  let s1 := reportCardFlush (writeLog (accountWatch (leaveStandby s)))
  let s2 := (s1.bump Ix.MODE_TRANSITIONS 0 32).putNat Ix.MODE_ENTERED_TIME s1.us
  let s3 := reevaluate { s2 with modes := { s2.modes with mode := .park, prev := .watch, row := 5, entering := none } }
  let s4 := retentionSave deep (gestureStart (chgPark (coreDown s3)))
  { s4 with
    inp := { s4.inp with reference := closed, wake := 0 }
    share := { s4.share with level := 0 }
    procs := { s4.procs with park := if deep then .off else .running }
    pw := { s4.pw with pw := if deep then .deep else .retain, armed := armedFor deep s4, cause := none, waking := none,
                       parked := some (if deep then .deep else .retain), escalated := false, parkRtc := s4.rtcSecs,
                       parkAt := s4.now, failTotal := 0, abortTotal := 0, wasLow := false } }
where
  /-- The confirmed states at PARK entry (R254). -/
  bitsClosed (s : State) : Nat := packBits ((List.finRange 32).map fun n => (s.inp.sw[n]).closed)

/-- PARK_WAIT_END (R91): step 3 takes no time but at a root, which waits until every member has reported or 2 s have passed. -/
def parkWaitEnd (s : State) : State :=
  match s.modes.entering with
  | none => s
  | some t0 => enterPark (if isDomainRoot s && !s.modes.membersAwake.isEmpty then s.reach (t0 + secP 2) else s)

/-- PARK_WAIT_END (R91). -/
def execParkWaitEnd (s : State) : Host.Outcome State Fault Refusal := doneFor .pairQuiet s fun s => parkWaitEnd s

/-! ## Wakes (R109–R112, R120) -/

/-- WAKE_SOURCE_FIRE: the RTC alarm falls due; VBATP recovery needs the high dwell after the low one (R109); the DEEP switch input
stays strictly above 3.0 V for 10 ms (R255); another source fires as its chapter says. `least` is the lowest level in 10 mV of the
voltage judged, VBATP or the input, over the `ms` that end. -/
def wakeSource (code at_ least ms : Nat) (s : State) : State :=
  if code = 0 then
    if s.pw.armed.contains 0 then wakeFires 0 (s.reach (s.pw.parkAt + secP (s.num Ix.PWR_RTC_WAKE))) else s
  else if code = 1 then
    let s1 := s.reach at_
    if s.pw.wasLow && decide (s.num Ix.PWR_VBAT_WAKE_HI < least) && decide (1000 * s.fld Ix.PWR_VBAT_DWELL 16 16 ≤ ms) then
      wakeFires 1 s1
    else s1
  else if code = 7 ∧ s.fld Ix.PWR_DEEP_WAKE 0 4 = 1 then
    if 300 < least ∧ 10 ≤ ms then wakeFires 7 (s.reach at_) else s.reach at_
  else wakeFires code (s.reach at_)

/-- WAKE_SOURCE_FIRE (R110). -/
def execWakeSourceFire (code : Fin 8) (at_ least ms : Nat) (s : State) : Host.Outcome State Fault Refusal :=
  doneFor .always s fun s => wakeSource code.val at_ least ms s

/-- The timeouts of W2, W3 and W4 in µs (Table 5-6). -/
def wakeLimits : List Nat := [2000, 5000, 1000]

/-- WAKE_STEP_TIMEOUT (R112): the step after those that gave their signals, W2, W3 or W4, misses its timeout; CORE and PER go off, and
W2 repeats 10 ms later; after the third failure the attempt waits for the backoff. -/
def wakeTimeout (steps : List Nat) (s : State) : State :=
  match s.pw.waking with
  | none => s
  | some w =>
    if w.waiting.isSome || s.pw.brownOut || !(decide (steps.length < 3) && (steps.zip wakeLimits).all fun x => decide (x.1 < x.2)) then s
    else
      let s1 := s.reach (w.from_ + usP (steps.foldl (· + ·) 0 + wakeLimits.getD steps.length 0))
      let s2 : State := { s1 with pw := { s1.pw with failTotal := s1.pw.failTotal + 1 } }
      if w.fails + 1 < 3 then
        { s2 with pw := { s2.pw with waking := some { w with wstep := 2, fails := w.fails + 1, from_ := s2.now + msP 10 } } }
      else { s2 with pw := { s2.pw with waking := some { w with wstep := 2, fails := 0, waiting := some s2.now } } }

/-- WAKE_STEP_TIMEOUT (R112). -/
def execWakeStepTimeout (steps : List Nat) (s : State) : Host.Outcome State Fault Refusal :=
  doneFor .always s fun s => wakeTimeout steps s

/-- WAKE_BACKOFF_EXPIRY (R112): a new set of attempts; the next wait is twice as long, up to 64 s. -/
def wakeBackoff (s : State) : State :=
  match s.pw.waking with
  | none => s
  | some w =>
    match w.waiting with
    | none => s
    | some t =>
      let s1 := s.reach (t + msP w.backoff)
      let w1 : Waking := { w with waiting := none, from_ := s1.now, backoff := Nat.min 64000 (2 * w.backoff) }
      { s1 with pw := { s1.pw with waking := some w1 } }

/-- WAKE_BACKOFF_EXPIRY (R112). -/
def execWakeBackoffExpiry (s : State) : Host.Outcome State Fault Refusal := doneFor .always s fun s => wakeBackoff s

/-! ## Escalation (R116, R117) -/

/-- RETAIN goes over to DEEP: the RETAIN blocks are lost, the DEEP set is armed, the gesture counters go (R117, R300). -/
def escalate (s : State) : State :=
  let keep := fun (r : RetHeader) => { r with map := (List.range 18).map fun k => decide (k < 9) && r.map.getD k false }
  { s with
    boot := { s.boot with retained := s.boot.retained.map keep }
    procs := { s.procs with park := .off }
    tch := { s.tch with gest := Gesture.reset }
    pw := { s.pw with pw := .deep, escalated := true, parked := some .deep, armed := armedFor true s } }

/-- RETAIN_ESCALATION: `most` is the highest VBATP in 10 mV over the `ms` that end; it escalates where that lies strictly below
`PWR_DEEP_VBAT_LO` for the low dwell, or below 4.5 V for 1 s, or RETAIN has lasted `PWR_RETAIN_MAX` (R116). The low dwell also opens
VBATP recovery (R109). -/
def retainEscalation (at_ most ms : Nat) (s : State) : State :=
  if s.pw.pw == .retain || s.pw.pw == .deep then
    let s1 := s.reach at_
    let low := decide (most < s.num Ix.PWR_DEEP_VBAT_LO) && decide (1000 * s.fld Ix.PWR_VBAT_DWELL 0 16 ≤ ms)
    let cell := decide (most < 450) && decide (1000 ≤ ms)
    let long := s.num Ix.PWR_RETAIN_MAX != 0 && decide (s.pw.parkAt + secP (3600 * s.num Ix.PWR_RETAIN_MAX) ≤ s1.now)
    let s2 := { s1 with pw := { s1.pw with wasLow := s1.pw.wasLow || low } }
    if s2.pw.pw == .retain && s2.pw.cause.isNone && (low || cell || long) then escalate s2 else s2
  else s

/-- RETAIN_ESCALATION (R116). -/
def execRetainEscalation (at_ most ms : Nat) (s : State) : Host.Outcome State Fault Refusal :=
  doneFor .always s fun s => retainEscalation at_ most ms s

/-! ## Brown-out and the loss of AO (R118, R119) -/

/-- The controllers and the network management of the buses are off; the terminations stay (R322). -/
def busesDown (s : State) : State :=
  { s with can := { s.can with ctl := s.can.ctl.map fun x => { CanC.reset with term := x.term } },
           lin := { s.lin with ch := Vector.replicate 2 LinC.reset } }

/-- PER is reset (R118): the Timetable, the inputs, the IMU and touch interfaces, the controllers and the network management of the
buses; what AO and the flash hold stays. -/
def perDown (s0 : State) : State :=
  let s := busesDown s0
  { s with
    tt := Timetable.reset
    inp := { Inputs.reset with wake := s.inp.wake, reference := s.inp.reference }
    imu := { Imu.reset with level := s.imu.level }
    tch := { Touch.reset with el := s.tch.el.map (fun x => { Electrode.reset with record := x.record }), gest := s.tch.gest }
    nm := Nm.reset }

/-- The wake order has left W0, which restarts AO from DEEP (Table 5-6). -/
def pastW0 (w : Waking) (s : State) : Bool := decide (w.from_ ≤ s.now + usP 100)

/-- BROWN_OUT by its moment (Table 5-8): in RETAIN or DEEP the next start reports it, from W1 to W5 the attempt is abandoned and
repeats at W2. -/
def brownOut (at_ : Nat) (s0 : State) : State :=
  let s := s0.reach at_
  let noted : State := { s with pw := { s.pw with brownDue := true } }
  match s.pw.pw with
  | .retain | .deep =>
    (match s.pw.waking with
     | some w =>
       if s.pw.brownOut then s
       else if w.waiting.isSome || !pastW0 w s then noted
       else { s with pw := { s.pw with brownOut := true, abortTotal := s.pw.abortTotal + 1, waking := some { w with wstep := 2 } } }
     | none => noted)
  | .off => s
  | .run | .doze | .standby =>
    if s.procs.principal == .off then s
    else
      let s1 := perDown (coreDown { s with modes := { s.modes with entering := none } })
      { s1 with pw := { s1.pw with pw := .run, brownOut := true, brownDue := true } }

/-- BROWN_OUT (R118). -/
def execBrownOut (at_ : Nat) (s : State) : Host.Outcome State Fault Refusal := doneFor .always s fun s => brownOut at_ s

/-- AO loses power: OFF; the RTC is invalid, the retention list gone, the terminations open (R119, R322, R300). -/
def aoLost (s : State) : State :=
  let s1 := (coreDown s).put Ix.TCH_WAKE_STATS 0
  { s1 with
    modes := Modes.reset
    boot := { s1.boot with retained := none }
    can := { s1.can with ctl := Vector.replicate 3 CanC.reset }
    lin := { s1.lin with ch := Vector.replicate 2 LinC.reset }
    tch := { s1.tch with gest := Gesture.reset }
    pw := { PowerS.reset with pw := .off, brownDue := true, rstHeld := s1.pw.rstHeld } }

/-- AO_POWER_LOSS (R119). -/
def execAoPowerLoss (at_ : Nat) (s : State) : Host.Outcome State Fault Refusal := doneFor .always s fun s => aoLost (s.reach at_)

/-! ## The RTC (R482) -/

/-- A permitted write of `PWR_RTC_TIME`: none where it lies below FLOOR; the deadlines that waited for a valid RTC follow (R495,
R522), and what has passed by it ends (R481). -/
def rtcWrite (v : Word) (s : State) : Option State :=
  let t := v.toNat
  if t < s.sec.floor then none
  else
    let s1 : State := { s with pw := { s.pw with rtc := some (t, s.now) } }
    some (credentialsAt t (updRtc t (permitRtc t s1)))

end Sys2Proof.Machine
end

