-- ==== Sys2Proof/Machine/Startup.lean ====
section
/-!
DEFINITION. The start (01, 02, 05, 20, 21): the start-up outline of Table 1-6 with the copy start, the journal recovery, the
recovery image, the key load, the retention restore and the first LESSON_TICK; resets and the processors' reloads.
-/
namespace Sys2Proof.Machine

/-! ## Step 1 (R18, R476, R113) -/

/-- Sequence of the newest log entry in the flash. -/
def flashSeq (s : State) : Nat := match s.flt.flash.getLast? with | some e => (e.getD 1 0).toNat | none => 0

/-- What the collector and the Report Card bring into a start: the flash, the two retention blocks, and the detections made in
PARK (R456). -/
def startFaults (parked : Bool) (f : FaultS) : FaultS :=
  { FaultS.reset with
    dtcs := f.dtcs.map fun d => { d with pending := false }
    buf := f.buf, bufAt := f.bufAt, flash := f.flash, seq := f.seq, lost := f.lost, deferred := if parked then f.deferred else []
    stages := f.stages.map fun g => { g with fresh := true }
    stagesFlash := f.stagesFlash.map fun g => { g with fresh := true }
    cardAt := f.cardAt, eraseA := f.eraseA, eraseS := f.eraseS, eraseData := f.eraseData, reqCtl := f.reqCtl, reqCtlAt := f.reqCtlAt, reqCell := f.reqCell
    reqEl := f.reqEl, degradePending := f.reqCtl, starts := f.starts + 1 }

/-- What network management brings into a start; `woke` is the wake source of the park. -/
def startNm (woke : Option Nat) (deepWake : Nat) (n : Nm) : Nm :=
  { Nm.reset with
    offenders := n.offenders
    can := Vector.ofFn fun c : Can =>
      let x := n.can[c]
      let mine := woke == some (4 + c.val) || (woke == some 7 && deepWake == 2 + c.val)
      { NmC.reset with
        frozen := x.frozen, falseAt := x.falseAt, level := x.level, parkCount := x.parkCount
        doubtful := mine && x.doubtful, busWoken := mine && x.busWoken, wakeKind := if mine then x.wakeKind else 0
        wakeFrame := if mine then x.wakeFrame else none } }

/-- What the key store brings into a start: the valid copy of every flash item; challenges, privileges and the unlock are gone. -/
def startSec (rot : List (KeyItem × Bool)) (c : Sec) : Sec :=
  { rot.foldl rotItem c with
    recovered := false, code := [0, 0, 0, 0], ownerLast := 0, adopted := false, refused := false
    parties := Vector.replicate 5 Party.reset, acmds := List.replicate 16 (0, 0, 0), unlocked := false, dbgMem := [], tdo := []
    lands := [], sinceSeed := 0 }

/-- What updates bring into a start; an open image session is suspended (R438). -/
def startUpd (now : Nat) (u : Upd) : Upd :=
  { u with
    session := u.session.map fun x => if x.st = 1 then { x with st := 2, at_ := now } else x
    copied := 0, resumed := false, recovering := false, dead := false, asm := [], events := []
    marked := if u.intent.isSome then u.marked else 0, markedRec := if u.intent.isSome then u.markedRec else 0 }

/-- Words that describe the last park, AO's counters or the flash, before the configuration comes. -/
def startWords (o : State) : List (Nat × Word) :=
  let bus := match o.pw.cause with | some k => decide (4 ≤ k) | none => false
  o.words.filter fun p =>
    p.1 == Ix.RC_REASON || p.1 == Ix.CHG_FAULTS || p.1 == Ix.TCH_WAKE_STATS || (bus && (p.1 == Ix.NM_WAKE_CAUSE || p.1 == Ix.NM_WAKE_ID))

/-- A clock brings its estimator's rate (R591). -/
def savedClock (c : PhaseClock) : PhaseClock :=
  { PhaseClock.reset with seed := if c.w == 0 then c.seed else some c.w }

/-- The key's bytes after `n` of the P + 1 page writes of R50: MAGIC is 0 until the last. -/
def keyAfter (n : Nat) (img old : List Byte) : List Byte :=
  let w :=
    if n = 0 then []
    else if n ≤ ceilDiv img.length 128 then List.replicate 4 0 ++ (img.take (128 * n)).drop 4
    else img
  w ++ old.drop w.length

/-- The key as a start finds it: a write-back that ran has made the page writes it had made (R50, 02 "When power fails during
write-back"). -/
def cutKey (k : StartInput) (o : State) : List Byte :=
  match o.boot.writing with | some b => keyAfter k.pages b o.boot.key | none => o.boot.key

/-- The machine at the release of power-on reset: everything volatile is at its reset value, the flash, the key and what the
retention list may restore are kept, and the header is consumed (R113). -/
def startBase (k : StartInput) (o : State) : State :=
  let fit := k.swap.getD (o.boot.keyBlocks, cutKey k o)
  let held := match o.boot.retained with | some h => if h.valid then some { h with valid := false } else none | none => none
  { State.reset with
    now := o.now, freeBase := o.now, free := o.free, pending := o.pending, words := startWords o
    pw := { PowerS.reset with rtc := o.pw.rtc, rstHeld := o.pw.rstHeld, since := o.now }
    flt := startFaults (o.modes.mode == .park) o.flt
    tt := { Timetable.reset with clocks := o.tt.clocks.map savedClock }
    bn := { Network.reset with sigs := o.bn.sigs }
    chans := o.chans.map fun x => { Channel.reset with offset := x.offset, wentOff := o.now, calAt := o.now }
    led := { Lighting.reset with strs := o.led.strs.map fun x => { StringS.reset with offset := x.offset, wentDark := o.now, calAt := o.now } }
    mot := { Motor.reset with bridges := o.mot.bridges.map fun x => { Bridge.reset with offset := x.offset, ident := x.ident } }
    inp := { Inputs.reset with wake := o.inp.wake, reference := o.inp.reference }
    imu := { Imu.reset with zero := o.imu.zero, zeroValid := o.imu.zeroValid, level := o.imu.level }
    tch := { Touch.reset with
      el := o.tch.el.map fun x =>
        { Electrode.reset with baseSelf := x.baseSelf, baseMut := x.baseMut, record := x.record, drift := x.drift }
      gr := o.tch.gr.map fun x => { Group.reset with baseline := x.baseline }
      gest := o.tch.gest, wokenByTouch := o.pw.cause == some 3 }
    chg := { Charger.reset with
      present := o.chg.present, cutOff := o.chg.cutOff, aoOnCell := o.chg.aoOnCell, railUp := o.chg.railUp
      svinPresent := o.chg.svinPresent, bkoCut := o.chg.bkoCut, soc := o.chg.soc, socFrac := o.chg.socFrac
      socValid := o.chg.socValid, learned := o.chg.learned, cellMv := o.chg.cellMv, cellMa := o.chg.cellMa
      cellAt := o.chg.cellAt }
    can := { CanS.reset with ctl := o.can.ctl.map fun x => { CanC.reset with st := .config, term := x.term } }
    nm := startNm o.pw.cause (o.num Ix.PWR_DEEP_WAKE % 16) o.nm
    fab := { Fabric.reset with member := o.fab.member, retained := o.fab.retained, epoch := o.fab.epoch, records := o.fab.records }
    sec := startSec k.rot o.sec
    upd := startUpd o.now o.upd
    boot := { Boot.reset with keyBlocks := fit.1, key := fit.2, mirror := o.boot.mirror, retained := held, causes := 0 } }

/-- `TCH_WAKE_STATS` of the park that ends (R300): water resets, abandoned gestures, baseline deferrals, gestures recognised. -/
def wakeStats (g : Gesture) : Nat := g.waters + g.abandoned * 2 ^ 8 + g.deferrals * 2 ^ 16 + g.recognised * 2 ^ 24

/-- The words of the wake record and the causes of the start (R110, R111, Table 5-9). -/
def startRecord (mask : Nat) (o s : State) : State :=
  let s1 := s.putNat Ix.SYS_START_CAUSE (mask ||| o.boot.causes)
  match o.pw.cause, o.pw.parked with
  | some c, some p =>
    let secs := match o.pw.rtc with
      | some r => r.1 + (o.pw.wakeAt - r.2) / secP 1 - o.pw.parkRtc
      | none => (o.pw.wakeAt - o.pw.parkAt) / secP 1
    let s2 := s1.putNat Ix.PWR_LAST_PARK (p.code + b2n o.pw.escalated * 8 + c * 2 ^ 8)
    let s3 := s2.putNat Ix.PWR_PARK_TIME secs
    let s4 := s3.putNat Ix.PWR_WAKE_STATS (Nat.min 255 o.pw.failTotal + Nat.min 255 o.pw.abortTotal * 2 ^ 8)
    let s5 := s4.putNat Ix.PWR_WAKE_TIME ((o.now - o.pw.wakeAt) / usP 1)
    let s6 := s5.putNat Ix.TCH_WAKE_STATS (wakeStats o.tch.gest)
    onlyIf (decide (0 < o.pw.failTotal)) (report 0x001 0) s6
  | _, _ => s1

/-- Step 1: the ROM runs; the DRBG is seeded under the entropy tests (R477, R505). -/
def step1 (mask : Nat) (k : StartInput) (o : State) : State :=
  let s := entropyTest k.entropy (startRecord mask o (startBase k o))
  { onlyIf o.pw.brownDue (report 0x002 0) s with procs := { Procs.reset with principal := .running } }

/-! ## Life-cycle transitions (R498–R501) -/

/-- Blow up to `n` fuses of the groups below a target, in order (J2); already blown fuses cost nothing. -/
def blowFuses (target n : Nat) (gs : List Nat) : List Nat :=
  let todo := ((List.range target).flatMap fun g => (List.range 8).map fun b => (g, b)).filter fun p =>
    nbits (gs.getD p.1 0) p.2 1 == 0
  (todo.take n).foldl (fun a p => modifyAt a p.1 fun v => v ||| 2 ^ p.2) gs

/-- The side effects of a transition into a state (Table 20-9): idempotent, from the intent's values alone. -/
def sideEffects (i : Intent) (s : State) : State :=
  match i.target with
  | 1 =>
    let d := Config.deriveKey i.seed 1; let t := Config.deriveKey i.seed 2
    updSec (fun c => { c with device := some d, transport := some t, tdo := Config.publicKey d ++ t }) s
  | 2 => updSec (fun c => { c with
      unlocked := false, adoption := if i.spare then .absent else c.adoption
      older := { c.older with adoption := if i.spare then .absent else c.older.adoption } }) s
  | 3 => updSec (fun c => { c with
      keys := List.replicate 9 KeySlot.reset, adoption := .absent, owner := none
      older := { KeyItems.reset with signers := c.older.signers, revokedVer := c.older.revokedVer, revoked := c.older.revoked
                                     floor := c.older.floor } }) s
  | _ =>
    let s1 := updSec (fun c => { c with
      wiped := true, device := none, transport := none, signers := List.replicate 8 none, keys := List.replicate 9 KeySlot.reset,
      adoption := .absent, owner := none, revokedVer := 0, revoked := [], older := { KeyItems.reset with floor := c.older.floor } }) s
    let s2 : State := { s1 with boot := { s1.boot with mirror := Vector.replicate 2 none, mirrorDue := none } }
    updUpd (fun u => { u with store := [], bankS := [] }) (bankEmpty s2)

/-- `LC_LAST` (Table 20-14): kind 1 done, 2 rolled back, 3 rolled forward. -/
def lcRecord (kind : Nat) (i : Intent) (s : State) : State :=
  updSec (fun c => { c with intent := none, lcLast := i.src + i.target * 8 + kind * 64 + i.seq % 2 ^ 24 * 2 ^ 8 }) s

/-- J1 to J4 of Table 20-10; with `cut`, the power fails after that many fuses of J2: none where it did. -/
def transition (i0 : Intent) (cut : Option Nat) (s : State) : Bool × State :=
  let i := { i0 with seq := s.sec.lcSeq + 1 }
  let s1 := updSec (fun c => { c with intent := some i, lcSeq := i.seq }) s
  match cut with
  | some n => (false, updSec (fun c => { c with fuses := blowFuses i.target n c.fuses }) s1)
  | none =>
    (true, lcRecord 1 i (sideEffects i (updSec (fun c => { c with fuses := blowFuses i.target 32 c.fuses }) s1)))

/-- Step 3: an intent without its completion is rolled back or forward (R501). -/
def recoverLc (s : State) : State :=
  match s.sec.intent with
  | none => s
  | some i =>
    let s1 := updSec (fun c => { c with recovered := true }) (secReport 0xC04 (if i.requester = 0 then 2 else i.requester) s)
    if fuseGroups s < i.target then lcRecord 2 i s1
    else
      let s2 := lcRecord 3 i (sideEffects i (updSec (fun c => { c with fuses := blowFuses i.target 32 c.fuses }) s1))
      s2.latch Ix.SYS_START_CAUSE 4

/-! ## Steps 2 and 3: Bank A, the copy start, the recovery image (R477, R530–R533) -/

/-- A component verifies: HASH, signature, and where asked SEC_VER against the counter (R510). -/
def compErr (counter : Option Nat) (c : List Byte) : Option Nat :=
  if !compHashOk c then some 2
  else if !compSigOk c then some 3
  else match counter with | some n => if compSec c < n then some 4 else none | none => none

/-- Every component of Bank A is valid; the firmware as delivered is (assumption log 21). -/
def bankAOk (s : State) : Bool :=
  !s.upd.mixed &&
    (match s.upd.bankA with
     | none => true
     | some b => ((comps b).filter isFirmware).all fun c => (compErr (some s.upd.counter) (compBytes b c)).isNone)

/-- The recovery image runs, or nothing does (R533). -/
def runRecovery (s : State) : State :=
  let ver := match s.upd.recovery with | some c => toWord (leAt c 0x0C 4) | none => Config.recoveryVersion
  let ok := match s.upd.recovery with | some c => (compErr none c).isNone | none => true
  if ok then report 0xD04 0 ((updUpd (fun u => { u with recovering := true }) s).put Ix.SYS_FW_VERSION ver)
  else { updUpd (fun u => { u with dead := true }) s with procs := Procs.reset }

/-- Step 2 on Bank A. -/
def verifyBankA (s : State) : State := if bankAOk s then s.put Ix.SYS_FW_VERSION (bankAVersion s) else runRecovery s

/-- C1 (Table 21-9): the first component of Bank S that does not verify. -/
def copyCheck (b : List Byte) (s : State) : Option Nat :=
  ((comps b).filter (·.typ != 0x10)).findSome? fun c =>
    compErr (if isFirmware c then some s.upd.counter else none) (compBytes b c)

/-- The capacity that the acknowledging blocks give (R29). -/
def capacityOf (blocks : Nat) : Nat := if 4 ≤ blocks then 262144 else if 2 ≤ blocks then 131072 else 65536 * blocks

/-- C5 and C6; the power fails after `left` more recovery blocks where that is given. -/
def copyRecovery (i : CopyIntent) (b : List Byte) (left : Option Nat) (s : State) : Except State State :=
  let rest := i.recovery - s.upd.markedRec
  match left with
  | some n => if n < rest then .error (updUpd (fun u => { u with markedRec := u.markedRec + n }) s) else .ok (finish rest)
  | none => .ok (finish rest)
where
  /-- C6. -/
  finish (rest : Nat) : State :=
    let s2 := updUpd (fun u => { u with recovery := if i.recovery = 0 then u.recovery else compOf b 0x20, copied := u.copied + rest }) s
    let s3 := bankFree (updLast 9 s2)
    updUpd (fun u => { u with advance := decide (0 < i.blocks), marked := i.blocks + i.recovery }) s3

/-- C4 to C6: the write-back of the key image under R50, with the power failing after `left` more page writes or blocks where that is
given. A write-back that fails, at a page or at the final signature, repeats at the next start. -/
def copyTail (k : StartInput) (i : CopyIntent) (b : List Byte) (left : Option Nat) (s : State) : Except State State :=
  if !i.lerul then copyRecovery i b left s
  else
    let img := (compOf b 0x10).getD []
    let total := ceilDiv img.length 128 + 1
    let written := fun (n : Nat) => { s with boot := { s.boot with key := keyAfter n img s.boot.key } }
    if capacityOf s.boot.keyBlocks < img.length then .ok s
    else
      let cut := match left with | some n => decide (n < Nat.min total (k.keyFail.getD total)) | none => false
      if cut then .error (written (left.getD 0))
      else match k.keyFail with
        | some n => if n < total then .ok (written n) else verified img total written
        | none => verified img total written
where
  /-- Step 5 of R50. -/
  verified (img : List Byte) (total : Nat) (written : Nat → State) : Except State State :=
    if (signatureErr img s).isSome then .ok (written total) else copyRecovery i b (left.map (· - total)) (written total)

/-- The copy start (Table 21-9, R530–R532): an error is a failure of the power, with the progress it leaves. -/
def copyStart (k : StartInput) (i : CopyIntent) (s0 : State) : Except State State :=
  let b := memRead s0.upd.bankS 0 (leAt (memRead s0.upd.bankS 0 16) 8 4)
  let resumed := decide (0 < s0.upd.marked)
  match copyCheck b s0 with
  | some c => .ok (if resumed then runRecovery s0 else verifyBankA (bankFree (updLast c s0)))
  | none =>
    let s2 := updUpd (fun u => { u with resumed := resumed }) (onlyIf resumed (report 0xD03 0) s0)
    let first := s2.upd.marked = 0 ∧ 0 < i.blocks ∧ k.cut ≠ some 0
    let s : State := { s2 with flt := { s2.flt with eraseA := s2.flt.eraseA + (if first then 1 else 0) } }
    let rest := i.blocks - s.upd.marked
    let early := match k.cut with | some n => decide (n < rest) | none => false
    if early then .error (updUpd (fun u => { u with marked := u.marked + k.cut.getD 0, mixed := decide (0 < u.marked + k.cut.getD 0) }) s)
    else
      let copy := fun (u : Upd) => { u with
        marked := i.blocks, copied := rest, mixed := false,
        bankA := if i.blocks = 0 then u.bankA else some (memRead u.bankS 0 (65536 * i.blocks)) }
      let s1 := updUpd copy s
      let s2 := verifyBankA s1
      if s2.upd.recovering || s2.upd.dead then .ok s2 else copyTail k i b (k.cut.map (· - rest)) s2

/-- Steps 2 and 3, or the copy start in their place. -/
def prepare (k : StartInput) (s : State) : Except State State :=
  match s.upd.intent with
  | some i => copyStart k i s
  | none => .ok (recoverLc (verifyBankA s))

/-! ## Step 5 (02) -/

/-- Transfer errors in what is read (R44): of a key whose header fails 5c the header alone. The third ends the load. -/
def transferErrs (k : StartInput) (s : State) : List Nat :=
  let len := if (headerErr s.boot.key s.boot.capacity).isNone then imgLength s.boot.key else 96
  k.errors.filter fun b => decide (65536 * b < len)

/-- The checks of Table 2-11 on an image in SRAM from 5e on, with its binding. -/
def bodyErr (b : List Byte) (s : State) : Option LoadErr :=
  layoutErr b <|> signatureErr b s
    <|> need (bindingOf (imgVehicle b) (imgMaker b) s != .foreign) (loadErr 4 0xB 0x18)
    <|> contentErr b (s.word Ix.SYS_FW_VERSION).toNat { s with words := [] }

/-- The image on the key. -/
def keyImage (s : State) : List Byte := s.boot.key.take (imgLength s.boot.key)

/-- The load's first failing check (R595), none for KEY_OK: a third transfer error ends the read before what it would have given is
checked. -/
def keyErr (k : StartInput) (s : State) : Option LoadErr :=
  if s.upd.recovering || s.life == .scrapped then some (loadErr 6 0 0)
  else if s.boot.keyBlocks = 0 ∨ 3 ≤ k.nacks then some (loadErr 1 1 0)
  else
    (match (transferErrs k s)[2]? with | some b => some (loadErr 3 2 (65536 * b)) | none => none)
      <|> headerErr s.boot.key s.boot.capacity
      <|> bodyErr (keyImage s) s

/-- A check of the binding was reached: by every outcome but those before it. -/
def bindingReached (e : Option LoadErr) : Bool := match e with | none => true | some x => x.outcome == 4 || x.outcome == 5

/-- The words of the holding configuration (R48): CAN0 classical, UDS on 0x6F0 and 0x6F8. -/
def holdingWords (s : State) : State :=
  (((s.put (Ix.CAN_CFG 0) 1).put (Ix.DIAG_CAN 0) 1).put (Ix.DIAG_PHYS 0) 0x6F0).put (Ix.DIAG_RESP 0) 0x6F8

/-- The configuration in force: an image, or holding (R43, R48). -/
def intoForce (img : Option (List Byte)) (s : State) : State :=
  match img with
  | some b => withImage b { s with boot := { s.boot with holding := false, image := b } }
  | none => holdingWords { s with boot := { s.boot with holding := true, image := [] } }

/-- The adoption rules after the binding check (R493–R495): a permit that does not name the vehicle ends; adopting consumes it;
a foreign image is refused. -/
def bindAdopt (e : Option LoadErr) (b : List Byte) (s : State) : State :=
  let v := imgVehicle b
  if !bindingReached e then s
  else
    let how := bindingOf v (imgMaker b) s
    let s1 := if s.sec.permit.isSome && !permitNames v s then updSec (fun c => { c with permit := none }) s else s
    if e.isNone && how == .adopt then
      writeStore (fun c => { c with adoption := .present v (imgMaker b), permit := none, adopted := true }) s1
    else if how == .foreign then secReport 0xC03 0 (updSec (fun c => { c with refused := true }) s1)
    else s1

/-- The mirror write that a KEY_OK load makes due (R47). -/
def mirrorDueFor (b : List Byte) (s : State) : Option (Fin 2 × List Byte) :=
  match activeMirror s, mirrorImage s with
  | some n, some m => if Config.sha256 m = Config.sha256 b then none else some (if n = 0 then 1 else 0, b)
  | _, _ => some (0, b)

/-- The fault source of an outcome (Table 2-8). -/
def loadFault (outcome : Nat) (s : State) : State := if within 1 5 outcome then report (0x00F + outcome) 0 s else s

/-- The words of the load (Table 2-9) and of its NETWORK error (R165). -/
def loadWords (e : Option LoadErr) (source : Nat) (k : StartInput) (s : State) : State :=
  let x := e.getD (loadErr 0 0 0)
  let img := s.boot.image
  let s1 := s.putNat Ix.HK_STATUS (x.outcome + source * 16 + x.detail * 2 ^ 8)
  let s2 := (s1.putNat Ix.HK_IMAGE_LEN img.length).putNat Ix.HK_IMAGE_SEQ (if img.isEmpty then 0 else imgSequence img)
  let s3 := (s2.putNat Ix.HK_DETAIL_OFFSET x.offset).putNat Ix.HK_LOAD_TIME k.loadUs
  (s3.putNat Ix.HK_SKIPPED (if img.isEmpty then 0 else skipped img)).putNat Ix.BN_LOAD_ERR (x.sub + x.item * 2 ^ 16)

/-- The configuration commit (R42, R75). -/
def configCommit (s : State) : State :=
  (s.putNat Ix.TXN_COMMIT_SEQ (s.num Ix.TXN_COMMIT_SEQ + 1)).putNat Ix.TXN_LAST_COMMIT_TIME s.us

/-- A load with its outcome for an image: what is in force, adoption, the mirror, the words (R43). -/
def loadOutcome (e : Option LoadErr) (source : Nat) (b : List Byte) (k : StartInput) (s : State) : State :=
  let s1 := bindAdopt e b s
  match e with
  | none =>
    let s2 := intoForce (some b) { s1 with boot := { s1.boot with mirrorDue := mirrorDueFor b s1 } }
    loadWords none source k (configCommit s2)
  | some x =>
    let m := if x.outcome = 4 ∨ x.outcome = 6 then none else activeMirror s1
    let src := match m with | some n => 1 + n.val | none => 3
    loadFault x.outcome (loadWords e src k (configCommit (intoForce (m.bind fun _ => mirrorImage s1) s1)))

/-- HK_PWR switched, with HK_SCL and HK_SDA (R31). -/
def keyPowered (on : Bool) (s : State) : State := { s with boot := { s.boot with keyPower := on } }

/-- Step 5: the key is powered and read once, and its power is off from the end of 5d on (R31, R41). -/
def loadKey (k : StartInput) (s0 : State) : State :=
  let read := !(s0.upd.recovering || s0.life == .scrapped)
  let cap := if read && decide (k.nacks < 3) then capacityOf s0.boot.keyBlocks else 0
  let s := keyPowered read { s0 with boot := { s0.boot with capacity := cap } }
  let e := keyErr k s
  let probes := if !read then 0 else if s.boot.keyBlocks = 0 ∨ 3 ≤ k.nacks then 2 else k.nacks
  let resumes := if read && decide (0 < cap) then Nat.min 2 (transferErrs k s).length else 0
  loadOutcome e 0 (keyImage s) k (keyPowered false (s.putNat Ix.HK_RETRIES (probes + resumes * 2 ^ 8)))

/-! ## The retention restore (R115) -/

/-- An electrode falls back to its calibration record. -/
def fromRecord (x : Electrode) : Electrode :=
  match x.record with | some r => { x with baseSelf := r.1, baseMut := r.2, drift := 0 } | none => { x with baseSelf := 0, baseMut := 0, drift := 0 }

/-- Discard a block of Table 5-7: its consumer starts as after power-on. -/
def dropBlock (n : Nat) (s : State) : State :=
  match n with
  | 1 => ((s.put Ix.PWR_LAST_PARK 0).put Ix.PWR_PARK_TIME 0).put Ix.PWR_WAKE_STATS 0
  | 2 => { s with modes := { s.modes with prev := Modes.reset.prev } }
  | 3 => { s with flt := { s.flt with buf := [], lost := 0, seq := flashSeq s } }
  | 4 => { s with flt := { s.flt with stages := s.flt.stagesFlash } }
  | 5 => { s.put Ix.CHG_FAULTS 0 with chg := { s.chg with soc := 0, socFrac := 0, socValid := false } }
  | 6 => updSec (fun c => { c with keys := c.keys.map fun x => { x with fv := x.resv } }) s
  | 7 => { s with nm := { s.nm with offenders := [], can := s.nm.can.map fun x => { x with falseAt := [], level := 0, parkCount := 0 } } }
  | 8 => { s with fab := { s.fab with retained := none, epoch := 0 } }
  | 9 =>
    let base := fun (g : Fin 8) => (tchEls g s).all fun e => (s.tch.el[e]).record.isSome
    { s with tch := { s.tch with el := s.tch.el.map fromRecord,
                                 gr := Vector.ofFn fun g => { s.tch.gr[g] with baseline := tchMask g s != 0 && base g } } }
  | 10 =>
    { s with chans := s.chans.map fun x => { x with offset := 0 },
             led := { s.led with strs := s.led.strs.map fun x => { x with offset := 0 } } }
  | 11 => { s with mot := { s.mot with bridges := s.mot.bridges.map fun x => { x with offset := 0 } } }
  | 12 => { s with imu := { s.imu with zero := (0, 0, 0), zeroValid := false } }
  | 13 => { s with tt := { s.tt with clocks := s.tt.clocks.map fun c => { c with seed := none } } }
  | 14 => { s with nm := { s.nm with can := s.nm.can.map fun x => { x with frozen := none } } }
  | 15 => { s with nm := { s.nm with offenders := (rankedOff s).take 16 } }
  | 16 => { s with bn := { s.bn with sigs := [] } }
  | 17 => { s with fab := { s.fab with records := [] } }
  | _ => s

/-- A block of the consumed list is restored: the header's CRC and its own are valid, the map holds it, and the configuration is the
same (R115). -/
def blockRestored (bad : List Nat) (s : State) (n : Nat) : Bool :=
  match s.boot.retained with
  | some h => !bad.contains 0 && !bad.contains n && h.sha == Config.sha256 s.boot.image && h.map.getD n false
  | none => false

/-- The restore at the commit; the list is consumed (R113, R115). -/
def restoreBlocks (bad : List Nat) (s : State) : State :=
  let ok := (List.range 18).map (blockRestored bad s)
  let s0 : State := match s.boot.retained with | some h => { s with modes := { s.modes with prev := h.mode } } | none => s
  let s1 := forEach (List.range 18) (fun n t => if ok.getD n false then t else dropBlock n t) s0
  let s2 := s1.putNat Ix.PWR_RET_STATUS (packBits ok)
  let s3 := if ok.getD 0 false && s2.num Ix.PWR_LAST_PARK != 0 then s2.latch Ix.PWR_LAST_PARK 16 else s2
  { s3 with boot := { s3.boot with retained := none } }

/-! ## Step 6 -/

/-- The signals before the first evaluation: a restored value, or INIT; sources without a value yet are stale (R151, R164). -/
def startSigs (old : List Sig) (s : State) : List Sig :=
  s.bn.cfg.signals.mapIdx fun i g =>
    match (if g.retain then old[i]? else none) with
    | some x => { val := x.val, stale := false, restored := true }
    | none => { val := g.init, stale := g.kind == 4 || g.kind == 8 || (g.kind == 5 && decide (g.index < 32)), restored := false }

/-- The phase clocks by their SOURCE (Table 6-2). -/
def startClocks (s : State) : State :=
  let f : Pc → PhaseClock := fun p =>
    { s.tt.clocks[p] with st := if s.fld (Ix.TT_PC_CFG p.val) 0 4 = 0 then .unbound else .stopped }
  { s with tt := { s.tt with clocks := Vector.ofFn f } }

/-- The switch inputs take their present state as confirmed (R86, R250). -/
def startSwitches (closed : Nat) (s : State) : State :=
  forEach (List.finRange 32) (fun n t =>
    let c := swUsed n t && nbits closed n.val 1 == 1
    publishSource 1 n.val (toWord (b2n c)) false (updSw n (fun x => { x with raw := c, closed := c }) t)) s

/-- The services post their sampling series (R181, R259, R281). -/
def startSampling (s : State) : State :=
  postFrames <| forEach (List.finRange 8) ensureAn (forEach (List.finRange 42) ensureSense { s with tt := { s.tt with series := [] } })

/-- What the services do between the commit and T0: buses leave CONFIG, links start, calibrations are attempted, the network's
start ticks are posted (R332, R156, R273, R292). -/
def startServices (closed : Nat) (offsets : List OffsetReading) (s : State) : State :=
  let s1 : State := { s with
    bn := { s.bn with sigs := startSigs s.bn.sigs s }
    can := { s.can with entries := freshEntries s.can.db s.now }
    lin := { s.lin with rx := freshLinRx s.lin.sched s.now } }
  let s2 := startStrOffsets offsets (startBrOffsets offsets (startOffsets offsets
    (forEach (List.finRange 4) initString (startSwitches closed (startClocks s1)))))
  let s3 := publishSource 5 32 (toWord (b2n s2.tch.wokenByTouch)) false s2
  let s4 := forEach (List.finRange 8) (fun g t => beginCal g false t) (imuStart (canStart s3))
  let s5 := domainStart (startSampling (startNetwork s4))
  nmStart (linStart s5)

/-- A mirror slot with an image and its record (R46). -/
def mirrorSlot (b : List Byte) (counter : Nat) (crcOk : Bool) : MirrorSlot :=
  { image := b, sha := Config.sha256 b, length := imgLength b, sequence := imgSequence b, counter := counter, crcOk := crcOk }

/-- The write of a mirror slot begins: until its record is written the slot has none that is valid (R47, 02 "When power fails during
a mirror write"; DEDUCED, assumption log 60). -/
def beginMirror (s : State) : State :=
  match s.boot.mirrorDue with
  | some (n, b) => { s with boot := { s.boot with mirror := s.boot.mirror.set n (some (mirrorSlot b 0 false)) } }
  | none => s

/-- The first LESSON_TICK: the first mode evaluation (R86), waiting detections (R456), degraded operation (R471), the
anti-rollback counter (R531), HIRQ cause 5. -/
def firstTick (s0 : State) : State :=
  let s := { beginMirror (s0.reach s0.bn.t0) with started := true, hst := { s0.hst with startedBit := true } }
  let t := s.putNat Ix.SYS_START_TIME ((s.now - s.freeBase) / usP 1)
  let t1 := if rideGuard t && ignition t then enterRide t else t
  let t2 := applyDeferred (beginDegraded t1)
  let t3 := if t2.upd.advance then
      updUpd (fun u => { u with advance := false, counter := Nat.max u.counter (bankASec t2) }) t2 else t2
  raiseIrq 5 t3

/-- After the commit: the restore, step 6, the first LESSON_TICK. -/
def goRunning (k : StartInput) (s : State) : State :=
  let m := isMember s
  let ords := if isDomainRoot s then (s.fab.domain.members.map (·.ordinal)).filter (· != 0) else []
  let r := restoreBlocks k.retBad s
  firstTick (refreshChg <| startServices k.closed k.offsets { r with modes := { r.modes with rootAwake := m, membersAwake := ords } })

/-- Step 4: the four other processors run; the recovery image has the application pair alone (R533). -/
def loadProcessors (s : State) : State :=
  let p : Proc := if s.upd.recovering then .off else .running
  { s with procs := { s.procs with app := .running, motor := p, park := p, fabric := p } }

/-- Steps 4 to 6 from Bank A and the key. -/
def finishStart (k : StartInput) (s : State) : State :=
  let s1 := loadKey k ((loadProcessors s).reach (s.freeBase + usP (k.startUs - 1000)))
  goRunning k (if s1.procs.fabric == .running then fabStart s1 else s1)

/-- A member root-loaded at this start (R422). -/
def rootLoaded (s : State) : Bool := match s.fab.member with | some m => within 1 7 m.1 | none => false

/-- The wait for a reload: the fabric engine alone runs, every port enabled (R422). -/
def waitReload (k : StartInput) (s : State) : State :=
  let s1 := s.reach (s.freeBase + usP k.startUs)
  fabStart { s1 with procs := { s1.procs with fabric := .running }, fab := { s1.fab with reload := 1, waitAt := s1.now } }

/-- A start with its causes (Table 1-6). -/
def startUp (mask : Nat) (k : StartInput) (o : State) : State :=
  match prepare k (step1 mask k o) with
  | .error t => aoLost t
  | .ok t =>
    if t.upd.dead then t
    else if rootLoaded t && !t.upd.recovering then waitReload k t
    else finishStart k t

/-! ## Releases of reset -/

/-- POWER_ON_RESET: the first power, the return of AO, or W5 of a wake (R18, R111). While TST_RSTN or a brown-out holds the part
nothing starts. W5 gives its signal within the timeouts of W2 to W4 and the 0.05 ms of W5 from the start of W2 (Table 5-6). -/
def powerOn (k : StartInput) (s : State) : State :=
  if s.pw.rstHeld || s.pw.brownOut || s.upd.dead then s
  else match s.pw.pw with
    | .run | .doze | .standby => if s.procs.principal == .off then startUp 1 k s else s
    | .off => startUp 1 k s
    | .retain | .deep =>
      match s.pw.waking with
      | some w =>
        let t := s.pw.wakeAt + usP k.wakeUs
        if w.waiting.isSome || !decide (w.from_ ≤ t ∧ t ≤ w.from_ + usP 8050) then s else startUp 2 k (s.reach t)
      | none => s

/-- POWER_ON_RESET (R18). -/
def execPowerOnReset (k : StartInput) (s : State) : Host.Outcome State Fault Refusal := doneFor .always s fun s => powerOn k s

/-- BROWN_OUT_RECOVERY: VBAT has stayed above 5.0 V for 5 ms (R119); in the wake order W2 repeats. -/
def brownRecovery (at_ : Nat) (k : StartInput) (s : State) : State :=
  if !s.pw.brownOut then s
  else
    let s1 := s.reach at_
    match s.pw.waking with
    | some w => { s1 with pw := { s1.pw with brownOut := false, waking := some { w with from_ := s1.now } } }
    | none =>
      if s.pw.rstHeld then { s1 with pw := { s1.pw with brownOut := false }, boot := { s1.boot with causes := s1.boot.causes ||| 16 } }
      else startUp 16 k s1

/-- BROWN_OUT_RECOVERY (R119). -/
def execBrownOutRecovery (at_ : Nat) (k : StartInput) (s : State) : Host.Outcome State Fault Refusal :=
  doneFor .always s fun s => brownRecovery at_ k s

/-- A reset of the whole device by the Principal, with every output off (R19): a start with cause 2. -/
def deviceReset (k : StartInput) (s : State) : State := startUp 4 k (perDown (coreDown s))

/-- PRINCIPAL_SELF_FAULT. -/
def execPrincipalSelfFault (at_ : Nat) (k : StartInput) (s : State) : Host.Outcome State Fault Refusal :=
  doneFor .always s fun s => if deviceUp s then deviceReset k (s.reach at_) else s

/-- TST_RSTN is honoured (R503). -/
def rstHonoured (s : State) : Bool := s.life == .blank || s.life == .maker || s.life == .returned

/-- TST_RSTN_ASSERT (R503): CORE, PER, PWR, MOT and FAB are held in reset; in RETAIN and DEEP they are off, and a wake in progress
ends. -/
def rstAssert (s : State) : State :=
  if !rstHonoured s || s.pw.rstHeld then s
  else
    match s.pw.pw with
    | .off | .retain | .deep => { s with pw := { s.pw with rstHeld := true, waking := none, cause := none } }
    | .run | .doze | .standby =>
      let s1 := perDown (coreDown { s with modes := { s.modes with entering := none } })
      { s1 with pw := { s1.pw with rstHeld := true, pw := .run } }

/-- TST_RSTN_ASSERT (R503). -/
def execTstRstnAssert (s : State) : Host.Outcome State Fault Refusal := doneFor .always s fun s => rstAssert s

/-- TST_RSTN_RELEASE (R503): a start with cause 3. -/
def rstRelease (k : StartInput) (s : State) : State :=
  if !s.pw.rstHeld then s
  else
    let s1 : State := { s with pw := { s.pw with rstHeld := false } }
    if s.pw.pw == .off || s.pw.brownOut then s1 else startUp 8 k s1

/-- TST_RSTN_RELEASE (R503). -/
def execTstRstnRelease (k : StartInput) (s : State) : Host.Outcome State Fault Refusal :=
  doneFor .always s fun s => rstRelease k s

/-- RECOVERY_RETRY: 60 s after a start that found nothing to run (R533). -/
def recoveryRetry (k : StartInput) (s : State) : State :=
  if s.upd.dead && !s.pw.rstHeld then startUp 4 k (s.reach (s.freeBase + secP 60)) else s

/-- RECOVERY_RETRY (R533). -/
def execRecoveryRetry (k : StartInput) (s : State) : Host.Outcome State Fault Refusal :=
  doneFor .always s fun s => recoveryRetry k s

/-! ## Transitions at the test port -/

/-- TEST_PORT_PROVISION: BLANK to MAKER with a package signed under VENDOR_ROOT, while TST_RSTN is low (R498, R502). The start of
J4 falls at the release. -/
def provision (makerKey : List Byte) (makerId : Nat) (sig : List Byte) (cut : Option Nat) (s : State) : State :=
  if s.life == .blank && s.pw.rstHeld && s.pw.pw != .off && s.sec.entropyOk && s.upd.intent.isNone
      && Config.provisionSigned makerKey makerId sig then
    let d := draw 32 (updSec (fun c => { c with makerRoot := some (makerKey, makerId) }) s)
    let r := transition { src := 0, target := 1, spare := false, seq := 0, requester := 0, seed := d.1 } cut d.2
    if r.1 then { r.2 with boot := { r.2.boot with causes := r.2.boot.causes ||| 4 } } else aoLost r.2
  else s

/-- TEST_PORT_PROVISION (R498). -/
def execTestPortProvision (makerKey : List Byte) (makerId : Nat) (sig : List Byte) (cut : Option Nat) (s : State) :
    Host.Outcome State Fault Refusal := doneFor .always s fun s => provision makerKey makerId sig cut s

/-- TEST_PORT_SCRAP: with a VENDOR credential of the test port (R498, Table 20-12). In SCRAPPED the pin no longer holds the part,
which starts. -/
def testScrap (k : StartInput) (s : State) : State :=
  if rstHonoured s && s.pw.rstHeld && s.pw.pw != .off && s.sec.entropyOk && s.upd.intent.isNone
      && (s.sec.parties[1]).priv == 3 then
    let r := transition { src := s.life.code, target := 4, spare := false, seq := 0, requester := 0, seed := [] } k.cut s
    if r.1 then startUp 4 { k with cut := none } { r.2 with pw := { r.2.pw with rstHeld := false } } else aoLost r.2
  else s

/-- TEST_PORT_SCRAP (R498). -/
def execTestPortScrap (k : StartInput) (s : State) : Host.Outcome State Fault Refusal := doneFor .always s fun s => testScrap k s

/-! ## The application pair (R21–R23) -/

/-- An event that outlives the pair: a repeating one of the safety-lighting pool, and what the pair does not own. -/
def survivesStop (e : Event) : Bool :=
  (e.spec.pool == 1 && e.spec.rep != 1) || e.slot == 4095 || (match e.spec.act with | .fabSync .. => true | _ => false)

/-- What the pair's SRAM loses at a stop (18, edge on the pair's stop): the host queue with its replies, the diagnostic transport
and session; an open image session is suspended. -/
def hostLost (s0 : State) : State :=
  let s := forEach [2, 3, 4] dropPriv s0
  { s with hst := { HostPort.reset with stayAt := s.hst.stayAt, startedBit := false }
           uds := Uds.reset
           upd := { s.upd with session := s.upd.session.map fun x => if x.st = 1 then { x with st := 2, at_ := s.now } else x } }

/-- The pair no longer runs: the network stops, no group waits, the instant is remembered; a fourth stop in 600 s leaves the pair
halted (R21, R23). -/
def stopPair (s : State) : State :=
  let recent := s.now :: s.procs.stops.filter fun t => decide (s.now < t + secP 600)
  { s with bn := { s.bn with running := false },
           tt := { s.tt with waiting := [] },
           procs := { s.procs with stops := recent, app := if 4 ≤ recent.length then .halted else .loading } }

/-- The pair stops: its events go but those committed and the safety lighting's, outputs take their fail states, the transaction
is rolled back (R21, R79). -/
def appStop (s0 : State) : State :=
  let s := hostLost (leaveStandby (rollBack 9 5 s0))
  let s1 := forEach (s.tt.events.filter fun e => !survivesStop e) (fun e t => cancelHandle (e.slot, e.gen) t) s
  let s2 := forEach (List.finRange 42) failChannel s1
  let s3 := forEach (List.finRange 4) failString s2
  stopPair (forEach (List.finRange 2) failBrushed (forEach (List.finRange 2) failBr s3))

/-- A stop counted in `SYS_APP_STOPS`. -/
def appStopAt (at_ lo : Nat) (s : State) : State :=
  if deviceUp s && s.procs.app == .running then appStop ((s.reach at_).bump Ix.SYS_APP_STOPS lo 16) else s

/-- LOCKSTEP_MISMATCH (R21). -/
def execLockstepMismatch (at_ : Nat) (s : State) : Host.Outcome State Fault Refusal :=
  doneFor .always s fun s => appStopAt at_ 0 s

/-- APP_HEARTBEAT_TIMEOUT (R21). -/
def execAppHeartbeatTimeout (at_ : Nat) (s : State) : Host.Outcome State Fault Refusal :=
  doneFor .always s fun s => appStopAt at_ 16 s

/-- APP_RELOAD_DONE (R22): APP_STOP is reported, the network starts again from INIT values, the services go on. -/
def appReload (at_ : Nat) (s0 : State) : State :=
  if s0.procs.app == .loading && deviceUp s0 then
    let s := s0.reach at_
    let s1 := report 0x000 0 { s with procs := { s.procs with app := .running }, bn := { s.bn with sigs := startSigs [] s } }
    startSampling (chgRestart (touchRestart (nmRestart (linRestart (startNetwork s1)))))
  else s0

/-- APP_RELOAD_DONE (R22). -/
def execAppReloadDone (at_ : Nat) (s : State) : Host.Outcome State Fault Refusal := doneFor .always s fun s => appReload at_ s

/-! ## The other processors (R24, R25) -/

/-- MOT_COPRO_HEARTBEAT_TIMEOUT (R24): every switch of MA and MB opens; brushed HB0 and HB1 turn off. -/
def execMotCoproHeartbeatTimeout (at_ : Nat) (s : State) : Host.Outcome State Fault Refusal :=
  doneFor .always s fun s => (if deviceUp s && s.procs.motor == .running then
    let t := coproStop (s.reach at_)
    { t with procs := { t.procs with motor := .loading } } else s)

/-- The fabric engine stops (R25): fabric signals are stale, every link is gone; EXT clocks get no marks, so the missing ones lead
through COASTING to their loss (R123, R146). -/
def fabStop (s : State) : State :=
  let s1 : State := { s with bn := { s.bn with sigs := s.bn.sigs.mapIdx fun i x =>
    match s.bn.cfg.signals[i]? with | some g => if g.kind = 8 then { x with stale := true } else x | none => x } }
  let quiet := fun (x : PortS) => { PortS.reset with st := if x.st == .disabled then .disabled else .down }
  dropFabOwner
    { s1 with fab := { s1.fab with ports := s1.fab.ports.map quiet, node := .unlisted, addr := 0 },
              procs := { s1.procs with fabric := .loading } }

/-- FAB_ENGINE_HEARTBEAT_TIMEOUT (R25). -/
def execFabEngineHeartbeatTimeout (at_ : Nat) (s : State) : Host.Outcome State Fault Refusal :=
  doneFor .always s fun s => if deviceUp s && s.procs.fabric == .running then fabStop (s.reach at_) else s

/-- FAB_ENGINE_RELOAD_DONE (R25): the node returns UNLISTED. -/
def execFabEngineReloadDone (at_ : Nat) (s : State) : Host.Outcome State Fault Refusal :=
  doneFor .always s fun s => (if s.procs.fabric == .loading then
    let t := s.reach at_
    fabStart { t with procs := { t.procs with fabric := .running } } else s)

/-! ## The mirror and the write-back (R47, R49–R51) -/

/-- MIRROR_WRITE_DONE (R47): image and record stand in the other slot. -/
def mirrorWritten (s : State) : State :=
  match s.boot.mirrorDue with
  | some (n, b) =>
    if !s.started then s
    else
      let c := match (activeMirror s).bind fun m => (s.boot.mirror[m]).map (·.counter) with | some x => x + 1 | none => 1
      { s with boot := { s.boot with mirrorDue := none, mirror := s.boot.mirror.set n (some (mirrorSlot b c true)) } }
  | none => s

/-- MIRROR_WRITE_DONE (R47). -/
def execMirrorWriteDone (at_ : Nat) (s : State) : Host.Outcome State Fault Refusal :=
  doneFor .core s fun s => mirrorWritten (s.reach at_)

/-- The staged image: as many bytes as its header says. -/
def stagedImage (s : State) : List Byte := memRead s.boot.staging 0 (leAt (memRead s.boot.staging 0 12) 8 4 % 262145)

/-- The image a write-back writes, none where it is refused with cause 1 (R49, R50, R497). -/
def writeBackImage (staged : Bool) (s : State) : Option (List Byte) :=
  let img := if staged then
      (if s.sec.owner.isSome || (imageErr (stagedImage s) s).isSome then none else some (stagedImage s))
    else mirrorImage s
  match img with | some b => if b.length ≤ s.boot.capacity then some b else none | none => none

/-- A write of 1 or 2 to `HK_WB_CMD`: the key is powered and the write-back runs, or it is refused; one that runs goes on. -/
def startWriteBack (staged : Bool) (s : State) : State :=
  if s.boot.writing.isSome then s
  else match writeBackImage staged s with
    | some b => keyPowered true { s.putNat Ix.HK_WB_STATUS 1 with boot := { s.boot with writing := some b } }
    | none => s.putNat Ix.HK_WB_STATUS (3 + 1 * 16)

/-- HK_WRITE_BACK_DONE (R50): `failed` says after how many page writes one was not acknowledged or read back otherwise; without
a key none is. -/
def writeBackDone (failed : Option Nat) (s : State) : State :=
  match s.boot.writing with
  | none => s
  | some b =>
    let total := ceilDiv b.length 128 + 1
    let f := if s.boot.keyBlocks = 0 then some 0 else failed.map (Nat.min (total - 1))
    let n := f.getD total
    let s1 := keyPowered false { s with boot := { s.boot with writing := none, key := keyAfter n b s.boot.key } }
    let res := if f.isSome then 3 + 2 * 16 else if (signatureErr b s).isSome then 3 + 3 * 16 else 2
    s1.putNat Ix.HK_WB_STATUS (res + n % 65536 * 2 ^ 16)

/-- HK_WRITE_BACK_DONE (R50). -/
def execHkWriteBackDone (at_ : Nat) (failed : Option Nat) (s : State) : Host.Outcome State Fault Refusal :=
  doneFor .core s fun s => writeBackDone failed (s.reach at_)

/-! ## A bunch that activates itself (R529) -/

/-- UPD_AUTO_ACTIVATE at a mode-manager evaluation; that the ignition request has been false for AUTO_IDLE is the command's
claim. A PARK entry of the same evaluation yields. -/
def autoActivate (at_ : Nat) (k : StartInput) (s0 : State) : State :=
  let s := evalAt at_ s0
  let free := s0.modes.entering.isNone || s0.modes.entering == some s.now
  if s0.started && s0.procs.app == .running && free && s0.modes.mode == .watch then
    if s.upd.st == 6 && bunchAuto s && hallPass s && dwellOver s.dwell.ignOff 0 (secP (60 * s.fld Ix.UPD_CFG 16 8)) s then deviceReset k (writeIntent s) else s
  else s0

/-- UPD_AUTO_ACTIVATE (R529). -/
def execUpdAutoActivate (at_ : Nat) (k : StartInput) (s : State) : Host.Outcome State Fault Refusal :=
  doneFor .pair s fun s => autoActivate at_ k s

end Sys2Proof.Machine
end

