-- ==== Sys2Proof/Machine/Params.lean ====
section
/-!
DEFINITION. Reads and writes of parameter words by requesters (03_parameters_and_transactions.md, R53–R65): the four tests of
R61, the silent rule, the ranges, and what each writable word does.
-/
namespace Sys2Proof.Machine

/-! ## What a word reads as -/

/-- `BN_Ln_STATE`: 0 masked out, 1 on its own clock, 2 on fallback, 3 empty. -/
def lessonState (l : LessonNo) (s : State) : Nat :=
  match s.bn.cfg.lessons[l.val]? with
  | none => 0
  | some c =>
    if !s.bn.running then 0
    else if !(s.bn.cfg.blocks.any fun b => b.lesson == l.val) then 3
    else if nbits c.modes s.modes.mode.code 1 = 0 then 0
    else if (s.bn.lessons[l]).fallback then 2 else 1

/-- `BN_SIG_INFO` of the selected signal (Table 7-10). -/
def signalInfo (n : Nat) (s : State) : Nat :=
  match s.bn.cfg.signals[n]? with
  | none => 0
  | some g =>
    let back := match s.bn.sigs[n]? with | some x => x.restored | none => false
    g.typ % 4 + b2n (sigStale n s) * 4 + b2n g.retain * 8 + b2n back * 16 + g.kind % 256 * 2 ^ 8 + g.index % 65536 * 2 ^ 16

/-- Views of page 0x09: the lessons' configuration, cost and state. -/
def viewLesson (i : Nat) (s : State) : Option Nat :=
  let l : LessonNo := ⟨(i - 0x0900) / 16 % 16, Nat.mod_lt _ (by decide)⟩
  match (i - 0x0900) % 16 with
  | 0 => some (match s.bn.cfg.lessons[l.val]? with
    | some c => c.clock % 16 + c.modes % 16 * 16 + (s.bn.cfg.blocks.filter fun b => b.lesson == l.val).length * 2 ^ 8
    | none => 0)
  | 5 => some (if l.val < s.bn.cfg.lessons.length then lessonCost s.bn.cfg l.val else 0)
  | 6 => some (lessonState l s)
  | _ => none

/-- Views that rest on the mode manager and the network. -/
def viewLate (i : Nat) (s : State) : Option Nat :=
  if i = Ix.MODE_STAY_AWAKE then some (staySet s)
  else if i = Ix.BN_WORK then some (workRate s.bn.cfg).floor.toNat
  else if i = Ix.BN_SIG_VALUE then some (sigValue (s.fld Ix.BN_SIG_SEL 0 11) s).toNat
  else if i = Ix.BN_SIG_INFO then some (signalInfo (s.fld Ix.BN_SIG_SEL 0 11) s)
  else if 0x0900 ≤ i ∧ i < 0x0A00 then viewLesson i s
  else none

/-- What a parameter word reads as (R53); a reserved index reads 0. -/
def readWord (i : Nat) (s : State) : Word :=
  match viewLate i s with | some n => toWord n | none => s.view i

/-! ## Permission (R61, R62) -/

/-- A word is alive in the present mode and life-cycle state (R62, R94). -/
def aliveNow (a : AliveIn) (s : State) : Bool :=
  match a with
  | .always => true
  | .awake => s.modes.mode != .park
  | .workshop => s.modes.mode == .workshop
  | .owner => ownerAlive s

/-- The privilege a word asks for is held (R61). -/
def privileged (r : Requester) (x : ParamRow) (s : State) : Bool := decide (x.priv.rank ≤ privOf r s)

/-- A read is permitted (R61): every class allows it. -/
def mayRead (r : Requester) (i : Nat) (s : State) : Bool :=
  match paramRow i with
  | some x => privileged r x s && aliveNow x.alive s
  | none => false

/-- A class allows a direct write (Table 3-2). -/
def Access.direct : Access → Bool
  | .rw | .w1c => true
  | .ro | .rwt | .rc => false

/-- A class lets a staged write take effect at the commit (Table 3-2). -/
def Access.staged : Access → Bool
  | .rw | .rwt | .w1c => true
  | .ro | .rc => false

/-- A direct write is permitted (R61). -/
def mayWrite (r : Requester) (i : Nat) (s : State) : Bool :=
  match paramRow i with
  | some x => x.access.direct && privileged r x s && aliveNow x.alive s
  | none => false

/-- A staged write is permitted (R61, R68). -/
def mayStage (r : Requester) (i : Nat) (s : State) : Bool :=
  match paramRow i with
  | some x => x.access.staged && privileged r x s && aliveNow x.alive s
  | none => false

/-! ## Reads (R57, R58, R63) -/

/-- An RC word is cleared by a permitted read (Table 3-2); a read of `TT_FREE_LO` latches FREE bits [47:32] (06). -/
def clearRead (i : Nat) (s : State) : State :=
  match paramRow i with
  | some x =>
    if x.access = .rc then
      if i = Ix.CHG_FAULTS then chgFaultsRead s
      else if i = Ix.PWR_WATCH_RUN then let t := accountWatch s; { t with pw := { t.pw with watchRun := 0 } }
      else if i = Ix.PWR_WATCH_STBY then let t := accountWatch s; { t with pw := { t.pw with watchStby := 0 } }
      else s.put i (resetWord i)
    else if i = Ix.TT_FREE_LO then { s with tt := { s.tt with freeHi := toWord (s.freeCount / 2 ^ 32) } }
    else s
  | none => s

/-- A read by a requester: the value, 0 under the silent rule, and the state after it. -/
def readParam (r : Requester) (i : Nat) (s : State) : Word × State :=
  if mayRead r i s then (readWord i s, clearRead i s) else (0, s)

/-! ## Writes -/

/-- What a commanded calibration measures (R243, R244, R274): back-EMF in mV, raw current and offset, resistance and inductance,
gravity in sensor axes, and that the vehicle stood still throughout. -/
structure Measured where
  emfMv : Nat
  raw : Int
  offset : Int
  res : Nat
  ind : Nat
  gravity : Int × Int × Int
  held : Bool
  deriving DecidableEq, Repr

/-- Measurements that no operand of the command states are free values (assumption log 2). -/
def freeMeasured (s : State) : Measured :=
  let f := fun k => Config.freeValue (s.free + k)
  { emfMv := (f 0).toNat, raw := (f 1).toInt, offset := (f 2).toInt, res := (f 3).toNat, ind := (f 4).toNat,
    gravity := ((f 5).toInt, (f 6).toInt, (f 7).toInt), held := bit (f 8) 0 }

/-- The free values of one command are spent. -/
def spendMeasured (s : State) : State := { s with free := s.free + 9 }

/-- The bits of a word that are set. -/
def setBits (v : Word) : List Nat := (List.range 32).filter fun k => bit v k

/-- `HST_IRQ_CAUSE` written: each 1 clears its cause; READY is set again while a reply remains (R436). -/
def irqClear (v : Word) (s : State) : State :=
  let t := s.put Ix.HST_IRQ_CAUSE (s.word Ix.HST_IRQ_CAUSE &&& ~~~ v)
  if s.hst.replies.isEmpty then t else raiseIrq 0 t

/-- The channel of a number, where there is one. -/
def onCh (n : Nat) (f : Ch → State → State) (s : State) : State := match chOf n with | some c => f c s | none => s

/-- A W1C word written: each 1 clears that bit, with what the clearing does (Table 3-2 and the Settings tables). -/
def clearBits (i : Nat) (v : Word) (s : State) : State :=
  if i = Ix.HS_LATCHED_LO then forEach (setBits v) (fun n t => onCh n clearLatch t) s
  else if i = Ix.HS_LATCHED_HI then
    forEach ((setBits v).filter fun n => decide (n < 4)) (fun n t => onCh (32 + n) clearLatch t) s
  else if i = Ix.LSD_LATCHED then
    forEach ((setBits v).filter fun n => decide (n < 4)) (fun n t => onCh (36 + n) clearLatch t) s
  else if i = Ix.HB_LATCHED then
    forEach ((setBits v).filter fun n => decide (n < 2)) (fun n t => onCh (40 + n) clearLatch t) s
  else if i = Ix.LED_LATCHED then
    forEach ((List.finRange 4).filter fun x => bit v x.val) clearStrLatch s
  else if i = Ix.MOT_LATCHED then forEach ((List.finRange 2).filter fun x => bit v x.val) clearBrLatch s
  else if i = Ix.IMU_CLEAR then imuClear v s
  else if i = Ix.HST_IRQ_CAUSE then irqClear v s
  else
    match (List.finRange 4).find? fun t => Ix.LED_OUTAGE t.val == i with
    | some t => clearOutage t v s
    | none =>
      match (List.finRange 3).find? fun c => Ix.CAN_TXB_PEND_LO c.val == i || Ix.CAN_TXB_PEND_HI c.val == i with
      | some c => cancelMask c (if Ix.CAN_TXB_PEND_HI c.val == i then 32 else 0) v s
      | none => s.put i (s.word i &&& ~~~ v)

/-- A forcing word written: the output follows it at once (R15, R174, R222, R244). -/
def forceWord (i : Nat) (v : Word) (s : State) : Option State :=
  match (List.finRange 42).find? fun c => chForceIx c == i with
  | some c => some (serveCh c (s.put i v))
  | none =>
    match (List.finRange 4).find? fun t => Ix.LED_FORCE t.val == i with
    | some t => some (recompose [t] (s.put i v))
    | none =>
      match (List.finRange 2).find? fun b => Ix.MOT_FORCE b.val == i with
      | some b => some (postForce b (s.put i v))
      | none => none

/-- `MOT_CAL_CMD` written (R244): 1 offset, 2 identify on one bridge. -/
def motCal (m : Measured) (v : Word) (s : State) : State :=
  let b : Mot := if bit v 0 then 1 else 0
  if fld v 1 2 = 1 then calOffset b m.emfMv m.raw m.offset s else calIdentify b m.emfMv m.res m.ind s

/-- `IMU_CAL_CMD` written (R274): 1 gyro zero, 2 level. -/
def imuCal (m : Measured) (v : Word) (s : State) : State :=
  if v = 1 then startZero true s else calLevel m.gravity m.held s

/-- `LC_OWNER_CMD` written (R496). -/
def ownerCommand (r : Requester) (v : Word) (s : State) : Nat × State :=
  if v = 1 then ownerSet s else (0, ownerClear r s)

/-- `UPD_CMD` written (R528, R536): 1 activates, 2 discards; BAD_VALUE where it does not. -/
def updCommand (v : Word) (s : State) : Nat × State :=
  if v = 1 then
    (if activationReady s && s.modes.mode == .workshop && hallPass s then (0, writeIntent s)
      else (5, if hallPass s then s else report 0xD06 0 s))
  else
    let d := updDiscard s
    (if d.1 then 0 else 5, d.2)

/-- `LC_OWNER_CODE_k` written. -/
def ownerCode_ (k : Nat) (v : Word) (s : State) : State := updSec (fun c => { c with code := modifyAt c.code k fun _ => v }) s

/-- What a write of a command word or of a word with an effect of its own does; none where the word is plain. -/
def commandWord (r : Requester) (m : Measured) (i : Nat) (v : Word) (s : State) : Option (Nat × State) :=
  let ok := fun (t : State) => some ((0 : Nat), t)
  match i / 256 with
  | 0x02 =>
    if i = Ix.MODE_HOST_STAY then ok (if r = .host then hostStay v s else s)
    else if i = Ix.MODE_WS_REQUEST then ok (match r with | .fabric _ => s | _ => if v = 1 then wsEnter r s else wsLeave s)
    else none
  | 0x03 =>
    if i = Ix.PWR_RTC_TIME then some (match rtcWrite v s with | some t => (0, t) | none => (5, s)) else none
  | 0x04 => if i = Ix.HK_WB_CMD then ok (startWriteBack (v == 2) s) else none
  | 0x07 => if i = Ix.TT_LOG_SEL then ok (ttLogSel v.toNat s) else none
  | 0x0A =>
    if 0x0A40 ≤ i ∧ r = .host then
      ok { s.put i v with bn := { s.bn with hostWritten := (i - 0x0A40) :: s.bn.hostWritten.filter (· != i - 0x0A40) } }
    else none
  | 0x18 => if i = Ix.MOT_CAL_CMD then ok (motCal m v s) else none
  | 0x1B => if i = Ix.IMU_CAL_CMD then ok (imuCal m v s) else none
  | 0x1C => if i = Ix.TCH_CAL_CMD then ok (calCommand v s) else none
  | 0x20 =>
    match (List.finRange 3).find? fun c => Ix.CAN_RECOVER c.val == i || Ix.CAN_TEST c.val == i with
    | some c => ok (if Ix.CAN_RECOVER c.val == i then canRecover c v s else canTest c v s)
    | none => none
  | 0x23 => if i = Ix.CAN_RX_SEL then ok (rxSelect v.toNat s) else none
  | 0x26 =>
    if i = Ix.NM_FW_CLEAR then ok (nmFwClear v s)
    else if i = Ix.NM_OFF_SEL then ok (offSelect v.toNat s)
    else if i = Ix.NM_OFF_CLEAR then ok (offClear v s)
    else none
  | 0x28 =>
    if i = Ix.FAB_RC_CMD then ok (rcCommand v s)
    else if i = Ix.FAB_ADDR_SEL then ok (addrSelect v.toNat s)
    else none
  | 0x29 => if i = Ix.FAB_ROUTE_SEL then ok (routeSelect v.toNat s) else none
  | 0x2A => if i = Ix.FAB_RELOAD_CMD then ok (updFab (fun f => { f with member := none }) s) else none
  | 0x30 => if i = Ix.FLT_CLEAR then ok (fltClear v s) else none
  | 0x31 => if i = Ix.FLT_LOG_SEL then ok (logSelect v.toNat s) else none
  | 0x36 =>
    if 0x3602 ≤ i ∧ i ≤ 0x3605 then ok (ownerCode_ (i - 0x3602) v s)
    else if i = Ix.LC_OWNER_CMD then some (ownerCommand r v s)
    else none
  | 0x37 =>
    if i = Ix.UPD_CMD then some (updCommand v s)
    else if i = Ix.UPD_BITMAP_SEL then ok (bitmapSelect v s)
    else none
  | _ => none

/-- A permitted write in range takes effect: the status, and the state after it. -/
def applyWrite (r : Requester) (m : Measured) (i : Nat) (v0 : Word) (s : State) : Nat × State :=
  let v := cleanValue i v0
  match paramRow i with
  | none => (0, s)
  | some x =>
    if x.access = .w1c then (0, clearBits i v s)
    else match commandWord r m i v s with
      | some a => a
      | none => match forceWord i v s with
        | some t => (0, t)
        | none => (0, s.put i v)

/-- A range stated against another word, with the value written, the others as committed (R65). -/
def crossWritten (i : Nat) (v : Word) (s : State) : Bool := crossOk i (s.put i (cleanValue i v))

/-- A direct write by a requester (R57, R59, R63, R65): the status, and the state after it. -/
def writeParam (r : Requester) (m : Measured) (i : Nat) (v : Word) (s : State) : Nat × State :=
  if !mayWrite r i s then (0, s)
  else match paramRow i with
    | none => (0, s)
    | some x =>
      if x.access = .w1c then applyWrite r m i v s
      else if valueOk i v s && crossWritten i v s then applyWrite r m i v s
      else (5, s)

/-- A direct write whose measurements no operand states. -/
def writeFree (r : Requester) (i : Nat) (v : Word) (s : State) : Nat × State :=
  writeParam r (freeMeasured s) i v (spendMeasured s)

/-! ## Commands of a requester: the request is noted, and the word written -/

/-- A requester's write of one word. -/
def requestWrite (r : Requester) (m : Measured) (i : Nat) (v : Word) (s : State) : State :=
  (writeParam r m i v (noteRequest r s)).2

/-- PARAM_WRITE (R57, R59, R61, R63, R65). -/
def execParamWrite (r : Requester) (idx : Nat) (v : Word) (s : State) : Host.Outcome State Fault Refusal :=
  doneFor .pair s fun s => (writeFree r idx v (noteRequest r s)).2

/-- READ_CLEAR_WORD (R57, R58): a read of any word; a permitted one of an RC word clears it. -/
def execReadClearWord (r : Requester) (idx : Nat) (s : State) : Host.Outcome State Fault Refusal :=
  doneFor .pair s fun s => (readParam r idx (noteRequest r s)).2

/-- CHG_FAULTS_READ (R315, R58). -/
def execChgFaultsRead (r : Requester) (s : State) : Host.Outcome State Fault Refusal :=
  doneFor .pair s fun s => (readParam r Ix.CHG_FAULTS (noteRequest r s)).2

/-- The measurements of a write that makes none. -/
def noMeasure : Measured := { emfMv := 0, raw := 0, offset := 0, res := 0, ind := 0, gravity := (0, 0, 0), held := false }

/-- BN_HOST_WRITE (R163). -/
def execBnHostWrite (r : Requester) (k : Fin 64) (v : Word) (s : State) : Host.Outcome State Fault Refusal :=
  doneFor .pair s fun s => requestWrite r noMeasure (Ix.BN_HOST k.val) v s

/-- WS_ENTER_REQUEST (R87, R90). -/
def execWsEnterRequest (r : Requester) (s : State) : Host.Outcome State Fault Refusal :=
  doneFor .pair s fun s => requestWrite r noMeasure Ix.MODE_WS_REQUEST 1 s

/-- WS_EXIT_REQUEST (R87, R90). -/
def execWsExitRequest (r : Requester) (s : State) : Host.Outcome State Fault Refusal :=
  doneFor .pair s fun s => requestWrite r noMeasure Ix.MODE_WS_REQUEST 2 s

/-- HOST_STAY_WRITE (R90, R93). -/
def execHostStayWrite (r : Requester) (v : Word) (s : State) : Host.Outcome State Fault Refusal :=
  doneFor .pair s fun s => requestWrite r noMeasure Ix.MODE_HOST_STAY v s

/-- RTC_WRITE (R482). -/
def execRtcWrite (r : Requester) (v : Word) (s : State) : Host.Outcome State Fault Refusal :=
  doneFor .pair s fun s => requestWrite r noMeasure Ix.PWR_RTC_TIME v s

/-- HK_WB_MIRROR (R49): 1 written to `HK_WB_CMD`. -/
def execHkWbMirror (r : Requester) (s : State) : Host.Outcome State Fault Refusal :=
  doneFor .pair s fun s => requestWrite r noMeasure Ix.HK_WB_CMD 1 s

/-- HK_WB_STAGED (R49): 2 written to `HK_WB_CMD`. -/
def execHkWbStaged (r : Requester) (s : State) : Host.Outcome State Fault Refusal :=
  doneFor .pair s fun s => requestWrite r noMeasure Ix.HK_WB_CMD 2 s

/-- HS_FORCE_WRITE: the forcing word of any action channel (R15, R174). -/
def execHsForceWrite (r : Requester) (c : Ch) (v : Word) (s : State) : Host.Outcome State Fault Refusal :=
  doneFor .pair s fun s => requestWrite r noMeasure (chForceIx c) v s

/-- LED_FORCE_WRITE (R15, R203). -/
def execLedForceWrite (r : Requester) (t : Str) (v : Word) (s : State) : Host.Outcome State Fault Refusal :=
  doneFor .pair s fun s => requestWrite r noMeasure (Ix.LED_FORCE t.val) v s

/-- MOT_FORCE_WRITE (R15). -/
def execMotForceWrite (r : Requester) (b : Mot) (v : Word) (s : State) : Host.Outcome State Fault Refusal :=
  doneFor .pair s fun s => requestWrite r noMeasure (Ix.MOT_FORCE b.val) v s

/-- MOT_CAL_OFFSET_CMD (R244). -/
def execMotCalOffsetCmd (r : Requester) (b : Mot) (emfMv : Nat) (raw offset : Int) (s : State) :
    Host.Outcome State Fault Refusal :=
  doneFor .pair s fun s => requestWrite r { noMeasure with emfMv := emfMv, raw := raw, offset := offset } Ix.MOT_CAL_CMD (toWord (b.val + 2)) s

/-- MOT_CAL_IDENTIFY_CMD (R244). -/
def execMotCalIdentifyCmd (r : Requester) (b : Mot) (emfMv res ind : Nat) (s : State) : Host.Outcome State Fault Refusal :=
  doneFor .pair s fun s => requestWrite r { noMeasure with emfMv := emfMv, res := res, ind := ind } Ix.MOT_CAL_CMD (toWord (b.val + 4)) s

/-- IMU_CAL_ZERO_CMD (R273, R274). -/
def execImuCalZeroCmd (r : Requester) (s : State) : Host.Outcome State Fault Refusal :=
  doneFor .pair s fun s => requestWrite r noMeasure Ix.IMU_CAL_CMD 1 s

/-- IMU_CAL_LEVEL_CMD (R274). -/
def execImuCalLevelCmd (r : Requester) (gravity : Int × Int × Int) (held : Bool) (s : State) :
    Host.Outcome State Fault Refusal :=
  doneFor .pair s fun s => requestWrite r { noMeasure with gravity := gravity, held := held } Ix.IMU_CAL_CMD 2 s

/-- IMU_CLEAR_WRITE (R272). -/
def execImuClearWrite (r : Requester) (v : Word) (s : State) : Host.Outcome State Fault Refusal :=
  doneFor .pair s fun s => requestWrite r noMeasure Ix.IMU_CLEAR v s

/-- TCH_CAL_CMD_WRITE (R293). -/
def execTchCalCmdWrite (r : Requester) (v : Word) (s : State) : Host.Outcome State Fault Refusal :=
  doneFor .pair s fun s => requestWrite r noMeasure Ix.TCH_CAL_CMD v s

/-- CAN_RECOVER_WRITE (R331). -/
def execCanRecoverWrite (r : Requester) (c : Can) (v : Word) (s : State) : Host.Outcome State Fault Refusal :=
  doneFor .pair s fun s => requestWrite r noMeasure (Ix.CAN_RECOVER c.val) v s

/-- CAN_TXB_CANCEL (R329): a 1 written to a pending bit. -/
def execCanTxbCancel (r : Requester) (c : Can) (hi : Bool) (v : Word) (s : State) : Host.Outcome State Fault Refusal :=
  doneFor .pair s fun s => requestWrite r noMeasure (if hi then Ix.CAN_TXB_PEND_HI c.val else Ix.CAN_TXB_PEND_LO c.val) v s

/-- CAN_TEST_WRITE (R342). -/
def execCanTestWrite (r : Requester) (c : Can) (v : Word) (s : State) : Host.Outcome State Fault Refusal :=
  doneFor .pair s fun s => requestWrite r noMeasure (Ix.CAN_TEST c.val) v s

/-- CAN_RX_SEL_WRITE (Table 14-8). -/
def execCanRxSelWrite (r : Requester) (v : Word) (s : State) : Host.Outcome State Fault Refusal :=
  doneFor .pair s fun s => requestWrite r noMeasure Ix.CAN_RX_SEL v s

/-- NM_FW_CLEAR_WRITE (R373). -/
def execNmFwClearWrite (r : Requester) (v : Word) (s : State) : Host.Outcome State Fault Refusal :=
  doneFor .pair s fun s => requestWrite r noMeasure Ix.NM_FW_CLEAR v s

/-- NM_OFF_SEL_WRITE (Table 15-7). -/
def execNmOffSelWrite (r : Requester) (v : Word) (s : State) : Host.Outcome State Fault Refusal :=
  doneFor .pair s fun s => requestWrite r noMeasure Ix.NM_OFF_SEL v s

/-- NM_OFF_CLEAR_WRITE (Table 15-7). -/
def execNmOffClearWrite (r : Requester) (v : Word) (s : State) : Host.Outcome State Fault Refusal :=
  doneFor .pair s fun s => requestWrite r noMeasure Ix.NM_OFF_CLEAR v s

/-- FAB_RC_CMD_WRITE (R393). -/
def execFabRcCmdWrite (r : Requester) (v : Word) (s : State) : Host.Outcome State Fault Refusal :=
  doneFor .pair s fun s => requestWrite r noMeasure Ix.FAB_RC_CMD v s

/-- FAB_ADDR_SEL_WRITE (R403). -/
def execFabAddrSelWrite (r : Requester) (v : Word) (s : State) : Host.Outcome State Fault Refusal :=
  doneFor .pair s fun s => requestWrite r noMeasure Ix.FAB_ADDR_SEL v s

/-- FAB_ROUTE_SEL_WRITE (Table 17-4). -/
def execFabRouteSelWrite (r : Requester) (v : Word) (s : State) : Host.Outcome State Fault Refusal :=
  doneFor .pair s fun s => requestWrite r noMeasure Ix.FAB_ROUTE_SEL v s

/-- FAB_RELOAD_CMD_WRITE (R424). -/
def execFabReloadCmdWrite (r : Requester) (v : Word) (s : State) : Host.Outcome State Fault Refusal :=
  doneFor .pair s fun s => requestWrite r noMeasure Ix.FAB_RELOAD_CMD v s

/-- FLT_CLEAR_WRITE (R460). -/
def execFltClearWrite (r : Requester) (v : Word) (s : State) : Host.Outcome State Fault Refusal :=
  doneFor .pair s fun s => requestWrite r noMeasure Ix.FLT_CLEAR v s

/-- FLT_LOG_SEL_WRITE (Table 19-9). -/
def execFltLogSelWrite (r : Requester) (v : Word) (s : State) : Host.Outcome State Fault Refusal :=
  doneFor .pair s fun s => requestWrite r noMeasure Ix.FLT_LOG_SEL v s

/-- OWNER_LOCK_SET (R496): 1 written to `LC_OWNER_CMD`. -/
def execOwnerLockSet (r : Requester) (s : State) : Host.Outcome State Fault Refusal :=
  doneFor .pair s fun s => requestWrite r noMeasure Ix.LC_OWNER_CMD 1 s

/-- OWNER_LOCK_CLEAR (R496): 2 written to `LC_OWNER_CMD`. -/
def execOwnerLockClear (r : Requester) (s : State) : Host.Outcome State Fault Refusal :=
  doneFor .pair s fun s => requestWrite r noMeasure Ix.LC_OWNER_CMD 2 s

/-- HST_IRQ_CAUSE_WRITE (R436). -/
def execHstIrqCauseWrite (r : Requester) (v : Word) (s : State) : Host.Outcome State Fault Refusal :=
  doneFor .pair s fun s => requestWrite r noMeasure Ix.HST_IRQ_CAUSE v s

/-- UPD_BITMAP_SEL_WRITE (Table 21-10). -/
def execUpdBitmapSelWrite (r : Requester) (v : Word) (s : State) : Host.Outcome State Fault Refusal :=
  doneFor .pair s fun s => requestWrite r noMeasure Ix.UPD_BITMAP_SEL v s

end Sys2Proof.Machine
end

