-- ==== Sys2Proof/Machine/Reply.lean ====
section
/-!
DEFINITION. The replies of the host port (R431–R434), of the diagnostic transport (R443, R449) and of the fabric (R407), and the
requester's READ and WRITE requests (R434).
-/
namespace Sys2Proof.Machine

/-! ## Host replies -/

/-- A reply frame of the host port: header, payload and CRC (Tables 18-2, 18-4). -/
def hostFrame (cmd tag st : Nat) (payload : List Byte) : List Byte :=
  let h := leBytes (cmd + 0x80) 1 ++ leBytes tag 1 ++ leBytes payload.length 2 ++ leBytes st 1 ++ [0, 0, 0] ++ payload
  h ++ leBytes (crc32 h) 4

/-- The oldest waiting entry of a command is answered: its reply is ready (R433), or goes out on DZ0 where it came from there
(R418). -/
def hostReply (cmd st : Nat) (rest : List Byte) (s : State) : State :=
  match s.hst.queue.find? (·.cmd == cmd) with
  | none => s
  | some e =>
    let frame := hostFrame cmd e.tag st (statusHead st ++ rest)
    let q := s.hst.queue.erase e
    if s.hst.carried.contains (none, cmd, e.tag) then
      { s with hst := { s.hst with queue := q, out := frame, carried := s.hst.carried.erase (none, cmd, e.tag) } }
    else raiseIrq 0 { s with hst := { s.hst with queue := q, replies := s.hst.replies ++ [frame] } }

/-- The commands of Table 18-4. -/
def knownCmd (cmd : Nat) : Bool := [0x01, 0x02, 0x03, 0x04, 0x05, 0x0F, 0x10, 0x11, 0x12, 0x13, 0x14].contains cmd

/-- The length of a TXN request fits its operation (Table 17-1). -/
def txnLenOk (b : List Byte) : Bool :=
  match leAt b 0 1 with
  | 0 | 4 | 5 => b.length == 2
  | 1 => b.length == 8
  | 2 => b.length == 4
  | 3 => b.length == 12
  | _ => false

/-- LEN fits the command (Table 18-4). -/
def lenOk (cmd : Nat) (b : List Byte) : Bool :=
  let n := b.length
  match cmd with
  | 0x01 => decide (n ≤ 256)
  | 0x02 => n % 2 == 0 && decide (2 ≤ n) && decide (n ≤ 126)
  | 0x03 => n % 6 == 0 && decide (6 ≤ n) && decide (n ≤ 252)
  | 0x04 => txnLenOk b
  | 0x05 => (match leAt b 0 1 with | 0 | 2 => n == 1 | 1 => n == 253 | _ => false)
  | 0x10 => n == 40
  | 0x11 | 0x14 => decide (4 ≤ n) && decide (n ≤ 4100)
  | _ => n == 0

/-- Why an entry is answered without being executed: BAD_CMD, BAD_LEN, BAD_VALUE for an undefined operation, or 0 where it
is executed (R432). -/
def entryError (e : HostEntry) : Nat :=
  if !knownCmd e.cmd then 0x30
  else if (e.cmd == 4 && decide (2 ≤ e.payload.length) && decide (5 < leAt e.payload 0 1))
      || (e.cmd == 5 && decide (1 ≤ e.payload.length) && decide (2 < leAt e.payload 0 1)) then 5
  else if !lenOk e.cmd e.payload then 0x31 else 0

/-- Entries at the front of the queue that are only answered (R432, R433). -/
def answerBad : List HostEntry → State → State
  | [], s => s
  | e :: es, s => if entryError e = 0 then s else answerBad es (hostReply e.cmd (entryError e) [] s)

/-- A host command is done: its reply, then the bad frames behind it. -/
def hostDone (cmd st : Nat) (rest : List Byte) (s : State) : State :=
  let t := hostReply cmd st rest s
  answerBad t.hst.queue t

/-! ## Sending a diagnostic message (ISO 15765-2) -/

/-- A channel of the diagnostic transport changed. -/
def updUds (f : Uds → Uds) (s : State) : State := { s with uds := f s.uds }

/-- The transport state of one CAN channel changed. -/
def updIso (c : Can) (f : UdsChan → UdsChan) (s : State) : State :=
  updUds (fun u => { u with chans := u.chans.set c (f u.chans[c]) }) s

/-- Diagnostic frames are CAN FD (R443). -/
def isoFd (c : Can) (s : State) : Bool := canMode c s == 2 && s.flag (Ix.DIAG_CAN c.val) 2

/-- The data length code that carries `n` bytes. -/
def dlcFor (n : Nat) : Nat := ((List.range 16).find? fun d => decide (n ≤ dlcLen d)).getD 15

/-- A diagnostic frame, padded with PAD (R443). -/
def isoFrame (c : Can) (b : List Byte) (s : State) : CanFrame :=
  let fd := isoFd c s
  let d := dlcFor (Nat.max 8 b.length)
  let pad : Byte := BitVec.ofNat 8 (s.fld (Ix.DIAG_TP c.val) 16 8)
  { id := s.num (Ix.DIAG_RESP c.val), ide := s.flag (Ix.DIAG_CAN c.val) 1, fdf := fd, brs := fd, esi := false, dlc := d,
    data := b ++ List.replicate (dlcLen d - b.length) pad }

/-- Put a diagnostic frame into buffer 57 (R443). -/
def isoPut (c : Can) (b : List Byte) (s : State) : State := putBuffer c 57 (isoFrame c b s) false s

/-- Begin to send a message: a single frame, or a first frame that waits for flow control. -/
def isoBegin (c : Can) (msg : List Byte) (s : State) : State :=
  let fd := isoFd c s
  let n := msg.length
  if n ≤ 7 then isoPut c (leBytes n 1 ++ msg) s
  else if fd && decide (n ≤ 62) then isoPut c ([0] ++ leBytes n 1 ++ msg) s
  else
    let k := if fd then 62 else 6
    updIso c (fun x => { x with tx := some { bytes := msg, sent := k, sn := 1, block := none, waitFc := true, at_ := s.now } })
      (isoPut c (leBytes (0x10 + n / 256 % 16) 1 ++ leBytes n 1 ++ msg.take k) s)

/-- Buffer 57 is in use on a channel. -/
def isoBusy (c : Can) (s : State) : Bool :=
  (s.uds.chans[c]).tx.isSome || (s.can.ctl[c]).bufs.any fun b => b.buf == 57

/-- Send a response: at once, or after those before it. -/
def isoSend (c : Can) (msg : List Byte) (s : State) : State :=
  if isoBusy c s then updIso c (fun x => { x with out := x.out ++ [msg] }) s else isoBegin c msg s

/-- The next waiting response begins. -/
def isoNextOut (c : Can) (s : State) : State :=
  match (s.uds.chans[c]).out with
  | [] => s
  | m :: ms => isoBegin c m (updIso c (fun x => { x with out := ms }) s)

/-- The next consecutive frame of the message being sent. -/
def isoConsecutive (c : Can) (t : IsoTx) (s : State) : State :=
  let k := Nat.min (if isoFd c s then 63 else 7) (t.bytes.length - t.sent)
  let blk := t.block.map (· - 1)
  let t' : IsoTx := { t with sent := t.sent + k, sn := t.sn + 1, block := blk, at_ := s.now,
                             waitFc := blk == some 0 && decide (t.sent + k < t.bytes.length) }
  updIso c (fun x => { x with tx := some t' }) (isoPut c (leBytes (0x20 + t.sn % 16) 1 ++ slice t.bytes t.sent k) s)

/-- The frame in buffer 57 has been sent: the message goes on, waits for flow control, or is done. -/
def isoSent (c : Can) (s : State) : State :=
  match (s.uds.chans[c]).tx with
  | none => isoNextOut c s
  | some t =>
    if t.waitFc then updIso c (fun x => { x with tx := some { t with at_ := s.now } }) s
    else if t.sent < t.bytes.length then isoConsecutive c t s
    else isoNextOut c (updIso c (fun x => { x with tx := none }) s)

/-- A flow control: continue, wait, or abandon the message. -/
def isoFlow (c : Can) (b : List Byte) (s : State) : State :=
  match (s.uds.chans[c]).tx with
  | none => s
  | some t =>
    if !t.waitFc then s
    else match leAt b 0 1 % 16 with
      | 0 =>
        let bs := leAt b 1 1
        isoConsecutive c { t with waitFc := false, block := if bs = 0 then none else some bs } s
      | 1 => updIso c (fun x => { x with tx := some { t with at_ := s.now } }) s
      | _ => isoNextOut c (updIso c (fun x => { x with tx := none }) s)

/-! ## Sessions and responses (R444, R446, R449) -/

/-- The session of a channel's tester. -/
def sessOf (c : Can) (s : State) : Nat := if s.uds.session != 1 && s.uds.chan == c.val then s.uds.session else 1

/-- A request of a tester begins its service: it leaves the waiting list, is counted, restarts S3 and notes the request (R444,
Table 18-11). -/
def udsStart (c : Can) (sid : Nat) (s : State) : State :=
  let w := s.uds.waiting.eraseP fun q => q.chan == c.val && leAt q.bytes 0 1 == sid
  let s1 := updUds (fun u => { u with waiting := w, lastAt := if u.session != 1 && u.chan == c.val then s.now else u.lastAt }) s
  noteRequest (.tester c) (s1.bump Ix.DIAG_COUNTS 0 16)

/-- A negative response (R449). -/
def udsNeg (c : Can) (sid nrc : Nat) (s : State) : State :=
  isoSend c ([0x7F] ++ leBytes sid 1 ++ leBytes nrc 1) (s.bump Ix.DIAG_COUNTS 16 8)

/-- A positive response (R446); beyond 4,095 bytes it is NRC 0x14. -/
def udsPos (c : Can) (sid : Nat) (payload : List Byte) (s : State) : State :=
  if 4094 < payload.length then udsNeg c sid 0x14 s else isoSend c (leBytes (sid + 0x40) 1 ++ payload) s

/-- The services that answer in SCRAPPED: default session, DTCs, reads, TesterPresent (Table 0-5, 20). -/
def scrappedRefuses (sid sub : Nat) (s : State) : Bool :=
  s.life == .scrapped && !(sid == 0x19 || sid == 0x22 || sid == 0x3E || (sid == 0x10 && sub % 128 == 1))

/-- The first test that a service fails (Table 18-10): its sessions (bit n for session n), its length, its privilege. -/
def udsGate (c : Can) (sid sub sessions : Nat) (lengthOk : Bool) (priv : Nat) (s : State) : Option Nat :=
  if scrappedRefuses sid sub s then some 0x11
  else if nbits sessions (sessOf c s) 1 = 0 then some 0x7F
  else if !lengthOk then some 0x13
  else if privOf (.tester c) s < priv then some 0x33
  else none

/-- The result of a routine is kept for RoutineControl 0x03. -/
def keepResult (id : Nat) (r : List Byte) (s : State) : State :=
  updUds (fun u => { u with results := (id, r) :: u.results.filter (·.1 != id) }) s

/-- The positive response of a routine's start, which is also its result. -/
def routineDone (c : Can) (id : Nat) (r : List Byte) (s : State) : State :=
  udsPos c 0x31 ([0x01] ++ beBytes id 2 ++ r) (keepResult id r s)

/-- The sessions of RoutineControl and of the services a non-default session opens: programming and extended. -/
def progExt : Nat := 2 ^ 2 + 2 ^ 3

/-! ## Replies to any requester -/

/-- The request of a type that waits longest from a node. -/
def waitingFrom (node typ : Nat) (s : State) : Option FabFrame := s.fab.rxq.find? fun f => f.src == node && f.typ == typ

/-- Answer a fabric request that waits (R407–R409). -/
def fabAnswer (node typ st : Nat) (rest : List Byte) (s : State) : State :=
  match waitingFrom node typ s with
  | none => s
  | some f => sendReply f (typ + 1) (statusHead st ++ rest) (updFab (fun x => { x with rxq := x.rxq.erase f }) s)

/-- The reply to a request of type READ, WRITE or TXN: host command `cmd`, fabric type, or routine `id` (R434, Table 18-9). -/
def replyTo (r : Requester) (cmd id st : Nat) (rest : List Byte) (s : State) : State :=
  match r with
  | .host => hostDone cmd st rest s
  | .fabric n => fabAnswer n (0x0E + 2 * cmd) st rest s
  | .tester c => if id = 0 then s else routineDone c id (statusHead st ++ rest) s

/-! ## READ and WRITE requests (R434, Table 17-1) -/

/-- The words of a READ, in request order. -/
def readAll (r : Requester) : List Nat → State → List Byte × State
  | [], s => ([], s)
  | i :: is, s =>
    let a := readParam r (i % 16384) s
    let b := readAll r is a.2
    (leBytes a.1.toNat 4 ++ b.1, b.2)

/-- The records of a WRITE, in order, and a status for each. -/
def writeAll (r : Requester) : List (Nat × Word) → State → List Byte × State
  | [], s => ([], s)
  | (i, v) :: rs, s =>
    let a := writeFree r (i % 16384) v s
    let b := writeAll r rs a.2
    (leBytes a.1 1 ++ b.1, b.2)

/-- READ_REQUEST (R434, R58, R63). -/
def execReadRequest (r : Requester) (at_ : Nat) (idx : List Nat) (s0 : State) : Host.Outcome State Fault Refusal :=
  doneFor .pair s0 fun s0 =>
    let a := readAll r (idx.take 63) (noteRequest r (s0.reach at_))
    replyTo r 0x02 0 0 a.1 a.2

/-- WRITE_REQUEST (R434, R57, R63, R65). -/
def execWriteRequest (r : Requester) (at_ : Nat) (recs : List (Nat × Word)) (s0 : State) : Host.Outcome State Fault Refusal :=
  doneFor .pair s0 fun s0 =>
    let a := writeAll r (recs.take 42) (noteRequest r (s0.reach at_))
    replyTo r 0x03 0 0 a.1 a.2

end Sys2Proof.Machine
end

