-- ==== Sys2Proof/Machine/Txn.lean ====
section
/-!
DEFINITION. Transactions (03_parameters_and_transactions.md, R66–R80): begin, stage, read, commit, abort, status, the inactivity
limit, and the commit event.
-/
namespace Sys2Proof.Machine

/-! ## The operations (Table 3-4) -/

/-- A requester owns the transaction. -/
def ownsTxn (r : Requester) (s : State) : Bool := s.txn.st != .idle && s.txn.owner == some r

/-- An operation of the owner restarts the inactivity time (R78). -/
def touchTxn (r : Requester) (s : State) : State :=
  if ownsTxn r s then { s with txn := { s.txn with lastOp := s.now } } else s

/-- TXN_BEGIN (R66). -/
def txnBegin (r : Requester) (s0 : State) : Nat × State :=
  let s := touchTxn r s0
  if s.txn.st != .idle || !s.started then (1, s)
  else (0, { s with txn := { st := .opened, owner := some r, staged := [], limit := s.num Ix.TXN_TIMEOUT, lastOp := s.now,
                             handle := none, due := none } })

/-- Why an operation of the owner alone does not run: NO_TXN, NOT_OWNER (R67, Table 3-5). -/
def notMine (r : Requester) (s : State) : Option Nat :=
  if s.txn.st == .idle then some 2 else if s.txn.owner != some r then some 3 else none

/-- Stage a value: the index keeps its slot where it is staged already (R69). -/
def stageValue (x : Staged) (s : State) : State :=
  let l := s.txn.staged
  let l' := if l.any fun y => y.idx == x.idx then l.map fun y => if y.idx == x.idx then x else y else l ++ [x]
  { s with txn := { s.txn with staged := l' } }

/-- TXN_WRITE (R67–R69). -/
def txnWrite (r : Requester) (i : Nat) (v : Word) (s0 : State) : Nat × State :=
  match notMine r s0 with
  | some st => (st, s0)
  | none =>
    let s := touchTxn r s0
    if s.txn.st == .sealed then (0x0A, s)
    else
      let eff := mayStage r i s
      let w1c := match paramRow i with | some x => x.access == .w1c | none => false
      if eff && !w1c && !valueOk i v s then (5, s)
      else if 512 ≤ s.txn.staged.length ∧ !(s.txn.staged.any fun y => y.idx == i) then (4, s)
      else (0, stageValue { idx := i, val := v, eff := eff } s)

/-- TXN_READ (R70): the value, and the state after it. -/
def txnRead (r : Requester) (i : Nat) (s0 : State) : Word × State :=
  let s := touchTxn r s0
  match (if ownsTxn r s then s.txn.staged.find? fun y => y.idx == i else none) with
  | none => readParam r i s
  | some x =>
    if !x.eff then (0, s)
    else match paramRow i with
      | some p => if p.access = .w1c then readParam r i s else (cleanValue i x.val, s)
      | none => (0, s)

/-- The revolution of a commit lies more than 32,767 ahead of the clock's present one, or its FREE instant more than 60 s
(R71). -/
def commitFar (e : EventSpec) (s : State) : Bool :=
  if e.clock = 8 then decide (secP 60 < aheadOf e s)
  else
    let rev := (s.tt.clocks[pcOf e.clock]).shown s.now / 65536
    decide (32767 < (e.due / 65536 + 65536 - rev % 65536) % 65536)

/-- The event a TXN_COMMIT posts: at the instant it names, or at the first beyond the horizon (R71). -/
def commitSpec (a : Option CommitAt) (s : State) : EventSpec :=
  match a with
  | none => freeEvent (soonest s) 1 0 .txnCommit 0 s
  | some x =>
    if x.clock = 15 then freeEvent (soonest s) 1 0 .txnCommit 0 s
    else { clock := x.clock, due := x.due, rep := 1, period := 0, act := .txnCommit, pool := 0 }

/-- TXN_COMMIT (R71, R72, R76). -/
def txnCommit (r : Requester) (a : Option CommitAt) (s0 : State) : Nat × State :=
  match notMine r s0 with
  | some st => (st, s0)
  | none =>
    let s := settle (touchTxn r s0)
    if s.txn.st == .sealed then (0x0A, s)
    else
      let e := commitSpec a s
      if noClock e.clock s then (0x0C, s)
      else if tooLate e s then (7, s)
      else if !isBehind e s && commitFar e s then (0x0B, s)
      else
        let t := placeEvent 4095 false e (dueOf e s) s
        (0, settle { t with txn := { t.txn with st := .sealed, handle := some (4095, nextGen 4095 s),
                                                due := some { clock := e.clock, due := e.due } } })

/-- TXN_ABORT (R77). -/
def txnAbort (r : Requester) (s0 : State) : Nat × State :=
  match notMine r s0 with
  | some st => (st, s0)
  | none =>
    let t := rollBack 9 1 (touchTxn r s0)
    if t.txn.st == .idle then (0, t) else (7, t)

/-- TXN_STATUS (R70, Table 3-4): the two words as reads of the requester. -/
def txnStatus (r : Requester) (s0 : State) : List Byte × State :=
  let s := touchTxn r s0
  (leBytes (readParam r Ix.TXN_STATE s).1.toNat 4 ++ leBytes (readParam r Ix.TXN_STAGED s).1.toNat 4, s)

/-- An operation of a requester with its reply: host command TXN, fabric type 0x16, or routine 0xF100 + op, which a session other
than the default opens (R434, R448). -/
def txnRequest (r : Requester) (op : Nat) (f : State → Nat × List Byte × State) (s : State) : State :=
  let run := fun (t : State) =>
    let a := f t
    replyTo r 0x04 (0xF100 + op) a.1 a.2.1 a.2.2
  match r with
  | .tester c =>
    let t := udsStart c 0x31 s
    match udsGate c 0x31 1 progExt true 0 t with
    | some n => udsNeg c 0x31 n t
    | none => run t
  | _ => run (noteRequest r s)

/-- A status with no further bytes. -/
def plain (a : Nat × State) : Nat × List Byte × State := (a.1, [], a.2)

/-- TXN_BEGIN (R66). -/
def execTxnBegin (r : Requester) (s : State) : Host.Outcome State Fault Refusal :=
  doneFor .pair s fun s => txnRequest r 0 (fun t => plain (txnBegin r t)) s

/-- TXN_WRITE (R68). -/
def execTxnWrite (r : Requester) (idx : Nat) (v : Word) (s : State) : Host.Outcome State Fault Refusal :=
  doneFor .pair s fun s => txnRequest r 1 (fun t => plain (txnWrite r (idx % 16384) v t)) s

/-- TXN_READ (R70). -/
def execTxnRead (r : Requester) (idx : Nat) (s : State) : Host.Outcome State Fault Refusal :=
  doneFor .pair s fun s => txnRequest r 2 (fun t => let a := txnRead r (idx % 16384) t; (0, leBytes a.1.toNat 4, a.2)) s

/-- TXN_COMMIT (R71). -/
def execTxnCommit (r : Requester) (inst : Option CommitAt) (s : State) : Host.Outcome State Fault Refusal :=
  doneFor .pair s fun s => txnRequest r 3 (fun t => plain (txnCommit r inst t)) s

/-- TXN_ABORT (R77). -/
def execTxnAbort (r : Requester) (s : State) : Host.Outcome State Fault Refusal :=
  doneFor .pair s fun s => txnRequest r 4 (fun t => plain (txnAbort r t)) s

/-- TXN_STATUS (R70). -/
def execTxnStatus (r : Requester) (s : State) : Host.Outcome State Fault Refusal :=
  doneFor .pair s fun s => txnRequest r 5 (fun t => let a := txnStatus r t; (0, a.1, a.2)) s

/-- TXN_TIMEOUT (R78): an OPEN transaction without an operation of its owner for its limit. -/
def txnTimeout (s : State) : State :=
  if s.txn.st == .opened then
    report 0x003 0 ((endTxn 8 0 0 (s.reach (s.txn.lastOp + msP s.txn.limit))).bump Ix.TXN_EXPIRIES 0 32)
  else s

/-- TXN_TIMEOUT (R78). -/
def execTxnTimeout (s : State) : Host.Outcome State Fault Refusal := doneFor .pair s fun s => txnTimeout s

/-! ## The commit event (R73–R75) -/

/-- The staged writes that take effect: effective at staging and alive now (R73 check 1). -/
def liveStaged (s : State) : List Staged :=
  s.txn.staged.filter fun x => x.eff && match paramRow x.idx with | some p => aliveNow p.alive s | none => false

/-- The words as they would stand after the commit (R73). -/
def standing (xs : List Staged) (s : State) : State :=
  forEach xs (fun x t => match paramRow x.idx with
    | some p => if p.command || p.access == .w1c then t else t.put x.idx (cleanValue x.idx x.val)
    | none => t) s

/-- A word of the pools. -/
def isPool (i : Nat) : Bool := decide (Ix.TT_POOL_1 ≤ i) && decide (i < Ix.TT_POOL_1 + 8)

/-- The pool rules of R141 broken by the standing words: the sum, the shared range, or a pool below what it holds. -/
def poolsBad (after s : State) : Bool :=
  decide (4095 < poolSum after) || decide (sharedSize after < poolUse 0 s)
    || (List.range 8).any fun k => decide (after.num (Ix.TT_POOL_1 + k) < poolUse (k + 1) s)

/-- The first staged index that breaks a rule of ownership; for a rule of the pools, the first `TT_POOL_n` write (R73 check 2,
R141). -/
def conflictAt (xs : List Staged) (after s : State) : Option Nat :=
  (xs.find? fun x => !ownershipOk x.idx after || (isPool x.idx && poolsBad after s)).map (·.idx)

/-- The first staged index whose range against another word fails (R73 check 3). -/
def crossAt (xs : List Staged) (after : State) : Option Nat := (xs.find? fun x => !crossOk x.idx after).map (·.idx)

/-- Some staged index lies on pages `a` to `b`. -/
def touches (a b : Nat) (xs : List Staged) : Bool := xs.any fun x => decide (a ≤ x.idx / 256) && decide (x.idx / 256 ≤ b)

/-- The binding a clock's word names: its source, and for an EXT clock its publisher and the publisher's clock (R592). -/
def bindingWord (w : Word) : Nat := if fld w 0 4 = 7 then 7 + fld w 8 15 * 16 else fld w 0 4

/-- What services do at the commit instant where their words changed (R74, R251, R259, R281, R325, R455, R543, R592). -/
def afterCommit (xs : List Staged) (old s : State) : State :=
  let s1 := forEach (List.finRange 8) (fun p t =>
    let w := t.word (Ix.TT_PC_CFG p.val)
    if bindingWord w = bindingWord (old.word (Ix.TT_PC_CFG p.val)) then t else rebindClock p (fld w 0 4) t) s
  let s2 := forEach xs (fun x t => if x.idx = Ix.FLT_SEV_SET then sevSet (cleanValue x.idx x.val) t else t) s1
  let s3 := forEach (List.finRange 3) (fun c t =>
    if t.word (Ix.CAN_CFG c.val) == old.word (Ix.CAN_CFG c.val) && t.word (Ix.CAN_NBT c.val) == old.word (Ix.CAN_NBT c.val)
        && t.word (Ix.CAN_DBT c.val) == old.word (Ix.CAN_DBT c.val) then t else canConfigChange c t) s2
  let s4 := onlyIf (touches 0x25 0x26 xs) (nmCommit old) (onlyIf (touches 0x28 0x29 xs) fabPorts s3)
  let s5 := onlyIf (touches 0x1E 0x1E xs) refreshChg s4
  let s6 := onlyIf (touches 0x01 0x01 xs || touches 0x0C 0x19 xs) applyLimits s5
  let s7 := onlyIf (touches 0x0C 0x11 xs) serveAll (forEach (List.finRange 42) (fun c t =>
    if pwmWord c t == pwmWord c old then t else restartPwm c t) s6)
  let s8 := onlyIf (touches 0x12 0x14 xs) (fun t => recompose (List.finRange 4) (forEach (List.finRange 4) initString t)) s7
  let s9 := onlyIf (touches 0x1A 0x1A xs) (fun t => forEach (List.finRange 8) (fun n u =>
    ensureAn n (if u.word (Ix.IN_AN_CFG n.val) == old.word (Ix.IN_AN_CFG n.val) then u else endSeries (anList n) u)) (quietSwitches t)) s8
  onlyIf (touches 0x1C 0x1D xs) (fun t =>
    if framePeriodP t = framePeriodP old ∧ tchScans t = tchScans old then t else postFrames t) s9

/-- The commit at its event instant (R73): whole, or rolled back with CONFLICT or BAD_VALUE. -/
def commitNow (s : State) : State :=
  match s.txn.owner with
  | none => s
  | some r =>
    let xs := liveStaged s
    let after := standing xs s
    match conflictAt xs after s with
    | some i => endTxn 6 0 i s
    | none =>
      match crossAt xs after with
      | some i => endTxn 5 0 i s
      | none =>
        let m := freeMeasured s
        let t := forEach xs (fun x u => (applyWrite r m x.idx x.val u).2) (spendMeasured s)
        let t1 := (t.putNat Ix.TXN_COMMIT_SEQ (t.num Ix.TXN_COMMIT_SEQ + 1)).putNat Ix.TXN_LAST_COMMIT_TIME t.us
        endTxn 0 0 0 (afterCommit xs s t1)

/-- A TXN_COMMIT event fires. -/
def fireCommit (s : State) : State := if s.txn.st == .sealed then commitNow s else s

/-- EVENT_TXN_COMMIT (R73). -/
def txnCommitEvent (slot : Nat) (s : State) : State :=
  match takeEvent slot s with
  | some (e, t) => match e.spec.act with | .txnCommit => fireCommit t | _ => s
  | none => s

/-- EVENT_TXN_COMMIT (R73). -/
def execEventTxnCommit (slot : Nat) (s : State) : Host.Outcome State Fault Refusal :=
  doneFor .coreRun s fun s => txnCommitEvent slot s

end Sys2Proof.Machine
end

