-- ==== Sys2Proof/Machine/HostPort.lean ====
section
/-!
DEFINITION. The host port (18_host_and_diagnostics.md, R427–R442): HSPI transactions, the queue, host commands, the host port
reset, image sessions and key staging.
-/
namespace Sys2Proof.Machine

/-! ## HSPI transactions (R428–R433) -/

/-- The port is powered and the application pair serves it (Table 5-1, R430). -/
def hspiOn (s : State) : Bool :=
  s.procs.app == .running && (s.pw.pw == .run || s.pw.pw == .doze || s.pw.pw == .standby)

/-- Entries taken: commands not yet answered and replies not yet fetched (R433). -/
def entriesTaken (s : State) : Nat := s.hst.queue.length + s.hst.replies.length

/-- HIRQ is driven low (R436). -/
def hirqLow (s : State) : Bool := (s.word Ix.HST_IRQ_CAUSE &&& s.word Ix.HST_IRQ_EN) != 0

/-- The status word (Table 18-3). -/
def statusWord (s : State) : Nat :=
  Nat.min 63 s.hst.replies.length + (32 - entriesTaken s) % 64 * 2 ^ 6 + b2n s.hst.crcErr * 2 ^ 12 + b2n s.hst.full * 2 ^ 13
    + b2n (hirqLow s) * 2 ^ 14 + b2n s.hst.startedBit * 2 ^ 15 + 0xC7 * 2 ^ 16

/-- The port's state changed. -/
def updHst (f : HostPort → HostPort) (s : State) : State := { s with hst := f s.hst }

/-- A transaction in STANDBY whose first SCK edge comes less than 100 µs after HSPI_CS falls is ignored (R430). -/
def tooEarly (sck : Nat) (s : State) : Bool := s.pw.pw == .standby && decide (sck < 100)

/-- A transaction begins at an instant: none where the port has no power or ignores it (R430); the CB7 is in RUN again (R105). -/
def hspiBegin (at_ sck : Nat) (s0 : State) : Option State × State :=
  if !hspiOn s0 then (none, s0)
  else
    let s := s0.reach at_
    if tooEarly sck s then
      (none, updHst (fun h => { h with out := [0xFF, 0xFF, 0xFF, 0xFF] }) ((leaveStandby s).bump Ix.HST_COUNTS 16 8))
    else (some (leaveStandby s), s)

/-- A whole frame of at most `most` payload bytes, with its CRC right (R431, R432). -/
def frameOk (most : Nat) (b : List Byte) : Bool :=
  let len := leAt b 2 2
  decide (len ≤ most) && decide (len + 12 ≤ b.length) && crc32 (b.take (len + 8)) == leAt b (len + 8) 4

/-- The command entry of a frame. -/
def entryOf (b : List Byte) : HostEntry := { cmd := leAt b 0 1, tag := leAt b 1 1, payload := slice b 8 (leAt b 2 2) }

/-- A frame arrives: discarded under R432 or R433, else it takes an entry. -/
def hostFrameIn (most : Nat) (b : List Byte) (whole : Bool) (s : State) : State :=
  if !whole || !frameOk most b then updHst (fun h => { h with crcErr := true }) (s.bump Ix.HST_COUNTS 0 8)
  else if 32 ≤ entriesTaken s then updHst (fun h => { h with full := true }) (s.bump Ix.HST_COUNTS 8 8)
  else
    let t := updHst (fun h => { h with queue := h.queue ++ [entryOf b] }) s
    answerBad t.hst.queue t

/-- HSPI_SEND (R428, R432, R433): `sck` is the time from the fall of HSPI_CS to the first SCK edge in µs; `whole` says that HSPI_CS
rose after the frame was complete. -/
def execHspiSend (at_ sck : Nat) (frame : List Byte) (whole : Bool) (s : State) : Host.Outcome State Fault Refusal :=
  doneFor .pairQuiet s fun s =>
    let a := hspiBegin at_ sck s
    match a.1 with | some t => hostFrameIn 4112 frame whole t | none => a.2

/-- A status word is shifted out: its two discard bits start afresh (Table 18-3). -/
def shiftStatus (rest : List Byte) (s : State) : State :=
  updHst (fun h => { h with out := leBytes (statusWord s) 4 ++ rest, crcErr := false, full := false }) s

/-- FETCH: the status word, then the oldest ready reply, which leaves the port where its last byte was clocked out (R429). -/
def hspiFetch (whole : Bool) (s : State) : State :=
  match s.hst.replies with
  | [] => shiftStatus [] s
  | f :: fs =>
    let t := shiftStatus f s
    if whole then updHst (fun h => { h with replies := fs }) t else t

/-- HSPI_FETCH (R428, R429). -/
def execHspiFetch (at_ sck : Nat) (whole : Bool) (s : State) : Host.Outcome State Fault Refusal :=
  doneFor .pairQuiet s fun s =>
    let a := hspiBegin at_ sck s
    match a.1 with | some t => hspiFetch whole t | none => a.2

/-- HSPI_STATUS (R428). -/
def execHspiStatus (at_ sck : Nat) (s : State) : Host.Outcome State Fault Refusal :=
  doneFor .pairQuiet s fun s =>
    let a := hspiBegin at_ sck s
    match a.1 with | some t => shiftStatus [] t | none => a.2

/-- HSPI_UNKNOWN_OPCODE (R428): ignored and counted. -/
def execHspiUnknownOpcode (at_ sck : Nat) (s : State) : Host.Outcome State Fault Refusal :=
  doneFor .pairQuiet s fun s =>
    let a := hspiBegin at_ sck s
    match a.1 with | some t => t.bump Ix.HST_COUNTS 16 8 | none => a.2

/-! ## PING and AUTH (R434, R484) -/

/-- PING (Table 18-4). -/
def execPing (bytes : List Byte) (s : State) : Host.Outcome State Fault Refusal :=
  doneFor .pair s fun s => hostDone 0x01 0 (bytes.take 256) (noteRequest .host s)

/-- Byte 4 of an AUTH reply: the privilege in force. -/
def authBytes (s : State) : List Byte := leBytes (privOf .host s) 1 ++ [0, 0, 0]

/-- AUTH CHALLENGE: BUSY within the refusal of R483 and while SEC_ENTROPY is active (R505). -/
def authChallenge (s : State) : State :=
  if lockedOut 0 s || !s.sec.entropyOk then hostDone 0x05 1 (authBytes s) s
  else
    let a := issueChallenge 0 s
    hostDone 0x05 0 (authBytes a.2 ++ a.1) a.2

/-- AUTH_CHALLENGE (R484). -/
def execAuthChallenge (s : State) : Host.Outcome State Fault Refusal :=
  doneFor .pair s fun s => authChallenge (noteRequest .host s)

/-- AUTH_RESPOND (R480, R484): the privilege in force follows the outcome. -/
def execAuthRespond (response : List Byte) (s : State) : Host.Outcome State Fault Refusal :=
  doneFor .pair s fun s =>
    let a := respond 0 response (noteRequest .host s)
    hostDone 0x05 0 (authBytes a.2) a.2

/-- AUTH_DROP (R481, R484). -/
def execAuthDrop (s : State) : Host.Outcome State Fault Refusal :=
  doneFor .pair s fun s =>
    let t := dropPriv 0 (noteRequest .host s)
    hostDone 0x05 0 (authBytes t) t

/-! ## Image sessions (R437–R441) -/

/-- The image session changed. -/
def updImg (f : ImgSession → ImgSession) (s : State) : State := updUpd (fun u => { u with session := u.session.map f }) s

/-- An open session of an owner kind is suspended; HIRQ cause 4 says so (R435, R438). -/
def suspendImg (uds : Bool) (s : State) : State :=
  match s.upd.session with
  | some x => if x.st = 1 ∧ x.uds = uds then raiseIrq 4 (updImg (fun y => { y with st := 2, at_ := s.now }) s) else s
  | none => s

/-- The host port is reset (R435): queue, transaction, host words, privilege, image session, status bit 15 and causes. -/
def hostPortReset (s : State) : State :=
  let s1 := updHst (fun h => { h with queue := [], replies := [], carried := [] }) s
  let s2 := (requesterGone .host s1).put Ix.MODE_HOST_STAY 0
  let s3 := dropPriv 0 { s2 with bn := { s2.bn with hostWritten := [] } }
  let s4 := updHst (fun h => { h with startedBit := false }) (suspendImg false s3)
  (s4.put Ix.HST_IRQ_CAUSE 0).bump Ix.HST_COUNTS 24 8

/-- HOST_RESET (R435): the RESET reply is the only entry left. -/
def hostReset (s : State) : State :=
  match s.hst.queue.find? (·.cmd == 0x0F) with
  | none => hostPortReset s
  | some e => hostDone 0x0F 0 [] (updHst (fun h => { h with queue := [e] }) (hostPortReset s))

/-- HOST_RESET (R435). -/
def execHostReset (s : State) : Host.Outcome State Fault Refusal := doneFor .pair s fun s => hostReset (noteRequest .host s)

/-- HSPI_CS_STUCK_LOW (R435): 50 ms low with no SCK edge. -/
def execHspiCsStuckLow (at_ : Nat) (s : State) : Host.Outcome State Fault Refusal :=
  doneFor .pair s fun s => if hspiOn s then hostPortReset (leaveStandby (s.reach at_)) else s

/-- The Hall Pass bits of an image command: moving, energy low, mode (R437, Table 18-5). -/
def imgDenied (s : State) : Nat :=
  packBits [!stationary s, energyLow s, s.modes.mode != .watch && s.modes.mode != .workshop]

/-- Why R437 refuses: UPDATE_HELD_BY_OWNER, HALL_PASS_DENIED, or none. -/
def imgRefusal (s : State) : Option Nat :=
  if s.sec.owner.isSome then some 0x41 else if imgDenied s = 0 then none else some 0x40

/-- Bytes of a record from units. -/
def unitBytes (total : Nat) (g : Nat × Nat) : Nat := Nat.min total (16 * g.2) - 16 * g.1

/-- The progress record (Table 18-6). -/
def progressRecord (x : ImgSession) : List Byte :=
  let recv := (x.got.map (unitBytes x.total)).sum
  let high := match x.got.getLast? with | some g => Nat.min x.total (16 * g.2) | none => 0
  let gaps := x.got.length - (match x.got with | (0, _) :: _ => 1 | _ => 0)
  leBytes (imgNext x) 4 ++ leBytes recv 4 ++ leBytes high 4 ++ leBytes gaps 4 ++ leBytes x.total 4

/-- The record of the session, zeros without one. -/
def progressNow (s : State) : List Byte := match s.upd.session with | some x => progressRecord x | none => List.replicate 20 0

/-- Bank S holds sprig work: a bunch beyond GATHERING that no session brought (R438). -/
def sprigWork (s : State) : Bool := s.upd.session.isNone && decide (3 ≤ s.upd.st)

/-- Open a new session (R438): what Bank S held is discarded, the store kept. -/
def imgOpen (uds : Bool) (total : Nat) (sha : Option (List Byte)) (s : State) : State :=
  let s1 := bankEmpty (onlyIf (sprigWork s) (updLast 8) s)
  let x : ImgSession := { uds := uds, total := total, sha := sha, got := [], st := 1, at_ := s.now }
  raiseIrq 4 (bankState 1 (updUpd (fun u => { u with session := some x }) s1))

/-- IMG_BEGIN (R437, R438): the status, and the state after it. -/
def imgBegin (uds : Bool) (total : Nat) (replace : Bool) (sha : Option (List Byte)) (s : State) : Nat × State :=
  match imgRefusal s with
  | some st => (st, s)
  | none =>
    let sizeOk := decide (16 ≤ total) && decide (total ≤ 8388608)
    match s.upd.session with
    | some x =>
      if x.st = 2 ∧ x.total = total ∧ (sha.isNone ∨ x.sha = sha) then
        (0, raiseIrq 4 (updImg (fun y => { y with st := 1, uds := uds, at_ := s.now }) s))
      else if !replace then (1, s)
      else if !sizeOk then (5, s)
      else (0, imgOpen uds total sha s)
    | none =>
      if !sizeOk then (5, s)
      else if sprigWork s && !replace then (1, s)
      else (0, imgOpen uds total sha s)

/-- The reply of an image command: byte 4 of a denial holds its bits, else the progress record (Tables 18-4, 18-5). -/
def imgReply (cmd st : Nat) (rest : List Byte) (s : State) : State :=
  hostDone cmd st (if st = 0x40 then leBytes (imgDenied s) 1 ++ [0, 0, 0] else rest) s

/-- IMG_BEGIN (R438). -/
def execImgBegin (total : Nat) (replace : Bool) (sha : List Byte) (s : State) : Host.Outcome State Fault Refusal :=
  doneFor .pair s fun s =>
    let a := imgBegin false total replace (some sha) (noteRequest .host s)
    imgReply 0x10 a.1 (progressNow a.2) a.2

/-- A unit has been received. -/
def unitGot (got : List (Nat × Nat)) (u : Nat) : Bool := got.any fun g => decide (g.1 ≤ u) && decide (u < g.2)

/-- The units `a` to `b` − 1 join those received. -/
def addUnits : List (Nat × Nat) → Nat → Nat → List (Nat × Nat)
  | [], a, b => [(a, b)]
  | (c, d) :: t, a, b =>
    if b < c then (a, b) :: (c, d) :: t
    else if d < a then (c, d) :: addUnits t a b
    else addUnits t (Nat.min a c) (Nat.max b d)

/-- Program the units of a block that have not been received (R439). -/
def programUnits (offset : Nat) (data : List Byte) (got : List (Nat × Nat)) (m : Mem) : Mem :=
  ((chunks 16 data).zipIdx).foldl (fun m x =>
    if unitGot got (offset / 16 + x.2) then m else memWrite m (offset + 16 * x.2) x.1) m

/-- Offset and length of a block fit a total (R439). -/
def blockFits (offset len total : Nat) : Bool :=
  offset % 16 == 0 && decide (offset < total) && decide (offset + len ≤ total) && (len % 16 == 0 || offset + len == total)

/-- IMG_WRITE with data (R437, R439): the status, and the state after it. -/
def imgWrite (uds : Bool) (offset : Nat) (data : List Byte) (s : State) : Nat × State :=
  match imgRefusal s with
  | some st => (st, if st = 0x40 ∧ s.upd.session.isSome then raiseIrq 4 s else s)
  | none =>
    match s.upd.session with
    | none => (0x42, s)
    | some x =>
      if x.st ≠ 1 then (0x42, s)
      else if x.uds ≠ uds then (1, s)
      else if !blockFits offset data.length x.total then (5, s)
      else
        let g := addUnits x.got (offset / 16) (ceilDiv (offset + data.length) 16)
        (0, updUpd (fun u => { u with bankS := programUnits offset data x.got u.bankS,
                                      session := some { x with got := g, at_ := s.now } }) s)

/-- IMG_WRITE (R439). -/
def execImgWrite (offset : Nat) (data : List Byte) (s : State) : Host.Outcome State Fault Refusal :=
  doneFor .pair s fun s =>
    let a := imgWrite false offset data (noteRequest .host s)
    imgReply 0x11 a.1 (progressNow a.2) a.2

/-- An image command restarts the 30 days of a suspended session (R441). -/
def touchImg (s : State) : State := updImg (fun x => { x with at_ := s.now }) s

/-- IMG_PROGRESS_QUERY (R440). -/
def execImgProgressQuery (s : State) : Host.Outcome State Fault Refusal :=
  doneFor .pair s fun s =>
    let t := touchImg (noteRequest .host s)
    hostDone 0x11 (if t.upd.session.isNone then 0x42 else 0) (progressNow t) t

/-- IMG_END (R441), with the SHA-256 to check against: the status, and the state after it. -/
def imgEnd (uds : Bool) (sha : Option (List Byte)) (s0 : State) : Nat × State :=
  let s := touchImg s0
  match s.upd.session with
  | none => (0x42, s)
  | some x =>
    if x.st ≠ 1 then (0x42, s)
    else if x.uds ≠ uds then (1, s)
    else if imgNext x < x.total then (5, s)
    else
      let want := match sha with | some h => some h | none => x.sha
      if want = some (Config.sha256 (memRead s.upd.bankS 0 x.total)) then
        (0, raiseIrq 4 (bankState 5 (updImg (fun y => { y with st := 3, sha := want }) s)))
      else (0x43, updImg (fun y => { y with got := [] }) s)

/-- IMG_END (R441). -/
def execImgEnd (s : State) : Host.Outcome State Fault Refusal :=
  doneFor .pair s fun s =>
    let a := imgEnd false none (noteRequest .host s)
    hostDone 0x12 a.1 [] a.2

/-- The session and its map are discarded (R441). -/
def imgDiscard (s : State) : State := raiseIrq 4 (bankFree s)

/-- IMG_ABORT (R441): the status, and the state after it. -/
def imgAbort (uds : Bool) (s : State) : Nat × State :=
  match s.upd.session with
  | none => (0x42, s)
  | some x =>
    if x.st = 3 then (0x42, s)
    else if x.st = 1 ∧ x.uds ≠ uds then (1, s)
    else (0, imgDiscard s)

/-- IMG_ABORT (R441). -/
def execImgAbort (s : State) : Host.Outcome State Fault Refusal :=
  doneFor .pair s fun s =>
    let a := imgAbort false (noteRequest .host s)
    hostDone 0x13 a.1 [] a.2

/-- IMG_SESSION_EXPIRY (R441): 30 days suspended without an image command. -/
def imgExpiry (s : State) : State :=
  match s.upd.session with
  | some x => if x.st = 2 then imgDiscard (s.reach (x.at_ + secP (30 * 86400))) else s
  | none => s

/-- IMG_SESSION_EXPIRY (R441). -/
def execImgSessionExpiry (s : State) : Host.Outcome State Fault Refusal := doneFor .pair s fun s => imgExpiry s

/-! ## Key staging (R442) -/

/-- Bytes of the staging buffer (R49). -/
def stagingSize : Nat := 262144

/-- The next expected offset of the staging buffer: the lowest whose unit has not been staged (R442). -/
def stagedNext (s : State) : Nat := match s.boot.staged with | (0, b) :: _ => Nat.min stagingSize (16 * b) | _ => 0

/-- The units of a block that have not been staged are written (R439, R442). -/
def stageUnits (offset : Nat) (data : List Byte) (s : State) : State :=
  { s with boot := { s.boot with
      staging := programUnits offset data s.boot.staged s.boot.staging
      staged := addUnits s.boot.staged (offset / 16) (ceilDiv (offset + data.length) 16) } }

/-- A block for the staging buffer of 256 KB, under the offset rules of R439. -/
def stageBlock (offset : Nat) (data : List Byte) (s : State) : Nat × State :=
  if blockFits offset data.length stagingSize then (0, stageUnits offset data s) else (5, s)

/-- KEY_STAGE (R442): REFUSED outside WORKSHOP; below MAKER nothing is staged. -/
def keyStage (offset : Nat) (data : List Byte) (s : State) : State :=
  if s.modes.mode != .workshop then hostDone 0x14 0x20 [0, 0, 0, 0] s
  else if privOf .host s < 2 then hostDone 0x14 0 [0, 0, 0, 0] s
  else
    let a := if data.isEmpty then (0, s) else stageBlock offset data s
    hostDone 0x14 a.1 (leBytes (stagedNext a.2) 4) a.2

/-- KEY_STAGE (R442). -/
def execKeyStage (offset : Nat) (data : List Byte) (s : State) : Host.Outcome State Fault Refusal :=
  doneFor .pair s fun s => keyStage offset data (noteRequest .host s)

/-! ## The host on DZ0 (R418) -/

/-- The fabric type that carries a host command to another node. -/
def carriedType (cmd : Nat) : Option Nat := match cmd with | 2 => some 0x12 | 3 => some 0x14 | 4 => some 0x16 | _ => none

/-- A host frame on DZ0: served here as a host command, or carried to its DST (R418). -/
def hostStream (dst : Nat) (b : List Byte) (s : State) : State :=
  if !s.flag (Ix.FAB_STREAM_CFG 0) 2 then s
  else if dst = srcAddr s then
    let e := entryOf b
    let taken := frameOk 500 b && decide (entriesTaken s < 32)
    hostFrameIn 500 b true (if taken then updHst (fun h => { h with carried := h.carried ++ [(none, e.cmd, e.tag)] }) s else s)
  else if !frameOk 500 b then updHst (fun h => { h with crcErr := true }) (s.bump Ix.HST_COUNTS 0 8)
  else
    let e := entryOf b
    match carriedType e.cmd with
    | none => updHst (fun h => { h with out := hostFrame e.cmd e.tag 0x30 (statusHead 0x30) }) s
    | some typ =>
      let q := freeSeq s
      sendRequest typ dst e.payload 2 0
        (updHst (fun h => { h with carried := (h.carried.filter fun x => x.1 != some q) ++ [(some q, e.cmd, e.tag)] }) s)

/-- HOST_STREAM_FRAME (R418). -/
def execHostStreamFrame (at_ dst : Nat) (frame : List Byte) (s : State) : Host.Outcome State Fault Refusal :=
  doneFor .fabric s fun s => hostStream dst frame (s.reach at_)

end Sys2Proof.Machine
end

