-- ==== Sys2Proof/Machine/Uds.lean ====
section
/-!
DEFINITION. The diagnostic services (18_host_and_diagnostics.md, R443–R449): sessions, resets, DTCs, data by identifier,
SecurityAccess, CommunicationControl, routines of the server itself and downloads. Each command carries the channel and the
request's bytes after the service identifier (and sub-function, where the row names one).
-/
namespace Sys2Proof.Machine

/-- A service on a channel: the first test it fails is answered, else it runs (R446, R449). -/
def udsService (c : Can) (sid sub sessions : Nat) (lengthOk : Bool) (priv : Nat) (f : State → State) (s : State) : State :=
  let t := udsStart c sid s
  match udsGate c sid sub sessions lengthOk priv t with
  | some n => udsNeg c sid n t
  | none => f t

/-- The sessions every service of them all runs in: default, programming, extended. -/
def allSess : Nat := 2 ^ 1 + 2 ^ 2 + 2 ^ 3

/-- A positive response, unless suppressed (R446). -/
def udsPosSp (c : Can) (sid : Nat) (sp : Bool) (payload : List Byte) (s : State) : State :=
  if sp then s else udsPos c sid payload s

/-! ## Sessions (R444) -/

/-- A non-default session ends (R444): the tester's transaction is rolled back, its privilege is PUBLIC, its download, routine
results, communication control and frozen records end, its image session is suspended. -/
def endSession (s : State) : State :=
  if s.uds.session = 1 then s
  else
    let c : Can := ⟨s.uds.chan % 3, Nat.mod_lt _ (by decide)⟩
    let s1 := requesterGone (.tester c) s
    let s2 := updParty (testerParty c) (fun p => { p with seed := none, challenge := none }) (dropPriv (testerParty c) s1)
    let s3 := updUds (fun u => { u with session := 1, dl := none, sha := none, results := [] }) (suspendImg true s2)
    let s4 := updCan c (fun x => { x with noTx := false, noRx := false }) s3
    { s4 with flt := { s4.flt with frozen := false } }

/-- DiagnosticSessionControl (R444). -/
def sessionControl (c : Can) (sp : Bool) (sub : Nat) (s : State) : State :=
  let ok := fun (t : State) => udsPosSp c 0x10 sp (leBytes sub 1 ++ [0x00, 0x32, 0x01, 0xF4]) t
  if sub = 1 then ok (if sessOf c s = 1 then s else endSession s)
  else if s.uds.session != 1 && s.uds.chan != c.val then udsNeg c 0x10 0x22 s
  else ok (updUds (fun u => { u with session := sub, chan := c.val, lastAt := s.now }) s)

/-- UDS_SESSION_CONTROL (R444, R446): the sub-function byte and what follows it. -/
def execUdsSessionControl (c : Can) (body : List Byte) (s : State) : Host.Outcome State Fault Refusal :=
  doneFor .pair s fun s =>
    let b := leAt body 0 1
    let sub := b % 128
    let t := udsStart c 0x10 s
    if scrappedRefuses 0x10 sub t then udsNeg c 0x10 0x11 t
      else if body.length ≠ 0 ∧ (sub = 0 ∨ 3 < sub) then udsNeg c 0x10 0x12 t
      else if body.length ≠ 1 then udsNeg c 0x10 0x13 t
      else sessionControl c (decide (128 ≤ b)) sub t

/-- UDS_S3_TIMEOUT (R444): 5,000 ms with no request from the session's tester. -/
def execUdsS3Timeout (s : State) : Host.Outcome State Fault Refusal :=
  doneFor .pair s fun s => if s.uds.session = 1 then s else endSession (s.reach (s.uds.lastAt + secP 5))

/-- ISOTP_TIMEOUT (R443): `which` 0 the response being sent (N_Bs), 1 the request being received, 2 a sprig being received
(N_Cr). -/
def isoTimeout (c : Can) (which : Fin 3) (s : State) : State :=
  let x := s.uds.chans[c]
  let after := fun (t : Nat) => s.reach (t + msP 150)
  match which with
  | 0 => match x.tx with
    | some t => if t.waitFc then isoNextOut c (updIso c (fun y => { y with tx := none }) (after t.at_)) else s
    | none => s
  | 1 => match x.rx with | some t => updIso c (fun y => { y with rx := none }) (after t.at_) | none => s
  | 2 => match x.sprig with | some t => updIso c (fun y => { y with sprig := none }) (after t.at_) | none => s

/-- ISOTP_TIMEOUT (R443). -/
def execIsotpTimeout (c : Can) (which : Fin 3) (s : State) : Host.Outcome State Fault Refusal :=
  doneFor .pair s fun s => isoTimeout c which s

/-- TESTER_PRESENT (R446): the sub-function byte. -/
def execTesterPresent (c : Can) (body : List Byte) (s : State) : Host.Outcome State Fault Refusal :=
  doneFor .pair s fun s =>
    let b := leAt body 0 1
    let t := udsStart c 0x3E s
    if body.length ≠ 0 ∧ b % 128 ≠ 0 then udsNeg c 0x3E 0x12 t
      else if body.length ≠ 1 then udsNeg c 0x3E 0x13 t
      else udsPosSp c 0x3E (decide (128 ≤ b)) [0] t

/-- The services of Table 18-8. -/
def knownSid (sid : Nat) : Bool :=
  [0x10, 0x11, 0x14, 0x19, 0x22, 0x27, 0x28, 0x2E, 0x31, 0x34, 0x36, 0x37, 0x3E, 0x85].contains sid

/-- UDS_UNSUPPORTED_SERVICE (R446). -/
def execUdsUnsupportedService (c : Can) (sid : Byte) (s : State) : Host.Outcome State Fault Refusal :=
  doneFor .pair s fun s => if knownSid sid.toNat then s else udsNeg c sid.toNat 0x11 (udsStart c sid.toNat s)

/-! ## ECUReset (R446) -/

/-- ECU_RESET_HARD: the response, then a start. -/
def execEcuResetHard (c : Can) (sp : Bool) (rest : List Byte) (k : StartInput) (s : State) : Host.Outcome State Fault Refusal :=
  doneFor .pair s fun s => udsService c 0x11 1 progExt rest.isEmpty 1 (fun t => deviceReset k (udsPosSp c 0x11 sp [1] t)) s

/-- ECU_RESET_SOFT: the application pair is reloaded under R22. -/
def execEcuResetSoft (c : Can) (sp : Bool) (rest : List Byte) (s : State) : Host.Outcome State Fault Refusal :=
  doneFor .pair s fun s => udsService c 0x11 3 progExt rest.isEmpty 1 (fun t => appStop (udsPosSp c 0x11 sp [3] t)) s

/-! ## Trouble codes (R463) -/

/-- The DTC of a record: 0x90_0000 + ID × 0x100 + instance (R451). -/
def dtcNumber (d : Dtc) : Nat := 0x900000 + d.id * 256 + d.inst

/-- The status byte of a record (R463). -/
def dtcStatus (d : Dtc) (s : State) : Nat :=
  b2n (srcActive d.id d.inst s) + b2n d.pending * 4 + b2n d.confirmed * 8 + b2n d.failedSince * 32

/-- A record as ReadDTCInformation lists it. -/
def dtcBytes (d : Dtc) (s : State) : List Byte := beBytes (dtcNumber d) 3 ++ leBytes (dtcStatus d s) 1

/-- The records whose status meets a mask. -/
def dtcsBy (mask : Nat) (s : State) : List Dtc := s.flt.dtcs.filter fun d => dtcStatus d s &&& mask != 0

/-- READ_DTC_COUNT_BY_STATUS: mask availability, format, count (R463). -/
def execReadDtcCountByStatus (c : Can) (body : List Byte) (s : State) : Host.Outcome State Fault Refusal :=
  doneFor .pair s fun s => udsService c 0x19 1 allSess (body.length == 1) 0 (fun t =>
    udsPos c 0x19 ([0x01, 0x2D, 0x01] ++ beBytes (dtcsBy (leAt body 0 1) t).length 2) t) s

/-- READ_DTC_BY_STATUS (R463). -/
def execReadDtcByStatus (c : Can) (body : List Byte) (s : State) : Host.Outcome State Fault Refusal :=
  doneFor .pair s fun s => udsService c 0x19 2 allSess (body.length == 1) 0 (fun t =>
    udsPos c 0x19 ([0x02, 0x2D] ++ (dtcsBy (leAt body 0 1) t).flatMap fun d => dtcBytes d t) t) s

/-- The extended data of a record: record 0x01 the reports, record 0x02 the first and last RTC seconds (R463). -/
def extData (n : Nat) (d : Dtc) : List Byte :=
  (if n = 1 ∨ n = 0xFF then [0x01] ++ beBytes (Nat.min 65535 d.count) 2 else [])
    ++ (if n = 2 ∨ n = 0xFF then [0x02] ++ beBytes d.firstRtc 4 ++ beBytes d.lastRtc 4 else [])

/-- READ_DTC_EXT_DATA: DTC 3, record number 1; a pair without a record or another record number is NRC 0x31 (R463). -/
def execReadDtcExtData (c : Can) (body : List Byte) (s : State) : Host.Outcome State Fault Refusal :=
  doneFor .pair s fun s =>
    let n := leAt body 3 1
    udsService c 0x19 6 allSess (body.length == 4) 0 (fun t =>
      match t.flt.dtcs.find? fun d => dtcNumber d == beNat (body.take 3) with
      | some d =>
        if n = 1 ∨ n = 2 ∨ n = 0xFF then udsPos c 0x19 ([0x06] ++ dtcBytes d t ++ extData n d) t else udsNeg c 0x19 0x31 t
      | none => udsNeg c 0x19 0x31 t) s

/-- READ_DTC_SUPPORTED: every record held (R463). -/
def execReadDtcSupported (c : Can) (body : List Byte) (s : State) : Host.Outcome State Fault Refusal :=
  doneFor .pair s fun s => udsService c 0x19 0x0A allSess body.isEmpty 0 (fun t =>
    udsPos c 0x19 ([0x0A, 0x2D] ++ t.flt.dtcs.flatMap fun d => dtcBytes d t) t) s

/-- The records and the per-source counters are emptied; reactions end as R460 says (R463). -/
def clearDtcs (s : State) : State :=
  clearReactions { s with flt := { s.flt with dtcs := [], srcs := s.flt.srcs.map fun x => { x with reports := 0 } } }

/-- CLEAR_DTC: group 0xFFFFFF only (R446, R463). -/
def execClearDtc (c : Can) (body : List Byte) (s : State) : Host.Outcome State Fault Refusal :=
  doneFor .pair s fun s => udsService c 0x14 0 (2 ^ 3) (body.length == 3) 1 (fun t =>
    if beNat body = 0xFFFFFF then udsPos c 0x14 [] (clearDtcs t) else udsNeg c 0x14 0x31 t) s

/-- ControlDTCSetting freezes or frees the records (R463). -/
def dtcSetting (c : Can) (sp : Bool) (sub : Nat) (rest : List Byte) (s : State) : State :=
  udsService c 0x85 sub (2 ^ 3) rest.isEmpty 1 (fun t =>
    udsPosSp c 0x85 sp (leBytes sub 1) { t with flt := { t.flt with frozen := sub == 2 } }) s

/-- DTC_SETTING_ON (R463). -/
def execDtcSettingOn (c : Can) (sp : Bool) (rest : List Byte) (s : State) : Host.Outcome State Fault Refusal :=
  doneFor .pair s fun s => dtcSetting c sp 1 rest s

/-- DTC_SETTING_OFF (R463). -/
def execDtcSettingOff (c : Can) (sp : Bool) (rest : List Byte) (s : State) : Host.Outcome State Fault Refusal :=
  doneFor .pair s fun s => dtcSetting c sp 2 rest s

/-! ## Data by identifier (R448) -/

/-- The identifiers a read names: parameters and the fixed ones of Table 18-9. -/
def readableId (d : Nat) : Bool := (decide (0x4000 ≤ d) && decide (d < 0x8000)) || [0xF186, 0xF18C, 0xF190, 0xF195].contains d

/-- The record of an identifier and the state after the read. -/
def readId (c : Can) (d : Nat) (s : State) : List Byte × State :=
  if d = 0xF186 then (leBytes (sessOf c s) 1, s)
  else if d = 0xF18C then (beBytes Config.serial.toNat 8, s)
  else if d = 0xF190 then (if s.boot.holding then List.replicate 17 0 else (imgVehicle s.boot.image).take 17, s)
  else if d = 0xF195 then (beBytes (s.view Ix.SYS_FW_VERSION).toNat 4, s)
  else
    let a := readParam (.tester c) (d - 0x4000) s
    (beBytes a.1.toNat 4, a.2)

/-- The records of a list of identifiers. -/
def readIds (c : Can) : List Nat → State → List Byte × State
  | [], s => ([], s)
  | d :: ds, s =>
    let a := readId c d s
    let b := readIds c ds a.2
    (beBytes d 2 ++ a.1 ++ b.1, b.2)

/-- The identifiers of a request, most significant byte first. -/
def idsOf (body : List Byte) : List Nat := (chunks 2 body).map beNat

/-- READ_DATA_BY_ID: 1 to 16 identifiers (R446, R448). -/
def execReadDataById (c : Can) (body : List Byte) (s : State) : Host.Outcome State Fault Refusal :=
  doneFor .pair s fun s =>
    let ids := idsOf body
    udsService c 0x22 0 allSess (body.length % 2 == 0 && decide (1 ≤ ids.length) && decide (ids.length ≤ 16)) 0 (fun t =>
      if ids.all readableId then
        let a := readIds c ids t
        udsPos c 0x22 a.1 a.2
      else udsNeg c 0x22 0x31 t) s

/-- WRITE_DATA_BY_ID: one identifier and its 32-bit word (R446, R448). -/
def execWriteDataById (c : Can) (body : List Byte) (s : State) : Host.Outcome State Fault Refusal :=
  doneFor .pair s fun s =>
    let d := beNat (body.take 2)
    udsService c 0x2E 0 progExt (body.length == 6) 0 (fun t =>
      if 0x4000 ≤ d ∧ d < 0x8000 then
        let a := writeFree (.tester c) (d - 0x4000) (toWord (beNat (body.drop 2))) t
        if a.1 = 0 then udsPos c 0x2E (body.take 2) a.2 else udsNeg c 0x2E 0x31 a.2
      else udsNeg c 0x2E 0x31 t) s

/-! ## SecurityAccess (R445, R485) -/

/-- A seed is refused: SEC_ENTROPY active, or within the 10 s delay (R445, R505). -/
def seedRefusal (c : Can) (s : State) : Option Nat :=
  if !s.sec.entropyOk then some 0x22 else if lockedOut (testerParty c) s then some 0x37 else none

/-- Seed of level 0x01: 16 bytes, all zeros while the level is unlocked (R445, R485). -/
def seedL1 (c : Can) (s : State) : State :=
  if (keySlot 0 s).key.isNone || s.flag Ix.SEC_CFG 0 then udsNeg c 0x27 0x12 s
  else if 1 ≤ privOf (.tester c) s then udsPos c 0x27 ([0x01] ++ List.replicate 16 0) s
  else match seedRefusal c s with
    | some n => udsNeg c 0x27 n s
    | none =>
      let d := draw 16 s
      udsPos c 0x27 ([0x01] ++ d.1) (updParty (testerParty c) (fun p => { p with seed := some d.1 }) d.2)

/-- SA_REQUEST_SEED_L1 (R485). -/
def execSaRequestSeedL1 (c : Can) (rest : List Byte) (s : State) : Host.Outcome State Fault Refusal :=
  doneFor .pair s fun s => udsService c 0x27 1 progExt rest.isEmpty 0 (seedL1 c) s

/-- A wrong key: NRC 0x35, or 0x36 at the third (R445). -/
def wrongKey (c : Can) (third : Bool) (s : State) : State :=
  udsNeg c 0x27 (if third then 0x36 else 0x35) (s.bump Ix.DIAG_COUNTS 24 8)

/-- Key of level 0x02: AES-CMAC under SA1 over the seed and the device serial grants INTEGRATOR (R485). -/
def keyL1 (c : Can) (key : List Byte) (s : State) : State :=
  let w := testerParty c
  match (s.sec.parties[w]).seed, (keySlot 0 s).key with
  | some seed, some sa1 =>
    let s1 := updParty w (fun p => { p with seed := none }) s
    if Config.aesCmac sa1 (seed ++ leBytes Config.serial.toNat 8) = key then
      udsPos c 0x27 [0x02] (updParty w (fun p => { p with priv := Nat.max 1 p.priv }) s1)
    else wrongKey c (thirdFailure w s) (countFailure w s1)
  | _, _ => udsNeg c 0x27 0x24 s

/-- SA_SEND_KEY_L1 (R485). -/
def execSaSendKeyL1 (c : Can) (key : List Byte) (s : State) : Host.Outcome State Fault Refusal :=
  doneFor .pair s fun s => udsService c 0x27 2 progExt (key.length == 16) 0 (keyL1 c key) s

/-- Seed of level 0x03: a 32-byte challenge (R485). -/
def seedL3 (c : Can) (s : State) : State :=
  if 2 ≤ privOf (.tester c) s then udsPos c 0x27 ([0x03] ++ List.replicate 32 0) s
  else match seedRefusal c s with
    | some n => udsNeg c 0x27 n s
    | none =>
      let d := issueChallenge (testerParty c) s
      udsPos c 0x27 ([0x03] ++ d.1) d.2

/-- SA_REQUEST_SEED_L3 (R485). -/
def execSaRequestSeedL3 (c : Can) (rest : List Byte) (s : State) : Host.Outcome State Fault Refusal :=
  doneFor .pair s fun s => udsService c 0x27 3 progExt rest.isEmpty 0 (seedL3 c) s

/-- Key of level 0x04: the 252-byte response to the challenge (R480, R485). -/
def keyL3 (c : Can) (resp : List Byte) (s : State) : State :=
  let w := testerParty c
  let live := match (s.sec.parties[w]).challenge with | some (_, t) => decide (s.now < t + secP 10) | none => false
  if !live then udsNeg c 0x27 0x24 s
  else
    let a := respond w resp s
    if a.1 then udsPos c 0x27 [0x04] a.2 else wrongKey c (thirdFailure w s) a.2

/-- SA_SEND_KEY_L3 (R485). -/
def execSaSendKeyL3 (c : Can) (response : List Byte) (s : State) : Host.Outcome State Fault Refusal :=
  doneFor .pair s fun s => udsService c 0x27 4 progExt (response.length == 252) 0 (keyL3 c response) s

/-! ## CommunicationControl (R446) -/

/-- CommunicationControl on the request's channel: types 1 and 3 name the normal communication, type 2 the network management,
which is not affected (R446). -/
def commControl (c : Can) (sp : Bool) (sub : Nat) (noTx noRx : Bool) (body : List Byte) (s : State) : State :=
  udsService c 0x28 sub (2 ^ 3) (body.length == 1) 1 (fun t =>
    let typ := leAt body 0 1
    if typ = 0 ∨ 3 < typ then udsNeg c 0x28 0x31 t
    else
      let t1 := if typ = 2 then t else updCan c (fun x => { x with noTx := noTx, noRx := noRx }) t
      udsPosSp c 0x28 sp (leBytes sub 1) t1) s

/-- COMM_ENABLE_RX_TX (R446). -/
def execCommEnableRxTx (c : Can) (sp : Bool) (body : List Byte) (s : State) : Host.Outcome State Fault Refusal :=
  doneFor .pair s fun s => commControl c sp 0 false false body s

/-- COMM_ENABLE_RX_DISABLE_TX (R446). -/
def execCommEnableRxDisableTx (c : Can) (sp : Bool) (body : List Byte) (s : State) : Host.Outcome State Fault Refusal :=
  doneFor .pair s fun s => commControl c sp 1 true false body s

/-- COMM_DISABLE_RX_TX (R446). -/
def execCommDisableRxTx (c : Can) (sp : Bool) (body : List Byte) (s : State) : Host.Outcome State Fault Refusal :=
  doneFor .pair s fun s => commControl c sp 3 true true body s

/-! ## Routines (R446, Table 18-9) -/

/-- A routine's start: its option length, privilege and conditions, in the order of Table 18-10. -/
def routine (c : Can) (lengthOk : Bool) (priv : Nat) (cond : State → Bool) (f : State → State) (s : State) : State :=
  udsService c 0x31 1 progExt lengthOk priv (fun t => if cond t then f t else udsNeg c 0x31 0x22 t) s

/-- The routines the part has (Tables 18-9, 20-4, 21-11). -/
def knownRoutine (id : Nat) : Bool :=
  (decide (0xF100 ≤ id) && decide (id ≤ 0xF105)) || id == 0xF110 || id == 0xF111 || (decide (0xF300 ≤ id) && decide (id ≤ 0xF303))
    || (decide (0xF400 ≤ id) && decide (id ≤ 0xF406))

/-- RoutineControl 0x03: the last result of a routine; without one it is out of sequence (R446). -/
def routineResults (c : Can) (id : Nat) (s : State) : State :=
  if !knownRoutine id then udsNeg c 0x31 0x31 s
  else match s.uds.results.lookup id with
    | some r => udsPos c 0x31 ([0x03] ++ beBytes id 2 ++ r) s
    | none => udsNeg c 0x31 0x24 s

/-- ROUTINE_RESULTS: the routine identifier's bytes (R446). -/
def execRoutineResults (c : Can) (body : List Byte) (s : State) : Host.Outcome State Fault Refusal :=
  doneFor .pair s fun s => udsService c 0x31 3 progExt (body.length == 2) 0 (routineResults c (beNat body)) s

/-- ROUTINE_IMAGE_SHA: 32 bytes kept for RequestTransferExit (R447). -/
def execRoutineImageSha (c : Can) (sha : List Byte) (s : State) : Host.Outcome State Fault Refusal :=
  doneFor .pair s fun s => routine c (sha.length == 32) 0 (fun _ => true) (fun t =>
    routineDone c 0xF110 [] (updUds (fun u => { u with sha := some sha }) t)) s

/-- ROUTINE_PROGRESS: the progress record; without a session it is out of sequence (R440). -/
def execRoutineProgress (c : Can) (rest : List Byte) (s : State) : Host.Outcome State Fault Refusal :=
  doneFor .pair s fun s => routine c rest.isEmpty 0 (fun _ => true) (fun t =>
    if t.upd.session.isNone then udsNeg c 0x31 0x24 t else routineDone c 0xF111 (progressNow t) (touchImg t)) s

/-! ## Downloads (R447) -/

/-- A RequestDownload's bytes: format, address and length format, address 4, size 4. -/
def downloadLen (body : List Byte) : Bool := body.length == 10 && leAt body 1 1 == 0x44

/-- The address and the size of a RequestDownload, most significant byte first. -/
def dlAddr (body : List Byte) : Nat := beNat (slice body 2 4)
/-- The size. -/
def dlSize (body : List Byte) : Nat := beNat (slice body 6 4)

/-- The positive response of a RequestDownload: blocks of at most 4,082 bytes (R447). -/
def downloadOk (c : Can) (d : Download) (s : State) : State :=
  udsPos c 0x34 ([0x20] ++ beBytes 4082 2) (updUds (fun u => { u with dl := some d }) s)

/-- The NRC of an image command's status (R447, Table 18-10, the edge on host and tester). -/
def imgNrc (st : Nat) : Nat :=
  match st with | 0x40 | 0x41 | 1 => 0x22 | 0x42 => 0x24 | 0x43 => 0x72 | _ => 0x31

/-- A download to the image session: it acts as IMG_BEGIN without a SHA-256 and goes on at NEXT (R447). -/
def downloadImage (c : Can) (body : List Byte) (s : State) : State :=
  let a := imgBegin true (dlSize body) false none s
  if a.1 = 0x40 ∨ a.1 = 0x41 ∨ a.1 = 1 then udsNeg c 0x34 0x22 s
  else if leAt body 0 1 ≠ 0 ∨ dlAddr body / 2 ^ 28 ≠ 0 ∨ dlAddr body % 2 ^ 23 ≠ 0 ∨ a.1 ≠ 0 then udsNeg c 0x34 0x31 s
  else
    let at_ := match a.2.upd.session with | some x => imgNext x | none => 0
    downloadOk c { key := false, next := 1, last := none, offset := at_, total := dlSize body } a.2

/-- REQUEST_DOWNLOAD_IMAGE (R447). -/
def execRequestDownloadImage (c : Can) (body : List Byte) (s : State) : Host.Outcome State Fault Refusal :=
  doneFor .pair s fun s => udsService c 0x34 0 (2 ^ 2) (downloadLen body) 2 (downloadImage c body) s

/-- A download to the key staging buffer from its offset 0 on (R442, R447; assumption log 66). -/
def downloadKey (c : Can) (body : List Byte) (s : State) : State :=
  if leAt body 0 1 ≠ 0 ∨ dlAddr body / 2 ^ 28 ≠ 1 ∨ dlSize body = 0 ∨ 262144 < dlSize body then udsNeg c 0x34 0x31 s
  else if s.modes.mode != .workshop then udsNeg c 0x34 0x70 s
  else
    downloadOk c { key := true, next := 1, last := none, offset := 0, total := dlSize body } s

/-- REQUEST_DOWNLOAD_KEY (R442, R447). -/
def execRequestDownloadKey (c : Can) (body : List Byte) (s : State) : Host.Outcome State Fault Refusal :=
  doneFor .pair s fun s => udsService c 0x34 0 (2 ^ 2) (downloadLen body) 2 (downloadKey c body) s

/-- A block is written at the download's offset: the status as of an image command, 0x70 where the key buffer is not alive. -/
def transferBlock (d : Download) (data : List Byte) (s : State) : Nat × State :=
  if d.key then (if s.modes.mode != .workshop then (0x70, s) else (0, stageUnits d.offset data s))
  else imgWrite true d.offset data s

/-- TransferData: the next counter writes, a repeat of the last writes nothing new (R447, R449). -/
def transferData (c : Can) (body : List Byte) (s : State) : State :=
  let n := leAt body 0 1
  let data := body.drop 1
  match s.uds.dl with
  | none => udsNeg c 0x36 0x24 s
  | some d =>
    if d.last = some n ∧ d.next ≠ n then udsPos c 0x36 (body.take 1) s
    else if d.total < d.offset + data.length then udsNeg c 0x36 0x31 s
    else
      let a := if d.next = n then transferBlock d data s else (0x73, s)
      if a.1 = 0 then
        udsPos c 0x36 (body.take 1) (updUds (fun u => { u with
          dl := some { d with next := (n + 1) % 256, last := some n, offset := d.offset + data.length } }) a.2)
      else udsNeg c 0x36 (if a.1 = 0x70 ∨ a.1 = 0x73 then a.1 else imgNrc a.1) a.2

/-- The length of a TransferData fits: a multiple of 16 bytes of at most 4,080, but for the final block (R447). -/
def transferLen (body : List Byte) (s : State) : Bool :=
  let n := body.length - 1
  decide (2 ≤ body.length) && decide (n ≤ 4080) &&
    (n % 16 == 0 || (match s.uds.dl with | some d => d.offset + n == d.total || d.last == some (leAt body 0 1) | none => true))

/-- TRANSFER_DATA (R447). -/
def execTransferData (c : Can) (body : List Byte) (s : State) : Host.Outcome State Fault Refusal :=
  doneFor .pair s fun s => udsService c 0x36 0 (2 ^ 2) (transferLen body s) 2 (transferData c body) s

/-- RequestTransferExit: an image closes under R441 with the SHA-256 of routine 0xF110. -/
def transferExit (c : Can) (s : State) : State :=
  match s.uds.dl with
  | none => udsNeg c 0x37 0x24 s
  | some d =>
    let gone := fun (t : State) => udsPos c 0x37 [] (updUds (fun u => { u with dl := none }) t)
    if d.key then gone s
    else match s.uds.sha with
      | none => udsNeg c 0x37 0x24 s
      | some h =>
        let a := imgEnd true (some h) s
        if a.1 = 0 then gone a.2 else udsNeg c 0x37 (imgNrc a.1) a.2

/-- REQUEST_TRANSFER_EXIT (R447). -/
def execRequestTransferExit (c : Can) (rest : List Byte) (s : State) : Host.Outcome State Fault Refusal :=
  doneFor .pair s fun s => udsService c 0x37 0 (2 ^ 2) rest.isEmpty 2 (transferExit c) s

/-! ## Routines of updates and security (Tables 20-4, 21-11) -/

/-- Always. -/
def always (_ : State) : Bool := true

/-- WORKSHOP (R486). -/
def inWorkshop (s : State) : Bool := s.modes.mode == .workshop

/-- UPD_STATUS (R536). -/
def execUpdStatus (c : Can) (rest : List Byte) (s : State) : Host.Outcome State Fault Refusal :=
  doneFor .pair s fun s => routine c rest.isEmpty 0 always (fun t =>
    routineDone c 0xF300 ([Ix.UPD_STATE, Ix.UPD_BUNCH_ID, Ix.UPD_PROGRESS, Ix.UPD_LAST].flatMap fun i =>
      leBytes (t.view i).toNat 4) t) s

/-- UPD_BITMAP: a slice of the bitmap of the bunch in Bank S or GATHERING (R536). -/
def execUpdBitmap (c : Can) (body : List Byte) (s : State) : Host.Outcome State Fault Refusal :=
  doneFor .pair s fun s =>
    let k := leAt body 0 1
    routine c (body.length == 1) 1 always (fun t =>
      if 3 < k then udsNeg c 0x31 0x31 t else routineDone c 0xF301 (bitmapSlice t.upd.bunch k t) t) s

/-- UPD_ACTIVATE by `UPD_CMD`, or by routine 0xF302, which with START_NOW answers and then starts (R528). -/
def execUpdActivate (r : Requester) (viaCmd startNow : Bool) (k : StartInput) (s : State) : Host.Outcome State Fault Refusal :=
  doneFor .pair s fun s => match viaCmd, r with
    | false, .tester c => routine c true 2 always (fun t =>
        let a := updCommand 1 t
        if a.1 ≠ 0 then udsNeg c 0x31 0x22 a.2
        else
          let u := routineDone c 0xF302 [0] a.2
          if startNow then deviceReset k u else u) s
    | _, _ => requestWrite r noMeasure Ix.UPD_CMD 1 s

/-- UPD_DISCARD by `UPD_CMD`, or by routine 0xF303 (R536). -/
def execUpdDiscard (r : Requester) (viaCmd : Bool) (s : State) : Host.Outcome State Fault Refusal :=
  doneFor .pair s fun s => match viaCmd, r with
    | false, .tester c => routine c true 2 always (fun t =>
        let a := updCommand 2 t
        if a.1 ≠ 0 then udsNeg c 0x31 0x22 a.2 else routineDone c 0xF303 [0] a.2) s
    | _, _ => requestWrite r noMeasure Ix.UPD_CMD 2 s

/-- A life-cycle transition that LC_CHANGE names runs from the present state (Table 20-9). -/
def lcAllowed (target : Nat) (s : State) : Bool :=
  (s.life == .maker && target == 2) || (s.life == .field && target == 3) || (s.life != .scrapped && target == 4)

/-- The privilege a transition asks for is held (Table 20-9): FIELD to RETURNED needs MAKER with RETURN, or VENDOR. -/
def lcPrivileged (c : Can) (target : Nat) (s : State) : Bool :=
  let p := s.sec.parties[testerParty c]
  if target = 3 then decide (3 ≤ p.priv) || (p.priv == 2 && p.ret) else decide (2 ≤ p.priv)

/-- The guard holds: WORKSHOP, no copy pending, SEC_ENTROPY inactive, and under OWNER_LOCK VENDOR alone for RETURNED
(R486, R497, R498). -/
def lcGuard (c : Can) (target : Nat) (s : State) : Bool :=
  inWorkshop s && s.upd.intent.isNone && s.sec.entropyOk
    && (target != 3 || s.sec.owner.isNone || decide (3 ≤ (s.sec.parties[testerParty c]).priv))

/-- LC_CHANGE (R498–R501): the response once J1 is done, then the transition and a start; with `k.cut` the power fails on the
way. -/
def lcChange (c : Can) (body : List Byte) (k : StartInput) (s : State) : State :=
  let target := leAt body 0 1
  if !lcPrivileged c target s then udsNeg c 0x31 0x33 s
  else if !lcGuard c target s then udsNeg c 0x31 0x22 s
  else if !lcAllowed target s then udsNeg c 0x31 0x31 s
  else
    let i : Intent := { src := s.life.code, target := target, spare := leAt body 1 1 % 2 == 1, seq := 0,
                        requester := 1 + c.val * 4, seed := [] }
    let r := transition i k.cut (dropAll s)
    if r.1 then deviceReset { k with cut := none } r.2 else aoLost r.2

/-- LC_CHANGE (R498). -/
def execLcChange (c : Can) (body : List Byte) (k : StartInput) (s : State) : Host.Outcome State Fault Refusal :=
  doneFor .pair s fun s => udsService c 0x31 1 progExt (body.length == 2) 0 (lcChange c body k) s

/-- ADOPT_PERMIT (R495). -/
def execAdoptPermit (c : Can) (vehicle : List Byte) (s : State) : Host.Outcome State Fault Refusal :=
  doneFor .pair s fun s => routine c (vehicle.length == 24) 2 inWorkshop (fun t => routineDone c 0xF401 [0] (storePermit vehicle t)) s

/-- A load of the key store: its result, or NRC 0x31 (R487). -/
def storeLoad (c : Can) (id : Nat) (x : Option State) (t : State) : State :=
  match x with | some u => routineDone c id [0] u | none => udsNeg c 0x31 0x31 t

/-- SIGNER_LOAD (R487). -/
def execSignerLoad (c : Can) (body : List Byte) (s : State) : Host.Outcome State Fault Refusal :=
  doneFor .pair s fun s => routine c (body.length == 140) 2 inWorkshop (fun t => storeLoad c 0xF402 (signerLoad body t) t) s

/-- REVOKE (R487). -/
def execRevoke (c : Can) (body : List Byte) (s : State) : Host.Outcome State Fault Refusal :=
  doneFor .pair s fun s => routine c (body.length == 72 + 4 * leAt body 4 1) 2 inWorkshop (fun t => storeLoad c 0xF403 (revoke body t) t) s

/-- KEY_LOAD (R488). -/
def execKeyLoad (c : Can) (body : List Byte) (s : State) : Host.Outcome State Fault Refusal :=
  doneFor .pair s fun s => routine c (body.length == 48) 2 inWorkshop (fun t => storeLoad c 0xF404 (keyLoad body t) t) s

/-- ATTEST: the DEVICE public key and its signature over nonce and serial (R486); without a DEVICE key it cannot run. -/
def execAttest (c : Can) (nonce : List Byte) (s : State) : Host.Outcome State Fault Refusal :=
  doneFor .pair s fun s => routine c (nonce.length == 32) 0 (fun t => t.sec.device.isSome) (fun t =>
    match t.sec.device with
    | some d => routineDone c 0xF405 (Config.publicKey d ++ Config.ecdsaSign d (nonce ++ leBytes Config.serial.toNat 8)) t
    | none => t) s

/-- CERT_CHECK (R506). -/
def execCertCheck (c : Can) (rest : List Byte) (s : State) : Host.Outcome State Fault Refusal :=
  doneFor .pair s fun s => routine c rest.isEmpty 0 always (fun t => routineDone c 0xF406 (leBytes (t.view Ix.SEC_CERT).toNat 4) t) s

/-! ## Requests that no row of the table serves -/

/-- The response to a request whose sub-function or routine the part does not have, or that is too short to name one; none
where a command serves the request (R446, R449). -/
def udsOdd (c : Can) (msg : List Byte) (s : State) : Option Nat :=
  let sid := leAt msg 0 1
  let sub := leAt msg 1 1 % 128
  let has := fun (l : List Nat) (sess : Nat) =>
    if scrappedRefuses sid sub s then some 0x11
    else if nbits sess (sessOf c s) 1 = 0 then some 0x7F
    else if msg.length < 2 then some 0x13
    else if l.contains sub then none else some 0x12
  match sid with
  | 0x11 => has [1, 3] progExt
  | 0x19 => has [1, 2, 6, 0x0A] allSess
  | 0x27 => has [1, 2, 3, 4] progExt
  | 0x28 => has [0, 1, 3] (2 ^ 3)
  | 0x85 => has [1, 2] (2 ^ 3)
  | 0x31 =>
    has [1, 3] progExt <|>
      (if msg.length < 4 then some 0x13
       else if sub = 1 ∧ !knownRoutine (beNat (slice msg 2 2)) then some 0x31 else none)
  | _ => none

end Sys2Proof.Machine
end

