-- ==== Sys2Proof/Machine/Bus.lean ====
section
/-!
DEFINITION. A CAN frame received or sent: the service filters of R328, the diagnostic and sprig transports (R443, R523), the CANDB
entries, and loop-back (R338–R342).
-/
namespace Sys2Proof.Machine

/-! ## Receiving an ISO 15765-2 message -/

/-- What a transport frame does to a message being received: the new reception, the flow status to answer with (0 continue,
2 overflow), and a message that is complete. -/
structure IsoStep where
  rx : Option IsoRx
  flow : Option Nat
  msg : Option (List Byte)
  deriving DecidableEq, Repr

/-- The frame says nothing to the receiver. -/
def isoIgnore (rx : Option IsoRx) : IsoStep := { rx := rx, flow := none, msg := none }

/-- A single frame: its length and its bytes; none where it is malformed (ISO 15765-2). -/
def isoSingle (d : List Byte) : Option (List Byte) :=
  let n := leAt d 0 1 % 16
  if d.length ≤ 8 then
    if 1 ≤ n ∧ n ≤ 7 ∧ n + 1 ≤ d.length then some (slice d 1 n) else none
  else
    let m := leAt d 1 1
    if n = 0 ∧ 8 ≤ m ∧ m + 2 ≤ d.length then some (slice d 2 m) else none

/-- A transport frame other than a flow control reaches a receiver that answers with block size `bs` (ISO 15765-2, assumption
log 20). A message holds at most 4,095 bytes (R443). -/
def isoReceive (bs now : Nat) (rx : Option IsoRx) (d : List Byte) : IsoStep :=
  match leAt d 0 1 / 16 with
  | 0 => (match isoSingle d with
    | some m => { rx := none, flow := none, msg := some m }
    | none => isoIgnore rx)
  | 1 =>
    let n := leAt d 0 1 % 16 * 256 + leAt d 1 1
    if n = 0 then { rx := none, flow := some 2, msg := none }
    else if d.length < 8 ∨ n ≤ (if d.length = 8 then 7 else d.length - 2) then isoIgnore rx
    else { rx := some { total := n, got := d.drop 2, sn := 1, block := bs, at_ := now }, flow := some 0, msg := none }
  | 2 => (match rx with
    | none => isoIgnore rx
    | some r =>
      if leAt d 0 1 % 16 ≠ r.sn % 16 then isoIgnore none
      else
        let got := r.got ++ d.drop 1
        if r.total ≤ got.length then { rx := none, flow := none, msg := some (got.take r.total) }
        else
          let again := r.block == 1
          { rx := some { r with got := got, sn := r.sn + 1, block := if again then bs else r.block - 1, at_ := now },
            flow := if again then some 0 else none, msg := none })
  | _ => isoIgnore rx

/-- A flow control frame with the BS and STmin of `DIAG_TP_c` (R443, R523). -/
def flowBytes (c : Can) (status : Nat) (s : State) : List Byte :=
  leBytes (0x30 + status) 1 ++ leBytes (s.fld (Ix.DIAG_TP c.val) 0 16) 2

/-! ## The diagnostic filters (R443) -/

/-- How a frame addresses the diagnostic service: not at all, physically, or functionally. -/
def diagMatch (c : Can) (f : CanFrame) (s : State) : Option Bool :=
  let func := s.num (Ix.DIAG_FUNC c.val) % 2 ^ 29
  if !s.flag (Ix.DIAG_CAN c.val) 0 || s.flag (Ix.DIAG_CAN c.val) 1 != f.ide || isoFd c s != f.fdf then none
  else if f.id = s.num (Ix.DIAG_PHYS c.val) % 2 ^ 29 then some false
  else if f.id = func ∧ func ≠ 0x1FFFFFFF then some true
  else none

/-- A complete request: answered at once where no command serves it, else it waits for its service (R446, R449). -/
def udsRequest (c : Can) (func : Bool) (msg : List Byte) (s : State) : State :=
  match udsOdd c msg s with
  | some nrc =>
    let t := udsNeg c (leAt msg 0 1) nrc (udsStart c (leAt msg 0 1) s)
    updUds (fun u => { u with waiting := s.uds.waiting }) t
  | none => updUds (fun u => { u with waiting := u.waiting ++ [{ chan := c.val, func := func, bytes := msg }] }) s

/-- A frame at a diagnostic filter (R443): functional requests are single frames. -/
def diagFrame (c : Can) (func : Bool) (d : List Byte) (s : State) : State :=
  if d.length < 8 then s
  else if func then
    (match leAt d 0 1 / 16, isoSingle d with
     | 0, some m => udsRequest c true m s
     | _, _ => s)
  else if leAt d 0 1 / 16 = 3 then isoFlow c d s
  else
    let r := isoReceive (s.fld (Ix.DIAG_TP c.val) 0 8) s.now (s.uds.chans[c]).rx d
    let s1 := updIso c (fun x => { x with rx := r.rx }) s
    let s2 := match r.flow with | some n => isoPut c (flowBytes c n s1) s1 | none => s1
    match r.msg with | some m => udsRequest c false m s2 | none => s2

/-! ## The sprig filter (R523) -/

/-- A frame is at the sprig filter of a channel. -/
def sprigMatch (c : Can) (f : CanFrame) (s : State) : Bool :=
  let w := Ix.UPD_CAN c.val
  s.flag w 30 && s.flag w 29 == f.ide && s.fld w 0 29 == f.id

/-- A frame at the sprig filter: a flow control leaves from buffer 58 only with FC set (R523). -/
def sprigFrame (c : Can) (f : CanFrame) (s : State) : State :=
  let fc := s.flag (Ix.UPD_CAN c.val) 31
  let r := isoReceive (if fc then s.fld (Ix.DIAG_TP c.val) 0 8 else 0) s.now (s.uds.chans[c]).sprig f.data
  let s1 := updIso c (fun x => { x with sprig := r.rx }) s
  let s2 := match r.flow with
    | some n => if fc then putBuffer c 58 (isoFrame c (flowBytes c n s1) s1) false s1 else s1
    | none => s1
  match r.msg with | some m => sprigReceived m s2 | none => s2

/-! ## Reception (R338–R342) -/

/-- A frame matches a service filter other than the NM filter (R328). -/
def serviceMatch (c : Can) (f : CanFrame) (s : State) : Bool :=
  (diagMatch c f s).isSome || (acmdOf c f s).isSome || sprigMatch c f s

/-- A frame at a service filter: the first of diagnostics, authenticated commands and sprigs takes it. The frame is own need for
READY (R359). -/
def serviceFrame (c : Can) (f : CanFrame) (s0 : State) : State :=
  let s := nmServiceFrame c (s0.bump (Ix.CAN_RX_COUNT c.val) 0 16)
  match diagMatch c f s with
  | some func => diagFrame c func f.data s
  | none => if (acmdOf c f s).isSome then acmdRx c f s else sprigFrame c f s

/-- A valid frame passes the filters (R338): the NM filter, the other service filters, the CANDB entries. A remote frame counts as
unmatched (Table 14-1). -/
def filterFrame (c : Can) (f : CanFrame) (sof : Nat) (s0 : State) : State :=
  let s := if wufAny c f s0 && decide (c.val < 2) then parkSourceFires (4 + c.val) s0 else s0
  if f.rtr then nmForeign c f false (s.bump (Ix.CAN_RX_COUNT c.val) 16 16)
  else if isNmFrame c f s then nmReceive c f (s.bump (Ix.CAN_RX_COUNT c.val) 0 16)
  else if serviceMatch c f s then nmForeign c f true (serviceFrame c f s)
  else nmForeign c f (firstMatch c f s).isSome (receiveEntries c f sof s)

/-- A frame without error ends on a channel at an instant, its start of frame at `sof`. In SLEEP only the decoder reads it
(R371, R373). -/
def frameReceived (c : Can) (at_ sof : Nat) (f : CanFrame) (s0 : State) : State :=
  let s := s0.reach at_
  match (s.can.ctl[c]).st with
  | .sleep => decoderFrame c at_ f s
  | .active | .passive => filterFrame c f sof (leaveStandby (rxGood c s))
  | _ => s

/-- CAN_FRAME_RECEIVED (R338, R339, R341). -/
def execCanFrameReceived (c : Can) (at_ sof : Nat) (f : CanFrame) (s : State) : Host.Outcome State Fault Refusal :=
  doneFor .always s fun s => frameReceived c at_ sof f s

/-! ## Transmission (R341, R342) -/

/-- The buffer that was sent belongs to a service: NM counts its frames, the transport goes on. -/
def bufferSent (c : Can) (buf : Nat) (s : State) : State :=
  if buf = 56 then nmSent c s else if buf = 57 then isoSent c s else s

/-- The frame in progress has been sent; in test modes 1 and 2 the controller receives it too (R342). -/
def canSent (c : Can) (at_ tdc : Nat) (s0 : State) : State :=
  match inAttempt c s0 with
  | none => txSuccess c at_ tdc s0
  | some b =>
    let s := bufferSent c b.buf (txSuccess c at_ tdc s0)
    if testMode c s = 1 ∨ testMode c s = 2 then filterFrame c b.frame (b.attempt.getD s.now) s else s

/-- CAN_TX_SUCCESS (R341). -/
def execCanTxSuccess (c : Can) (at_ tdc : Nat) (s : State) : Host.Outcome State Fault Refusal :=
  doneFor .coreRun s fun s => canSent c at_ tdc s

end Sys2Proof.Machine
end

