-- ==== Sys2Proof/Machine/Reload.lean ====
section
/-!
DEFINITION. The domain reload (R422–R425): the member that accepts an offer, receives its components and image on stream 0 and
starts from them, and the root's account of it.
-/
namespace Sys2Proof.Machine

/-! ## The root's side (R423, R424) -/

/-- An offer's answer: the stream begins, or the member is not offered again until it is next listed (R423); a member that was BUSY has
not declined. -/
def reloadReply (at_ : Nat) (f : FabFrame) (s0 : State) : State :=
  match requestOf f s0 with
  | none => s0
  | some r =>
    if r.typ ≠ 0x1F then s0
    else
      let s := endRequest f.seq (s0.reach at_)
      if leAt f.payload 0 1 = 0 ∧ leAt f.payload 4 1 % 2 = 1 then openStream 0 f.src (reloadBytes r.mark s) s
      else if leAt f.payload 0 1 = 1 then s
      else updFab (fun x => { x with declined := x.declined ++ [r.mark] }) s

/-- RELOAD_REPLY (R423). -/
def execReloadReply (at_ : Nat) (f : FabFrame) (s : State) : Host.Outcome State Fault Refusal :=
  doneFor .fabric s fun s => reloadReply at_ f s

/-- A member's result: OK completes its reload; the stream to it is over (R424). -/
def reloadDone (at_ : Nat) (f : FabFrame) (s0 : State) : State :=
  let s := updFab (fun x => { x with txs := x.txs.filter fun t => !(t.stream == 0 && t.dst == f.src) }) (s0.reach at_)
  match memberAt f.src s with
  | none => s
  | some m =>
    if leAt f.payload 0 1 = 0 ∧ !s.fab.reloaded.contains m.ordinal then
      updFab (fun x => { x with reloaded := x.reloaded ++ [m.ordinal] }) s
    else s

/-- RELOAD_DONE (R424). -/
def execReloadDone (at_ : Nat) (f : FabFrame) (s : State) : Host.Outcome State Fault Refusal :=
  doneFor .fabric s fun s => reloadDone at_ f s

/-! ## The member's side (R422, R424, R425) -/

/-- An offer is accepted by a root-loaded CB7 that waits for its root, and by one without a member record that runs under the
holding configuration (R422). -/
def acceptsOffer (root : Nat) (s : State) : Bool :=
  match s.fab.member with
  | some m => s.fab.reload == 1 && m.2 == root
  | none => s.started && s.boot.holding && s.fab.reload != 2

/-- RELOAD_OFFER is answered; an accepted one begins the reception of stream 0 (R422, R424). -/
def reloadOffer (at_ : Nat) (f : FabFrame) (s0 : State) : State :=
  let s := s0.reach at_
  let root := leAt f.payload 8 8
  if acceptsOffer root s then
    let s1 := updFab (fun x => { x with
      offer := some (f.src, leAt f.payload 0 4, leAt f.payload 4 1, root), waitAt := if x.reload = 1 then x.waitAt else s.now,
      reload := 2, rxs := x.rxs.filter fun r => !(r.src == f.src && r.stream == 0) }) s
    sendReply f 0x20 (statusHead 0 ++ [1, 0, 0, 0]) s1
  else sendReply f 0x20 (statusHead 0 ++ [0, 0, 0, 0]) s

/-- RELOAD_OFFER (R424). -/
def execReloadOffer (at_ : Nat) (f : FabFrame) (s : State) : Host.Outcome State Fault Refusal :=
  doneFor .fabric s fun s => reloadOffer at_ f s

/-- The word is set by the configuration or by a requester. -/
def settingWord (i : Nat) : Bool :=
  match paramRow i with | some r => r.access == .rw || r.access == .rwt | none => false

/-- Before step 4: a CB7 that already runs, under the holding configuration, gives up what a start would reset; its fabric engine
and what the Principal keeps go on. -/
def beforeStep4 (k : StartInput) (s : State) : State :=
  if s.started then
    let b := startBase { k with swap := none } s
    { b with
      freeBase := s.freeBase, words := s.words.filter fun p => !settingWord p.1
      pw := s.pw, flt := s.flt, fab := s.fab, sec := s.sec, upd := s.upd, boot := s.boot
      procs := { Procs.reset with principal := .running, fabric := s.procs.fabric, stops := s.procs.stops } }
  else s

/-- The reload ends with a status; its duration runs from the start of the wait (R425). -/
def reloadEnds (status : Nat) (s : State) : State :=
  updFab (fun x => { x with reload := status, reloadMs := (s.now - x.waitAt) / msP 1, offer := none, rxs := [] }) s

/-- RELOAD_DONE to the root (Table 17-1). -/
def sendDone (root result hk : Nat) (s : State) : State :=
  sendMessage 0x21 root (leBytes result 1 ++ leBytes hk 4 ++ [0, 0, 0]) s

/-- The fall-back (R20, R425): FAB_RELOAD_FAIL, then steps 4 and 5 from the own Bank A and key. -/
def reloadFails (status : Nat) (k : StartInput) (s : State) : State :=
  finishStart k (beforeStep4 k (report 0xB07 0 (reloadEnds status s)))

/-- RELOAD_WAIT_EXPIRY (R425): 2,000 ms without an offer. -/
def execReloadWaitExpiry (k : StartInput) (s : State) : Host.Outcome State Fault Refusal :=
  doneFor .core s fun s => if s.fab.reload = 1 then reloadFails 4 k (s.reach (s.fab.waitAt + msP 2000)) else s

/-- Split `n` components off a stream: header, body and signature of each (R510). -/
def splitComps : Nat → List Byte → List (List Byte) × List Byte
  | 0, b => ([], b)
  | n + 1, b =>
    let size := 128 + leAt b 8 4
    let r := splitComps n (b.drop size)
    (b.take size :: r.1, r.2)

/-- The bytes received on stream 0 from the root. -/
def reloadReceived (root : Nat) (s : State) : List Byte :=
  match s.fab.rxs.find? fun r => r.src == root && r.stream == 0 with | some r => r.bytes | none => []

/-- The word `HK_STATUS` of a reload's load (Table 2-9, SOURCE 4). -/
def reloadHk (e : Option LoadErr) : Nat := match e with | none => 64 | some x => x.outcome + 64 + x.detail * 2 ^ 8

/-- The checks of a received image: 5e to 5h as if it had been read from the key (R424). -/
def receivedErr (b : List Byte) (s : State) : Option LoadErr := headerErr b 262144 <|> bodyErr (b.take (imgLength b)) s

/-- The member record after a completed reload: own ordinal and root serial (R422). -/
def writeMember (root : Nat) (s : State) : State :=
  updFab (fun x => { x with member := some (x.domain.own, root) }) s

/-- The received fabric engine differs from the one that runs (R424). -/
def newFabric (cs : List (List Byte)) (s : State) : Bool :=
  match cs.find? fun c => leAt c 4 2 == 5 with | some c => c != bankAComp 5 s | none => false

/-- The reload is taken: step 4, the image as source 4, RELOAD_DONE, a new fabric engine in place of the old, and step 6
(R424). -/
def reloadTaken (k : StartInput) (src root : Nat) (cs : List (List Byte)) (img : List Byte) (s : State) : State :=
  let s1 := loadOutcome none 4 (img.take (imgLength img)) k (loadProcessors (beforeStep4 k s))
  let s2 := sendDone src 0 (reloadHk none) (writeMember root (reloadEnds 3 s1))
  let s3 := if newFabric cs s then fabStart s2 else
    let t := fabPorts s2
    formView (forEach (upPorts t) (fun p u => sendHello p u) t)
  goRunning k s3

/-- Stream 0 is complete: the components' signatures as at step 2, then the image; what fails falls back (R424, R425). -/
def streamComplete (at_ : Nat) (k : StartInput) (s0 : State) : State :=
  match s0.fab.offer with
  | none => s0
  | some (src, total, count, root) =>
    let b := reloadReceived src s0
    if s0.fab.reload ≠ 2 ∨ b.length < total then s0
    else
      let s := s0.reach at_
      let p := splitComps count (b.take total)
      if p.1.any fun c => (compErr (some s.upd.counter) c).isSome then reloadFails 5 k (sendDone src 1 (s.num Ix.HK_STATUS) s)
      else
        match receivedErr p.2 (beforeStep4 k s) with
        | some e => reloadFails 6 k (sendDone src 2 (reloadHk (some e)) s)
        | none => reloadTaken k src root p.1 p.2 s

/-- RELOAD_STREAM_COMPLETE (R424). -/
def execReloadStreamComplete (at_ : Nat) (k : StartInput) (s : State) : Host.Outcome State Fault Refusal :=
  doneFor .fabric s fun s => streamComplete at_ k s

/-- STREAM_RESEND_TIMEOUT (R417, R425): at the source 50 ms without an ACK; at a member that receives stream 0 from `dst`, the
stream is abandoned. -/
def execStreamResendTimeout (stream dst at_ : Nat) (k : StartInput) (s : State) : Host.Outcome State Fault Refusal :=
  doneFor .fabric s fun s => match s.fab.offer with
    | some (src, _) =>
      if s.fab.reload = 2 ∧ stream = 0 ∧ src = dst then
        let t := s.reach at_
        reloadFails 7 k (sendDone src 3 (t.num Ix.HK_STATUS) t)
      else streamTimeout stream dst s
    | none => streamTimeout stream dst s

end Sys2Proof.Machine
end

