-- ==== Sys2Proof/Machine/Turn.lean ====
section
/-!
DEFINITION. Turns of a Dalrez link (R384, R385), the delivery and routing of fabric frames (R405–R409), and log and Report Card
collection (R465).
-/
namespace Sys2Proof.Machine

/-! ## Collection (R465) -/

/-- A collecting node is permitted: its privilege is at least `FLT_COLLECT_PRIV`. -/
def mayCollect (f : FabFrame) (s : State) : Bool :=
  decide (s.fld Ix.FLT_COLLECT_PRIV 0 2 ≤ privOf (.fabric f.src) s)

/-- LOG_READ: up to three entries from a sequence up; 0 means the oldest held. -/
def logRead (at_ : Nat) (f : FabFrame) (s0 : State) : State :=
  let s := s0.reach at_
  let start := leAt f.payload 0 4
  let seqOf := fun (e : List Word) => (e.getD 1 0).toNat
  let es := if mayCollect f s then
      (s.flt.flash.filter fun e => decide (start ≤ seqOf e)).take (Nat.min 3 (leAt f.payload 4 1)) else []
  let next := match es.getLast? with | some e => seqOf e + 1 | none => start
  sendReply f 0x29 (statusHead 0 ++ leBytes next 4 ++ leBytes es.length 1 ++ [0, 0, 0]
    ++ (es.map fun e => (e.map fun w => leBytes w.toNat 4).flatten).flatten) s

/-- LOG_READ (R465). -/
def execLogRead (at_ : Nat) (f : FabFrame) (s : State) : Host.Outcome State Fault Refusal :=
  doneFor .fabricPair s fun s => logRead at_ f s

/-- RC_READ: words of page 0x34 as they read without a permission check. -/
def rcRead (at_ : Nat) (f : FabFrame) (s0 : State) : State :=
  let s := s0.reach at_
  let first := leAt f.payload 0 1
  let n := if mayCollect f s then Nat.min 60 (leAt f.payload 1 1) else 0
  let word := fun (k : Nat) => if first + k < 256 then (s.view (0x3400 + first + k)).toNat else 0
  sendReply f 0x2B (statusHead 0 ++ leBytes first 1 ++ leBytes n 1 ++ [0, 0]
    ++ ((List.range n).map fun k => leBytes (word k) 4).flatten) s

/-- RC_READ (R465). -/
def execRcRead (at_ : Nat) (f : FabFrame) (s : State) : Host.Outcome State Fault Refusal :=
  doneFor .fabricPair s fun s => rcRead at_ f s

/-! ## Replies (R408, R418) -/

/-- A reply to a request carried for the host on DZ0 returns there (R418). -/
def carriedReply (f : FabFrame) (s : State) : State :=
  match s.hst.carried.find? fun x => x.1 == some f.seq with
  | none => s
  | some (q, cmd, tag) =>
    updHst (fun h => { h with out := hostFrame cmd tag (leAt f.payload 0 1) f.payload, carried := h.carried.erase (q, cmd, tag) }) s

/-- A reply ends the own request of its SEQ and reaches the requesting service; one that matches none is discarded (R408). -/
def requestReply (at_ : Nat) (f : FabFrame) (s : State) : State :=
  match requestOf f s with
  | none => s.reach at_
  | some r =>
    match r.owner with
    | 0 => resolveReply at_ f (endRequest f.seq s)
    | 1 => reloadReply at_ f s
    | _ => carriedReply f (endRequest f.seq (s.reach at_))

/-- REQUEST_REPLY (R408). -/
def execRequestReply (at_ : Nat) (f : FabFrame) (s : State) : Host.Outcome State Fault Refusal :=
  doneFor .fabric s fun s => requestReply at_ f s

/-! ## Delivery (R405–R409, Table 17-1) -/

/-- A request for the application pair is queued; a full queue answers BUSY (R409). -/
def queueRequest (f : FabFrame) (s : State) : State :=
  if 64 ≤ s.fab.rxq.length then sendReply f (f.typ + 1) (statusHead 1) (s.bump Ix.FAB_REQ_COUNTS 24 8)
  else updFab (fun x => { x with rxq := x.rxq ++ [f] }) s

/-- A frame for this node; a type without a meaning is dropped and counted (R407). -/
def deliver (at_ : Nat) (f : FabFrame) (s : State) : State :=
  match f.typ with
  | 0x10 => echoRx at_ f s
  | 0x12 | 0x14 | 0x16 => queueRequest f s
  | 0x11 | 0x13 | 0x15 | 0x17 | 0x1D | 0x20 | 0x26 | 0x29 | 0x2B => requestReply at_ f s
  | 0x18 => signalsRx at_ f s
  | 0x1C => resolveRx at_ f s
  | 0x1E => domainStateRx at_ f s
  | 0x1F => reloadOffer at_ f s
  | 0x21 => reloadDone at_ f s
  | 0x22 => streamAck at_ f s
  | 0x24 => sprigSeg at_ f s
  | 0x25 => updQuery at_ f s
  | 0x27 => s
  | 0x28 => logRead at_ f s
  | 0x2A => rcRead at_ f s
  | _ => s.bump Ix.FAB_ROUTE_STATS 16 8

/-- The instant a frame's TURN byte ended: its bytes and its CRC last 2 µs each (R386). -/
def turnByteEnd (at_ : Nat) (f : FabFrame) : Nat := at_ - 80 * (12 + f.payload.length)

/-- The types of Table 17-1 that are routed. -/
def routedType (typ : Nat) : Bool := within 0x10 0x19 typ || within 0x1C 0x22 typ || within 0x24 0x2B typ

/-- A frame of types 0x10 to 0x3F with BCAST clear: delivered, dropped or sent on (R405); a type outside Table 17-1 is dropped (R407).
FAB_SYNC keeps its own way (R421). -/
def routedRx (p : Port) (at_ : Nat) (f : FabFrame) (s0 : State) : State :=
  let s := s0.reach at_
  if !routedType f.typ then s.bump Ix.FAB_ROUTE_STATS 16 8
  else if f.typ = 0x19 then syncRx p (turnByteEnd at_ f) f s
  else if routeCode f.dst s = 1 then deliver at_ f s
  else forwardFrame f s

/-- ROUTED_FRAME (R405): `at_` is the end of the frame. -/
def execRoutedFrame (p : Port) (at_ : Nat) (f : FabFrame) (s : State) : Host.Outcome State Fault Refusal :=
  doneFor .fabric s fun s => routedRx p at_ f s

/-- A frame with BCAST set: routed to its DST node, and delivered there and below; other types are dropped (R406). -/
def broadcastRx (p : Port) (at_ : Nat) (f : FabFrame) (s0 : State) : State :=
  let s := s0.reach at_
  if !mayBroadcast f.typ then s.bump Ix.FAB_ROUTE_STATS 16 8
  else if broadcastHere p f s then spread f (deliver at_ f s)
  else forwardFrame f s

/-- BROADCAST_FRAME (R406). -/
def execBroadcastFrame (p : Port) (at_ : Nat) (f : FabFrame) (s : State) : Host.Outcome State Fault Refusal :=
  doneFor .fabric s fun s => broadcastRx p at_ f s

/-- A frame received on a port by its type (Tables 16-3, 17-1): types outside both ranges are dropped. -/
def frameRx (p : Port) (at_ : Nat) (f : FabFrame) (train : Nat) (s : State) : State :=
  match f.typ with
  | 0x01 => helloRx p at_ f train s
  | 0x02 => callRx p at_ f s
  | 0x03 => declineRx p at_ f s
  | 0x04 => reportRx p at_ f s
  | 0x05 => assignRx p at_ f s
  | 0x06 => closeRx p at_ f s
  | 0x07 => linkChangeRx at_ f s
  | 0x08 => leaveRx p at_ s
  | 0x1A => delayReqRx p (turnByteEnd at_ f) s
  | 0x1B => delayRespRx p (turnByteEnd at_ f) f s
  | _ => if f.typ < 0x10 then s else if f.bcast then broadcastRx p at_ f s else routedRx p at_ f s

/-! ## Turns (R384, R385) -/

/-- Two frames are one: a resent frame keeps its header; FAB_SYNC and DELAY_RESP are stamped afresh for each attempt (R420, R421). -/
def sameFrame (a b : FabFrame) : Bool :=
  a == b || ((a.typ == 0x19 || a.typ == 0x1B) && { a with payload := [] } == { b with payload := [] })

/-- The peer's turn acknowledges the frame of the last own turn, or not; the fourth attempt was the last, and the eighth drop in a
row takes an UP link down (R385, R387). -/
def ackRx (p : Port) (ack : Bool) (train : Nat) (s : State) : State :=
  let x := s.fab.ports[p]
  match x.flight with
  | none => s
  | some f =>
    let clear : PortS → PortS := fun y => { y with flight := none, flightSync := none, attempts := 0 }
    if ack then
      let s1 := updPort p (fun y => { clear y with dropsRow := 0, helloAcked := y.helloAcked || f.typ == 0x01 }) s
      if f.typ = 0x01 then checkTrained p train s1 else s1
    else if x.attempts < 4 then s
    else
      let s1 := (updPort p (fun y => { clear y with dropsRow := y.dropsRow + 1 }) s).bump (Ix.FAB_PORT_COUNTS p.val) 16 8
      if x.st == .up && decide (8 ≤ x.dropsRow + 1) then portDown p s1 else s1

/-- The frame received is the one the port received last. -/
def seenBefore (p : Port) (f : FabFrame) (s : State) : Bool :=
  match (s.fab.ports[p]).lastRx with
  | some g => sameFrame f g
  | none => false

/-- The frame of the peer's turn: a bad CRC is counted and not acknowledged, a frame already received is only acknowledged. -/
def turnFrame (p : Port) (at_ : Nat) (frame : Option (List Byte)) (train : Nat) (s : State) : State :=
  match frame with
  | none => updPort p (fun y => { y with ackNext := false, lastRx := none }) s
  | some b =>
    match frameOf b with
    | none => updPort p (fun y => { y with ackNext := false }) (s.bump (Ix.FAB_PORT_COUNTS p.val) 0 8)
    | some f =>
      let s1 := updPort p (fun y => { y with ackNext := true, lastRx := some f }) s
      if seenBefore p f s then s1 else frameRx p at_ f train s1

/-- The frame of an attempt whose TURN byte ends at `t`: CORR, t2 and t3 are set for each attempt (R420, R421). -/
def stamped (t : Nat) (sync : Option SyncOut) (t2 : Option Nat) (f : FabFrame) : FabFrame :=
  match sync with
  | some q => { f with payload := withCorr ((q.corr + (t - q.at_)) % 2 ^ 32) f.payload }
  | none => if f.typ = 0x1B then { f with payload := leBytes (t2.getD 0) 4 ++ leBytes t 4 } else f

/-- Send a frame in the own turn. -/
def transmit (p : Port) (t : Nat) (sync : Option SyncOut) (f : FabFrame) (s : State) : State :=
  updPort p (fun y => { y with
    flight := some (stamped t sync y.t2 f), flightSync := sync, attempts := y.attempts + 1,
    t1 := if f.typ = 0x1A then some t else y.t1 }) s

/-- The own turn, 2 µs after the peer's (R384): the frame not acknowledged again, else FAB_SYNC, else the queue's head (R385,
R421). LOOP sends idle turns; TRAINING sends HELLO until it is acknowledged (Table 16-5). -/
def ownTurn (p : Port) (at_ : Nat) (s : State) : State :=
  let x := s.fab.ports[p]
  let t := at_ + turnByteP
  let s1 := updPort p (fun y => { y with ownTurn := at_ + usP 2 }) s
  match x.st with
  | .disabled | .down | .loop => s1
  | .training | .up =>
    match x.flight with
    | some f => transmit p t x.flightSync f (s1.bump (Ix.FAB_PORT_COUNTS p.val) 8 8)
    | none =>
      match x.syncs with
      | q :: rest => transmit p t (some q) q.frame (updPort p (fun y => { y with syncs := rest }) s1)
      | [] =>
        match x.queue with
        | f :: rest => transmit p t none f (updPort p (fun y => { y with queue := rest }) s1)
        | [] => if x.st == .training && !x.helloAcked then sendHello p s1 else s1

/-- A valid turn ends at an instant: `ack` is its ACK bit, `frame` the bytes it carries, `train` the rate at which stream lanes
train if the link comes UP by it. -/
def turnRx (p : Port) (at_ : Nat) (ack : Bool) (frame : Option (List Byte)) (train : Nat) (s0 : State) : State :=
  let s := s0.reach at_
  let heard := updPort p (fun y => { y with lastTurn := s.now }) s
  match (s.fab.ports[p]).st with
  | .disabled => s
  | .loop => ownTurn p at_ heard
  | .down =>
    let s1 := sendHello p (updPort p (fun y => { y with st := .training, queue := [] }) heard)
    ownTurn p at_ (turnFrame p at_ frame train s1)
  | .training | .up => ownTurn p at_ (turnFrame p at_ frame train (ackRx p ack train heard))

/-- FAB_TURN_RECEIVED (R384, R385). -/
def execFabTurnReceived (p : Port) (at_ : Nat) (ack : Bool) (frame : Option (List Byte)) (train : Nat) (s : State) :
    Host.Outcome State Fault Refusal := doneFor .fabric s fun s => turnRx p at_ ack frame train s

end Sys2Proof.Machine
end

