-- ==== Sys2Proof/Machine/Supply.lean ====
section
/-!
DEFINITION. The supply bands (R189), OVERVOLT and reverse supply (R570–R572), the shedding ladder (R543–R547), skipped conversions
(R548), dissipation (R584, R585), and the ends of the charger's sources (R309, R313).
-/
namespace Sys2Proof.Machine

/-! ## Outputs held off, and resumed -/

/-- Open every switch of a bridge that drives; its set-point is kept (R247, R571). -/
def openBridge (b : Mot) (s : State) : State :=
  if (s.br b).st.drives then
    updBr b (fun x => { x with toStop := false, reversal := none, watch := .clear, iqRef := 0 }) (enterBr b .off s)
  else s

/-- A lock stroke that the hold of its bridge cuts is asked for again when the hold ends; a brake has had its stroke (R188, R189). -/
def endHeldStroke (h : Hb) (s : State) : State :=
  let asked := fun (l : LockS) => if l.st == .drive then some l.dir else l.waiting
  if (s.chans[hbCh h]).held then updLock h (fun l => { l.cut with waiting := asked l }) s else s

/-- Bring the outputs within the holds that begin; a channel that stops its PWM periods is sampled as its mode asks (R181). -/
def holdOutputs (s : State) : State :=
  forEach (List.finRange 42) ensureSense (forEach (List.finRange 2) endHeldStroke (applyLimits s))

/-- Serve every channel, and start the strokes that wait. -/
def serveWaiting (s : State) : State :=
  forEach (List.finRange 2) (fun h t => if hbMode h t = 1 ∧ (t.locks[h]).st = .idle then wakeStroke h t else t) (serveAll s)

/-- The holds that ended: every channel that was held and whose request is on turns on with a full turn-on, and every string resumes
its composed state (R189, R219, R571). A channel that stayed on keeps its periods. -/
def resumeOutputs (s : State) : State := recompose (List.finRange 4) (serveWaiting (applyLimits s))

/-! ## Services post again (R140), and follow their requests where forcing ended (R174) -/

/-- A LIMP or SAFE reaction ended the forcing of WORKSHOP: the services bring their outputs to their requests (R174). -/
def serveUnforced (s : State) : State :=
  if s.flt.unforced then
    recompose (List.finRange 4) (forEach (List.finRange 2) postForce (serveWaiting { s with flt := { s.flt with unforced := false } }))
  else s

/-- SERVICE_POST_RETRY (R140): the application pair's services take their turn. -/
def execServicePostRetry (s : State) : Host.Outcome State Fault Refusal :=
  doneFor .pair s fun s => postRetry (staleFrames (staleWaiting (serveUnforced s)))

/-! ## Supply bands (R189, Table 8-10) -/

/-- The band after VBAT has stayed from `least` to `most`, in 10 mV, for the dwell of the level it lies beyond. -/
def bandAfter (least most : Nat) (b : Band) : Band :=
  match b with
  | .normal => if most < 600 then .crank else if 1800 < least then .jump else .normal
  | .crank => if 630 < least then .normal else .crank
  | .jump => if most < 1750 then .normal else .jump

/-- The services follow the band: loads and strings, bridges, switch inputs, touch, LIN, charger (R189, R219, R247, R257, R301,
R308, R352). -/
def followBand (old : Band) (s : State) : State :=
  let s1 := if s.band = .crank then holdOutputs s else if old = .crank then resumeOutputs s else serveAll s
  let s2 := forEach (List.finRange 2) crankBr s1
  if s.band = .crank ∨ old = .crank then refreshChg (linBand (touchBand (switchBand s2))) else s2

/-- SUPPLY_BAND_CHANGE: the service applies the bands while the application pair runs. -/
def bandChange (at_ least most : Nat) (s0 : State) : State :=
  let s := s0.reach at_
  let b := bandAfter least most s.band
  if s.procs.app != .running || b == s.band then s
  else
    let s1 : State := { s with band := b }
    let s2 := match b with
      | .crank => s1.bump Ix.SYS_SUPPLY_COUNTS 8 8
      | .jump => s1.bump Ix.SYS_SUPPLY_COUNTS 16 8
      | .normal => s1
    followBand s.band s2

/-- SUPPLY_BAND_CHANGE (R189). -/
def execSupplyBandChange (at_ least most : Nat) (s : State) : Host.Outcome State Fault Refusal :=
  doneFor .pairAwake s fun s => bandChange at_ least most s

/-! ## OVERVOLT and reverse supply (R571, R572) -/

/-- VBAT stayed at `least` or above, in 10 mV, for 100 µs: OVERVOLT is entered strictly above 28.0 V. -/
def overvoltEntry (at_ least : Nat) (s0 : State) : State :=
  let s := s0.reach at_
  if s.share.overvolt || !deviceUp s || decide (least ≤ 2800) then s
  else
    let s1 : State := { s with share := { s.share with overvolt := true } }
    let s2 := (s1.latch Ix.SYS_SUPPLY 16).bump Ix.SYS_SUPPLY_COUNTS 0 8
    refreshChg (forEach (List.finRange 2) openBridge (holdOutputs s2))

/-- OVERVOLT_ENTRY (R571). -/
def execOvervoltEntry (at_ least : Nat) (s : State) : Host.Outcome State Fault Refusal :=
  doneFor .pairAwake s fun s => overvoltEntry at_ least s

/-- VBAT stayed at `most` or below for 10 ms: OVERVOLT is left strictly below 27.0 V. -/
def overvoltExit (at_ most : Nat) (s0 : State) : State :=
  let s := s0.reach at_
  if !s.share.overvolt || decide (2700 ≤ most) then s
  else
    let s1 : State := { s with share := { s.share with overvolt := false } }
    let s2 := resumeOutputs (s1.unlatch Ix.SYS_SUPPLY 16)
    refreshChg (forEach (List.finRange 2) (fun b t => if (t.br b).st = .off then startFromCatch b t else t) s2)

/-- OVERVOLT_EXIT (R571). -/
def execOvervoltExit (at_ most : Nat) (s : State) : Host.Outcome State Fault Refusal :=
  doneFor .pairAwake s fun s => overvoltExit at_ most s

/-- Every high-side channel conducts, and nothing else does; at the end none does. -/
def reverseDrive (on : Bool) (s : State) : State :=
  mapCh (fun c x => if c.val < 36 then { chOff s.now x with drive := b2n on, pulse := on } else chOff s.now x) s

/-- Reverse supply begins or ends (R572): AO counts it while the cell holds it. -/
def reverseSupply (at_ : Nat) (on : Bool) (s0 : State) : State :=
  let s := s0.reach at_
  if s.share.reverse == on then s
  else
    let s1 := reverseDrive on { s with share := { s.share with reverse := on } }
    if on && s.chg.aoOnCell then s1.bump Ix.SYS_SUPPLY_COUNTS 24 8 else s1

/-- REVERSE_SUPPLY (R572). -/
def execReverseSupply (at_ : Nat) (reverse : Bool) (s : State) : Host.Outcome State Fault Refusal :=
  doneFor .power s fun s => reverseSupply at_ reverse s

/-! ## The shedding ladder (R543–R547) -/

/-- The shed conditions of Table 22-4: thermal, high-side sum, input, low voltage. -/
def shedConds (p : Pressures) (s : State) : List Bool :=
  let w := s.word Ix.SYS_SHARE_CFG
  let limit := s.fld Ix.SYS_INPUT_LIMIT 0 16
  [decide ((fld w 0 8 : Int) < p.slug), decide (4500 < p.sum), decide (limit ≠ 0 ∧ 10 * limit < p.input),
   decide (p.vbat < 10 * fld w 16 8)]

/-- The restore conditions of Table 22-4. -/
def restoreConds (p : Pressures) (s : State) : List Bool :=
  let w := s.word Ix.SYS_SHARE_CFG
  let limit := s.fld Ix.SYS_INPUT_LIMIT 0 16
  [decide (p.slug < (fld w 8 8 : Int)), decide (p.sum < 4200), decide (limit = 0 ∨ p.input < 9 * limit),
   decide (10 * fld w 16 8 + 50 < p.vbat)]

/-- The measurements of an evaluation in `SYS_SHARE_STATUS` and `SYS_SHARE_MEAS` (Table 22-6). -/
def notePressures (p : Pressures) (s : State) : State :=
  let s1 := (s.putFld Ix.SYS_SHARE_STATUS 8 4 (packBits (shedConds p s))).putFld Ix.SYS_SHARE_STATUS 16 16 (unsigned p.slug 16)
  s1.putNat Ix.SYS_SHARE_MEAS (Nat.min 65535 p.sum + Nat.min 65535 p.input * 2 ^ 16)

/-- The ladder at another level. -/
def atLevel (n : Nat) (s : State) : State := { s with share := { s.share with level := n } }

/-- What a channel puts out under its class's factor. -/
def chEffect (c : Ch) (s : State) : Nat :=
  let x := s.chans[c]
  if blocked x then 0
  else match chHb c with
    | some h =>
      if hbMode h s = 1 then 0
      else if hbMode h s = 2 then Nat.min (s.mot.brushed[h]).duty.natAbs (scaled 32767 (chFactor c s))
      else wantState c s
    | none => if wantState c s = 0 then 0 else if pwmEnabled c s then 1 + shedDuty c s else 1

/-- What every member of a class of the ladder does: channels, strings, bridges in motion, the charger's share. -/
def outputsNow (s : State) : List Nat :=
  ((List.finRange 42).map fun c => chEffect c s)
    ++ ((List.finRange 4).map fun t => if strBlocked s.led.strs[t] then 0 else (effLevel t s).1)
    ++ ((List.finRange 2).map fun b => if (s.br b).st.drives then motPeakLimit b s else 0)
    ++ [if isCharging s.chg.st then scaled (chgIlim s) (factorAtLevel s 4) else 0]

/-- A step between two levels changes an output (R544). -/
def levelActs (a b : Nat) (s : State) : Bool := outputsNow (atLevel a s) != outputsNow (atLevel b s)

/-- One step up: the steps that change no output go with the first that does, and the rest of its class's steps that change none
go with it, so that on-off members fall from 1.00 to 0 at once (R544). -/
def stepUp (s : State) : Nat :=
  let n := s.share.level
  let lvl := match (List.range (20 - n)).find? fun k => levelActs (n + k) (n + k + 1) s with | some k => n + k + 1 | none => 20
  let last := (lvl + 3) / 4 * 4
  if levelActs lvl last s then lvl else last

/-- One step down. -/
def stepDown (s : State) : Nat :=
  let n := s.share.level
  match (List.range n).find? fun k => levelActs (n - k) (n - k - 1) s with | some k => n - k - 1 | none => 0

/-- The members of every class follow the level (Table 22-5). -/
def followLevel (s : State) : State :=
  refreshChg (forEach (List.finRange 2) (fun b t => serveBr b t) (serveWaiting s))

/-- The pressures are evaluated: not in PARK, and the level holds in the CRANK band (R545). -/
def evaluates (s : State) : Bool := s.started && s.modes.mode != .park && s.band != .crank

/-- The shed dwells of Table 22-4 in ms. -/
def shedDwells : List Nat := [5000, 1000, 100, 1000]

/-- The restore dwells of Table 22-4 in ms. -/
def restoreDwells : List Nat := [30000, 10000, 2000, 5000]

/-- The pressures whose shed dwell elapses now: the condition has held for it, and it has not restarted since (R545). -/
def shedElapsed (p : Pressures) (s : State) : List Bool :=
  (List.range 4).map fun k =>
    let d := shedDwells.getD k 0
    (shedConds p s).getD k false && decide (d ≤ p.held.getD k 0) && decide (s.share.shedAt.getD k 0 + msP d ≤ s.now)

/-- Every restore dwell has elapsed since it restarted (R545). -/
def restoreElapsed (p : Pressures) (s : State) : Bool :=
  (List.range 4).all fun k =>
    let d := restoreDwells.getD k 0
    (restoreConds p s).getD k false && decide (d ≤ p.held.getD k 0) && decide (s.share.restoreAt + msP d ≤ s.now)

/-- The level rises by one step, and no further than the ladder goes. -/
def raiseLevel (s : State) : State :=
  if s.share.level < 20 then atLevel (stepUp s) (s.bump Ix.SYS_SHARE_COUNTS 0 16) else s

/-- The shed dwells that elapsed restart. -/
def restartSheds (due : List Bool) (s : State) : State :=
  { s with share := { s.share with shedAt := (s.share.shedAt.zip due).map fun x => if x.2 then s.now else x.1 } }

/-- Every shed dwell that elapses raises the level by one step (R545). -/
def shedUp (p : Pressures) (s0 : State) : State :=
  let s := s0.reach p.at_
  if !evaluates s then s
  else
    let s1 := notePressures p s
    let due := shedElapsed p s
    if due.any id then followLevel (forEach (due.filter id) (fun _ => raiseLevel) (restartSheds due s1)) else s1

/-- SHED_LEVEL_UP (R545). -/
def execShedLevelUp (p : Pressures) (s : State) : Host.Outcome State Fault Refusal := doneFor .pairAwake s fun s => shedUp p s

/-- Every pressure met its restore condition for its restore dwell (R545). -/
def shedDown (p : Pressures) (s0 : State) : State :=
  let s := s0.reach p.at_
  if !evaluates s then s
  else
    let s1 := notePressures p s
    if restoreElapsed p s && decide (0 < s.share.level) then
      followLevel (atLevel (stepDown s1) ({ s1 with share := { s1.share with restoreAt := s1.now } }.bump Ix.SYS_SHARE_COUNTS 16 16))
    else s1

/-- SHED_LEVEL_DOWN (R545). -/
def execShedLevelDown (p : Pressures) (s : State) : Host.Outcome State Fault Refusal := doneFor .pairAwake s fun s => shedDown p s

/-! ## Conversions (R548) -/

/-- The class of a conversion's owner; the inputs have none of Table 22-3 and count as the last. -/
def convClass (v : Conv) (s : State) : Nat :=
  match v with
  | .channel c _ => chClass c s
  | .string t _ => strClass t s
  | .position t _ _ => strClass t s
  | .analogue _ _ => 6
  | .supply _ _ => 6

/-- A conversion that could not start within 4 µs is skipped and counted; one of class 1 never is. The start delay counts for the
largest either way (Table 22-6). -/
def convSkip (v : Conv) (delay : Nat) (s : State) : State :=
  (onlyIf (convClass v s != 1 && decide (usP 4 < delay)) (fun t => t.bump Ix.SYS_ADC_STATS 0 16) s).peak
    Ix.SYS_ADC_STATS 16 16 (Nat.min 65535 delay)

/-- ADC_CONVERSION_SKIP (R548): the start delay in base periods. -/
def execAdcConversionSkip (conv : Conv) (delay : Nat) (s : State) : Host.Outcome State Fault Refusal :=
  doneFor .core s fun s => convSkip conv delay s

/-! ## Dissipation (R584, R585) -/

/-- The budget in 10 mW at a slug temperature: 12 W up to 85 °C, less 0.15 W per K, at least 6 W. -/
def heatBudget (slug : Int) : Nat := 1200 - Nat.min 600 (15 * (slug - 85).toNat)

/-- The logic's dissipation in 10 mW (Table 24-11). -/
def logicHeat (s : State) : Nat := if s.pw.pw == .doze then 102 else 168

/-- Junction temperatures into consecutive words. -/
def putTemps (base : Nat) (ts : List Int) (s : State) : State :=
  forEach ts.zipIdx (fun p t => t.putNat (base + p.2) (unsigned p.1 16)) s

/-- Every 100 ms: temperatures, the supply groups, dissipation and budget (Table 24-12). -/
def heatUpdate (d : Heat) (s0 : State) : State :=
  let s := putTemps (Ix.MOT_TEMP 0) (d.mot.take 2) (putTemps (Ix.HS_TEMP 0) (d.hs.take 36) (s0.reach d.at_))
  let s1 := s.putNat Ix.SYS_THERMAL (unsigned d.logic 16 + unsigned d.hottest 16 * 2 ^ 16)
  let s2 := s1.putFld Ix.SYS_SHARE_STATUS 16 16 (unsigned d.slug 16)
  let s3 := s2.putNat Ix.SYS_SUPPLY_GROUPS (leNat ((d.groups.take 4).map fun v => BitVec.ofNat 8 (Nat.min 255 v)))
  s3.putNat Ix.SYS_DISSIPATION (Nat.min 65535 (logicHeat s + d.terms.foldl (· + ·) 0) + heatBudget d.slug * 2 ^ 16)

/-- DISSIPATION_UPDATE (R584, R585). -/
def execDissipationUpdate (d : Heat) (s : State) : Host.Outcome State Fault Refusal :=
  doneFor .pairAwake s fun s => heatUpdate d s

/-! ## The cell and SVIN (R309, R313) -/

/-- The cell is cut off; where it alone fed AO, the part goes to OFF (Table 5-8). -/
def cutoffOf (cell : CellReading) (most : Nat) (s : State) : State :=
  let t := cellCutoff cell most s
  if s.chg.aoOnCell && t.chg.cutOff then aoLost t else t

/-- A charger fault is judged; CELL_HOT opens the cell switch, and where the cell alone fed AO the part goes to OFF (R316, Table 5-8). -/
def chgFaultOf (k : Fin 7) (least most : Int) (stay : Bool) (s : State) : State :=
  let t := chgFault k least most stay s
  if s.chg.aoOnCell && !t.chg.aoOnCell then aoLost t else t

/-- CHG_FAULT_DETECT (R315). -/
def execChgFaultDetect (k : Fin 7) (least most : Int) (stay : Bool) (s : State) : Host.Outcome State Fault Refusal :=
  doneFor .charger s fun s => chgFaultOf k least most stay s

/-- CELL_CUTOFF (R313). -/
def execCellCutoff (cell : CellReading) (most : Nat) (s : State) : Host.Outcome State Fault Refusal :=
  doneFor .charger s fun s => cutoffOf cell most s

/-- Charging lifts a cut-off cell strictly above Empty + 0.20 V: the cut-off ends. -/
def cutoffEnd (cell : CellReading) (s : State) : State :=
  let t := readCell cell s
  if t.chg.cutOff && isCharging t.chg.st && decide ((chem t).empty + 200 < cell.mv) then updChg (fun c => { c with cutOff := false }) t
  else t

/-- CELL_CUTOFF_END (R313). -/
def execCellCutoffEnd (cell : CellReading) (s : State) : Host.Outcome State Fault Refusal :=
  doneFor .charger s fun s => cutoffEnd cell s

/-- SVIN, in mV, is no longer strictly above 4.5 V (R109): the charger changes its input or idles (R309). -/
def svinGone (mv : Nat) (s : State) : State :=
  if s.chg.svinPresent && decide (mv ≤ 4500) then svinPresent mv 0 s else s

/-- SVIN_REMOVED (R309). -/
def execSvinRemoved (mv : Nat) (s : State) : Host.Outcome State Fault Refusal := doneFor .charger s fun s => svinGone mv s

end Sys2Proof.Machine
end

