-- ==== Sys2Proof/Machine/Fire.lean ====
section
/-!
DEFINITION. The Timetable events whose firing meets several services (R129): samples, CAN releases, lesson ticks and FAB_SYNC;
and the bound of R137, at which any action may fire.
-/
namespace Sys2Proof.Machine

/-- The conversion list a conversion belongs to (assumption log 24); the supply belongs to every list. -/
def convOf (list : Nat) (v : Conv) : Bool :=
  match v with
  | .channel c _ => list == c.val
  | .string t _ => list == strList t
  | .position t _ _ => list == strList t
  | .analogue n _ => list == anList n
  | .supply _ _ => true

/-- A conversion reaches its service (R168, R181, R215, R258). -/
def takeConv (v : Conv) (s : State) : State :=
  match v with
  | .channel c ma => chSample c ma s
  | .string t ma => strCurrentSample t ma s
  | .position t p vf => posSample t p vf s
  | .analogue n mv => analogSample n mv s
  | .supply vbat vbatp => supplySample vbat vbatp s

/-- The channel whose list a number is. -/
def chOfList (n : Nat) : Option Ch := if h : n < 42 then some ⟨n, h⟩ else none

/-- The owning service's conversion list runs; the largest start delay is recorded (R129, R548), and the load service chooses its
spacing again (R181); the touch service begins a frame (R281). -/
def fireAdc (list : Nat) (convs : List Conv) (delay : Nat) (s : State) : State :=
  let t := forEach (convs.filter (convOf list)) takeConv (s.peak Ix.SYS_ADC_STATS 16 16 (Nat.min 65535 delay))
  match chOfList list with
  | some c => if pairUp t then renewSense c t else t
  | none => if list = tchList then beginFrame t else t

/-- EVENT_ADC_SAMPLE. -/
def adcEvent (slot : Nat) (convs : List Conv) (delay : Nat) (s : State) : State :=
  match takeEvent slot s with
  | some (e, t) => match e.spec.act with | .adcSample n => fireAdc n convs delay t | _ => s
  | none => s

/-- EVENT_ADC_SAMPLE (R129): the measured conversions, and the largest start delay among them in base periods. -/
def execEventAdcSample (slot : Nat) (convs : List Conv) (delay : Nat) (s : State) : Host.Outcome State Fault Refusal :=
  doneFor .coreRun s fun s => adcEvent slot convs delay s

/-- A CAN_RELEASE fires: the NM frame of buffer 56, or the assembled payload (R333, R357). DESIGN CHOICE (assumption log 64): the
diagnostic and sprig services put a frame into buffers 57 to 63 as it arises, pending at once, so that a posted release of such a buffer
finds nothing to hand over. -/
def fireRelease (c : Can) (buf slot : Nat) (s : State) : State := if buf = 56 then releaseNm c s else releaseFrame c buf slot s

/-- EVENT_CAN_RELEASE. -/
def releaseEvent (slot : Nat) (s : State) : State :=
  match takeEvent slot s with
  | some (e, t) => match e.spec.act with | .canRelease c b => fireRelease c b e.slot t | _ => s
  | none => s

/-- EVENT_CAN_RELEASE (R333). -/
def execEventCanRelease (slot : Nat) (s : State) : Host.Outcome State Fault Refusal :=
  doneFor .coreRun s fun s => releaseEvent slot s

/-- A LESSON_TICK fires: the lesson is evaluated and its new sink values are handed over (R158, R162). -/
def fireLesson (l : LessonNo) (free : Bool) (s : State) : State :=
  let r := lessonTick l free s
  handValues r.2 r.1

/-- EVENT_LESSON_TICK. -/
def lessonEvent (slot : Nat) (s : State) : State :=
  match takeEvent slot s with
  | some (e, t) => match e.spec.act with | .lessonTick l => fireLesson l (e.spec.clock == 8) t | _ => s
  | none => s

/-- EVENT_LESSON_TICK (R158). -/
def execEventLessonTick (slot : Nat) (s : State) : Host.Outcome State Fault Refusal :=
  doneFor .coreRun s fun s => lessonEvent slot s

/-- EVENT_FAB_SYNC. -/
def fabSyncEvent (slot : Nat) (s : State) : State :=
  match takeEvent slot s with
  | some (e, t) => match e.spec.act with | .fabSync p c => fireFabSync p c t | _ => s
  | none => s

/-- EVENT_FAB_SYNC (R421). -/
def execEventFabSync (slot : Nat) (s : State) : Host.Outcome State Fault Refusal :=
  doneFor .coreRun s fun s => fabSyncEvent slot s

/-- An event of any action fires; a sample brings its conversions, and a period start the VBAT of its instant. -/
def fireAct (e : Event) (convs : List Conv) (delay vbat : Nat) (s : State) : State :=
  match e.spec.act with
  | .outSet c st => fireOutSet c st vbat s
  | .outDuty c d => fireOutDuty c d s
  | .ledScene t k => fireScene t k s
  | .ledStep t m => fireStep t m s
  | .adcSample n => fireAdc n convs delay s
  | .canRelease c b => fireRelease c b e.slot s
  | .lessonTick l => fireLesson l (e.spec.clock == 8) s
  | .motCmd b k => fireMotCmd b k s
  | .txnCommit => fireCommit s
  | .fabSync p c => fireFabSync p c s

/-- A committed phase-clock event not reached fires at its committed instant plus the horizon (R137). -/
def boundExpiry (slot : Nat) (convs : List Conv) (delay vbat : Nat) (s : State) : State :=
  match takeAtBound slot s with
  | some (e, t) => fireAct e convs delay vbat t
  | none => s

/-- COMMITTED_BOUND_EXPIRY (R137). -/
def execCommittedBoundExpiry (slot : Nat) (convs : List Conv) (delay vbat : Nat) (s : State) : Host.Outcome State Fault Refusal :=
  doneFor .coreRun s fun s => boundExpiry slot convs delay vbat s

end Sys2Proof.Machine
end

