-- ==== Sys2Proof/Machine/Dispatch.lean ====
section
/-!
DEFINITION. `exec`: one arm per command of the table.
-/
namespace Sys2Proof.Machine

/-- The effect of a command on everything but the queue. -/
def exec (i : Instr) (s : State) : Host.Outcome State Fault Refusal :=
  match i with
  | .powerOnReset k => Sys2Proof.Machine.execPowerOnReset k s
  | .principalSelfFault at_ k => Sys2Proof.Machine.execPrincipalSelfFault at_ k s
  | .lockstepMismatch at_ => Sys2Proof.Machine.execLockstepMismatch at_ s
  | .appHeartbeatTimeout at_ => Sys2Proof.Machine.execAppHeartbeatTimeout at_ s
  | .appReloadDone at_ => Sys2Proof.Machine.execAppReloadDone at_ s
  | .motCoproHeartbeatTimeout at_ => Sys2Proof.Machine.execMotCoproHeartbeatTimeout at_ s
  | .fabEngineHeartbeatTimeout at_ => Sys2Proof.Machine.execFabEngineHeartbeatTimeout at_ s
  | .mirrorWriteDone at_ => Sys2Proof.Machine.execMirrorWriteDone at_ s
  | .hkWbMirror r => Sys2Proof.Machine.execHkWbMirror r s
  | .hkWbStaged r => Sys2Proof.Machine.execHkWbStaged r s
  | .hkWriteBackDone at_ failed => Sys2Proof.Machine.execHkWriteBackDone at_ failed s
  | .ttPost group => Sys2Proof.Machine.execTtPost group s
  | .ttCancel slot gen => Sys2Proof.Machine.execTtCancel slot gen s
  | .eventCommit slot => Sys2Proof.Machine.execEventCommit slot s
  | .committedBoundExpiry slot convs delay vbat => Sys2Proof.Machine.execCommittedBoundExpiry slot convs delay vbat s
  | .eventOutSet slot vbat => Sys2Proof.Machine.execEventOutSet slot vbat s
  | .pwmOffEdge c => Sys2Proof.Machine.execPwmOffEdge c s
  | .eventOutDuty slot => Sys2Proof.Machine.execEventOutDuty slot s
  | .eventLedScene slot => Sys2Proof.Machine.execEventLedScene slot s
  | .eventLedStep slot => Sys2Proof.Machine.execEventLedStep slot s
  | .eventAdcSample slot convs delay => Sys2Proof.Machine.execEventAdcSample slot convs delay s
  | .eventCanRelease slot => Sys2Proof.Machine.execEventCanRelease slot s
  | .eventLessonTick slot => Sys2Proof.Machine.execEventLessonTick slot s
  | .eventMotCmd slot => Sys2Proof.Machine.execEventMotCmd slot s
  | .eventTxnCommit slot => Sys2Proof.Machine.execEventTxnCommit slot s
  | .eventFabSync slot => Sys2Proof.Machine.execEventFabSync slot s
  | .markMissing p => Sys2Proof.Machine.execMarkMissing p s
  | .coastLimit p => Sys2Proof.Machine.execCoastLimit p s
  | .clockStopTimeout p => Sys2Proof.Machine.execClockStopTimeout p s
  | .ttLogSelWrite age => Sys2Proof.Machine.execTtLogSelWrite age s
  | .txnBegin r => Sys2Proof.Machine.execTxnBegin r s
  | .txnWrite r idx v => Sys2Proof.Machine.execTxnWrite r idx v s
  | .txnRead r idx => Sys2Proof.Machine.execTxnRead r idx s
  | .txnCommit r inst => Sys2Proof.Machine.execTxnCommit r inst s
  | .txnAbort r => Sys2Proof.Machine.execTxnAbort r s
  | .txnStatus r => Sys2Proof.Machine.execTxnStatus r s
  | .txnTimeout => Sys2Proof.Machine.execTxnTimeout s
  | .paramWrite r idx v => Sys2Proof.Machine.execParamWrite r idx v s
  | .readClearWord r idx => Sys2Proof.Machine.execReadClearWord r idx s
  | .rideEntry at_ => Sys2Proof.Machine.execRideEntry at_ s
  | .rideExit at_ => Sys2Proof.Machine.execRideExit at_ s
  | .wsEnterRequest r => Sys2Proof.Machine.execWsEnterRequest r s
  | .wsExitRequest r => Sys2Proof.Machine.execWsExitRequest r s
  | .workshopEntry at_ => Sys2Proof.Machine.execWorkshopEntry at_ s
  | .workshopExit at_ => Sys2Proof.Machine.execWorkshopExit at_ s
  | .parkEntry at_ => Sys2Proof.Machine.execParkEntry at_ s
  | .parkWaitEnd => Sys2Proof.Machine.execParkWaitEnd s
  | .parkEntryCancel at_ code => Sys2Proof.Machine.execParkEntryCancel at_ code s
  | .hostStayWrite r v => Sys2Proof.Machine.execHostStayWrite r v s
  | .hostStayExpiry => Sys2Proof.Machine.execHostStayExpiry s
  | .memberRootLinkLoss at_ => Sys2Proof.Machine.execMemberRootLinkLoss at_ s
  | .dozeEntry => Sys2Proof.Machine.execDozeEntry s
  | .dozeExit => Sys2Proof.Machine.execDozeExit s
  | .standbyEntry => Sys2Proof.Machine.execStandbyEntry s
  | .standbyExitScheduled => Sys2Proof.Machine.execStandbyExitScheduled s
  | .standbyExitHold at_ => Sys2Proof.Machine.execStandbyExitHold at_ s
  | .wakeSourceFire code at_ least ms => Sys2Proof.Machine.execWakeSourceFire code at_ least ms s
  | .wakeStepTimeout steps => Sys2Proof.Machine.execWakeStepTimeout steps s
  | .wakeBackoffExpiry => Sys2Proof.Machine.execWakeBackoffExpiry s
  | .retainEscalation at_ most ms => Sys2Proof.Machine.execRetainEscalation at_ most ms s
  | .brownOut at_ => Sys2Proof.Machine.execBrownOut at_ s
  | .brownOutRecovery at_ k => Sys2Proof.Machine.execBrownOutRecovery at_ k s
  | .aoPowerLoss at_ => Sys2Proof.Machine.execAoPowerLoss at_ s
  | .rtcWrite r v => Sys2Proof.Machine.execRtcWrite r v s
  | .lessonPublish l => Sys2Proof.Machine.execLessonPublish l s
  | .bnHostWrite r k v => Sys2Proof.Machine.execBnHostWrite r k v s
  | .servicePostRetry => Sys2Proof.Machine.execServicePostRetry s
  | .inrushEnd c => Sys2Proof.Machine.execInrushEnd c s
  | .hsShortDetect c least most vbat us => Sys2Proof.Machine.execHsShortDetect c least most vbat us s
  | .hsOverloadDetect c => Sys2Proof.Machine.execHsOverloadDetect c s
  | .hsThermalDetect c temp => Sys2Proof.Machine.execHsThermalDetect c temp s
  | .hsOpenOnDetect c => Sys2Proof.Machine.execHsOpenOnDetect c s
  | .hsOpenOffDetect c least most => Sys2Proof.Machine.execHsOpenOffDetect c least most s
  | .hsShortBatDetect c least => Sys2Proof.Machine.execHsShortBatDetect c least s
  | .hsBackfeedDetect c most => Sys2Proof.Machine.execHsBackfeedDetect c most s
  | .channelRestart c at_ most => Sys2Proof.Machine.execChannelRestart c at_ most s
  | .hsLatchedClear c => Sys2Proof.Machine.execHsLatchedClear c s
  | .hsForceWrite r c v => Sys2Proof.Machine.execHsForceWrite r c v s
  | .senseCalRetry c outMv raw offset => Sys2Proof.Machine.execSenseCalRetry c outMv raw offset s
  | .lockEndstop h => Sys2Proof.Machine.execLockEndstop h s
  | .lockStrokeMax h => Sys2Proof.Machine.execLockStrokeMax h s
  | .lockBrakeEnd h => Sys2Proof.Machine.execLockBrakeEnd h s
  | .lockCoolingEnd h => Sys2Proof.Machine.execLockCoolingEnd h s
  | .hbRevBrakeEnd h => Sys2Proof.Machine.execHbRevBrakeEnd h s
  | .supplyBandChange at_ least most => Sys2Proof.Machine.execSupplyBandChange at_ least most s
  | .degradedOperationStart => Sys2Proof.Machine.execDegradedOperationStart s
  | .overlayRead => Sys2Proof.Machine.execOverlayRead s
  | .fadeTick t => Sys2Proof.Machine.execFadeTick t s
  | .ledPosOpenDetect t p least us => Sys2Proof.Machine.execLedPosOpenDetect t p least us s
  | .ledStrOpenDetect t least most us => Sys2Proof.Machine.execLedStrOpenDetect t least most us s
  | .ledStrShortDetect t excess us => Sys2Proof.Machine.execLedStrShortDetect t excess us s
  | .ledStrShortBatDetect t least => Sys2Proof.Machine.execLedStrShortBatDetect t least s
  | .ledThermalDetect t temp => Sys2Proof.Machine.execLedThermalDetect t temp s
  | .stringRestart t at_ most => Sys2Proof.Machine.execStringRestart t at_ most s
  | .ledOutageClear t mask => Sys2Proof.Machine.execLedOutageClear t mask s
  | .ledLatchedClear t => Sys2Proof.Machine.execLedLatchedClear t s
  | .ledDerateUpdate t temp => Sys2Proof.Machine.execLedDerateUpdate t temp s
  | .corneringUpdate at_ => Sys2Proof.Machine.execCorneringUpdate at_ s
  | .ledCalRetry t n00Mv raw offset => Sys2Proof.Machine.execLedCalRetry t n00Mv raw offset s
  | .ledForceWrite r t v => Sys2Proof.Machine.execLedForceWrite r t v s
  | .motSpeedLoopTick b at_ speed => Sys2Proof.Machine.execMotSpeedLoopTick b at_ speed s
  | .motRmsUpdate b rms => Sys2Proof.Machine.execMotRmsUpdate b rms s
  | .motCatchDone b emfMv angle speed => Sys2Proof.Machine.execMotCatchDone b emfMv angle speed s
  | .motStillBrakeDone b => Sys2Proof.Machine.execMotStillBrakeDone b s
  | .motAlignDone b => Sys2Proof.Machine.execMotAlignDone b s
  | .motHandoff b err angle speed => Sys2Proof.Machine.execMotHandoff b err angle speed s
  | .motHandoffTimeout b => Sys2Proof.Machine.execMotHandoffTimeout b s
  | .motForcedEntry b speed => Sys2Proof.Machine.execMotForcedEntry b speed s
  | .motForcedStop b => Sys2Proof.Machine.execMotForcedStop b s
  | .motHoldTimeout b => Sys2Proof.Machine.execMotHoldTimeout b s
  | .motSupplyWatchBand b least most => Sys2Proof.Machine.execMotSupplyWatchBand b least most s
  | .motReversalHoldEnd b => Sys2Proof.Machine.execMotReversalHoldEnd b s
  | .motHomeStall b least => Sys2Proof.Machine.execMotHomeStall b least s
  | .motHomeFail b => Sys2Proof.Machine.execMotHomeFail b s
  | .motShortDetect b ma us => Sys2Proof.Machine.execMotShortDetect b ma us s
  | .motPeakTrip b => Sys2Proof.Machine.execMotPeakTrip b s
  | .motThermalDetect b temp => Sys2Proof.Machine.execMotThermalDetect b temp s
  | .motObserverLoss b err => Sys2Proof.Machine.execMotObserverLoss b err s
  | .motPhaseOpenDetect b least others => Sys2Proof.Machine.execMotPhaseOpenDetect b least others s
  | .motRestart b at_ most => Sys2Proof.Machine.execMotRestart b at_ most s
  | .motLatchedClear b => Sys2Proof.Machine.execMotLatchedClear b s
  | .motOffsetCal b emfMv raw offset => Sys2Proof.Machine.execMotOffsetCal b emfMv raw offset s
  | .motCalOffsetCmd r b emfMv raw offset => Sys2Proof.Machine.execMotCalOffsetCmd r b emfMv raw offset s
  | .motCalIdentifyCmd r b emfMv res ind => Sys2Proof.Machine.execMotCalIdentifyCmd r b emfMv res ind s
  | .motForceWrite r b v => Sys2Proof.Machine.execMotForceWrite r b v s
  | .swRawEdge n at_ mv => Sys2Proof.Machine.execSwRawEdge n at_ mv s
  | .swDebounceExpiry n => Sys2Proof.Machine.execSwDebounceExpiry n s
  | .swStandbySample at_ mvs => Sys2Proof.Machine.execSwStandbySample at_ mvs s
  | .parkSwitchSample at_ mvs => Sys2Proof.Machine.execParkSwitchSample at_ mvs s
  | .ssupFaultDetect k mv limited => Sys2Proof.Machine.execSsupFaultDetect k mv limited s
  | .ssupRetry k => Sys2Proof.Machine.execSsupRetry k s
  | .fqEdge f at_ => Sys2Proof.Machine.execFqEdge f at_ s
  | .fqDiagFault f isOpen range => Sys2Proof.Machine.execFqDiagFault f isOpen range s
  | .speedReevaluation f at_ => Sys2Proof.Machine.execSpeedReevaluation f at_ s
  | .altZeroCrossing at_ peak => Sys2Proof.Machine.execAltZeroCrossing at_ peak s
  | .imuPublish m => Sys2Proof.Machine.execImuPublish m s
  | .imuActivityWindow at_ accel gyro => Sys2Proof.Machine.execImuActivityWindow at_ accel gyro s
  | .tamperReferenceCapture at_ gravity => Sys2Proof.Machine.execTamperReferenceCapture at_ gravity s
  | .imuStandbyEval at_ accel gyro gravity => Sys2Proof.Machine.execImuStandbyEval at_ accel gyro gravity s
  | .gyroZeroSuccess at_ mean => Sys2Proof.Machine.execGyroZeroSuccess at_ mean s
  | .gyroZeroTimeout => Sys2Proof.Machine.execGyroZeroTimeout s
  | .imuCalZeroCmd r => Sys2Proof.Machine.execImuCalZeroCmd r s
  | .imuCalLevelCmd r gravity held => Sys2Proof.Machine.execImuCalLevelCmd r gravity held s
  | .imuClearWrite r v => Sys2Proof.Machine.execImuClearWrite r v s
  | .touchFrame m => Sys2Proof.Machine.execTouchFrame m s
  | .touchCalRetry g => Sys2Proof.Machine.execTouchCalRetry g s
  | .tchCalCmdWrite r v => Sys2Proof.Machine.execTchCalCmdWrite r v s
  | .touchStuckTimeout g => Sys2Proof.Machine.execTouchStuckTimeout g s
  | .gloveHoldExpiry g => Sys2Proof.Machine.execGloveHoldExpiry g s
  | .parkTouchSample at_ raw0 raw1 => Sys2Proof.Machine.execParkTouchSample at_ raw0 raw1 s
  | .cellSwitchChangeover railMv => Sys2Proof.Machine.execCellSwitchChangeover railMv s
  | .svinPresent mv least => Sys2Proof.Machine.execSvinPresent mv least s
  | .vbatGateChange least most => Sys2Proof.Machine.execVbatGateChange least most s
  | .chgSearchStart at_ openMv vbatMv apart => Sys2Proof.Machine.execChgSearchStart at_ openMv vbatMv apart s
  | .chgSearchStep least maxMa vbatMv => Sys2Proof.Machine.execChgSearchStep least maxMa vbatMv s
  | .chgInputBackoff most => Sys2Proof.Machine.execChgInputBackoff most s
  | .chgPrechargeDone cell least => Sys2Proof.Machine.execChgPrechargeDone cell least s
  | .chgVtermReached cell => Sys2Proof.Machine.execChgVtermReached cell s
  | .chgTermination cell most => Sys2Proof.Machine.execChgTermination cell most s
  | .chgRechargeStart cell most => Sys2Proof.Machine.execChgRechargeStart cell most s
  | .chgTimerExpiry => Sys2Proof.Machine.execChgTimerExpiry s
  | .cellCutoff cell most => Sys2Proof.Machine.execCellCutoff cell most s
  | .chgWindowChange least most => Sys2Proof.Machine.execChgWindowChange least most s
  | .chgFaultDetect k least most stay => Sys2Proof.Machine.execChgFaultDetect k least most stay s
  | .chgFaultsRead r => Sys2Proof.Machine.execChgFaultsRead r s
  | .cellProbe cell least drop => Sys2Proof.Machine.execCellProbe cell least drop s
  | .socSeed cell => Sys2Proof.Machine.execSocSeed cell s
  | .bkoutCellCutoff cell => Sys2Proof.Machine.execBkoutCellCutoff cell s
  | .canFrameReceived c at_ sof f => Sys2Proof.Machine.execCanFrameReceived c at_ sof f s
  | .canRxTimeout lin entry => Sys2Proof.Machine.execCanRxTimeout lin entry s
  | .canIntegrationComplete c at_ => Sys2Proof.Machine.execCanIntegrationComplete c at_ s
  | .canTxAttempt c at_ => Sys2Proof.Machine.execCanTxAttempt c at_ s
  | .canArbitrationLost c => Sys2Proof.Machine.execCanArbitrationLost c s
  | .canTxSuccess c at_ tdc => Sys2Proof.Machine.execCanTxSuccess c at_ tdc s
  | .canErrorFrame c at_ kind tx exempt fdf more => Sys2Proof.Machine.execCanErrorFrame c at_ kind tx exempt fdf more s
  | .canProtocolException c at_ => Sys2Proof.Machine.execCanProtocolException c at_ s
  | .canBusoffHoldExpiry c => Sys2Proof.Machine.execCanBusoffHoldExpiry c s
  | .canRecoveryDone c at_ => Sys2Proof.Machine.execCanRecoveryDone c at_ s
  | .canRecoverWrite r c v => Sys2Proof.Machine.execCanRecoverWrite r c v s
  | .canTxbCancel r c hi v => Sys2Proof.Machine.execCanTxbCancel r c hi v s
  | .canBusStuck c at_ => Sys2Proof.Machine.execCanBusStuck c at_ s
  | .canTimingApply c at_ => Sys2Proof.Machine.execCanTimingApply c at_ s
  | .canTestWrite r c v => Sys2Proof.Machine.execCanTestWrite r c v s
  | .canRxSelWrite r v => Sys2Proof.Machine.execCanRxSelWrite r v s
  | .linSlotStart l at_ => Sys2Proof.Machine.execLinSlotStart l at_ s
  | .linResponseReceived l at_ data check framing bitError => Sys2Proof.Machine.execLinResponseReceived l at_ data check framing bitError s
  | .linNoResponse l => Sys2Proof.Machine.execLinNoResponse l s
  | .linHeaderReceived l at_ pid syncOk => Sys2Proof.Machine.execLinHeaderReceived l at_ pid syncOk s
  | .nmFrameReceived c at_ f => Sys2Proof.Machine.execNmFrameReceived c at_ f s
  | .nmCycleSend c => Sys2Proof.Machine.execNmCycleSend c s
  | .nmOwnNeedChange ch at_ => Sys2Proof.Machine.execNmOwnNeedChange ch at_ s
  | .nmReadyExpiry c => Sys2Proof.Machine.execNmReadyExpiry c s
  | .nmSleepCmdSend c => Sys2Proof.Machine.execNmSleepCmdSend c s
  | .nmSilenceExpiry c => Sys2Proof.Machine.execNmSilenceExpiry c s
  | .nmOffenderTimeout c => Sys2Proof.Machine.execNmOffenderTimeout c s
  | .nmIdleTimeout c => Sys2Proof.Machine.execNmIdleTimeout c s
  | .busWakePattern c at_ => Sys2Proof.Machine.execBusWakePattern c at_ s
  | .wufMatch c at_ f => Sys2Proof.Machine.execWufMatch c at_ f s
  | .wufDecoderFallback c => Sys2Proof.Machine.execWufDecoderFallback c s
  | .nmEscalationHoldExpiry c => Sys2Proof.Machine.execNmEscalationHoldExpiry c s
  | .nmFwClearWrite r v => Sys2Proof.Machine.execNmFwClearWrite r v s
  | .nmOffSelWrite r v => Sys2Proof.Machine.execNmOffSelWrite r v s
  | .nmOffClearWrite r v => Sys2Proof.Machine.execNmOffClearWrite r v s
  | .linGoToSleep l => Sys2Proof.Machine.execLinGoToSleep l s
  | .linResponderIdle l => Sys2Proof.Machine.execLinResponderIdle l s
  | .linWakeDominant l at_ dur => Sys2Proof.Machine.execLinWakeDominant l at_ dur s
  | .linWakePulseTimeout l => Sys2Proof.Machine.execLinWakePulseTimeout l s
  | .fabTurnReceived p at_ ack frame train => Sys2Proof.Machine.execFabTurnReceived p at_ ack frame train s
  | .fabIdleTurnTimer p => Sys2Proof.Machine.execFabIdleTurnTimer p s
  | .fabLinkTimeout p => Sys2Proof.Machine.execFabLinkTimeout p s
  | .hello p at_ f train => Sys2Proof.Machine.execHello p at_ f train s
  | .helloSendTimer p => Sys2Proof.Machine.execHelloSendTimer p s
  | .leave p at_ => Sys2Proof.Machine.execLeave p at_ s
  | .rootHoldExpiry => Sys2Proof.Machine.execRootHoldExpiry s
  | .epochStart => Sys2Proof.Machine.execEpochStart s
  | .call p at_ f => Sys2Proof.Machine.execCall p at_ f s
  | .decline p at_ f => Sys2Proof.Machine.execDecline p at_ f s
  | .report p at_ f => Sys2Proof.Machine.execReport p at_ f s
  | .rcWaitTimeout p => Sys2Proof.Machine.execRcWaitTimeout p s
  | .assign p at_ f => Sys2Proof.Machine.execAssign p at_ f s
  | .close p at_ f => Sys2Proof.Machine.execClose p at_ f s
  | .linkChange at_ f => Sys2Proof.Machine.execLinkChange at_ f s
  | .fabRcCmdWrite r v => Sys2Proof.Machine.execFabRcCmdWrite r v s
  | .fabAddrSelWrite r v => Sys2Proof.Machine.execFabAddrSelWrite r v s
  | .routedFrame p at_ f => Sys2Proof.Machine.execRoutedFrame p at_ f s
  | .broadcastFrame p at_ f => Sys2Proof.Machine.execBroadcastFrame p at_ f s
  | .echo at_ f => Sys2Proof.Machine.execEcho at_ f s
  | .readRequest r at_ idx => Sys2Proof.Machine.execReadRequest r at_ idx s
  | .writeRequest r at_ recs => Sys2Proof.Machine.execWriteRequest r at_ recs s
  | .requestReply at_ f => Sys2Proof.Machine.execRequestReply at_ f s
  | .requestTimeout seq => Sys2Proof.Machine.execRequestTimeout seq s
  | .signalsSend pub => Sys2Proof.Machine.execSignalsSend pub s
  | .signalsReceived at_ f => Sys2Proof.Machine.execSignalsReceived at_ f s
  | .subscriptionTimeout n => Sys2Proof.Machine.execSubscriptionTimeout n s
  | .fabSyncReceived p at_ f => Sys2Proof.Machine.execFabSyncReceived p at_ f s
  | .delayReqSend p => Sys2Proof.Machine.execDelayReqSend p s
  | .delayReq p at_ => Sys2Proof.Machine.execDelayReq p at_ s
  | .delayResp p at_ f => Sys2Proof.Machine.execDelayResp p at_ f s
  | .resolve at_ f => Sys2Proof.Machine.execResolve at_ f s
  | .resolveReply at_ f => Sys2Proof.Machine.execResolveReply at_ f s
  | .domainStateSend => Sys2Proof.Machine.execDomainStateSend s
  | .domainStateReceived at_ f => Sys2Proof.Machine.execDomainStateReceived at_ f s
  | .rootStateTimeout => Sys2Proof.Machine.execRootStateTimeout s
  | .reloadOffer at_ f => Sys2Proof.Machine.execReloadOffer at_ f s
  | .reloadReply at_ f => Sys2Proof.Machine.execReloadReply at_ f s
  | .reloadStreamComplete at_ k => Sys2Proof.Machine.execReloadStreamComplete at_ k s
  | .reloadDone at_ f => Sys2Proof.Machine.execReloadDone at_ f s
  | .reloadWaitExpiry k => Sys2Proof.Machine.execReloadWaitExpiry k s
  | .fabReloadCmdWrite r v => Sys2Proof.Machine.execFabReloadCmdWrite r v s
  | .fabRouteSelWrite r v => Sys2Proof.Machine.execFabRouteSelWrite r v s
  | .streamPacketReceived p at_ k crcOk => Sys2Proof.Machine.execStreamPacketReceived p at_ k crcOk s
  | .streamCreditReturn p n => Sys2Proof.Machine.execStreamCreditReturn p n s
  | .streamAck at_ f => Sys2Proof.Machine.execStreamAck at_ f s
  | .streamResendTimeout stream dst at_ k => Sys2Proof.Machine.execStreamResendTimeout stream dst at_ k s
  | .hostStreamFrame at_ dst frame => Sys2Proof.Machine.execHostStreamFrame at_ dst frame s
  | .hspiSend at_ sck frame whole => Sys2Proof.Machine.execHspiSend at_ sck frame whole s
  | .hspiFetch at_ sck whole => Sys2Proof.Machine.execHspiFetch at_ sck whole s
  | .hspiStatus at_ sck => Sys2Proof.Machine.execHspiStatus at_ sck s
  | .hspiUnknownOpcode at_ sck => Sys2Proof.Machine.execHspiUnknownOpcode at_ sck s
  | .ping bytes => Sys2Proof.Machine.execPing bytes s
  | .authChallenge => Sys2Proof.Machine.execAuthChallenge s
  | .authRespond response => Sys2Proof.Machine.execAuthRespond response s
  | .authDrop => Sys2Proof.Machine.execAuthDrop s
  | .hostReset => Sys2Proof.Machine.execHostReset s
  | .hspiCsStuckLow at_ => Sys2Proof.Machine.execHspiCsStuckLow at_ s
  | .imgBegin total replace sha => Sys2Proof.Machine.execImgBegin total replace sha s
  | .imgWrite offset data => Sys2Proof.Machine.execImgWrite offset data s
  | .imgProgressQuery => Sys2Proof.Machine.execImgProgressQuery s
  | .imgEnd => Sys2Proof.Machine.execImgEnd s
  | .imgAbort => Sys2Proof.Machine.execImgAbort s
  | .imgSessionExpiry => Sys2Proof.Machine.execImgSessionExpiry s
  | .keyStage offset data => Sys2Proof.Machine.execKeyStage offset data s
  | .hstIrqCauseWrite r v => Sys2Proof.Machine.execHstIrqCauseWrite r v s
  | .udsSessionControl c body => Sys2Proof.Machine.execUdsSessionControl c body s
  | .udsS3Timeout => Sys2Proof.Machine.execUdsS3Timeout s
  | .isotpTimeout c which => Sys2Proof.Machine.execIsotpTimeout c which s
  | .ecuResetHard c sp rest k => Sys2Proof.Machine.execEcuResetHard c sp rest k s
  | .ecuResetSoft c sp rest => Sys2Proof.Machine.execEcuResetSoft c sp rest s
  | .clearDtc c body => Sys2Proof.Machine.execClearDtc c body s
  | .readDtcCountByStatus c body => Sys2Proof.Machine.execReadDtcCountByStatus c body s
  | .readDtcByStatus c body => Sys2Proof.Machine.execReadDtcByStatus c body s
  | .readDtcExtData c body => Sys2Proof.Machine.execReadDtcExtData c body s
  | .readDtcSupported c body => Sys2Proof.Machine.execReadDtcSupported c body s
  | .readDataById c body => Sys2Proof.Machine.execReadDataById c body s
  | .writeDataById c body => Sys2Proof.Machine.execWriteDataById c body s
  | .saRequestSeedL1 c rest => Sys2Proof.Machine.execSaRequestSeedL1 c rest s
  | .saSendKeyL1 c key => Sys2Proof.Machine.execSaSendKeyL1 c key s
  | .saRequestSeedL3 c rest => Sys2Proof.Machine.execSaRequestSeedL3 c rest s
  | .saSendKeyL3 c response => Sys2Proof.Machine.execSaSendKeyL3 c response s
  | .saDelayExpiry c => Sys2Proof.Machine.execSaDelayExpiry c s
  | .commEnableRxTx c sp body => Sys2Proof.Machine.execCommEnableRxTx c sp body s
  | .commEnableRxDisableTx c sp body => Sys2Proof.Machine.execCommEnableRxDisableTx c sp body s
  | .commDisableRxTx c sp body => Sys2Proof.Machine.execCommDisableRxTx c sp body s
  | .routineResults c body => Sys2Proof.Machine.execRoutineResults c body s
  | .requestDownloadImage c body => Sys2Proof.Machine.execRequestDownloadImage c body s
  | .requestDownloadKey c body => Sys2Proof.Machine.execRequestDownloadKey c body s
  | .transferData c body => Sys2Proof.Machine.execTransferData c body s
  | .requestTransferExit c rest => Sys2Proof.Machine.execRequestTransferExit c rest s
  | .testerPresent c body => Sys2Proof.Machine.execTesterPresent c body s
  | .dtcSettingOn c sp rest => Sys2Proof.Machine.execDtcSettingOn c sp rest s
  | .dtcSettingOff c sp rest => Sys2Proof.Machine.execDtcSettingOff c sp rest s
  | .udsUnsupportedService c sid => Sys2Proof.Machine.execUdsUnsupportedService c sid s
  | .routineImageSha c sha => Sys2Proof.Machine.execRoutineImageSha c sha s
  | .routineProgress c rest => Sys2Proof.Machine.execRoutineProgress c rest s
  | .updStatus c rest => Sys2Proof.Machine.execUpdStatus c rest s
  | .updBitmap c body => Sys2Proof.Machine.execUpdBitmap c body s
  | .updActivate r viaCmd startNow k => Sys2Proof.Machine.execUpdActivate r viaCmd startNow k s
  | .updDiscard r viaCmd => Sys2Proof.Machine.execUpdDiscard r viaCmd s
  | .lcChange c body k => Sys2Proof.Machine.execLcChange c body k s
  | .adoptPermit c vehicle => Sys2Proof.Machine.execAdoptPermit c vehicle s
  | .signerLoad c body => Sys2Proof.Machine.execSignerLoad c body s
  | .revoke c body => Sys2Proof.Machine.execRevoke c body s
  | .keyLoad c body => Sys2Proof.Machine.execKeyLoad c body s
  | .attest c nonce => Sys2Proof.Machine.execAttest c nonce s
  | .certCheck c rest => Sys2Proof.Machine.execCertCheck c rest s
  | .faultReport id inst => Sys2Proof.Machine.execFaultReport id inst s
  | .faultEventExpiry id inst => Sys2Proof.Machine.execFaultEventExpiry id inst s
  | .logFlush => Sys2Proof.Machine.execLogFlush s
  | .fltClearWrite r v => Sys2Proof.Machine.execFltClearWrite r v s
  | .fltLogSelWrite r v => Sys2Proof.Machine.execFltLogSelWrite r v s
  | .reportCardSample at_ temps erases => Sys2Proof.Machine.execReportCardSample at_ temps erases s
  | .reportCardFlush at_ => Sys2Proof.Machine.execReportCardFlush at_ s
  | .logRead at_ f => Sys2Proof.Machine.execLogRead at_ f s
  | .rcRead at_ f => Sys2Proof.Machine.execRcRead at_ f s
  | .credentialExpiry w => Sys2Proof.Machine.execCredentialExpiry w s
  | .authLockoutExpiry w => Sys2Proof.Machine.execAuthLockoutExpiry w s
  | .authCommandFrame c at_ f => Sys2Proof.Machine.execAuthCommandFrame c at_ f s
  | .permitExpiry => Sys2Proof.Machine.execPermitExpiry s
  | .ownerLockSet r => Sys2Proof.Machine.execOwnerLockSet r s
  | .ownerLockClear r => Sys2Proof.Machine.execOwnerLockClear r s
  | .ownerRefusalExpiry => Sys2Proof.Machine.execOwnerRefusalExpiry s
  | .testPortProvision makerKey makerId sig cut => Sys2Proof.Machine.execTestPortProvision makerKey makerId sig cut s
  | .testPortScrap k => Sys2Proof.Machine.execTestPortScrap k s
  | .testPortUnlock response => Sys2Proof.Machine.execTestPortUnlock response s
  | .testPortExtest drive => Sys2Proof.Machine.execTestPortExtest drive s
  | .testPortIdcode => Sys2Proof.Machine.execTestPortIdcode s
  | .testPortBypass bits => Sys2Proof.Machine.execTestPortBypass bits s
  | .debugAccess addr write => Sys2Proof.Machine.execDebugAccess addr write s
  | .tstRstnAssert => Sys2Proof.Machine.execTstRstnAssert s
  | .tstRstnRelease k => Sys2Proof.Machine.execTstRstnRelease k s
  | .entropyHealthTest at_ pass => Sys2Proof.Machine.execEntropyHealthTest at_ pass s
  | .drbgReseed pass => Sys2Proof.Machine.execDrbgReseed pass s
  | .canSprigMessage c at_ msg => Sys2Proof.Machine.execCanSprigMessage c at_ msg s
  | .linSprigMessage l at_ nad msg => Sys2Proof.Machine.execLinSprigMessage l at_ nad msg s
  | .sprigSeg at_ f => Sys2Proof.Machine.execSprigSeg at_ f s
  | .sprigReassemblyTimeout => Sys2Proof.Machine.execSprigReassemblyTimeout s
  | .bankSEraseDone => Sys2Proof.Machine.execBankSEraseDone s
  | .bankSVerifyDone => Sys2Proof.Machine.execBankSVerifyDone s
  | .updateExpiry => Sys2Proof.Machine.execUpdateExpiry s
  | .updAutoActivate at_ k => Sys2Proof.Machine.execUpdAutoActivate at_ k s
  | .updQuery at_ f => Sys2Proof.Machine.execUpdQuery at_ f s
  | .updEvent => Sys2Proof.Machine.execUpdEvent s
  | .updBitmapSelWrite r v => Sys2Proof.Machine.execUpdBitmapSelWrite r v s
  | .recoveryRetry k => Sys2Proof.Machine.execRecoveryRetry k s
  | .shedLevelUp p => Sys2Proof.Machine.execShedLevelUp p s
  | .shedLevelDown p => Sys2Proof.Machine.execShedLevelDown p s
  | .adcConversionSkip conv delay => Sys2Proof.Machine.execAdcConversionSkip conv delay s
  | .overvoltEntry at_ least => Sys2Proof.Machine.execOvervoltEntry at_ least s
  | .overvoltExit at_ most => Sys2Proof.Machine.execOvervoltExit at_ most s
  | .reverseSupply at_ reverse => Sys2Proof.Machine.execReverseSupply at_ reverse s
  | .dissipationUpdate d => Sys2Proof.Machine.execDissipationUpdate d s
  | .motCoproReloadDone => Sys2Proof.Machine.execMotCoproReloadDone s
  | .fabEngineReloadDone at_ => Sys2Proof.Machine.execFabEngineReloadDone at_ s
  | .motPwmPeriod m => Sys2Proof.Machine.execMotPwmPeriod m s
  | .ledPulsePeriod t => Sys2Proof.Machine.execLedPulsePeriod t s
  | .cellCutoffEnd cell => Sys2Proof.Machine.execCellCutoffEnd cell s
  | .svinRemoved mv => Sys2Proof.Machine.execSvinRemoved mv s
  | .challengeExpiry w => Sys2Proof.Machine.execChallengeExpiry w s

end Sys2Proof.Machine
end

