-- ==== Sys2Proof/Machine/Queue.lean ====
section
/-!
DEFINITION. The queue of waiting commands: the block with the rest of its queue, with a command put in front, and what the
block does while none waits.
-/
namespace Sys2Proof.Machine

/-- The block with a command put at the front of its queue. -/
def State.withFront (s : State) (i : Instr) : State := { s with pending := i :: s.pending }

/-- The block with another queue. -/
def State.withQueue (s : State) (q : List Instr) : State := { s with pending := q }

/-- No command waits: one base period of 25 ns passes (R16; DESIGN CHOICE, assumption log 4). -/
def idle (s : State) : State := { s with now := s.now + 1 }

end Sys2Proof.Machine
end

