-- ==== Sys2Proof/Safety.lean ====
section
/-!
DEFINITION. The terms in which statements speak of steps: what every command does to the queue and the clock beside its own
effect, completion, and a run that never stops.
-/
namespace Sys2Proof.Machine

/-- The state a command leaves whose own effect on `s` is `t`: the queue stays as the command found it, the clock never turns back
(assumption log 4), and the dwells are brought up to date (Table 4-2). -/
def after (s t : State) : State := track s { t with pending := s.pending, now := Nat.max s.now t.now }

/-- What has to be powered and running for a command (Tables 1-1, 1-2, 4-4). -/
def Instr.part : Instr → Part
  | .powerOnReset _ | .principalSelfFault _ _ | .lockstepMismatch _ | .appHeartbeatTimeout _ | .appReloadDone _
  | .motCoproHeartbeatTimeout _ | .fabEngineHeartbeatTimeout _ => .always
  | .mirrorWriteDone _ => .core
  | .hkWbMirror _ | .hkWbStaged _ => .pair
  | .hkWriteBackDone _ _ => .core
  | .ttPost _ | .ttCancel _ _ => .pair
  | .eventCommit _ | .committedBoundExpiry _ _ _ _ | .eventOutSet _ _ => .coreRun
  | .pwmOffEdge _ => .power
  | .eventOutDuty _ | .eventLedScene _ | .eventLedStep _ | .eventAdcSample _ _ _ | .eventCanRelease _ | .eventLessonTick _
  | .eventMotCmd _ | .eventTxnCommit _ | .eventFabSync _ => .coreRun
  | .markMissing _ | .coastLimit _ | .clockStopTimeout _ => .core
  | .ttLogSelWrite _ | .txnBegin _ | .txnWrite _ _ _ | .txnRead _ _ | .txnCommit _ _ | .txnAbort _ | .txnStatus _
  | .txnTimeout | .paramWrite _ _ _ | .readClearWord _ _ | .rideEntry _ | .rideExit _ | .wsEnterRequest _
  | .wsExitRequest _ | .workshopEntry _ | .workshopExit _ | .parkEntry _ => .pair
  | .parkWaitEnd | .parkEntryCancel _ _ => .pairQuiet
  | .hostStayWrite _ _ => .pair
  | .hostStayExpiry | .memberRootLinkLoss _ | .dozeEntry | .dozeExit | .standbyEntry | .standbyExitScheduled
  | .standbyExitHold _ => .pairQuiet
  | .wakeSourceFire _ _ _ _ | .wakeStepTimeout _ | .wakeBackoffExpiry | .retainEscalation _ _ _ | .brownOut _
  | .brownOutRecovery _ _ | .aoPowerLoss _ => .always
  | .rtcWrite _ _ | .lessonPublish _ | .bnHostWrite _ _ _ | .servicePostRetry => .pair
  | .inrushEnd _ => .stage
  | .hsShortDetect _ _ _ _ _ => .power
  | .hsOverloadDetect _ => .stage
  | .hsThermalDetect _ _ => .power
  | .hsOpenOnDetect _ | .hsOpenOffDetect _ _ _ | .hsShortBatDetect _ _ | .hsBackfeedDetect _ _ | .channelRestart _ _ _ => .stage
  | .hsLatchedClear _ | .hsForceWrite _ _ _ => .pair
  | .senseCalRetry _ _ _ _ | .lockEndstop _ | .lockStrokeMax _ | .lockBrakeEnd _ | .lockCoolingEnd _ | .hbRevBrakeEnd _ => .stage
  | .supplyBandChange _ _ _ => .pairAwake
  | .degradedOperationStart => .pair
  | .overlayRead => .stage
  | .fadeTick _ | .ledPosOpenDetect _ _ _ _ => .power
  | .ledStrOpenDetect _ _ _ _ => .stage
  | .ledStrShortDetect _ _ _ => .power
  | .ledStrShortBatDetect _ _ => .stage
  | .ledThermalDetect _ _ => .power
  | .stringRestart _ _ _ => .stage
  | .ledOutageClear _ _ | .ledLatchedClear _ => .pair
  | .ledDerateUpdate _ _ | .corneringUpdate _ | .ledCalRetry _ _ _ _ => .stage
  | .ledForceWrite _ _ _ => .pair
  | .motSpeedLoopTick _ _ _ | .motRmsUpdate _ _ | .motCatchDone _ _ _ _ | .motStillBrakeDone _ | .motAlignDone _
  | .motHandoff _ _ _ _ | .motHandoffTimeout _ | .motForcedEntry _ _ | .motForcedStop _ | .motHoldTimeout _
  | .motSupplyWatchBand _ _ _ | .motReversalHoldEnd _ | .motHomeStall _ _ | .motHomeFail _ => .motor
  | .motShortDetect _ _ _ | .motPeakTrip _ | .motThermalDetect _ _ => .bridge
  | .motObserverLoss _ _ | .motPhaseOpenDetect _ _ _ | .motRestart _ _ _ => .motor
  | .motLatchedClear _ => .pair
  | .motOffsetCal _ _ _ _ => .motor
  | .motCalOffsetCmd _ _ _ _ _ | .motCalIdentifyCmd _ _ _ _ _ | .motForceWrite _ _ _ => .pair
  | .swRawEdge _ _ _ | .swDebounceExpiry _ => .pairAwake
  | .swStandbySample _ _ => .pairQuiet
  | .parkSwitchSample _ _ => .always
  | .ssupFaultDetect _ _ _ | .ssupRetry _ | .fqEdge _ _ | .fqDiagFault _ _ _ | .speedReevaluation _ _
  | .altZeroCrossing _ _ | .imuPublish _ | .imuActivityWindow _ _ _ | .tamperReferenceCapture _ _ => .pairAwake
  | .imuStandbyEval _ _ _ _ => .pairQuiet
  | .gyroZeroSuccess _ _ | .gyroZeroTimeout => .pairAwake
  | .imuCalZeroCmd _ | .imuCalLevelCmd _ _ _ | .imuClearWrite _ _ => .pair
  | .touchFrame _ | .touchCalRetry _ => .pairAwake
  | .tchCalCmdWrite _ _ => .pair
  | .touchStuckTimeout _ | .gloveHoldExpiry _ => .pairAwake
  | .parkTouchSample _ _ _ => .always
  | .cellSwitchChangeover _ | .svinPresent _ _ => .charger
  | .vbatGateChange _ _ | .chgSearchStart _ _ _ _ | .chgSearchStep _ _ _ | .chgInputBackoff _ | .chgPrechargeDone _ _
  | .chgVtermReached _ | .chgTermination _ _ | .chgRechargeStart _ _ | .chgTimerExpiry => .chgPair
  | .cellCutoff _ _ => .charger
  | .chgWindowChange _ _ => .chgPair
  | .chgFaultDetect _ _ _ _ => .charger
  | .chgFaultsRead _ => .pair
  | .cellProbe _ _ _ | .socSeed _ => .chgPair
  | .bkoutCellCutoff _ => .charger
  | .canFrameReceived _ _ _ _ => .always
  | .canRxTimeout _ _ => .pair
  | .canIntegrationComplete _ _ | .canTxAttempt _ _ | .canArbitrationLost _ | .canTxSuccess _ _ _
  | .canErrorFrame _ _ _ _ _ _ _ | .canProtocolException _ _ | .canBusoffHoldExpiry _ | .canRecoveryDone _ _ => .coreRun
  | .canRecoverWrite _ _ _ | .canTxbCancel _ _ _ _ => .pair
  | .canBusStuck _ _ | .canTimingApply _ _ => .coreRun
  | .canTestWrite _ _ _ | .canRxSelWrite _ _ => .pair
  | .linSlotStart _ _ | .linResponseReceived _ _ _ _ _ _ | .linNoResponse _ | .linHeaderReceived _ _ _ _ => .coreRun
  | .nmFrameReceived _ _ _ | .nmCycleSend _ | .nmOwnNeedChange _ _ | .nmReadyExpiry _ | .nmSleepCmdSend _
  | .nmSilenceExpiry _ | .nmOffenderTimeout _ | .nmIdleTimeout _ => .pair
  | .busWakePattern _ _ | .wufMatch _ _ _ | .wufDecoderFallback _ | .nmEscalationHoldExpiry _ => .always
  | .nmFwClearWrite _ _ | .nmOffSelWrite _ _ | .nmOffClearWrite _ _ => .pair
  | .linGoToSleep _ | .linResponderIdle _ | .linWakeDominant _ _ _ | .linWakePulseTimeout _ => .coreRun
  | .fabTurnReceived _ _ _ _ _ | .fabIdleTurnTimer _ | .fabLinkTimeout _ | .hello _ _ _ _ | .helloSendTimer _ | .leave _ _
  | .rootHoldExpiry | .epochStart | .call _ _ _ | .decline _ _ _ | .report _ _ _ | .rcWaitTimeout _ | .assign _ _ _
  | .close _ _ _ | .linkChange _ _ => .fabric
  | .fabRcCmdWrite _ _ | .fabAddrSelWrite _ _ => .pair
  | .routedFrame _ _ _ | .broadcastFrame _ _ _ | .echo _ _ => .fabric
  | .readRequest _ _ _ | .writeRequest _ _ _ => .pair
  | .requestReply _ _ | .requestTimeout _ | .signalsSend _ | .signalsReceived _ _ | .subscriptionTimeout _
  | .fabSyncReceived _ _ _ | .delayReqSend _ | .delayReq _ _ | .delayResp _ _ _ | .resolve _ _ | .resolveReply _ _
  | .domainStateSend | .domainStateReceived _ _ | .rootStateTimeout | .reloadOffer _ _ | .reloadReply _ _
  | .reloadStreamComplete _ _ | .reloadDone _ _ => .fabric
  | .reloadWaitExpiry _ => .core
  | .fabReloadCmdWrite _ _ | .fabRouteSelWrite _ _ => .pair
  | .streamPacketReceived _ _ _ _ | .streamCreditReturn _ _ | .streamAck _ _ | .streamResendTimeout _ _ _ _
  | .hostStreamFrame _ _ _ => .fabric
  | .hspiSend _ _ _ _ | .hspiFetch _ _ _ | .hspiStatus _ _ | .hspiUnknownOpcode _ _ => .pairQuiet
  | .ping _ | .authChallenge | .authRespond _ | .authDrop | .hostReset | .hspiCsStuckLow _ | .imgBegin _ _ _
  | .imgWrite _ _ | .imgProgressQuery | .imgEnd | .imgAbort | .imgSessionExpiry | .keyStage _ _ | .hstIrqCauseWrite _ _
  | .udsSessionControl _ _ | .udsS3Timeout | .isotpTimeout _ _ | .ecuResetHard _ _ _ _ | .ecuResetSoft _ _ _
  | .clearDtc _ _ | .readDtcCountByStatus _ _ | .readDtcByStatus _ _ | .readDtcExtData _ _ | .readDtcSupported _ _
  | .readDataById _ _ | .writeDataById _ _ | .saRequestSeedL1 _ _ | .saSendKeyL1 _ _ | .saRequestSeedL3 _ _
  | .saSendKeyL3 _ _ | .saDelayExpiry _ | .commEnableRxTx _ _ _ | .commEnableRxDisableTx _ _ _ | .commDisableRxTx _ _ _
  | .routineResults _ _ | .requestDownloadImage _ _ | .requestDownloadKey _ _ | .transferData _ _
  | .requestTransferExit _ _ | .testerPresent _ _ | .dtcSettingOn _ _ _ | .dtcSettingOff _ _ _
  | .udsUnsupportedService _ _ | .routineImageSha _ _ | .routineProgress _ _ | .updStatus _ _ | .updBitmap _ _
  | .updActivate _ _ _ _ | .updDiscard _ _ | .lcChange _ _ _ | .adoptPermit _ _ | .signerLoad _ _ | .revoke _ _
  | .keyLoad _ _ | .attest _ _ | .certCheck _ _ => .pair
  | .faultReport _ _ => .always
  | .faultEventExpiry _ _ | .logFlush => .pairQuiet
  | .fltClearWrite _ _ | .fltLogSelWrite _ _ => .pair
  | .reportCardSample _ _ _ | .reportCardFlush _ => .pairQuiet
  | .logRead _ _ | .rcRead _ _ => .fabricPair
  | .credentialExpiry _ | .authLockoutExpiry _ => .core
  | .authCommandFrame _ _ _ => .pair
  | .permitExpiry => .core
  | .ownerLockSet _ | .ownerLockClear _ => .pair
  | .ownerRefusalExpiry => .core
  | .testPortProvision _ _ _ _ | .testPortScrap _ | .testPortUnlock _ | .testPortExtest _ | .testPortIdcode
  | .testPortBypass _ | .debugAccess _ _ | .tstRstnAssert | .tstRstnRelease _ => .always
  | .entropyHealthTest _ _ | .drbgReseed _ => .core
  | .canSprigMessage _ _ _ | .linSprigMessage _ _ _ _ => .pair
  | .sprigSeg _ _ => .fabricPair
  | .sprigReassemblyTimeout => .pair
  | .bankSEraseDone | .bankSVerifyDone | .updateExpiry => .core
  | .updAutoActivate _ _ => .pair
  | .updQuery _ _ | .updEvent => .fabricPair
  | .updBitmapSelWrite _ _ => .pair
  | .recoveryRetry _ => .always
  | .shedLevelUp _ | .shedLevelDown _ => .pairAwake
  | .adcConversionSkip _ _ => .core
  | .overvoltEntry _ _ | .overvoltExit _ _ => .pairAwake
  | .reverseSupply _ _ => .power
  | .dissipationUpdate _ => .pairAwake
  | .motCoproReloadDone | .fabEngineReloadDone _ => .always
  | .motPwmPeriod _ => .motor
  | .ledPulsePeriod _ => .power
  | .cellCutoffEnd _ | .svinRemoved _ => .charger
  | .challengeExpiry _ => .core

/-- What serves a command is available: its domain is powered and the owner of its work runs (R9, R10); and where the command ends
STANDBY, STANDBY is not in force (R105). -/
def Ready (i : Instr) (s : State) : Prop :=
  served (Instr.part i) s = true ∧ ((Instr.part i).rouses = true → s.pw.pw ≠ .standby)

/-- A command completes with an effect: where what serves it is available, it answers from `s` the next state that `t` gives. -/
def Completes (i : Instr) (s t : State) : Prop := Ready i s → exec i s = .next (after s t)

/-- A command completes with a property: where what serves it is available, it answers from `s` a next state that has it. -/
def Gives (i : Instr) (s : State) (P : State → Prop) : Prop := Ready i s → ∃ t, exec i s = .next t ∧ P t

/-- The block as an operation of a requester on a transaction finds it: the request is noted, for a tester with the request taken
off those that wait (Table 4-2 row 1, R434). -/
def opened (r : Requester) (s : State) : State := match r with | .tester c => udsStart c 0x31 s | _ => noteRequest r s

/-- An operation of a requester on a transaction is carried out: a tester's where its session opens the routine (R448). -/
def admitted (r : Requester) (s : State) : Prop := ∀ c, r = .tester c → udsGate c 0x31 1 progExt true 0 (opened r s) = none

/-- A step answers a next state. -/
def Safe (s : State) : Prop := ∃ t, step s = .next t

/-- The slots of the Timetable are in order (R72, R128, R140): no two events share a slot, slots go up to 4,095, each event counts
against its own pool or the shared range, no pool is overdrawn, and the pools fit the slots. -/
def SlotsOk (s : State) : Prop :=
  (s.tt.events.map (·.slot)).Nodup ∧
  (∀ e ∈ s.tt.events, e.slot ≤ 4095 ∧ (e.slot = 4095 ∨ e.shared = true ∨ (1 ≤ e.spec.pool ∧ e.spec.pool ≤ 8))) ∧
  poolSum s ≤ 4095 ∧ (∀ k < 8, poolUse (k + 1) s ≤ s.num (Ix.TT_POOL_1 + k)) ∧ poolUse 0 s ≤ sharedSize s

end Sys2Proof.Machine
end

