-- ==== Sys2Proof/Certificates/Slice0/Obligations.lean ====
section
/-!
DEFINITION. The statements about the CB7 block. A clause that names a next state says of every field it does not name that it
is as it was, where it ends in an equation of the whole state; the dwells that every command brings up to date are those of
`EveryStepCompletes`. A clause on a command holds where what serves the command is available (`Ready`).
-/
open Sys2Proof Sys2Proof.Machine

/-- For every command and every state: a step of the state with the command at the front of its queue is `exec` of the command on
the state with the queue's rest. -/
def Obligations.StepRunsFront : Prop :=
  ∀ (i : Instr) (s : State), step (s.withFront i) = exec i s

/-- On an empty queue a step answers the same state one base period of 25 ns later. What an empty queue does is the model's choice
(assumption log 4), not a rule of the spec. -/
def Obligations.EmptyQueueIdles : Prop :=
  ∀ s : State, s.pending = [] → step s = .next { s with now := s.now + 1 }

/-- For every state a step answers a next state: no command stops the block. The queue after it is the queue less its first
command, and the instant is not earlier. After a command the dwells are those that its instant and the state it leaves give. A
command whose block is not powered or whose processor does not run changes nothing else (but for an error frame on a CAN channel
that sleeps, which the decoder of AO sees). A command that ends STANDBY acts in it as it acts on the state after the return to
RUN. The queue is the model's own (assumption log 4). -/
def Obligations.EveryStepCompletes : Prop :=
  (∀ s : State, ∃ t, step s = .next t ∧ t.pending = s.pending.tail ∧ s.now ≤ t.now) ∧
  (∀ (i : Instr) (s : State), ∃ u : State, u.pending = s.pending ∧ s.now ≤ u.now ∧
    exec i s = .next { u with dwell := dwellsOf u (dwellsOf { s with now := u.now } s.dwell) }) ∧
  (∀ (i : Instr) (s : State), served (Instr.part i) s = false →
    (∀ (c : Can) (at_ kind : Nat) (tx exempt fdf : Bool) (more : Nat), i = .canErrorFrame c at_ kind tx exempt fdf more →
      (s.can.ctl[c]).st ≠ .sleep) →
    exec i s = .next (after s s)) ∧
  (∀ (i : Instr) (s : State), (Instr.part i).rouses = true → served (Instr.part i) s = true → s.pw.pw = .standby →
    (∀ (c : Can) (at_ kind : Nat) (tx exempt fdf : Bool) (more : Nat), i = .canErrorFrame c at_ kind tx exempt fdf more →
      (s.can.ctl[c]).st ≠ .sleep) →
    ∃ t, exec i s = .next (after s t) ∧ exec i (leaveStandby s) = .next (after (leaveStandby s) t))

/-- Right after reset the mode is WATCH and the power state RUN; every action channel is OFF and undriven; every string is DISABLED
and dark, every bridge OFF and undriven; no transaction and no event exists; every parameter word holds its Reset column in the
store, `TXN_TIMEOUT` 2,000 ms; no command waits. Words without a Reset column hold the values of assumption log 1, and that the
block stands before its first start (no start has ended) is the model's reading. -/
def Obligations.ResetState : Prop :=
  State.reset.modes.mode = .watch ∧ State.reset.pw.pw = .run ∧
  (∀ c : Ch, (State.reset.ch c).st = .off ∧ (State.reset.ch c).drive = 0) ∧
  (∀ t : Str, State.reset.led.strs[t].st = .disabled ∧ State.reset.led.strs[t].level = 0) ∧
  (∀ b : Mot, State.reset.mot.bridges[b].st = .off) ∧
  State.reset.txn.st = .idle ∧ State.reset.tt.events = [] ∧ State.reset.pending = [] ∧ State.reset.started = false ∧
  (∀ i, State.reset.word i = resetWord i) ∧ State.reset.num Ix.TXN_TIMEOUT = 2000

/-- A read, a direct write or a staged write of a word is permitted exactly if the index is not reserved, its access class allows the
operation, the requester's privilege is at least the word's, and the word is alive in the present mode and life-cycle state. The
privileges are ordered PUBLIC, INTEGRATOR, MAKER, VENDOR. -/
def Obligations.PermittedOnlyIfAllFour : Prop :=
  (Priv.pub.rank < Priv.integ.rank ∧ Priv.integ.rank < Priv.maker.rank ∧ Priv.maker.rank < Priv.vendor.rank) ∧
  ∀ (r : Requester) (i : Nat) (s : State),
    (mayRead r i s = true ↔ ∃ x, paramRow i = some x ∧ x.priv.rank ≤ privOf r s ∧ aliveNow x.alive s = true) ∧
    (mayWrite r i s = true ↔ ∃ x, paramRow i = some x ∧ (x.access = .rw ∨ x.access = .w1c) ∧ x.priv.rank ≤ privOf r s ∧
      aliveNow x.alive s = true) ∧
    (mayStage r i s = true ↔ ∃ x, paramRow i = some x ∧ (x.access = .rw ∨ x.access = .rwt ∨ x.access = .w1c) ∧
      x.priv.rank ≤ privOf r s ∧ aliveNow x.alive s = true)

/-- A read that is not permitted returns zero and leaves the state as it was, a read-clear word too; a read that is permitted clears a
read-clear word. A write that is not permitted has status OK (0) and leaves the state as it was. For each command that is one write
or one read of one word, the state after a refused request is the state after noting that its requester asked (Table 4-2 row 1),
with nothing else changed. -/
def Obligations.RefusedRequestsChangeNothing : Prop :=
  (∀ (r : Requester) (i : Nat) (s : State), mayRead r i s = false → readParam r i s = (0, s)) ∧
  (∀ (r : Requester) (i : Nat) (x : ParamRow) (s : State), mayRead r i s = true → paramRow i = some x → x.access = .rc →
    i ≠ Ix.CHG_FAULTS → i ≠ Ix.PWR_WATCH_RUN → i ≠ Ix.PWR_WATCH_STBY → (readParam r i s).2 = s.put i (resetWord i)) ∧
  (∀ (r : Requester) (s : State), mayRead r Ix.CHG_FAULTS s = true → (readParam r Ix.CHG_FAULTS s).2 = chgFaultsRead s) ∧
  (∀ (r : Requester) (m : Measured) (i : Nat) (v : Word) (s : State), mayWrite r i s = false → writeParam r m i v s = (0, s)) ∧
  (∀ (r : Requester) (i : Nat) (s : State), mayRead r i (noteRequest r s) = false →
    Completes (.readClearWord r i) s (noteRequest r s)) ∧
  (∀ (r : Requester) (c : Ch) (v : Word) (s : State), mayWrite r (chForceIx c) (noteRequest r s) = false →
    Completes (.hsForceWrite r c v) s (noteRequest r s)) ∧
  (∀ (r : Requester) (t : Str) (v : Word) (s : State), mayWrite r (Ix.LED_FORCE t.val) (noteRequest r s) = false →
    Completes (.ledForceWrite r t v) s (noteRequest r s)) ∧
  (∀ (r : Requester) (v : Word) (s : State), mayWrite r Ix.MODE_HOST_STAY (noteRequest r s) = false →
    Completes (.hostStayWrite r v) s (noteRequest r s)) ∧
  (∀ (r : Requester) (v : Word) (s : State), mayWrite r Ix.FLT_CLEAR (noteRequest r s) = false →
    Completes (.fltClearWrite r v) s (noteRequest r s))

/-- A permitted direct write to a word whose value lies outside the range its table defines, sets an undefined code, or fails a
range stated against another word's committed value, has status BAD_VALUE (5) and leaves the state as it was. Reserved bits are
cleared before the value is judged, so a value differing only in them is judged as the value without them. -/
def Obligations.BadValueKeepsWord : Prop :=
  (∀ (r : Requester) (m : Measured) (i : Nat) (v : Word) (x : ParamRow) (s : State), mayWrite r i s = true →
    paramRow i = some x → x.access = .rw → (valueOk i v s && crossOk i (s.put i (cleanValue i v))) = false →
    writeParam r m i v s = (5, s)) ∧
  (∀ (i : Nat) (v w : Word) (x : ParamRow), paramRow i = some x → usedBits x v = usedBits x w →
    maskWord v (usedBits x v) = maskWord w (usedBits x w) → rangeOk i v = rangeOk i w)

/-- A permitted read of a read-clear word returns its present value and clears it: the stored word is at its Reset column (the latched
charger faults and the two accounts of WATCH time are fields of their own, which the read empties), and no other word changes. A
permitted read of a word of any other class returns the present value and changes nothing, but that reading `TT_FREE_LO` latches
the bits of FREE above it for `TT_FREE_HI`; a read that is not permitted leaves every word unchanged. READ_CLEAR_WORD and
CHG_FAULTS_READ are such reads. -/
def Obligations.ReadClearsOnlyWhenPermitted : Prop :=
  (∀ (r : Requester) (i : Nat) (x : ParamRow) (s : State), mayRead r i s = true → paramRow i = some x → x.access = .rc →
    i ≠ Ix.CHG_FAULTS → i ≠ Ix.PWR_WATCH_RUN → i ≠ Ix.PWR_WATCH_STBY →
    (readParam r i s).1 = readWord i s ∧ (readParam r i s).2.word i = resetWord i ∧
    ∀ k, k ≠ i → (readParam r i s).2.word k = s.word k) ∧
  (∀ (r : Requester) (s : State), mayRead r Ix.CHG_FAULTS s = true →
    readParam r Ix.CHG_FAULTS s = (readWord Ix.CHG_FAULTS s, chgFaultsRead s)) ∧
  (∀ (r : Requester) (s : State), mayRead r Ix.PWR_WATCH_RUN s = true →
    (readParam r Ix.PWR_WATCH_RUN s).1 = readWord Ix.PWR_WATCH_RUN s ∧ (readParam r Ix.PWR_WATCH_RUN s).2.pw.watchRun = 0 ∧
    (readParam r Ix.PWR_WATCH_RUN s).2.words = s.words) ∧
  (∀ (r : Requester) (s : State), mayRead r Ix.PWR_WATCH_STBY s = true →
    (readParam r Ix.PWR_WATCH_STBY s).1 = readWord Ix.PWR_WATCH_STBY s ∧ (readParam r Ix.PWR_WATCH_STBY s).2.pw.watchStby = 0 ∧
    (readParam r Ix.PWR_WATCH_STBY s).2.words = s.words) ∧
  (∀ (r : Requester) (i : Nat) (x : ParamRow) (s : State), mayRead r i s = true → paramRow i = some x → x.access ≠ .rc → i ≠ Ix.TT_FREE_LO →
    readParam r i s = (readWord i s, s)) ∧
  (∀ (r : Requester) (s : State), mayRead r Ix.TT_FREE_LO s = true →
    readParam r Ix.TT_FREE_LO s =
      (readWord Ix.TT_FREE_LO s, { s with tt := { s.tt with freeHi := toWord (s.freeCount / 2 ^ 32) } })) ∧
  (∀ (r : Requester) (i k : Nat) (s : State), mayRead r i s = false → (readParam r i s).2.word k = s.word k) ∧
  (∀ (r : Requester) (i : Nat) (x : ParamRow) (s : State), mayRead r i (noteRequest r s) = true → paramRow i = some x →
    x.access = .rc → i ≠ Ix.CHG_FAULTS → i ≠ Ix.PWR_WATCH_RUN → i ≠ Ix.PWR_WATCH_STBY →
    Completes (.readClearWord r i) s ((noteRequest r s).put i (resetWord i))) ∧
  (∀ (r : Requester) (s : State), mayRead r Ix.CHG_FAULTS (noteRequest r s) = true →
    Completes (.chgFaultsRead r) s (chgFaultsRead (noteRequest r s)))

/-- PARAM_WRITE: a permitted, in-range write to a RW word that no other command and no forcing or W1C rule serves stores the value,
less its reserved bits, in that word, and leaves every other word and every field of the state but the model's own counter of free
values as the request found it; the word then reads back as the value stored. -/
def Obligations.PlainWordWrite : Prop :=
  ∀ (r : Requester) (i : Nat) (v : Word) (x : ParamRow) (s : State),
    let u := spendMeasured (noteRequest r s)
    mayWrite r i u = true → paramRow i = some x → x.access = .rw → (valueOk i v u && crossOk i (u.put i (cleanValue i v))) = true →
    commandWord r (freeMeasured (noteRequest r s)) i (cleanValue i v) u = none → forceWord i (cleanValue i v) u = none →
    Gives (.paramWrite r i v) s fun t =>
      t.word i = cleanValue i v ∧ (∀ k, k ≠ i → t.word k = s.word k) ∧
      t = { s with words := t.words, free := s.free + 9, modes := (noteRequest r s).modes, dwell := t.dwell }

/-- Whoever the requester is, TXN_BEGIN returns BUSY (1) while a transaction is OPEN or SEALED, and before the first LESSON_TICK of a
start, and then leaves the state, but for the owner's own activity time, as it was. Otherwise it returns OK (0) and the
transaction is OPEN, owned by the requester, with nothing staged. The command answers the requester with that status: the host
through its port, a fabric node through the request that waits, a tester where its session opens the routine. -/
def Obligations.TxnBeginBusyOrOpens : Prop :=
  (∀ (r : Requester) (s : State), (s.txn.st ≠ .idle ∨ s.started = false) →
    (txnBegin r s).1 = 1 ∧ (txnBegin r s).2 = { s with txn := { s.txn with lastOp := (txnBegin r s).2.txn.lastOp } }) ∧
  (∀ (r : Requester) (s : State), s.txn.st = .idle → s.started = true →
    txnBegin r s = (0, { s with txn := { st := .opened, owner := some r, staged := [], limit := s.num Ix.TXN_TIMEOUT,
                                         lastOp := s.now, handle := none, due := none } })) ∧
  (∀ (r : Requester) (s : State), admitted r s → (opened r s).txn.st = .idle → (opened r s).started = true →
    Completes (.txnBegin r) s (replyTo r 0x04 0xF100 0 [] { opened r s with
      txn := { st := .opened, owner := some r, staged := [], limit := (opened r s).num Ix.TXN_TIMEOUT, lastOp := (opened r s).now,
               handle := none, due := none } })) ∧
  (∀ (r : Requester) (s : State), admitted r s → ((opened r s).txn.st ≠ .idle ∨ (opened r s).started = false) →
    Completes (.txnBegin r) s (replyTo r 0x04 0xF100 1 [] (touchTxn r (opened r s))))

/-- While a transaction is OPEN or SEALED, TXN_WRITE, TXN_COMMIT and TXN_ABORT of a requester that is not its owner return NOT_OWNER
(3) and leave the state, the transaction with it, as it was; with no transaction they return NO_TXN (2). The commands answer the
requester so. While a transaction is open a direct write of any requester to a plain word takes effect as ever. -/
def Obligations.OnlyOwnerChangesTxn : Prop :=
  (∀ (r : Requester) (i : Nat) (v : Word) (a : Option CommitAt) (s : State), s.txn.st ≠ .idle → s.txn.owner ≠ some r →
    txnWrite r i v s = (3, s) ∧ txnCommit r a s = (3, s) ∧ txnAbort r s = (3, s)) ∧
  (∀ (r : Requester) (i : Nat) (v : Word) (a : Option CommitAt) (s : State), s.txn.st = .idle →
    txnWrite r i v s = (2, s) ∧ txnCommit r a s = (2, s) ∧ txnAbort r s = (2, s)) ∧
  (∀ (r : Requester) (i : Nat) (v : Word) (a : Option CommitAt) (s : State), admitted r s → (opened r s).txn.st ≠ .idle →
    (opened r s).txn.owner ≠ some r →
    Completes (.txnWrite r i v) s (replyTo r 0x04 0xF101 3 [] (opened r s)) ∧
    Completes (.txnCommit r a) s (replyTo r 0x04 0xF103 3 [] (opened r s)) ∧
    Completes (.txnAbort r) s (replyTo r 0x04 0xF104 3 [] (opened r s))) ∧
  (∀ (r : Requester) (m : Measured) (i : Nat) (v : Word) (x : ParamRow) (s : State), s.txn.st ≠ .idle → mayWrite r i s = true →
    paramRow i = some x → x.access = .rw → (valueOk i v s && crossOk i (s.put i (cleanValue i v))) = true →
    commandWord r m i (cleanValue i v) s = none → forceWord i (cleanValue i v) s = none →
    writeParam r m i v s = (0, s.put i (cleanValue i v)))

/-- TXN_WRITE of the owner of an OPEN transaction never raises the number of staged writes above 512. To an index already staged it
replaces the value and keeps the number; to a new index it takes one slot, unless 512 are in use: then it returns TXN_FULL (4) and
the staged writes stay, the transaction OPEN. A write that is not permitted returns OK and is staged without effect; a permitted
one in range is staged with effect, and one out of range returns BAD_VALUE (5) and is not staged. The command answers the owner
with that status. -/
def Obligations.StagingSlots : Prop :=
  (∀ (r : Requester) (i : Nat) (v : Word) (s : State), s.txn.staged.length ≤ 512 →
    (txnWrite r i v s).2.txn.staged.length ≤ 512) ∧
  (∀ (r : Requester) (i : Nat) (v : Word) (s : State), s.txn.st = .opened → s.txn.owner = some r →
    (mayStage r i s = false ∨ (∃ x, paramRow i = some x ∧ x.access = .w1c) ∨ valueOk i v (touchTxn r s) = true) →
    ((s.txn.staged.any fun y => y.idx == i) = true →
      (txnWrite r i v s).1 = 0 ∧ (txnWrite r i v s).2.txn.staged =
        s.txn.staged.map fun y => if y.idx == i then { idx := i, val := v, eff := mayStage r i s } else y) ∧
    ((s.txn.staged.any fun y => y.idx == i) = false → s.txn.staged.length < 512 →
      (txnWrite r i v s).1 = 0 ∧ (txnWrite r i v s).2.txn.staged = s.txn.staged ++ [{ idx := i, val := v, eff := mayStage r i s }]) ∧
    ((s.txn.staged.any fun y => y.idx == i) = false → 512 ≤ s.txn.staged.length →
      (txnWrite r i v s).1 = 4 ∧ (txnWrite r i v s).2.txn.st = .opened ∧ (txnWrite r i v s).2.txn.staged = s.txn.staged)) ∧
  (∀ (r : Requester) (i : Nat) (v : Word) (x : ParamRow) (s : State), s.txn.st = .opened → s.txn.owner = some r →
    mayStage r i s = true → paramRow i = some x → x.access ≠ .w1c → valueOk i v (touchTxn r s) = false →
    (txnWrite r i v s).1 = 5 ∧ (txnWrite r i v s).2.txn.st = .opened ∧ (txnWrite r i v s).2.txn.staged = s.txn.staged) ∧
  (∀ (r : Requester) (i : Nat) (v : Word) (s : State), admitted r s → i < 16384 →
    Completes (.txnWrite r i v) s
      (replyTo r 0x04 0xF101 (txnWrite r i v (opened r s)).1 [] (txnWrite r i v (opened r s)).2))

/-- The owner's TXN_READ of an index of class RW or RWT it has staged with effect returns the staged value less its reserved bits and
changes no word; one staged without effect reads zero. A TXN_READ of any requester that does not own the transaction, and of an
index not staged, reads the committed value as any read does. Staging changes the transaction alone, so lessons and services, which
read the words, go on with the committed values. TXN_READ and TXN_STATUS answer the requester with what was read. -/
def Obligations.ReadYourStagedWrites : Prop :=
  (∀ (r : Requester) (i : Nat) (x : Staged) (p : ParamRow) (s : State), s.txn.st ≠ .idle → s.txn.owner = some r →
    (s.txn.staged.find? fun y => y.idx == i) = some x → x.eff = true → paramRow i = some p → p.access ≠ .w1c →
    (txnRead r i s).1 = cleanValue i x.val ∧ (txnRead r i s).2.words = s.words) ∧
  (∀ (r : Requester) (i : Nat) (x : Staged) (s : State), s.txn.st ≠ .idle → s.txn.owner = some r →
    (s.txn.staged.find? fun y => y.idx == i) = some x → x.eff = false → (txnRead r i s).1 = 0) ∧
  (∀ (r : Requester) (i : Nat) (s : State), s.txn.owner ≠ some r → txnRead r i s = readParam r i s) ∧
  (∀ (r : Requester) (i : Nat) (s : State), (s.txn.staged.find? fun y => y.idx == i) = none →
    (txnRead r i s).1 = (readParam r i (touchTxn r s)).1) ∧
  (∀ (r : Requester) (i : Nat) (v : Word) (s : State), (txnWrite r i v s).2 = { s with txn := (txnWrite r i v s).2.txn }) ∧
  (∀ (r : Requester) (i : Nat) (s : State), admitted r s → i < 16384 →
    Completes (.txnRead r i) s
      (replyTo r 0x04 0xF102 0 (leBytes (txnRead r i (opened r s)).1.toNat 4) (txnRead r i (opened r s)).2)) ∧
  (∀ (r : Requester) (s : State), admitted r s →
    let u := touchTxn r (opened r s)
    Completes (.txnStatus r) s (replyTo r 0x04 0xF105 0
      (leBytes (readParam r Ix.TXN_STATE u).1.toNat 4 ++ leBytes (readParam r Ix.TXN_STAGED u).1.toNat 4) u))

/-- TXN_COMMIT by the owner of an OPEN transaction: a clock code with no bound clock returns NO_CLOCK (0x0C); else an instant at or
before the end of the horizon returns TOO_LATE (7); else one beyond the reach returns BAD_DUE (0x0B); after each the transaction
stays OPEN with its staged writes. Otherwise it returns OK (0), the transaction is SEALED with its staged writes, and one
TXN_COMMIT event stands in the slot reserved for it, 4,095, whatever the pools hold. A SEALED transaction returns SEALED (0x0A).
The command answers the owner with that status. -/
def Obligations.CommitSealsOrRefuses : Prop :=
  (∀ (r : Requester) (a : Option CommitAt) (s : State), s.txn.st = .opened → s.txn.owner = some r →
    let u := settle (touchTxn r s)
    let e := commitSpec a u
    u.txn.st = .opened ∧ u.txn.staged = s.txn.staged ∧
    (noClock e.clock u = true → txnCommit r a s = (0x0C, u)) ∧
    (noClock e.clock u = false → tooLate e u = true → txnCommit r a s = (7, u)) ∧
    (noClock e.clock u = false → tooLate e u = false → (!isBehind e u && commitFar e u) = true → txnCommit r a s = (0x0B, u)) ∧
    (noClock e.clock u = false → tooLate e u = false → (!isBehind e u && commitFar e u) = false →
      (txnCommit r a s).1 = 0 ∧ (txnCommit r a s).2.txn.st = .sealed ∧ (txnCommit r a s).2.txn.staged = s.txn.staged ∧
      (txnCommit r a s).2.tt.events.length = s.tt.events.length + 1 ∧
      ∃ x ∈ (txnCommit r a s).2.tt.events, x.slot = 4095 ∧ x.spec.act = .txnCommit)) ∧
  (∀ (r : Requester) (a : Option CommitAt) (s : State), s.txn.st = .sealed → s.txn.owner = some r →
    txnCommit r a s = (0x0A, settle (touchTxn r s))) ∧
  (∀ (r : Requester) (a : Option CommitAt) (s : State), admitted r s →
    Completes (.txnCommit r a) s (replyTo r 0x04 0xF103 (txnCommit r a (opened r s)).1 [] (txnCommit r a (opened r s)).2))

/-- TXN_ABORT of an OPEN transaction by its owner returns OK (0) and discards it: no transaction, nothing staged; the command answers
the owner so. TXN_TIMEOUT of an OPEN one ends it with EXPIRED (8) in TXN_LAST_STATUS, raises TXN_EXPIRIES and reports source 0x003;
a SEALED one does not time out. The commit event of a SEALED transaction applies the staged writes that are alive in staging order,
advances TXN_COMMIT_SEQ by one, records the instant and ends the transaction with OK, where no ownership rule and no range against
another word fails; else it applies none and ends it with CONFLICT (6) or BAD_VALUE (5) and the first offending index. -/
def Obligations.TxnEnds : Prop :=
  (∀ (r : Requester) (s : State), s.txn.st = .opened → s.txn.owner = some r →
    (txnAbort r s).1 = 0 ∧ (txnAbort r s).2.txn = Txn.reset) ∧
  (∀ (r : Requester) (s : State), admitted r s → (opened r s).txn.st = .opened → (opened r s).txn.owner = some r →
    Completes (.txnAbort r) s (replyTo r 0x04 0xF104 0 [] (txnAbort r (opened r s)).2)) ∧
  (∀ (s : State), s.txn.st = .opened →
    Completes .txnTimeout s
      (report 0x003 0 ((endTxn 8 0 0 (s.reach (s.txn.lastOp + msP s.txn.limit))).bump Ix.TXN_EXPIRIES 0 32))) ∧
  (∀ (s : State), s.txn.st ≠ .opened → Completes .txnTimeout s s) ∧
  (∀ (slot : Nat) (e : Event) (r : Requester) (s u : State), takeEvent slot s = some (e, u) → e.spec.act = .txnCommit →
    u.txn.st = .sealed → u.txn.owner = some r → conflictAt (liveStaged u) (standing (liveStaged u) u) u = none →
    crossAt (liveStaged u) (standing (liveStaged u) u) = none →
    let t := forEach (liveStaged u) (fun x w => (applyWrite r (freeMeasured u) x.idx x.val w).2) (spendMeasured u)
    Completes (.eventTxnCommit slot) s (endTxn 0 0 0 (afterCommit (liveStaged u) u
      ((t.putNat Ix.TXN_COMMIT_SEQ (t.num Ix.TXN_COMMIT_SEQ + 1)).putNat Ix.TXN_LAST_COMMIT_TIME t.us)))) ∧
  (∀ (slot i : Nat) (e : Event) (r : Requester) (s u : State), takeEvent slot s = some (e, u) → e.spec.act = .txnCommit →
    u.txn.st = .sealed → u.txn.owner = some r → conflictAt (liveStaged u) (standing (liveStaged u) u) u = some i →
    Completes (.eventTxnCommit slot) s (endTxn 6 0 i u)) ∧
  (∀ (slot i : Nat) (e : Event) (r : Requester) (s u : State), takeEvent slot s = some (e, u) → e.spec.act = .txnCommit →
    u.txn.st = .sealed → u.txn.owner = some r → conflictAt (liveStaged u) (standing (liveStaged u) u) u = none →
    crossAt (liveStaged u) (standing (liveStaged u) u) = some i →
    Completes (.eventTxnCommit slot) s (endTxn 5 0 i u))

/-- TT_POST. A group whose first failing test (clock, period, too late, due value) gives a status is refused with it: no event is
placed and no handle returned. A group that passes the tests and finds a slot for each event is accepted: status 0, one event more
for each of its events, each with its own handle. Where the slots do not suffice the status is TT_FULL (0x10), nothing of the group
is placed, the pool is reported with source 0x100, and the group waits for its service's retry. -/
def Obligations.PostsWholeOrNotAtAll : Prop :=
  (∀ (g : List EventSpec) (s : State), groupStatus g s ≠ 0 → groupStatus g s ≠ 0x10 →
    Gives (.ttPost g) s fun t => t.tt.status = groupStatus g s ∧ t.tt.events = s.tt.events ∧ t.tt.handles = [] ∧
      t = { s with tt := t.tt, words := t.words, dwell := t.dwell }) ∧
  (∀ (g : List EventSpec) (s : State), groupStatus g s =
    if g.any fun e => noClock e.clock s then 0x13 else if g.any badPeriod then 0x11 else if g.any fun e => tooLate e s then 0x07
    else if g.any fun e => badDue e s then 0x12 else 0) ∧
  (∀ (g : List EventSpec) (s u : State), groupStatus g s = 0 →
    placeGroup g { s with tt := { s.tt with status := 0, handles := [] } } = .ok u →
    Gives (.ttPost g) s fun t => t.tt.status = 0 ∧ t.tt.events.length = s.tt.events.length + g.length ∧
      t.tt.handles.length = g.length ∧ (∀ e ∈ s.tt.events, e ∈ t.tt.events) ∧ t = { s with tt := t.tt, dwell := t.dwell }) ∧
  (∀ (g : List EventSpec) (pool : Nat) (s : State), groupStatus g s = 0 →
    placeGroup g { s with tt := { s.tt with status := 0, handles := [] } } = .error pool →
    ∃ u : State, u.tt.events = s.tt.events ∧ u.tt.status = 0x10 ∧ postGroup g s = report 0x100 pool u) ∧
  (∀ (g : List EventSpec) (s : State), (postGroup g s).tt.status = 0x10 →
    Completes (.ttPost g) s { postGroup g s with
      tt := { (postGroup g s).tt with waiting := (postGroup g s).tt.waiting ++ [{ group := g, by_ := .plain, since := s.now }] } })

/-- TT_CANCEL. A handle that names no pending event returns NO_EVENT (0x14) and changes nothing else. An uncommitted event is
removed, with status 0. A committed one stays, with its later firings stopped, and the status is TOO_LATE (7). Beside the
Timetable and the log's words nothing changes in the first two cases. -/
def Obligations.CancelByHandle : Prop :=
  (∀ (slot gen : Nat) (s : State), (s.tt.events.find? fun e => e.slot == slot && e.gen == gen) = none →
    Completes (.ttCancel slot gen) s { s with tt := { s.tt with status := 0x14 } }) ∧
  (∀ (slot gen : Nat) (e : Event) (s : State), (s.tt.events.find? fun e => e.slot == slot && e.gen == gen) = some e →
    e.isCommitted s = false →
    Gives (.ttCancel slot gen) s fun t => t.tt.status = 0 ∧ t.tt.events = s.tt.events.filter (·.slot != e.slot) ∧
      t = { s with tt := t.tt, words := t.words, dwell := t.dwell }) ∧
  (∀ (slot gen : Nat) (e : Event) (s : State), (s.tt.events.find? fun e => e.slot == slot && e.gen == gen) = some e →
    e.isCommitted s = true →
    Gives (.ttCancel slot gen) s fun t => t.tt.status = 7 ∧ t.tt.events.length = s.tt.events.length ∧
      ∀ x ∈ t.tt.events, x.slot = e.slot → x.stop = true)

/-- EVENT_COMMIT commits an uncommitted event with its predicted instant and moves the block to the horizon's edge; a committed one
stays. MARK_MISSING moves a TRACKING clock to COASTING at the instant of the missing mark; COAST_LIMIT a COASTING one to LOST with
its events handled by its LOSS policy; CLOCK_STOP_TIMEOUT an ACQUIRING or LOST one to STOPPED, but not in STANDBY, where every clock
keeps its state. COMMITTED_BOUND_EXPIRY fires the event that its bound reached, whatever its action. -/
def Obligations.ClockAndCommitRows : Prop :=
  (∀ (slot t : Nat) (e : Event) (s : State), eventAt slot s = some e → e.committed = false → e.predicted s = some t →
    Completes (.eventCommit slot) s (commitPayload e (updEvent slot (fun x => { x with committed := true, commitAt := t })
      (s.reach (t - horizonP s))))) ∧
  (∀ (slot : Nat) (e : Event) (s : State), eventAt slot s = some e → e.committed = true → Completes (.eventCommit slot) s s) ∧
  (∀ (p : Pc) (t : Nat) (s : State), (s.tt.clocks[p]).missAt = some t →
    Gives (.markMissing p) s fun u => (u.tt.clocks[p]).st = .coasting ∧ u.now = Nat.max s.now t ∧
      (∀ q, q ≠ p → u.tt.clocks[q] = s.tt.clocks[q]) ∧
      u = { s with now := u.now, tt := { s.tt with clocks := u.tt.clocks }, dwell := u.dwell }) ∧
  (∀ (p : Pc) (t : Nat) (s : State), (s.tt.clocks[p]).limitAt (s.num (Ix.TT_PC_COAST p.val)) = some t →
    Completes (.coastLimit p) s (loseClock p (s.reach t))) ∧
  (∀ (p : Pc) (s : State), s.pw.pw ≠ .standby → (s.tt.clocks[p]).st = .acquiring ∨ (s.tt.clocks[p]).st = .lost →
    Gives (.clockStopTimeout p) s fun u => (u.tt.clocks[p]).st = .stopped ∧ (∀ q, q ≠ p → u.tt.clocks[q] = s.tt.clocks[q]) ∧
      u = { s with now := u.now, tt := { s.tt with clocks := u.tt.clocks }, dwell := u.dwell }) ∧
  (∀ (p : Pc) (s : State), s.pw.pw = .standby → Completes (.clockStopTimeout p) s s) ∧
  (∀ (slot delay vbat : Nat) (convs : List Conv) (e : Event) (s u : State), takeAtBound slot s = some (e, u) →
    Completes (.committedBoundExpiry slot convs delay vbat) s (fireAct e convs delay vbat u)) ∧
  (∀ (slot : Nat) (e : Event) (s : State), takeAtBound slot s = takeEvent slot s ∨ takeAtBound slot s = none) ∧
  (∀ (convs : List Conv) (delay vbat : Nat) (e : Event) (c : Ch) (st : Fin 4) (u : State), e.spec.act = .outSet c st →
    fireAct e convs delay vbat u = fireOutSet c st vbat u) ∧
  (∀ (convs : List Conv) (delay vbat : Nat) (e : Event) (u : State), e.spec.act = .txnCommit →
    fireAct e convs delay vbat u = fireCommit u)

/-- TT_LOG_SEL_WRITE latches the entry of the age written, the newest at 0, into the six words of TT_LOG_ENTRY; an age beyond the log
latches zeros; beside those words and the selector no word changes. SERVICE_POST_RETRY posts the first waiting group again, moved on
where it has come too late: refused for want of slots again it waits on, accepted its service records its handles and how late it
was posted; with none waiting the command changes nothing. -/
def Obligations.LogSelectAndRetry : Prop :=
  (∀ (age : Nat) (e : List Word) (k : Fin 6) (s : State), age < s.tt.log.length →
    s.tt.log.getD (s.tt.log.length - 1 - age) [] = e →
    Gives (.ttLogSelWrite age) s fun t => t.word (Ix.TT_LOG_ENTRY k.val) = e.getD k.val 0 ∧ t.num Ix.TT_LOG_SEL = age % 256 ∧
      t = { s with words := t.words, dwell := t.dwell }) ∧
  (∀ (age : Nat) (k : Fin 6) (s : State), s.tt.log.length ≤ age →
    Gives (.ttLogSelWrite age) s fun t => t.word (Ix.TT_LOG_ENTRY k.val) = 0) ∧
  (∀ (age : Nat) (s : State), Gives (.ttLogSelWrite age) s fun t =>
      ∀ i, i ≠ Ix.TT_LOG_SEL → (∀ j < 6, i ≠ Ix.TT_LOG_ENTRY j) → t.word i = s.word i) ∧
  (∀ (s : State), s.tt.waiting = [] → Completes .servicePostRetry s s) ∧
  (∀ (w : Waiting) (rest : List Waiting) (s : State), s.tt.waiting = w :: rest →
    let t := postGroup (reaim w.group s) { s with tt := { s.tt with waiting := rest } }
    (t.tt.status = 0x10 → Completes .servicePostRetry s { t with tt := { t.tt with waiting := w :: rest } }) ∧
    (t.tt.status = 0 → Completes .servicePostRetry s (keepHandles w.by_ (notePostDelay w.since t))) ∧
    (t.tt.status ≠ 0x10 → t.tt.status ≠ 0 → Completes .servicePostRetry s t))

/-- EVENT_OUT_SET on a high-side or low-side channel whose stages are powered. State 0 turns it off at the event: undriven, and OFF
from ON or INRUSH, with the back-feed diagnosis of its on-state ended and its sampling as its mode asks; an off that would come
before the turn-on and the minimum on-time waits for it. A state other than 0 turns an OFF channel without inrush and PWM ON,
driven, with what is judged while it is off ended. A channel that is TRIPPED, LATCHED or DROPPED does not turn on, and where PWR is
off nothing happens. EVENT_OUT_DUTY loads the duty into the PWM shadow register of its channel only. PWM_OFF_EDGE ends the on part
of the running PWM period at its instant, and the off that waited. INRUSH_END leaves INRUSH for ON. -/
def Obligations.SwitchEvents : Prop :=
  (∀ (slot vbat : Nat) (e : Event) (c : Ch) (s u : State), takeEvent slot s = some (e, u) → c.val < 40 → pwrOn u = true →
    e.spec.act = .outSet c 0 → ((u.ch c).isOn = false ∨ (u.ch c).turnOn + minOnP c u ≤ u.now) →
    ∃ w : State, (w.ch c).drive = 0 ∧ (w.ch c).offAt = none ∧ (w.ch c).reverse = false ∧
      (w.ch c).st = (if (u.ch c).isOn then .off else (u.ch c).st) ∧ (∀ d, d ≠ c → w.ch d = u.ch d) ∧ w = { u with chans := w.chans } ∧
      Completes (.eventOutSet slot vbat) s (ensureSense c (endFault 0x3C0 c.val w))) ∧
  (∀ (slot vbat : Nat) (e : Event) (c : Ch) (s u : State), takeEvent slot s = some (e, u) → c.val < 40 → pwrOn u = true →
    e.spec.act = .outSet c 0 → (u.ch c).isOn = true → u.now < (u.ch c).turnOn + minOnP c u →
    Completes (.eventOutSet slot vbat) s
      (updCh c (fun y => { y with ending := true, offAt := some (y.turnOn + minOnP c u) }) u)) ∧
  (∀ (slot vbat : Nat) (e : Event) (c : Ch) (st : Fin 4) (s u : State), takeEvent slot s = some (e, u) → c.val < 40 → pwrOn u = true →
    st ≠ 0 → e.spec.act = .outSet c st → (u.ch c).st = .off → (u.ch c).held = false → (u.ch c).posted ≠ 2 →
    holdP c u + decayP c u = 0 →
    ∃ w : State, (w.ch c).st = .on ∧ (w.ch c).drive = 1 ∧ (w.ch c).turnOn = u.now ∧ (w.ch c).openOff = false ∧
      (w.ch c).shortBat = false ∧ (∀ d, d ≠ c → w.ch d = u.ch d) ∧ w = { u with chans := w.chans } ∧
      Completes (.eventOutSet slot vbat) s
        (updCh c (fun y => { y with drive := 1, pulse := true, offAt := none, ending := false, applied := 0xFFFF, derated := false })
          (ensureSense c (endFault (0x340 + c.val) c.val (endFault (0x380 + c.val) c.val w))))) ∧
  (∀ (slot vbat : Nat) (e : Event) (c : Ch) (st : Fin 4) (s u : State), takeEvent slot s = some (e, u) → c.val < 40 → st ≠ 0 →
    e.spec.act = .outSet c st → (u.ch c).st = .tripped ∨ (u.ch c).st = .latched ∨ (u.ch c).st = .dropped →
    Completes (.eventOutSet slot vbat) s u) ∧
  (∀ (slot vbat : Nat) (e : Event) (c : Ch) (st : Fin 4) (s u : State), takeEvent slot s = some (e, u) → pwrOn u = false →
    e.spec.act = .outSet c st → Completes (.eventOutSet slot vbat) s u) ∧
  (∀ (slot : Nat) (e : Event) (c : Ch) (d : Nat) (s u : State), takeEvent slot s = some (e, u) → e.spec.act = .outDuty c d →
    d < 65536 →
    Gives (.eventOutDuty slot) s fun t => (t.ch c).shadow = d ∧ (t.ch c).applied = (u.ch c).applied ∧
      (∀ k, k ≠ c → t.ch k = u.ch k) ∧ t = { u with chans := t.chans, dwell := t.dwell, now := t.now, pending := s.pending }) ∧
  (∀ (c : Ch) (at_ : Nat) (s : State), (s.ch c).offAt = some at_ → (s.ch c).ending = false →
    Completes (.pwmOffEdge c) s (updCh c (fun x => { x with drive := 0, pulse := false, offAt := none }) (s.reach at_))) ∧
  (∀ (c : Ch) (at_ : Nat) (s : State), (s.ch c).offAt = some at_ → (s.ch c).ending = true →
    Completes (.pwmOffEdge c) s (turnOffCh c (s.reach at_))) ∧
  (∀ (c : Ch) (s : State), (s.ch c).st = .inrush →
    Completes (.inrushEnd c) s (updCh c (fun y => { y with st := .on }) (s.reach ((s.ch c).turnOn + holdP c s + decayP c s))))

/-- HS_SHORT_DETECT at the hardware limit with the output below half of its level for the filter's time, HS_THERMAL_DETECT at 175 °C
and HS_OVERLOAD_DETECT after OVL_FILTER of samples above the allowance act by the one trip rule, each nothing below its limit. The
trip rule acts on a channel that is ON or in INRUSH only: the channel is undriven and TRIPPED with its cause and instant, counted
and reported, and LATCHED where its profile or eight restarts within 60 s say so. HS_OPEN_ON_DETECT sets and clears the open-load
bit after OPEN_FILTER of samples on its side of the threshold. The off-state tests of the open load and the short to battery, 60 ms
after the channel went off, and the back-feed test of an on channel set or clear their own bit of the channel with their fault
source, and leave the channel driven as it was. -/
def Obligations.ChannelDetections : Prop :=
  (∀ (c : Ch) (least most vbat us : Nat) (s : State), (shortFigures c).1 ≤ least → 2 * most < shortLevel c vbat s →
    (shortFigures c).2 ≤ us → Completes (.hsShortDetect c least most vbat us) s (tripChannel c .short s)) ∧
  (∀ (c : Ch) (least most vbat us : Nat) (s : State), (least < (shortFigures c).1 ∨ shortLevel c vbat s ≤ 2 * most ∨
    us < (shortFigures c).2) → Completes (.hsShortDetect c least most vbat us) s s) ∧
  (∀ (c : Ch) (temp : Int) (s : State), 175 ≤ temp → Completes (.hsThermalDetect c temp) s (tripChannel c .thermal s)) ∧
  (∀ (c : Ch) (temp : Int) (s : State), temp < 175 → Completes (.hsThermalDetect c temp) s s) ∧
  (∀ (c : Ch) (at_ : Nat) (s : State), (s.ch c).excess = some at_ →
    Completes (.hsOverloadDetect c) s (tripChannel c .overload (s.reach (at_ + ovlFilterP c s)))) ∧
  (∀ (c : Ch) (s : State), (s.ch c).excess = none → Completes (.hsOverloadDetect c) s s) ∧
  (∀ (c : Ch) (k : Trip) (s : State), (s.ch c).st ≠ .on → (s.ch c).st ≠ .inrush → tripChannel c k s = s) ∧
  (∀ (c : Ch) (k : Trip) (s : State), (s.ch c).st = .on ∨ (s.ch c).st = .inrush →
    ∃ u : State, (u.ch c).st = .tripped ∧ (u.ch c).drive = 0 ∧ (u.ch c).lastTrip = k ∧ (u.ch c).tripAt = s.now ∧
      (u.ch c).restarts = recentRestarts (s.ch c) s ∧ (∀ d, d ≠ c → u.ch d = (withdraw c s).ch d) ∧
      u = { withdraw c s with chans := u.chans } ∧
      let v := countTrip c k (endFault 0x3C0 c.val (cutLock c u))
      let w := report (tripId c k) c.val (if k = .short then countShort c.val v else v)
      tripChannel c k s =
        if latchBit c k w || decide (8 ≤ (recentRestarts (s.ch c) s).length) then condFault (0x2C0 + c.val) c.val true (latchChannel c w)
        else if pairUp w then ensureSense c (serveCh c w) else w) ∧
  (∀ (c : Ch) (at_ : Nat) (s : State), (if (s.ch c).open_ then (s.ch c).high else (s.ch c).low) = some at_ →
    Completes (.hsOpenOnDetect c) s (condFault (0x300 + c.val) c.val (!(s.ch c).open_)
      (updCh c (fun y => { y with open_ := !(s.ch c).open_ }) (s.reach (at_ + openFilterP c s))))) ∧
  (∀ (c : Ch) (least most : Nat) (s : State), c.val < 36 ∨ 40 ≤ c.val → offTest c s = true →
    Completes (.hsOpenOffDetect c least most) s (condFault (0x340 + c.val) c.val (decide (3000 < least) && decide (most ≤ 6000))
      (updCh c (fun y => { y with openOff := decide (3000 < least) && decide (most ≤ 6000) }) (s.reach ((s.ch c).wentOff + msP 60))))) ∧
  (∀ (c : Ch) (least most : Nat) (s : State), 36 ≤ c.val → c.val < 40 → offTest c s = true →
    Completes (.hsOpenOffDetect c least most) s (condFault (0x340 + c.val) c.val (decide (most < 2000))
      (updCh c (fun y => { y with openOff := decide (most < 2000) }) (s.reach ((s.ch c).wentOff + msP 60))))) ∧
  (∀ (c : Ch) (least : Nat) (s : State), offTest c s = true →
    Completes (.hsShortBatDetect c least) s (condFault (0x380 + c.val) c.val (decide (6000 < least))
      (updCh c (fun y => { y with shortBat := decide (6000 < least) }) (s.reach ((s.ch c).wentOff + msP 60))))) ∧
  (∀ (c : Ch) (least most : Nat) (s : State), offTest c s = false →
    Completes (.hsOpenOffDetect c least most) s s ∧ Completes (.hsShortBatDetect c least) s s) ∧
  (∀ (c : Ch) (s : State), offTest c s = (bit (profWord c 3 s) 16 && !(s.ch c).isOn && (s.ch c).drive == 0 && s.modes.mode != .park)) ∧
  (∀ (c : Ch) (most : Int) (s : State), (s.ch c).isOn = true →
    Completes (.hsBackfeedDetect c most) s (condFault 0x3C0 c.val (decide (most * 50 < -(rating c : Int)))
      (updCh c (fun y => { y with reverse := decide (most * 50 < -(rating c : Int)) }) s)))

/-- CHANNEL_RESTART moves a TRIPPED channel whose junction has read at most 155 °C to OFF once RETRY has elapsed; where its request is
off it changes no other channel, and where it is on the restart is counted and the channel turned on again. Above 155 °C, and on a
channel that is not TRIPPED, it does nothing. HS_LATCHED_CLEAR ends the latch of a LATCHED channel and its history, and turns it on
where its request is on; on a channel that is not LATCHED it does nothing. SENSE_CAL_RETRY of a deferred channel that is off, with
the output below 0.3 V and a plausible reading, takes the new offset 500 ms after the channel went off. A permitted HS_FORCE_WRITE
stores the forcing word and serves the channel. -/
def Obligations.ChannelRecovery : Prop :=
  (∀ (c : Ch) (at_ : Nat) (most : Int) (s : State), (s.ch c).st = .tripped → most ≤ 155 →
    let u := updCh c (fun y => { y with st := .off }) (s.reach (Nat.max at_ ((s.ch c).tripAt + retryP c s)))
    (wantState c u = 0 → Completes (.channelRestart c at_ most) s u) ∧
    (wantState c u ≠ 0 →
      Completes (.channelRestart c at_ most) s (resumeCh c (updCh c (fun y => { y with restarts := u.now :: y.restarts }) u)))) ∧
  (∀ (c : Ch) (at_ : Nat) (most : Int) (s : State), (s.ch c).st ≠ .tripped ∨ 155 < most →
    Completes (.channelRestart c at_ most) s s) ∧
  (∀ (c : Ch) (s : State), (s.ch c).st = .latched →
    Completes (.hsLatchedClear c) s (resumeCh c (applyLimits (endFault (0x2C0 + c.val) c.val
      (updCh c (fun y => { y with st := .off, restarts := [], posted := 0 }) s))))) ∧
  (∀ (c : Ch) (s : State), (s.ch c).st ≠ .latched → Completes (.hsLatchedClear c) s s) ∧
  (∀ (c : Ch) (s : State), onPending c s = false → chHb c = none → resumeCh c s = serveCh c (setPosted c 0 s)) ∧
  (∀ (c : Ch) (outMv : Nat) (raw offset : Int) (s : State), (s.ch c).calDeferred = true → (s.ch c).isOn = false →
    (s.ch c).drive = 0 → outMv < 300 → raw.natAbs ≤ 30 →
    let u := s.reach (Nat.max (s.ch c).wentOff (s.ch c).calAt + msP 500)
    Completes (.senseCalRetry c outMv raw offset) s (updCh c (fun y => { y with calAt := u.now })
      (endFault 0x3C3 c.val (updCh c (fun x => { x with offset := offset, calDeferred := false, calRun := 0 }) u)))) ∧
  (∀ (r : Requester) (c : Ch) (v : Word) (s : State), mayWrite r (chForceIx c) (noteRequest r s) = true →
    (valueOk (chForceIx c) v (noteRequest r s) && crossWritten (chForceIx c) v (noteRequest r s)) = true →
    Completes (.hsForceWrite r c v) s (serveCh c ((noteRequest r s).put (chForceIx c) (cleanValue (chForceIx c) v))))

/-- LOCK_ENDSTOP in a drive whose samples have stalled starts the brake 20 ms after the stall began; LOCK_STROKE_MAX starts it at
STROKE_MAX, sets NO_END, counts it and reports HB_NO_ENDSTOP; LOCK_BRAKE_END turns the bridge off and ends the stroke, and asks for
a waiting stroke; each does nothing outside its phase. LOCK_COOLING_END lets the waiting stroke be requested again.
HB_REV_BRAKE_END drives the new direction once the brake has lasted REV_BRAKE, if the bridge is on and not blocked. -/
def Obligations.LockStrokes : Prop :=
  (∀ (h : Hb) (at_ : Nat) (s : State), (s.locks[h]).st = .drive → (s.locks[h]).stall = some at_ →
    Gives (.lockEndstop h) s fun t => (t.locks[h]).st = .brake ∧ (t.ch (hbCh h)).drive = 3 ∧
      (t.locks[h]).brakeAt = Nat.max s.now (at_ + msP 20) ∧
      t = { s with now := t.now, locks := t.locks, chans := t.chans, dwell := t.dwell } ∧ ∀ c, c ≠ hbCh h → t.ch c = s.ch c) ∧
  (∀ (h : Hb) (s : State), (s.locks[h]).stall = none → Completes (.lockEndstop h) s s) ∧
  (∀ (h : Hb) (s : State), (s.locks[h]).st = .drive →
    Completes (.lockStrokeMax h) s (report (0x3C1 + h.val) (40 + h.val) ((updLock h (fun l => { l with noEnd := true })
      (beginBrake h (s.reach ((s.locks[h]).startAt + strokeMaxP h s)))).bump (Ix.HB_COUNTS h.val) 16 8))) ∧
  (∀ (h : Hb) (s : State), (s.locks[h]).st = .brake →
    Completes (.lockBrakeEnd h) s (wakeStroke h (updLock h (fun l => { l with st := .idle, last := (s.locks[h]).dir })
      (turnOffCh (hbCh h) (s.reach ((s.locks[h]).brakeAt + strokeBrakeP h s)))))) ∧
  (∀ (h : Hb) (s : State), (s.locks[h]).waiting = none → wakeStroke h s = s) ∧
  (∀ (h : Hb) (s : State), (s.locks[h]).st = .idle → Completes (.lockEndstop h) s s ∧ Completes (.lockStrokeMax h) s s ∧
    Completes (.lockBrakeEnd h) s s) ∧
  (∀ (h : Hb) (d : Nat) (s : State), (s.locks[h]).cooling = true → (s.locks[h]).waiting = some d →
    (recentStrokes h s).length < 6 →
    Completes (.lockCoolingEnd h) s (requestStroke h d (updLock h (fun l => { l with waiting := none, cooling := false }) s))) ∧
  (∀ (h : Hb) (d : Nat) (s : State), (s.locks[h]).turnTo = some d → blocked (s.ch (hbCh h)) = false → (s.ch (hbCh h)).isOn = true →
    Gives (.hbRevBrakeEnd h) s fun t => (t.locks[h]).turnTo = none ∧ (t.ch (hbCh h)).drive = d ∧
      t.now = Nat.max s.now ((s.locks[h]).brakeAt + revBrakeP h s) ∧
      t = { s with now := t.now, locks := t.locks, chans := t.chans, dwell := t.dwell })

/-- FADE_TICK of a running fade sets the level of its moment, on the 100 µs raster of the fade, empties the pulse carries where the level
changes, and ends the fade at its duration; without a fade it does nothing. LED_PULSE_PERIOD starts the next period at its instant:
of a dark string it emits no pulse and clears both carries, of a string at its full level it stays on for the whole period, else its
width is the level's share of the period to the nearest base period, carried below 4 µs. LED_DERATE_UPDATE records the converter
temperature and moves the factor D by at most 5 hundredths of a percent. CORNERING_UPDATE with nothing changed keeps the lit
segments; a change 100 ms or more after the last is posted as one step of its string. The first three change no channel, bus or
event beside the sample a lit pulse may post. -/
def Obligations.StringLevels : Prop :=
  (∀ (t : Str) (s : State), (s.led.strs[t]).fadeLen = 0 → Completes (.fadeTick t) s s) ∧
  (∀ (t : Str) (s : State), (s.led.strs[t]).fadeLen ≠ 0 →
    let u := s.reach ((s.led.strs[t]).fadeAt + ((s.now - (s.led.strs[t]).fadeAt) / usP 100 + 1) * usP 100)
    let dt := u.now - (s.led.strs[t]).fadeAt
    Gives (.fadeTick t) s fun x => (x.led.strs[t]).level = fadeLevel s.led.strs[t] dt ∧
      ((x.led.strs[t]).level ≠ (s.led.strs[t]).level → (x.led.strs[t]).carry = 0 ∧ (x.led.strs[t]).gap = 0) ∧
      ((s.led.strs[t]).fadeLen ≤ dt → (x.led.strs[t]).fadeLen = 0) ∧ x = { s with now := u.now, led := x.led, dwell := x.dwell } ∧
      ∀ k, k ≠ t → x.led.strs[k] = s.led.strs[k]) ∧
  (∀ (t : Str) (at_ pos : Nat) (s : State), nextPulse t s = some (at_, pos) →
    let u := s.reach at_
    Completes (.ledPulsePeriod t) s (strSample t (formPulse t (updStr t (fun y => { y with periodAt := some u.now, pulsePos := pos }) u)))) ∧
  (∀ (t : Str) (s : State), nextPulse t s = none → Completes (.ledPulsePeriod t) s s) ∧
  (∀ (t : Str) (s : State), (strBlocked s.led.strs[t] = true ∨ (effLevel t s).1 = 0 ∨ above40 s = true) →
    formPulse t s = updStr t (fun y => { y with pulse := 0, carry := 0, gap := 0 }) s) ∧
  (∀ (t : Str) (s : State), strBlocked s.led.strs[t] = false → (effLevel t s).1 ≠ 0 → above40 s = false →
    strCross t s * (effLevel t s).2 ≤ 100 * (effLevel t s).1 →
    formPulse t s = updStr t (fun y => { y with pulse := pulsePeriodP t s, carry := 0, gap := 0 }) s) ∧
  (∀ (t : Str) (s : State), strBlocked s.led.strs[t] = false → (effLevel t s).1 ≠ 0 → above40 s = false →
    100 * (effLevel t s).1 < strCross t s * (effLevel t s).2 →
    let width := (divNear ((pulsePeriodP t s * (effLevel t s).1 * 100 : Nat) : Int) (((effLevel t s).2 * strCross t s : Nat) : Int)).toNat
    (usP 4 ≤ width → usP 4 ≤ pulsePeriodP t s - width → formPulse t s = updStr t (fun y => { y with pulse := width }) s) ∧
    (width < usP 4 → (s.led.strs[t]).carry + width < usP 4 →
      formPulse t s = updStr t (fun y => { y with pulse := 0, carry := (s.led.strs[t]).carry + width }) s) ∧
    (width < usP 4 → usP 4 ≤ (s.led.strs[t]).carry + width →
      formPulse t s = updStr t (fun y => { y with pulse := usP 4, carry := (s.led.strs[t]).carry + width - usP 4 }) s)) ∧
  (∀ (t : Str) (temp : Int) (s : State), Gives (.ledDerateUpdate t temp) s fun x =>
    (x.led.strs[t]).d ≤ (s.led.strs[t]).d + 5 ∧ (s.led.strs[t]).d ≤ (x.led.strs[t]).d + 5 ∧
    x.word (Ix.LED_STR_TEMP t.val) = toWord (unsigned temp 16 + (x.led.strs[t]).d / 10 * 2 ^ 16) ∧
    x = { s with now := x.now, words := x.words, led := x.led, dwell := x.dwell } ∧ ∀ k, k ≠ t → x.led.strs[k] = s.led.strs[k]) ∧
  (∀ (at_ : Nat) (s : State), let u := s.reach at_
    (cornerEval u).active = s.led.corner.active → (cornerEval u).left = s.led.corner.left →
    (cornerEval u).right = s.led.corner.right →
    Completes (.corneringUpdate at_) s { u with led := { u.led with corner := cornerEval u } }) ∧
  (∀ (at_ : Nat) (t : Str) (s : State), let u := s.reach at_
    ((cornerEval u).active ≠ s.led.corner.active ∨ (cornerEval u).left ≠ s.led.corner.left ∨
      (cornerEval u).right ≠ s.led.corner.right) →
    (s.led.corner.lastStep = 0 ∨ s.led.corner.lastStep + msP 100 ≤ u.now) → t.val = u.fld Ix.LED_CORNER_CFG 0 2 →
    Completes (.corneringUpdate at_) s
      (recomposeWith stepStr [t] { u with led := { u.led with corner := { cornerEval u with lastStep := u.now } } }))

/-- EVENT_LED_SCENE applies its scene to its string at the event: of a string that is not disabled and not forced, the composed state
0xF8 and the blink states 0xF9 and 0xFA in one step, a scene with its fade. EVENT_LED_STEP writes its shunt mask. Neither changes a
disabled or forced string, but that the state which forcing posted is applied. OVERLAY_READ at the next 1 ms instant takes the
overlay values of the moment; with the blinking wanted, its speed and the brake overlay unchanged it changes nothing else, and where
the blinking wanted or its speed changed, the running cycle ends and the wanted one starts; in PARK it does nothing. A permitted
LED_FORCE_WRITE stores the forcing word and recomposes the string. -/
def Obligations.StringScenes : Prop :=
  (∀ (slot k : Nat) (e : Event) (t : Str) (s u : State), takeEvent slot s = some (e, u) → e.spec.act = .ledScene t k →
    Completes (.eventLedScene slot) s (fireScene t k u)) ∧
  (∀ (t : Str) (s : State), (s.led.strs[t]).st ≠ .disabled → fireScene t 0xF8 s =
      updStr t (applyStep s.now 0xF8 (s.led.strs[t]).steady.1 (s.led.strs[t]).steady.2) s) ∧
  (∀ (t : Str) (k : Nat) (s : State), k ≠ 0xF9 → k ≠ 0xFA → ((s.led.strs[t]).st = .disabled ∨ (strForce t s ≠ 0 ∧ k ≠ 0xF8)) →
    fireScene t k s = s) ∧
  (∀ (t : Str) (k : Nat) (s : State), k < 0xF8 → (s.led.strs[t]).st ≠ .disabled → strForce t s = 0 →
    fireScene t k s = applyScene k t s) ∧
  (∀ (now code mask level : Nat) (x : StringS), strBlocked x = false → mask < 65536 →
    (applyStep now code mask level x).mask = mask ∧ (applyStep now code mask level x).level = level ∧
    (applyStep now code mask level x).scene = code ∧ (applyStep now code mask level x).target = level ∧
    (applyStep now code mask level x).st = if level = 0 then .dark else .lit) ∧
  (∀ (slot m : Nat) (e : Event) (t : Str) (s u : State), takeEvent slot s = some (e, u) → e.spec.act = .ledStep t m →
    (u.led.strs[t]).st ≠ .disabled → strForce t u = 0 →
    Completes (.eventLedStep slot) s (updStr t (setMask u.now m) u)) ∧
  (∀ (slot m : Nat) (e : Event) (t : Str) (s u : State), takeEvent slot s = some (e, u) → e.spec.act = .ledStep t m →
    ((u.led.strs[t]).st = .disabled ∨ strForce t u ≠ 0) → Completes (.eventLedStep slot) s u) ∧
  (∀ (s : State), s.modes.mode = .park → Completes .overlayRead s s) ∧
  (∀ (s u : State), s.modes.mode ≠ .park →
    let v := s.reach (nextMs s)
    u = (List.range 4).foldl (fun a k => condFault 0x423 k (((List.range 4).map fun k => overlayValue k v).getD k (false, false)).2 a)
      { v with led := { v.led with ovl := (List.range 4).map fun k => overlayValue k v } } →
    (blinkWanted u = u.led.blink → failFast (blinkWanted u) u = u.led.fast → brakeOn v = brakeOn u →
      Completes .overlayRead s u) ∧
    (∀ k, (blinkWanted u ≠ u.led.blink ∨ failFast (blinkWanted u) u ≠ u.led.fast) → blinkWanted u = some k →
      let w := startCycle k (failFast (blinkWanted u) u) (endCycle u)
      brakeOn v = brakeOn w → Completes .overlayRead s w) ∧
    ((blinkWanted u ≠ u.led.blink ∨ failFast (blinkWanted u) u ≠ u.led.fast) → blinkWanted u = none →
      brakeOn v = brakeOn (endCycle u) → Completes .overlayRead s (endCycle u))) ∧
  (∀ (r : Requester) (t : Str) (v : Word) (s : State), mayWrite r (Ix.LED_FORCE t.val) (noteRequest r s) = true →
    (valueOk (Ix.LED_FORCE t.val) v (noteRequest r s) && crossWritten (Ix.LED_FORCE t.val) v (noteRequest r s)) = true →
    Completes (.ledForceWrite r t v) s (recompose [t] ((noteRequest r s).put (Ix.LED_FORCE t.val) (cleanValue (Ix.LED_FORCE t.val) v))))

/-- LED_STR_OPEN_DETECT and LED_STR_SHORT_DETECT of a string whose converter is on, beyond their limits for their filter's time, and
LED_THERMAL_DETECT at 175 °C of a lit or dark string trip it by the one trip rule: undriven, TRIPPED, counted and reported, other
strings as they were, and latched after eight restarts within 60 s; below their limits and on any other string they do nothing.
LED_POS_OPEN_DETECT, above 8.0 V for 2 µs, bypasses a lit position, records it in the outage mask, counts and reports it.
LED_STR_SHORT_BAT_DETECT of a string whose converter is off sets or clears SHORT_BAT 50 ms after it went off. STRING_RESTART of a
TRIPPED string whose junction has read at most 155 °C leaves it DARK 100 ms after the trip, and lights it where something asks for
light. LED_LATCHED_CLEAR ends a latch, LED_OUTAGE_CLEAR the outage bits written, with their fault sources. LED_CAL_RETRY of a
deferred string that is not lit measures the offset 500 ms after it went dark. -/
def Obligations.StringDetections : Prop :=
  (∀ (t : Str) (least most us : Nat) (s : State), converterOn t s = true → 58000 ≤ least → 2 * most < strCurrent t s → 100 ≤ us →
    Completes (.ledStrOpenDetect t least most us) s (tripString t 0x400 false s)) ∧
  (∀ (t : Str) (excess us : Nat) (s : State), converterOn t s = true → s.fld (Ix.LED_STR_ISET t.val) 0 11 < 5 * excess → 20 ≤ us →
    Completes (.ledStrShortDetect t excess us) s (tripString t 0x404 true s)) ∧
  (∀ (t : Str) (temp : Int) (s : State), 175 ≤ temp → ((s.led.strs[t]).st = .lit ∨ (s.led.strs[t]).st = .dark) →
    Completes (.ledThermalDetect t temp) s (tripString t 0x40C false s)) ∧
  (∀ (t : Str) (least most excess us : Nat) (s : State), converterOn t s = false →
    Completes (.ledStrOpenDetect t least most us) s s ∧ Completes (.ledStrShortDetect t excess us) s s) ∧
  (∀ (t : Str) (temp : Int) (s : State), temp < 175 → Completes (.ledThermalDetect t temp) s s) ∧
  (∀ (t : Str) (id : Nat) (short : Bool) (s : State),
    let rs := (s.led.strs[t]).restarts.filter fun u => decide (s.now ≤ u + secP 60)
    ∃ u : State, (u.led.strs[t]).st = .tripped ∧ (u.led.strs[t]).level = 0 ∧ (u.led.strs[t]).tripAt = s.now ∧
      (∀ k, k ≠ t → u.led.strs[k] = s.led.strs[k]) ∧ u = { s with led := u.led } ∧
      let v := report (id + t.val) t.val
        (if short then countShort (stageOfStr t) (u.bump (Ix.LED_COUNTS t.val) 0 8) else u.bump (Ix.LED_COUNTS t.val) 0 8)
      tripString t id short s = if 8 ≤ rs.length then condFault (0x410 + t.val) t.val true (latchString t v) else v) ∧
  (∀ (t : Str) (p : Fin 16) (least us : Nat) (s : State), positionLit t p s = true → 8000 < least → 2 ≤ us →
    Completes (.ledPosOpenDetect t p least us) s (judgeStringFail t (condFault 0x420 (16 * t.val + p.val) true
      ((updStr t (fun x => { x with bypass := x.bypass ||| 2 ^ p.val, openMask := x.openMask ||| 2 ^ p.val }) s).bump
        (Ix.LED_COUNTS t.val) 8 8)))) ∧
  (∀ (t : Str) (p : Fin 16) (least us : Nat) (s : State), positionLit t p s = false →
    Completes (.ledPosOpenDetect t p least us) s s) ∧
  (∀ (t : Str) (least : Nat) (s : State), converterOn t s = false → (s.led.strs[t]).st ≠ .disabled →
    Completes (.ledStrShortBatDetect t least) s (condFault (0x408 + t.val) t.val (decide (3000 < least))
      (updStr t (fun y => { y with shortBat := decide (3000 < least) }) (s.reach ((s.led.strs[t]).wentDark + msP 50))))) ∧
  (∀ (t : Str) (at_ : Nat) (most : Int) (s : State), (s.led.strs[t]).st = .tripped → most ≤ 155 →
    let u := updStr t (fun y => { y with st := .dark }) (s.reach (Nat.max at_ ((s.led.strs[t]).tripAt + msP 100)))
    ((composeNow t u).2.1 = 0 → Completes (.stringRestart t at_ most) s u) ∧
    ((composeNow t u).2.1 ≠ 0 → Completes (.stringRestart t at_ most) s
      (relight t (updStr t (fun y => { y with restarts := u.now :: y.restarts }) u)))) ∧
  (∀ (t : Str) (at_ : Nat) (most : Int) (s : State), (s.led.strs[t]).st ≠ .tripped ∨ 155 < most →
    Completes (.stringRestart t at_ most) s s) ∧
  (∀ (t : Str) (s : State), (s.led.strs[t]).st = .latched →
    Completes (.ledLatchedClear t) s (relight t (applyLimits (endFault (0x410 + t.val) t.val
      (updStr t (fun y => { y with st := .dark, restarts := [] }) s))))) ∧
  (∀ (t : Str) (s : State), (s.led.strs[t]).st ≠ .latched → Completes (.ledLatchedClear t) s s) ∧
  (∀ (t : Str) (mask : Word) (s : State), ∃ u : State,
    (u.led.strs[t]).openMask = (s.led.strs[t]).openMask &&& (0xFFFF - fld mask 0 16) ∧
    (u.led.strs[t]).bypass = (s.led.strs[t]).bypass &&& (0xFFFF - fld mask 0 16) ∧
    (u.led.strs[t]).shortMask = (s.led.strs[t]).shortMask &&& (0xFFFF - fld mask 16 16) ∧
    (∀ k, k ≠ t → u.led.strs[k] = s.led.strs[k]) ∧ u = { s with led := u.led } ∧
    Completes (.ledOutageClear t mask) s (judgeStringFail t ((List.range 16).foldl (fun a p =>
      let b := if nbits (fld mask 0 16) p 1 = 1 then endFault 0x420 (16 * t.val + p) a else a
      if nbits (fld mask 16 16) p 1 = 1 then endFault 0x421 (16 * t.val + p) b else b) u))) ∧
  (∀ (t : Str) (n00Mv : Nat) (raw offset : Int) (s : State), (s.led.strs[t]).calDeferred = true → (s.led.strs[t]).st ≠ .lit →
    (s.led.strs[t]).st ≠ .disabled →
    let u := s.reach (Nat.max (s.led.strs[t]).wentDark (s.led.strs[t]).calAt + msP 500)
    Completes (.ledCalRetry t n00Mv raw offset) s (updStr t (fun y => { y with calAt := u.now }) (strCal t n00Mv raw offset u))) ∧
  (∀ (t : Str) (n00Mv : Nat) (raw offset : Int) (s : State), n00Mv < 300 → raw.natAbs ≤ 30 →
    strCal t n00Mv raw offset s =
      endFault 0x424 t.val (updStr t (fun x => { x with offset := offset, calDeferred := false, calRun := 0 }) s))

/-- EVENT_MOT_CMD takes the command of its slot for the next PWM period. MOT_CATCH_DONE leaves CATCH for RUN where the rotor turns as
asked, decelerates it for a reversal where it turns against the request, and leaves it for the still brake where it does not turn;
a caught deceleration goes on. MOT_STILL_BRAKE_DONE and MOT_REVERSAL_HOLD_END begin ALIGN, MOT_ALIGN_DONE FORCED at angle 0 with the
ramp at zero, MOT_HANDOFF RUN at or above HANDOFF with an observer error of at most 2,048 ac; MOT_HANDOFF_TIMEOUT trips with cause
4. Each is ignored in any other state of the bridge. MOT_PWM_PERIOD of a motor bridge takes the waiting commands into effect, and
with none it advances angle and count, limits the depth to its limit, and counts the periods at PEAK; of a brushed drive it ramps
the duty and drives by its sign, and does nothing on a bridge that is none. -/
def Obligations.BridgeStarts : Prop :=
  (∀ (slot k : Nat) (e : Event) (b : Mot) (c : MotCmd) (s u : State), takeEvent slot s = some (e, u) → e.spec.act = .motCmd b k →
    (u.br b).slots.lookup k = some c → c.quantity < 0x10 →
    Completes (.eventMotCmd slot) s (updBr b (fun x => { x with next := x.next ++ [c], slots := x.slots.filter (·.1 != k) }) u)) ∧
  (∀ (slot k : Nat) (e : Event) (b : Mot) (s u : State), takeEvent slot s = some (e, u) → e.spec.act = .motCmd b k →
    (u.br b).slots.lookup k = none → Completes (.eventMotCmd slot) s u) ∧
  (∀ (b : Mot) (emfMv angle : Nat) (speed : Int) (s : State), (s.br b).st = .catch_ →
    let u := s.reach ((s.br b).since + msP (s.fld (Ix.MOT_START b.val) 24 8))
    ((decide (200 ≤ emfMv) && turningAt b speed u) = true → motDecelerates (s.br b) = false → decide (speed < 0) = (s.br b).back →
      Completes (.motCatchDone b emfMv angle speed) s
        (updBr b (fun x => { x with ref := speed * 1000 }) (enterBr b .run (updBr b (fun x => { x with speed := speed, angle := angle }) u)))) ∧
    ((decide (200 ≤ emfMv) && turningAt b speed u) = true → motDecelerates (s.br b) = false → decide (speed < 0) ≠ (s.br b).back →
      Completes (.motCatchDone b emfMv angle speed) s
        (updBr b (fun x => { x with ref := speed * 1000, reversal := some (s.br b).back, caught := true })
          (enterBr b .run (updBr b (fun x => { x with speed := speed, angle := angle }) u)))) ∧
    ((decide (200 ≤ emfMv) && turningAt b speed u) = true → motDecelerates (s.br b) = true →
      Completes (.motCatchDone b emfMv angle speed) s
        (updBr b (fun x => { x with ref := speed * 1000 }) (enterBr b .run (updBr b (fun x => { x with speed := speed, angle := angle }) u)))) ∧
    ((decide (200 ≤ emfMv) && turningAt b speed u) = false → motDecelerates (s.br b) = true →
      Completes (.motCatchDone b emfMv angle speed) s (restBr b (updBr b (fun x => { x with speed := 0 }) u))) ∧
    ((decide (200 ≤ emfMv) && turningAt b speed u) = false → motDecelerates (s.br b) = false →
      Completes (.motCatchDone b emfMv angle speed) s
        (updBr b (fun x => { x with stillBrake := true, endBrake := false })
          (enterBr b .brake (updBr b (fun x => { x with speed := 0 }) u))))) ∧
  (∀ (b : Mot) (emfMv angle : Nat) (speed : Int) (s : State), (s.br b).st ≠ .catch_ → Completes (.motCatchDone b emfMv angle speed) s s) ∧
  (∀ (b : Mot) (s : State), (s.br b).st = .brake → (s.br b).stillBrake = true →
    Completes (.motStillBrakeDone b) s (beginAlign b (s.reach ((s.br b).since + msP 100)))) ∧
  (∀ (b : Mot) (s : State), (s.br b).st ≠ .brake ∨ (s.br b).stillBrake = false → Completes (.motStillBrakeDone b) s s) ∧
  (∀ (b : Mot) (s : State), ((beginAlign b s).br b).st = .align ∧ ((beginAlign b s).br b).ref = 0 ∧
    ((beginAlign b s).br b).stillBrake = false ∧ ((beginAlign b s).br b).reversal = none) ∧
  (∀ (b : Mot) (s : State), (s.br b).st = .align →
    Completes (.motAlignDone b) s (updBr b (fun x => { x with ref := 0, angle := 0 })
      (enterBr b .forced (s.reach ((s.br b).since + msP (10 * s.fld (Ix.MOT_START b.val) 8 8)))))) ∧
  (∀ (b : Mot) (s : State), (s.br b).st ≠ .align → Completes (.motAlignDone b) s s) ∧
  (∀ (b : Mot) (err angle : Nat) (speed : Int) (s : State), (s.br b).st = .forced → motDecelerates (s.br b) = false →
    motHandoff b s ≤ (s.br b).ref.natAbs → err ≤ 2048 →
    Completes (.motHandoff b err angle speed) s
      (updBr b (fun x => { x with speed := speed, ref := speed * 1000, integ := 0, angle := angle }) (enterBr b .run s))) ∧
  (∀ (b : Mot) (err angle : Nat) (speed : Int) (s : State), 2048 < err ∨ (s.br b).st ≠ .forced →
    Completes (.motHandoff b err angle speed) s s) ∧
  (∀ (b : Mot) (s : State), (s.br b).st = .forced → motDecelerates (s.br b) = false →
    Completes (.motHandoffTimeout b) s (tripBridge b 4 (0x508 + b.val) (s.reach ((s.br b).since + motIfP b s + msP 200)))) ∧
  (∀ (b : Mot) (s : State), (s.br b).st ≠ .forced → Completes (.motHandoffTimeout b) s s) ∧
  (∀ (b : Mot) (d : Bool) (s : State), (s.br b).holdBrake = true → (s.br b).reversal = some d →
    Completes (.motReversalHoldEnd b) s (beginAlign b (updBr b (fun x => { x with back := d })
      (s.reach ((s.br b).since + msP (s.fld (Ix.MOT_REV b.val) 0 16)))))) ∧
  (∀ (b : Mot) (s : State), (s.br b).holdBrake = false → Completes (.motReversalHoldEnd b) s s) ∧
  (∀ (b : Mot) (t v volt : Nat) (turn iq id : Int) (ps : List (Nat × Int)) (pk : Option Nat) (s : State), (s.br b).next = [] →
    (s.br b).st ≠ .forced → (s.br b).st ≠ .align → ((s.br b).st ≠ .run ∨ turn ≤ 0) →
    Gives (.motPwmPeriod (.bridge b t v turn iq id volt ps pk)) s fun x =>
      (x.br b).angle = (s.br b).angle + turn ∧ (x.br b).count = wrap32 ((s.br b).count + turn) ∧ (x.br b).vbat = v ∧
      (x.br b).iq = iq ∧ (x.br b).id = id ∧ (x.br b).st = (s.br b).st ∧
      (x.br b).depth = Nat.min (depthOf volt v) (depthLimit b v s) ∧
      (x.br b).depthLimited = decide (depthLimit b v s < depthOf volt v) ∧
      (pk = none → (x.br b).peakSince = none) ∧ (∀ k, k ≠ b → x.br k = s.br k) ∧
      x = { s with now := x.now, mot := { s.mot with bridges := x.mot.bridges }, dwell := x.dwell }) ∧
  (∀ (b : Mot) (t v volt : Nat) (turn iq id : Int) (ps : List (Nat × Int)) (pk : Option Nat) (s : State),
    Completes (.motPwmPeriod (.bridge b t v turn iq id volt ps pk)) s (bridgePeriod b t v turn iq id volt ps pk s)) ∧
  (∀ (h : Hb) (t v : Nat) (d : Int) (s : State), hbMode h s ≠ 2 → Completes (.motPwmPeriod (.brushed h t v d)) s s) ∧
  (∀ (h : Hb) (t v : Nat) (d : Int) (s : State), hbMode h s = 2 → Completes (.motPwmPeriod (.brushed h t v d)) s (brushedPeriod h t v d s)) ∧
  (∀ (h : Hb) (goal : Int) (s : State),
    let x := (brushRamp h goal s).mot.brushed[h]
    x.lastAt = s.now ∧ x.rampLimited = decide (x.duty ≠ goal) ∧ (brushRamp h goal s).chans = s.chans ∧
    (((s.mot.brushed[h]).watch = .clear ∧ s.fld (Ix.MOT_BR_CFG h.val) 16 16 = 0 ∧ 0 ≤ goal ∧ 0 ≤ (s.mot.brushed[h]).duty ∧
      goal ≤ 32767 ∧ (s.mot.brushed[h]).duty ≤ 32767) → x.duty = goal))

/-- MOT_SPEED_LOOP_TICK takes the estimated speed; in RUN it runs the speed loop, in FORCED the ramp, and of a bridge in no running
state it changes nothing else. MOT_RMS_UPDATE lowers the limit by 2 % of PEAK above the rms limit and raises it again below 95 % of
it. MOT_FORCED_ENTRY of a decelerating bridge below the threshold enters FORCED, or after a catch against the request the reversal
hold; MOT_FORCED_STOP ends its ramp at rest; MOT_HOLD_TIMEOUT in WATCH ends a HOLD brake. MOT_SUPPLY_WATCH_BAND of a bridge whose
supply watch is not active clears its band; of one in SLOW it enters SHORT_BRAKE above 16.5 V; in JUMP it stays in SLOW.
MOT_HOME_STALL brakes at the stop, zeroes the count and sets HOMED; MOT_HOME_FAIL ends a homing that went 1.5 × TRAVEL, slows the
bridge and reports it. -/
def Obligations.BridgeRunsAndStops : Prop :=
  (∀ (b : Mot) (at_ : Nat) (speed : Int) (s : State), (s.br b).st ≠ .run → (s.br b).st ≠ .forced →
    Completes (.motSpeedLoopTick b at_ speed) s (updBr b (fun x => { x with speed := speed }) (s.reach at_))) ∧
  (∀ (b : Mot) (at_ : Nat) (speed v : Int) (s : State), (s.br b).st = .run →
    let u := updBr b (fun x => { x with speed := speed }) (s.reach at_)
    motTarget b u = .speed v → motFactor b u ≠ 0 → Completes (.motSpeedLoopTick b at_ speed) s (speedLoop b u)) ∧
  (∀ (b : Mot) (at_ : Nat) (speed : Int) (s : State), (s.br b).st = .forced → motDecelerates (s.br b) = false →
    let u := updBr b (fun x => { x with speed := speed }) (s.reach at_)
    Completes (.motSpeedLoopTick b at_ speed) s (updBr b (fun x => { x with
      ref := approach x.ref (if x.back then -(motHandoff b u : Int) else motHandoff b u) (motForcedRate b u) (motForcedRate b u) }) u)) ∧
  (∀ (b : Mot) (rms : Nat) (s : State), Gives (.motRmsUpdate b rms) s fun t => (t.br b).rms = rms ∧
    (motRmsLimit b s < rms → (t.br b).lowered = Nat.min 100 ((s.br b).lowered + 2)) ∧
    (rms ≤ motRmsLimit b s → rms * 100 < 95 * motRmsLimit b s → (t.br b).lowered = (s.br b).lowered - 2) ∧
    (rms ≤ motRmsLimit b s → 95 * motRmsLimit b s ≤ rms * 100 → (t.br b).lowered = (s.br b).lowered) ∧
    (∀ k, k ≠ b → t.br k = s.br k) ∧ t = { s with mot := { s.mot with bridges := t.mot.bridges }, dwell := t.dwell }) ∧
  (∀ (b : Mot) (speed : Int) (s : State), (s.br b).st = .run → motDecelerates (s.br b) = true → turningAt b speed s = false →
    let u := updBr b (fun x => { x with speed := speed, ref := speed * 1000 }) s
    ((s.br b).caught = false →
      Completes (.motForcedEntry b speed) s (updBr b (fun x => { x with back := decide (speed < 0) }) (enterBr b .forced u))) ∧
    (∀ d, (s.br b).caught = true → (s.br b).reversal = some d → Completes (.motForcedEntry b speed) s (beginHold b d u))) ∧
  (∀ (b : Mot) (s : State), (s.br b).st = .forced → motDecelerates (s.br b) = true →
    Completes (.motForcedStop b) s (restBr b (updBr b (fun x => { x with speed := 0, ref := 0 }) s))) ∧
  (∀ (b : Mot) (s : State), (s.br b).st = .brake → (s.br b).stillBrake = false → (s.br b).holdBrake = false →
    (s.br b).watch ≠ .shortBrake → s.modes.mode = .watch →
    Completes (.motHoldTimeout b) s (updBr b (fun x => { x with watch := .clear }) (enterBr b .off (s.reach ((s.br b).since + secP 1))))) ∧
  (∀ (b : Mot) (s : State), s.modes.mode ≠ .watch → Completes (.motHoldTimeout b) s s) ∧
  (∀ (b : Mot) (least most : Nat) (s : State), watchActive (s.br b) = false →
    Completes (.motSupplyWatchBand b least most) s (updBr b (fun x => { x with watch := .clear }) s)) ∧
  (∀ (b : Mot) (least most : Nat) (s : State), watchActive (s.br b) = true → s.band ≠ .jump → (s.br b).watch = .slow → 1650 < least →
    Completes (.motSupplyWatchBand b least most) s
      ((updBr b (fun x => { x with watch := .shortBrake }) (enterBr b .brake s)).bump (Ix.MOT_COUNTS b.val) 16 8)) ∧
  (∀ (b : Mot) (least most : Nat) (s : State), watchActive (s.br b) = true → s.band = .jump → (s.br b).watch ≠ .shortBrake →
    Completes (.motSupplyWatchBand b least most) s (updBr b (fun x => { x with watch := .slow }) s)) ∧
  (∀ (b : Mot) (least : Nat) (s : State), (s.br b).homing = true → (s.br b).st = .run ∨ (s.br b).st = .forced →
    s.fld (Ix.MOT_POS_HOME b.val) 16 8 * 10 < least →
    Gives (.motHomeStall b least) s fun t => (t.br b).homed = true ∧ (t.br b).homing = false ∧ (t.br b).count = 0 ∧
      (t.br b).st = .brake ∧ (t.br b).moves = 0 ∧ (∀ k, k ≠ b → t.br k = s.br k) ∧
      t = { s with mot := { s.mot with bridges := t.mot.bridges }, dwell := t.dwell }) ∧
  (∀ (b : Mot) (least : Nat) (s : State), (s.br b).homing = false ∨ least ≤ s.fld (Ix.MOT_POS_HOME b.val) 16 8 * 10 →
    Completes (.motHomeStall b least) s s) ∧
  (∀ (b : Mot) (s : State), (s.br b).homing = true →
    ((150 * s.fld (Ix.MOT_POS_SCALE b.val) 16 16 * 65536 : Nat) : Int) ≤
      ((s.br b).homeStart - (s.br b).count) * (s.fld (Ix.MOT_POS_SCALE b.val) 0 16 : Int) →
    Completes (.motHomeFail b) s (report (0x50E + b.val) b.val
      (updBr b (fun x => { x with homing := false, homeFailed := true, homed := false }) (updBr b Bridge.slowing s)))) ∧
  (∀ (b : Mot) (s : State), (s.br b).homing = false → Completes (.motHomeFail b) s s)

/-- MOT_SHORT_DETECT above the cut-off current for 2 µs, MOT_PEAK_TRIP after 100 ms of periods at PEAK and MOT_THERMAL_DETECT at 175 °C trip
a driving bridge by the one trip rule with causes 1, 2 and 3, and do nothing below their limits; a bridge that does not drive keeps
its state. The trip is counted and reported, and latches after eight restarts within 60 s. MOT_OBSERVER_LOSS in RUN coasts and
catches, reported and counted, and trips on the third in 10 s. MOT_PHASE_OPEN_DETECT latches. MOT_RESTART of a TRIPPED bridge whose
junction has read at most 155 °C leaves it OFF after RETRY, and starts it from Catch with its set-point; MOT_LATCHED_CLEAR clears a
latch. MOT_OFFSET_CAL and the two MOT_CAL_CMD operations measure an OFF bridge. A permitted MOT_FORCE_WRITE stores the forcing word
and posts its command. MOT_COPRO_RELOAD_DONE has the coprocessor running again. -/
def Obligations.BridgeDetections : Prop :=
  (∀ (b : Mot) (ma us : Nat) (s : State), (if b.val = 0 then 40000 else 15000) < ma → 2 ≤ us →
    Completes (.motShortDetect b ma us) s (tripBridge b 1 (0x500 + b.val) s)) ∧
  (∀ (b : Mot) (ma us : Nat) (s : State), ma ≤ (if b.val = 0 then 40000 else 15000) ∨ us < 2 → Completes (.motShortDetect b ma us) s s) ∧
  (∀ (b : Mot) (t : Nat) (s : State), (s.br b).peakSince = some t →
    Completes (.motPeakTrip b) s (tripBridge b 2 (0x502 + b.val) (s.reach (t + msP 100)))) ∧
  (∀ (b : Mot) (s : State), (s.br b).peakSince = none → Completes (.motPeakTrip b) s s) ∧
  (∀ (b : Mot) (temp : Int) (s : State), 175 ≤ temp → Completes (.motThermalDetect b temp) s (tripBridge b 3 (0x504 + b.val) s)) ∧
  (∀ (b : Mot) (temp : Int) (s : State), temp < 175 → Completes (.motThermalDetect b temp) s s) ∧
  (∀ (b : Mot) (cause id : Nat) (s : State), (s.br b).st.drives = false → tripBridge b cause id s = s) ∧
  (∀ (b : Mot) (cause id : Nat) (s : State), (s.br b).st.drives = true →
    ∃ u : State, (u.br b).st = .tripped ∧ (u.br b).lastTrip = cause ∧ (u.br b).tripAt = s.now ∧ (u.br b).iqRef = 0 ∧
      (∀ k, k ≠ b → u.br k = s.br k) ∧ u = { s with mot := { s.mot with bridges := u.mot.bridges } } ∧
      let v := report id b.val (if cause = 1 then countShort (stageOfMot b) (u.bump (Ix.MOT_COUNTS b.val) 0 8)
        else u.bump (Ix.MOT_COUNTS b.val) 0 8)
      tripBridge b cause id s =
        if 8 ≤ (recentBrRestarts (s.br b) s).length then condFault (0x50C + b.val) b.val true (latchBridge b v) else v) ∧
  (∀ (b : Mot) (err : Nat) (s : State), (s.br b).st = .run → 4096 < err →
    let ls := s.now :: (s.br b).losses.filter fun t => decide (s.now ≤ t + secP 10)
    let u := (updBr b (fun y => { y with losses := ls }) s).bump (Ix.MOT_COUNTS b.val) 8 8
    (ls.length < 3 → Completes (.motObserverLoss b err) s (report (0x506 + b.val) b.val
      (updBr b (fun y => { y with iqRef := 0, integ := 0 }) (enterBr b .catch_ u)))) ∧
    (3 ≤ ls.length → Completes (.motObserverLoss b err) s
      (tripBridge b 4 (0x506 + b.val) (updBr b (fun y => { y with losses := [] }) u)))) ∧
  (∀ (b : Mot) (err : Nat) (s : State), (s.br b).st ≠ .run ∨ err ≤ 4096 → Completes (.motObserverLoss b err) s s) ∧
  (∀ (b : Mot) (least others : Nat) (s : State), (s.br b).st.drives = true → least * 20 < others →
    motPeak b s < 10 * (s.br b).iq.natAbs →
    Completes (.motPhaseOpenDetect b least others) s (condFault (0x50C + b.val) b.val true (condFault (0x50A + b.val) b.val true
      (latchBridge b (updBr b (fun y => { y with lastTrip := 5 }) s))))) ∧
  (∀ (b : Mot) (at_ : Nat) (most : Int) (s : State), (s.br b).st = .tripped → most ≤ 155 →
    let u := enterBr b .off (s.reach (Nat.max at_ ((s.br b).tripAt + msP (10 * s.fld (Ix.MOT_CFG b.val) 24 8))))
    ((∀ back, motWant b u ≠ .turn back) → Completes (.motRestart b at_ most) s u) ∧
    (∀ back, motWant b u = .turn back → Completes (.motRestart b at_ most) s
      (startFromCatch b (updBr b (fun y => { y with restarts := u.now :: y.restarts }) u)))) ∧
  (∀ (b : Mot) (at_ : Nat) (most : Int) (s : State), (s.br b).st ≠ .tripped ∨ 155 < most → Completes (.motRestart b at_ most) s s) ∧
  (∀ (b : Mot) (s : State), (s.br b).st = .latched →
    Completes (.motLatchedClear b) s (startFromCatch b (applyLimits (endFault (0x50A + b.val) b.val
      (endFault (0x50C + b.val) b.val (enterBr b .off (updBr b (fun y => { y with restarts := [] }) s))))))) ∧
  (∀ (b : Mot) (s : State), (s.br b).st ≠ .latched → Completes (.motLatchedClear b) s s) ∧
  (∀ (b : Mot) (emfMv : Nat) (raw offset : Int) (s : State), (s.br b).st = .off →
    Completes (.motOffsetCal b emfMv raw offset) s (offsetCal b emfMv raw offset (s.reach ((s.br b).since + msP 500)))) ∧
  (∀ (b : Mot) (emfMv : Nat) (raw offset : Int) (s : State), offsetOk b emfMv raw = true →
    offsetCal b emfMv raw offset s =
      endFault 0x510 b.val (updBr b (fun x => { x with offset := offset, calDeferred := false, calRun := 0 }) s)) ∧
  (∀ (r : Requester) (b : Mot) (emfMv res ind : Nat) (raw offset : Int) (s : State),
    mayWrite r Ix.MOT_CAL_CMD (noteRequest r s) = true →
    (∀ n, 2 ≤ n → n < 6 →
      (valueOk Ix.MOT_CAL_CMD (toWord n) (noteRequest r s) && crossWritten Ix.MOT_CAL_CMD (toWord n) (noteRequest r s)) = true) →
    Completes (.motCalOffsetCmd r b emfMv raw offset) s (calOffset b emfMv raw offset (noteRequest r s)) ∧
    Completes (.motCalIdentifyCmd r b emfMv res ind) s (calIdentify b emfMv res ind (noteRequest r s))) ∧
  (∀ (b : Mot) (emfMv res ind : Nat) (s : State), (s.br b).st = .off → emfMv < 200 →
    calIdentify b emfMv res ind s =
      updBr b (fun x => { x with ident := some (res, ind) }) { s with mot := { s.mot with cal := .done } }) ∧
  (∀ (r : Requester) (b : Mot) (v : Word) (s : State), mayWrite r (Ix.MOT_FORCE b.val) (noteRequest r s) = true →
    (valueOk (Ix.MOT_FORCE b.val) v (noteRequest r s) && crossWritten (Ix.MOT_FORCE b.val) v (noteRequest r s)) = true →
    Completes (.motForceWrite r b v) s
      (postForce b ((noteRequest r s).put (Ix.MOT_FORCE b.val) (cleanValue (Ix.MOT_FORCE b.val) v)))) ∧
  (∀ (s : State), s.procs.motor = .loading → Completes .motCoproReloadDone s (coproResume s)) ∧
  (∀ (s : State), (coproResume { s with procs := { s.procs with motor := .loading } }).procs.motor = .running) ∧
  (∀ (s : State), s.procs.motor ≠ .loading → Completes .motCoproReloadDone s s)

/-- SW_RAW_EDGE of a used input whose raw state changes takes it and starts the debounce timer, but confirms at once with a DEBOUNCE of 0;
an edge that brings no change does nothing but move the clock. SW_DEBOUNCE_EXPIRY of a running timer confirms the raw state DEBOUNCE
after its start; with no timer, and in the CRANK band, it does nothing. SW_STANDBY_SAMPLE acts in STANDBY only and
PARK_SWITCH_SAMPLE in RETAIN only: one sample that differs from the confirmed state is remembered, the second in a row returns the
CB7 to RUN; in RETAIN the second change in a row of the kind PARK_EDGE selects latches wake cause 2 where that source is armed.
SSUP_FAULT_DETECT of a supply that is on judges its state, records its voltage and reports it; SSUP_RETRY ends a short 1 s after it
was switched off. -/
def Obligations.SwitchInputs : Prop :=
  (∀ (n : SwitchNo) (at_ mv : Nat) (s : State), swUsed n (s.reach at_) = true →
    swRaw n mv (s.reach at_) ≠ (s.inp.sw[n]).raw →
    Completes (.swRawEdge n at_ mv) s (startDebounce n (s.reach at_).now
      (updSw n (fun x => { x with raw := swRaw n mv (s.reach at_) }) (s.reach at_)))) ∧
  (∀ (n : SwitchNo) (t : Nat) (s : State), s.band ≠ .crank →
    (swDebounceP n s ≠ 0 → startDebounce n t s = updSw n (fun x => { x with since := some t }) s) ∧
    (swDebounceP n s = 0 → startDebounce n t s = confirmSwitch n s)) ∧
  (∀ (n : SwitchNo) (at_ mv : Nat) (s : State), swRaw n mv (s.reach at_) = (s.inp.sw[n]).raw →
    Completes (.swRawEdge n at_ mv) s (s.reach at_)) ∧
  (∀ (n : SwitchNo) (t : Nat) (s : State), (s.inp.sw[n]).since = some t → s.band ≠ .crank →
    Completes (.swDebounceExpiry n) s (confirmSwitch n (s.reach (t + swDebounceP n s)))) ∧
  (∀ (n : SwitchNo) (s : State), (s.inp.sw[n]).since = none ∨ s.band = .crank → Completes (.swDebounceExpiry n) s s) ∧
  (∀ (n : SwitchNo) (s : State), ((confirmSwitch n s).inp.sw[n]).closed = (s.inp.sw[n]).raw ∧
    ((confirmSwitch n s).inp.sw[n]).since = none ∧ ∀ k, k ≠ n → (confirmSwitch n s).inp.sw[k] = s.inp.sw[k]) ∧
  (∀ (at_ : Nat) (mvs : List (SwitchNo × Nat)) (s : State),
    (s.pw.pw = .standby → Completes (.swStandbySample at_ mvs) s (mvs.foldl (fun t e => standbySample e t) (s.reach at_))) ∧
    (s.pw.pw = .retain → Completes (.parkSwitchSample at_ mvs) s (mvs.foldl (fun t e => parkSample e t) (s.reach at_))) ∧
    (s.pw.pw ≠ .standby → Completes (.swStandbySample at_ mvs) s s) ∧
    (s.pw.pw ≠ .retain → Completes (.parkSwitchSample at_ mvs) s s)) ∧
  (∀ (n : SwitchNo) (mv : Nat) (s : State), swUsed n s = true → swRaw n mv s ≠ (s.inp.sw[n]).closed →
    ((s.inp.sw[n]).differ = 0 → standbySample (n, mv) s = updSw n (fun x => { x with differ := 1 }) s) ∧
    (1 ≤ (s.inp.sw[n]).differ → s.pw.pw = .standby → (standbySample (n, mv) s).pw.pw = .run)) ∧
  (∀ (n : SwitchNo) (mv : Nat) (s : State), swUsed n s = true → s.flag Ix.IN_SW_PARK_MASK n.val = true →
    swRaw n mv s ≠ (nbits s.inp.reference n.val 1 == 1) → parkEdge n (swRaw n mv s) s = true → 1 ≤ (s.inp.sw[n]).differ →
    s.pw.pw = .retain → s.pw.armed.contains 2 = true → s.pw.cause = none →
    (parkSample (n, mv) s).pw.cause = some 2 ∧ (parkSample (n, mv) s).inp.wake = n.val) ∧
  (∀ (k : Fin 2) (mv : Nat) (s : State), ssupOn k s = true → 4850 ≤ mv → mv ≤ 5150 →
    Completes (.ssupFaultDetect k mv false) s (condFault 0x601 k.val false (staleRatios
      (publishSource 2 (8 + k.val) (fixVolts mv) false
        (State.putFld { s with inp := { s.inp with ssup := s.inp.ssup.set k .ok } } Ix.IN_SSUP_VOLT (16 * k.val) 16 mv))))) ∧
  (∀ (k : Fin 2) (mv : Nat) (s : State), ssupOn k s = true → mv < 4850 ∨ 5150 < mv →
    Completes (.ssupFaultDetect k mv false) s (condFault 0x601 k.val true (staleRatios
      (publishSource 2 (8 + k.val) (fixVolts mv) false
        (State.putFld { s with inp := { s.inp with ssup := s.inp.ssup.set k .outOfRange } } Ix.IN_SSUP_VOLT (16 * k.val) 16 mv))))) ∧
  (∀ (k : Fin 2) (mv : Nat) (s : State), ssupOn k s = true →
    Completes (.ssupFaultDetect k mv true) s (condFault 0x601 k.val true (staleRatios
      (publishSource 2 (8 + k.val) (fixVolts mv) false
        (State.putFld { s with inp := { s.inp with ssup := s.inp.ssup.set k .short, shortAt := s.inp.shortAt.set k s.now } }
          Ix.IN_SSUP_VOLT (16 * k.val) 16 mv))))) ∧
  (∀ (k : Fin 2) (s : State), s.inp.ssup[k] = .short →
    Completes (.ssupRetry k) s (condFault 0x601 k.val false (staleRatios
      { s.reach (s.inp.shortAt[k] + secP 1) with inp := { s.inp with ssup := s.inp.ssup.set k .ok } })))

/-- FQ_EDGE of an unused input, or within 20 µs of the last edge, is not accepted and changes nothing. An accepted first edge of an
input that is no source notes its instant, and a later one its interval and its frequency. FQ_DIAG_FAULT takes the open finding in
mode VR and the range finding in mode HALL_I, makes the input's signals stale or fresh and reports. SPEED_REEVALUATION of an input or
of the tap with no edge yet changes nothing but the clock, and one with no edge for the time-out gives the frequency 0.
ALT_ZERO_CROSSING of a used tap above the level delivers a mark at angle 0, and at or below it none. -/
def Obligations.FrequencyInputs : Prop :=
  (∀ (f : Fin 4) (at_ : Nat) (s : State), fqMode f (s.reach at_) = 0 → Completes (.fqEdge f at_) s s) ∧
  (∀ (f : Fin 4) (at_ t : Nat) (s : State), (s.inp.fq[f]).lastEdge = some t → (s.reach at_).now < t + usP 20 →
    Completes (.fqEdge f at_) s s) ∧
  (∀ (f : Fin 4) (at_ : Nat) (s : State), fqMode f (s.reach at_) ≠ 0 → (s.inp.fq[f]).lastEdge = none →
    isSource f (updFq f (fun x => { x with lastEdge := some (s.reach at_).now, interval := none }) (s.reach at_)) = false →
    Completes (.fqEdge f at_) s (updFq f (fun x => { x with lastEdge := some (s.reach at_).now, interval := none }) (s.reach at_))) ∧
  (∀ (f : Fin 4) (at_ t : Nat) (s : State), fqMode f (s.reach at_) ≠ 0 → (s.inp.fq[f]).lastEdge = some t →
    t + usP 20 ≤ (s.reach at_).now →
    let i := (s.reach at_).now - t
    let u := publishFreq f i (updFq f (fun x => { x with lastEdge := some (s.reach at_).now, interval := some i }) (s.reach at_))
    isSource f u = false → Completes (.fqEdge f at_) s u) ∧
  (∀ (f : Fin 4) (o g : Bool) (s : State), ∃ u : State, (u.inp.fq[f]).open_ = (o && fqMode f s == 1) ∧
    (u.inp.fq[f]).range = (g && fqMode f s == 3) ∧
    (∀ k, k ≠ f → u.inp.fq[k] = s.inp.fq[k]) ∧ u = { s with inp := { s.inp with fq := u.inp.fq } } ∧
    let bad := (o && fqMode f s == 1) || (g && fqMode f s == 3)
    Completes (.fqDiagFault f o g) s (condFault 0x602 f.val bad
      (let v := staleSource 3 (4 + f.val) bad u
       if isSource f v then staleSource 3 (speedIndex (fqUse f v)) bad v else v))) ∧
  (∀ (at_ : Nat) (s : State), s.inp.alt.lastCross = none → Completes (.speedReevaluation 4 at_) s (s.reach at_)) ∧
  (∀ (at_ t : Nat) (s : State), s.inp.alt.lastCross = some t → fqTimeoutP (s.reach at_) ≤ (s.reach at_).now - t →
    Completes (.speedReevaluation 4 at_) s (publishAlt 0 (s.reach at_))) ∧
  (∀ (f : Fin 4) (at_ : Nat) (s : State), (s.inp.fq[f]).lastEdge = none →
    Completes (.speedReevaluation f.castSucc at_) s (s.reach at_)) ∧
  (∀ (f : Fin 4) (at_ t : Nat) (s : State), (s.inp.fq[f]).lastEdge = some t → fqTimeoutP (s.reach at_) ≤ (s.reach at_).now - t →
    let x := s.inp.fq[f]
    let u := (publishSource 3 (4 + f.val) 0 (x.open_ || x.range) (updFq f (fun x => { x with freq := 0 }) (s.reach at_))).putNat
      (Ix.IN_FQ_FREQ f.val) 0
    isSource f u = false → Completes (.speedReevaluation f.castSucc at_) s u) ∧
  (∀ (at_ peak : Nat) (s : State), altCycles (s.reach at_) ≠ 0 → s.inp.alt.lastCross = none →
    s.fld Ix.IN_ALT_CFG 8 8 < peak →
    Completes (.altZeroCrossing at_ peak) s (sourceMark 1 { angle := 0, ref := true, next := 65536, rate := none }
      { s.reach at_ with inp := { s.inp with alt :=
        { s.inp.alt with lastCross := some (s.reach at_).now, cycle := none, amp := peak, marks := true } } })) ∧
  (∀ (at_ peak : Nat) (s : State), altCycles (s.reach at_) ≠ 0 → s.inp.alt.lastCross = none →
    peak ≤ s.fld Ix.IN_ALT_CFG 8 8 →
    Completes (.altZeroCrossing at_ peak) s { s.reach at_ with inp := { s.inp with alt :=
        { s.inp.alt with lastCross := some (s.reach at_).now, cycle := none, amp := peak, marks := false } } }) ∧
  (∀ (at_ peak : Nat) (s : State), altCycles (s.reach at_) = 0 → Completes (.altZeroCrossing at_ peak) s s)

/-- IMU_PUBLISH latches impact from the acceleration over 5 ms and never clears it. IMU_ACTIVITY_WINDOW judges moving and publishes:
moving becomes true where the activity has exceeded its level for its dwell. TAMPER_REFERENCE_CAPTURE in WATCH, without a
reference, where moving has been false for the still dwell, takes gravity, and in another mode nothing. IMU_STANDBY_EVAL acts in
STANDBY only, and a change of moving or tamper returns the CB7 to RUN. GYRO_ZERO_SUCCESS after 10 s of held conditions, and within
60 s of the attempt, takes the mean as the zero and ends the attempt; GYRO_ZERO_TIMEOUT defers at 60 s, and the third deferral in a
row reports. A permitted IMU_CAL_CMD starts its operation: the zero attempt runs from the present instant, and a level whose
conditions do not hold is deferred. A permitted IMU_CLEAR with bit 3 clears impact. -/
def Obligations.ImuRows : Prop :=
  (∀ (m : ImuSample) (s : State), ∃ u : State, u.imu.impact = (s.imu.impact || decide (s.fld Ix.IMU_FALL 16 8 * 100 < m.least)) ∧
    u.imu.seen = true ∧ u = { s with now := Nat.max s.now m.at_, imu := u.imu } ∧
    ∃ vals : List Word, vals.length = 8 ∧ Completes (.imuPublish m) s
      (vals.zipIdx.foldl (fun t p => publishSource 4 (4 + p.2) p.1 (publishImuFlags (judgeFall (judgeTamper m.acc u))).imu.fail t)
        (publishImuFlags (judgeFall (judgeTamper m.acc u))))) ∧
  (∀ (at_ accel gyro : Nat) (s : State), Completes (.imuActivityWindow at_ accel gyro) s
    (publishImuFlags (judgeMoving accel gyro (s.reach at_)))) ∧
  (∀ (accel gyro t : Nat) (s : State), s.imu.moveHi = some t → t + msP (s.fld Ix.IMU_DWELL 0 16) ≤ s.now →
    s.fld Ix.IMU_MOVE 0 8 * 10 < accel ∨ s.fld Ix.IMU_MOVE 16 8 * 10 < gyro → (judgeMoving accel gyro s).imu.moving = true) ∧
  (∀ (at_ : Nat) (g : Int × Int × Int) (s : State), s.modes.mode = .watch → s.imu.moving = false →
    s.imu.stillAt + msP (s.fld Ix.IMU_DWELL 16 16) ≤ (s.reach at_).now → s.imu.ref = none →
    Completes (.tamperReferenceCapture at_ g) s { s.reach at_ with imu := { s.imu with ref := some g, tiltHi := none, tiltLo := none } }) ∧
  (∀ (at_ : Nat) (g : Int × Int × Int) (s : State), s.modes.mode ≠ .watch →
    Completes (.tamperReferenceCapture at_ g) s (s.reach at_)) ∧
  (∀ (at_ accel gyro : Nat) (g : Int × Int × Int) (s : State), s.pw.pw ≠ .standby → Completes (.imuStandbyEval at_ accel gyro g) s s) ∧
  (∀ (at_ accel gyro : Nat) (g : Int × Int × Int) (s : State), s.pw.pw = .standby →
    let t := judgeTamper g (judgeMoving accel gyro (s.reach at_))
    (t.imu.moving = s.imu.moving → t.imu.tamper = s.imu.tamper → Completes (.imuStandbyEval at_ accel gyro g) s t) ∧
    (t.imu.moving ≠ s.imu.moving ∨ t.imu.tamper ≠ s.imu.tamper →
      Completes (.imuStandbyEval at_ accel gyro g) s (publishImuFlags (leaveStandby t)) ∧ (leaveStandby t).pw.pw = .run)) ∧
  (∀ (at_ t : Nat) (mean : Int × Int × Int) (s : State), s.imu.attempt = some t → wheelsSlow (s.reach at_) = true →
    crankRotates (s.reach at_) = false → dwellOver s.dwell.resting t (secP 10) (s.reach at_) = true → (s.reach at_).now ≤ t + secP 60 →
    Completes (.gyroZeroSuccess at_ mean) s (condFault 0x605 0 false { s.reach at_ with imu :=
      { s.imu with zero := mean, attempt := none, zeroValid := true, calDeferred := false, calRun := 0,
                   cmd := if s.imu.commanded then .done else s.imu.cmd, commanded := false } })) ∧
  (∀ (t : Nat) (s : State), s.imu.attempt = some t →
    let u : State := { s.reach (t + secP 60) with imu :=
      { s.imu with attempt := none, calDeferred := true, calRun := s.imu.calRun + 1,
                   cmd := if s.imu.commanded then .deferred else s.imu.cmd, commanded := false } }
    (s.imu.calRun < 2 → Completes .gyroZeroTimeout s u) ∧
    (2 ≤ s.imu.calRun → Completes .gyroZeroTimeout s (condFault 0x605 0 true u))) ∧
  (∀ (r : Requester) (g : Int × Int × Int) (held : Bool) (s : State), mayWrite r Ix.IMU_CAL_CMD (noteRequest r s) = true →
    (∀ n, 1 ≤ n → n ≤ 2 →
      (valueOk Ix.IMU_CAL_CMD (toWord n) (noteRequest r s) && crossWritten Ix.IMU_CAL_CMD (toWord n) (noteRequest r s)) = true) →
    Completes (.imuCalZeroCmd r) s { noteRequest r s with imu :=
      { s.imu with attempt := some s.now, commanded := true, cmd := .running } } ∧
    Completes (.imuCalLevelCmd r g held) s (calLevel g held (noteRequest r s))) ∧
  (∀ (g : Int × Int × Int) (held : Bool) (s : State), held = false ∨ stationary s = false ∨ s.imu.moving = true →
    calLevel g held s = { s.reach (s.now + secP 2) with imu := { s.imu with cmd := .deferred } }) ∧
  (∀ (g : Int × Int × Int) (s : State), stationary s = true → s.imu.moving = false → ∃ level : Int × Int,
    calLevel g true s = { s.reach (s.now + secP 2) with imu := { s.imu with cmd := .done, level := level } }) ∧
  (∀ (r : Requester) (v : Word) (s : State), mayWrite r Ix.IMU_CLEAR (noteRequest r s) = true →
    bit (cleanValue Ix.IMU_CLEAR v) 3 = true →
    Completes (.imuClearWrite r v) s (publishImuFlags { noteRequest r s with imu := { s.imu with impact := false } }))

/-- TOUCH_FRAME does nothing where no frame is under way; otherwise it latches the counts when the frame ends, runs the due self-tests,
classifies every group and, of a group with a noisy conversion, counts the frame and changes the conversion frequency.
TOUCH_CAL_RETRY of a deferred group begins the attempt RETRY seconds after the deferral. A permitted TCH_CAL_CMD_WRITE begins an
attempt of each used group in its mask. TOUCH_STUCK_TIMEOUT releases the group's electrodes, marks it STUCK and reports.
GLOVE_HOLD_EXPIRY leaves glove mode. PARK_TOUCH_SAMPLE acts in RETAIN with the touch source armed only: its first samples are
gathered for the baselines, and with both baselines the gesture is looked for, which latches wake cause 3 when it is recognised. -/
def Obligations.TouchRows : Prop :=
  (∀ (m : TouchFrame) (s : State), s.tch.frameAt = none → Completes (.touchFrame m) s s) ∧
  (∀ (m : TouchFrame) (t : Nat) (s : State), s.tch.frameAt = some t →
    let u := latchRaw m (State.reach { s with tch := { s.tch with frameAt := none } } (t + frameP m s))
    let noisy := (List.finRange 8).any fun g => tchMask g u != 0 && groupNoisy m g u
    (noisy = false → Completes (.touchFrame m) s ((List.finRange 8).foldl (fun t g => classifyGroup m g t) (selfTests m u))) ∧
    (noisy = true → Completes (.touchFrame m) s ((List.finRange 8).foldl (fun t g => classifyGroup m g t) (selfTests m
      ((State.bump { u with tch := { u.tch with freq := (u.tch.freq + 1) % 3 } } Ix.TCH_STATS 0 16).bump Ix.TCH_STATS 16 16))))) ∧
  (∀ (g : Fin 8) (t : Nat) (s : State), (s.tch.gr[g]).deferredAt = some t → (s.tch.gr[g]).attempt = none →
    Completes (.touchCalRetry g) s (beginCal g false (updGroup g (fun x => { x with deferredAt := none })
      (s.reach (t + secP (s.fld Ix.TCH_CAL 8 8)))))) ∧
  (∀ (g : Fin 8) (s : State), (s.tch.gr[g]).deferredAt = none → Completes (.touchCalRetry g) s s) ∧
  (∀ (r : Requester) (v : Word) (s : State), mayWrite r Ix.TCH_CAL_CMD (noteRequest r s) = true →
    (valueOk Ix.TCH_CAL_CMD v (noteRequest r s) && crossWritten Ix.TCH_CAL_CMD v (noteRequest r s)) = true →
    Completes (.tchCalCmdWrite r v) s (calCommand (cleanValue Ix.TCH_CAL_CMD v) (noteRequest r s))) ∧
  (∀ (v : Word) (s : State), ∃ left : Nat, calCommand v s =
    ((List.finRange 8).filter fun g => bit v g.val && tchMask g s != 0).foldl (fun t g => beginCal g true t)
      { s with tch := { s.tch with cmd := if left = 0 then .done else .running, cmdLeft := left, cmdDeferred := 0 } }) ∧
  (∀ (g : Fin 8) (c : Bool) (s : State), tchMask g s ≠ 0 → ((beginCal g c s).tch.gr[g]).attempt = some c) ∧
  (∀ (g : Fin 8) (t : Nat) (s : State), (s.tch.gr[g]).touchedAt = some t → s.fld (Ix.TCH_G_TIME g.val) 24 8 ≠ 0 →
    Completes (.touchStuckTimeout g) s (publishGroup g (condFault 0x700 g.val true
      (updGroup g (fun x => { x with stuck := true, stuckRun := 0, touchedAt := none, position := none })
        ((tchEls g (s.reach (t + secP (s.fld (Ix.TCH_G_TIME g.val) 24 8)))).foldl
          (fun u e => updEl e (fun x => { x with touched := false, up := 0 }) u)
          (s.reach (t + secP (s.fld (Ix.TCH_G_TIME g.val) 24 8)))))))) ∧
  (∀ (g : Fin 8) (s : State), (s.tch.gr[g]).touchedAt = none → Completes (.touchStuckTimeout g) s s) ∧
  (∀ (g : Fin 8) (s : State), (s.tch.gr[g]).glove = true →
    Completes (.gloveHoldExpiry g) s (publishGroup g (noteTouched g (tchTouched g s)
      (leaveGlove g (s.reach ((s.tch.gr[g]).gloveAt + secP (tchDwell g 3 s))))))) ∧
  (∀ (g : Fin 8) (s : State), ((leaveGlove g s).tch.gr[g]).glove = false) ∧
  (∀ (g : Fin 8) (s : State), (s.tch.gr[g]).glove = false → Completes (.gloveHoldExpiry g) s s) ∧
  (∀ (at_ raw0 raw1 : Nat) (s : State), s.pw.pw ≠ .retain ∨ s.pw.armed.contains 3 = false →
    Completes (.parkTouchSample at_ raw0 raw1) s s) ∧
  (∀ (at_ raw0 raw1 b0 b1 : Nat) (s : State), s.pw.pw = .retain → s.fld Ix.TCH_WAKE_CFG 0 2 ≠ 0 → s.pw.armed.contains 3 = true →
    s.tch.gest.base = [some b0, some b1] →
    Completes (.parkTouchSample at_ raw0 raw1) s (gestureSample raw0 raw1 b0 b1 (s.reach at_))) ∧
  (∀ (raw0 raw1 b0 b1 : Nat) (s : State), s.pw.pw = .retain → s.pw.armed.contains 3 = true → s.pw.cause = none →
    s.fld Ix.TCH_WAKE_CFG 0 2 = 1 → s.flag Ix.TCH_WAKE_CFG 2 = false → s.tch.gest.wet = false →
    parkTouch raw0 b0 s.tch.gest.touch0 s = true → parkTouch raw1 b1 s.tch.gest.touch1 s = false →
    s.tch.gest.tap + 1 = s.fld Ix.TCH_WAKE_TIME 0 8 → (gestureSample raw0 raw1 b0 b1 s).pw.cause = some 3) ∧
  (∀ (at_ raw0 raw1 : Nat) (s : State), s.pw.pw = .retain → s.fld Ix.TCH_WAKE_CFG 0 2 ≠ 0 → s.pw.armed.contains 3 = true →
    s.tch.gest.base = [none, none] → s.tch.gest.gather.length < 3 →
    Completes (.parkTouchSample at_ raw0 raw1) s { s.reach at_ with tch :=
      { s.tch with gest := { s.tch.gest with gather := s.tch.gest.gather ++ [(raw0, raw1)] } } })

/-- EVENT_LESSON_TICK evaluates its lesson and hands the sink values over; a lesson that is not in the mode is not evaluated and hands
nothing, and a tick earlier than the lesson's minimum period after its last evaluation is skipped and counted. The events of a
lesson tick, a CAN release and a FAB_SYNC that nothing holds do nothing. LESSON_PUBLISH publishes the output that is due, and
without one does nothing. A permitted host write of BN_HOST_k stores the word and notes it. A sample event runs the conversions of
its own list in order after noting its delay. A conversion of class 1, or one that waited at most 4 µs, is not skipped, and any other
is counted as skipped; its delay counts for the largest either way. -/
def Obligations.LessonRows : Prop :=
  (∀ (slot : Nat) (e : Event) (l : LessonNo) (s u : State), takeEvent slot s = some (e, u) → e.spec.act = .lessonTick l →
    Completes (.eventLessonTick slot) s
      (handValues (lessonTick l (e.spec.clock == 8) u).2 (lessonTick l (e.spec.clock == 8) u).1)) ∧
  (∀ (slot : Nat) (s : State), takeEvent slot s = none →
    Completes (.eventLessonTick slot) s s ∧ Completes (.eventCanRelease slot) s s ∧ Completes (.eventFabSync slot) s s) ∧
  (∀ (l : LessonNo) (f : Bool) (c : LessonCfg) (s : State), s.bn.cfg.lessons[l.val]? = some c →
    lessonIn l s.modes.mode (flushPubs s.now s) = false → (flushPubs s.now s).bn.cfg = s.bn.cfg →
    (flushPubs s.now s).modes = s.modes → lessonTick l f s = (flushPubs s.now s, [])) ∧
  (∀ (l : LessonNo) (f : Bool) (c : LessonCfg) (s : State), let u := flushPubs s.now s
    u.bn.cfg.lessons[l.val]? = some c → lessonIn l u.modes.mode u = true → (u.bn.lessons[l]).fallback = false →
    (blocksOf u.bn.cfg l.val).isEmpty = false →
    ((u.bn.lessons[l]).evaluated = true → usSince u.usTotal (u.bn.lessons[l]).last < c.minPeriod →
      (lessonTick l f s).2 = [] ∧
      (lessonTick l f s).1 = report 0x102 l.val ((u.bump (Ix.BN_L_TICKS l.val) 0 32).bump (Ix.BN_L_SKIPS l.val) 0 16)) ∧
    ((u.bn.lessons[l]).evaluated = false ∨ c.minPeriod ≤ usSince u.usTotal (u.bn.lessons[l]).last →
      lessonTick l f s = evaluateLesson l (u.bump (Ix.BN_L_TICKS l.val) 0 32))) ∧
  (∀ (l : LessonNo) (s : State), (s.bn.lessons[l]).pubs = [] → Completes (.lessonPublish l) s s) ∧
  (∀ (l : LessonNo) (t n : Nat) (v : Word) (s : State), (s.bn.lessons[l]).pubs = [(t, n, v)] →
    Completes (.lessonPublish l) s (updLesson l (fun x => { x with pubs := [] }) (publishSig n v (s.reach t)))) ∧
  (∀ (k : Fin 64) (v : Word) (s : State), mayWrite .host (Ix.BN_HOST k.val) (noteRequest .host s) = true →
    (valueOk (Ix.BN_HOST k.val) v (noteRequest .host s) && crossWritten (Ix.BN_HOST k.val) v (noteRequest .host s)) = true →
    Gives (.bnHostWrite .host k v) s fun t => t.word (Ix.BN_HOST k.val) = cleanValue (Ix.BN_HOST k.val) v ∧
      k.val ∈ t.bn.hostWritten ∧ (∀ i, i ≠ Ix.BN_HOST k.val → t.word i = s.word i) ∧
      t = { s with words := t.words, bn := { s.bn with hostWritten := t.bn.hostWritten }, modes := (noteRequest .host s).modes,
                   dwell := t.dwell }) ∧
  (∀ (slot delay : Nat) (convs : List Conv) (e : Event) (k : Nat) (s u : State), takeEvent slot s = some (e, u) →
    e.spec.act = .adcSample k → Completes (.eventAdcSample slot convs delay) s (fireAdc k convs delay u)) ∧
  (∀ (k delay : Nat) (convs : List Conv) (s : State), 42 ≤ k → k ≠ tchList →
    fireAdc k convs delay s = forEach (convs.filter (convOf k)) takeConv (s.peak Ix.SYS_ADC_STATS 16 16 (Nat.min 65535 delay))) ∧
  (∀ (slot delay : Nat) (convs : List Conv) (s : State), takeEvent slot s = none → Completes (.eventAdcSample slot convs delay) s s) ∧
  (∀ (v : Conv) (delay : Nat) (s : State), (convClass v s = 1 ∨ delay ≤ usP 4) → Completes (.adcConversionSkip v delay) s
    (s.peak Ix.SYS_ADC_STATS 16 16 (Nat.min 65535 delay))) ∧
  (∀ (v : Conv) (delay : Nat) (s : State), convClass v s ≠ 1 → usP 4 < delay →
    Completes (.adcConversionSkip v delay) s
      ((s.bump Ix.SYS_ADC_STATS 0 16).peak Ix.SYS_ADC_STATS 16 16 (Nat.min 65535 delay)))

/-- CELL_SWITCH_CHANGEOVER hands AO to the cell where the rail is below 4.5 V and the switch may close, counted, and reported at the
first of a start, and back where the rail is above 5.0 V; between the two nothing but the rail's report changes. SVIN_PRESENT
records the voltage, the presence of SVIN above 4.5 V throughout, with its wake source, and its absence at or below; SVIN_REMOVED
records its absence. VBAT_GATE_CHANGE opens the gate above the floor plus 0.30 V and closes it below the floor. A search starts at
50 mA where one is due and an input is available, no earlier than it is due. A step of it stops at the floor at the limit less 50 mA,
stops where the input does not follow and at the limit in force, and otherwise raises the limit by 50 mA; without a search nothing
happens. A back-off outside a search lowers the found limit by 50 mA and counts. BKOUT stops drawing from the cell at or below the
cut-off estimate. -/
def Obligations.ChargerPowerPath : Prop :=
  (∀ (railMv : Nat) (s : State), railMv < 4500 → s.chg.aoOnCell = false → s.chg.cutOff = false → s.flag Ix.CHG_FAULTS 5 = false →
    s.chg.conds.getD 5 false = false →
    let u := (updChg (fun c => { c with railUp := false, aoOnCell := true, onCellSaid := true }) s).bump Ix.CHG_COUNTS 16 16
    (s.chg.onCellSaid = false → Completes (.cellSwitchChangeover railMv) s (report 0x800 0 u)) ∧
    (s.chg.onCellSaid = true → Completes (.cellSwitchChangeover railMv) s u)) ∧
  (∀ (railMv : Nat) (s : State), 5000 < railMv →
    Completes (.cellSwitchChangeover railMv) s (updChg (fun c => { c with railUp := true, bkoCut := false, aoOnCell := false }) s)) ∧
  (∀ (railMv : Nat) (s : State), 4500 ≤ railMv → railMv ≤ 5000 →
    Completes (.cellSwitchChangeover railMv) s (updChg (fun c => { c with railUp := false }) s)) ∧
  (∀ (mv least : Nat) (s : State), 4500 < least → s.chg.svinPresent = false →
    let u := wakeFires (if s.fld Ix.PWR_DEEP_WAKE 0 4 = 4 ∧ s.pw.pw = .deep then 7 else 6)
      (parkSourceFires 6 ((updChg (fun c => { c with svinPresent := true }) s).putFld Ix.CHG_SVIN 0 16 mv))
    (s.modes.mode = .park → Completes (.svinPresent mv least) s u) ∧
    (s.modes.mode ≠ .park → Completes (.svinPresent mv least) s (refreshChg u))) ∧
  (∀ (mv least : Nat) (s : State), least ≤ 4500 → s.modes.mode ≠ .park →
    Completes (.svinPresent mv least) s
      (refreshChg ((updChg (fun c => { c with svinPresent := false, svinIsRail := false }) s).putFld Ix.CHG_SVIN 0 16 mv))) ∧
  (∀ (mv : Nat) (s : State), s.chg.svinPresent = true → mv ≤ 4500 → s.modes.mode ≠ .park →
    Completes (.svinRemoved mv) s
      (refreshChg ((updChg (fun c => { c with svinPresent := false, svinIsRail := false }) s).putFld Ix.CHG_SVIN 0 16 mv))) ∧
  (∀ (mv : Nat) (s : State), s.chg.svinPresent = false → Completes (.svinRemoved mv) s s) ∧
  (∀ (least most : Nat) (s : State), vbatFloor s + 300 < least →
    Completes (.vbatGateChange least most) s (refreshChg (updChg (fun c => { c with gate := true }) s))) ∧
  (∀ (least most : Nat) (s : State), least ≤ vbatFloor s + 300 → most < vbatFloor s →
    Completes (.vbatGateChange least most) s (refreshChg (updChg (fun c => { c with gate := false }) s))) ∧
  (∀ (at_ openMv vbatMv apart t : Nat) (s : State), searchDue s = some t → s.chg.input = 2 → s.chg.svinIsRail = false →
    let u := s.reach (Nat.max at_ t)
    Completes (.chgSearchStart at_ openMv vbatMv apart) s (aimChg (updChg (fun c => { c with
      searchAt := u.now, due := false, hush := false, backoffAt := none, openMv := openMv,
      search := some { limit := 50, openMv := openMv, vbat := vbatMv, near := decide (apart < 150), stepAt := u.now } }) u))) ∧
  (∀ (at_ openMv vbatMv apart : Nat) (s : State), searchDue s = none → Completes (.chgSearchStart at_ openMv vbatMv apart) s s) ∧
  (∀ (least maxMa vbatMv : Nat) (s : State), s.chg.search = none → Completes (.chgSearchStep least maxMa vbatMv) s s) ∧
  (∀ (least maxMa vbatMv : Nat) (q : Search) (s : State), s.chg.search = some q → q.near = false →
    let u := updChg (fun c => { c with inputMa := maxMa }) (s.reach (q.stepAt + msP 20))
    let top := Nat.min (chgIlim u) (scaled (chgIlim u) (factorAtLevel u 4))
    (least ≤ searchFloor q.openMv u →
      Completes (.chgSearchStep least maxMa vbatMv) s (searchEnd (q.limit - 50) true u)) ∧
    (searchFloor q.openMv u < least → maxMa + 20 < q.limit →
      Completes (.chgSearchStep least maxMa vbatMv) s (searchEnd q.limit false u)) ∧
    (searchFloor q.openMv u < least → q.limit ≤ maxMa + 20 → top ≤ q.limit →
      Completes (.chgSearchStep least maxMa vbatMv) s (searchEnd q.limit true u)) ∧
    (searchFloor q.openMv u < least → q.limit ≤ maxMa + 20 → q.limit < top →
      Completes (.chgSearchStep least maxMa vbatMv) s
        (updChg (fun c => { c with search := some { q with limit := q.limit + 50, stepAt := u.now } }) u))) ∧
  (∀ (most l : Nat) (s : State), s.chg.search = none → s.chg.input ≠ 0 → s.chg.found = some l → most ≤ searchFloor s.chg.openMv s →
    Completes (.chgInputBackoff most) s (refreshChg
      ((updChg (fun c => { c with found := some (l - 50), inputLimited := true, backoffAt := some s.now }) s).bump Ix.CHG_COUNTS 0 16))) ∧
  (∀ (most : Nat) (s : State), s.chg.search ≠ none ∨ searchFloor s.chg.openMv s < most → Completes (.chgInputBackoff most) s s) ∧
  (∀ (r : CellReading) (s : State), (readCell r s).chg.socValid = true → (readCell r s).chg.railUp = false →
    socPercent (readCell r s) ≤ (readCell r s).fld Ix.CHG_BKO_CFG 16 8 →
    Completes (.bkoutCellCutoff r) s (updChg (fun c => { c with bkoCut := true }) (readCell r s))) ∧
  (∀ (r : CellReading) (s : State), (readCell r s).chg.socValid = true →
    (readCell r s).fld Ix.CHG_BKO_CFG 16 8 < socPercent (readCell r s) → Completes (.bkoutCellCutoff r) s (readCell r s))

/-- The cell's reading moves PRECHARGE to FAST_CC above Precharge + 0.10 V with the timer restarted, FAST_CC to FAST_CV at VTERM,
FAST_CV to DONE below ITERM with the estimate at 100 % and the metrics judged, DONE to FAST_CC below Recharge with the fast timer
restarted; in another state only the reading is taken. An expired timer latches bit 4. A cell below Empty that feeds
BKOUT is cut off at 0 %, and one that feeds AO leaves the part OFF; charging ends the cut-off above Empty + 0.20 V. CELL_COLD and
CELL_HOT over their dwells set their conditions and their latched bits, and CELL_HOT of a cell that feeds AO leaves the part OFF; a
condition that is over is cleared, and the latched bit stays. A permitted read of CHG_FAULTS clears the latched bits. The probe
finds the cell present above 1.0 V with a drop of at most 0.10 V. An invalid estimate of an LI chemistry is seeded after 30 min at
rest, and CHG_TEMP takes the temperature that a window change reports. -/
def Obligations.ChargeStates : Prop :=
  (∀ (r : CellReading) (least : Nat) (s : State), (readCell r s).chg.st = .precharge → (readCell r s).chg.cutOff = false →
    (chem (readCell r s)).precharge + 100 < least →
    Completes (.chgPrechargeDone r least) s (aimChg (restartTimer (enterChg .fastCc (readCell r s))))) ∧
  (∀ (r : CellReading) (least : Nat) (s : State), (readCell r s).chg.st ≠ .precharge → (readCell r s).chg.cutOff = false →
    Completes (.chgPrechargeDone r least) s (readCell r s)) ∧
  (∀ (r : CellReading) (s : State), (readCell r s).chg.st = .fastCc → (readCell r s).chg.cutOff = false →
    chgVterm (readCell r s) ≤ r.mv → Completes (.chgVtermReached r) s (aimChg (enterChg .fastCv (readCell r s)))) ∧
  (∀ (r : CellReading) (s : State), (readCell r s).chg.st ≠ .fastCc → (readCell r s).chg.cutOff = false →
    Completes (.chgVtermReached r) s (readCell r s)) ∧
  (∀ (r : CellReading) (most : Int) (s : State), (readCell r s).chg.st = .fastCv →
    most < ((readCell r s).fld Ix.CHG_CURRENT 16 16 : Int) →
    ∃ u : State, u.chg.st = .done ∧ u.chg.soc = cellCap (readCell r s) ∧ u.chg.socValid = true ∧ u.chg.socFrac = 0 ∧
      u.chg.startSoc = none ∧ u = { readCell r s with chg := u.chg } ∧
      Completes (.chgTermination r most) s (judgeMetrics (aimChg u))) ∧
  (∀ (r : CellReading) (most : Int) (s : State), (readCell r s).chg.st ≠ .fastCv ∨
    ((readCell r s).fld Ix.CHG_CURRENT 16 16 : Int) ≤ most → Completes (.chgTermination r most) s (readCell r s)) ∧
  (∀ (r : CellReading) (most : Nat) (s : State), (readCell r s).chg.st = .done → most < (chem (readCell r s)).recharge →
    chgOk (readCell r s) = true →
    Completes (.chgRechargeStart r most) s (aimChg (restartTimer (enterChg .fastCc (readCell r s))))) ∧
  (∀ (r : CellReading) (most : Nat) (s : State), (readCell r s).chg.st ≠ .done →
    Completes (.chgRechargeStart r most) s (readCell r s)) ∧
  (∀ (st : ChgSt) (s : State), (enterChg st s).chg.st = st) ∧
  (∀ (s : State) (from_ : Nat), s.chg.timerFrom = some from_ →
    (s.chg.st = .precharge → Completes .chgTimerExpiry s
      (latchChg 4 (s.reach (from_ + (secP (60 * s.fld Ix.CHG_TIMER 0 8) - s.chg.timerUsed))))) ∧
    (s.chg.st ≠ .precharge → Completes .chgTimerExpiry s
      (latchChg 4 (s.reach (from_ + (secP (360 * s.fld Ix.CHG_TIMER 8 8) - s.chg.timerUsed)))))) ∧
  (∀ s : State, s.chg.timerFrom = none → Completes .chgTimerExpiry s s) ∧
  (∀ (r : CellReading) (most : Nat) (s : State), s.chg.aoOnCell = true → most < (chem (readCell r s)).empty →
    Completes (.cellCutoff r most) s (aoLost
      (updChg (fun c => { c with cutOff := true, soc := 0, socFrac := 0, socValid := true, aoOnCell := false }) (readCell r s)))) ∧
  (∀ (r : CellReading) (most : Nat) (s : State), s.chg.aoOnCell = false → bkoOn (readCell r s) = true → s.chg.railUp = false →
    most < (chem (readCell r s)).empty →
    Completes (.cellCutoff r most) s
      (updChg (fun c => { c with cutOff := true, soc := 0, socFrac := 0, socValid := true, aoOnCell := false }) (readCell r s))) ∧
  (∀ (r : CellReading) (s : State), (readCell r s).chg.cutOff = true → isCharging (readCell r s).chg.st = true →
    (chem (readCell r s)).empty + 200 < r.mv →
    Completes (.cellCutoffEnd r) s (updChg (fun c => { c with cutOff := false }) (readCell r s))) ∧
  (∀ (r : CellReading) (s : State), (readCell r s).chg.cutOff = false → Completes (.cellCutoffEnd r) s (readCell r s)) ∧
  (∀ (least most : Int) (s : State), Gives (.chgWindowChange least most) s fun t =>
    t.word Ix.CHG_TEMP = toWord (unsigned most 16) ∧ t.chg.window = nextWindow s.chg.window least most s) ∧
  (∀ (least most : Int) (stay : Bool) (s : State), s.chg.aoOnCell = false → most < -500 →
    Completes (.chgFaultDetect 0 least most stay) s (latchChg 0 (updChg (fun d => { d with conds := d.conds.set 0 true }) s))) ∧
  (∀ (least most : Int) (stay : Bool) (s : State), s.chg.aoOnCell = false → -500 ≤ most →
    Completes (.chgFaultDetect 0 least most stay) s (refreshChg (updChg (fun d => { d with conds := d.conds.set 0 false }) s))) ∧
  (∀ (least most : Int) (stay : Bool) (s : State), 700 < least →
    let u := latchChg 5 (updChg (fun d => { d with conds := d.conds.set 5 true }) s)
    (s.chg.aoOnCell = false → Completes (.chgFaultDetect 5 least most stay) s u) ∧
    (s.chg.aoOnCell = true → Completes (.chgFaultDetect 5 least most stay) s (aoLost u))) ∧
  (∀ (least most : Int) (stay : Bool) (s : State), 650 ≤ most → least ≤ 700 → Completes (.chgFaultDetect 5 least most stay) s s) ∧
  (∀ (least most : Int) (s : State), s.chg.aoOnCell = false → ((chem s).overMv : Int) < least →
    Completes (.chgFaultDetect 2 least most false) s (cellGone s)) ∧
  (∀ (r : Requester) (s : State), mayRead r Ix.CHG_FAULTS (noteRequest r s) = true →
    Completes (.chgFaultsRead r) s (chgFaultsRead (noteRequest r s)) ∧
    Gives (.chgFaultsRead r) s fun t => t.word Ix.CHG_FAULTS = 0) ∧
  (∀ (r : CellReading) (least drop : Nat) (s : State), cellUsed s = true → s.modes.mode ≠ .park → isCharging s.chg.st = false →
    (1000 < least → drop ≤ 100 → Completes (.cellProbe r least drop) s
      (refreshChg (condFault 0x808 0 false (updChg (fun c => { c with present := true }) (readCell r s))))) ∧
    (least ≤ 1000 ∨ 100 < drop → Completes (.cellProbe r least drop) s (cellGone (readCell r s)))) ∧
  (∀ (r : CellReading) (least drop : Nat) (s : State), isCharging s.chg.st = true → Completes (.cellProbe r least drop) s s) ∧
  (∀ (r : CellReading) (s : State), (readCell r s).chg.present = true → (readCell r s).chg.socValid = false →
    (readCell r s).fld Ix.CHG_CFG 0 2 < 2 → dwellOver (readCell r s).chg.calmFrom 0 (secP 1800) (readCell r s) = true →
    Completes (.socSeed r) s (updChg (fun c => { c with
      soc := seedCharge ((readCell r s).fld Ix.CHG_CFG 0 2) (cellCap (readCell r s)) r.mv, socFrac := 0, socValid := true })
      (readCell r s))) ∧
  (∀ (r : CellReading) (s : State), (readCell r s).chg.socValid = true ∨ 2 ≤ (readCell r s).fld Ix.CHG_CFG 0 2 →
    Completes (.socSeed r) s (readCell r s))

/-- The buffer offered at an arbitration opportunity has the least arbitration field of all, and CAN_TX_ATTEMPT begins its attempt. A
lost arbitration, without a single attempt, a held cancel or a newer payload, leaves the frame pending with no attempt. A cancel of
a pending frame frees its buffer with result CANCELLED (1). A success stamps the frame, counts it, frees the buffer and lowers the
error counter by one. A receive error raises its counter by one. BUS_OFF recovers by AUTO after its wait, by the word in MANUAL, and
leaves with both counters at zero. A protocol exception integrates again, and so does a committed timing once no frame has begun; an
integration makes the controller ACTIVE. A bus stuck dominant ends the attempts. The test word is stored. -/
def Obligations.CanTransmission : Prop :=
  (∀ (x : CanC) (b : TxBuf), offered x = some b → b ∈ x.bufs ∧ ∀ y ∈ x.bufs, arbKey b.frame ≤ arbKey y.frame) ∧
  (∀ (c : Can) (at_ : Nat) (b : TxBuf) (s : State), canSends c (s.reach at_) = true → offered (s.can.ctl[c]) = some b →
    Completes (.canTxAttempt c at_) s (updCan c (fun x => { x with bufs := x.bufs.map fun y =>
      if y.buf == b.buf then { y with attempt := some (s.reach at_).now,
                                      frame := { y.frame with esi := b.frame.fdf && (s.can.ctl[c]).st == .passive } } else y })
      (s.reach at_))) ∧
  (∀ (c : Can) (at_ : Nat) (s : State), canSends c (s.reach at_) = false → Completes (.canTxAttempt c at_) s (s.reach at_)) ∧
  (∀ (c : Can) (b : TxBuf) (s : State), inAttempt c s = some b → b.single = false → b.cancel = false → b.next = none →
    Completes (.canArbitrationLost c) s (updCan c (fun x => { x with bufs := x.bufs.map fun y =>
      if y.buf == b.buf then { y with attempt := none, cancel := false, frame := y.next.getD y.frame, next := none } else y }) s)) ∧
  (∀ (c : Can) (buf : Nat) (b : TxBuf) (s : State), let u := updCan c (fun _ => settleArb c s) s
    (u.can.ctl[c]).bufs.find? (fun y => y.buf == buf) = some b → b.attempt = none →
    cancelBuffer c buf s = cancelResult c buf 1 (freeBuffer c buf u)) ∧
  (∀ (r : Requester) (c : Can) (hi : Bool) (v : Word) (s : State),
    let i := if hi then Ix.CAN_TXB_PEND_HI c.val else Ix.CAN_TXB_PEND_LO c.val
    mayWrite r i (noteRequest r s) = true →
    Completes (.canTxbCancel r c hi v) s (cancelMask c (if hi then 32 else 0) (cleanValue i v) (noteRequest r s))) ∧
  (∀ (c : Can) (at_ tdc : Nat) (b : TxBuf) (s : State),
    let u := updCan c (fun _ => settleArb c (s.reach at_)) (s.reach at_)
    inAttempt c s = some b → b.buf < 56 → inAttempt c u = some b → b.frame.fdf = false →
    testMode c (txSuccess c at_ tdc s) = 0 →
    let st := angleStamp c (b.attempt.getD u.now) u
    Completes (.canTxSuccess c at_ tdc) s
      (canErrors c (updCan c (fun x => { x with txErr := x.txErr - 1, lastFrame := u.now }) (freeBuffer c b.buf
        ((((u.putNat (Ix.CAN_TX_STAMP c.val) (usAt (b.attempt.getD u.now) u)).putNat (Ix.CAN_TX_ASTAMP c.val) st.1).useFree).bump
          (Ix.CAN_TX_COUNT c.val) 0 16))))) ∧
  (∀ (c : Can) (at_ kind : Nat) (fdf : Bool) (s : State),
    let u := updCan c (fun _ => settleArb c (s.reach at_)) (s.reach at_)
    ((u.can.ctl[c]).st = .active ∨ (u.can.ctl[c]).st = .passive) → testMode c u ≠ 3 →
    Completes (.canErrorFrame c at_ kind false false fdf 0) s
      (canErrors c (updCan c (fun x => { x with rxErr := Nat.min 255 (x.rxErr + 1) })
        ((updCan c (fun y => { y with lastErr := kind % 8 }) u).bump (Ix.CAN_ERR_COUNT c.val) 0 8)))) ∧
  (∀ (c : Can) (at_ : Nat) (s : State), s.flag (Ix.CAN_CFG c.val) 2 = false → (s.can.ctl[c]).st = .active →
    Completes (.canProtocolException c at_) s (enterCan c .integrating
      (updCan c (fun x => { x with lastErr := 7 }) ((s.reach at_).bump (Ix.CAN_ERR_COUNT c.val) 24 8)))) ∧
  (∀ (c : Can) (s : State), (s.can.ctl[c]).st = .busOff → (s.can.ctl[c]).recovering = false → s.fld (Ix.CAN_BUSOFF c.val) 0 2 = 0 →
    Completes (.canBusoffHoldExpiry c) s (updCan c (fun y => { y with recovering := true })
      (s.reach ((s.can.ctl[c]).busOffAt + busOffWait c s)))) ∧
  (∀ (c : Can) (at_ : Nat) (s : State), (s.can.ctl[c]).st = .busOff → (s.can.ctl[c]).recovering = true →
    Completes (.canRecoveryDone c at_) s (endFault 0x905 c.val (enterCan c .active
      (updCan c (fun x => { x with txErr := 0, rxErr := 0, recovering := false }) (s.reach at_))))) ∧
  (∀ (r : Requester) (c : Can) (s : State), mayWrite r (Ix.CAN_RECOVER c.val) (noteRequest r s) = true →
    (valueOk (Ix.CAN_RECOVER c.val) 1 (noteRequest r s) && crossWritten (Ix.CAN_RECOVER c.val) 1 (noteRequest r s)) = true →
    (s.can.ctl[c]).st = .busOff → s.fld (Ix.CAN_BUSOFF c.val) 0 2 = 1 →
    Completes (.canRecoverWrite r c 1) s (updCan c (fun x => { x with recovering := true }) (noteRequest r s))) ∧
  (∀ (c : Can) (at_ : Nat) (s : State), (s.can.ctl[c]).st ≠ .off →
    Completes (.canBusStuck c at_) s
      (condFault 0x906 c.val true (updCan c (fun x => { x with stuck := true }) (dropAttempts c (s.reach at_))))) ∧
  (∀ (c : Can) (b : TxBuf) (s : State), inAttempt c s = some b → dropAttempts c s = attemptEnds c b s) ∧
  (∀ (c : Can) (at_ : Nat) (s : State), (s.can.ctl[c]).st = .integrating → (s.can.ctl[c]).stuck = false →
    Completes (.canIntegrationComplete c at_) s (canErrors c (enterCan c .active (s.reach at_)))) ∧
  (∀ (c : Can) (at_ : Nat) (s : State), (s.can.ctl[c]).timingWait = true →
    (s.can.ctl[c]).bufs.any (fun b => begunNow c b s) = false → (s.can.ctl[c]).st ≠ .sleep → (s.can.ctl[c]).st ≠ .busOff →
    let t := canIntegrate c (s.reach at_)
    Completes (.canTimingApply c at_) s (if (t.can.ctl[c]).timingWait then t else nmFollowMode c t)) ∧
  (∀ (c : Can) (at_ : Nat) (s : State), (s.can.ctl[c]).bufs.any (fun b => begunNow c b s) = true →
    Completes (.canTimingApply c at_) s s) ∧
  (∀ (c : Can) (at_ : Nat) (s : State), (s.can.ctl[c]).timingWait = false → Completes (.canTimingApply c at_) s s) ∧
  (∀ (r : Requester) (c : Can) (v : Word) (s : State), mayWrite r (Ix.CAN_TEST c.val) (noteRequest r s) = true →
    (valueOk (Ix.CAN_TEST c.val) v (noteRequest r s) && crossWritten (Ix.CAN_TEST c.val) v (noteRequest r s)) = true →
    Completes (.canTestWrite r c v) s
      ((noteRequest r s).put (Ix.CAN_TEST c.val) (maskWord (cleanValue (Ix.CAN_TEST c.val) v) 3)))

/-- A valid frame of an active channel that no service takes goes to the first receive entry it matches: without one it is counted as
unmatched; with the application pair running it is taken by the entry; with the pair stopped it is queued, and reported once 64
wait. A channel neither awake nor asleep receives nothing. A receive entry's time-out reports CAN_RX_STALE and turns its signals
stale, of CAN and of LIN. A release event puts the frame of its buffer, of buffer 56 the NM frame; a buffer with no transmit entry
releases nothing.
CAN_RX_SEL holds the number written, and an entry with no frame yet latches a record of zeros. -/
def Obligations.CanReception : Prop :=
  (∀ (c : Can) (at_ sof : Nat) (f : CanFrame) (s : State), (s.can.ctl[c]).st = .active →
    let u := leaveStandby (rxGood c (s.reach at_))
    (wufAny c f u && decide (c.val < 2)) = false → f.rtr = false → isNmFrame c f u = false → serviceMatch c f u = false →
    Completes (.canFrameReceived c at_ sof f) s (nmForeign c f (firstMatch c f u).isSome (receiveEntries c f sof u))) ∧
  (∀ (c : Can) (at_ sof : Nat) (f : CanFrame) (s : State), (s.can.ctl[c]).st = .busOff →
    Completes (.canFrameReceived c at_ sof f) s (s.reach at_)) ∧
  (∀ (c : Can) (sof : Nat) (f : CanFrame) (s : State), (s.can.ctl[c]).noRx = false → firstMatch c f s = none →
    receiveEntries c f sof s = s.bump (Ix.CAN_RX_COUNT c.val) 16 16) ∧
  (∀ (c : Can) (sof : Nat) (f : CanFrame) (m : CanFrameCfg × Nat) (s : State), (s.can.ctl[c]).noRx = false →
    firstMatch c f s = some m →
    (s.procs.app = .running → receiveEntries c f sof s = acceptEntry c f sof (s.bump (Ix.CAN_RX_COUNT c.val) 0 16)) ∧
    (s.procs.app ≠ .running → (s.can.ctl[c]).rx.length < 64 →
      receiveEntries c f sof s = updCan c (fun y => { y with rx := y.rx ++ [(f, sof)] }) (s.bump (Ix.CAN_RX_COUNT c.val) 0 16)) ∧
    (s.procs.app ≠ .running → 64 ≤ (s.can.ctl[c]).rx.length →
      receiveEntries c f sof s =
        report 0x902 c.val ((s.bump (Ix.CAN_RX_COUNT c.val) 0 16).bump (Ix.CAN_ERR_COUNT c.val) 16 8))) ∧
  (∀ (c : Can) (n : Nat) (f : CanFrameCfg) (e : CanEntry) (s : State), s.can.db.frames[n]? = some f → s.can.entries[n]? = some e →
    f.chan = c.val → f.tx = false → f.time ≠ 0 → e.stale = false → (s.nm.can[c]).st = .awake →
    Completes (.canRxTimeout false n) s (report 0x903 c.val
      (staleEntry n true (updEntry n (fun x => { x with stale := true }) (s.reach (e.lastAt + msP f.time)))))) ∧
  (∀ (n t : Nat) (f : LinFrameCfg) (s : State), s.lin.sched.frames[n]? = some f → f.dir = 0 → f.timeout ≠ 0 →
    s.lin.rx.find? (·.1 == n) = some (n, t, false) →
    Completes (.canRxTimeout true n) s
      (forEach (signalsOf s.lin.sched.signals n) (fun p u => staleSource 7 p.2 true u)
        { s.reach (t + msP f.timeout) with lin := { s.lin with rx := (n, t, true) :: s.lin.rx.filter (·.1 != n) } })) ∧
  (∀ (slot : Nat) (e : Event) (c : Can) (b : Nat) (s u : State), takeEvent slot s = some (e, u) → e.spec.act = .canRelease c b →
    b ≠ 56 → Completes (.eventCanRelease slot) s (releaseFrame c b e.slot u) ∧
      (txEntry c b u = none → releaseFrame c b e.slot u = u)) ∧
  (∀ (slot : Nat) (e : Event) (c : Can) (s u : State), takeEvent slot s = some (e, u) → e.spec.act = .canRelease c 56 →
    Completes (.eventCanRelease slot) s (releaseNm c u)) ∧
  (∀ (r : Requester) (v : Word) (s : State), mayWrite r Ix.CAN_RX_SEL (noteRequest r s) = true →
    (valueOk Ix.CAN_RX_SEL v (noteRequest r s) && crossWritten Ix.CAN_RX_SEL v (noteRequest r s)) = true →
    let n := (cleanValue Ix.CAN_RX_SEL v).toNat % 512
    Gives (.canRxSelWrite r v) s fun t => t.word Ix.CAN_RX_SEL = toWord n ∧
      (s.can.entries[n]? = none → ∀ k < 4, t.word (Ix.CAN_RX_REC k) = 0) ∧
      t = { s with words := t.words, modes := (noteRequest r s).modes, dwell := t.dwell })

/-- LIN_SLOT_START of a channel that is not an awake commander changes nothing; with the application pair stopped the schedule stops;
a table that goes on starts its next slot. A response that ends a header of a subscribed frame with a wrong checksum is reported
LIN_CHECKSUM, one without its header ignored. A missing response of a commander is reported LIN_NO_RESP and ends the header. A
header with a bad synchronisation or parity is reported LIN_SYNC; one no entry serves is remembered with none. Go-to-sleep of a
commander without need at the end of READY sends 3C and sleeps. A responder idle for 4 s sleeps. A dominant level longer than 150 µs
wakes a sleeping channel; a responder's wake pulse without a header repeats. -/
def Obligations.LinRows : Prop :=
  (∀ (l : Lin) (at_ : Nat) (s : State), linRole l s ≠ 1 → Completes (.linSlotStart l at_) s s) ∧
  (∀ (l : Lin) (at_ : Nat) (s : State), linRole l s = 1 → (s.nm.lin[l]).st = 1 → (s.lin.ch[l]).status = 1 → s.procs.app ≠ .running →
    Completes (.linSlotStart l at_) s (updLin l (fun y => { y with status := 2 }) (s.reach (s.lin.ch[l]).nextAt))) ∧
  (∀ (l : Lin) (at_ : Nat) (s : State), linRole l s = 1 → (s.nm.lin[l]).st = 1 → (s.lin.ch[l]).status = 1 → s.procs.app = .running →
    s.band ≠ .crank → let u := s.reach (s.lin.ch[l]).nextAt
    wantTable l u = (s.lin.ch[l]).chosen → (s.lin.ch[l]).nextSlot < tableLen (s.lin.ch[l]).table s →
    Completes (.linSlotStart l at_) s (linRun l u)) ∧
  (∀ (l : Lin) (at_ : Nat) (d : List Byte) (check : Byte) (framing bitError : Bool) (s : State), (s.lin.ch[l]).header = none →
    Completes (.linResponseReceived l at_ d check framing bitError) s (linActive l (s.reach at_))) ∧
  (∀ (l : Lin) (at_ n : Nat) (d : List Byte) (check : Byte) (bitError : Bool) (h : LinHdr) (f : LinFrameCfg) (s : State),
    (s.lin.ch[l]).header = some h → h.entry = some n → s.lin.sched.frames[n]? = some f → f.dir = 0 → f.typ = 0 → h.id ≠ 0x3C →
    check.toNat ≠ linCheck (linClassic f) h.id d →
    Completes (.linResponseReceived l at_ d check false bitError) s
      (report 0x911 l.val ((updLin l (fun x => { x with header := none }) (linActive l (s.reach at_))).bump
        (Ix.LIN_ERR_COUNT l.val) 8 8))) ∧
  (∀ (l : Lin) (at_ n : Nat) (d : List Byte) (check : Byte) (bitError : Bool) (h : LinHdr) (f : LinFrameCfg) (s : State),
    (s.lin.ch[l]).header = some h → h.entry = some n → s.lin.sched.frames[n]? = some f → f.dir = 0 → f.typ = 0 → h.id ≠ 0x3C →
    check.toNat = linCheck (linClassic f) h.id d →
    Completes (.linResponseReceived l at_ d check false bitError) s
      (linAccept l n d (updLin l (fun x => { x with header := none }) (linActive l (s.reach at_))))) ∧
  (∀ (l : Lin) (n : Nat) (h : LinHdr) (f : LinFrameCfg) (s : State), (s.lin.ch[l]).header = some h → h.entry = some n →
    s.lin.sched.frames[n]? = some f → f.dir = 0 → linRole l s = 1 →
    Completes (.linNoResponse l) s (report 0x910 l.val ((updLin l (fun x => { x with header := none })
      (s.reach ((s.nm.lin[l]).lastBus + ceilDiv (14 * (34 + 10 * (f.len + 1)) * 4000000)
        (Nat.max 1 (s.fld (Ix.LIN_CFG l.val) 16 15))))).bump (Ix.LIN_ERR_COUNT l.val) 0 8))) ∧
  (∀ (l : Lin) (at_ : Nat) (pid : Byte) (syncOk : Bool) (s : State), linRole l s = 2 → (s.nm.lin[l]).st = 1 →
    let u := updNmLin l (fun x => { x with pulses := 0 }) (linActive l (s.reach at_))
    ((syncOk = false ∨ linPid (pid.toNat % 64) ≠ pid.toNat) →
      Completes (.linHeaderReceived l at_ pid syncOk) s (report 0x914 l.val (u.bump (Ix.LIN_ERR_COUNT l.val) 16 8))) ∧
    (syncOk = true → linPid (pid.toNat % 64) = pid.toNat →
      (s.lin.sched.frames.findIdx? fun f => f.chan == l.val && f.id == pid.toNat % 64) = none →
      Completes (.linHeaderReceived l at_ pid syncOk) s
        (updLin l (fun x => { x with header := some { id := pid.toNat % 64, entry := none }, sent := [] }) u))) ∧
  (∀ (l : Lin) (s : State),
    let t := Nat.max (s.nm.lin[l]).readyAt (s.nm.lin[l]).needUntil + msP (100 * s.fld (Ix.NM_LIN_TIME l.val) 0 8)
    let u := s.reach (if (s.lin.ch[l]).status = 1 then Nat.max t (s.lin.ch[l]).nextAt else t)
    (linRole l s = 1 → (s.nm.lin[l]).st = 1 → linNeed l u = false → (s.lin.ch[l]).status ≠ 3 → s.band ≠ .crank →
      Completes (.linGoToSleep l) s (linSleep l (updLin l (fun y => { y with sent := linFrame true 0x3C goToSleepData }) u))) ∧
    (linNeed l u = true → Completes (.linGoToSleep l) s s)) ∧
  (∀ (l : Lin) (s : State), linRole l s = 2 → (s.nm.lin[l]).st = 1 →
    Completes (.linResponderIdle l) s (linSleep l (s.reach ((s.nm.lin[l]).lastBus + secP 4)))) ∧
  (∀ (l : Lin) (at_ dur : Nat) (s : State), dur ≤ usP 150 → Completes (.linWakeDominant l at_ dur) s (s.reach at_)) ∧
  (∀ (l : Lin) (at_ dur : Nat) (s : State), (s.nm.lin[l]).st = 4 → usP 150 < dur → s.modes.mode ≠ .park →
    let u := s.reach at_
    Completes (.linWakeDominant l at_ dur) s (linWake l u.now (updNmLin l (fun x => { x with
      busWoken := true, needUntil := u.now + msP (100 * u.fld (Ix.NM_LIN_TIME l.val) 0 8) })
      (u.putNat Ix.NM_WAKE_CAUSE (l.val + 4 + 5 * 2 ^ 4))))) ∧
  (∀ (l : Lin) (s : State), linRole l s = 2 → (s.nm.lin[l]).st = 1 → 0 < (s.nm.lin[l]).pulses →
    let u := s.reach ((s.nm.lin[l]).pulseAt + (if (s.nm.lin[l]).pulses < 3 then msP 200 else msP 1500) + msP 1)
    Completes (.linWakePulseTimeout l) s (updNmLin l (fun y => { y with
      pulses := if (s.nm.lin[l]).pulses < 3 then (s.nm.lin[l]).pulses + 1 else 1, pulseAt := u.now }) u))

/-- Own need's end moves an awake channel to READY, its return moves a READY channel to AWAKE. A master's READY expiry begins S1;
a SLEEP_CMD releases an NM frame and sets the next 100 ms later; the end of SILENCE puts the channel to BUS_SLEEP; an offender's
time-out begins S1 again, counted, and reports NM_OFFENDER once a sequence. A channel with no role and no need sleeps after
NM_IDLE; a follower that lost its master reports it once and, without need, enters PREPARE. A received NM frame that holds keeps
the channel awake. A cyclic NM event releases the NM frame. READY, S1, SILENCE and the offender's time-out leave a channel in another
state as it was. -/
def Obligations.NmSleepRows : Prop :=
  (∀ (ch : Fin 5) (at_ : Nat) (c : Can) (s : State), ch.val = c.val → realNeed c (s.reach at_) = false →
    ownNeed c (s.reach at_) = false → (s.nm.can[c]).st = .awake →
    Completes (.nmOwnNeedChange ch at_) s (nmEnterReady c (s.reach at_))) ∧
  (∀ (ch : Fin 5) (at_ : Nat) (c : Can) (s : State), ch.val = c.val → realNeed c (s.reach at_) = false →
    ownNeed c (s.reach at_) = true → (s.nm.can[c]).st = .ready →
    Completes (.nmOwnNeedChange ch at_) s (nmAwake c (s.reach at_))) ∧
  (∀ (c : Can) (s : State), (s.nm.can[c]).st = .ready → nmRole c s = 1 → ownNeed c s = false →
    Completes (.nmReadyExpiry c) s (nmPrepare c false (s.reach ((s.nm.can[c]).readyAt + nmReady c s)))) ∧
  (∀ (c : Can) (s : State), (s.nm.can[c]).st ≠ .ready → Completes (.nmReadyExpiry c) s s) ∧
  (∀ (c : Can) (s : State), (s.nm.can[c]).st = .prepare → nmRole c s = 1 → (s.nm.can[c]).silence = false →
    Completes (.nmSleepCmdSend c) s (releaseNm c (updNm c (fun y => { y with cmdAt := (s.reach (s.nm.can[c]).cmdAt).now + msP 100 })
      (s.reach (s.nm.can[c]).cmdAt)))) ∧
  (∀ (c : Can) (s : State), (s.nm.can[c]).st ≠ .prepare → Completes (.nmSleepCmdSend c) s s ∧ Completes (.nmSilenceExpiry c) s s ∧
    Completes (.nmOffenderTimeout c) s s) ∧
  (∀ (c : Can) (s : State), (s.nm.can[c]).st = .prepare → (s.nm.can[c]).silence = true →
    Completes (.nmSilenceExpiry c) s
      (nmSleep c false (s.reach (Nat.max (s.nm.can[c]).s1End (s.can.ctl[c]).lastFrame + nmSilence c s)))) ∧
  (∀ (c : Can) (s : State), (s.nm.can[c]).st = .prepare → (s.nm.can[c]).silence = true → nmRole c s = 1 →
    let u := s.reach ((s.nm.can[c]).s1End + nmOffender c s)
    (s.flag (Ix.NM_CFG c.val) 8 = true → (s.nm.can[c]).heldSince = false → (s.nm.can[c]).matchedSince = false →
      Completes (.nmOffenderTimeout c) s (nmSleep c true u)) ∧
    (s.flag (Ix.NM_CFG c.val) 8 = false → (s.nm.can[c]).offenderSaid = true →
      Completes (.nmOffenderTimeout c) s (updNm c (fun y => { y with
        sent := 0, silence := false, repeats := y.repeats + 1, cmdAt := u.now, offenderSaid := true })
        (u.bump (Ix.NM_COUNTS c.val) 16 8)))) ∧
  (∀ (c : Can) (s : State), nmRole c s = 0 → (s.nm.can[c]).st = .awake → ownNeed c s = false →
    Completes (.nmIdleTimeout c) s (nmSleep c false (s.reach ((s.can.ctl[c]).lastFrame + nmIdle c s)))) ∧
  (∀ (c : Can) (s : State), nmRole c s = 2 → (s.nm.can[c]).st = .awake ∨ (s.nm.can[c]).st = .ready →
    let u := updNm c (fun y => { y with lostSaid := true }) (s.reach ((s.nm.can[c]).masterAt + nmIdle c s))
    ((s.nm.can[c]).lostSaid = true → ownNeed c u = false → Completes (.nmIdleTimeout c) s (nmPrepare c true u)) ∧
    ((s.nm.can[c]).lostSaid = true → ownNeed c u = true → Completes (.nmIdleTimeout c) s u) ∧
    ((s.nm.can[c]).lostSaid = false → ownNeed c (report 0xA01 c.val u) = false →
      Completes (.nmIdleTimeout c) s (nmPrepare c true (report 0xA01 c.val u)))) ∧
  (∀ (c : Can) (s : State), nmRole c s = 1 → Completes (.nmIdleTimeout c) s s) ∧
  (∀ (c : Can) (at_ : Nat) (f : CanFrame) (s : State), (s.can.ctl[c]).st = .active → isNmFrame c f (s.reach at_) = true →
    let u := (rxGood c (s.reach at_)).bump (Ix.CAN_RX_COUNT c.val) 0 16
    Completes (.nmFrameReceived c at_ f) s (nmReceive c f u) ∧
    (nmHolds c f u = true → nbits (f.data.getD 1 0).toNat 4 1 = 0 → (u.nm.can[c]).st = .awake →
      nmReceive c f u = updNm c (fun x => { x with
        held := true, pn := x.pn ||| leAt f.data 4 2, doubtful := false, readyAt := u.now, heldSince := true }) u)) ∧
  (∀ (c : Can) (at_ : Nat) (f : CanFrame) (s : State), isNmFrame c f (s.reach at_) = false →
    Completes (.nmFrameReceived c at_ f) s (s.reach at_)) ∧
  (∀ (c : Can) (e : Event) (s u : State), (nmEvents c s).find? (fun x => x.spec.rep == 0) = some e →
    takeEvent e.slot s = some (e, u) → Completes (.nmCycleSend c) s (releaseNm c u)) ∧
  (∀ (c : Can) (s : State), (nmEvents c s).find? (fun x => x.spec.rep == 0) = none → Completes (.nmCycleSend c) s s)

/-- Outside PARK a wake-up pattern wakes a sleeping channel without selective wake with kind 2; a frame matching a filter of a sleeping
selective channel wakes it with kind 3; more than 31 decoder errors wake it with kind 4, counted and reported. A wake records its kind,
its frame and its instant, with need for READY from then on, and enters AWAKE. A held escalation ends in RETAIN with the source armed. A permitted write of NM_FW_CLEAR forgets the false wakes of each channel whose bit is 1 and of no other; NM_OFF_CLEAR
empties the offender log; NM_OFF_SEL latches the entry of that rank, and ranks fall in count. -/
def Obligations.BusWakes : Prop :=
  (∀ (c : Can) (at_ : Nat) (s : State), s.modes.mode ≠ .park → selWake c s = false →
    Completes (.busWakePattern c at_) s (nmWake c 2 none (s.reach at_))) ∧
  (∀ (c : Can) (at_ : Nat) (s : State), s.modes.mode ≠ .park → selWake c s = true →
    Completes (.busWakePattern c at_) s (s.reach at_)) ∧
  (∀ (c : Can) (kind : Nat) (frame : Option (Nat × Bool)) (s : State), (s.nm.can[c]).st ≠ .busSleep → (s.nm.can[c]).st ≠ .silent →
    nmWake c kind frame s = s) ∧
  (∀ (c : Can) (kind : Nat) (frame : Option (Nat × Bool)) (s : State), (s.nm.can[c]).st = .busSleep ∨ (s.nm.can[c]).st = .silent →
    kind ≠ 1 →
    nmWake c kind frame s = nmAwake c (((updNm c (fun x => { x with
      wakeKind := kind, wakeFrame := frame, wakeAt := s.now, doubtful := true, busWoken := true, wakeUntil := s.now + nmReady c s }) s).putNat
        Ix.NM_WAKE_CAUSE (c.val + kind * 2 ^ 4)).putNat Ix.NM_WAKE_ID
        (match frame with | some f => f.1 % 2 ^ 29 + b2n f.2 * 2 ^ 29 | none => 0))) ∧
  (∀ (c : Can) (at_ : Nat) (f : CanFrame) (s : State), s.modes.mode ≠ .park → selWake c s = true →
    wufAny c f (s.reach at_) = true → (s.can.ctl[c]).st = .sleep →
    Completes (.wufMatch c at_ f) s
      (nmWake c 3 (some (f.id, f.ide)) (parkSourceFires (4 + c.val) (leaveStandby (s.reach at_))))) ∧
  (∀ (c : Can) (at_ : Nat) (f : CanFrame) (s : State), wufAny c f (s.reach at_) = false →
    Completes (.wufMatch c at_ f) s (s.reach at_)) ∧
  (∀ (c : Can) (s : State), selWake c s = true → (s.can.ctl[c]).st = .sleep → 31 < (s.nm.can[c]).decErr →
    (report 0xA02 c.val (s.bump (Ix.NM_COUNTS c.val) 24 8)).modes.mode ≠ .park →
    Completes (.wufDecoderFallback c) s (nmWake c 4 none (report 0xA02 c.val (s.bump (Ix.NM_COUNTS c.val) 24 8)))) ∧
  (∀ (c : Can) (s : State), (s.nm.can[c]).decErr ≤ 31 → Completes (.wufDecoderFallback c) s s) ∧
  (∀ (c : Can) (t : Nat) (s : State), (s.nm.can[c]).holdEnd = some t → s.pw.pw = .retain →
    let u := updNm c (fun x => { x with holdEnd := none, unarmed := false }) (s.reach t)
    Completes (.nmEscalationHoldExpiry c) s
      { u with pw := { u.pw with armed := u.pw.armed ++ (nmSources c u).filter fun k => (k == 7) == false } }) ∧
  (∀ (c : Can) (s : State), (s.nm.can[c]).holdEnd = none → Completes (.nmEscalationHoldExpiry c) s s) ∧
  (∀ (r : Requester) (v : Word) (s : State), mayWrite r Ix.NM_FW_CLEAR (noteRequest r s) = true →
    (valueOk Ix.NM_FW_CLEAR v (noteRequest r s) && crossWritten Ix.NM_FW_CLEAR v (noteRequest r s)) = true →
    Gives (.nmFwClearWrite r v) s fun t =>
      (∀ c : Can, bit (cleanValue Ix.NM_FW_CLEAR v) c.val = true →
        (t.nm.can[c]).falseAt = [] ∧ (t.nm.can[c]).level = 0 ∧ (t.nm.can[c]).holdEnd = none) ∧
      (∀ c : Can, bit (cleanValue Ix.NM_FW_CLEAR v) c.val = false → t.nm.can[c] = s.nm.can[c]) ∧
      t = { s with nm := { s.nm with can := t.nm.can }, modes := (noteRequest r s).modes, dwell := t.dwell }) ∧
  (∀ (r : Requester) (s : State), mayWrite r Ix.NM_OFF_CLEAR (noteRequest r s) = true →
    (valueOk Ix.NM_OFF_CLEAR 1 (noteRequest r s) && crossWritten Ix.NM_OFF_CLEAR 1 (noteRequest r s)) = true →
    Completes (.nmOffClearWrite r 1) s { noteRequest r s with nm := { s.nm with offenders := [] } }) ∧
  (∀ (r : Requester) (v : Word) (s : State), mayWrite r Ix.NM_OFF_SEL (noteRequest r s) = true →
    (valueOk Ix.NM_OFF_SEL v (noteRequest r s) && crossWritten Ix.NM_OFF_SEL v (noteRequest r s)) = true →
    let k := (cleanValue Ix.NM_OFF_SEL v).toNat % 256
    Gives (.nmOffSelWrite r v) s fun t => t.word Ix.NM_OFF_SEL = toWord k ∧
      (∀ o, (rankedOff s)[k]? = some o → ∀ j < 4, t.word (Ix.NM_OFF_ENTRY j) = toWord ((offWords o).getD j 0)) ∧
      ((rankedOff s)[k]? = none → ∀ j < 4, t.word (Ix.NM_OFF_ENTRY j) = 0) ∧
      t = { s with words := t.words, modes := (noteRequest r s).modes, dwell := t.dwell }) ∧
  (∀ s : State, (rankedOff s).Pairwise fun a b => b.count ≤ a.count)

/-- A turn at a disabled port is ignored; at an UP port with no unacknowledged frame and no frame of its own it acknowledges, records
the turn and answers in the port's own turn. A DOWN port's idle turn comes 10 ms after its last. A link time-out and a LEAVE move
the port DOWN. HELLO is taken by a port in training or up only, and a HELLO of the own serial makes the port a loop, reported. The
HELLO and DELAY_REQ timers queue a frame at an UP port. DELAY_REQ records its arrival and answers; DELAY_RESP stores half the round
trip less the neighbour's turnaround. At a port that is not UP these do nothing. -/
def Obligations.FabricLinkRows : Prop :=
  (∀ (p : Port) (at_ : Nat) (ack : Bool) (frame : Option (List Byte)) (train : Nat) (s : State), (s.fab.ports[p]).st = .disabled →
    Completes (.fabTurnReceived p at_ ack frame train) s (s.reach at_)) ∧
  (∀ (p : Port) (at_ : Nat) (ack : Bool) (b : List Byte) (f : FabFrame) (train : Nat) (s : State), (s.fab.ports[p]).st = .up →
    (s.fab.ports[p]).flight = none → (s.fab.ports[p]).lastRx = none → frameOf b = some f →
    Completes (.fabTurnReceived p at_ ack (some b) train) s
      (ownTurn p at_ (frameRx p at_ f train (updPort p (fun y => { y with
        lastTurn := (s.reach at_).now, ackNext := true, lastRx := some f }) (s.reach at_))))) ∧
  (∀ (p : Port) (at_ : Nat) (ack : Bool) (b : List Byte) (train : Nat) (s : State), (s.fab.ports[p]).st = .up →
    (s.fab.ports[p]).flight = none → frameOf b = none →
    Completes (.fabTurnReceived p at_ ack (some b) train) s
      (ownTurn p at_ (updPort p (fun y => { y with ackNext := false })
        ((updPort p (fun y => { y with lastTurn := (s.reach at_).now }) (s.reach at_)).bump (Ix.FAB_PORT_COUNTS p.val) 0 8)))) ∧
  (∀ (p : Port) (s : State), (s.fab.ports[p]).st = .down →
    Completes (.fabIdleTurnTimer p) s (updPort p (fun x => { x with ownTurn := (s.reach ((s.fab.ports[p]).ownTurn + msP 10)).now })
      (s.reach ((s.fab.ports[p]).ownTurn + msP 10)))) ∧
  (∀ (p : Port) (s : State), (s.fab.ports[p]).st = .up →
    Completes (.fabLinkTimeout p) s (portDown p (s.reach ((s.fab.ports[p]).lastTurn + msP 1)))) ∧
  (∀ (p : Port) (s : State), (s.fab.ports[p]).st = .down → Completes (.fabLinkTimeout p) s s) ∧
  (∀ (p : Port) (at_ : Nat) (f : FabFrame) (train : Nat) (s : State), (s.fab.ports[p]).st = .down →
    Completes (.hello p at_ f train) s (s.reach at_)) ∧
  (∀ (p : Port) (at_ : Nat) (f : FabFrame) (train : Nat) (s : State), (s.fab.ports[p]).st = .up → leAt f.payload 0 8 = ownSerial →
    Gives (.hello p at_ f train) s fun t => (t.fab.ports[p]).st = .loop ∧ (t.fab.ports[p]).queue = [] ∧
      (t.fab.ports[p]).flight = none ∧ ∀ q : Port, q ≠ p → t.fab.ports[q] = s.fab.ports[q]) ∧
  (∀ (p : Port) (s : State), (s.fab.ports[p]).st = .up →
    Completes (.helloSendTimer p) s
      (sendHello p (s.reach ((s.fab.ports[p]).helloAt + msP (10 * s.fld Ix.FAB_TIME 0 8))))) ∧
  (∀ (p : Port) (at_ : Nat) (s : State), (s.fab.ports[p]).st = .up → Completes (.leave p at_) s (portDown p (s.reach at_))) ∧
  (∀ (p : Port) (at_ : Nat) (s : State), (s.fab.ports[p]).st ≠ .up → Completes (.leave p at_) s s ∧
    Completes (.helloSendTimer p) s s ∧ Completes (.delayReqSend p) s s ∧ Completes (.delayReq p at_) s (s.reach at_)) ∧
  (∀ (p : Port) (s : State), (s.fab.ports[p]).st = .up →
    Completes (.delayReqSend p) s (sendLink p 0x1A false []
      (updPort p (fun x => { x with reqAt := (s.reach ((s.fab.ports[p]).reqAt + secP 1)).now })
        (s.reach ((s.fab.ports[p]).reqAt + secP 1))))) ∧
  (∀ (p : Port) (at_ : Nat) (s : State), (s.fab.ports[p]).st = .up →
    Completes (.delayReq p at_) s (sendLink p 0x1B false [] (updPort p (fun x => { x with t2 := some at_ }) (s.reach at_)))) ∧
  (∀ (p : Port) (at_ t1 : Nat) (f : FabFrame) (s : State), (s.fab.ports[p]).t1 = some t1 →
    let d := ((at_ - t1) - (leAt f.payload 4 4 + 2 ^ 32 - leAt f.payload 0 4) % 2 ^ 32) / 2
    Completes (.delayResp p at_ f) s (updPort p (fun x => { x with t1 := none, delay := some d }) (s.reach at_))) ∧
  (∀ (p : Port) (at_ : Nat) (f : FabFrame) (s : State), (s.fab.ports[p]).t1 = none →
    Completes (.delayResp p at_ f) s (s.reach at_))

/-- An epoch starts at the root that has none; elsewhere nothing starts. A root marks a running epoch DIRTY on a link change or on
FAB_RC_CMD. A CALL of a later epoch at a node that is no root is joined; one of the epoch in force that comes from another port than
the parent is answered with DECLINE; a root between its epochs remembers the later epoch. DECLINE and RC_WAIT finish the child port,
and DECLINE takes it out. DECLINE, REPORT, ASSIGN and CLOSE without an epoch are ignored; a REPORT at a forwarding node goes to the
parent with the next segment number. An ASSIGN for this node gives its address, which CLOSE lists it under; a CLOSE without an address
unlists the node. HOLD's expiry drops the held key that is due. FAB_ADDR_SEL latches the record of its address at the root, and zeros
elsewhere. -/
def Obligations.RollCallRows : Prop :=
  (∀ s : State, s.fab.held = [] → Completes .rootHoldExpiry s s) ∧
  (∀ (a b t : Nat) (s : State), s.fab.held = [(a, b, t)] →
    Completes .rootHoldExpiry s (formView (updFab (fun f => { f with held := [] }) (s.reach t)))) ∧
  (∀ s : State, s.fab.node = .root → s.fab.inEpoch = false → Completes .epochStart s (runEpoch s)) ∧
  (∀ s : State, s.fab.node ≠ .root → Completes .epochStart s s) ∧
  (∀ (p : Port) (at_ : Nat) (f : FabFrame) (s : State), (s.fab.ports[p]).st = .up → s.fab.epoch = leAt f.payload 0 4 →
    s.fab.parent ≠ some p.val →
    Completes (.call p at_ f) s (sendLink p 0x03 false (leBytes (leAt f.payload 0 4) 4) (s.reach at_))) ∧
  (∀ (p : Port) (at_ : Nat) (f : FabFrame) (s : State), (s.fab.ports[p]).st = .up → s.fab.node ≠ .root →
    s.fab.epoch < leAt f.payload 0 4 →
    Gives (.call p at_ f) s fun t => t.fab.epoch = leAt f.payload 0 4 ∧ t.fab.inEpoch = true ∧ t.fab.parent = some p.val ∧
      t.fab.depth = f.hops + 1 ∧ t.fab.callRoot = leAt f.payload 4 8 ∧ (t.fab.ports[p]).child = false) ∧
  (∀ (p : Port) (at_ : Nat) (f : FabFrame) (s : State), (s.fab.ports[p]).st = .up → s.fab.node = .root → s.fab.inEpoch = false →
    s.fab.epoch < leAt f.payload 0 4 →
    Completes (.call p at_ f) s (updFab (fun x => { x with epoch := leAt f.payload 0 4 }) (s.reach at_))) ∧
  (∀ (p : Port) (at_ : Nat) (f : FabFrame) (s : State), (s.fab.ports[p]).st ≠ .up → Completes (.call p at_ f) s (s.reach at_)) ∧
  (∀ (p : Port) (at_ : Nat) (f : FabFrame) (s : State), s.fab.inEpoch = false →
    Completes (.decline p at_ f) s (s.reach at_) ∧ Completes (.report p at_ f) s (s.reach at_) ∧
    Completes (.assign p at_ f) s (s.reach at_) ∧ Completes (.close p at_ f) s (s.reach at_) ∧ Completes (.rcWaitTimeout p) s s) ∧
  (∀ (p : Port) (at_ : Nat) (f : FabFrame) (s : State), s.fab.inEpoch = true → leAt f.payload 0 4 = s.fab.epoch →
    (s.fab.ports[p]).child = true → (finishChild p (s.reach at_)).fab.epoch = s.fab.epoch →
    Completes (.decline p at_ f) s (updPort p (fun x => { x with child := false }) (finishChild p (s.reach at_)))) ∧
  (∀ (p : Port) (at_ : Nat) (f : FabFrame) (s : State), s.fab.inEpoch = true → leAt f.payload 0 4 = s.fab.epoch →
    (s.fab.ports[p]).child = true → s.fab.node ≠ .root → leAt f.payload 7 1 % 2 = 0 →
    Completes (.report p at_ f) s (updFab (fun x => { x with segs := x.segs + 1 })
      (sendParent 0x04 (reportHead s.fab.epoch s.fab.segs (reportEntries p f.payload).length false ++ f.payload.drop 8)
        (updPort p (fun x => { x with rcAt := (s.reach at_).now }) (updFab (fun x => { x with
          below := ((reportEntries p f.payload).map fun e => (ser48 e.serial, p.val)) ++ x.below }) (s.reach at_)))))) ∧
  (∀ (p : Port) (s : State), s.fab.inEpoch = true → (s.fab.ports[p]).child = true → (s.fab.ports[p]).finished = false →
    Completes (.rcWaitTimeout p) s (finishChild p (s.reach ((s.fab.ports[p]).rcAt + msP (s.fld Ix.FAB_TIME 8 8))))) ∧
  (∀ (p : Port) (at_ : Nat) (f : FabFrame) (e : Nat × Nat × Nat × List Byte) (s : State), s.fab.inEpoch = true →
    s.fab.parent = some p.val → leAt f.payload 0 4 = s.fab.epoch → assignEntries f.payload = [e] → e.1 = ser48 ownSerial →
    Completes (.assign p at_ f) s (updFab (fun x => { x with mine := some (e.2.1, e.2.2.1) }) (s.reach at_))) ∧
  (∀ (p : Port) (at_ a d : Nat) (f : FabFrame) (s : State), s.fab.inEpoch = true → s.fab.parent = some p.val →
    leAt f.payload 0 4 = s.fab.epoch → s.fab.mine = some (a, d) →
    ∃ u : State, u.fab.epoch = s.fab.epoch ∧ u.fab.inEpoch = false ∧ u.txn = s.txn ∧ u.modes = s.modes ∧
      Completes (.close p at_ f) s (resolveMembers (rebuildRoutes (updFab (fun x => { x with
        node := .listed, addr := a, depth := d, retained := some (a, s.fab.epoch, s.fab.callRoot), mine := none }) u)))) ∧
  (∀ (p : Port) (at_ : Nat) (f : FabFrame) (s : State), s.fab.inEpoch = true → s.fab.parent = some p.val →
    leAt f.payload 0 4 = s.fab.epoch → s.fab.mine = none →
    Gives (.close p at_ f) s fun t => t.fab.inEpoch = false ∧ t.fab.node = .unlisted ∧ t.fab.addr = 0 ∧ t.fab.hasTable = false) ∧
  (∀ (at_ : Nat) (f : FabFrame) (s : State), s.fab.node = .root → s.fab.inEpoch = true →
    Completes (.linkChange at_ f) s (updFab (fun x => { x with dirty := true }) (s.reach at_))) ∧
  (∀ (at_ : Nat) (f : FabFrame) (q : Port) (s : State), s.fab.node = .listed → s.fab.parent = some q.val →
    Completes (.linkChange at_ f) s (enqueue q { f with hops := f.hops + 1 } (s.reach at_))) ∧
  (∀ (r : Requester) (s : State), mayWrite r Ix.FAB_RC_CMD (noteRequest r s) = true →
    (valueOk Ix.FAB_RC_CMD 1 (noteRequest r s) && crossWritten Ix.FAB_RC_CMD 1 (noteRequest r s)) = true →
    (s.fab.node = .root → s.fab.inEpoch = true →
      Completes (.fabRcCmdWrite r 1) s (updFab (fun x => { x with dirty := true }) (noteRequest r s))) ∧
    (s.fab.node = .root → s.fab.inEpoch = false → Completes (.fabRcCmdWrite r 1) s (runEpoch (noteRequest r s))) ∧
    (s.fab.node ≠ .root → Completes (.fabRcCmdWrite r 1) s (noteRequest r s))) ∧
  (∀ (r : Requester) (v : Word) (s : State), mayWrite r Ix.FAB_ADDR_SEL (noteRequest r s) = true →
    (valueOk Ix.FAB_ADDR_SEL v (noteRequest r s) && crossWritten Ix.FAB_ADDR_SEL v (noteRequest r s)) = true →
    Gives (.fabAddrSelWrite r v) s fun t =>
      t.word Ix.FAB_ADDR_SEL = toWord ((cleanValue Ix.FAB_ADDR_SEL v).toNat % 4096) ∧
      (s.fab.node ≠ .root → t.word Ix.FAB_ADDR_REC_LO = 0 ∧ t.word Ix.FAB_ADDR_REC_HI = 0) ∧
      (∀ x, s.fab.node = .root → recAt s.fab.records ((cleanValue Ix.FAB_ADDR_SEL v).toNat % 4096) = some x →
        t.word Ix.FAB_ADDR_REC_LO = toWord ((x.serial + x.age * 2 ^ 48 + (if x.listed then 1 else 2) * 2 ^ 52) % 2 ^ 32) ∧
        t.word Ix.FAB_ADDR_REC_HI = toWord ((x.serial + x.age * 2 ^ 48 + (if x.listed then 1 else 2) * 2 ^ 52) / 2 ^ 32)) ∧
      t = { s with words := t.words, modes := (noteRequest r s).modes, dwell := t.dwell })

/-- A routed frame for this node is delivered; one of a type without a meaning or with no route is dropped and counted; one that leaves
goes with one hop more. A broadcast of a type that may not be broadcast is dropped and counted. ECHO is answered with its bytes. READ
and WRITE answer the values and the status of each record in turn. A reply without a request changes nothing; a time-out ends its
request and counts. RESOLVE is answered at the root alone, with the address and the tag of a listed serial. A publication that is due
goes to every resolved member of its mask. SIGNALS of a member publishes the value of a subscription; SIGNALS and DOMAIN_STATE from
an unknown node change nothing; the root's DOMAIN_STATE sets RIDE, and its silence clears it. A time-out turns a subscription stale.
FAB_ROUTE_SEL latches the route code. -/
def Obligations.RoutedRows : Prop :=
  (∀ (p : Port) (at_ : Nat) (f : FabFrame) (s : State), routedType f.typ = true → f.typ ≠ 0x19 → routeCode f.dst s = 1 →
    Completes (.routedFrame p at_ f) s (deliver at_ f (s.reach at_))) ∧
  (∀ (p : Port) (at_ : Nat) (f : FabFrame) (s : State), routedType f.typ = true → f.typ ≠ 0x19 → routeCode f.dst s = 0 →
    Completes (.routedFrame p at_ f) s ((s.reach at_).bump Ix.FAB_ROUTE_STATS 16 8)) ∧
  (∀ (p q : Port) (at_ : Nat) (f : FabFrame) (s : State), routedType f.typ = true → f.typ ≠ 0x19 → routeCode f.dst s = 2 + q.val → (s.fab.ports[q]).st = .up →
    f.hops < 62 →
    Completes (.routedFrame p at_ f) s (enqueue q { f with hops := f.hops + 1 } ((s.reach at_).bump Ix.FAB_ROUTE_STATS 0 16))) ∧
  (∀ (p : Port) (at_ : Nat) (f : FabFrame) (s : State), routedType f.typ = false →
    Completes (.routedFrame p at_ f) s ((s.reach at_).bump Ix.FAB_ROUTE_STATS 16 8)) ∧
  (∀ (p : Port) (at_ : Nat) (f : FabFrame) (s : State), mayBroadcast f.typ = false →
    Completes (.broadcastFrame p at_ f) s ((s.reach at_).bump Ix.FAB_ROUTE_STATS 16 8)) ∧
  (∀ (p : Port) (at_ : Nat) (f : FabFrame) (s : State), mayBroadcast f.typ = true → routeCode f.dst s = 1 →
    Completes (.broadcastFrame p at_ f) s (spread f (deliver at_ f (s.reach at_)))) ∧
  (∀ (at_ : Nat) (f : FabFrame) (s : State), Completes (.echo at_ f) s (sendRouted
    { typ := 0x11, bcast := false, dst := f.src, src := srcAddr s, hops := 0, seq := f.seq, payload := [0, 0, 0, 0] ++ f.payload }
    (s.reach at_))) ∧
  (∀ (r : Requester) (at_ i : Nat) (s : State), mayRead r (i % 16384) (noteRequest r (s.reach at_)) = false →
    Completes (.readRequest r at_ [i]) s (replyTo r 0x02 0 0 [0, 0, 0, 0] (noteRequest r (s.reach at_)))) ∧
  (∀ (r : Requester) (at_ i : Nat) (x : ParamRow) (s : State), mayRead r (i % 16384) (noteRequest r (s.reach at_)) = true →
    paramRow (i % 16384) = some x → x.access ≠ .rc → i % 16384 ≠ Ix.TT_FREE_LO →
    Completes (.readRequest r at_ [i]) s (replyTo r 0x02 0 0
      (leBytes (readWord (i % 16384) (noteRequest r (s.reach at_))).toNat 4) (noteRequest r (s.reach at_)))) ∧
  (∀ (r : Requester) (at_ i : Nat) (v : Word) (s : State),
    mayWrite r (i % 16384) (spendMeasured (noteRequest r (s.reach at_))) = false →
    Completes (.writeRequest r at_ [(i, v)]) s (replyTo r 0x03 0 0 [0] (spendMeasured (noteRequest r (s.reach at_))))) ∧
  (∀ (r : Requester) (at_ : Nat) (a b : Nat × Word) (s : State),
    let u := writeFree r (a.1 % 16384) a.2 (noteRequest r (s.reach at_))
    let w := writeFree r (b.1 % 16384) b.2 u.2
    Completes (.writeRequest r at_ [a, b]) s (replyTo r 0x03 0 0 (leBytes u.1 1 ++ leBytes w.1 1) w.2)) ∧
  (∀ (at_ : Nat) (f : FabFrame) (s : State), requestOf f s = none → Completes (.requestReply at_ f) s (s.reach at_) ∧
    Completes (.resolveReply at_ f) s s ∧ Completes (.reloadReply at_ f) s s) ∧
  (∀ (at_ : Nat) (f : FabFrame) (q : FabReq) (s : State), requestOf f s = some q → q.owner = 2 →
    Completes (.requestReply at_ f) s (carriedReply f (endRequest f.seq (s.reach at_)))) ∧
  (∀ (at_ : Nat) (f : FabFrame) (q : FabReq) (s : State), requestOf f s = some q → q.typ = 0x1C →
    Completes (.resolveReply at_ f) s (resolveReply at_ f (endRequest f.seq s))) ∧
  (∀ (q : Nat) (r : FabReq) (s : State), s.fab.outstanding.find? (·.seq == q) = some r →
    Completes (.requestTimeout q) s
      ((endRequest q (s.reach (r.at_ + msP (s.fld Ix.FAB_REQ_CFG 0 16)))).bump Ix.FAB_REQ_COUNTS 0 16)) ∧
  (∀ (at_ : Nat) (f : FabFrame) (s : State), s.fab.node ≠ .root → Completes (.resolve at_ f) s (s.reach at_)) ∧
  (∀ (at_ : Nat) (f : FabFrame) (x : AddrRec) (s : State), s.fab.node = .root → f.payload.length = 8 →
    (s.fab.records.find? fun r => r.listed && r.serial == ser48 (leNat f.payload)) = some x →
    Completes (.resolve at_ f) s (sendReply f 0x1D ([0, 0, 0, 0] ++ (leBytes x.addr 2 ++ [0, 0] ++
      leBytes ((s.fab.tags.lookup x.addr).getD 0) 4)) (s.reach at_))) ∧
  (∀ (at_ : Nat) (f : FabFrame) (s : State), s.fab.node = .root → f.payload.length = 8 →
    (s.fab.records.find? fun r => r.listed && r.serial == ser48 (leNat f.payload)) = none →
    Completes (.resolve at_ f) s (sendReply f 0x1D [0, 0, 0, 0, 0xFF, 0xFF, 0, 0, 0, 0, 0, 0] (s.reach at_))) ∧
  (∀ (k : Nat) (s : State), s.fab.domain.pubs[k]? = none → Completes (.signalsSend k) s s) ∧
  (∀ (k : Nat) (p : PubCfg) (s : State), s.fab.domain.pubs[k]? = some p →
    let u := s.reach (s.fab.pubAt.getD k 0)
    let vals := ((List.range p.count).map fun i => leBytes ((s.fab.pubVals.lookup (32 * p.group + i)).getD 0).toNat 4).flatten
    Completes (.signalsSend k) s (updFab (fun f => { f with pubAt := f.pubAt.set k (u.now + msP p.period) })
      (forEach (maskAddrs p.mask s) (fun a t => sendMessage 0x18 a (leBytes p.group 1 ++ leBytes p.count 1 ++ [0, 0] ++ vals) t) u))) ∧
  (∀ (at_ : Nat) (f : FabFrame) (m : Resolved) (x : SubCfg) (s : State), memberAt f.src s = some m → s.fab.domain.subs = [x] →
    x.ordinal = m.ordinal → x.group = leAt f.payload 0 1 → x.pos < leAt f.payload 1 1 →
    Completes (.signalsReceived at_ f) s (publishSource 8 0 (asType x.typ (toWord (leAt f.payload (4 + 4 * x.pos) 4))) false
      (updFab (fun y => { y with subs := y.subs.set 0 { lastAt := (s.reach at_).now, stale := false } }) (s.reach at_)))) ∧
  (∀ (at_ : Nat) (f : FabFrame) (s : State), memberAt f.src s = none → Completes (.signalsReceived at_ f) s (s.reach at_) ∧
    Completes (.domainStateReceived at_ f) s (s.reach at_)) ∧
  (∀ (n : Nat) (c : SubCfg) (x : SubSt) (s : State), s.fab.domain.subs[n]? = some c → s.fab.subs[n]? = some x → x.stale = false →
    Completes (.subscriptionTimeout n) s (staleSource 8 n true
      (updFab (fun y => { y with subs := y.subs.set n { x with stale := true } }) (s.reach (x.lastAt + msP c.timeout))))) ∧
  (∀ (at_ : Nat) (f : FabFrame) (m : Resolved) (s : State), memberAt f.src s = some m → m.ordinal = 0 →
    Gives (.domainStateReceived at_ f) s fun t => t.modes.rootRide = (leAt f.payload 0 1 % 2 == 1) ∧
      t.modes.rootAwake = (leAt f.payload 0 1 / 2 % 2 == 0) ∧ t.fab.rootStateAt = (s.reach at_).now ∧
      t = { s with now := t.now, modes := t.modes, fab := { s.fab with rootStateAt := t.fab.rootStateAt }, dwell := t.dwell }) ∧
  (∀ (at_ : Nat) (f : FabFrame) (m : Resolved) (s : State), memberAt f.src s = some m → m.ordinal ≠ 0 → isDomainRoot s = true →
    leAt f.payload 0 1 / 2 % 2 = 1 →
    Completes (.domainStateReceived at_ f) s { s.reach at_ with
      modes := { s.modes with membersAwake := s.modes.membersAwake.filter (· != m.ordinal) } }) ∧
  (∀ s : State, isDomainRoot s = true →
    Completes .domainStateSend s (sendDomainState (s.reach (s.fab.stateAt + msP 100)))) ∧
  (∀ s : State, isDomainRoot s = false → Completes .domainStateSend s s) ∧
  (∀ s : State, s.modes.rootRide = true →
    Completes .rootStateTimeout s { s.reach (s.fab.rootStateAt + msP 300) with modes := { s.modes with rootRide := false } }) ∧
  (∀ s : State, s.modes.rootRide = false → Completes .rootStateTimeout s s) ∧
  (∀ (r : Requester) (v : Word) (s : State), mayWrite r Ix.FAB_ROUTE_SEL (noteRequest r s) = true →
    (valueOk Ix.FAB_ROUTE_SEL v (noteRequest r s) && crossWritten Ix.FAB_ROUTE_SEL v (noteRequest r s)) = true →
    Gives (.fabRouteSelWrite r v) s fun t =>
      t.word Ix.FAB_ROUTE_PORT = toWord (routeCode ((cleanValue Ix.FAB_ROUTE_SEL v).toNat % 4096) s) ∧
      t.word Ix.FAB_ROUTE_SEL = toWord ((cleanValue Ix.FAB_ROUTE_SEL v).toNat % 4096) ∧
      t = { s with words := t.words, modes := (noteRequest r s).modes, dwell := t.dwell })

/-- A stream packet at a port without lanes is ignored, one with a bad CRC dropped and counted, one for this node taken, any other
routed with one hop more. Returned credits never pass 32. A STREAM_ACK of no open stream changes nothing; one that acknowledges all
that was sent releases it. A stream not acknowledged for 50 ms goes back to its first unacknowledged packet, and after three resends
is abandoned. An accepting RELOAD_REPLY opens stream 0, a declining one is remembered and a busy one is not; RELOAD_DONE with result 0
records the member. A member that waits accepts its root's offer; a node with a member record of another root, or not waiting, declines.
A wait that expires ends the reload with status 4, a stream that fails at the member with 7; a complete stream whose components and
image pass is taken. FAB_SYNC goes out only at a port that knows its delay. A host frame on DZ0 for another node is carried as a
request, where the lane serves the host. -/
def Obligations.StreamAndReloadRows : Prop :=
  (∀ (p : Port) (at_ : Nat) (k : FabPacket) (ok : Bool) (s : State), (s.fab.ports[p]).rate = 0 →
    Completes (.streamPacketReceived p at_ k ok) s (s.reach at_)) ∧
  (∀ (p : Port) (at_ : Nat) (k : FabPacket) (s : State), (s.fab.ports[p]).rate ≠ 0 →
    Completes (.streamPacketReceived p at_ k false) s ((s.reach at_).bump (Ix.FAB_STREAM_COUNTS p.val) 16 8) ∧
    (routeCode k.dst s = 1 → Completes (.streamPacketReceived p at_ k true) s (streamTake k (s.reach at_))) ∧
    (routeCode k.dst s ≠ 1 → k.hops < 62 →
      Completes (.streamPacketReceived p at_ k true) s (routePacket { k with hops := k.hops + 1 } (s.reach at_)))) ∧
  (∀ (p : Port) (n : Nat) (s : State), (s.fab.ports[p]).packets = [] →
    Completes (.streamCreditReturn p n) s (updPort p (fun x => { x with credits := Nat.min 32 (x.credits + n) }) s)) ∧
  (∀ (p : Port) (n : Nat) (s : State), Gives (.streamCreditReturn p n) s fun t => (t.fab.ports[p]).credits ≤ 32) ∧
  (∀ (at_ : Nat) (f : FabFrame) (s : State),
    (s.fab.txs.find? fun t => t.stream == leAt f.payload 0 1 && t.dst == f.src) = none →
    Completes (.streamAck at_ f) s (s.reach at_)) ∧
  (∀ (at_ : Nat) (f : FabFrame) (t : StreamTx) (s : State),
    (s.fab.txs.find? fun t => t.stream == leAt f.payload 0 1 && t.dst == f.src) = some t →
    ackNumber t.acked (leAt f.payload 2 2) ≤ t.next → t.acked < ackNumber t.acked (leAt f.payload 2 2) →
    let n := ackNumber t.acked (leAt f.payload 2 2)
    Completes (.streamAck at_ f) s (streamPump (leAt f.payload 0 1) f.src
      (updTx (leAt f.payload 0 1) f.src (fun x => { x with
        acked := n, data := x.data.drop (n - x.acked), next := n, resends := 0, lastAck := (s.reach at_).now }) (s.reach at_)))) ∧
  (∀ (stream dst at_ : Nat) (k : StartInput) (t : StreamTx) (s : State), s.fab.offer = none →
    (s.fab.txs.find? fun t => t.stream == stream && t.dst == dst) = some t → t.data.isEmpty = false →
    let u := s.reach (t.lastAck + msP 50)
    (t.resends < 3 → Completes (.streamResendTimeout stream dst at_ k) s (streamPump stream dst
      (updTx stream dst (fun x => { x with next := x.acked, resends := x.resends + 1, lastAck := u.now }) u))) ∧
    (3 ≤ t.resends → Completes (.streamResendTimeout stream dst at_ k) s
      (updFab (fun x => { x with txs := x.txs.filter fun y => !(y.stream == stream && y.dst == dst) }) u))) ∧
  (∀ (stream dst at_ src total count root : Nat) (k : StartInput) (s : State), s.fab.offer = some (src, total, count, root) →
    s.fab.reload = 2 → stream = 0 → src = dst →
    Completes (.streamResendTimeout stream dst at_ k) s (reloadFails 7 k (sendDone src 3 (s.num Ix.HK_STATUS) (s.reach at_)))) ∧
  (∀ (at_ : Nat) (f : FabFrame) (q : FabReq) (s : State), requestOf f s = some q → q.typ = 0x1F →
    let u := endRequest f.seq (s.reach at_)
    (leAt f.payload 0 1 = 0 → leAt f.payload 4 1 % 2 = 1 →
      Completes (.reloadReply at_ f) s (openStream 0 f.src (reloadBytes q.mark u) u)) ∧
    (leAt f.payload 0 1 = 1 → Completes (.reloadReply at_ f) s u) ∧
    (leAt f.payload 0 1 ≠ 1 → leAt f.payload 4 1 % 2 = 0 →
      Completes (.reloadReply at_ f) s (updFab (fun x => { x with declined := x.declined ++ [q.mark] }) u))) ∧
  (∀ (at_ : Nat) (f : FabFrame) (m : Resolved) (s : State), memberAt f.src s = some m → leAt f.payload 0 1 = 0 →
    Gives (.reloadDone at_ f) s fun t => m.ordinal ∈ t.fab.reloaded ∧
      ∀ x ∈ t.fab.txs, ¬ (x.stream = 0 ∧ x.dst = f.src)) ∧
  (∀ (at_ : Nat) (f : FabFrame) (s : State), acceptsOffer (leAt f.payload 8 8) s = true → s.fab.reload = 1 →
    Completes (.reloadOffer at_ f) s (sendReply f 0x20 [0, 0, 0, 0, 1, 0, 0, 0] (updFab (fun x => { x with
      offer := some (f.src, leAt f.payload 0 4, leAt f.payload 4 1, leAt f.payload 8 8), reload := 2,
      rxs := x.rxs.filter fun r => !(r.src == f.src && r.stream == 0) }) (s.reach at_)))) ∧
  (∀ (at_ : Nat) (f : FabFrame) (s : State), acceptsOffer (leAt f.payload 8 8) s = false →
    Completes (.reloadOffer at_ f) s (sendReply f 0x20 [0, 0, 0, 0, 0, 0, 0, 0] (s.reach at_))) ∧
  (∀ (k : StartInput) (s : State), s.fab.reload ≠ 1 → Completes (.reloadWaitExpiry k) s s) ∧
  (∀ (k : StartInput) (s : State), s.fab.reload = 1 →
    Completes (.reloadWaitExpiry k) s (reloadFails 4 k (s.reach (s.fab.waitAt + msP 2000)))) ∧
  (∀ (at_ : Nat) (k : StartInput) (s : State), s.fab.offer = none → Completes (.reloadStreamComplete at_ k) s s) ∧
  (∀ (at_ src total count root : Nat) (k : StartInput) (s : State), s.fab.offer = some (src, total, count, root) → s.fab.reload = 2 →
    total ≤ (reloadReceived src s).length →
    let u := s.reach at_
    let p := splitComps count ((reloadReceived src s).take total)
    (p.1.any fun c => (compErr (some s.upd.counter) c).isSome) = false → receivedErr p.2 (beforeStep4 k u) = none →
    Completes (.reloadStreamComplete at_ k) s (reloadTaken k src root p.1 p.2 u)) ∧
  (∀ (slot : Nat) (e : Event) (p : Port) (c : Pc) (s u : State), takeEvent slot s = some (e, u) → e.spec.act = .fabSync p c →
    Completes (.eventFabSync slot) s (fireFabSync p c u) ∧
    ((u.fab.ports[p]).delay = none → fireFabSync p c u = u)) ∧
  (∀ (p : Port) (at_ : Nat) (f : FabFrame) (s : State), routeCode f.dst s = 1 →
    Completes (.fabSyncReceived p at_ f) s (syncMark p at_ f (s.reach at_)) ∧
    ((s.fab.ports[p]).delay = none → syncMark p at_ f (s.reach at_) = s.reach at_)) ∧
  (∀ (p q : Port) (at_ d : Nat) (f : FabFrame) (s : State), routeCode f.dst s = 2 + q.val → (s.fab.ports[p]).delay = some d →
    (s.fab.ports[q]).st = .up → (s.fab.ports[q]).delay ≠ none → f.hops < 62 →
    Completes (.fabSyncReceived p at_ f) s (updPort q (fun y => { y with
      syncs := y.syncs ++ [{ frame := { f with hops := f.hops + 1 }, corr := leAt f.payload 10 4 + d, at_ := at_ }] })
      ((s.reach at_).bump Ix.FAB_ROUTE_STATS 0 16))) ∧
  (∀ (r : Requester) (s : State), mayWrite r Ix.FAB_RELOAD_CMD (noteRequest r s) = true →
    (valueOk Ix.FAB_RELOAD_CMD 1 (noteRequest r s) && crossWritten Ix.FAB_RELOAD_CMD 1 (noteRequest r s)) = true →
    Completes (.fabReloadCmdWrite r 1) s (updFab (fun f => { f with member := none }) (noteRequest r s))) ∧
  (∀ (at_ dst : Nat) (b : List Byte) (s : State), s.flag (Ix.FAB_STREAM_CFG 0) 2 = true → dst ≠ srcAddr s → frameOk 500 b = false →
    Completes (.hostStreamFrame at_ dst b) s (updHst (fun h => { h with crcErr := true }) ((s.reach at_).bump Ix.HST_COUNTS 0 8))) ∧
  (∀ (at_ dst : Nat) (b : List Byte) (s : State), s.flag (Ix.FAB_STREAM_CFG 0) 2 = false →
    Completes (.hostStreamFrame at_ dst b) s (s.reach at_)) ∧
  (∀ (at_ dst typ : Nat) (b : List Byte) (s : State), s.flag (Ix.FAB_STREAM_CFG 0) 2 = true → dst ≠ srcAddr s → frameOk 500 b = true →
    carriedType (entryOf b).cmd = some typ → let u := s.reach at_
    Completes (.hostStreamFrame at_ dst b) s (sendRequest typ dst (entryOf b).payload 2 0
      (updHst (fun h => { h with carried := (h.carried.filter fun x => x.1 != some (freeSeq u)) ++
        [(some (freeSeq u), (entryOf b).cmd, (entryOf b).tag)] }) u)))

/-- RIDE is entered at an evaluation of WATCH that no commit precedes, with the guard met and the ignition true for its dwell, and
left with it false for its dwell; degraded operation that is due then begins. A request of WORKSHOP by the host or a tester waits
for the evaluation, which enters it from WATCH, stationary, in a life-cycle state that allows it, and otherwise records the reason
and keeps the mode; no fabric node can ask for it. WORKSHOP is left at an evaluation with a request to leave, without a live holder
or with the vehicle moving for its dwell; a request to leave outside WORKSHOP is refused. PARK entry begins in WATCH with the
stay-awake set empty for its delay and no request waiting, rolling back an open transaction; it ends when the wait ends, at a domain
root after 2 s where members are awake, and a configured source cancels it before. A permitted write of the host to MODE_HOST_STAY
holds or releases bit 2, and its time-out clears it; another requester's has no effect. A member whose root link has been lost for the
dwell clears the root's awake bit. A row asked in another mode changes nothing. -/
def Obligations.ModeRows : Prop :=
  (∀ (at_ t : Nat) (s : State), let u := evalAt at_ s
    modesRun u = true → commitFirst u = false → s.modes.mode = .watch → rideGuard s = true → ignition u = true →
    s.dwell.ignOn = some t → Nat.max t (s.modes.took.getD 0) + msP (s.num Ix.MODE_IGN_ON_DWELL) ≤ u.now →
    Completes (.rideEntry at_) s (nmRide (imuLeaveWatch (changeMode .ride 2 u)))) ∧
  (∀ (at_ : Nat) (s : State), ignition (evalAt at_ s) = false → Completes (.rideEntry at_) s s) ∧
  (∀ (at_ : Nat) (s : State), s.modes.mode ≠ .watch → Completes (.rideEntry at_) s s ∧ Completes (.parkEntry at_) s s) ∧
  (∀ (at_ t : Nat) (s : State), let u := evalAt at_ s
    modesRun u = true → commitFirst u = false → s.modes.mode = .ride → ignition u = false → s.dwell.ignOff = some t →
    t + msP (s.num Ix.MODE_IGN_OFF_DWELL) ≤ u.now →
    let w := imuEnterWatch (changeMode .watch 3 u)
    Completes (.rideExit at_) s (if w.flt.degradePending then beginDegraded w else w)) ∧
  (∀ (at_ : Nat) (s : State), s.modes.mode ≠ .ride → Completes (.rideExit at_) s s) ∧
  (∀ (r : Requester) (s : State), mayWrite r Ix.MODE_WS_REQUEST (noteRequest r s) = true →
    ((valueOk Ix.MODE_WS_REQUEST 1 (noteRequest r s) && crossWritten Ix.MODE_WS_REQUEST 1 (noteRequest r s)) = true →
      Completes (.wsEnterRequest r) s (match r with
        | .fabric _ => noteRequest r s
        | _ => { noteRequest r s with modes := { (noteRequest r s).modes with wsEnter := some r } })) ∧
    ((valueOk Ix.MODE_WS_REQUEST 2 (noteRequest r s) && crossWritten Ix.MODE_WS_REQUEST 2 (noteRequest r s)) = true →
      Completes (.wsExitRequest r) s (match r with
        | .fabric _ => noteRequest r s
        | _ => { noteRequest r s with modes := { (noteRequest r s).modes with wsExit := true } }))) ∧
  (∀ (at_ : Nat) (r : Requester) (s : State), let u := evalAt at_ s
    modesRun u = true → commitFirst u = false → (∀ k ∈ [1, 2, 3], rowWins k u = false) → s.modes.wsEnter = some r →
    let v := { u with modes := { u.modes with wsEnter := none } }
    (workshopRefusal v ≠ 0 →
      Completes (.workshopEntry at_) s { v with
        words := (v.putNat Ix.MODE_LAST_REFUSAL (Mode.workshop.code + workshopRefusal v * 2 ^ 4)).words
        modes := { v.modes with wsRefused := some u.now } }) ∧
    (workshopRefusal v = 0 →
      let w := imuLeaveWatch (changeMode .workshop 4 v)
      Completes (.workshopEntry at_) s { w with modes := { w.modes with wsBy := some r, wsAt := w.now, wsExit := false } })) ∧
  (∀ s : State, (s.modes.mode ≠ .watch → workshopRefusal s = 1) ∧
    (s.modes.mode = .watch → stationary s = false → workshopRefusal s = 2) ∧
    (s.modes.mode = .watch → stationary s = true → (workshopRefusal s = 0 ↔ s.life = .maker ∨ s.life = .field ∨ s.life = .returned))) ∧
  (∀ (at_ : Nat) (s : State), s.modes.wsEnter = none → Completes (.workshopEntry at_) s s) ∧
  (∀ (at_ : Nat) (s : State), let u := evalAt at_ s
    modesRun u = true → commitFirst u = false → s.modes.mode = .workshop →
    (s.modes.wsExit = true ∨ wsHolderGone u = true ∨
      (stationary u = false ∧ ∃ t, s.dwell.moved = some t ∧ t + msP (s.num Ix.MODE_MOVE_EXIT_DWELL) ≤ u.now)) →
    Completes (.workshopExit at_) s (imuEnterWatch (releaseWorkshop (changeMode .watch 1
      { u with modes := { u.modes with wsExit := false, wsBy := none } })))) ∧
  (∀ (at_ : Nat) (s : State), let u := evalAt at_ s
    s.modes.mode ≠ .workshop →
    (modesRun u = true → s.modes.wsExit = true →
      Completes (.workshopExit at_) s ({ u with modes := { u.modes with wsExit := false } }.putNat Ix.MODE_LAST_REFUSAL
        (Mode.watch.code + 4 * 2 ^ 4))) ∧
    (s.modes.wsExit = false → Completes (.workshopExit at_) s s)) ∧
  (∀ (at_ t : Nat) (s : State), let u := evalAt at_ s
    modesRun u = true → commitFirst u = false → s.modes.mode = .watch → stayEmpty u = true → s.modes.wsEnter = none →
    s.modes.wsRefused ≠ some u.now → s.dwell.empty = some t →
    Nat.max t s.modes.cancelled + secP (s.num Ix.MODE_PARK_DELAY) ≤ u.now →
    let v := if u.txn.st = .opened then rollBack 9 4 u else u
    Completes (.parkEntry at_) s (sendDomainState { v with
      modes := { v.modes with entering := some v.now, announced := isDomainRoot v } })) ∧
  (∀ (at_ : Nat) (s : State), stayEmpty (evalAt at_ s) = false → Completes (.parkEntry at_) s s) ∧
  (∀ s : State, s.modes.entering = none → Completes .parkWaitEnd s s) ∧
  (∀ (t : Nat) (s : State), s.modes.entering = some t → isDomainRoot s = true → s.modes.membersAwake.isEmpty = false →
    Completes .parkWaitEnd s (enterPark (s.reach (t + secP 2)))) ∧
  (∀ (t : Nat) (s : State), s.modes.entering = some t → (isDomainRoot s = false ∨ s.modes.membersAwake.isEmpty = true) →
    Completes .parkWaitEnd s (enterPark s)) ∧
  (∀ (at_ : Nat) (code : Fin 8) (s : State), s.modes.entering = none → Completes (.parkEntryCancel at_ code) s s) ∧
  (∀ (at_ t : Nat) (code : Fin 8) (s : State), s.modes.entering = some t →
    let u := s.reach (if code.val = 0 then t + secP (s.num Ix.PWR_RTC_WAKE) else at_)
    (code.val ≠ 1 → code.val < 7 → sourceConfigured code.val u = true → (parkSourceFires code.val u).modes.entering = none →
      Completes (.parkEntryCancel at_ code) s (sendDomainState (parkSourceFires code.val u))) ∧
    (code.val ≠ 1 → code.val < 7 → sourceConfigured code.val u = false → Completes (.parkEntryCancel at_ code) s u) ∧
    ((code.val = 1 ∨ code.val = 7) → Completes (.parkEntryCancel at_ code) s u)) ∧
  (∀ (v : Word) (s : State), mayWrite .host Ix.MODE_HOST_STAY (noteRequest .host s) = true →
    (valueOk Ix.MODE_HOST_STAY v (noteRequest .host s) && crossWritten Ix.MODE_HOST_STAY v (noteRequest .host s)) = true →
    Gives (.hostStayWrite .host v) s fun t =>
      t.word Ix.MODE_HOST_STAY = maskWord (cleanValue Ix.MODE_HOST_STAY v) 1 ∧
      t.hst.stayAt = (if bit (cleanValue Ix.MODE_HOST_STAY v) 0 then s.now else s.hst.stayAt) ∧
      (∀ i, i ≠ Ix.MODE_HOST_STAY → t.word i = s.word i) ∧
      t = { s with words := t.words, hst := { s.hst with stayAt := t.hst.stayAt }, modes := (noteRequest .host s).modes,
                   dwell := t.dwell }) ∧
  (∀ (r : Requester) (v : Word) (s : State), r ≠ .host → Completes (.hostStayWrite r v) s (noteRequest r s)) ∧
  (∀ s : State, s.flag Ix.MODE_HOST_STAY 0 = true →
    Completes .hostStayExpiry s
      ((s.reach (s.hst.stayAt + secP (s.num Ix.MODE_HOST_STAY_MAX))).put Ix.MODE_HOST_STAY 0)) ∧
  (∀ s : State, s.flag Ix.MODE_HOST_STAY 0 = false → Completes .hostStayExpiry s s) ∧
  (∀ (at_ t : Nat) (s : State), isMember s = true → rootLinked s = false → s.dwell.unlinked = some t →
    t + msP (s.num Ix.MODE_IGN_OFF_DWELL) ≤ (s.reach at_).now →
    Completes (.memberRootLinkLoss at_) s { s.reach at_ with modes := { s.modes with rootAwake := false } }) ∧
  (∀ (at_ : Nat) (s : State), (isMember s = false ∨ rootLinked s = true) → Completes (.memberRootLinkLoss at_) s s)

/-- DOZE is a state of RIDE and WORKSHOP, STANDBY of WATCH without a RUN hold, with the clocks frozen and no link up; it ends 200 µs
before the earliest event of FREE, and at a hold. An armed source that fires in RETAIN or DEEP without a cause yet is the wake cause
at its sampling edge, the RTC alarm at its time, VBATP after its low and high dwells, the DEEP switch input above 3.0 V for 10 ms;
one that is not armed changes nothing. A wake step out of time restarts at step 2, 10 ms later, until the third failure waits,
doubling up to 64,000 ms. RETAIN escalates on supply low for its dwell. A brown-out in a running state stops the core, resets the
transaction, the channels, the Timetable and the ports, and is remembered; in RETAIN or DEEP without a wake it is remembered alone.
Loss of AO leaves OFF with no retention list and no RTC. A start follows power-on in OFF, the signals of a wake in time, a Principal
fault, the end of TST_RSTN, the recovery from a brown-out and a recovery retry; a device held in reset does not start. A permitted
write of the RTC at or above the floor sets it, below it changes nothing. -/
def Obligations.PowerRows : Prop :=
  (∀ s : State, s.pw.pw = .run → s.started = true → (s.modes.mode = .ride ∨ s.modes.mode = .workshop) →
    Completes .dozeEntry s { s with pw := { s.pw with pw := .doze } }) ∧
  (∀ s : State, s.modes.mode = .watch → Completes .dozeEntry s s) ∧
  (∀ s : State, s.pw.pw = .doze → Completes .dozeExit s { s with pw := { s.pw with pw := .run } }) ∧
  (∀ s : State, s.pw.pw = .run → s.started = true → s.modes.entering = none → s.modes.mode = .watch → runHold s = false →
    Gives .standbyEntry s fun t => t.pw.pw = .standby ∧ t.tt.clocks = s.tt.clocks.map (fun c => c.freeze s.now) ∧
      t.tt.events = s.tt.events ∧ t.words = s.words ∧ ∀ p : Port, (t.fab.ports[p]).st ≠ .up) ∧
  (∀ s : State, runHold s = true → Completes .standbyEntry s s) ∧
  (∀ (t : Nat) (s : State), s.pw.pw = .standby → nextDue s = some t →
    Completes .standbyExitScheduled s (leaveStandby (s.reach (t - usP 200))) ∧
    (leaveStandby (s.reach (t - usP 200))).pw.pw = .run) ∧
  (∀ (at_ : Nat) (s : State), s.pw.pw = .standby → Completes (.standbyExitHold at_) s (leaveStandby (s.reach at_)) ∧
    (leaveStandby (s.reach at_)).pw.pw = .run) ∧
  (∀ (at_ : Nat) (s : State), s.pw.pw ≠ .standby → Completes (.standbyExitHold at_) s s ∧ Completes .standbyExitScheduled s s) ∧
  (∀ (code : Fin 8) (at_ least ms : Nat) (s : State), (s.pw.pw = .retain ∨ s.pw.pw = .deep) → code.val ∈ s.pw.armed →
    s.pw.cause = none →
    (code.val = 1 → s.pw.wasLow = true ∧ s.num Ix.PWR_VBAT_WAKE_HI < least ∧ 1000 * s.fld Ix.PWR_VBAT_DWELL 16 16 ≤ ms) →
    (code.val = 7 → s.fld Ix.PWR_DEEP_WAKE 0 4 = 1 → 300 < least ∧ 10 ≤ ms) →
    let u := s.reach (if code.val = 0 then s.pw.parkAt + secP (s.num Ix.PWR_RTC_WAKE) else at_)
    let e := wakeEdge s.pw.parkAt u.now
    Gives (.wakeSourceFire code at_ least ms) s fun t => t.pw.cause = some code.val ∧ t.pw.wakeAt = e ∧
      t.pw.waking = some { wstep := if s.pw.pw = .deep then 0 else 1, fails := 0, backoff := s.num Ix.PWR_WAKE_BACKOFF,
                           from_ := e + usP (if s.pw.pw = .deep then 600 else 100), waiting := none } ∧
      t = { s with now := t.now, pw := { s.pw with cause := t.pw.cause, wakeAt := t.pw.wakeAt, waking := t.pw.waking },
                   dwell := t.dwell }) ∧
  (∀ (code : Fin 8) (at_ least ms : Nat) (s : State), 2 ≤ code.val → ¬ code.val ∈ s.pw.armed →
    Completes (.wakeSourceFire code at_ least ms) s (s.reach at_)) ∧
  (∀ (a n t : Nat), (wakeEdge a n ≥ n) ∧ (a ≤ n → n ≤ t → wakeEdge a n ≤ wakeEdge a t)) ∧
  (∀ (steps : List Nat) (w : Waking) (s : State), s.pw.waking = some w → w.waiting = none → s.pw.brownOut = false →
    steps.length < 3 → (∀ x ∈ steps.zip wakeLimits, x.1 < x.2) →
    let u := s.reach (w.from_ + usP (steps.foldl (· + ·) 0 + wakeLimits.getD steps.length 0))
    (w.fails + 1 < 3 → Completes (.wakeStepTimeout steps) s { u with
      pw := { s.pw with failTotal := s.pw.failTotal + 1,
                        waking := some { w with wstep := 2, fails := w.fails + 1, from_ := u.now + msP 10 } } }) ∧
    (3 ≤ w.fails + 1 → Completes (.wakeStepTimeout steps) s { u with
      pw := { s.pw with failTotal := s.pw.failTotal + 1,
                        waking := some { w with wstep := 2, fails := 0, waiting := some u.now } } })) ∧
  (∀ (steps : List Nat) (s : State), s.pw.waking = none → Completes (.wakeStepTimeout steps) s s) ∧
  (∀ (w : Waking) (t : Nat) (s : State), s.pw.waking = some w → w.waiting = some t →
    Completes .wakeBackoffExpiry s { s.reach (t + msP w.backoff) with
      pw := { s.pw with waking := some { w with
        waiting := none, from_ := (s.reach (t + msP w.backoff)).now, backoff := Nat.min 64000 (2 * w.backoff) } } }) ∧
  (∀ s : State, s.pw.waking = none → Completes .wakeBackoffExpiry s s) ∧
  (∀ (at_ most ms : Nat) (s : State), s.pw.pw = .retain → s.pw.cause = none → most < s.num Ix.PWR_DEEP_VBAT_LO →
    1000 * s.fld Ix.PWR_VBAT_DWELL 0 16 ≤ ms →
    Gives (.retainEscalation at_ most ms) s fun t => t.pw.pw = .deep ∧ t.pw.escalated = true ∧ t.pw.wasLow = true ∧
      t.procs.park = .off) ∧
  (∀ (at_ most ms : Nat) (s : State), s.pw.pw = .run → Completes (.retainEscalation at_ most ms) s s) ∧
  (∀ (at_ : Nat) (s : State), s.pw.pw = .run → s.procs.principal ≠ .off →
    Gives (.brownOut at_) s fun t => t.started = false ∧ t.pw.brownOut = true ∧ t.pw.brownDue = true ∧ t.pw.pw = .run ∧
      t.txn = Txn.reset ∧ t.hst = HostPort.reset ∧ t.tt = Timetable.reset ∧ t.modes.entering = none ∧ t.words = s.words ∧
      (∀ c : Ch, (t.chans[c]) = { Channel.reset with offset := (s.chans[c]).offset, calRun := (s.chans[c]).calRun }) ∧
      ∀ p : Port, (t.fab.ports[p]).st ≠ .up) ∧
  (∀ (at_ : Nat) (s : State), (s.pw.pw = .retain ∨ s.pw.pw = .deep) → s.pw.waking = none →
    Completes (.brownOut at_) s { s.reach at_ with pw := { s.pw with brownDue := true } }) ∧
  (∀ (at_ : Nat) (s : State), s.pw.pw = .off → Completes (.brownOut at_) s (s.reach at_)) ∧
  (∀ (at_ : Nat) (s : State), Gives (.aoPowerLoss at_) s fun t => t.pw.pw = .off ∧ t.boot.retained = none ∧ t.pw.rtc = none ∧
    t.modes = Modes.reset ∧ t.started = false ∧ t.word Ix.TCH_WAKE_STATS = 0 ∧
    ∀ i, i ≠ Ix.TCH_WAKE_STATS → t.word i = s.word i) ∧
  (∀ (at_ : Nat) (k : StartInput) (s : State), s.pw.brownOut = true → s.pw.waking = none → s.pw.rstHeld = false →
    Completes (.brownOutRecovery at_ k) s (startUp 16 k (s.reach at_))) ∧
  (∀ (at_ : Nat) (k : StartInput) (w : Waking) (s : State), s.pw.brownOut = true → s.pw.waking = some w →
    Completes (.brownOutRecovery at_ k) s { s.reach at_ with
      pw := { s.pw with brownOut := false, waking := some { w with from_ := (s.reach at_).now } } }) ∧
  (∀ (at_ : Nat) (k : StartInput) (s : State), s.pw.brownOut = false → Completes (.brownOutRecovery at_ k) s s) ∧
  (∀ (k : StartInput) (s : State), s.pw.rstHeld = true → Completes (.powerOnReset k) s s) ∧
  (∀ (k : StartInput) (s : State), s.pw.rstHeld = false → s.pw.brownOut = false → s.upd.dead = false →
    (s.pw.pw = .off ∨ (s.pw.pw = .run ∧ s.procs.principal = .off)) → Completes (.powerOnReset k) s (startUp 1 k s)) ∧
  (∀ (k : StartInput) (w : Waking) (s : State), s.pw.rstHeld = false → s.pw.brownOut = false → s.upd.dead = false →
    (s.pw.pw = .retain ∨ s.pw.pw = .deep) → s.pw.waking = some w → w.waiting = none →
    (w.from_ ≤ s.pw.wakeAt + usP k.wakeUs ∧ s.pw.wakeAt + usP k.wakeUs ≤ w.from_ + usP 8050) →
    Completes (.powerOnReset k) s (startUp 2 k (s.reach (s.pw.wakeAt + usP k.wakeUs)))) ∧
  (∀ (at_ : Nat) (k : StartInput) (s : State), deviceUp s = true →
    Completes (.principalSelfFault at_ k) s (startUp 4 k (perDown (coreDown (s.reach at_))))) ∧
  (∀ (at_ : Nat) (k : StartInput) (s : State), deviceUp s = false → Completes (.principalSelfFault at_ k) s s) ∧
  (∀ s : State, rstHonoured s = true → s.pw.rstHeld = false →
    Gives .tstRstnAssert s fun t => t.pw.rstHeld = true ∧ t.pw.waking = none ∧
      ((s.pw.pw = .run ∨ s.pw.pw = .doze ∨ s.pw.pw = .standby) → t.started = false)) ∧
  (∀ s : State, rstHonoured s = false → Completes .tstRstnAssert s s) ∧
  (∀ (k : StartInput) (s : State), s.pw.rstHeld = true → s.pw.pw ≠ .off → s.pw.brownOut = false →
    Completes (.tstRstnRelease k) s (startUp 8 k { s with pw := { s.pw with rstHeld := false } })) ∧
  (∀ (k : StartInput) (s : State), s.pw.rstHeld = false → Completes (.tstRstnRelease k) s s) ∧
  (∀ (k : StartInput) (s : State), s.upd.dead = true → s.pw.rstHeld = false →
    Completes (.recoveryRetry k) s (startUp 4 k (s.reach (s.freeBase + secP 60)))) ∧
  (∀ (k : StartInput) (s : State), s.upd.dead = false → Completes (.recoveryRetry k) s s) ∧
  (∀ (r : Requester) (v : Word) (s : State), mayWrite r Ix.PWR_RTC_TIME (noteRequest r s) = true →
    (valueOk Ix.PWR_RTC_TIME v (noteRequest r s) && crossWritten Ix.PWR_RTC_TIME v (noteRequest r s)) = true →
    let n := (cleanValue Ix.PWR_RTC_TIME v).toNat
    (n < s.sec.floor → Completes (.rtcWrite r v) s (noteRequest r s)) ∧
    (s.sec.floor ≤ n → Completes (.rtcWrite r v) s
      (credentialsAt n (updRtc n (permitRtc n { noteRequest r s with pw := { s.pw with rtc := some (n, s.now) } })))))

/-- A lockstep mismatch and a missing heartbeat of a running pair count, each in its own field, and stop the pair: its network stops,
no group waits, the instant is remembered, and the pair loads, or halts where it is the fourth instant within ten minutes. The end of
its reload runs it again, reports APP_STOP, and starts the network and the services. A missing heartbeat of the motor coprocessor or
the fabric engine stops that one and loads it: no bridge drives, and the node has no address and no link. The engine's reload starts
it again. MIRROR_WRITE_DONE stores image and record in the slot due, with the counter one above the active slot's, 1 without one.
HK_WB_CMD powers the key and starts the write-back of an image there is, or fails with status 3 detail 1; a write-back under way goes
on. Its end writes the pages it reached to the key, removes its power and gives HK_WB_STATUS its result and their count. Where the
processor is in another state, or nothing is due, nothing happens. -/
def Obligations.ProcessorRows : Prop :=
  (∀ (at_ : Nat) (s : State), deviceUp s = true → s.procs.app = .running →
    Completes (.lockstepMismatch at_) s (appStop ((s.reach at_).bump Ix.SYS_APP_STOPS 0 16)) ∧
    Completes (.appHeartbeatTimeout at_) s (appStop ((s.reach at_).bump Ix.SYS_APP_STOPS 16 16))) ∧
  (∀ (at_ : Nat) (s : State), s.procs.app ≠ .running → Completes (.lockstepMismatch at_) s s ∧
    Completes (.appHeartbeatTimeout at_) s s) ∧
  (∀ s : State, ∃ u : State, appStop s = stopPair u) ∧
  (∀ s : State, let recent := s.now :: s.procs.stops.filter fun t => decide (s.now < t + secP 600)
    (stopPair s).bn.running = false ∧ (stopPair s).tt.waiting = [] ∧ (stopPair s).procs.stops = recent ∧
    (recent.length < 4 → (stopPair s).procs.app = .loading) ∧ (4 ≤ recent.length → (stopPair s).procs.app = .halted)) ∧
  (∀ (at_ : Nat) (s : State), s.procs.app = .loading → deviceUp s = true → let u := s.reach at_
    Completes (.appReloadDone at_) s (startSampling (chgRestart (touchRestart (nmRestart (linRestart (startNetwork (report 0x000 0
      { u with procs := { u.procs with app := .running }, bn := { u.bn with sigs := startSigs [] u } })))))))) ∧
  (∀ (at_ : Nat) (s : State), s.procs.app ≠ .loading → Completes (.appReloadDone at_) s s) ∧
  (∀ (at_ : Nat) (s : State), deviceUp s = true → s.procs.motor = .running →
    Completes (.motCoproHeartbeatTimeout at_) s { coproStop (s.reach at_) with
      procs := { (coproStop (s.reach at_)).procs with motor := .loading } }) ∧
  (∀ (at_ : Nat) (s : State), s.procs.motor ≠ .running → Completes (.motCoproHeartbeatTimeout at_) s s) ∧
  (∀ (b : Mot) (s : State), ((coproStop s).br b).st.drives = false) ∧
  (∀ (at_ : Nat) (s : State), deviceUp s = true → s.procs.fabric = .running →
    Gives (.fabEngineHeartbeatTimeout at_) s fun t => t.procs.fabric = .loading ∧ t.fab.node = .unlisted ∧ t.fab.addr = 0 ∧
      ∀ p : Port, (t.fab.ports[p]).queue = [] ∧ (t.fab.ports[p]).st ≠ .up) ∧
  (∀ (at_ : Nat) (s : State), s.procs.fabric ≠ .running → Completes (.fabEngineHeartbeatTimeout at_) s s) ∧
  (∀ (at_ : Nat) (s : State), s.procs.fabric = .loading → let u := s.reach at_
    Completes (.fabEngineReloadDone at_) s (fabStart { u with procs := { u.procs with fabric := .running } })) ∧
  (∀ (at_ : Nat) (s : State), s.procs.fabric ≠ .loading → Completes (.fabEngineReloadDone at_) s s) ∧
  (∀ (at_ : Nat) (n : Fin 2) (b : List Byte) (s : State), s.boot.mirrorDue = some (n, b) → s.started = true →
    (activeMirror (s.reach at_) = none →
      Completes (.mirrorWriteDone at_) s { s.reach at_ with boot := { s.boot with
        mirrorDue := none, mirror := s.boot.mirror.set n (some (mirrorSlot b 1 true)) } }) ∧
    (∀ m x, activeMirror (s.reach at_) = some m → s.boot.mirror[m] = some x →
      Completes (.mirrorWriteDone at_) s { s.reach at_ with boot := { s.boot with
        mirrorDue := none, mirror := s.boot.mirror.set n (some (mirrorSlot b (x.counter + 1) true)) } })) ∧
  (∀ (at_ : Nat) (s : State), s.boot.mirrorDue = none → Completes (.mirrorWriteDone at_) s (s.reach at_)) ∧
  (∀ (r : Requester) (s : State), mayWrite r Ix.HK_WB_CMD (noteRequest r s) = true →
    (valueOk Ix.HK_WB_CMD 1 (noteRequest r s) && crossWritten Ix.HK_WB_CMD 1 (noteRequest r s)) = true →
    (s.boot.writing ≠ none → Completes (.hkWbMirror r) s (noteRequest r s)) ∧
    (s.boot.writing = none → writeBackImage false (noteRequest r s) = none →
      Completes (.hkWbMirror r) s ((noteRequest r s).putNat Ix.HK_WB_STATUS 19)) ∧
    (∀ b, s.boot.writing = none → writeBackImage false (noteRequest r s) = some b →
      Completes (.hkWbMirror r) s
        { (noteRequest r s).putNat Ix.HK_WB_STATUS 1 with boot := { s.boot with writing := some b, keyPower := true } })) ∧
  (∀ (r : Requester) (s : State), mayWrite r Ix.HK_WB_CMD (noteRequest r s) = true →
    (valueOk Ix.HK_WB_CMD 2 (noteRequest r s) && crossWritten Ix.HK_WB_CMD 2 (noteRequest r s)) = true →
    (s.boot.writing ≠ none → Completes (.hkWbStaged r) s (noteRequest r s)) ∧
    (s.boot.writing = none → writeBackImage true (noteRequest r s) = none →
      Completes (.hkWbStaged r) s ((noteRequest r s).putNat Ix.HK_WB_STATUS 19)) ∧
    (∀ b, s.boot.writing = none → writeBackImage true (noteRequest r s) = some b →
      Completes (.hkWbStaged r) s
        { (noteRequest r s).putNat Ix.HK_WB_STATUS 1 with boot := { s.boot with writing := some b, keyPower := true } })) ∧
  (∀ (at_ : Nat) (failed : Option Nat) (s : State), s.boot.writing = none →
    Completes (.hkWriteBackDone at_ failed) s (s.reach at_)) ∧
  (∀ (at_ : Nat) (b : List Byte) (s : State), s.boot.writing = some b → s.boot.keyBlocks ≠ 0 →
    signatureErr b (s.reach at_) = none →
    Gives (.hkWriteBackDone at_ none) s fun t => t.boot.writing = none ∧ t.boot.keyPower = false ∧
      t.boot.key = keyAfter (ceilDiv b.length 128 + 1) b s.boot.key ∧
      t.word Ix.HK_WB_STATUS = toWord (2 + (ceilDiv b.length 128 + 1) % 65536 * 2 ^ 16) ∧
      (∀ i, i ≠ Ix.HK_WB_STATUS → t.word i = s.word i)) ∧
  (∀ (at_ k : Nat) (b : List Byte) (s : State), s.boot.writing = some b → s.boot.keyBlocks ≠ 0 → k < ceilDiv b.length 128 + 1 →
    Gives (.hkWriteBackDone at_ (some k)) s fun t => t.boot.writing = none ∧ t.boot.keyPower = false ∧
      t.boot.key = keyAfter k b s.boot.key ∧ t.word Ix.HK_WB_STATUS = toWord (35 + k % 65536 * 2 ^ 16))

/-- The supply band moves to CRANK strictly below 6.0 V and back strictly above 6.3 V, to JUMP strictly above 18.0 V and back strictly
below 17.5 V, and keeps otherwise; a change is followed by the outputs and CRANK and JUMP are counted. Over-voltage is entered
strictly above 28 V once, latched and counted, and left strictly below 27 V. Reverse supply drives every high-side channel and no
other. A shedding evaluation takes the pressures down in its words; each shed dwell that elapses restarts and raises the level by a
step, up to 20, and the level falls by a step only where every restore dwell has elapsed. Where nothing is evaluated only the time
passes. The dissipation words take what was measured. Degraded operation begins outside RIDE where it was asked for. -/
def Obligations.SharedResourceRows : Prop :=
  (∀ (least most : Nat), (most < 600 → bandAfter least most .normal = .crank) ∧
    (600 ≤ most → 1800 < least → bandAfter least most .normal = .jump) ∧
    (600 ≤ most → least ≤ 1800 → bandAfter least most .normal = .normal) ∧
    (630 < least → bandAfter least most .crank = .normal) ∧ (least ≤ 630 → bandAfter least most .crank = .crank) ∧
    (most < 1750 → bandAfter least most .jump = .normal) ∧ (1750 ≤ most → bandAfter least most .jump = .jump)) ∧
  (∀ (at_ least most : Nat) (s : State), bandAfter least most s.band = s.band →
    Completes (.supplyBandChange at_ least most) s (s.reach at_)) ∧
  (∀ (at_ least most : Nat) (s : State), s.band = .normal → most < 600 → let u := s.reach at_
    Completes (.supplyBandChange at_ least most) s
      (followBand .normal (({ u with band := .crank } : State).bump Ix.SYS_SUPPLY_COUNTS 8 8))) ∧
  (∀ (at_ least most : Nat) (s : State), s.band = .normal → 600 ≤ most → 1800 < least → let u := s.reach at_
    Completes (.supplyBandChange at_ least most) s
      (followBand .normal (({ u with band := .jump } : State).bump Ix.SYS_SUPPLY_COUNTS 16 8))) ∧
  (∀ (at_ least most : Nat) (s : State), s.band = .crank → 630 < least → let u := s.reach at_
    Completes (.supplyBandChange at_ least most) s (followBand .crank { u with band := .normal })) ∧
  (∀ (at_ least most : Nat) (s : State), s.band = .jump → most < 1750 → let u := s.reach at_
    Completes (.supplyBandChange at_ least most) s (followBand .jump { u with band := .normal })) ∧
  (∀ (at_ least : Nat) (s : State), s.share.overvolt = false → 2800 < least → let u := s.reach at_
    Completes (.overvoltEntry at_ least) s (refreshChg (forEach (List.finRange 2) openBridge (holdOutputs
      ((({ u with share := { u.share with overvolt := true } } : State).latch Ix.SYS_SUPPLY 16).bump Ix.SYS_SUPPLY_COUNTS 0 8))))) ∧
  (∀ (at_ least : Nat) (s : State), (s.share.overvolt = true ∨ least ≤ 2800) → Completes (.overvoltEntry at_ least) s (s.reach at_)) ∧
  (∀ (at_ most : Nat) (s : State), s.share.overvolt = true → most < 2700 → let u := s.reach at_
    Completes (.overvoltExit at_ most) s
      (refreshChg (forEach (List.finRange 2) (fun b t => if (t.br b).st = .off then startFromCatch b t else t)
        (resumeOutputs (({ u with share := { u.share with overvolt := false } } : State).unlatch Ix.SYS_SUPPLY 16))))) ∧
  (∀ (at_ most : Nat) (s : State), (s.share.overvolt = false ∨ 2700 ≤ most) → Completes (.overvoltExit at_ most) s (s.reach at_)) ∧
  (∀ (at_ : Nat) (on : Bool) (s : State), s.share.reverse = on → Completes (.reverseSupply at_ on) s (s.reach at_)) ∧
  (∀ (at_ : Nat) (s : State), s.share.reverse = false →
    Gives (.reverseSupply at_ true) s fun t => t.share.reverse = true ∧
      (∀ c : Ch, c.val < 36 → (t.chans[c]).drive = 1 ∧ (t.chans[c]).pulse = true) ∧
      ∀ c : Ch, 36 ≤ c.val → t.chans[c] = chOff (s.reach at_).now s.chans[c]) ∧
  (∀ (p : Pressures) (s : State), evaluates s = false → Completes (.shedLevelUp p) s (s.reach p.at_) ∧
    Completes (.shedLevelDown p) s (s.reach p.at_)) ∧
  (∀ (p : Pressures) (s : State), evaluates s = true →
    let u := s.reach p.at_
    let due := shedElapsed p u
    (due.any id = true → Completes (.shedLevelUp p) s
      (followLevel (forEach (due.filter id) (fun _ => raiseLevel) (restartSheds due (notePressures p u))))) ∧
    (due.any id = false → Completes (.shedLevelUp p) s (notePressures p u))) ∧
  (∀ (p : Pressures) (s : State), evaluates s = true →
    let u := s.reach p.at_
    let v := notePressures p u
    (restoreElapsed p u = true → 0 < s.share.level → Completes (.shedLevelDown p) s
      (followLevel (atLevel (stepDown v) (({ v with share := { v.share with restoreAt := v.now } } : State).bump
        Ix.SYS_SHARE_COUNTS 16 16)))) ∧
    ((restoreElapsed p u = false ∨ s.share.level = 0) → Completes (.shedLevelDown p) s v)) ∧
  (∀ (p : Pressures) (k : Nat) (s : State), k < 4 →
    ((shedElapsed p s).getD k false = true ↔ (shedConds p s).getD k false = true ∧ shedDwells.getD k 0 ≤ p.held.getD k 0 ∧
      s.share.shedAt.getD k 0 + msP (shedDwells.getD k 0) ≤ s.now)) ∧
  (∀ (p : Pressures) (s : State), restoreElapsed p s = true ↔ ∀ k < 4, (restoreConds p s).getD k false = true ∧
    restoreDwells.getD k 0 ≤ p.held.getD k 0 ∧ s.share.restoreAt + msP (restoreDwells.getD k 0) ≤ s.now) ∧
  (∀ s : State, (s.share.level < 20 → (raiseLevel s).share.level = stepUp s ∧ s.share.level < stepUp s ∧ stepUp s ≤ 20) ∧
    (20 ≤ s.share.level → raiseLevel s = s) ∧ (0 < s.share.level → stepDown s < s.share.level)) ∧
  (∀ (d : Heat) (s : State), Gives (.dissipationUpdate d) s fun t =>
    t.word Ix.SYS_THERMAL = toWord (unsigned d.logic 16 + unsigned d.hottest 16 * 2 ^ 16) ∧
    t.word Ix.SYS_DISSIPATION = toWord (Nat.min 65535 (logicHeat s + d.terms.foldl (· + ·) 0) + heatBudget d.slug * 2 ^ 16) ∧
    t = { s with words := t.words, now := t.now, dwell := t.dwell }) ∧
  (∀ s : State, s.modes.mode = .ride → Completes .degradedOperationStart s s) ∧
  (∀ s : State, s.modes.mode ≠ .ride → s.flt.reqCtl = true →
    Completes .degradedOperationStart s
      (applyLimits { s with flt := { s.flt with degraded := true, degradePending := false } }))
/-- A report in a running mode is applied at its severity now; of an undefined ID nothing happens; in PARK and before the first
LESSON_TICK it waits with its freeze words. An event source ends one second after its last report, a condition does not. A flush
writes the buffer's entries to the ring, oldest first, at 16 entries at once and otherwise one second after the first, and reports
the entries lost. FLT_CLEAR keeps the LIMP and SAFE of severities still active. FLT_LOG_SEL latches the entry of an age, zeros beyond
the entries held. A Report Card sample steps each powered stage with its temperature; a flush copies the accumulators. LOG_READ and
RC_READ return nothing to a node whose privilege is below FLT_COLLECT_PRIV; to another, LOG_READ returns at most three entries from
the sequence asked up, and RC_READ a word of page 0x34. -/
def Obligations.FaultRows : Prop :=
  (∀ (id inst : Nat) (s : State), faultRow id = none → Completes (.faultReport id inst) s s) ∧
  (∀ (id inst : Nat) (x : FaultRow) (s : State), faultRow id = some x → s.modes.mode ≠ .park → s.started = true →
    Completes (.faultReport id inst) s (applyReport id inst (sevNow id s) (freezeWords id inst s) s)) ∧
  (∀ (id inst : Nat) (x : FaultRow) (s : State), faultRow id = some x → (s.modes.mode = .park ∨ s.started = false) →
    Completes (.faultReport id inst) s { s with flt := { s.flt with
      deferred := s.flt.deferred ++ [{ id := id, inst := inst, freeze := freezeWords id inst s, ended := false }] } }) ∧
  (∀ (id inst : Nat) (r : FaultRow) (x : FaultSrc) (s : State), faultRow id = some r →
    s.flt.srcs.find? (fun x => x.id == id && x.inst == inst && x.active) = some x →
    (r.kind = .event → Completes (.faultEventExpiry id inst) s (endFault id inst (s.reach (x.last + secP 1)))) ∧
    (r.kind ≠ .event → Completes (.faultEventExpiry id inst) s s)) ∧
  (∀ (id inst : Nat) (x : FaultSrc) (s : State), s.flt.srcs.find? (fun x => x.id == id && x.inst == inst && x.active) = some x →
    x.warned = false → srcActive id inst (endFault id inst s) = false) ∧
  (∀ s : State, s.flt.buf = [] → Completes .logFlush s s) ∧
  (∀ s : State, 0 < s.flt.buf.length → s.flt.buf.length < 16 → s.flt.lost = 0 → let u := s.reach (s.flt.bufAt + secP 1)
    Completes .logFlush s { u with flt := { u.flt with
      flash := s.flt.buf.foldl (fun r e => ringPush 4096 r e) s.flt.flash, buf := [], lost := 0 } }) ∧
  (∀ s : State, 16 ≤ s.flt.buf.length → s.flt.lost = 0 →
    Completes .logFlush s { s with flt := { s.flt with
      flash := s.flt.buf.foldl (fun r e => ringPush 4096 r e) s.flt.flash, buf := [], lost := 0 } }) ∧
  (∀ s : State, 16 ≤ s.flt.buf.length → s.flt.lost ≠ 0 →
    Completes .logFlush s (markLost s.flt.lost (report 0xE02 0 { s with flt := { s.flt with
      flash := s.flt.buf.foldl (fun r e => ringPush 4096 r e) s.flt.flash, buf := [], lost := 0 } }))) ∧
  (∀ (r : Requester) (s : State), mayWrite r Ix.FLT_CLEAR (noteRequest r s) = true →
    (valueOk Ix.FLT_CLEAR 1 (noteRequest r s) && crossWritten Ix.FLT_CLEAR 1 (noteRequest r s)) = true →
    let n := noteRequest r s
    let limp := s.flt.limp && anySeverity 4 n
    let safe := s.flt.safe && anySeverity 5 n
    (limp = s.flt.limp → safe = s.flt.safe → Completes (.fltClearWrite r 1) s n) ∧
    ((limp ≠ s.flt.limp ∨ safe ≠ s.flt.safe) →
      Completes (.fltClearWrite r 1) s (recompose (List.finRange 4) (serveAll (applyLimits
        { n with flt := { s.flt with limp := limp, safe := safe } }))))) ∧
  (∀ (r : Requester) (v : Word) (s : State), mayWrite r Ix.FLT_LOG_SEL (noteRequest r s) = true →
    (valueOk Ix.FLT_LOG_SEL v (noteRequest r s) && crossWritten Ix.FLT_LOG_SEL v (noteRequest r s)) = true →
    let age := (cleanValue Ix.FLT_LOG_SEL v).toNat % 4096
    Gives (.fltLogSelWrite r v) s fun t => t.word Ix.FLT_LOG_SEL = toWord age ∧
      (s.flt.flash.length ≤ age → ∀ k < 16, t.word (Ix.FLT_LOG_ENTRY k) = 0) ∧
      (age < s.flt.flash.length → ∀ k < 16,
        t.word (Ix.FLT_LOG_ENTRY k) = (s.flt.flash.getD (s.flt.flash.length - 1 - age) []).getD k 0) ∧
      t = { s with words := t.words, modes := (noteRequest r s).modes, dwell := t.dwell }) ∧
  (∀ (at_ erases : Nat) (temps : List (Nat × Int)) (s : State), let u := s.reach at_
    Completes (.reportCardSample at_ temps erases) s (judgeMetrics { u with flt := { u.flt with
      stages := (temps.filter fun x => stagePowered x.1 u).foldl (fun g x => g.modify x.1 (stageStep x.2)) u.flt.stages,
      eraseData := Nat.max u.flt.eraseData erases } })) ∧
  (∀ (t : Int) (g : Stage), g.fresh = false → g.armed = true → max g.peak t - 60 < t →
    stageStep t g = { g with peak := max g.peak t }) ∧
  (∀ (t : Int) (g : Stage), g.fresh = false → g.armed = true → t ≤ g.peak - 60 →
    (stageStep t g).units = g.units + swingWeight (g.peak - g.valley) ∧ (stageStep t g).armed = false) ∧
  (∀ (at_ : Nat) (s : State), let u := s.reach at_
    Completes (.reportCardFlush at_) s { u with flt := { u.flt with stagesFlash := u.flt.stages, cardAt := u.now } }) ∧
  (∀ (at_ : Nat) (f : FabFrame) (s : State), mayCollect f (s.reach at_) = false →
    Completes (.logRead at_ f) s (sendReply f 0x29 ([0, 0, 0, 0] ++ leBytes (leAt f.payload 0 4) 4 ++ [0, 0, 0, 0]) (s.reach at_)) ∧
    Completes (.rcRead at_ f) s (sendReply f 0x2B ([0, 0, 0, 0] ++ leBytes (leAt f.payload 0 1) 1 ++ [0, 0, 0]) (s.reach at_))) ∧
  (∀ (at_ : Nat) (f : FabFrame) (es : List (List Word)) (e : List Word) (s : State), mayCollect f (s.reach at_) = true →
    es = (s.flt.flash.filter fun e => decide (leAt f.payload 0 4 ≤ (e.getD 1 0).toNat)).take (Nat.min 3 (leAt f.payload 4 1)) →
    es.getLast? = some e →
    Completes (.logRead at_ f) s (sendReply f 0x29 ([0, 0, 0, 0] ++ leBytes ((e.getD 1 0).toNat + 1) 4 ++ leBytes es.length 1
      ++ [0, 0, 0] ++ (es.map fun e => (e.map fun w => leBytes w.toNat 4).flatten).flatten) (s.reach at_))) ∧
  (∀ (at_ : Nat) (f : FabFrame) (s : State), let u := s.reach at_
    mayCollect f u = true → leAt f.payload 1 1 = 1 →
    Completes (.rcRead at_ f) s (sendReply f 0x2B ([0, 0, 0, 0] ++ leBytes (leAt f.payload 0 1) 1 ++ [1, 0, 0]
      ++ leBytes (u.view (0x3400 + leAt f.payload 0 1)).toNat 4) u))

/-- HSPI_SEND of a frame that is short, cut or fails its CRC is dropped and counted with CRCERR set; of a good frame into a full
queue is dropped and counted with FULL set; of a good one with room joins the queue behind the waiting commands, and one whose CMD or
length no command has, at the front, is answered at once. HSPI_FETCH shifts out the status word and the oldest reply, which leaves the
queue once the whole of it was shifted; HSPI_STATUS the status word alone; each clears CRCERR and FULL. An unknown opcode is counted. A
transaction in STANDBY whose first clock edge comes too soon shifts out FFs and is counted. PING echoes its bytes. HOST_RESET empties
the port and answers its own entry, and a select line stuck low empties it. A write to HST_IRQ_CAUSE clears the causes it names, and
READY is set again while a reply waits. -/
def Obligations.HostPortRows : Prop :=
  (∀ (at_ sck : Nat) (fr : List Byte) (whole : Bool) (s : State), hspiOn s = true → tooEarly sck (s.reach at_) = false →
    let u := leaveStandby (s.reach at_)
    ((whole = false ∨ frameOk 4112 fr = false) → Completes (.hspiSend at_ sck fr whole) s
      (updHst (fun h => { h with crcErr := true }) (u.bump Ix.HST_COUNTS 0 8))) ∧
    (whole = true → frameOk 4112 fr = true → 32 ≤ u.hst.queue.length + u.hst.replies.length →
      Completes (.hspiSend at_ sck fr whole) s (updHst (fun h => { h with full := true }) (u.bump Ix.HST_COUNTS 8 8))) ∧
    (whole = true → frameOk 4112 fr = true → u.hst.queue.length + u.hst.replies.length < 32 →
      (∀ e ∈ u.hst.queue ++ [entryOf fr], entryError e = 0) →
      Completes (.hspiSend at_ sck fr whole) s { u with hst := { u.hst with queue := u.hst.queue ++ [entryOf fr] } }) ∧
    (whole = true → frameOk 4112 fr = true → u.hst.replies.length < 32 → u.hst.queue = [] → entryError (entryOf fr) ≠ 0 →
      Completes (.hspiSend at_ sck fr whole) s
        (hostReply (entryOf fr).cmd (entryError (entryOf fr)) [] { u with hst := { u.hst with queue := [entryOf fr] } }))) ∧
  (∀ (at_ sck : Nat) (fr : List Byte) (fs : List (List Byte)) (s : State), hspiOn s = true → tooEarly sck (s.reach at_) = false →
    let u := leaveStandby (s.reach at_)
    (u.hst.replies = fr :: fs →
      Completes (.hspiFetch at_ sck true) s { u with hst := { u.hst with
        replies := fs, out := leBytes (statusWord u) 4 ++ fr, crcErr := false, full := false } } ∧
      Completes (.hspiFetch at_ sck false) s { u with hst := { u.hst with
        out := leBytes (statusWord u) 4 ++ fr, crcErr := false, full := false } }) ∧
    (∀ whole, u.hst.replies = [] → Completes (.hspiFetch at_ sck whole) s { u with hst := { u.hst with
      out := leBytes (statusWord u) 4, crcErr := false, full := false } }) ∧
    Completes (.hspiStatus at_ sck) s { u with hst := { u.hst with out := leBytes (statusWord u) 4, crcErr := false, full := false } } ∧
    Completes (.hspiUnknownOpcode at_ sck) s (u.bump Ix.HST_COUNTS 16 8)) ∧
  (∀ (at_ sck : Nat) (fr : List Byte) (whole : Bool) (s : State), hspiOn s = true → tooEarly sck (s.reach at_) = true →
    let u := updHst (fun h => { h with out := [0xFF, 0xFF, 0xFF, 0xFF] }) ((leaveStandby (s.reach at_)).bump Ix.HST_COUNTS 16 8)
    Completes (.hspiStatus at_ sck) s u ∧ Completes (.hspiFetch at_ sck whole) s u ∧ Completes (.hspiSend at_ sck fr whole) s u ∧
    Completes (.hspiUnknownOpcode at_ sck) s u) ∧
  (∀ (bytes : List Byte) (e : HostEntry) (s : State), s.hst.queue = [e] → e.cmd = 1 → s.hst.carried = [] →
    Gives (.ping bytes) s fun t => t.hst.replies = s.hst.replies ++ [hostFrame 1 e.tag 0 (statusHead 0 ++ bytes.take 256)] ∧
      t.hst.queue = [] ∧ t.flag Ix.HST_IRQ_CAUSE 0 = true ∧ (∀ i, i ≠ Ix.HST_IRQ_CAUSE → t.word i = s.word i) ∧
      t = { s with words := t.words, hst := t.hst, modes := (noteRequest .host s).modes, dwell := t.dwell }) ∧
  (∀ s : State, s.hst.queue.find? (·.cmd == 0x0F) = none → Completes .hostReset s (hostPortReset (noteRequest .host s))) ∧
  (∀ (e : HostEntry) (s : State), s.hst.queue.find? (·.cmd == 0x0F) = some e → Completes .hostReset s
    (hostDone 0x0F 0 [] (updHst (fun h => { h with queue := [e] }) (hostPortReset (noteRequest .host s))))) ∧
  (∀ (at_ : Nat) (s : State),
    Gives (.hspiCsStuckLow at_) s fun t => t.hst.queue = [] ∧ t.hst.replies = [] ∧ (t.sec.parties[(0 : Fin 5)]).priv = 0 ∧
      t.bn.hostWritten = [] ∧ t.word Ix.MODE_HOST_STAY = 0 ∧ t.word Ix.HST_IRQ_CAUSE = 0) ∧
  (∀ (r : Requester) (v : Word) (s : State), mayWrite r Ix.HST_IRQ_CAUSE (noteRequest r s) = true → s.hst.replies = [] →
    Completes (.hstIrqCauseWrite r v) s ((noteRequest r s).put Ix.HST_IRQ_CAUSE
      (s.word Ix.HST_IRQ_CAUSE &&& ~~~ cleanValue Ix.HST_IRQ_CAUSE v))) ∧
  (∀ (r : Requester) (v : Word) (s : State), mayWrite r Ix.HST_IRQ_CAUSE (noteRequest r s) = true → s.hst.replies ≠ [] →
    Gives (.hstIrqCauseWrite r v) s fun t => t.flag Ix.HST_IRQ_CAUSE 0 = true)

/-- AUTH CHALLENGE draws a challenge, or answers BUSY while refusals last or the entropy source is not healthy; RESPOND spends it,
and a response in time that meets the checks of R480 gives its privilege; DROP leaves privilege 0. IMG_BEGIN opens a session, resumes
a suspended one of the same size and hash, and is refused where its conditions refuse; IMG_WRITE stores a block that fits; a progress
query answers the record; IMG_END with every byte and the right hash completes the session and with the wrong hash drops what was
received; IMG_ABORT and the expiry 30 days after the last command discard it. KEY_STAGE outside WORKSHOP answers 0x20, below MAKER
stages nothing, and otherwise stages a block that fits and answers the next expected offset, without data that offset alone. -/
def Obligations.ImageSessionRows : Prop :=
  (∀ s : State, let n := noteRequest .host s
    ((lockedOut 0 n = true ∨ n.sec.entropyOk = false) → Completes .authChallenge s (hostDone 0x05 1 (authBytes n) n)) ∧
    (lockedOut 0 n = false → n.sec.entropyOk = true → Completes .authChallenge s
      (hostDone 0x05 0 (authBytes (issueChallenge 0 n).2 ++ Config.drbg s.sec.drbg 32) (issueChallenge 0 n).2)) ∧
    (issueChallenge 0 n).2.sec.drbg = s.sec.drbg + 1 ∧
    ((issueChallenge 0 n).2.sec.parties[(0 : Fin 5)]).challenge = some (Config.drbg s.sec.drbg 32, s.now)) ∧
  (∀ (resp : List Byte) (s : State), let a := respond 0 resp (noteRequest .host s)
    Completes (.authRespond resp) s (hostDone 0x05 0 (authBytes a.2) a.2) ∧ (a.2.sec.parties[(0 : Fin 5)]).challenge = none) ∧
  (∀ (c resp : List Byte) (t : Nat) (s : State), (s.sec.parties[(0 : Fin 5)]).challenge = some (c, t) → s.now < t + secP 10 →
    credentialOk 0 c resp s = true →
    (respond 0 resp s).1 = true ∧ ((respond 0 resp s).2.sec.parties[(0 : Fin 5)]).priv = leAt resp 6 1) ∧
  (∀ s : State, let t := dropPriv 0 (noteRequest .host s)
    Completes .authDrop s (hostDone 0x05 0 (authBytes t) t) ∧ (t.sec.parties[(0 : Fin 5)]).priv = 0) ∧
  (∀ (total : Nat) (rep : Bool) (sha : List Byte) (s : State), let n := noteRequest .host s
    (∀ st, imgRefusal n = some st → Completes (.imgBegin total rep sha) s (imgReply 0x10 st (progressNow n) n)) ∧
    (imgRefusal n = none → n.upd.session = none → 16 ≤ total → total ≤ 8388608 → (sprigWork n = false ∨ rep = true) →
      Completes (.imgBegin total rep sha) s
        (imgReply 0x10 0 (progressNow (imgOpen false total (some sha) n)) (imgOpen false total (some sha) n))) ∧
    (∀ x, imgRefusal n = none → n.upd.session = some x → x.st = 2 → x.total = total → x.sha = some sha →
      let u := raiseIrq 4 (updImg (fun y => { y with st := 1, uds := false, at_ := n.now }) n)
      Completes (.imgBegin total rep sha) s (imgReply 0x10 0 (progressNow u) u))) ∧
  (∀ (total : Nat) (sha : List Byte) (s : State),
    (imgOpen false total (some sha) s).upd.session =
      some { uds := false, total := total, sha := some sha, got := [], st := 1, at_ := s.now } ∧
    (imgOpen false total (some sha) s).upd.st = 1) ∧
  (∀ (off : Nat) (data : List Byte) (x : ImgSession) (s : State), let n := noteRequest .host s
    imgRefusal n = none → n.upd.session = some x → x.st = 1 → x.uds = false → blockFits off data.length x.total = true →
    let u := updUpd (fun y => { y with
      bankS := programUnits off data x.got y.bankS,
      session := some { x with got := addUnits x.got (off / 16) (ceilDiv (off + data.length) 16), at_ := n.now } }) n
    Completes (.imgWrite off data) s (imgReply 0x11 0 (progressNow u) u)) ∧
  (∀ (off : Nat) (data : List Byte) (s : State), let n := noteRequest .host s
    imgRefusal n = none → n.upd.session = none → Completes (.imgWrite off data) s (imgReply 0x11 0x42 (progressNow n) n)) ∧
  (∀ (x : ImgSession) (s : State), let t := touchImg (noteRequest .host s)
    s.upd.session = some x → Completes .imgProgressQuery s (hostDone 0x11 0 (progressRecord x) t)) ∧
  (∀ (x : ImgSession) (h : List Byte) (s : State), let t := touchImg (noteRequest .host s)
    s.upd.session = some x → x.st = 1 → x.uds = false → x.total ≤ imgNext x → x.sha = some h →
    (Config.sha256 (memRead s.upd.bankS 0 x.total) = h → Completes .imgEnd s
      (hostDone 0x12 0 [] (raiseIrq 4 (bankState 5 (updImg (fun y => { y with st := 3, sha := some h }) t))))) ∧
    (Config.sha256 (memRead s.upd.bankS 0 x.total) ≠ h → Completes .imgEnd s
      (hostDone 0x12 0x43 [] (updImg (fun y => { y with got := [] }) t)))) ∧
  (∀ (x : ImgSession) (s : State), s.upd.session = some x → (x.st = 2 ∨ (x.st = 1 ∧ x.uds = false)) →
    Completes .imgAbort s (hostDone 0x13 0 [] (raiseIrq 4 (bankFree (noteRequest .host s))))) ∧
  (∀ (x : ImgSession) (s : State), s.upd.session = some x → x.st = 2 →
    Completes .imgSessionExpiry s (raiseIrq 4 (bankFree (s.reach (x.at_ + secP (30 * 86400)))))) ∧
  (∀ (off : Nat) (data : List Byte) (s : State), let n := noteRequest .host s
    (s.modes.mode ≠ .workshop → Completes (.keyStage off data) s (hostDone 0x14 0x20 [0, 0, 0, 0] n)) ∧
    (s.modes.mode = .workshop → privOf .host n < 2 → Completes (.keyStage off data) s (hostDone 0x14 0 [0, 0, 0, 0] n)) ∧
    (s.modes.mode = .workshop → 2 ≤ privOf .host n → data = [] →
      Completes (.keyStage off data) s (hostDone 0x14 0 (leBytes (stagedNext n) 4) n)) ∧
    (s.modes.mode = .workshop → 2 ≤ privOf .host n → data ≠ [] → blockFits off data.length 262144 = false →
      Completes (.keyStage off data) s (hostDone 0x14 5 (leBytes (stagedNext n) 4) n)) ∧
    (s.modes.mode = .workshop → 2 ≤ privOf .host n → data ≠ [] → blockFits off data.length 262144 = true →
      let u := { n with boot := { n.boot with
        staging := programUnits off data n.boot.staged n.boot.staging,
        staged := addUnits n.boot.staged (off / 16) (ceilDiv (off + data.length) 16) } }
      Completes (.keyStage off data) s (hostDone 0x14 0 (leBytes (stagedNext u) 4) u)))

/-- A service whose gate refuses it answers that code and has no other effect. SessionControl opens the session on its channel,
unless another channel holds one (0x22); S3 ends it with its download, results and frozen records. A transport time-out ends what it
watched. TesterPresent and unknown services are answered. ECUReset restarts the device or the application pair. The fault memory is
counted, listed, read record by record and cleared; DTC setting stops and restarts it. Data identifiers are read together and written
singly, an identifier out of range being 0x31. CommunicationControl stops and restarts the channel's frames. -/
def Obligations.UdsServiceRows : Prop :=
  (∀ (c : Can) (sid sub sess priv n : Nat) (ok : Bool) (f : State → State) (s : State),
    udsGate c sid sub sess ok priv (udsStart c sid s) = some n → udsService c sid sub sess ok priv f s = udsNeg c sid n (udsStart c sid s)) ∧
  (∀ (c : Can) (body : List Byte) (sub : Nat) (s : State), let t := udsStart c 0x10 s
    body.length = 1 → leAt body 0 1 % 128 = sub → sub = 2 ∨ sub = 3 → scrappedRefuses 0x10 sub t = false →
    (s.uds.session = 1 ∨ s.uds.chan = c.val → Gives (.udsSessionControl c body) s fun u =>
      u.uds.session = sub ∧ u.uds.chan = c.val ∧ u.uds.lastAt = s.now) ∧
    (s.uds.session ≠ 1 → s.uds.chan ≠ c.val → Completes (.udsSessionControl c body) s (udsNeg c 0x10 0x22 t))) ∧
  (∀ s : State, s.uds.session = 1 → Completes .udsS3Timeout s s) ∧
  (∀ s : State, s.uds.session ≠ 1 → Gives .udsS3Timeout s fun u =>
    u.uds.session = 1 ∧ u.uds.dl = none ∧ u.uds.results = [] ∧ u.flt.frozen = false ∧
    u.now = Nat.max s.now (s.uds.lastAt + secP 5)) ∧
  (∀ (c : Can) (x : IsoTx) (s : State), (s.uds.chans[c]).tx = some x → x.waitFc = true → (s.uds.chans[c]).out = [] →
    Completes (.isotpTimeout c 0) s (updIso c (fun y => { y with tx := none }) (s.reach (x.at_ + msP 150)))) ∧
  (∀ (c : Can) (x : IsoRx) (s : State),
    ((s.uds.chans[c]).rx = some x →
      Completes (.isotpTimeout c 1) s (updIso c (fun y => { y with rx := none }) (s.reach (x.at_ + msP 150)))) ∧
    ((s.uds.chans[c]).sprig = some x →
      Completes (.isotpTimeout c 2) s (updIso c (fun y => { y with sprig := none }) (s.reach (x.at_ + msP 150))))) ∧
  (∀ (c : Can) (s : State),
    Completes (.testerPresent c [0]) s (udsPos c 0x3E [0] (udsStart c 0x3E s)) ∧
    Completes (.testerPresent c [0x80]) s (udsStart c 0x3E s)) ∧
  (∀ (c : Can) (sid : Byte) (s : State), knownSid sid.toNat = false →
    Completes (.udsUnsupportedService c sid) s (udsNeg c sid.toNat 0x11 (udsStart c sid.toNat s))) ∧
  (∀ (c : Can) (sp : Bool) (k : StartInput) (s : State), let t := udsStart c 0x11 s
    (udsGate c 0x11 1 progExt true 1 t = none →
      Completes (.ecuResetHard c sp [] k) s (deviceReset k (if sp then t else udsPos c 0x11 [1] t))) ∧
    (udsGate c 0x11 3 progExt true 1 t = none →
      Completes (.ecuResetSoft c sp []) s (appStop (if sp then t else udsPos c 0x11 [3] t)))) ∧
  (∀ (c : Can) (m : Byte) (s : State), let t := udsStart c 0x19 s
    let hit := t.flt.dtcs.filter fun d => dtcStatus d t &&& m.toNat != 0
    (udsGate c 0x19 1 allSess true 0 t = none →
      Completes (.readDtcCountByStatus c [m]) s (udsPos c 0x19 ([1, 0x2D, 1] ++ beBytes hit.length 2) t)) ∧
    (udsGate c 0x19 2 allSess true 0 t = none →
      Completes (.readDtcByStatus c [m]) s (udsPos c 0x19 ([2, 0x2D] ++ hit.flatMap fun d => dtcBytes d t) t)) ∧
    (udsGate c 0x19 0x0A allSess true 0 t = none →
      Completes (.readDtcSupported c []) s (udsPos c 0x19 ([0x0A, 0x2D] ++ t.flt.dtcs.flatMap fun d => dtcBytes d t) t))) ∧
  (∀ (c : Can) (body : List Byte) (d : Dtc) (s : State), let t := udsStart c 0x19 s
    udsGate c 0x19 6 allSess (body.length == 4) 0 t = none →
    ((t.flt.dtcs.find? fun d => dtcNumber d == beNat (body.take 3)) = some d → leAt body 3 1 = 0xFF →
      Completes (.readDtcExtData c body) s (udsPos c 0x19 ([6] ++ dtcBytes d t ++
        ([0x01] ++ beBytes (Nat.min 65535 d.count) 2 ++ ([0x02] ++ beBytes d.firstRtc 4 ++ beBytes d.lastRtc 4))) t)) ∧
    ((t.flt.dtcs.find? fun d => dtcNumber d == beNat (body.take 3)) = none →
      Completes (.readDtcExtData c body) s (udsNeg c 0x19 0x31 t))) ∧
  (∀ (c : Can) (s : State), let t := udsStart c 0x14 s
    udsGate c 0x14 0 (2 ^ 3) true 1 t = none →
    Completes (.clearDtc c [0xFF, 0xFF, 0xFF]) s (udsPos c 0x14 [] (clearDtcs t)) ∧ (clearDtcs t).flt.dtcs = [] ∧
    Completes (.clearDtc c [0, 0, 0]) s (udsNeg c 0x14 0x31 t)) ∧
  (∀ (c : Can) (s : State), let t := udsStart c 0x85 s
    (udsGate c 0x85 1 (2 ^ 3) true 1 t = none →
      Completes (.dtcSettingOn c true []) s { t with flt := { t.flt with frozen := false } }) ∧
    (udsGate c 0x85 2 (2 ^ 3) true 1 t = none →
      Completes (.dtcSettingOff c true []) s { t with flt := { t.flt with frozen := true } })) ∧
  (∀ (c : Can) (body : List Byte) (s : State), let t := udsStart c 0x22 s
    let ids := (chunks 2 body).map beNat
    udsGate c 0x22 0 allSess (body.length % 2 == 0 && decide (1 ≤ ids.length) && decide (ids.length ≤ 16)) 0 t = none →
    (ids.all readableId = true → Completes (.readDataById c body) s (udsPos c 0x22 (readIds c ids t).1 (readIds c ids t).2)) ∧
    (ids.all readableId = false → Completes (.readDataById c body) s (udsNeg c 0x22 0x31 t))) ∧
  (∀ (c : Can) (body : List Byte) (s : State), let t := udsStart c 0x2E s
    let d := beNat (body.take 2)
    let a := writeFree (.tester c) (d - 0x4000) (toWord (beNat (body.drop 2))) t
    udsGate c 0x2E 0 progExt (body.length == 6) 0 t = none →
    ((d < 0x4000 ∨ 0x8000 ≤ d) → Completes (.writeDataById c body) s (udsNeg c 0x2E 0x31 t)) ∧
    (0x4000 ≤ d → d < 0x8000 → a.1 = 0 → Completes (.writeDataById c body) s (udsPos c 0x2E (body.take 2) a.2)) ∧
    (0x4000 ≤ d → d < 0x8000 → a.1 ≠ 0 → Completes (.writeDataById c body) s (udsNeg c 0x2E 0x31 a.2))) ∧
  (∀ (c : Can) (typ : Byte) (s : State), let t := udsStart c 0x28 s
    typ = 1 ∨ typ = 3 →
    (udsGate c 0x28 0 (2 ^ 3) true 1 t = none → Completes (.commEnableRxTx c true [typ]) s
      (updCan c (fun x => { x with noTx := false, noRx := false }) t)) ∧
    (udsGate c 0x28 1 (2 ^ 3) true 1 t = none → Completes (.commEnableRxDisableTx c true [typ]) s
      (updCan c (fun x => { x with noTx := true, noRx := false }) t)) ∧
    (udsGate c 0x28 3 (2 ^ 3) true 1 t = none → Completes (.commDisableRxTx c true [typ]) s
      (updCan c (fun x => { x with noTx := true, noRx := true }) t)))

/-- A seed of level 1 is drawn while the SA1 key is loaded, and zeros where the level is held; the right key raises the privilege
and a wrong one does not, with the seed spent. Level 3 answers a challenge and judges the response. A download opens its session or
its staging; the next block is stored and counted, a repeated one answered again, one out of order refused with 0x73; the exit of a
key download ends it. Results of a routine are those kept at its end. Activation and discard run as routines and as writes of
UPD_CMD. Routines that load into the key store run in WORKSHOP; a load that is not accepted is refused as a whole with 0x31, KEY_LOAD
outside WORKSHOP with 0x22. LC_CHANGE without its privilege is refused with 0x33; with it, its guard and an allowed target the
transition is carried out and the device starts. -/
def Obligations.UdsAccessAndRoutines : Prop :=
  (∀ (c : Can) (s : State), let t := udsStart c 0x27 s
    udsGate c 0x27 1 progExt true 0 t = none →
    (((keySlot 0 t).key.isNone || t.flag Ix.SEC_CFG 0) = true → Completes (.saRequestSeedL1 c []) s (udsNeg c 0x27 0x12 t)) ∧
    (((keySlot 0 t).key.isNone || t.flag Ix.SEC_CFG 0) = false → 1 ≤ privOf (.tester c) t →
      Completes (.saRequestSeedL1 c []) s (udsPos c 0x27 ([1] ++ List.replicate 16 0) t)) ∧
    (((keySlot 0 t).key.isNone || t.flag Ix.SEC_CFG 0) = false → privOf (.tester c) t = 0 → seedRefusal c t = none →
      let seed := Config.drbg s.sec.drbg 16
      Completes (.saRequestSeedL1 c []) s (udsPos c 0x27 ([1] ++ seed)
        (updParty (testerParty c) (fun p => { p with seed := some seed }) (draw 16 t).2)))) ∧
  (∀ (c : Can) (key seed sa1 : List Byte) (s : State), let t := udsStart c 0x27 s
    let w := testerParty c
    udsGate c 0x27 2 progExt (key.length == 16) 0 t = none → (s.sec.parties[w]).seed = some seed → (keySlot 0 s).key = some sa1 →
    (Config.aesCmac sa1 (seed ++ leBytes Config.serial.toNat 8) = key → Gives (.saSendKeyL1 c key) s fun u =>
      (u.sec.parties[w]).priv = Nat.max 1 (s.sec.parties[w]).priv ∧ (u.sec.parties[w]).seed = none) ∧
    (Config.aesCmac sa1 (seed ++ leBytes Config.serial.toNat 8) ≠ key → Gives (.saSendKeyL1 c key) s fun u =>
      (u.sec.parties[w]).priv = (s.sec.parties[w]).priv ∧ (u.sec.parties[w]).seed = none)) ∧
  (∀ (c : Can) (s : State), let t := udsStart c 0x27 s
    udsGate c 0x27 3 progExt true 0 t = none → privOf (.tester c) t < 2 → seedRefusal c t = none →
    Completes (.saRequestSeedL3 c []) s (udsPos c 0x27 ([3] ++ Config.drbg s.sec.drbg 32) (issueChallenge (testerParty c) t).2)) ∧
  (∀ (c : Can) (resp ch : List Byte) (at_ : Nat) (s : State), let t := udsStart c 0x27 s
    udsGate c 0x27 4 progExt (resp.length == 252) 0 t = none →
    ((s.sec.parties[testerParty c]).challenge = some (ch, at_) → s.now < at_ + secP 10 → (respond (testerParty c) resp t).1 = true →
      Completes (.saSendKeyL3 c resp) s (udsPos c 0x27 [4] (respond (testerParty c) resp t).2)) ∧
    ((s.sec.parties[testerParty c]).challenge = none → Completes (.saSendKeyL3 c resp) s (udsNeg c 0x27 0x24 t))) ∧
  (∀ (c : Can) (body : List Byte) (s : State), let t := udsStart c 0x34 s
    udsGate c 0x34 0 (2 ^ 2) (downloadLen body) 2 t = none → leAt body 0 1 = 0 →
    (dlAddr body = 0 → (imgBegin true (dlSize body) false none t).1 = 0 →
      let u := (imgBegin true (dlSize body) false none t).2
      ∃ off, Completes (.requestDownloadImage c body) s (udsPos c 0x34 ([0x20] ++ beBytes 4082 2)
        (updUds (fun x => { x with dl := some { key := false, next := 1, last := none, offset := off, total := dlSize body } }) u))) ∧
    (dlAddr body = 2 ^ 28 → 1 ≤ dlSize body → dlSize body ≤ 262144 → t.modes.mode = .workshop →
      Completes (.requestDownloadKey c body) s (udsPos c 0x34 ([0x20] ++ beBytes 4082 2) { t with
        uds := { t.uds with dl := some { key := true, next := 1, last := none, offset := 0, total := dlSize body } } })) ∧
    (dlAddr body = 2 ^ 28 → 1 ≤ dlSize body → dlSize body ≤ 262144 → t.modes.mode ≠ .workshop →
      Completes (.requestDownloadKey c body) s (udsNeg c 0x34 0x70 t))) ∧
  (∀ (c : Can) (n : Byte) (data : List Byte) (d : Download) (s : State), let t := udsStart c 0x36 s
    udsGate c 0x36 0 (2 ^ 2) (transferLen (n :: data) s) 2 t = none → s.uds.dl = some d →
    (d.next = n.toNat → d.offset + data.length ≤ d.total → (transferBlock d data t).1 = 0 →
      Completes (.transferData c (n :: data)) s (udsPos c 0x36 [n] (updUds (fun u => { u with
        dl := some { d with next := (n.toNat + 1) % 256, last := some n.toNat, offset := d.offset + data.length } })
        (transferBlock d data t).2))) ∧
    (d.next ≠ n.toNat → d.last = some n.toNat → Completes (.transferData c (n :: data)) s (udsPos c 0x36 [n] t)) ∧
    (d.next ≠ n.toNat → d.last ≠ some n.toNat → d.offset + data.length ≤ d.total →
      Completes (.transferData c (n :: data)) s (udsNeg c 0x36 0x73 t))) ∧
  (∀ (c : Can) (d : Download) (s : State), let t := udsStart c 0x37 s
    udsGate c 0x37 0 (2 ^ 2) true 2 t = none →
    (s.uds.dl = some d → d.key = true →
      Completes (.requestTransferExit c []) s (udsPos c 0x37 [] (updUds (fun u => { u with dl := none }) t))) ∧
    (s.uds.dl = none → Completes (.requestTransferExit c []) s (udsNeg c 0x37 0x24 t))) ∧
  (∀ (c : Can) (body r : List Byte) (s : State), let t := udsStart c 0x31 s
    udsGate c 0x31 3 progExt (body.length == 2) 0 t = none → knownRoutine (beNat body) = true →
    (s.uds.results.lookup (beNat body) = some r →
      Completes (.routineResults c body) s (udsPos c 0x31 ([3] ++ beBytes (beNat body) 2 ++ r) t)) ∧
    (s.uds.results.lookup (beNat body) = none → Completes (.routineResults c body) s (udsNeg c 0x31 0x24 t))) ∧
  (∀ (c : Can) (s : State), let t := udsStart c 0x31 s
    udsGate c 0x31 1 progExt true 0 t = none →
    (∀ sha, sha.length = 32 → Completes (.routineImageSha c sha) s
      (routineDone c 0xF110 [] (updUds (fun u => { u with sha := some sha }) t))) ∧
    (∀ x, s.upd.session = some x → Completes (.routineProgress c []) s (routineDone c 0xF111 (progressRecord x) (touchImg t))) ∧
    (s.upd.session = none → Completes (.routineProgress c []) s (udsNeg c 0x31 0x24 t)) ∧
    Completes (.updStatus c []) s (routineDone c 0xF300 (leBytes (t.view Ix.UPD_STATE).toNat 4 ++
      leBytes (t.view Ix.UPD_BUNCH_ID).toNat 4 ++ leBytes (t.view Ix.UPD_PROGRESS).toNat 4 ++ leBytes (t.view Ix.UPD_LAST).toNat 4) t) ∧
    (∀ nonce d, nonce.length = 32 → s.sec.device = some d → Completes (.attest c nonce) s (routineDone c 0xF405
      (Config.publicKey d ++ Config.ecdsaSign d (nonce ++ leBytes Config.serial.toNat 8)) t)) ∧
    Completes (.certCheck c []) s (routineDone c 0xF406 (leBytes (t.view Ix.SEC_CERT).toNat 4) t)) ∧
  (∀ (c : Can) (k : Byte) (s : State), let t := udsStart c 0x31 s
    udsGate c 0x31 1 progExt true 1 t = none →
    (k.toNat ≤ 3 → Completes (.updBitmap c [k]) s (routineDone c 0xF301 (bitmapSlice s.upd.bunch k.toNat t) t)) ∧
    (3 < k.toNat → Completes (.updBitmap c [k]) s (udsNeg c 0x31 0x31 t))) ∧
  (∀ s : State, (activationReady s = true → s.modes.mode = .workshop → hallPass s = true → updCommand 1 s = (0, writeIntent s)) ∧
    ((activationReady s = false ∨ s.modes.mode ≠ .workshop ∨ hallPass s = false) → (updCommand 1 s).1 = 5) ∧
    (s.upd.st ≠ 1 → s.upd.st ≠ 0 → updCommand 2 s = (0, discardBunch 8 s)) ∧ (s.upd.st = 1 → updCommand 2 s = (5, s))) ∧
  (∀ (r : Requester) (now_ : Bool) (k : StartInput) (s : State), let n := noteRequest r s
    mayWrite r Ix.UPD_CMD n = true →
    ((valueOk Ix.UPD_CMD 1 n && crossWritten Ix.UPD_CMD 1 n) = true →
      Completes (.updActivate r true now_ k) s (updCommand 1 n).2) ∧
    ((valueOk Ix.UPD_CMD 2 n && crossWritten Ix.UPD_CMD 2 n) = true → Completes (.updDiscard r true) s (updCommand 2 n).2)) ∧
  (∀ (c : Can) (k : StartInput) (s : State), let t := udsStart c 0x31 s
    udsGate c 0x31 1 progExt true 2 t = none →
    ((updCommand 1 t).1 = 0 →
      Completes (.updActivate (.tester c) false false k) s (routineDone c 0xF302 [0] (updCommand 1 t).2) ∧
      Completes (.updActivate (.tester c) false true k) s (deviceReset k (routineDone c 0xF302 [0] (updCommand 1 t).2))) ∧
    ((updCommand 1 t).1 ≠ 0 → Completes (.updActivate (.tester c) false false k) s (udsNeg c 0x31 0x22 (updCommand 1 t).2)) ∧
    ((updCommand 2 t).1 = 0 → Completes (.updDiscard (.tester c) false) s (routineDone c 0xF303 [0] (updCommand 2 t).2)) ∧
    (t.modes.mode = .workshop → ∀ v, v.length = 24 → Completes (.adoptPermit c v) s
      (routineDone c 0xF401 [0] (updSec (fun x => { x with permit := some (v, t.rtcNow) }) t))) ∧
    (t.modes.mode = .workshop → ∀ o u, o.length = 140 → signerLoad o t = some u →
      Completes (.signerLoad c o) s (routineDone c 0xF402 [0] u)) ∧
    (t.modes.mode = .workshop → ∀ o, o.length = 140 → signerLoad o t = none → Completes (.signerLoad c o) s (udsNeg c 0x31 0x31 t)) ∧
    (t.modes.mode = .workshop → ∀ o u, o.length = 72 + 4 * leAt o 4 1 → revoke o t = some u →
      Completes (.revoke c o) s (routineDone c 0xF403 [0] u)) ∧
    (t.modes.mode = .workshop → ∀ o u, o.length = 48 → keyLoad o t = some u →
      Completes (.keyLoad c o) s (routineDone c 0xF404 [0] u)) ∧
    (t.modes.mode ≠ .workshop → ∀ o, o.length = 48 → Completes (.keyLoad c o) s (udsNeg c 0x31 0x22 t))) ∧
  (∀ (c : Can) (body : List Byte) (k : StartInput) (s : State), let t := udsStart c 0x31 s
    udsGate c 0x31 1 progExt (body.length == 2) 0 t = none →
    (lcPrivileged c (leAt body 0 1) t = false → Completes (.lcChange c body k) s (udsNeg c 0x31 0x33 t)) ∧
    (lcPrivileged c (leAt body 0 1) t = true → lcGuard c (leAt body 0 1) t = true → lcAllowed (leAt body 0 1) t = true →
      k.cut = none →
      let i : Intent := {
        src := t.life.code, target := leAt body 0 1, spare := leAt body 1 1 % 2 == 1, seq := 0, requester := 1 + c.val * 4,
        seed := [] }
      Completes (.lcChange c body k) s (deviceReset k (transition i none (dropAll t)).2)))

/-- A credential past its end on a valid RTC leaves privilege 0; a lockout ends 10 s after it began, and so does a challenge; a
permit ends 24 h after it was given. An authenticated command frame of the wrong shape is counted; one whose freshness lies outside
the window is refused; one whose code is right is accepted; one whose code is wrong is refused. A failed health test takes
the entropy source out and raises its fault, a passed one ends it; the generator is seeded afresh after 2^20 requests, not before. -/
def Obligations.CredentialRows : Prop :=
  (∀ (w : Fin 5) (u secs at_ : Nat) (s : State), (s.sec.parties[w]).validUntil = some u → s.pw.rtc = some (secs, at_) →
    Completes (.credentialExpiry w) s (dropPriv w (s.reach (at_ + secP (u + 1 - secs)))) ∧
    ((dropPriv w (s.reach (at_ + secP (u + 1 - secs)))).sec.parties[w]).priv = 0) ∧
  (∀ (w : Fin 5) (s : State), (s.sec.parties[w]).validUntil = none ∨ s.pw.rtc = none → Completes (.credentialExpiry w) s s) ∧
  (∀ (w : Fin 5) (t : Nat) (s : State), (s.sec.parties[w]).lockedAt = some t →
    Completes (.authLockoutExpiry w) s (updParty w (fun p => { p with lockedAt := none }) (s.reach (t + secP 10)))) ∧
  (∀ (c : Can) (t : Nat) (s : State), (s.sec.parties[testerParty c]).lockedAt = some t →
    Completes (.saDelayExpiry c) s (updParty (testerParty c) (fun p => { p with lockedAt := none }) (s.reach (t + secP 10)))) ∧
  (∀ (w : Fin 5) (ch : List Byte) (t : Nat) (s : State), (s.sec.parties[w]).challenge = some (ch, t) →
    Completes (.challengeExpiry w) s (updParty w (fun p => { p with challenge := none }) (s.reach (t + secP 10)))) ∧
  (∀ (v : List Byte) (t secs at_ : Nat) (s : State), s.sec.permit = some (v, some t) → s.pw.rtc = some (secs, at_) →
    Completes .permitExpiry s (updSec (fun c => { c with permit := none }) (s.reach (at_ + secP (t + 86400 - secs))))) ∧
  (∀ (c : Can) (at_ k : Nat) (f : CanFrame) (s : State), (s.can.ctl[c]).st = .active ∨ (s.can.ctl[c]).st = .passive →
    acmdOf c f s = some k →
    let u := s.reach at_
    let n := acmdKey k u
    let fv := fullFreshness (keySlot n u).fv (leAt f.data 2 2)
    let who := 3 + c.val * 4 + k * 256
    ((f.fdf = true ∨ f.dlc ≠ 8 ∨ f.data.length ≠ 8) → Completes (.authCommandFrame c at_ f) s (u.bump (Ix.SEC_ACMD_COUNT k) 24 8)) ∧
    (f.fdf = false → f.dlc = 8 → f.data.length = 8 →
      ((u.fld (Ix.SEC_ACMD_CFG k) 16 10 < fv - (keySlot n u).fv ∨ 0xFFFFFFFF < fv) →
        Completes (.authCommandFrame c at_ f) s (secReport 0xC02 who (u.bump (Ix.SEC_ACMD_COUNT k) 16 8))) ∧
      (fv - (keySlot n u).fv ≤ u.fld (Ix.SEC_ACMD_CFG k) 16 10 → fv ≤ 0xFFFFFFFF → ∀ key, (keySlot n u).key = some key →
        ((Config.aesCmac key (acmdMessage f fv)).take 4 = f.data.drop 4 →
          Completes (.authCommandFrame c at_ f) s (acceptAcmd k n fv f u)) ∧
        ((Config.aesCmac key (acmdMessage f fv)).take 4 ≠ f.data.drop 4 →
          Completes (.authCommandFrame c at_ f) s (secReport 0xC01 who (u.bump (Ix.SEC_ACMD_COUNT k) 8 8)))))) ∧
  (∀ (at_ : Nat) (s : State), let u := s.reach at_
    Completes (.entropyHealthTest at_ true) s (endFault 0xC06 0 { u with sec := { u.sec with entropyOk := true } }) ∧
    (srcActive 0xC06 0 s = false → waits 0xC06 0 s = false → Completes (.entropyHealthTest at_ false) s
      (secReport 0xC06 0 { u with sec := { u.sec with entropyOk := false } }))) ∧
  (∀ (pass : Bool) (s : State), s.sec.sinceSeed < 2 ^ 20 → Completes (.drbgReseed pass) s s) ∧
  (∀ s : State, 2 ^ 20 ≤ s.sec.sinceSeed → Gives (.drbgReseed true) s fun t => t.sec.sinceSeed = 0 ∧ t.sec.entropyOk = true)

/-- A permitted command on the owner lock sets it with the code staged in LC_OWNER_CODE where none is set and no refusal lasts, and
clears it by the right code or an override; each fifth wrong code begins a refusal of doubling length; every command clears the code.
A command that is not permitted has no effect on the lock. BYPASS and IDCODE shift out in every state; EXTEST drives the lands only
while the port is open and TST_RSTN is held; UNLOCK issues its challenge there, and a refused response is reported. The debug port is
closed without an unlock. PROVISION needs BLANK, TST_RSTN low and a signed package, SCRAP a VENDOR credential of the test port. -/
def Obligations.OwnerAndPortRows : Prop :=
  (∀ (r : Requester) (s : State), mayWrite r Ix.LC_OWNER_CMD (noteRequest r s) = false →
    Completes (.ownerLockSet r) s (noteRequest r s) ∧ Completes (.ownerLockClear r) s (noteRequest r s)) ∧
  (∀ (r : Requester) (s : State), mayWrite r Ix.LC_OWNER_CMD s = true → ownerAlive s = true) ∧
  (∀ (r : Requester) (s : State), let n := noteRequest r s
    mayWrite r Ix.LC_OWNER_CMD n = true → (valueOk Ix.LC_OWNER_CMD 1 n && crossWritten Ix.LC_OWNER_CMD 1 n) = true →
    (s.sec.owner = none → ownerRefused n = false → s.sec.code.all (· == 0) = false →
      Completes (.ownerLockSet r) s (ownerResult 1 (writeStore (fun c => { c with owner := some (ownerHash (ownerBytes s)), wrong := 0 }) n))) ∧
    ((s.sec.owner ≠ none ∨ ownerRefused n = true ∨ s.sec.code.all (· == 0) = true) →
      Completes (.ownerLockSet r) s (ownerResult 3 n))) ∧
  (∀ (r : Requester) (s : State), let n := noteRequest r s
    mayWrite r Ix.LC_OWNER_CMD n = true → (valueOk Ix.LC_OWNER_CMD 2 n && crossWritten Ix.LC_OWNER_CMD 2 n) = true →
    (s.sec.owner = none → Completes (.ownerLockClear r) s (ownerResult 3 n)) ∧
    (∀ h, s.sec.owner = some h → (ownerOverride r n = true ∨ (ownerRefused n = false ∧ ownerHash (ownerBytes s) = h)) →
      Completes (.ownerLockClear r) s (updSec (fun c => { c with
        owner := none, older := { c.older with owner := none }, wrong := 0, refusal := none, nextRefusal := 1, ownerLast := 1, code := [0, 0, 0, 0] }) n)) ∧
    (∀ h, s.sec.owner = some h → ownerOverride r n = false → ownerRefused n = true →
      Completes (.ownerLockClear r) s (ownerResult 3 n)) ∧
    (∀ h, s.sec.owner = some h → ownerOverride r n = false → ownerRefused n = false → ownerHash (ownerBytes s) ≠ h →
      ((s.sec.wrong + 1) % 5 ≠ 0 → Completes (.ownerLockClear r) s (updSec (fun c => { c with
        wrong := c.wrong + 1, ownerLast := 2, code := [0, 0, 0, 0] }) n)) ∧
      ((s.sec.wrong + 1) % 5 = 0 → Completes (.ownerLockClear r) s (updSec (fun c => { c with
        wrong := c.wrong + 1, ownerLast := 2, code := [0, 0, 0, 0], refusal := some (s.now, c.nextRefusal),
        nextRefusal := Nat.min 64 (2 * c.nextRefusal) }) n)))) ∧
  (∀ (n : Nat) (f : Sec → Sec) (s : State), (ownerResult n s).sec = { s.sec with ownerLast := n, code := [0, 0, 0, 0] } ∧
    (writeStore f s).sec = { f s.sec with older := olderItems s.sec (f s.sec) }) ∧
  (∀ (t h : Nat) (s : State), s.sec.refusal = some (t, h) →
    Completes .ownerRefusalExpiry s (updSec (fun c => { c with refusal := none }) (s.reach (t + secP (3600 * h))))) ∧
  (∀ (bits : List Byte) (s : State), Completes (.testPortBypass bits) s { s with sec := { s.sec with tdo := bits } }) ∧
  (∀ s : State, Completes .testPortIdcode s { s with sec := { s.sec with tdo := [0x3F, 0x7A, 0xB0, 0xBC] } }) ∧
  (∀ (drive : List Bool) (s : State),
    (portOpen s = true → s.pw.rstHeld = true → Completes (.testPortExtest drive) s { s with sec := { s.sec with lands := drive } }) ∧
    ((portOpen s = false ∨ s.pw.rstHeld = false) → Completes (.testPortExtest drive) s s)) ∧
  (∀ (resp : Option (List Byte)) (s : State), portOpen s = false → Completes (.testPortUnlock resp) s s) ∧
  (∀ s : State, portOpen s = true → s.sec.entropyOk = true → lockedOut 1 s = false → Gives (.testPortUnlock none) s fun t =>
    t.sec.tdo = Config.drbg s.sec.drbg 32 ∧
    (t.sec.parties[(1 : Fin 5)]).challenge = some (Config.drbg s.sec.drbg 32, s.now) ∧ t.sec.unlocked = s.sec.unlocked) ∧
  (∀ (resp : List Byte) (s : State), portOpen s = true → s.sec.entropyOk = true → (respond 1 resp s).1 = false →
    Completes (.testPortUnlock (some resp)) s (secReport 0xC05 2 (respond 1 resp s).2)) ∧
  (∀ (addr : Nat) (w : Option Byte) (s : State), debugOpen s = false → Completes (.debugAccess addr w) s s) ∧
  (∀ (addr : Nat) (b : Byte) (s : State), debugOpen s = true →
    Completes (.debugAccess addr (some b)) s { s with sec := { s.sec with dbgMem := insertCell s.sec.dbgMem addr b } } ∧
    (s.sec.dbgMem.any (·.1 == addr) = true →
      Completes (.debugAccess addr none) s { s with sec := { s.sec with tdo := [memByte s.sec.dbgMem addr] } }) ∧
    (s.sec.dbgMem.any (·.1 == addr) = false → Gives (.debugAccess addr none) s fun t => t.sec.dbgMem = s.sec.dbgMem ∧ t.free = s.free + 1)) ∧
  (∀ (key sig : List Byte) (id : Nat) (s : State), s.life = .blank → s.pw.rstHeld = true → s.pw.pw ≠ .off → s.sec.entropyOk = true →
    s.upd.intent = none → Config.provisionSigned key id sig = true →
    let u := updSec (fun c => { c with makerRoot := some (key, id) }) s
    let i : Intent := { src := 0, target := 1, spare := false, seq := 0, requester := 0, seed := Config.drbg s.sec.drbg 32 }
    let v := (transition i none (draw 32 u).2).2
    Completes (.testPortProvision key id sig none) s { v with boot := { v.boot with causes := v.boot.causes ||| 4 } }) ∧
  (∀ (key sig : List Byte) (id : Nat) (cut : Option Nat) (s : State), s.life ≠ .blank →
    Completes (.testPortProvision key id sig cut) s s) ∧
  (∀ (k : StartInput) (s : State), (s.sec.parties[(1 : Fin 5)]).priv ≠ 3 → Completes (.testPortScrap k) s s) ∧
  (∀ (k : StartInput) (s : State), (s.life = .blank ∨ s.life = .maker ∨ s.life = .returned) → s.pw.rstHeld = true → s.pw.pw ≠ .off →
    s.sec.entropyOk = true → s.upd.intent = none → (s.sec.parties[(1 : Fin 5)]).priv = 3 → k.cut = none →
    let i : Intent := { src := s.life.code, target := 4, spare := false, seq := 0, requester := 0, seed := [] }
    let v := (transition i none s).2
    Completes (.testPortScrap k) s (startUp 4 k { v with pw := { v.pw with rstHeld := false } }))

/-- A sprig message counts only on a channel that takes sprigs, and nothing is taken in PARK; an empty sprig and one shorter than its
header are counted and reported. A segment that completes its sprig hands it over, one that does not waits for the others, and the
oldest incomplete one goes after 2 s. The erase of Bank S opens it to the bunch once its blocks are erased; its verification accepts
the bunch as VERIFIED or discards it with the cause, and an expired bunch is discarded. UPD_QUERY answers the state and a slice of the
bitmap; UPD_EVENT sends the oldest change that waits. An activation in WATCH needs a verified bunch with AUTO, its guards and the
ignition off for its time. UPD_BITMAP_SEL latches its word. -/
def Obligations.UpdateRows : Prop :=
  (∀ (c : Can) (at_ : Nat) (b : List Byte) (s : State), let u := s.reach at_
    (s.flag (Ix.UPD_CAN c.val) 30 = false → Completes (.canSprigMessage c at_ b) s u) ∧
    (s.flag (Ix.UPD_CAN c.val) 30 = true →
      (s.modes.mode = .park → Completes (.canSprigMessage c at_ b) s u) ∧
      (s.modes.mode ≠ .park → 32 ≤ b.length → leAt b 0x14 2 = 0 →
        Completes (.canSprigMessage c at_ b) s (report 0xD01 0 (u.bump Ix.UPD_COUNTS 8 8))) ∧
      (s.modes.mode ≠ .park → b.length < 32 → Completes (.canSprigMessage c at_ b) s (report 0xD00 0 (u.bump Ix.UPD_COUNTS 0 8))))) ∧
  (∀ (l : Lin) (at_ nad : Nat) (b : List Byte) (s : State), let u := s.reach at_
    ((s.fld (Ix.LIN_CFG l.val) 0 2 ≠ 2 ∨ s.flag (Ix.UPD_LIN l.val) 8 = false ∨ s.fld (Ix.UPD_LIN l.val) 0 8 ≠ nad) →
      Completes (.linSprigMessage l at_ nad b) s u) ∧
    (s.fld (Ix.LIN_CFG l.val) 0 2 = 2 → s.flag (Ix.UPD_LIN l.val) 8 = true → s.fld (Ix.UPD_LIN l.val) 0 8 = nad →
      s.modes.mode ≠ .park → 32 ≤ b.length → leAt b 0x14 2 = 0 →
      Completes (.linSprigMessage l at_ nad b) s (report 0xD01 0 (u.bump Ix.UPD_COUNTS 8 8)))) ∧
  (∀ (at_ : Nat) (f : FabFrame) (s : State), f.payload.length ≤ 8 → Completes (.sprigSeg at_ f) s (s.reach at_)) ∧
  (∀ (at_ : Nat) (f : FabFrame) (s : State), s.upd.asm = [] → leAt f.payload 6 1 / 4 % 4 = 0 → leAt f.payload 6 1 % 4 = 0 →
    8 < f.payload.length → f.payload.length ≤ 256 → s.modes.mode = .park → Completes (.sprigSeg at_ f) s (s.reach at_)) ∧
  (∀ (at_ : Nat) (f : FabFrame) (s : State), s.upd.asm = [] → leAt f.payload 6 1 / 4 % 4 = 1 → leAt f.payload 6 1 % 4 = 0 →
    f.payload.length = 256 → Gives (.sprigSeg at_ f) s fun t =>
      t.upd.asm = [{ id := leAt f.payload 0 4, index := leAt f.payload 4 2, last := 1, segs := [(0, f.payload.drop 8)],
                     at_ := Nat.max s.now at_ }] ∧
      t = { s with now := t.now, upd := { s.upd with asm := t.upd.asm }, dwell := t.dwell }) ∧
  (∀ (at_ : Nat) (f : FabFrame) (s : State), s.upd.asm = [] → leAt f.payload 6 1 / 4 % 4 = 0 → leAt f.payload 6 1 % 4 = 0 →
    8 < f.payload.length → f.payload.length ≤ 256 →
    Completes (.sprigSeg at_ f) s (sprigReceived (f.payload.drop 8) (s.reach at_))) ∧
  (∀ (x : SprigAsm) (s : State), s.upd.asm = [x] →
    Completes .sprigReassemblyTimeout s (updUpd (fun u => { u with asm := [] }) (s.reach (x.at_ + secP 2)))) ∧
  (∀ (m : Manifest) (s : State), s.upd.manifest = some m → s.upd.st ≠ 3 → Completes .bankSEraseDone s s) ∧
  (∀ (m : Manifest) (s : State), s.upd.manifest = some m → s.upd.st = 3 → s.upd.store = [] →
    Gives .bankSEraseDone s fun t => t.upd.st = 4 ∧
      t.upd.bankS = s.upd.bankS.filter (fun c => decide (65536 * ceilDiv m.length 65536 ≤ c.1)) ∧
      t.flt.eraseS = s.flt.eraseS + Nat.min 1 (ceilDiv m.length 65536) ∧
      t.now = Nat.max s.now (s.upd.stAt + msP (30 * ceilDiv m.length 65536))) ∧
  (∀ s : State, s.upd.st ≠ 5 → Completes .bankSVerifyDone s s) ∧
  (∀ s : State, s.upd.st = 5 →
    let e := expectedBunch s
    let b := memRead s.upd.bankS 0 e.1
    (bunchErr b e.1 e.2 s = none → Gives .bankSVerifyDone s fun t =>
      t.upd.st = 6 ∧ t.upd.bunch = leAt b 0xC 4 ∧ t.upd.last = 1 ∧ t.upd.session = none ∧
      t = { s with upd := t.upd, now := t.now, dwell := t.dwell } ∧ t.now = Nat.max s.now (s.upd.stAt + verifyP b)) ∧
    (∀ c, bunchErr b e.1 e.2 s = some c →
      Completes .bankSVerifyDone s (discardBunch c (report (if c = 4 then 0xD05 else 0xD00) 0 s)))) ∧
  (∀ s : State, s.rtcNow = none → Completes .updateExpiry s s) ∧
  (∀ (t d : Nat) (s : State), s.rtcNow = some t → s.upd.st < 6 → s.upd.deadline = some d → d ≤ t → s.upd.store = [] →
    Completes .updateExpiry s (discardBunch 7 (report 0xD02 0 s))) ∧
  (∀ (at_ : Nat) (k : StartInput) (s : State), let u := evalAt at_ s
    (s.modes.mode ≠ .watch → Completes (.updAutoActivate at_ k) s s) ∧
    (s.started = true → s.modes.entering = none → s.modes.mode = .watch →
      (∀ t, s.upd.st = 6 → bunchAuto u = true → hallPass u = true → s.dwell.ignOff = some t →
        t + secP (60 * s.fld Ix.UPD_CFG 16 8) ≤ u.now →
        Completes (.updAutoActivate at_ k) s (deviceReset k (writeIntent u))) ∧
      ((s.upd.st ≠ 6 ∨ bunchAuto u = false ∨ hallPass u = false ∨ s.dwell.ignOff = none) →
        Completes (.updAutoActivate at_ k) s u))) ∧
  (∀ (at_ : Nat) (f : FabFrame) (s : State), let u := s.reach at_
    (f.bcast = true → Completes (.updQuery at_ f) s u) ∧
    (f.bcast = false → leAt f.payload 0 4 = s.upd.bunch → s.upd.manifest.isSome = true →
      Completes (.updQuery at_ f) s (sendReply f 0x26 (statusHead 0 ++ leBytes (updStateWord u) 4 ++ leBytes s.upd.bunch 4 ++
        leBytes s.upd.bitmap.length 2 ++ leBytes (leAt f.payload 4 1 % 4) 1 ++ [0] ++
        bitmapSlice s.upd.bunch (leAt f.payload 4 1 % 4) u) u))) ∧
  (∀ s : State, s.upd.events = [] → Completes .updEvent s s) ∧
  (∀ (e : List Byte) (es : List (List Byte)) (s : State), s.upd.events = e :: es → s.fab.node ≠ .unlisted →
    Completes .updEvent s (sendMessage 0x27 0 e { s with upd := { s.upd with events := es } })) ∧
  (∀ s : State, (updEventBytes s) = leBytes (updStateWord s) 4 ++ leBytes s.upd.bunch 4 ++ leBytes s.upd.last 4 ++
    leBytes (s.word Ix.SYS_FW_VERSION).toNat 4) ∧
  (∀ (r : Requester) (v : Word) (s : State), mayWrite r Ix.UPD_BITMAP_SEL (noteRequest r s) = true →
    (valueOk Ix.UPD_BITMAP_SEL v (noteRequest r s) && crossWritten Ix.UPD_BITMAP_SEL v (noteRequest r s)) = true →
    Gives (.updBitmapSelWrite r v) s fun t => t.num Ix.UPD_BITMAP_SEL = (cleanValue Ix.UPD_BITMAP_SEL v).toNat ∧
      (∀ i, i ≠ Ix.UPD_BITMAP_SEL → i ≠ Ix.UPD_BITMAP_WORD → t.word i = s.word i) ∧
      t = { s with words := t.words, modes := (noteRequest r s).modes, dwell := t.dwell })

/-- For every fabric frame whose fields fit their widths and whose payload has at most 256 bytes, decoding the bytes it is sent as
gives the frame: type, broadcast flag, both addresses, hop count, sequence number and every byte of the payload, under its CRC. -/
def Obligations.FabricFrameRoundTrip : Prop :=
  ∀ f : FabFrame, f.typ < 64 → f.dst < 4096 → f.src < 4096 → f.hops < 64 → f.seq < 256 → f.payload.length ≤ 256 →
    frameOf (frameBytes f) = some f

/-- From every state in which no two events share a slot, no pool is overdrawn and the pools fit the slots: a step whose command posts
a group that is accepted or refused under R134, cancels by handle, commits an event or selects a log entry answers a state of the same
kind, and so does the engine's part of every firing. A group refused for want of slots posts nothing: PostsWholeOrNotAtAll says so. -/
def Obligations.SlotsStayInOrder : Prop :=
  (∀ (g : List EventSpec) (s t : State), SlotsOk s →
    (let v := rouse .pair s; (groupStatus g v ≠ 0 ∧ groupStatus g v ≠ 0x10) ∨
      ∃ u, groupStatus g v = 0 ∧ placeGroup g { v with tt := { v.tt with status := 0, handles := [] } } = .ok u) →
    step (s.withFront (.ttPost g)) = .next t → SlotsOk t) ∧
  (∀ (i : Instr) (s t : State), SlotsOk s →
    ((∃ slot gen, i = .ttCancel slot gen) ∨ (∃ slot, i = .eventCommit slot) ∨ (∃ age, i = .ttLogSelWrite age)) →
    step (s.withFront i) = .next t → SlotsOk t) ∧
  (∀ (slot : Nat) (e : Event) (s u : State), SlotsOk s → takeEvent slot s = some (e, u) → SlotsOk u)

/-- The state right after reset has its slots in order: no event is pending and the pool sizes of the Reset columns fit the 4,095
slots they share. -/
def Obligations.SlotsInOrderAtReset : Prop := SlotsOk State.reset
end

