-- ==== Sys2Proof/Laws/Form.lean ====
section
/-!
SUPPORT. The one form of every meaning: an effect for the command's part.
-/
namespace Sys2Proof.Machine

/-- Every meaning is an effect for the command's part, whatever the state. The one exception is an error frame on a CAN channel that
sleeps, which the decoder of AO sees. -/
theorem exec_form (i : Instr) (s₀ : State) (h : ∀ (c : Can) (at_ kind : Nat) (tx exempt fdf : Bool) (more : Nat),
    i = .canErrorFrame c at_ kind tx exempt fdf more → (s₀.can.ctl[c]).st ≠ .sleep) :
    ∃ f : State → State, ∀ s, s.can = s₀.can → exec i s = doneFor (Instr.part i) s f := by
  cases i with
  | powerOnReset _ => exact ⟨_, fun _ _ => by unfold exec execPowerOnReset; rfl⟩
  | principalSelfFault _ _ => exact ⟨_, fun _ _ => by unfold exec execPrincipalSelfFault; rfl⟩
  | lockstepMismatch _ => exact ⟨_, fun _ _ => by unfold exec execLockstepMismatch; rfl⟩
  | appHeartbeatTimeout _ => exact ⟨_, fun _ _ => by unfold exec execAppHeartbeatTimeout; rfl⟩
  | appReloadDone _ => exact ⟨_, fun _ _ => by unfold exec execAppReloadDone; rfl⟩
  | motCoproHeartbeatTimeout _ => exact ⟨_, fun _ _ => by unfold exec execMotCoproHeartbeatTimeout; rfl⟩
  | fabEngineHeartbeatTimeout _ => exact ⟨_, fun _ _ => by unfold exec execFabEngineHeartbeatTimeout; rfl⟩
  | mirrorWriteDone _ => exact ⟨_, fun _ _ => by unfold exec execMirrorWriteDone; rfl⟩
  | hkWbMirror _ => exact ⟨_, fun _ _ => by unfold exec execHkWbMirror; rfl⟩
  | hkWbStaged _ => exact ⟨_, fun _ _ => by unfold exec execHkWbStaged; rfl⟩
  | hkWriteBackDone _ _ => exact ⟨_, fun _ _ => by unfold exec execHkWriteBackDone; rfl⟩
  | ttPost _ => exact ⟨_, fun _ _ => by unfold exec execTtPost; rfl⟩
  | ttCancel _ _ => exact ⟨_, fun _ _ => by unfold exec execTtCancel; rfl⟩
  | eventCommit _ => exact ⟨_, fun _ _ => by unfold exec execEventCommit; rfl⟩
  | committedBoundExpiry _ _ _ _ => exact ⟨_, fun _ _ => by unfold exec execCommittedBoundExpiry; rfl⟩
  | eventOutSet _ _ => exact ⟨_, fun _ _ => by unfold exec execEventOutSet; rfl⟩
  | pwmOffEdge _ => exact ⟨_, fun _ _ => by unfold exec execPwmOffEdge; rfl⟩
  | eventOutDuty _ => exact ⟨_, fun _ _ => by unfold exec execEventOutDuty; rfl⟩
  | eventLedScene _ => exact ⟨_, fun _ _ => by unfold exec execEventLedScene; rfl⟩
  | eventLedStep _ => exact ⟨_, fun _ _ => by unfold exec execEventLedStep; rfl⟩
  | eventAdcSample _ _ _ => exact ⟨_, fun _ _ => by unfold exec execEventAdcSample; rfl⟩
  | eventCanRelease _ => exact ⟨_, fun _ _ => by unfold exec execEventCanRelease; rfl⟩
  | eventLessonTick _ => exact ⟨_, fun _ _ => by unfold exec execEventLessonTick; rfl⟩
  | eventMotCmd _ => exact ⟨_, fun _ _ => by unfold exec execEventMotCmd; rfl⟩
  | eventTxnCommit _ => exact ⟨_, fun _ _ => by unfold exec execEventTxnCommit; rfl⟩
  | eventFabSync _ => exact ⟨_, fun _ _ => by unfold exec execEventFabSync; rfl⟩
  | markMissing _ => exact ⟨_, fun _ _ => by unfold exec execMarkMissing; rfl⟩
  | coastLimit _ => exact ⟨_, fun _ _ => by unfold exec execCoastLimit; rfl⟩
  | clockStopTimeout _ => exact ⟨_, fun _ _ => by unfold exec execClockStopTimeout; rfl⟩
  | ttLogSelWrite _ => exact ⟨_, fun _ _ => by unfold exec execTtLogSelWrite; rfl⟩
  | txnBegin _ => exact ⟨_, fun _ _ => by unfold exec execTxnBegin; rfl⟩
  | txnWrite _ _ _ => exact ⟨_, fun _ _ => by unfold exec execTxnWrite; rfl⟩
  | txnRead _ _ => exact ⟨_, fun _ _ => by unfold exec execTxnRead; rfl⟩
  | txnCommit _ _ => exact ⟨_, fun _ _ => by unfold exec execTxnCommit; rfl⟩
  | txnAbort _ => exact ⟨_, fun _ _ => by unfold exec execTxnAbort; rfl⟩
  | txnStatus _ => exact ⟨_, fun _ _ => by unfold exec execTxnStatus; rfl⟩
  | txnTimeout => exact ⟨_, fun _ _ => by unfold exec execTxnTimeout; rfl⟩
  | paramWrite _ _ _ => exact ⟨_, fun _ _ => by unfold exec execParamWrite; rfl⟩
  | readClearWord _ _ => exact ⟨_, fun _ _ => by unfold exec execReadClearWord; rfl⟩
  | rideEntry _ => exact ⟨_, fun _ _ => by unfold exec execRideEntry; rfl⟩
  | rideExit _ => exact ⟨_, fun _ _ => by unfold exec execRideExit; rfl⟩
  | wsEnterRequest _ => exact ⟨_, fun _ _ => by unfold exec execWsEnterRequest; rfl⟩
  | wsExitRequest _ => exact ⟨_, fun _ _ => by unfold exec execWsExitRequest; rfl⟩
  | workshopEntry _ => exact ⟨_, fun _ _ => by unfold exec execWorkshopEntry; rfl⟩
  | workshopExit _ => exact ⟨_, fun _ _ => by unfold exec execWorkshopExit; rfl⟩
  | parkEntry _ => exact ⟨_, fun _ _ => by unfold exec execParkEntry; rfl⟩
  | parkWaitEnd => exact ⟨_, fun _ _ => by unfold exec execParkWaitEnd; rfl⟩
  | parkEntryCancel _ _ => exact ⟨_, fun _ _ => by unfold exec execParkEntryCancel; rfl⟩
  | hostStayWrite _ _ => exact ⟨_, fun _ _ => by unfold exec execHostStayWrite; rfl⟩
  | hostStayExpiry => exact ⟨_, fun _ _ => by unfold exec execHostStayExpiry; rfl⟩
  | memberRootLinkLoss _ => exact ⟨_, fun _ _ => by unfold exec execMemberRootLinkLoss; rfl⟩
  | dozeEntry => exact ⟨_, fun _ _ => by unfold exec execDozeEntry; rfl⟩
  | dozeExit => exact ⟨_, fun _ _ => by unfold exec execDozeExit; rfl⟩
  | standbyEntry => exact ⟨_, fun _ _ => by unfold exec execStandbyEntry; rfl⟩
  | standbyExitScheduled => exact ⟨_, fun _ _ => by unfold exec execStandbyExitScheduled; rfl⟩
  | standbyExitHold _ => exact ⟨_, fun _ _ => by unfold exec execStandbyExitHold; rfl⟩
  | wakeSourceFire _ _ _ _ => exact ⟨_, fun _ _ => by unfold exec execWakeSourceFire; rfl⟩
  | wakeStepTimeout _ => exact ⟨_, fun _ _ => by unfold exec execWakeStepTimeout; rfl⟩
  | wakeBackoffExpiry => exact ⟨_, fun _ _ => by unfold exec execWakeBackoffExpiry; rfl⟩
  | retainEscalation _ _ _ => exact ⟨_, fun _ _ => by unfold exec execRetainEscalation; rfl⟩
  | brownOut _ => exact ⟨_, fun _ _ => by unfold exec execBrownOut; rfl⟩
  | brownOutRecovery _ _ => exact ⟨_, fun _ _ => by unfold exec execBrownOutRecovery; rfl⟩
  | aoPowerLoss _ => exact ⟨_, fun _ _ => by unfold exec execAoPowerLoss; rfl⟩
  | rtcWrite _ _ => exact ⟨_, fun _ _ => by unfold exec execRtcWrite; rfl⟩
  | lessonPublish _ => exact ⟨_, fun _ _ => by unfold exec execLessonPublish; rfl⟩
  | bnHostWrite _ _ _ => exact ⟨_, fun _ _ => by unfold exec execBnHostWrite; rfl⟩
  | servicePostRetry => exact ⟨_, fun _ _ => by unfold exec execServicePostRetry; rfl⟩
  | inrushEnd _ => exact ⟨_, fun _ _ => by unfold exec execInrushEnd; rfl⟩
  | hsShortDetect _ _ _ _ _ => exact ⟨_, fun _ _ => by unfold exec execHsShortDetect; rfl⟩
  | hsOverloadDetect _ => exact ⟨_, fun _ _ => by unfold exec execHsOverloadDetect; rfl⟩
  | hsThermalDetect _ _ => exact ⟨_, fun _ _ => by unfold exec execHsThermalDetect; rfl⟩
  | hsOpenOnDetect _ => exact ⟨_, fun _ _ => by unfold exec execHsOpenOnDetect; rfl⟩
  | hsOpenOffDetect _ _ _ => exact ⟨_, fun _ _ => by unfold exec execHsOpenOffDetect; rfl⟩
  | hsShortBatDetect _ _ => exact ⟨_, fun _ _ => by unfold exec execHsShortBatDetect; rfl⟩
  | hsBackfeedDetect _ _ => exact ⟨_, fun _ _ => by unfold exec execHsBackfeedDetect; rfl⟩
  | channelRestart _ _ _ => exact ⟨_, fun _ _ => by unfold exec execChannelRestart; rfl⟩
  | hsLatchedClear _ => exact ⟨_, fun _ _ => by unfold exec execHsLatchedClear; rfl⟩
  | hsForceWrite _ _ _ => exact ⟨_, fun _ _ => by unfold exec execHsForceWrite; rfl⟩
  | senseCalRetry _ _ _ _ => exact ⟨_, fun _ _ => by unfold exec execSenseCalRetry; rfl⟩
  | lockEndstop _ => exact ⟨_, fun _ _ => by unfold exec execLockEndstop; rfl⟩
  | lockStrokeMax _ => exact ⟨_, fun _ _ => by unfold exec execLockStrokeMax; rfl⟩
  | lockBrakeEnd _ => exact ⟨_, fun _ _ => by unfold exec execLockBrakeEnd; rfl⟩
  | lockCoolingEnd _ => exact ⟨_, fun _ _ => by unfold exec execLockCoolingEnd; rfl⟩
  | hbRevBrakeEnd _ => exact ⟨_, fun _ _ => by unfold exec execHbRevBrakeEnd; rfl⟩
  | supplyBandChange _ _ _ => exact ⟨_, fun _ _ => by unfold exec execSupplyBandChange; rfl⟩
  | degradedOperationStart => exact ⟨_, fun _ _ => by unfold exec execDegradedOperationStart; rfl⟩
  | overlayRead => exact ⟨_, fun _ _ => by unfold exec execOverlayRead; rfl⟩
  | fadeTick _ => exact ⟨_, fun _ _ => by unfold exec execFadeTick; rfl⟩
  | ledPosOpenDetect _ _ _ _ => exact ⟨_, fun _ _ => by unfold exec execLedPosOpenDetect; rfl⟩
  | ledStrOpenDetect _ _ _ _ => exact ⟨_, fun _ _ => by unfold exec execLedStrOpenDetect; rfl⟩
  | ledStrShortDetect _ _ _ => exact ⟨_, fun _ _ => by unfold exec execLedStrShortDetect; rfl⟩
  | ledStrShortBatDetect _ _ => exact ⟨_, fun _ _ => by unfold exec execLedStrShortBatDetect; rfl⟩
  | ledThermalDetect _ _ => exact ⟨_, fun _ _ => by unfold exec execLedThermalDetect; rfl⟩
  | stringRestart _ _ _ => exact ⟨_, fun _ _ => by unfold exec execStringRestart; rfl⟩
  | ledOutageClear _ _ => exact ⟨_, fun _ _ => by unfold exec execLedOutageClear; rfl⟩
  | ledLatchedClear _ => exact ⟨_, fun _ _ => by unfold exec execLedLatchedClear; rfl⟩
  | ledDerateUpdate _ _ => exact ⟨_, fun _ _ => by unfold exec execLedDerateUpdate; rfl⟩
  | corneringUpdate _ => exact ⟨_, fun _ _ => by unfold exec execCorneringUpdate; rfl⟩
  | ledCalRetry _ _ _ _ => exact ⟨_, fun _ _ => by unfold exec execLedCalRetry; rfl⟩
  | ledForceWrite _ _ _ => exact ⟨_, fun _ _ => by unfold exec execLedForceWrite; rfl⟩
  | motSpeedLoopTick _ _ _ => exact ⟨_, fun _ _ => by unfold exec execMotSpeedLoopTick; rfl⟩
  | motRmsUpdate _ _ => exact ⟨_, fun _ _ => by unfold exec execMotRmsUpdate; rfl⟩
  | motCatchDone _ _ _ _ => exact ⟨_, fun _ _ => by unfold exec execMotCatchDone; rfl⟩
  | motStillBrakeDone _ => exact ⟨_, fun _ _ => by unfold exec execMotStillBrakeDone; rfl⟩
  | motAlignDone _ => exact ⟨_, fun _ _ => by unfold exec execMotAlignDone; rfl⟩
  | motHandoff _ _ _ _ => exact ⟨_, fun _ _ => by unfold exec execMotHandoff; rfl⟩
  | motHandoffTimeout _ => exact ⟨_, fun _ _ => by unfold exec execMotHandoffTimeout; rfl⟩
  | motForcedEntry _ _ => exact ⟨_, fun _ _ => by unfold exec execMotForcedEntry; rfl⟩
  | motForcedStop _ => exact ⟨_, fun _ _ => by unfold exec execMotForcedStop; rfl⟩
  | motHoldTimeout _ => exact ⟨_, fun _ _ => by unfold exec execMotHoldTimeout; rfl⟩
  | motSupplyWatchBand _ _ _ => exact ⟨_, fun _ _ => by unfold exec execMotSupplyWatchBand; rfl⟩
  | motReversalHoldEnd _ => exact ⟨_, fun _ _ => by unfold exec execMotReversalHoldEnd; rfl⟩
  | motHomeStall _ _ => exact ⟨_, fun _ _ => by unfold exec execMotHomeStall; rfl⟩
  | motHomeFail _ => exact ⟨_, fun _ _ => by unfold exec execMotHomeFail; rfl⟩
  | motShortDetect _ _ _ => exact ⟨_, fun _ _ => by unfold exec execMotShortDetect; rfl⟩
  | motPeakTrip _ => exact ⟨_, fun _ _ => by unfold exec execMotPeakTrip; rfl⟩
  | motThermalDetect _ _ => exact ⟨_, fun _ _ => by unfold exec execMotThermalDetect; rfl⟩
  | motObserverLoss _ _ => exact ⟨_, fun _ _ => by unfold exec execMotObserverLoss; rfl⟩
  | motPhaseOpenDetect _ _ _ => exact ⟨_, fun _ _ => by unfold exec execMotPhaseOpenDetect; rfl⟩
  | motRestart _ _ _ => exact ⟨_, fun _ _ => by unfold exec execMotRestart; rfl⟩
  | motLatchedClear _ => exact ⟨_, fun _ _ => by unfold exec execMotLatchedClear; rfl⟩
  | motOffsetCal _ _ _ _ => exact ⟨_, fun _ _ => by unfold exec execMotOffsetCal; rfl⟩
  | motCalOffsetCmd _ _ _ _ _ => exact ⟨_, fun _ _ => by unfold exec execMotCalOffsetCmd; rfl⟩
  | motCalIdentifyCmd _ _ _ _ _ => exact ⟨_, fun _ _ => by unfold exec execMotCalIdentifyCmd; rfl⟩
  | motForceWrite _ _ _ => exact ⟨_, fun _ _ => by unfold exec execMotForceWrite; rfl⟩
  | swRawEdge _ _ _ => exact ⟨_, fun _ _ => by unfold exec execSwRawEdge; rfl⟩
  | swDebounceExpiry _ => exact ⟨_, fun _ _ => by unfold exec execSwDebounceExpiry; rfl⟩
  | swStandbySample _ _ => exact ⟨_, fun _ _ => by unfold exec execSwStandbySample; rfl⟩
  | parkSwitchSample _ _ => exact ⟨_, fun _ _ => by unfold exec execParkSwitchSample; rfl⟩
  | ssupFaultDetect _ _ _ => exact ⟨_, fun _ _ => by unfold exec execSsupFaultDetect; rfl⟩
  | ssupRetry _ => exact ⟨_, fun _ _ => by unfold exec execSsupRetry; rfl⟩
  | fqEdge _ _ => exact ⟨_, fun _ _ => by unfold exec execFqEdge; rfl⟩
  | fqDiagFault _ _ _ => exact ⟨_, fun _ _ => by unfold exec execFqDiagFault; rfl⟩
  | speedReevaluation _ _ => exact ⟨_, fun _ _ => by unfold exec execSpeedReevaluation; rfl⟩
  | altZeroCrossing _ _ => exact ⟨_, fun _ _ => by unfold exec execAltZeroCrossing; rfl⟩
  | imuPublish _ => exact ⟨_, fun _ _ => by unfold exec execImuPublish; rfl⟩
  | imuActivityWindow _ _ _ => exact ⟨_, fun _ _ => by unfold exec execImuActivityWindow; rfl⟩
  | tamperReferenceCapture _ _ => exact ⟨_, fun _ _ => by unfold exec execTamperReferenceCapture; rfl⟩
  | imuStandbyEval _ _ _ _ => exact ⟨_, fun _ _ => by unfold exec execImuStandbyEval; rfl⟩
  | gyroZeroSuccess _ _ => exact ⟨_, fun _ _ => by unfold exec execGyroZeroSuccess; rfl⟩
  | gyroZeroTimeout => exact ⟨_, fun _ _ => by unfold exec execGyroZeroTimeout; rfl⟩
  | imuCalZeroCmd _ => exact ⟨_, fun _ _ => by unfold exec execImuCalZeroCmd; rfl⟩
  | imuCalLevelCmd _ _ _ => exact ⟨_, fun _ _ => by unfold exec execImuCalLevelCmd; rfl⟩
  | imuClearWrite _ _ => exact ⟨_, fun _ _ => by unfold exec execImuClearWrite; rfl⟩
  | touchFrame _ => exact ⟨_, fun _ _ => by unfold exec execTouchFrame; rfl⟩
  | touchCalRetry _ => exact ⟨_, fun _ _ => by unfold exec execTouchCalRetry; rfl⟩
  | tchCalCmdWrite _ _ => exact ⟨_, fun _ _ => by unfold exec execTchCalCmdWrite; rfl⟩
  | touchStuckTimeout _ => exact ⟨_, fun _ _ => by unfold exec execTouchStuckTimeout; rfl⟩
  | gloveHoldExpiry _ => exact ⟨_, fun _ _ => by unfold exec execGloveHoldExpiry; rfl⟩
  | parkTouchSample _ _ _ => exact ⟨_, fun _ _ => by unfold exec execParkTouchSample; rfl⟩
  | cellSwitchChangeover _ => exact ⟨_, fun _ _ => by unfold exec execCellSwitchChangeover; rfl⟩
  | svinPresent _ _ => exact ⟨_, fun _ _ => by unfold exec execSvinPresent; rfl⟩
  | vbatGateChange _ _ => exact ⟨_, fun _ _ => by unfold exec execVbatGateChange; rfl⟩
  | chgSearchStart _ _ _ _ => exact ⟨_, fun _ _ => by unfold exec execChgSearchStart; rfl⟩
  | chgSearchStep _ _ _ => exact ⟨_, fun _ _ => by unfold exec execChgSearchStep; rfl⟩
  | chgInputBackoff _ => exact ⟨_, fun _ _ => by unfold exec execChgInputBackoff; rfl⟩
  | chgPrechargeDone _ _ => exact ⟨_, fun _ _ => by unfold exec execChgPrechargeDone; rfl⟩
  | chgVtermReached _ => exact ⟨_, fun _ _ => by unfold exec execChgVtermReached; rfl⟩
  | chgTermination _ _ => exact ⟨_, fun _ _ => by unfold exec execChgTermination; rfl⟩
  | chgRechargeStart _ _ => exact ⟨_, fun _ _ => by unfold exec execChgRechargeStart; rfl⟩
  | chgTimerExpiry => exact ⟨_, fun _ _ => by unfold exec execChgTimerExpiry; rfl⟩
  | cellCutoff _ _ => exact ⟨_, fun _ _ => by unfold exec execCellCutoff; rfl⟩
  | chgWindowChange _ _ => exact ⟨_, fun _ _ => by unfold exec execChgWindowChange; rfl⟩
  | chgFaultDetect _ _ _ _ => exact ⟨_, fun _ _ => by unfold exec execChgFaultDetect; rfl⟩
  | chgFaultsRead _ => exact ⟨_, fun _ _ => by unfold exec execChgFaultsRead; rfl⟩
  | cellProbe _ _ _ => exact ⟨_, fun _ _ => by unfold exec execCellProbe; rfl⟩
  | socSeed _ => exact ⟨_, fun _ _ => by unfold exec execSocSeed; rfl⟩
  | bkoutCellCutoff _ => exact ⟨_, fun _ _ => by unfold exec execBkoutCellCutoff; rfl⟩
  | canFrameReceived _ _ _ _ => exact ⟨_, fun _ _ => by unfold exec execCanFrameReceived; rfl⟩
  | canRxTimeout _ _ => exact ⟨_, fun _ _ => by unfold exec execCanRxTimeout; rfl⟩
  | canIntegrationComplete _ _ => exact ⟨_, fun _ _ => by unfold exec execCanIntegrationComplete; rfl⟩
  | canTxAttempt _ _ => exact ⟨_, fun _ _ => by unfold exec execCanTxAttempt; rfl⟩
  | canArbitrationLost _ => exact ⟨_, fun _ _ => by unfold exec execCanArbitrationLost; rfl⟩
  | canTxSuccess _ _ _ => exact ⟨_, fun _ _ => by unfold exec execCanTxSuccess; rfl⟩
  | canProtocolException _ _ => exact ⟨_, fun _ _ => by unfold exec execCanProtocolException; rfl⟩
  | canBusoffHoldExpiry _ => exact ⟨_, fun _ _ => by unfold exec execCanBusoffHoldExpiry; rfl⟩
  | canRecoveryDone _ _ => exact ⟨_, fun _ _ => by unfold exec execCanRecoveryDone; rfl⟩
  | canRecoverWrite _ _ _ => exact ⟨_, fun _ _ => by unfold exec execCanRecoverWrite; rfl⟩
  | canTxbCancel _ _ _ _ => exact ⟨_, fun _ _ => by unfold exec execCanTxbCancel; rfl⟩
  | canBusStuck _ _ => exact ⟨_, fun _ _ => by unfold exec execCanBusStuck; rfl⟩
  | canTimingApply _ _ => exact ⟨_, fun _ _ => by unfold exec execCanTimingApply; rfl⟩
  | canTestWrite _ _ _ => exact ⟨_, fun _ _ => by unfold exec execCanTestWrite; rfl⟩
  | canRxSelWrite _ _ => exact ⟨_, fun _ _ => by unfold exec execCanRxSelWrite; rfl⟩
  | linSlotStart _ _ => exact ⟨_, fun _ _ => by unfold exec execLinSlotStart; rfl⟩
  | linResponseReceived _ _ _ _ _ _ => exact ⟨_, fun _ _ => by unfold exec execLinResponseReceived; rfl⟩
  | linNoResponse _ => exact ⟨_, fun _ _ => by unfold exec execLinNoResponse; rfl⟩
  | linHeaderReceived _ _ _ _ => exact ⟨_, fun _ _ => by unfold exec execLinHeaderReceived; rfl⟩
  | nmFrameReceived _ _ _ => exact ⟨_, fun _ _ => by unfold exec execNmFrameReceived; rfl⟩
  | nmCycleSend _ => exact ⟨_, fun _ _ => by unfold exec execNmCycleSend; rfl⟩
  | nmOwnNeedChange _ _ => exact ⟨_, fun _ _ => by unfold exec execNmOwnNeedChange; rfl⟩
  | nmReadyExpiry _ => exact ⟨_, fun _ _ => by unfold exec execNmReadyExpiry; rfl⟩
  | nmSleepCmdSend _ => exact ⟨_, fun _ _ => by unfold exec execNmSleepCmdSend; rfl⟩
  | nmSilenceExpiry _ => exact ⟨_, fun _ _ => by unfold exec execNmSilenceExpiry; rfl⟩
  | nmOffenderTimeout _ => exact ⟨_, fun _ _ => by unfold exec execNmOffenderTimeout; rfl⟩
  | nmIdleTimeout _ => exact ⟨_, fun _ _ => by unfold exec execNmIdleTimeout; rfl⟩
  | busWakePattern _ _ => exact ⟨_, fun _ _ => by unfold exec execBusWakePattern; rfl⟩
  | wufMatch _ _ _ => exact ⟨_, fun _ _ => by unfold exec execWufMatch; rfl⟩
  | wufDecoderFallback _ => exact ⟨_, fun _ _ => by unfold exec execWufDecoderFallback; rfl⟩
  | nmEscalationHoldExpiry _ => exact ⟨_, fun _ _ => by unfold exec execNmEscalationHoldExpiry; rfl⟩
  | nmFwClearWrite _ _ => exact ⟨_, fun _ _ => by unfold exec execNmFwClearWrite; rfl⟩
  | nmOffSelWrite _ _ => exact ⟨_, fun _ _ => by unfold exec execNmOffSelWrite; rfl⟩
  | nmOffClearWrite _ _ => exact ⟨_, fun _ _ => by unfold exec execNmOffClearWrite; rfl⟩
  | linGoToSleep _ => exact ⟨_, fun _ _ => by unfold exec execLinGoToSleep; rfl⟩
  | linResponderIdle _ => exact ⟨_, fun _ _ => by unfold exec execLinResponderIdle; rfl⟩
  | linWakeDominant _ _ _ => exact ⟨_, fun _ _ => by unfold exec execLinWakeDominant; rfl⟩
  | linWakePulseTimeout _ => exact ⟨_, fun _ _ => by unfold exec execLinWakePulseTimeout; rfl⟩
  | fabTurnReceived _ _ _ _ _ => exact ⟨_, fun _ _ => by unfold exec execFabTurnReceived; rfl⟩
  | fabIdleTurnTimer _ => exact ⟨_, fun _ _ => by unfold exec execFabIdleTurnTimer; rfl⟩
  | fabLinkTimeout _ => exact ⟨_, fun _ _ => by unfold exec execFabLinkTimeout; rfl⟩
  | hello _ _ _ _ => exact ⟨_, fun _ _ => by unfold exec execHello; rfl⟩
  | helloSendTimer _ => exact ⟨_, fun _ _ => by unfold exec execHelloSendTimer; rfl⟩
  | leave _ _ => exact ⟨_, fun _ _ => by unfold exec execLeave; rfl⟩
  | rootHoldExpiry => exact ⟨_, fun _ _ => by unfold exec execRootHoldExpiry; rfl⟩
  | epochStart => exact ⟨_, fun _ _ => by unfold exec execEpochStart; rfl⟩
  | call _ _ _ => exact ⟨_, fun _ _ => by unfold exec execCall; rfl⟩
  | decline _ _ _ => exact ⟨_, fun _ _ => by unfold exec execDecline; rfl⟩
  | report _ _ _ => exact ⟨_, fun _ _ => by unfold exec execReport; rfl⟩
  | rcWaitTimeout _ => exact ⟨_, fun _ _ => by unfold exec execRcWaitTimeout; rfl⟩
  | assign _ _ _ => exact ⟨_, fun _ _ => by unfold exec execAssign; rfl⟩
  | close _ _ _ => exact ⟨_, fun _ _ => by unfold exec execClose; rfl⟩
  | linkChange _ _ => exact ⟨_, fun _ _ => by unfold exec execLinkChange; rfl⟩
  | fabRcCmdWrite _ _ => exact ⟨_, fun _ _ => by unfold exec execFabRcCmdWrite; rfl⟩
  | fabAddrSelWrite _ _ => exact ⟨_, fun _ _ => by unfold exec execFabAddrSelWrite; rfl⟩
  | routedFrame _ _ _ => exact ⟨_, fun _ _ => by unfold exec execRoutedFrame; rfl⟩
  | broadcastFrame _ _ _ => exact ⟨_, fun _ _ => by unfold exec execBroadcastFrame; rfl⟩
  | echo _ _ => exact ⟨_, fun _ _ => by unfold exec execEcho; rfl⟩
  | readRequest _ _ _ => exact ⟨_, fun _ _ => by unfold exec execReadRequest; rfl⟩
  | writeRequest _ _ _ => exact ⟨_, fun _ _ => by unfold exec execWriteRequest; rfl⟩
  | requestReply _ _ => exact ⟨_, fun _ _ => by unfold exec execRequestReply; rfl⟩
  | requestTimeout _ => exact ⟨_, fun _ _ => by unfold exec execRequestTimeout; rfl⟩
  | signalsSend _ => exact ⟨_, fun _ _ => by unfold exec execSignalsSend; rfl⟩
  | signalsReceived _ _ => exact ⟨_, fun _ _ => by unfold exec execSignalsReceived; rfl⟩
  | subscriptionTimeout _ => exact ⟨_, fun _ _ => by unfold exec execSubscriptionTimeout; rfl⟩
  | fabSyncReceived _ _ _ => exact ⟨_, fun _ _ => by unfold exec execFabSyncReceived; rfl⟩
  | delayReqSend _ => exact ⟨_, fun _ _ => by unfold exec execDelayReqSend; rfl⟩
  | delayReq _ _ => exact ⟨_, fun _ _ => by unfold exec execDelayReq; rfl⟩
  | delayResp _ _ _ => exact ⟨_, fun _ _ => by unfold exec execDelayResp; rfl⟩
  | resolve _ _ => exact ⟨_, fun _ _ => by unfold exec execResolve; rfl⟩
  | resolveReply _ _ => exact ⟨_, fun _ _ => by unfold exec execResolveReply; rfl⟩
  | domainStateSend => exact ⟨_, fun _ _ => by unfold exec execDomainStateSend; rfl⟩
  | domainStateReceived _ _ => exact ⟨_, fun _ _ => by unfold exec execDomainStateReceived; rfl⟩
  | rootStateTimeout => exact ⟨_, fun _ _ => by unfold exec execRootStateTimeout; rfl⟩
  | reloadOffer _ _ => exact ⟨_, fun _ _ => by unfold exec execReloadOffer; rfl⟩
  | reloadReply _ _ => exact ⟨_, fun _ _ => by unfold exec execReloadReply; rfl⟩
  | reloadStreamComplete _ _ => exact ⟨_, fun _ _ => by unfold exec execReloadStreamComplete; rfl⟩
  | reloadDone _ _ => exact ⟨_, fun _ _ => by unfold exec execReloadDone; rfl⟩
  | reloadWaitExpiry _ => exact ⟨_, fun _ _ => by unfold exec execReloadWaitExpiry; rfl⟩
  | fabReloadCmdWrite _ _ => exact ⟨_, fun _ _ => by unfold exec execFabReloadCmdWrite; rfl⟩
  | fabRouteSelWrite _ _ => exact ⟨_, fun _ _ => by unfold exec execFabRouteSelWrite; rfl⟩
  | streamPacketReceived _ _ _ _ => exact ⟨_, fun _ _ => by unfold exec execStreamPacketReceived; rfl⟩
  | streamCreditReturn _ _ => exact ⟨_, fun _ _ => by unfold exec execStreamCreditReturn; rfl⟩
  | streamAck _ _ => exact ⟨_, fun _ _ => by unfold exec execStreamAck; rfl⟩
  | streamResendTimeout _ _ _ _ => exact ⟨_, fun _ _ => by unfold exec execStreamResendTimeout; rfl⟩
  | hostStreamFrame _ _ _ => exact ⟨_, fun _ _ => by unfold exec execHostStreamFrame; rfl⟩
  | hspiSend _ _ _ _ => exact ⟨_, fun _ _ => by unfold exec execHspiSend; rfl⟩
  | hspiFetch _ _ _ => exact ⟨_, fun _ _ => by unfold exec execHspiFetch; rfl⟩
  | hspiStatus _ _ => exact ⟨_, fun _ _ => by unfold exec execHspiStatus; rfl⟩
  | hspiUnknownOpcode _ _ => exact ⟨_, fun _ _ => by unfold exec execHspiUnknownOpcode; rfl⟩
  | ping _ => exact ⟨_, fun _ _ => by unfold exec execPing; rfl⟩
  | authChallenge => exact ⟨_, fun _ _ => by unfold exec execAuthChallenge; rfl⟩
  | authRespond _ => exact ⟨_, fun _ _ => by unfold exec execAuthRespond; rfl⟩
  | authDrop => exact ⟨_, fun _ _ => by unfold exec execAuthDrop; rfl⟩
  | hostReset => exact ⟨_, fun _ _ => by unfold exec execHostReset; rfl⟩
  | hspiCsStuckLow _ => exact ⟨_, fun _ _ => by unfold exec execHspiCsStuckLow; rfl⟩
  | imgBegin _ _ _ => exact ⟨_, fun _ _ => by unfold exec execImgBegin; rfl⟩
  | imgWrite _ _ => exact ⟨_, fun _ _ => by unfold exec execImgWrite; rfl⟩
  | imgProgressQuery => exact ⟨_, fun _ _ => by unfold exec execImgProgressQuery; rfl⟩
  | imgEnd => exact ⟨_, fun _ _ => by unfold exec execImgEnd; rfl⟩
  | imgAbort => exact ⟨_, fun _ _ => by unfold exec execImgAbort; rfl⟩
  | imgSessionExpiry => exact ⟨_, fun _ _ => by unfold exec execImgSessionExpiry; rfl⟩
  | keyStage _ _ => exact ⟨_, fun _ _ => by unfold exec execKeyStage; rfl⟩
  | hstIrqCauseWrite _ _ => exact ⟨_, fun _ _ => by unfold exec execHstIrqCauseWrite; rfl⟩
  | udsSessionControl _ _ => exact ⟨_, fun _ _ => by unfold exec execUdsSessionControl; rfl⟩
  | udsS3Timeout => exact ⟨_, fun _ _ => by unfold exec execUdsS3Timeout; rfl⟩
  | isotpTimeout _ _ => exact ⟨_, fun _ _ => by unfold exec execIsotpTimeout; rfl⟩
  | ecuResetHard _ _ _ _ => exact ⟨_, fun _ _ => by unfold exec execEcuResetHard; rfl⟩
  | ecuResetSoft _ _ _ => exact ⟨_, fun _ _ => by unfold exec execEcuResetSoft; rfl⟩
  | clearDtc _ _ => exact ⟨_, fun _ _ => by unfold exec execClearDtc; rfl⟩
  | readDtcCountByStatus _ _ => exact ⟨_, fun _ _ => by unfold exec execReadDtcCountByStatus; rfl⟩
  | readDtcByStatus _ _ => exact ⟨_, fun _ _ => by unfold exec execReadDtcByStatus; rfl⟩
  | readDtcExtData _ _ => exact ⟨_, fun _ _ => by unfold exec execReadDtcExtData; rfl⟩
  | readDtcSupported _ _ => exact ⟨_, fun _ _ => by unfold exec execReadDtcSupported; rfl⟩
  | readDataById _ _ => exact ⟨_, fun _ _ => by unfold exec execReadDataById; rfl⟩
  | writeDataById _ _ => exact ⟨_, fun _ _ => by unfold exec execWriteDataById; rfl⟩
  | saRequestSeedL1 _ _ => exact ⟨_, fun _ _ => by unfold exec execSaRequestSeedL1; rfl⟩
  | saSendKeyL1 _ _ => exact ⟨_, fun _ _ => by unfold exec execSaSendKeyL1; rfl⟩
  | saRequestSeedL3 _ _ => exact ⟨_, fun _ _ => by unfold exec execSaRequestSeedL3; rfl⟩
  | saSendKeyL3 _ _ => exact ⟨_, fun _ _ => by unfold exec execSaSendKeyL3; rfl⟩
  | saDelayExpiry _ => exact ⟨_, fun _ _ => by unfold exec execSaDelayExpiry; rfl⟩
  | commEnableRxTx _ _ _ => exact ⟨_, fun _ _ => by unfold exec execCommEnableRxTx; rfl⟩
  | commEnableRxDisableTx _ _ _ => exact ⟨_, fun _ _ => by unfold exec execCommEnableRxDisableTx; rfl⟩
  | commDisableRxTx _ _ _ => exact ⟨_, fun _ _ => by unfold exec execCommDisableRxTx; rfl⟩
  | routineResults _ _ => exact ⟨_, fun _ _ => by unfold exec execRoutineResults; rfl⟩
  | requestDownloadImage _ _ => exact ⟨_, fun _ _ => by unfold exec execRequestDownloadImage; rfl⟩
  | requestDownloadKey _ _ => exact ⟨_, fun _ _ => by unfold exec execRequestDownloadKey; rfl⟩
  | transferData _ _ => exact ⟨_, fun _ _ => by unfold exec execTransferData; rfl⟩
  | requestTransferExit _ _ => exact ⟨_, fun _ _ => by unfold exec execRequestTransferExit; rfl⟩
  | testerPresent _ _ => exact ⟨_, fun _ _ => by unfold exec execTesterPresent; rfl⟩
  | dtcSettingOn _ _ _ => exact ⟨_, fun _ _ => by unfold exec execDtcSettingOn; rfl⟩
  | dtcSettingOff _ _ _ => exact ⟨_, fun _ _ => by unfold exec execDtcSettingOff; rfl⟩
  | udsUnsupportedService _ _ => exact ⟨_, fun _ _ => by unfold exec execUdsUnsupportedService; rfl⟩
  | routineImageSha _ _ => exact ⟨_, fun _ _ => by unfold exec execRoutineImageSha; rfl⟩
  | routineProgress _ _ => exact ⟨_, fun _ _ => by unfold exec execRoutineProgress; rfl⟩
  | updStatus _ _ => exact ⟨_, fun _ _ => by unfold exec execUpdStatus; rfl⟩
  | updBitmap _ _ => exact ⟨_, fun _ _ => by unfold exec execUpdBitmap; rfl⟩
  | updActivate _ _ _ _ => exact ⟨_, fun _ _ => by unfold exec execUpdActivate; rfl⟩
  | updDiscard _ _ => exact ⟨_, fun _ _ => by unfold exec execUpdDiscard; rfl⟩
  | lcChange _ _ _ => exact ⟨_, fun _ _ => by unfold exec execLcChange; rfl⟩
  | adoptPermit _ _ => exact ⟨_, fun _ _ => by unfold exec execAdoptPermit; rfl⟩
  | signerLoad _ _ => exact ⟨_, fun _ _ => by unfold exec execSignerLoad; rfl⟩
  | revoke _ _ => exact ⟨_, fun _ _ => by unfold exec execRevoke; rfl⟩
  | keyLoad _ _ => exact ⟨_, fun _ _ => by unfold exec execKeyLoad; rfl⟩
  | attest _ _ => exact ⟨_, fun _ _ => by unfold exec execAttest; rfl⟩
  | certCheck _ _ => exact ⟨_, fun _ _ => by unfold exec execCertCheck; rfl⟩
  | faultReport _ _ => exact ⟨_, fun _ _ => by unfold exec execFaultReport; rfl⟩
  | faultEventExpiry _ _ => exact ⟨_, fun _ _ => by unfold exec execFaultEventExpiry; rfl⟩
  | logFlush => exact ⟨_, fun _ _ => by unfold exec execLogFlush; rfl⟩
  | fltClearWrite _ _ => exact ⟨_, fun _ _ => by unfold exec execFltClearWrite; rfl⟩
  | fltLogSelWrite _ _ => exact ⟨_, fun _ _ => by unfold exec execFltLogSelWrite; rfl⟩
  | reportCardSample _ _ _ => exact ⟨_, fun _ _ => by unfold exec execReportCardSample; rfl⟩
  | reportCardFlush _ => exact ⟨_, fun _ _ => by unfold exec execReportCardFlush; rfl⟩
  | logRead _ _ => exact ⟨_, fun _ _ => by unfold exec execLogRead; rfl⟩
  | rcRead _ _ => exact ⟨_, fun _ _ => by unfold exec execRcRead; rfl⟩
  | credentialExpiry _ => exact ⟨_, fun _ _ => by unfold exec execCredentialExpiry; rfl⟩
  | authLockoutExpiry _ => exact ⟨_, fun _ _ => by unfold exec execAuthLockoutExpiry; rfl⟩
  | authCommandFrame _ _ _ => exact ⟨_, fun _ _ => by unfold exec execAuthCommandFrame; rfl⟩
  | permitExpiry => exact ⟨_, fun _ _ => by unfold exec execPermitExpiry; rfl⟩
  | ownerLockSet _ => exact ⟨_, fun _ _ => by unfold exec execOwnerLockSet; rfl⟩
  | ownerLockClear _ => exact ⟨_, fun _ _ => by unfold exec execOwnerLockClear; rfl⟩
  | ownerRefusalExpiry => exact ⟨_, fun _ _ => by unfold exec execOwnerRefusalExpiry; rfl⟩
  | testPortProvision _ _ _ _ => exact ⟨_, fun _ _ => by unfold exec execTestPortProvision; rfl⟩
  | testPortScrap _ => exact ⟨_, fun _ _ => by unfold exec execTestPortScrap; rfl⟩
  | testPortUnlock _ => exact ⟨_, fun _ _ => by unfold exec execTestPortUnlock; rfl⟩
  | testPortExtest _ => exact ⟨_, fun _ _ => by unfold exec execTestPortExtest; rfl⟩
  | testPortIdcode => exact ⟨_, fun _ _ => by unfold exec execTestPortIdcode; rfl⟩
  | testPortBypass _ => exact ⟨_, fun _ _ => by unfold exec execTestPortBypass; rfl⟩
  | debugAccess _ _ => exact ⟨_, fun _ _ => by unfold exec execDebugAccess; rfl⟩
  | tstRstnAssert => exact ⟨_, fun _ _ => by unfold exec execTstRstnAssert; rfl⟩
  | tstRstnRelease _ => exact ⟨_, fun _ _ => by unfold exec execTstRstnRelease; rfl⟩
  | entropyHealthTest _ _ => exact ⟨_, fun _ _ => by unfold exec execEntropyHealthTest; rfl⟩
  | drbgReseed _ => exact ⟨_, fun _ _ => by unfold exec execDrbgReseed; rfl⟩
  | canSprigMessage _ _ _ => exact ⟨_, fun _ _ => by unfold exec execCanSprigMessage; rfl⟩
  | linSprigMessage _ _ _ _ => exact ⟨_, fun _ _ => by unfold exec execLinSprigMessage; rfl⟩
  | sprigSeg _ _ => exact ⟨_, fun _ _ => by unfold exec execSprigSeg; rfl⟩
  | sprigReassemblyTimeout => exact ⟨_, fun _ _ => by unfold exec execSprigReassemblyTimeout; rfl⟩
  | bankSEraseDone => exact ⟨_, fun _ _ => by unfold exec execBankSEraseDone; rfl⟩
  | bankSVerifyDone => exact ⟨_, fun _ _ => by unfold exec execBankSVerifyDone; rfl⟩
  | updateExpiry => exact ⟨_, fun _ _ => by unfold exec execUpdateExpiry; rfl⟩
  | updAutoActivate _ _ => exact ⟨_, fun _ _ => by unfold exec execUpdAutoActivate; rfl⟩
  | updQuery _ _ => exact ⟨_, fun _ _ => by unfold exec execUpdQuery; rfl⟩
  | updEvent => exact ⟨_, fun _ _ => by unfold exec execUpdEvent; rfl⟩
  | updBitmapSelWrite _ _ => exact ⟨_, fun _ _ => by unfold exec execUpdBitmapSelWrite; rfl⟩
  | recoveryRetry _ => exact ⟨_, fun _ _ => by unfold exec execRecoveryRetry; rfl⟩
  | shedLevelUp _ => exact ⟨_, fun _ _ => by unfold exec execShedLevelUp; rfl⟩
  | shedLevelDown _ => exact ⟨_, fun _ _ => by unfold exec execShedLevelDown; rfl⟩
  | adcConversionSkip _ _ => exact ⟨_, fun _ _ => by unfold exec execAdcConversionSkip; rfl⟩
  | overvoltEntry _ _ => exact ⟨_, fun _ _ => by unfold exec execOvervoltEntry; rfl⟩
  | overvoltExit _ _ => exact ⟨_, fun _ _ => by unfold exec execOvervoltExit; rfl⟩
  | reverseSupply _ _ => exact ⟨_, fun _ _ => by unfold exec execReverseSupply; rfl⟩
  | dissipationUpdate _ => exact ⟨_, fun _ _ => by unfold exec execDissipationUpdate; rfl⟩
  | motCoproReloadDone => exact ⟨_, fun _ _ => by unfold exec execMotCoproReloadDone; rfl⟩
  | fabEngineReloadDone _ => exact ⟨_, fun _ _ => by unfold exec execFabEngineReloadDone; rfl⟩
  | motPwmPeriod _ => exact ⟨_, fun _ _ => by unfold exec execMotPwmPeriod; rfl⟩
  | ledPulsePeriod _ => exact ⟨_, fun _ _ => by unfold exec execLedPulsePeriod; rfl⟩
  | cellCutoffEnd _ => exact ⟨_, fun _ _ => by unfold exec execCellCutoffEnd; rfl⟩
  | svinRemoved _ => exact ⟨_, fun _ _ => by unfold exec execSvinRemoved; rfl⟩
  | challengeExpiry _ => exact ⟨_, fun _ _ => by unfold exec execChallengeExpiry; rfl⟩
  | canErrorFrame c at_ kind tx exempt fdf more =>
    have hs := h c at_ kind tx exempt fdf more rfl
    refine ⟨fun s => errorFrame c at_ kind tx exempt fdf more s, fun s e => ?_⟩
    show (if (s.can.ctl[c]).st == .sleep then _ else _) = _
    rw [if_neg (by simpa [e] using hs)]
    rfl

end Sys2Proof.Machine
end

