-- ==== Sys2Proof/Laws/State.lean ====
section
/-!
SUPPORT. What each named update of the state leaves as it was: one lemma per field per update, true by definition.
-/
namespace Sys2Proof.Machine

variable (s : State)

/-! ### `updCh` changes `chans` -/
@[simp] theorem updCh_now (c : Ch) (f : Channel → Channel) : (updCh c f s).now = s.now := rfl
@[simp] theorem updCh_freeBase (c : Ch) (f : Channel → Channel) : (updCh c f s).freeBase = s.freeBase := rfl
@[simp] theorem updCh_free (c : Ch) (f : Channel → Channel) : (updCh c f s).free = s.free := rfl
@[simp] theorem updCh_pending (c : Ch) (f : Channel → Channel) : (updCh c f s).pending = s.pending := rfl
@[simp] theorem updCh_words (c : Ch) (f : Channel → Channel) : (updCh c f s).words = s.words := rfl
@[simp] theorem updCh_started (c : Ch) (f : Channel → Channel) : (updCh c f s).started = s.started := rfl
@[simp] theorem updCh_procs (c : Ch) (f : Channel → Channel) : (updCh c f s).procs = s.procs := rfl
@[simp] theorem updCh_modes (c : Ch) (f : Channel → Channel) : (updCh c f s).modes = s.modes := rfl
@[simp] theorem updCh_dwell (c : Ch) (f : Channel → Channel) : (updCh c f s).dwell = s.dwell := rfl
@[simp] theorem updCh_pw (c : Ch) (f : Channel → Channel) : (updCh c f s).pw = s.pw := rfl
@[simp] theorem updCh_txn (c : Ch) (f : Channel → Channel) : (updCh c f s).txn = s.txn := rfl
@[simp] theorem updCh_flt (c : Ch) (f : Channel → Channel) : (updCh c f s).flt = s.flt := rfl
@[simp] theorem updCh_tt (c : Ch) (f : Channel → Channel) : (updCh c f s).tt = s.tt := rfl
@[simp] theorem updCh_bn (c : Ch) (f : Channel → Channel) : (updCh c f s).bn = s.bn := rfl
@[simp] theorem updCh_locks (c : Ch) (f : Channel → Channel) : (updCh c f s).locks = s.locks := rfl
@[simp] theorem updCh_band (c : Ch) (f : Channel → Channel) : (updCh c f s).band = s.band := rfl
@[simp] theorem updCh_led (c : Ch) (f : Channel → Channel) : (updCh c f s).led = s.led := rfl
@[simp] theorem updCh_mot (c : Ch) (f : Channel → Channel) : (updCh c f s).mot = s.mot := rfl
@[simp] theorem updCh_inp (c : Ch) (f : Channel → Channel) : (updCh c f s).inp = s.inp := rfl
@[simp] theorem updCh_imu (c : Ch) (f : Channel → Channel) : (updCh c f s).imu = s.imu := rfl
@[simp] theorem updCh_tch (c : Ch) (f : Channel → Channel) : (updCh c f s).tch = s.tch := rfl
@[simp] theorem updCh_chg (c : Ch) (f : Channel → Channel) : (updCh c f s).chg = s.chg := rfl
@[simp] theorem updCh_can (c : Ch) (f : Channel → Channel) : (updCh c f s).can = s.can := rfl
@[simp] theorem updCh_lin (c : Ch) (f : Channel → Channel) : (updCh c f s).lin = s.lin := rfl
@[simp] theorem updCh_nm (c : Ch) (f : Channel → Channel) : (updCh c f s).nm = s.nm := rfl
@[simp] theorem updCh_uds (c : Ch) (f : Channel → Channel) : (updCh c f s).uds = s.uds := rfl
@[simp] theorem updCh_fab (c : Ch) (f : Channel → Channel) : (updCh c f s).fab = s.fab := rfl
@[simp] theorem updCh_hst (c : Ch) (f : Channel → Channel) : (updCh c f s).hst = s.hst := rfl
@[simp] theorem updCh_sec (c : Ch) (f : Channel → Channel) : (updCh c f s).sec = s.sec := rfl
@[simp] theorem updCh_upd (c : Ch) (f : Channel → Channel) : (updCh c f s).upd = s.upd := rfl
@[simp] theorem updCh_share (c : Ch) (f : Channel → Channel) : (updCh c f s).share = s.share := rfl
@[simp] theorem updCh_boot (c : Ch) (f : Channel → Channel) : (updCh c f s).boot = s.boot := rfl

/-! ### `mapCh` changes `chans` -/
@[simp] theorem mapCh_now (f : Ch → Channel → Channel) : (mapCh f s).now = s.now := by simp only [mapCh]
@[simp] theorem mapCh_freeBase (f : Ch → Channel → Channel) : (mapCh f s).freeBase = s.freeBase := by simp only [mapCh]
@[simp] theorem mapCh_free (f : Ch → Channel → Channel) : (mapCh f s).free = s.free := by simp only [mapCh]
@[simp] theorem mapCh_pending (f : Ch → Channel → Channel) : (mapCh f s).pending = s.pending := by simp only [mapCh]
@[simp] theorem mapCh_words (f : Ch → Channel → Channel) : (mapCh f s).words = s.words := by simp only [mapCh]
@[simp] theorem mapCh_started (f : Ch → Channel → Channel) : (mapCh f s).started = s.started := by simp only [mapCh]
@[simp] theorem mapCh_procs (f : Ch → Channel → Channel) : (mapCh f s).procs = s.procs := by simp only [mapCh]
@[simp] theorem mapCh_modes (f : Ch → Channel → Channel) : (mapCh f s).modes = s.modes := by simp only [mapCh]
@[simp] theorem mapCh_dwell (f : Ch → Channel → Channel) : (mapCh f s).dwell = s.dwell := by simp only [mapCh]
@[simp] theorem mapCh_pw (f : Ch → Channel → Channel) : (mapCh f s).pw = s.pw := by simp only [mapCh]
@[simp] theorem mapCh_txn (f : Ch → Channel → Channel) : (mapCh f s).txn = s.txn := by simp only [mapCh]
@[simp] theorem mapCh_flt (f : Ch → Channel → Channel) : (mapCh f s).flt = s.flt := by simp only [mapCh]
@[simp] theorem mapCh_tt (f : Ch → Channel → Channel) : (mapCh f s).tt = s.tt := by simp only [mapCh]
@[simp] theorem mapCh_bn (f : Ch → Channel → Channel) : (mapCh f s).bn = s.bn := by simp only [mapCh]
@[simp] theorem mapCh_locks (f : Ch → Channel → Channel) : (mapCh f s).locks = s.locks := by simp only [mapCh]
@[simp] theorem mapCh_band (f : Ch → Channel → Channel) : (mapCh f s).band = s.band := by simp only [mapCh]
@[simp] theorem mapCh_led (f : Ch → Channel → Channel) : (mapCh f s).led = s.led := by simp only [mapCh]
@[simp] theorem mapCh_mot (f : Ch → Channel → Channel) : (mapCh f s).mot = s.mot := by simp only [mapCh]
@[simp] theorem mapCh_inp (f : Ch → Channel → Channel) : (mapCh f s).inp = s.inp := by simp only [mapCh]
@[simp] theorem mapCh_imu (f : Ch → Channel → Channel) : (mapCh f s).imu = s.imu := by simp only [mapCh]
@[simp] theorem mapCh_tch (f : Ch → Channel → Channel) : (mapCh f s).tch = s.tch := by simp only [mapCh]
@[simp] theorem mapCh_chg (f : Ch → Channel → Channel) : (mapCh f s).chg = s.chg := by simp only [mapCh]
@[simp] theorem mapCh_can (f : Ch → Channel → Channel) : (mapCh f s).can = s.can := by simp only [mapCh]
@[simp] theorem mapCh_lin (f : Ch → Channel → Channel) : (mapCh f s).lin = s.lin := by simp only [mapCh]
@[simp] theorem mapCh_nm (f : Ch → Channel → Channel) : (mapCh f s).nm = s.nm := by simp only [mapCh]
@[simp] theorem mapCh_uds (f : Ch → Channel → Channel) : (mapCh f s).uds = s.uds := by simp only [mapCh]
@[simp] theorem mapCh_fab (f : Ch → Channel → Channel) : (mapCh f s).fab = s.fab := by simp only [mapCh]
@[simp] theorem mapCh_hst (f : Ch → Channel → Channel) : (mapCh f s).hst = s.hst := by simp only [mapCh]
@[simp] theorem mapCh_sec (f : Ch → Channel → Channel) : (mapCh f s).sec = s.sec := by simp only [mapCh]
@[simp] theorem mapCh_upd (f : Ch → Channel → Channel) : (mapCh f s).upd = s.upd := by simp only [mapCh]
@[simp] theorem mapCh_share (f : Ch → Channel → Channel) : (mapCh f s).share = s.share := by simp only [mapCh]
@[simp] theorem mapCh_boot (f : Ch → Channel → Channel) : (mapCh f s).boot = s.boot := by simp only [mapCh]

/-! ### `updLock` changes `locks` -/
@[simp] theorem updLock_now (h : Hb) (f : LockS → LockS) : (updLock h f s).now = s.now := rfl
@[simp] theorem updLock_freeBase (h : Hb) (f : LockS → LockS) : (updLock h f s).freeBase = s.freeBase := rfl
@[simp] theorem updLock_free (h : Hb) (f : LockS → LockS) : (updLock h f s).free = s.free := rfl
@[simp] theorem updLock_pending (h : Hb) (f : LockS → LockS) : (updLock h f s).pending = s.pending := rfl
@[simp] theorem updLock_words (h : Hb) (f : LockS → LockS) : (updLock h f s).words = s.words := rfl
@[simp] theorem updLock_started (h : Hb) (f : LockS → LockS) : (updLock h f s).started = s.started := rfl
@[simp] theorem updLock_procs (h : Hb) (f : LockS → LockS) : (updLock h f s).procs = s.procs := rfl
@[simp] theorem updLock_modes (h : Hb) (f : LockS → LockS) : (updLock h f s).modes = s.modes := rfl
@[simp] theorem updLock_dwell (h : Hb) (f : LockS → LockS) : (updLock h f s).dwell = s.dwell := rfl
@[simp] theorem updLock_pw (h : Hb) (f : LockS → LockS) : (updLock h f s).pw = s.pw := rfl
@[simp] theorem updLock_txn (h : Hb) (f : LockS → LockS) : (updLock h f s).txn = s.txn := rfl
@[simp] theorem updLock_flt (h : Hb) (f : LockS → LockS) : (updLock h f s).flt = s.flt := rfl
@[simp] theorem updLock_tt (h : Hb) (f : LockS → LockS) : (updLock h f s).tt = s.tt := rfl
@[simp] theorem updLock_bn (h : Hb) (f : LockS → LockS) : (updLock h f s).bn = s.bn := rfl
@[simp] theorem updLock_chans (h : Hb) (f : LockS → LockS) : (updLock h f s).chans = s.chans := rfl
@[simp] theorem updLock_band (h : Hb) (f : LockS → LockS) : (updLock h f s).band = s.band := rfl
@[simp] theorem updLock_led (h : Hb) (f : LockS → LockS) : (updLock h f s).led = s.led := rfl
@[simp] theorem updLock_mot (h : Hb) (f : LockS → LockS) : (updLock h f s).mot = s.mot := rfl
@[simp] theorem updLock_inp (h : Hb) (f : LockS → LockS) : (updLock h f s).inp = s.inp := rfl
@[simp] theorem updLock_imu (h : Hb) (f : LockS → LockS) : (updLock h f s).imu = s.imu := rfl
@[simp] theorem updLock_tch (h : Hb) (f : LockS → LockS) : (updLock h f s).tch = s.tch := rfl
@[simp] theorem updLock_chg (h : Hb) (f : LockS → LockS) : (updLock h f s).chg = s.chg := rfl
@[simp] theorem updLock_can (h : Hb) (f : LockS → LockS) : (updLock h f s).can = s.can := rfl
@[simp] theorem updLock_lin (h : Hb) (f : LockS → LockS) : (updLock h f s).lin = s.lin := rfl
@[simp] theorem updLock_nm (h : Hb) (f : LockS → LockS) : (updLock h f s).nm = s.nm := rfl
@[simp] theorem updLock_uds (h : Hb) (f : LockS → LockS) : (updLock h f s).uds = s.uds := rfl
@[simp] theorem updLock_fab (h : Hb) (f : LockS → LockS) : (updLock h f s).fab = s.fab := rfl
@[simp] theorem updLock_hst (h : Hb) (f : LockS → LockS) : (updLock h f s).hst = s.hst := rfl
@[simp] theorem updLock_sec (h : Hb) (f : LockS → LockS) : (updLock h f s).sec = s.sec := rfl
@[simp] theorem updLock_upd (h : Hb) (f : LockS → LockS) : (updLock h f s).upd = s.upd := rfl
@[simp] theorem updLock_share (h : Hb) (f : LockS → LockS) : (updLock h f s).share = s.share := rfl
@[simp] theorem updLock_boot (h : Hb) (f : LockS → LockS) : (updLock h f s).boot = s.boot := rfl

/-! ### `updStr` changes `led` -/
@[simp] theorem updStr_now (t : Str) (f : StringS → StringS) : (updStr t f s).now = s.now := rfl
@[simp] theorem updStr_freeBase (t : Str) (f : StringS → StringS) : (updStr t f s).freeBase = s.freeBase := rfl
@[simp] theorem updStr_free (t : Str) (f : StringS → StringS) : (updStr t f s).free = s.free := rfl
@[simp] theorem updStr_pending (t : Str) (f : StringS → StringS) : (updStr t f s).pending = s.pending := rfl
@[simp] theorem updStr_words (t : Str) (f : StringS → StringS) : (updStr t f s).words = s.words := rfl
@[simp] theorem updStr_started (t : Str) (f : StringS → StringS) : (updStr t f s).started = s.started := rfl
@[simp] theorem updStr_procs (t : Str) (f : StringS → StringS) : (updStr t f s).procs = s.procs := rfl
@[simp] theorem updStr_modes (t : Str) (f : StringS → StringS) : (updStr t f s).modes = s.modes := rfl
@[simp] theorem updStr_dwell (t : Str) (f : StringS → StringS) : (updStr t f s).dwell = s.dwell := rfl
@[simp] theorem updStr_pw (t : Str) (f : StringS → StringS) : (updStr t f s).pw = s.pw := rfl
@[simp] theorem updStr_txn (t : Str) (f : StringS → StringS) : (updStr t f s).txn = s.txn := rfl
@[simp] theorem updStr_flt (t : Str) (f : StringS → StringS) : (updStr t f s).flt = s.flt := rfl
@[simp] theorem updStr_tt (t : Str) (f : StringS → StringS) : (updStr t f s).tt = s.tt := rfl
@[simp] theorem updStr_bn (t : Str) (f : StringS → StringS) : (updStr t f s).bn = s.bn := rfl
@[simp] theorem updStr_chans (t : Str) (f : StringS → StringS) : (updStr t f s).chans = s.chans := rfl
@[simp] theorem updStr_locks (t : Str) (f : StringS → StringS) : (updStr t f s).locks = s.locks := rfl
@[simp] theorem updStr_band (t : Str) (f : StringS → StringS) : (updStr t f s).band = s.band := rfl
@[simp] theorem updStr_mot (t : Str) (f : StringS → StringS) : (updStr t f s).mot = s.mot := rfl
@[simp] theorem updStr_inp (t : Str) (f : StringS → StringS) : (updStr t f s).inp = s.inp := rfl
@[simp] theorem updStr_imu (t : Str) (f : StringS → StringS) : (updStr t f s).imu = s.imu := rfl
@[simp] theorem updStr_tch (t : Str) (f : StringS → StringS) : (updStr t f s).tch = s.tch := rfl
@[simp] theorem updStr_chg (t : Str) (f : StringS → StringS) : (updStr t f s).chg = s.chg := rfl
@[simp] theorem updStr_can (t : Str) (f : StringS → StringS) : (updStr t f s).can = s.can := rfl
@[simp] theorem updStr_lin (t : Str) (f : StringS → StringS) : (updStr t f s).lin = s.lin := rfl
@[simp] theorem updStr_nm (t : Str) (f : StringS → StringS) : (updStr t f s).nm = s.nm := rfl
@[simp] theorem updStr_uds (t : Str) (f : StringS → StringS) : (updStr t f s).uds = s.uds := rfl
@[simp] theorem updStr_fab (t : Str) (f : StringS → StringS) : (updStr t f s).fab = s.fab := rfl
@[simp] theorem updStr_hst (t : Str) (f : StringS → StringS) : (updStr t f s).hst = s.hst := rfl
@[simp] theorem updStr_sec (t : Str) (f : StringS → StringS) : (updStr t f s).sec = s.sec := rfl
@[simp] theorem updStr_upd (t : Str) (f : StringS → StringS) : (updStr t f s).upd = s.upd := rfl
@[simp] theorem updStr_share (t : Str) (f : StringS → StringS) : (updStr t f s).share = s.share := rfl
@[simp] theorem updStr_boot (t : Str) (f : StringS → StringS) : (updStr t f s).boot = s.boot := rfl

/-! ### `updBr` changes `mot` -/
@[simp] theorem updBr_now (b : Mot) (f : Bridge → Bridge) : (updBr b f s).now = s.now := rfl
@[simp] theorem updBr_freeBase (b : Mot) (f : Bridge → Bridge) : (updBr b f s).freeBase = s.freeBase := rfl
@[simp] theorem updBr_free (b : Mot) (f : Bridge → Bridge) : (updBr b f s).free = s.free := rfl
@[simp] theorem updBr_pending (b : Mot) (f : Bridge → Bridge) : (updBr b f s).pending = s.pending := rfl
@[simp] theorem updBr_words (b : Mot) (f : Bridge → Bridge) : (updBr b f s).words = s.words := rfl
@[simp] theorem updBr_started (b : Mot) (f : Bridge → Bridge) : (updBr b f s).started = s.started := rfl
@[simp] theorem updBr_procs (b : Mot) (f : Bridge → Bridge) : (updBr b f s).procs = s.procs := rfl
@[simp] theorem updBr_modes (b : Mot) (f : Bridge → Bridge) : (updBr b f s).modes = s.modes := rfl
@[simp] theorem updBr_dwell (b : Mot) (f : Bridge → Bridge) : (updBr b f s).dwell = s.dwell := rfl
@[simp] theorem updBr_pw (b : Mot) (f : Bridge → Bridge) : (updBr b f s).pw = s.pw := rfl
@[simp] theorem updBr_txn (b : Mot) (f : Bridge → Bridge) : (updBr b f s).txn = s.txn := rfl
@[simp] theorem updBr_flt (b : Mot) (f : Bridge → Bridge) : (updBr b f s).flt = s.flt := rfl
@[simp] theorem updBr_tt (b : Mot) (f : Bridge → Bridge) : (updBr b f s).tt = s.tt := rfl
@[simp] theorem updBr_bn (b : Mot) (f : Bridge → Bridge) : (updBr b f s).bn = s.bn := rfl
@[simp] theorem updBr_chans (b : Mot) (f : Bridge → Bridge) : (updBr b f s).chans = s.chans := rfl
@[simp] theorem updBr_locks (b : Mot) (f : Bridge → Bridge) : (updBr b f s).locks = s.locks := rfl
@[simp] theorem updBr_band (b : Mot) (f : Bridge → Bridge) : (updBr b f s).band = s.band := rfl
@[simp] theorem updBr_led (b : Mot) (f : Bridge → Bridge) : (updBr b f s).led = s.led := rfl
@[simp] theorem updBr_inp (b : Mot) (f : Bridge → Bridge) : (updBr b f s).inp = s.inp := rfl
@[simp] theorem updBr_imu (b : Mot) (f : Bridge → Bridge) : (updBr b f s).imu = s.imu := rfl
@[simp] theorem updBr_tch (b : Mot) (f : Bridge → Bridge) : (updBr b f s).tch = s.tch := rfl
@[simp] theorem updBr_chg (b : Mot) (f : Bridge → Bridge) : (updBr b f s).chg = s.chg := rfl
@[simp] theorem updBr_can (b : Mot) (f : Bridge → Bridge) : (updBr b f s).can = s.can := rfl
@[simp] theorem updBr_lin (b : Mot) (f : Bridge → Bridge) : (updBr b f s).lin = s.lin := rfl
@[simp] theorem updBr_nm (b : Mot) (f : Bridge → Bridge) : (updBr b f s).nm = s.nm := rfl
@[simp] theorem updBr_uds (b : Mot) (f : Bridge → Bridge) : (updBr b f s).uds = s.uds := rfl
@[simp] theorem updBr_fab (b : Mot) (f : Bridge → Bridge) : (updBr b f s).fab = s.fab := rfl
@[simp] theorem updBr_hst (b : Mot) (f : Bridge → Bridge) : (updBr b f s).hst = s.hst := rfl
@[simp] theorem updBr_sec (b : Mot) (f : Bridge → Bridge) : (updBr b f s).sec = s.sec := rfl
@[simp] theorem updBr_upd (b : Mot) (f : Bridge → Bridge) : (updBr b f s).upd = s.upd := rfl
@[simp] theorem updBr_share (b : Mot) (f : Bridge → Bridge) : (updBr b f s).share = s.share := rfl
@[simp] theorem updBr_boot (b : Mot) (f : Bridge → Bridge) : (updBr b f s).boot = s.boot := rfl

/-! ### `updBrush` changes `mot` -/
@[simp] theorem updBrush_now (b : Hb) (f : Brushed → Brushed) : (updBrush b f s).now = s.now := rfl
@[simp] theorem updBrush_freeBase (b : Hb) (f : Brushed → Brushed) : (updBrush b f s).freeBase = s.freeBase := rfl
@[simp] theorem updBrush_free (b : Hb) (f : Brushed → Brushed) : (updBrush b f s).free = s.free := rfl
@[simp] theorem updBrush_pending (b : Hb) (f : Brushed → Brushed) : (updBrush b f s).pending = s.pending := rfl
@[simp] theorem updBrush_words (b : Hb) (f : Brushed → Brushed) : (updBrush b f s).words = s.words := rfl
@[simp] theorem updBrush_started (b : Hb) (f : Brushed → Brushed) : (updBrush b f s).started = s.started := rfl
@[simp] theorem updBrush_procs (b : Hb) (f : Brushed → Brushed) : (updBrush b f s).procs = s.procs := rfl
@[simp] theorem updBrush_modes (b : Hb) (f : Brushed → Brushed) : (updBrush b f s).modes = s.modes := rfl
@[simp] theorem updBrush_dwell (b : Hb) (f : Brushed → Brushed) : (updBrush b f s).dwell = s.dwell := rfl
@[simp] theorem updBrush_pw (b : Hb) (f : Brushed → Brushed) : (updBrush b f s).pw = s.pw := rfl
@[simp] theorem updBrush_txn (b : Hb) (f : Brushed → Brushed) : (updBrush b f s).txn = s.txn := rfl
@[simp] theorem updBrush_flt (b : Hb) (f : Brushed → Brushed) : (updBrush b f s).flt = s.flt := rfl
@[simp] theorem updBrush_tt (b : Hb) (f : Brushed → Brushed) : (updBrush b f s).tt = s.tt := rfl
@[simp] theorem updBrush_bn (b : Hb) (f : Brushed → Brushed) : (updBrush b f s).bn = s.bn := rfl
@[simp] theorem updBrush_chans (b : Hb) (f : Brushed → Brushed) : (updBrush b f s).chans = s.chans := rfl
@[simp] theorem updBrush_locks (b : Hb) (f : Brushed → Brushed) : (updBrush b f s).locks = s.locks := rfl
@[simp] theorem updBrush_band (b : Hb) (f : Brushed → Brushed) : (updBrush b f s).band = s.band := rfl
@[simp] theorem updBrush_led (b : Hb) (f : Brushed → Brushed) : (updBrush b f s).led = s.led := rfl
@[simp] theorem updBrush_inp (b : Hb) (f : Brushed → Brushed) : (updBrush b f s).inp = s.inp := rfl
@[simp] theorem updBrush_imu (b : Hb) (f : Brushed → Brushed) : (updBrush b f s).imu = s.imu := rfl
@[simp] theorem updBrush_tch (b : Hb) (f : Brushed → Brushed) : (updBrush b f s).tch = s.tch := rfl
@[simp] theorem updBrush_chg (b : Hb) (f : Brushed → Brushed) : (updBrush b f s).chg = s.chg := rfl
@[simp] theorem updBrush_can (b : Hb) (f : Brushed → Brushed) : (updBrush b f s).can = s.can := rfl
@[simp] theorem updBrush_lin (b : Hb) (f : Brushed → Brushed) : (updBrush b f s).lin = s.lin := rfl
@[simp] theorem updBrush_nm (b : Hb) (f : Brushed → Brushed) : (updBrush b f s).nm = s.nm := rfl
@[simp] theorem updBrush_uds (b : Hb) (f : Brushed → Brushed) : (updBrush b f s).uds = s.uds := rfl
@[simp] theorem updBrush_fab (b : Hb) (f : Brushed → Brushed) : (updBrush b f s).fab = s.fab := rfl
@[simp] theorem updBrush_hst (b : Hb) (f : Brushed → Brushed) : (updBrush b f s).hst = s.hst := rfl
@[simp] theorem updBrush_sec (b : Hb) (f : Brushed → Brushed) : (updBrush b f s).sec = s.sec := rfl
@[simp] theorem updBrush_upd (b : Hb) (f : Brushed → Brushed) : (updBrush b f s).upd = s.upd := rfl
@[simp] theorem updBrush_share (b : Hb) (f : Brushed → Brushed) : (updBrush b f s).share = s.share := rfl
@[simp] theorem updBrush_boot (b : Hb) (f : Brushed → Brushed) : (updBrush b f s).boot = s.boot := rfl

/-! ### `updPc` changes `tt` -/
@[simp] theorem updPc_now (p : Pc) (f : PhaseClock → PhaseClock) : (updPc p f s).now = s.now := rfl
@[simp] theorem updPc_freeBase (p : Pc) (f : PhaseClock → PhaseClock) : (updPc p f s).freeBase = s.freeBase := rfl
@[simp] theorem updPc_free (p : Pc) (f : PhaseClock → PhaseClock) : (updPc p f s).free = s.free := rfl
@[simp] theorem updPc_pending (p : Pc) (f : PhaseClock → PhaseClock) : (updPc p f s).pending = s.pending := rfl
@[simp] theorem updPc_words (p : Pc) (f : PhaseClock → PhaseClock) : (updPc p f s).words = s.words := rfl
@[simp] theorem updPc_started (p : Pc) (f : PhaseClock → PhaseClock) : (updPc p f s).started = s.started := rfl
@[simp] theorem updPc_procs (p : Pc) (f : PhaseClock → PhaseClock) : (updPc p f s).procs = s.procs := rfl
@[simp] theorem updPc_modes (p : Pc) (f : PhaseClock → PhaseClock) : (updPc p f s).modes = s.modes := rfl
@[simp] theorem updPc_dwell (p : Pc) (f : PhaseClock → PhaseClock) : (updPc p f s).dwell = s.dwell := rfl
@[simp] theorem updPc_pw (p : Pc) (f : PhaseClock → PhaseClock) : (updPc p f s).pw = s.pw := rfl
@[simp] theorem updPc_txn (p : Pc) (f : PhaseClock → PhaseClock) : (updPc p f s).txn = s.txn := rfl
@[simp] theorem updPc_flt (p : Pc) (f : PhaseClock → PhaseClock) : (updPc p f s).flt = s.flt := rfl
@[simp] theorem updPc_bn (p : Pc) (f : PhaseClock → PhaseClock) : (updPc p f s).bn = s.bn := rfl
@[simp] theorem updPc_chans (p : Pc) (f : PhaseClock → PhaseClock) : (updPc p f s).chans = s.chans := rfl
@[simp] theorem updPc_locks (p : Pc) (f : PhaseClock → PhaseClock) : (updPc p f s).locks = s.locks := rfl
@[simp] theorem updPc_band (p : Pc) (f : PhaseClock → PhaseClock) : (updPc p f s).band = s.band := rfl
@[simp] theorem updPc_led (p : Pc) (f : PhaseClock → PhaseClock) : (updPc p f s).led = s.led := rfl
@[simp] theorem updPc_mot (p : Pc) (f : PhaseClock → PhaseClock) : (updPc p f s).mot = s.mot := rfl
@[simp] theorem updPc_inp (p : Pc) (f : PhaseClock → PhaseClock) : (updPc p f s).inp = s.inp := rfl
@[simp] theorem updPc_imu (p : Pc) (f : PhaseClock → PhaseClock) : (updPc p f s).imu = s.imu := rfl
@[simp] theorem updPc_tch (p : Pc) (f : PhaseClock → PhaseClock) : (updPc p f s).tch = s.tch := rfl
@[simp] theorem updPc_chg (p : Pc) (f : PhaseClock → PhaseClock) : (updPc p f s).chg = s.chg := rfl
@[simp] theorem updPc_can (p : Pc) (f : PhaseClock → PhaseClock) : (updPc p f s).can = s.can := rfl
@[simp] theorem updPc_lin (p : Pc) (f : PhaseClock → PhaseClock) : (updPc p f s).lin = s.lin := rfl
@[simp] theorem updPc_nm (p : Pc) (f : PhaseClock → PhaseClock) : (updPc p f s).nm = s.nm := rfl
@[simp] theorem updPc_uds (p : Pc) (f : PhaseClock → PhaseClock) : (updPc p f s).uds = s.uds := rfl
@[simp] theorem updPc_fab (p : Pc) (f : PhaseClock → PhaseClock) : (updPc p f s).fab = s.fab := rfl
@[simp] theorem updPc_hst (p : Pc) (f : PhaseClock → PhaseClock) : (updPc p f s).hst = s.hst := rfl
@[simp] theorem updPc_sec (p : Pc) (f : PhaseClock → PhaseClock) : (updPc p f s).sec = s.sec := rfl
@[simp] theorem updPc_upd (p : Pc) (f : PhaseClock → PhaseClock) : (updPc p f s).upd = s.upd := rfl
@[simp] theorem updPc_share (p : Pc) (f : PhaseClock → PhaseClock) : (updPc p f s).share = s.share := rfl
@[simp] theorem updPc_boot (p : Pc) (f : PhaseClock → PhaseClock) : (updPc p f s).boot = s.boot := rfl

/-! ### `updLesson` changes `bn` -/
@[simp] theorem updLesson_now (l : LessonNo) (f : LessonSt → LessonSt) : (updLesson l f s).now = s.now := rfl
@[simp] theorem updLesson_freeBase (l : LessonNo) (f : LessonSt → LessonSt) : (updLesson l f s).freeBase = s.freeBase := rfl
@[simp] theorem updLesson_free (l : LessonNo) (f : LessonSt → LessonSt) : (updLesson l f s).free = s.free := rfl
@[simp] theorem updLesson_pending (l : LessonNo) (f : LessonSt → LessonSt) : (updLesson l f s).pending = s.pending := rfl
@[simp] theorem updLesson_words (l : LessonNo) (f : LessonSt → LessonSt) : (updLesson l f s).words = s.words := rfl
@[simp] theorem updLesson_started (l : LessonNo) (f : LessonSt → LessonSt) : (updLesson l f s).started = s.started := rfl
@[simp] theorem updLesson_procs (l : LessonNo) (f : LessonSt → LessonSt) : (updLesson l f s).procs = s.procs := rfl
@[simp] theorem updLesson_modes (l : LessonNo) (f : LessonSt → LessonSt) : (updLesson l f s).modes = s.modes := rfl
@[simp] theorem updLesson_dwell (l : LessonNo) (f : LessonSt → LessonSt) : (updLesson l f s).dwell = s.dwell := rfl
@[simp] theorem updLesson_pw (l : LessonNo) (f : LessonSt → LessonSt) : (updLesson l f s).pw = s.pw := rfl
@[simp] theorem updLesson_txn (l : LessonNo) (f : LessonSt → LessonSt) : (updLesson l f s).txn = s.txn := rfl
@[simp] theorem updLesson_flt (l : LessonNo) (f : LessonSt → LessonSt) : (updLesson l f s).flt = s.flt := rfl
@[simp] theorem updLesson_tt (l : LessonNo) (f : LessonSt → LessonSt) : (updLesson l f s).tt = s.tt := rfl
@[simp] theorem updLesson_chans (l : LessonNo) (f : LessonSt → LessonSt) : (updLesson l f s).chans = s.chans := rfl
@[simp] theorem updLesson_locks (l : LessonNo) (f : LessonSt → LessonSt) : (updLesson l f s).locks = s.locks := rfl
@[simp] theorem updLesson_band (l : LessonNo) (f : LessonSt → LessonSt) : (updLesson l f s).band = s.band := rfl
@[simp] theorem updLesson_led (l : LessonNo) (f : LessonSt → LessonSt) : (updLesson l f s).led = s.led := rfl
@[simp] theorem updLesson_mot (l : LessonNo) (f : LessonSt → LessonSt) : (updLesson l f s).mot = s.mot := rfl
@[simp] theorem updLesson_inp (l : LessonNo) (f : LessonSt → LessonSt) : (updLesson l f s).inp = s.inp := rfl
@[simp] theorem updLesson_imu (l : LessonNo) (f : LessonSt → LessonSt) : (updLesson l f s).imu = s.imu := rfl
@[simp] theorem updLesson_tch (l : LessonNo) (f : LessonSt → LessonSt) : (updLesson l f s).tch = s.tch := rfl
@[simp] theorem updLesson_chg (l : LessonNo) (f : LessonSt → LessonSt) : (updLesson l f s).chg = s.chg := rfl
@[simp] theorem updLesson_can (l : LessonNo) (f : LessonSt → LessonSt) : (updLesson l f s).can = s.can := rfl
@[simp] theorem updLesson_lin (l : LessonNo) (f : LessonSt → LessonSt) : (updLesson l f s).lin = s.lin := rfl
@[simp] theorem updLesson_nm (l : LessonNo) (f : LessonSt → LessonSt) : (updLesson l f s).nm = s.nm := rfl
@[simp] theorem updLesson_uds (l : LessonNo) (f : LessonSt → LessonSt) : (updLesson l f s).uds = s.uds := rfl
@[simp] theorem updLesson_fab (l : LessonNo) (f : LessonSt → LessonSt) : (updLesson l f s).fab = s.fab := rfl
@[simp] theorem updLesson_hst (l : LessonNo) (f : LessonSt → LessonSt) : (updLesson l f s).hst = s.hst := rfl
@[simp] theorem updLesson_sec (l : LessonNo) (f : LessonSt → LessonSt) : (updLesson l f s).sec = s.sec := rfl
@[simp] theorem updLesson_upd (l : LessonNo) (f : LessonSt → LessonSt) : (updLesson l f s).upd = s.upd := rfl
@[simp] theorem updLesson_share (l : LessonNo) (f : LessonSt → LessonSt) : (updLesson l f s).share = s.share := rfl
@[simp] theorem updLesson_boot (l : LessonNo) (f : LessonSt → LessonSt) : (updLesson l f s).boot = s.boot := rfl

/-! ### `updGroup` changes `tch` -/
@[simp] theorem updGroup_now (g : Fin 8) (f : Group → Group) : (updGroup g f s).now = s.now := rfl
@[simp] theorem updGroup_freeBase (g : Fin 8) (f : Group → Group) : (updGroup g f s).freeBase = s.freeBase := rfl
@[simp] theorem updGroup_free (g : Fin 8) (f : Group → Group) : (updGroup g f s).free = s.free := rfl
@[simp] theorem updGroup_pending (g : Fin 8) (f : Group → Group) : (updGroup g f s).pending = s.pending := rfl
@[simp] theorem updGroup_words (g : Fin 8) (f : Group → Group) : (updGroup g f s).words = s.words := rfl
@[simp] theorem updGroup_started (g : Fin 8) (f : Group → Group) : (updGroup g f s).started = s.started := rfl
@[simp] theorem updGroup_procs (g : Fin 8) (f : Group → Group) : (updGroup g f s).procs = s.procs := rfl
@[simp] theorem updGroup_modes (g : Fin 8) (f : Group → Group) : (updGroup g f s).modes = s.modes := rfl
@[simp] theorem updGroup_dwell (g : Fin 8) (f : Group → Group) : (updGroup g f s).dwell = s.dwell := rfl
@[simp] theorem updGroup_pw (g : Fin 8) (f : Group → Group) : (updGroup g f s).pw = s.pw := rfl
@[simp] theorem updGroup_txn (g : Fin 8) (f : Group → Group) : (updGroup g f s).txn = s.txn := rfl
@[simp] theorem updGroup_flt (g : Fin 8) (f : Group → Group) : (updGroup g f s).flt = s.flt := rfl
@[simp] theorem updGroup_tt (g : Fin 8) (f : Group → Group) : (updGroup g f s).tt = s.tt := rfl
@[simp] theorem updGroup_bn (g : Fin 8) (f : Group → Group) : (updGroup g f s).bn = s.bn := rfl
@[simp] theorem updGroup_chans (g : Fin 8) (f : Group → Group) : (updGroup g f s).chans = s.chans := rfl
@[simp] theorem updGroup_locks (g : Fin 8) (f : Group → Group) : (updGroup g f s).locks = s.locks := rfl
@[simp] theorem updGroup_band (g : Fin 8) (f : Group → Group) : (updGroup g f s).band = s.band := rfl
@[simp] theorem updGroup_led (g : Fin 8) (f : Group → Group) : (updGroup g f s).led = s.led := rfl
@[simp] theorem updGroup_mot (g : Fin 8) (f : Group → Group) : (updGroup g f s).mot = s.mot := rfl
@[simp] theorem updGroup_inp (g : Fin 8) (f : Group → Group) : (updGroup g f s).inp = s.inp := rfl
@[simp] theorem updGroup_imu (g : Fin 8) (f : Group → Group) : (updGroup g f s).imu = s.imu := rfl
@[simp] theorem updGroup_chg (g : Fin 8) (f : Group → Group) : (updGroup g f s).chg = s.chg := rfl
@[simp] theorem updGroup_can (g : Fin 8) (f : Group → Group) : (updGroup g f s).can = s.can := rfl
@[simp] theorem updGroup_lin (g : Fin 8) (f : Group → Group) : (updGroup g f s).lin = s.lin := rfl
@[simp] theorem updGroup_nm (g : Fin 8) (f : Group → Group) : (updGroup g f s).nm = s.nm := rfl
@[simp] theorem updGroup_uds (g : Fin 8) (f : Group → Group) : (updGroup g f s).uds = s.uds := rfl
@[simp] theorem updGroup_fab (g : Fin 8) (f : Group → Group) : (updGroup g f s).fab = s.fab := rfl
@[simp] theorem updGroup_hst (g : Fin 8) (f : Group → Group) : (updGroup g f s).hst = s.hst := rfl
@[simp] theorem updGroup_sec (g : Fin 8) (f : Group → Group) : (updGroup g f s).sec = s.sec := rfl
@[simp] theorem updGroup_upd (g : Fin 8) (f : Group → Group) : (updGroup g f s).upd = s.upd := rfl
@[simp] theorem updGroup_share (g : Fin 8) (f : Group → Group) : (updGroup g f s).share = s.share := rfl
@[simp] theorem updGroup_boot (g : Fin 8) (f : Group → Group) : (updGroup g f s).boot = s.boot := rfl

/-! ### `updCan` changes `can` -/
@[simp] theorem updCan_now (c : Can) (f : CanC → CanC) : (updCan c f s).now = s.now := rfl
@[simp] theorem updCan_freeBase (c : Can) (f : CanC → CanC) : (updCan c f s).freeBase = s.freeBase := rfl
@[simp] theorem updCan_free (c : Can) (f : CanC → CanC) : (updCan c f s).free = s.free := rfl
@[simp] theorem updCan_pending (c : Can) (f : CanC → CanC) : (updCan c f s).pending = s.pending := rfl
@[simp] theorem updCan_words (c : Can) (f : CanC → CanC) : (updCan c f s).words = s.words := rfl
@[simp] theorem updCan_started (c : Can) (f : CanC → CanC) : (updCan c f s).started = s.started := rfl
@[simp] theorem updCan_procs (c : Can) (f : CanC → CanC) : (updCan c f s).procs = s.procs := rfl
@[simp] theorem updCan_modes (c : Can) (f : CanC → CanC) : (updCan c f s).modes = s.modes := rfl
@[simp] theorem updCan_dwell (c : Can) (f : CanC → CanC) : (updCan c f s).dwell = s.dwell := rfl
@[simp] theorem updCan_pw (c : Can) (f : CanC → CanC) : (updCan c f s).pw = s.pw := rfl
@[simp] theorem updCan_txn (c : Can) (f : CanC → CanC) : (updCan c f s).txn = s.txn := rfl
@[simp] theorem updCan_flt (c : Can) (f : CanC → CanC) : (updCan c f s).flt = s.flt := rfl
@[simp] theorem updCan_tt (c : Can) (f : CanC → CanC) : (updCan c f s).tt = s.tt := rfl
@[simp] theorem updCan_bn (c : Can) (f : CanC → CanC) : (updCan c f s).bn = s.bn := rfl
@[simp] theorem updCan_chans (c : Can) (f : CanC → CanC) : (updCan c f s).chans = s.chans := rfl
@[simp] theorem updCan_locks (c : Can) (f : CanC → CanC) : (updCan c f s).locks = s.locks := rfl
@[simp] theorem updCan_band (c : Can) (f : CanC → CanC) : (updCan c f s).band = s.band := rfl
@[simp] theorem updCan_led (c : Can) (f : CanC → CanC) : (updCan c f s).led = s.led := rfl
@[simp] theorem updCan_mot (c : Can) (f : CanC → CanC) : (updCan c f s).mot = s.mot := rfl
@[simp] theorem updCan_inp (c : Can) (f : CanC → CanC) : (updCan c f s).inp = s.inp := rfl
@[simp] theorem updCan_imu (c : Can) (f : CanC → CanC) : (updCan c f s).imu = s.imu := rfl
@[simp] theorem updCan_tch (c : Can) (f : CanC → CanC) : (updCan c f s).tch = s.tch := rfl
@[simp] theorem updCan_chg (c : Can) (f : CanC → CanC) : (updCan c f s).chg = s.chg := rfl
@[simp] theorem updCan_lin (c : Can) (f : CanC → CanC) : (updCan c f s).lin = s.lin := rfl
@[simp] theorem updCan_nm (c : Can) (f : CanC → CanC) : (updCan c f s).nm = s.nm := rfl
@[simp] theorem updCan_uds (c : Can) (f : CanC → CanC) : (updCan c f s).uds = s.uds := rfl
@[simp] theorem updCan_fab (c : Can) (f : CanC → CanC) : (updCan c f s).fab = s.fab := rfl
@[simp] theorem updCan_hst (c : Can) (f : CanC → CanC) : (updCan c f s).hst = s.hst := rfl
@[simp] theorem updCan_sec (c : Can) (f : CanC → CanC) : (updCan c f s).sec = s.sec := rfl
@[simp] theorem updCan_upd (c : Can) (f : CanC → CanC) : (updCan c f s).upd = s.upd := rfl
@[simp] theorem updCan_share (c : Can) (f : CanC → CanC) : (updCan c f s).share = s.share := rfl
@[simp] theorem updCan_boot (c : Can) (f : CanC → CanC) : (updCan c f s).boot = s.boot := rfl

/-! ### `updLin` changes `lin` -/
@[simp] theorem updLin_now (l : Lin) (f : LinC → LinC) : (updLin l f s).now = s.now := rfl
@[simp] theorem updLin_freeBase (l : Lin) (f : LinC → LinC) : (updLin l f s).freeBase = s.freeBase := rfl
@[simp] theorem updLin_free (l : Lin) (f : LinC → LinC) : (updLin l f s).free = s.free := rfl
@[simp] theorem updLin_pending (l : Lin) (f : LinC → LinC) : (updLin l f s).pending = s.pending := rfl
@[simp] theorem updLin_words (l : Lin) (f : LinC → LinC) : (updLin l f s).words = s.words := rfl
@[simp] theorem updLin_started (l : Lin) (f : LinC → LinC) : (updLin l f s).started = s.started := rfl
@[simp] theorem updLin_procs (l : Lin) (f : LinC → LinC) : (updLin l f s).procs = s.procs := rfl
@[simp] theorem updLin_modes (l : Lin) (f : LinC → LinC) : (updLin l f s).modes = s.modes := rfl
@[simp] theorem updLin_dwell (l : Lin) (f : LinC → LinC) : (updLin l f s).dwell = s.dwell := rfl
@[simp] theorem updLin_pw (l : Lin) (f : LinC → LinC) : (updLin l f s).pw = s.pw := rfl
@[simp] theorem updLin_txn (l : Lin) (f : LinC → LinC) : (updLin l f s).txn = s.txn := rfl
@[simp] theorem updLin_flt (l : Lin) (f : LinC → LinC) : (updLin l f s).flt = s.flt := rfl
@[simp] theorem updLin_tt (l : Lin) (f : LinC → LinC) : (updLin l f s).tt = s.tt := rfl
@[simp] theorem updLin_bn (l : Lin) (f : LinC → LinC) : (updLin l f s).bn = s.bn := rfl
@[simp] theorem updLin_chans (l : Lin) (f : LinC → LinC) : (updLin l f s).chans = s.chans := rfl
@[simp] theorem updLin_locks (l : Lin) (f : LinC → LinC) : (updLin l f s).locks = s.locks := rfl
@[simp] theorem updLin_band (l : Lin) (f : LinC → LinC) : (updLin l f s).band = s.band := rfl
@[simp] theorem updLin_led (l : Lin) (f : LinC → LinC) : (updLin l f s).led = s.led := rfl
@[simp] theorem updLin_mot (l : Lin) (f : LinC → LinC) : (updLin l f s).mot = s.mot := rfl
@[simp] theorem updLin_inp (l : Lin) (f : LinC → LinC) : (updLin l f s).inp = s.inp := rfl
@[simp] theorem updLin_imu (l : Lin) (f : LinC → LinC) : (updLin l f s).imu = s.imu := rfl
@[simp] theorem updLin_tch (l : Lin) (f : LinC → LinC) : (updLin l f s).tch = s.tch := rfl
@[simp] theorem updLin_chg (l : Lin) (f : LinC → LinC) : (updLin l f s).chg = s.chg := rfl
@[simp] theorem updLin_can (l : Lin) (f : LinC → LinC) : (updLin l f s).can = s.can := rfl
@[simp] theorem updLin_nm (l : Lin) (f : LinC → LinC) : (updLin l f s).nm = s.nm := rfl
@[simp] theorem updLin_uds (l : Lin) (f : LinC → LinC) : (updLin l f s).uds = s.uds := rfl
@[simp] theorem updLin_fab (l : Lin) (f : LinC → LinC) : (updLin l f s).fab = s.fab := rfl
@[simp] theorem updLin_hst (l : Lin) (f : LinC → LinC) : (updLin l f s).hst = s.hst := rfl
@[simp] theorem updLin_sec (l : Lin) (f : LinC → LinC) : (updLin l f s).sec = s.sec := rfl
@[simp] theorem updLin_upd (l : Lin) (f : LinC → LinC) : (updLin l f s).upd = s.upd := rfl
@[simp] theorem updLin_share (l : Lin) (f : LinC → LinC) : (updLin l f s).share = s.share := rfl
@[simp] theorem updLin_boot (l : Lin) (f : LinC → LinC) : (updLin l f s).boot = s.boot := rfl

/-! ### `updNm` changes `nm` -/
@[simp] theorem updNm_now (c : Can) (f : NmC → NmC) : (updNm c f s).now = s.now := rfl
@[simp] theorem updNm_freeBase (c : Can) (f : NmC → NmC) : (updNm c f s).freeBase = s.freeBase := rfl
@[simp] theorem updNm_free (c : Can) (f : NmC → NmC) : (updNm c f s).free = s.free := rfl
@[simp] theorem updNm_pending (c : Can) (f : NmC → NmC) : (updNm c f s).pending = s.pending := rfl
@[simp] theorem updNm_words (c : Can) (f : NmC → NmC) : (updNm c f s).words = s.words := rfl
@[simp] theorem updNm_started (c : Can) (f : NmC → NmC) : (updNm c f s).started = s.started := rfl
@[simp] theorem updNm_procs (c : Can) (f : NmC → NmC) : (updNm c f s).procs = s.procs := rfl
@[simp] theorem updNm_modes (c : Can) (f : NmC → NmC) : (updNm c f s).modes = s.modes := rfl
@[simp] theorem updNm_dwell (c : Can) (f : NmC → NmC) : (updNm c f s).dwell = s.dwell := rfl
@[simp] theorem updNm_pw (c : Can) (f : NmC → NmC) : (updNm c f s).pw = s.pw := rfl
@[simp] theorem updNm_txn (c : Can) (f : NmC → NmC) : (updNm c f s).txn = s.txn := rfl
@[simp] theorem updNm_flt (c : Can) (f : NmC → NmC) : (updNm c f s).flt = s.flt := rfl
@[simp] theorem updNm_tt (c : Can) (f : NmC → NmC) : (updNm c f s).tt = s.tt := rfl
@[simp] theorem updNm_bn (c : Can) (f : NmC → NmC) : (updNm c f s).bn = s.bn := rfl
@[simp] theorem updNm_chans (c : Can) (f : NmC → NmC) : (updNm c f s).chans = s.chans := rfl
@[simp] theorem updNm_locks (c : Can) (f : NmC → NmC) : (updNm c f s).locks = s.locks := rfl
@[simp] theorem updNm_band (c : Can) (f : NmC → NmC) : (updNm c f s).band = s.band := rfl
@[simp] theorem updNm_led (c : Can) (f : NmC → NmC) : (updNm c f s).led = s.led := rfl
@[simp] theorem updNm_mot (c : Can) (f : NmC → NmC) : (updNm c f s).mot = s.mot := rfl
@[simp] theorem updNm_inp (c : Can) (f : NmC → NmC) : (updNm c f s).inp = s.inp := rfl
@[simp] theorem updNm_imu (c : Can) (f : NmC → NmC) : (updNm c f s).imu = s.imu := rfl
@[simp] theorem updNm_tch (c : Can) (f : NmC → NmC) : (updNm c f s).tch = s.tch := rfl
@[simp] theorem updNm_chg (c : Can) (f : NmC → NmC) : (updNm c f s).chg = s.chg := rfl
@[simp] theorem updNm_can (c : Can) (f : NmC → NmC) : (updNm c f s).can = s.can := rfl
@[simp] theorem updNm_lin (c : Can) (f : NmC → NmC) : (updNm c f s).lin = s.lin := rfl
@[simp] theorem updNm_uds (c : Can) (f : NmC → NmC) : (updNm c f s).uds = s.uds := rfl
@[simp] theorem updNm_fab (c : Can) (f : NmC → NmC) : (updNm c f s).fab = s.fab := rfl
@[simp] theorem updNm_hst (c : Can) (f : NmC → NmC) : (updNm c f s).hst = s.hst := rfl
@[simp] theorem updNm_sec (c : Can) (f : NmC → NmC) : (updNm c f s).sec = s.sec := rfl
@[simp] theorem updNm_upd (c : Can) (f : NmC → NmC) : (updNm c f s).upd = s.upd := rfl
@[simp] theorem updNm_share (c : Can) (f : NmC → NmC) : (updNm c f s).share = s.share := rfl
@[simp] theorem updNm_boot (c : Can) (f : NmC → NmC) : (updNm c f s).boot = s.boot := rfl

/-! ### `updNmLin` changes `nm` -/
@[simp] theorem updNmLin_now (l : Lin) (f : NmLin → NmLin) : (updNmLin l f s).now = s.now := rfl
@[simp] theorem updNmLin_freeBase (l : Lin) (f : NmLin → NmLin) : (updNmLin l f s).freeBase = s.freeBase := rfl
@[simp] theorem updNmLin_free (l : Lin) (f : NmLin → NmLin) : (updNmLin l f s).free = s.free := rfl
@[simp] theorem updNmLin_pending (l : Lin) (f : NmLin → NmLin) : (updNmLin l f s).pending = s.pending := rfl
@[simp] theorem updNmLin_words (l : Lin) (f : NmLin → NmLin) : (updNmLin l f s).words = s.words := rfl
@[simp] theorem updNmLin_started (l : Lin) (f : NmLin → NmLin) : (updNmLin l f s).started = s.started := rfl
@[simp] theorem updNmLin_procs (l : Lin) (f : NmLin → NmLin) : (updNmLin l f s).procs = s.procs := rfl
@[simp] theorem updNmLin_modes (l : Lin) (f : NmLin → NmLin) : (updNmLin l f s).modes = s.modes := rfl
@[simp] theorem updNmLin_dwell (l : Lin) (f : NmLin → NmLin) : (updNmLin l f s).dwell = s.dwell := rfl
@[simp] theorem updNmLin_pw (l : Lin) (f : NmLin → NmLin) : (updNmLin l f s).pw = s.pw := rfl
@[simp] theorem updNmLin_txn (l : Lin) (f : NmLin → NmLin) : (updNmLin l f s).txn = s.txn := rfl
@[simp] theorem updNmLin_flt (l : Lin) (f : NmLin → NmLin) : (updNmLin l f s).flt = s.flt := rfl
@[simp] theorem updNmLin_tt (l : Lin) (f : NmLin → NmLin) : (updNmLin l f s).tt = s.tt := rfl
@[simp] theorem updNmLin_bn (l : Lin) (f : NmLin → NmLin) : (updNmLin l f s).bn = s.bn := rfl
@[simp] theorem updNmLin_chans (l : Lin) (f : NmLin → NmLin) : (updNmLin l f s).chans = s.chans := rfl
@[simp] theorem updNmLin_locks (l : Lin) (f : NmLin → NmLin) : (updNmLin l f s).locks = s.locks := rfl
@[simp] theorem updNmLin_band (l : Lin) (f : NmLin → NmLin) : (updNmLin l f s).band = s.band := rfl
@[simp] theorem updNmLin_led (l : Lin) (f : NmLin → NmLin) : (updNmLin l f s).led = s.led := rfl
@[simp] theorem updNmLin_mot (l : Lin) (f : NmLin → NmLin) : (updNmLin l f s).mot = s.mot := rfl
@[simp] theorem updNmLin_inp (l : Lin) (f : NmLin → NmLin) : (updNmLin l f s).inp = s.inp := rfl
@[simp] theorem updNmLin_imu (l : Lin) (f : NmLin → NmLin) : (updNmLin l f s).imu = s.imu := rfl
@[simp] theorem updNmLin_tch (l : Lin) (f : NmLin → NmLin) : (updNmLin l f s).tch = s.tch := rfl
@[simp] theorem updNmLin_chg (l : Lin) (f : NmLin → NmLin) : (updNmLin l f s).chg = s.chg := rfl
@[simp] theorem updNmLin_can (l : Lin) (f : NmLin → NmLin) : (updNmLin l f s).can = s.can := rfl
@[simp] theorem updNmLin_lin (l : Lin) (f : NmLin → NmLin) : (updNmLin l f s).lin = s.lin := rfl
@[simp] theorem updNmLin_uds (l : Lin) (f : NmLin → NmLin) : (updNmLin l f s).uds = s.uds := rfl
@[simp] theorem updNmLin_fab (l : Lin) (f : NmLin → NmLin) : (updNmLin l f s).fab = s.fab := rfl
@[simp] theorem updNmLin_hst (l : Lin) (f : NmLin → NmLin) : (updNmLin l f s).hst = s.hst := rfl
@[simp] theorem updNmLin_sec (l : Lin) (f : NmLin → NmLin) : (updNmLin l f s).sec = s.sec := rfl
@[simp] theorem updNmLin_upd (l : Lin) (f : NmLin → NmLin) : (updNmLin l f s).upd = s.upd := rfl
@[simp] theorem updNmLin_share (l : Lin) (f : NmLin → NmLin) : (updNmLin l f s).share = s.share := rfl
@[simp] theorem updNmLin_boot (l : Lin) (f : NmLin → NmLin) : (updNmLin l f s).boot = s.boot := rfl

/-! ### `State.put` changes `words` -/
@[simp] theorem State.put_now (i : Nat) (v : Word) : (s.put i v).now = s.now := rfl
@[simp] theorem State.put_freeBase (i : Nat) (v : Word) : (s.put i v).freeBase = s.freeBase := rfl
@[simp] theorem State.put_free (i : Nat) (v : Word) : (s.put i v).free = s.free := rfl
@[simp] theorem State.put_pending (i : Nat) (v : Word) : (s.put i v).pending = s.pending := rfl
@[simp] theorem State.put_started (i : Nat) (v : Word) : (s.put i v).started = s.started := rfl
@[simp] theorem State.put_procs (i : Nat) (v : Word) : (s.put i v).procs = s.procs := rfl
@[simp] theorem State.put_modes (i : Nat) (v : Word) : (s.put i v).modes = s.modes := rfl
@[simp] theorem State.put_dwell (i : Nat) (v : Word) : (s.put i v).dwell = s.dwell := rfl
@[simp] theorem State.put_pw (i : Nat) (v : Word) : (s.put i v).pw = s.pw := rfl
@[simp] theorem State.put_txn (i : Nat) (v : Word) : (s.put i v).txn = s.txn := rfl
@[simp] theorem State.put_flt (i : Nat) (v : Word) : (s.put i v).flt = s.flt := rfl
@[simp] theorem State.put_tt (i : Nat) (v : Word) : (s.put i v).tt = s.tt := rfl
@[simp] theorem State.put_bn (i : Nat) (v : Word) : (s.put i v).bn = s.bn := rfl
@[simp] theorem State.put_chans (i : Nat) (v : Word) : (s.put i v).chans = s.chans := rfl
@[simp] theorem State.put_locks (i : Nat) (v : Word) : (s.put i v).locks = s.locks := rfl
@[simp] theorem State.put_band (i : Nat) (v : Word) : (s.put i v).band = s.band := rfl
@[simp] theorem State.put_led (i : Nat) (v : Word) : (s.put i v).led = s.led := rfl
@[simp] theorem State.put_mot (i : Nat) (v : Word) : (s.put i v).mot = s.mot := rfl
@[simp] theorem State.put_inp (i : Nat) (v : Word) : (s.put i v).inp = s.inp := rfl
@[simp] theorem State.put_imu (i : Nat) (v : Word) : (s.put i v).imu = s.imu := rfl
@[simp] theorem State.put_tch (i : Nat) (v : Word) : (s.put i v).tch = s.tch := rfl
@[simp] theorem State.put_chg (i : Nat) (v : Word) : (s.put i v).chg = s.chg := rfl
@[simp] theorem State.put_can (i : Nat) (v : Word) : (s.put i v).can = s.can := rfl
@[simp] theorem State.put_lin (i : Nat) (v : Word) : (s.put i v).lin = s.lin := rfl
@[simp] theorem State.put_nm (i : Nat) (v : Word) : (s.put i v).nm = s.nm := rfl
@[simp] theorem State.put_uds (i : Nat) (v : Word) : (s.put i v).uds = s.uds := rfl
@[simp] theorem State.put_fab (i : Nat) (v : Word) : (s.put i v).fab = s.fab := rfl
@[simp] theorem State.put_hst (i : Nat) (v : Word) : (s.put i v).hst = s.hst := rfl
@[simp] theorem State.put_sec (i : Nat) (v : Word) : (s.put i v).sec = s.sec := rfl
@[simp] theorem State.put_upd (i : Nat) (v : Word) : (s.put i v).upd = s.upd := rfl
@[simp] theorem State.put_share (i : Nat) (v : Word) : (s.put i v).share = s.share := rfl
@[simp] theorem State.put_boot (i : Nat) (v : Word) : (s.put i v).boot = s.boot := rfl

/-! ### `State.putNat` changes `words` -/
@[simp] theorem State.putNat_now (i v : Nat) : (s.putNat i v).now = s.now := rfl
@[simp] theorem State.putNat_freeBase (i v : Nat) : (s.putNat i v).freeBase = s.freeBase := rfl
@[simp] theorem State.putNat_free (i v : Nat) : (s.putNat i v).free = s.free := rfl
@[simp] theorem State.putNat_pending (i v : Nat) : (s.putNat i v).pending = s.pending := rfl
@[simp] theorem State.putNat_started (i v : Nat) : (s.putNat i v).started = s.started := rfl
@[simp] theorem State.putNat_procs (i v : Nat) : (s.putNat i v).procs = s.procs := rfl
@[simp] theorem State.putNat_modes (i v : Nat) : (s.putNat i v).modes = s.modes := rfl
@[simp] theorem State.putNat_dwell (i v : Nat) : (s.putNat i v).dwell = s.dwell := rfl
@[simp] theorem State.putNat_pw (i v : Nat) : (s.putNat i v).pw = s.pw := rfl
@[simp] theorem State.putNat_txn (i v : Nat) : (s.putNat i v).txn = s.txn := rfl
@[simp] theorem State.putNat_flt (i v : Nat) : (s.putNat i v).flt = s.flt := rfl
@[simp] theorem State.putNat_tt (i v : Nat) : (s.putNat i v).tt = s.tt := rfl
@[simp] theorem State.putNat_bn (i v : Nat) : (s.putNat i v).bn = s.bn := rfl
@[simp] theorem State.putNat_chans (i v : Nat) : (s.putNat i v).chans = s.chans := rfl
@[simp] theorem State.putNat_locks (i v : Nat) : (s.putNat i v).locks = s.locks := rfl
@[simp] theorem State.putNat_band (i v : Nat) : (s.putNat i v).band = s.band := rfl
@[simp] theorem State.putNat_led (i v : Nat) : (s.putNat i v).led = s.led := rfl
@[simp] theorem State.putNat_mot (i v : Nat) : (s.putNat i v).mot = s.mot := rfl
@[simp] theorem State.putNat_inp (i v : Nat) : (s.putNat i v).inp = s.inp := rfl
@[simp] theorem State.putNat_imu (i v : Nat) : (s.putNat i v).imu = s.imu := rfl
@[simp] theorem State.putNat_tch (i v : Nat) : (s.putNat i v).tch = s.tch := rfl
@[simp] theorem State.putNat_chg (i v : Nat) : (s.putNat i v).chg = s.chg := rfl
@[simp] theorem State.putNat_can (i v : Nat) : (s.putNat i v).can = s.can := rfl
@[simp] theorem State.putNat_lin (i v : Nat) : (s.putNat i v).lin = s.lin := rfl
@[simp] theorem State.putNat_nm (i v : Nat) : (s.putNat i v).nm = s.nm := rfl
@[simp] theorem State.putNat_uds (i v : Nat) : (s.putNat i v).uds = s.uds := rfl
@[simp] theorem State.putNat_fab (i v : Nat) : (s.putNat i v).fab = s.fab := rfl
@[simp] theorem State.putNat_hst (i v : Nat) : (s.putNat i v).hst = s.hst := rfl
@[simp] theorem State.putNat_sec (i v : Nat) : (s.putNat i v).sec = s.sec := rfl
@[simp] theorem State.putNat_upd (i v : Nat) : (s.putNat i v).upd = s.upd := rfl
@[simp] theorem State.putNat_share (i v : Nat) : (s.putNat i v).share = s.share := rfl
@[simp] theorem State.putNat_boot (i v : Nat) : (s.putNat i v).boot = s.boot := rfl

/-! ### `State.putFld` changes `words` -/
@[simp] theorem State.putFld_now (i lo w v : Nat) : (s.putFld i lo w v).now = s.now := rfl
@[simp] theorem State.putFld_freeBase (i lo w v : Nat) : (s.putFld i lo w v).freeBase = s.freeBase := rfl
@[simp] theorem State.putFld_free (i lo w v : Nat) : (s.putFld i lo w v).free = s.free := rfl
@[simp] theorem State.putFld_pending (i lo w v : Nat) : (s.putFld i lo w v).pending = s.pending := rfl
@[simp] theorem State.putFld_started (i lo w v : Nat) : (s.putFld i lo w v).started = s.started := rfl
@[simp] theorem State.putFld_procs (i lo w v : Nat) : (s.putFld i lo w v).procs = s.procs := rfl
@[simp] theorem State.putFld_modes (i lo w v : Nat) : (s.putFld i lo w v).modes = s.modes := rfl
@[simp] theorem State.putFld_dwell (i lo w v : Nat) : (s.putFld i lo w v).dwell = s.dwell := rfl
@[simp] theorem State.putFld_pw (i lo w v : Nat) : (s.putFld i lo w v).pw = s.pw := rfl
@[simp] theorem State.putFld_txn (i lo w v : Nat) : (s.putFld i lo w v).txn = s.txn := rfl
@[simp] theorem State.putFld_flt (i lo w v : Nat) : (s.putFld i lo w v).flt = s.flt := rfl
@[simp] theorem State.putFld_tt (i lo w v : Nat) : (s.putFld i lo w v).tt = s.tt := rfl
@[simp] theorem State.putFld_bn (i lo w v : Nat) : (s.putFld i lo w v).bn = s.bn := rfl
@[simp] theorem State.putFld_chans (i lo w v : Nat) : (s.putFld i lo w v).chans = s.chans := rfl
@[simp] theorem State.putFld_locks (i lo w v : Nat) : (s.putFld i lo w v).locks = s.locks := rfl
@[simp] theorem State.putFld_band (i lo w v : Nat) : (s.putFld i lo w v).band = s.band := rfl
@[simp] theorem State.putFld_led (i lo w v : Nat) : (s.putFld i lo w v).led = s.led := rfl
@[simp] theorem State.putFld_mot (i lo w v : Nat) : (s.putFld i lo w v).mot = s.mot := rfl
@[simp] theorem State.putFld_inp (i lo w v : Nat) : (s.putFld i lo w v).inp = s.inp := rfl
@[simp] theorem State.putFld_imu (i lo w v : Nat) : (s.putFld i lo w v).imu = s.imu := rfl
@[simp] theorem State.putFld_tch (i lo w v : Nat) : (s.putFld i lo w v).tch = s.tch := rfl
@[simp] theorem State.putFld_chg (i lo w v : Nat) : (s.putFld i lo w v).chg = s.chg := rfl
@[simp] theorem State.putFld_can (i lo w v : Nat) : (s.putFld i lo w v).can = s.can := rfl
@[simp] theorem State.putFld_lin (i lo w v : Nat) : (s.putFld i lo w v).lin = s.lin := rfl
@[simp] theorem State.putFld_nm (i lo w v : Nat) : (s.putFld i lo w v).nm = s.nm := rfl
@[simp] theorem State.putFld_uds (i lo w v : Nat) : (s.putFld i lo w v).uds = s.uds := rfl
@[simp] theorem State.putFld_fab (i lo w v : Nat) : (s.putFld i lo w v).fab = s.fab := rfl
@[simp] theorem State.putFld_hst (i lo w v : Nat) : (s.putFld i lo w v).hst = s.hst := rfl
@[simp] theorem State.putFld_sec (i lo w v : Nat) : (s.putFld i lo w v).sec = s.sec := rfl
@[simp] theorem State.putFld_upd (i lo w v : Nat) : (s.putFld i lo w v).upd = s.upd := rfl
@[simp] theorem State.putFld_share (i lo w v : Nat) : (s.putFld i lo w v).share = s.share := rfl
@[simp] theorem State.putFld_boot (i lo w v : Nat) : (s.putFld i lo w v).boot = s.boot := rfl

/-! ### `State.bump` changes `words` -/
@[simp] theorem State.bump_now (i lo w : Nat) : (s.bump i lo w).now = s.now := rfl
@[simp] theorem State.bump_freeBase (i lo w : Nat) : (s.bump i lo w).freeBase = s.freeBase := rfl
@[simp] theorem State.bump_free (i lo w : Nat) : (s.bump i lo w).free = s.free := rfl
@[simp] theorem State.bump_pending (i lo w : Nat) : (s.bump i lo w).pending = s.pending := rfl
@[simp] theorem State.bump_started (i lo w : Nat) : (s.bump i lo w).started = s.started := rfl
@[simp] theorem State.bump_procs (i lo w : Nat) : (s.bump i lo w).procs = s.procs := rfl
@[simp] theorem State.bump_modes (i lo w : Nat) : (s.bump i lo w).modes = s.modes := rfl
@[simp] theorem State.bump_dwell (i lo w : Nat) : (s.bump i lo w).dwell = s.dwell := rfl
@[simp] theorem State.bump_pw (i lo w : Nat) : (s.bump i lo w).pw = s.pw := rfl
@[simp] theorem State.bump_txn (i lo w : Nat) : (s.bump i lo w).txn = s.txn := rfl
@[simp] theorem State.bump_flt (i lo w : Nat) : (s.bump i lo w).flt = s.flt := rfl
@[simp] theorem State.bump_tt (i lo w : Nat) : (s.bump i lo w).tt = s.tt := rfl
@[simp] theorem State.bump_bn (i lo w : Nat) : (s.bump i lo w).bn = s.bn := rfl
@[simp] theorem State.bump_chans (i lo w : Nat) : (s.bump i lo w).chans = s.chans := rfl
@[simp] theorem State.bump_locks (i lo w : Nat) : (s.bump i lo w).locks = s.locks := rfl
@[simp] theorem State.bump_band (i lo w : Nat) : (s.bump i lo w).band = s.band := rfl
@[simp] theorem State.bump_led (i lo w : Nat) : (s.bump i lo w).led = s.led := rfl
@[simp] theorem State.bump_mot (i lo w : Nat) : (s.bump i lo w).mot = s.mot := rfl
@[simp] theorem State.bump_inp (i lo w : Nat) : (s.bump i lo w).inp = s.inp := rfl
@[simp] theorem State.bump_imu (i lo w : Nat) : (s.bump i lo w).imu = s.imu := rfl
@[simp] theorem State.bump_tch (i lo w : Nat) : (s.bump i lo w).tch = s.tch := rfl
@[simp] theorem State.bump_chg (i lo w : Nat) : (s.bump i lo w).chg = s.chg := rfl
@[simp] theorem State.bump_can (i lo w : Nat) : (s.bump i lo w).can = s.can := rfl
@[simp] theorem State.bump_lin (i lo w : Nat) : (s.bump i lo w).lin = s.lin := rfl
@[simp] theorem State.bump_nm (i lo w : Nat) : (s.bump i lo w).nm = s.nm := rfl
@[simp] theorem State.bump_uds (i lo w : Nat) : (s.bump i lo w).uds = s.uds := rfl
@[simp] theorem State.bump_fab (i lo w : Nat) : (s.bump i lo w).fab = s.fab := rfl
@[simp] theorem State.bump_hst (i lo w : Nat) : (s.bump i lo w).hst = s.hst := rfl
@[simp] theorem State.bump_sec (i lo w : Nat) : (s.bump i lo w).sec = s.sec := rfl
@[simp] theorem State.bump_upd (i lo w : Nat) : (s.bump i lo w).upd = s.upd := rfl
@[simp] theorem State.bump_share (i lo w : Nat) : (s.bump i lo w).share = s.share := rfl
@[simp] theorem State.bump_boot (i lo w : Nat) : (s.bump i lo w).boot = s.boot := rfl

/-! ### `State.peak` changes `words` -/
@[simp] theorem State.peak_now (i lo w v : Nat) : (s.peak i lo w v).now = s.now := rfl
@[simp] theorem State.peak_freeBase (i lo w v : Nat) : (s.peak i lo w v).freeBase = s.freeBase := rfl
@[simp] theorem State.peak_free (i lo w v : Nat) : (s.peak i lo w v).free = s.free := rfl
@[simp] theorem State.peak_pending (i lo w v : Nat) : (s.peak i lo w v).pending = s.pending := rfl
@[simp] theorem State.peak_started (i lo w v : Nat) : (s.peak i lo w v).started = s.started := rfl
@[simp] theorem State.peak_procs (i lo w v : Nat) : (s.peak i lo w v).procs = s.procs := rfl
@[simp] theorem State.peak_modes (i lo w v : Nat) : (s.peak i lo w v).modes = s.modes := rfl
@[simp] theorem State.peak_dwell (i lo w v : Nat) : (s.peak i lo w v).dwell = s.dwell := rfl
@[simp] theorem State.peak_pw (i lo w v : Nat) : (s.peak i lo w v).pw = s.pw := rfl
@[simp] theorem State.peak_txn (i lo w v : Nat) : (s.peak i lo w v).txn = s.txn := rfl
@[simp] theorem State.peak_flt (i lo w v : Nat) : (s.peak i lo w v).flt = s.flt := rfl
@[simp] theorem State.peak_tt (i lo w v : Nat) : (s.peak i lo w v).tt = s.tt := rfl
@[simp] theorem State.peak_bn (i lo w v : Nat) : (s.peak i lo w v).bn = s.bn := rfl
@[simp] theorem State.peak_chans (i lo w v : Nat) : (s.peak i lo w v).chans = s.chans := rfl
@[simp] theorem State.peak_locks (i lo w v : Nat) : (s.peak i lo w v).locks = s.locks := rfl
@[simp] theorem State.peak_band (i lo w v : Nat) : (s.peak i lo w v).band = s.band := rfl
@[simp] theorem State.peak_led (i lo w v : Nat) : (s.peak i lo w v).led = s.led := rfl
@[simp] theorem State.peak_mot (i lo w v : Nat) : (s.peak i lo w v).mot = s.mot := rfl
@[simp] theorem State.peak_inp (i lo w v : Nat) : (s.peak i lo w v).inp = s.inp := rfl
@[simp] theorem State.peak_imu (i lo w v : Nat) : (s.peak i lo w v).imu = s.imu := rfl
@[simp] theorem State.peak_tch (i lo w v : Nat) : (s.peak i lo w v).tch = s.tch := rfl
@[simp] theorem State.peak_chg (i lo w v : Nat) : (s.peak i lo w v).chg = s.chg := rfl
@[simp] theorem State.peak_can (i lo w v : Nat) : (s.peak i lo w v).can = s.can := rfl
@[simp] theorem State.peak_lin (i lo w v : Nat) : (s.peak i lo w v).lin = s.lin := rfl
@[simp] theorem State.peak_nm (i lo w v : Nat) : (s.peak i lo w v).nm = s.nm := rfl
@[simp] theorem State.peak_uds (i lo w v : Nat) : (s.peak i lo w v).uds = s.uds := rfl
@[simp] theorem State.peak_fab (i lo w v : Nat) : (s.peak i lo w v).fab = s.fab := rfl
@[simp] theorem State.peak_hst (i lo w v : Nat) : (s.peak i lo w v).hst = s.hst := rfl
@[simp] theorem State.peak_sec (i lo w v : Nat) : (s.peak i lo w v).sec = s.sec := rfl
@[simp] theorem State.peak_upd (i lo w v : Nat) : (s.peak i lo w v).upd = s.upd := rfl
@[simp] theorem State.peak_share (i lo w v : Nat) : (s.peak i lo w v).share = s.share := rfl
@[simp] theorem State.peak_boot (i lo w v : Nat) : (s.peak i lo w v).boot = s.boot := rfl

/-! ### `State.latch` changes `words` -/
@[simp] theorem State.latch_now (i m : Nat) : (s.latch i m).now = s.now := rfl
@[simp] theorem State.latch_freeBase (i m : Nat) : (s.latch i m).freeBase = s.freeBase := rfl
@[simp] theorem State.latch_free (i m : Nat) : (s.latch i m).free = s.free := rfl
@[simp] theorem State.latch_pending (i m : Nat) : (s.latch i m).pending = s.pending := rfl
@[simp] theorem State.latch_started (i m : Nat) : (s.latch i m).started = s.started := rfl
@[simp] theorem State.latch_procs (i m : Nat) : (s.latch i m).procs = s.procs := rfl
@[simp] theorem State.latch_modes (i m : Nat) : (s.latch i m).modes = s.modes := rfl
@[simp] theorem State.latch_dwell (i m : Nat) : (s.latch i m).dwell = s.dwell := rfl
@[simp] theorem State.latch_pw (i m : Nat) : (s.latch i m).pw = s.pw := rfl
@[simp] theorem State.latch_txn (i m : Nat) : (s.latch i m).txn = s.txn := rfl
@[simp] theorem State.latch_flt (i m : Nat) : (s.latch i m).flt = s.flt := rfl
@[simp] theorem State.latch_tt (i m : Nat) : (s.latch i m).tt = s.tt := rfl
@[simp] theorem State.latch_bn (i m : Nat) : (s.latch i m).bn = s.bn := rfl
@[simp] theorem State.latch_chans (i m : Nat) : (s.latch i m).chans = s.chans := rfl
@[simp] theorem State.latch_locks (i m : Nat) : (s.latch i m).locks = s.locks := rfl
@[simp] theorem State.latch_band (i m : Nat) : (s.latch i m).band = s.band := rfl
@[simp] theorem State.latch_led (i m : Nat) : (s.latch i m).led = s.led := rfl
@[simp] theorem State.latch_mot (i m : Nat) : (s.latch i m).mot = s.mot := rfl
@[simp] theorem State.latch_inp (i m : Nat) : (s.latch i m).inp = s.inp := rfl
@[simp] theorem State.latch_imu (i m : Nat) : (s.latch i m).imu = s.imu := rfl
@[simp] theorem State.latch_tch (i m : Nat) : (s.latch i m).tch = s.tch := rfl
@[simp] theorem State.latch_chg (i m : Nat) : (s.latch i m).chg = s.chg := rfl
@[simp] theorem State.latch_can (i m : Nat) : (s.latch i m).can = s.can := rfl
@[simp] theorem State.latch_lin (i m : Nat) : (s.latch i m).lin = s.lin := rfl
@[simp] theorem State.latch_nm (i m : Nat) : (s.latch i m).nm = s.nm := rfl
@[simp] theorem State.latch_uds (i m : Nat) : (s.latch i m).uds = s.uds := rfl
@[simp] theorem State.latch_fab (i m : Nat) : (s.latch i m).fab = s.fab := rfl
@[simp] theorem State.latch_hst (i m : Nat) : (s.latch i m).hst = s.hst := rfl
@[simp] theorem State.latch_sec (i m : Nat) : (s.latch i m).sec = s.sec := rfl
@[simp] theorem State.latch_upd (i m : Nat) : (s.latch i m).upd = s.upd := rfl
@[simp] theorem State.latch_share (i m : Nat) : (s.latch i m).share = s.share := rfl
@[simp] theorem State.latch_boot (i m : Nat) : (s.latch i m).boot = s.boot := rfl

/-! ### `State.unlatch` changes `words` -/
@[simp] theorem State.unlatch_now (i m : Nat) : (s.unlatch i m).now = s.now := rfl
@[simp] theorem State.unlatch_freeBase (i m : Nat) : (s.unlatch i m).freeBase = s.freeBase := rfl
@[simp] theorem State.unlatch_free (i m : Nat) : (s.unlatch i m).free = s.free := rfl
@[simp] theorem State.unlatch_pending (i m : Nat) : (s.unlatch i m).pending = s.pending := rfl
@[simp] theorem State.unlatch_started (i m : Nat) : (s.unlatch i m).started = s.started := rfl
@[simp] theorem State.unlatch_procs (i m : Nat) : (s.unlatch i m).procs = s.procs := rfl
@[simp] theorem State.unlatch_modes (i m : Nat) : (s.unlatch i m).modes = s.modes := rfl
@[simp] theorem State.unlatch_dwell (i m : Nat) : (s.unlatch i m).dwell = s.dwell := rfl
@[simp] theorem State.unlatch_pw (i m : Nat) : (s.unlatch i m).pw = s.pw := rfl
@[simp] theorem State.unlatch_txn (i m : Nat) : (s.unlatch i m).txn = s.txn := rfl
@[simp] theorem State.unlatch_flt (i m : Nat) : (s.unlatch i m).flt = s.flt := rfl
@[simp] theorem State.unlatch_tt (i m : Nat) : (s.unlatch i m).tt = s.tt := rfl
@[simp] theorem State.unlatch_bn (i m : Nat) : (s.unlatch i m).bn = s.bn := rfl
@[simp] theorem State.unlatch_chans (i m : Nat) : (s.unlatch i m).chans = s.chans := rfl
@[simp] theorem State.unlatch_locks (i m : Nat) : (s.unlatch i m).locks = s.locks := rfl
@[simp] theorem State.unlatch_band (i m : Nat) : (s.unlatch i m).band = s.band := rfl
@[simp] theorem State.unlatch_led (i m : Nat) : (s.unlatch i m).led = s.led := rfl
@[simp] theorem State.unlatch_mot (i m : Nat) : (s.unlatch i m).mot = s.mot := rfl
@[simp] theorem State.unlatch_inp (i m : Nat) : (s.unlatch i m).inp = s.inp := rfl
@[simp] theorem State.unlatch_imu (i m : Nat) : (s.unlatch i m).imu = s.imu := rfl
@[simp] theorem State.unlatch_tch (i m : Nat) : (s.unlatch i m).tch = s.tch := rfl
@[simp] theorem State.unlatch_chg (i m : Nat) : (s.unlatch i m).chg = s.chg := rfl
@[simp] theorem State.unlatch_can (i m : Nat) : (s.unlatch i m).can = s.can := rfl
@[simp] theorem State.unlatch_lin (i m : Nat) : (s.unlatch i m).lin = s.lin := rfl
@[simp] theorem State.unlatch_nm (i m : Nat) : (s.unlatch i m).nm = s.nm := rfl
@[simp] theorem State.unlatch_uds (i m : Nat) : (s.unlatch i m).uds = s.uds := rfl
@[simp] theorem State.unlatch_fab (i m : Nat) : (s.unlatch i m).fab = s.fab := rfl
@[simp] theorem State.unlatch_hst (i m : Nat) : (s.unlatch i m).hst = s.hst := rfl
@[simp] theorem State.unlatch_sec (i m : Nat) : (s.unlatch i m).sec = s.sec := rfl
@[simp] theorem State.unlatch_upd (i m : Nat) : (s.unlatch i m).upd = s.upd := rfl
@[simp] theorem State.unlatch_share (i m : Nat) : (s.unlatch i m).share = s.share := rfl
@[simp] theorem State.unlatch_boot (i m : Nat) : (s.unlatch i m).boot = s.boot := rfl

/-! ### `raiseIrq` changes `words` -/
@[simp] theorem raiseIrq_now (n : Nat) : (raiseIrq n s).now = s.now := rfl
@[simp] theorem raiseIrq_freeBase (n : Nat) : (raiseIrq n s).freeBase = s.freeBase := rfl
@[simp] theorem raiseIrq_free (n : Nat) : (raiseIrq n s).free = s.free := rfl
@[simp] theorem raiseIrq_pending (n : Nat) : (raiseIrq n s).pending = s.pending := rfl
@[simp] theorem raiseIrq_started (n : Nat) : (raiseIrq n s).started = s.started := rfl
@[simp] theorem raiseIrq_procs (n : Nat) : (raiseIrq n s).procs = s.procs := rfl
@[simp] theorem raiseIrq_modes (n : Nat) : (raiseIrq n s).modes = s.modes := rfl
@[simp] theorem raiseIrq_dwell (n : Nat) : (raiseIrq n s).dwell = s.dwell := rfl
@[simp] theorem raiseIrq_pw (n : Nat) : (raiseIrq n s).pw = s.pw := rfl
@[simp] theorem raiseIrq_txn (n : Nat) : (raiseIrq n s).txn = s.txn := rfl
@[simp] theorem raiseIrq_flt (n : Nat) : (raiseIrq n s).flt = s.flt := rfl
@[simp] theorem raiseIrq_tt (n : Nat) : (raiseIrq n s).tt = s.tt := rfl
@[simp] theorem raiseIrq_bn (n : Nat) : (raiseIrq n s).bn = s.bn := rfl
@[simp] theorem raiseIrq_chans (n : Nat) : (raiseIrq n s).chans = s.chans := rfl
@[simp] theorem raiseIrq_locks (n : Nat) : (raiseIrq n s).locks = s.locks := rfl
@[simp] theorem raiseIrq_band (n : Nat) : (raiseIrq n s).band = s.band := rfl
@[simp] theorem raiseIrq_led (n : Nat) : (raiseIrq n s).led = s.led := rfl
@[simp] theorem raiseIrq_mot (n : Nat) : (raiseIrq n s).mot = s.mot := rfl
@[simp] theorem raiseIrq_inp (n : Nat) : (raiseIrq n s).inp = s.inp := rfl
@[simp] theorem raiseIrq_imu (n : Nat) : (raiseIrq n s).imu = s.imu := rfl
@[simp] theorem raiseIrq_tch (n : Nat) : (raiseIrq n s).tch = s.tch := rfl
@[simp] theorem raiseIrq_chg (n : Nat) : (raiseIrq n s).chg = s.chg := rfl
@[simp] theorem raiseIrq_can (n : Nat) : (raiseIrq n s).can = s.can := rfl
@[simp] theorem raiseIrq_lin (n : Nat) : (raiseIrq n s).lin = s.lin := rfl
@[simp] theorem raiseIrq_nm (n : Nat) : (raiseIrq n s).nm = s.nm := rfl
@[simp] theorem raiseIrq_uds (n : Nat) : (raiseIrq n s).uds = s.uds := rfl
@[simp] theorem raiseIrq_fab (n : Nat) : (raiseIrq n s).fab = s.fab := rfl
@[simp] theorem raiseIrq_hst (n : Nat) : (raiseIrq n s).hst = s.hst := rfl
@[simp] theorem raiseIrq_sec (n : Nat) : (raiseIrq n s).sec = s.sec := rfl
@[simp] theorem raiseIrq_upd (n : Nat) : (raiseIrq n s).upd = s.upd := rfl
@[simp] theorem raiseIrq_share (n : Nat) : (raiseIrq n s).share = s.share := rfl
@[simp] theorem raiseIrq_boot (n : Nat) : (raiseIrq n s).boot = s.boot := rfl

/-! ### `State.reach` changes `now` -/
@[simp] theorem State.reach_freeBase (t : Nat) : (s.reach t).freeBase = s.freeBase := rfl
@[simp] theorem State.reach_free (t : Nat) : (s.reach t).free = s.free := rfl
@[simp] theorem State.reach_pending (t : Nat) : (s.reach t).pending = s.pending := rfl
@[simp] theorem State.reach_words (t : Nat) : (s.reach t).words = s.words := rfl
@[simp] theorem State.reach_started (t : Nat) : (s.reach t).started = s.started := rfl
@[simp] theorem State.reach_procs (t : Nat) : (s.reach t).procs = s.procs := rfl
@[simp] theorem State.reach_modes (t : Nat) : (s.reach t).modes = s.modes := rfl
@[simp] theorem State.reach_dwell (t : Nat) : (s.reach t).dwell = s.dwell := rfl
@[simp] theorem State.reach_pw (t : Nat) : (s.reach t).pw = s.pw := rfl
@[simp] theorem State.reach_txn (t : Nat) : (s.reach t).txn = s.txn := rfl
@[simp] theorem State.reach_flt (t : Nat) : (s.reach t).flt = s.flt := rfl
@[simp] theorem State.reach_tt (t : Nat) : (s.reach t).tt = s.tt := rfl
@[simp] theorem State.reach_bn (t : Nat) : (s.reach t).bn = s.bn := rfl
@[simp] theorem State.reach_chans (t : Nat) : (s.reach t).chans = s.chans := rfl
@[simp] theorem State.reach_locks (t : Nat) : (s.reach t).locks = s.locks := rfl
@[simp] theorem State.reach_band (t : Nat) : (s.reach t).band = s.band := rfl
@[simp] theorem State.reach_led (t : Nat) : (s.reach t).led = s.led := rfl
@[simp] theorem State.reach_mot (t : Nat) : (s.reach t).mot = s.mot := rfl
@[simp] theorem State.reach_inp (t : Nat) : (s.reach t).inp = s.inp := rfl
@[simp] theorem State.reach_imu (t : Nat) : (s.reach t).imu = s.imu := rfl
@[simp] theorem State.reach_tch (t : Nat) : (s.reach t).tch = s.tch := rfl
@[simp] theorem State.reach_chg (t : Nat) : (s.reach t).chg = s.chg := rfl
@[simp] theorem State.reach_can (t : Nat) : (s.reach t).can = s.can := rfl
@[simp] theorem State.reach_lin (t : Nat) : (s.reach t).lin = s.lin := rfl
@[simp] theorem State.reach_nm (t : Nat) : (s.reach t).nm = s.nm := rfl
@[simp] theorem State.reach_uds (t : Nat) : (s.reach t).uds = s.uds := rfl
@[simp] theorem State.reach_fab (t : Nat) : (s.reach t).fab = s.fab := rfl
@[simp] theorem State.reach_hst (t : Nat) : (s.reach t).hst = s.hst := rfl
@[simp] theorem State.reach_sec (t : Nat) : (s.reach t).sec = s.sec := rfl
@[simp] theorem State.reach_upd (t : Nat) : (s.reach t).upd = s.upd := rfl
@[simp] theorem State.reach_share (t : Nat) : (s.reach t).share = s.share := rfl
@[simp] theorem State.reach_boot (t : Nat) : (s.reach t).boot = s.boot := rfl

/-! ### `State.useFree` changes `free` -/
@[simp] theorem State.useFree_now : (s.useFree).now = s.now := rfl
@[simp] theorem State.useFree_freeBase : (s.useFree).freeBase = s.freeBase := rfl
@[simp] theorem State.useFree_pending : (s.useFree).pending = s.pending := rfl
@[simp] theorem State.useFree_words : (s.useFree).words = s.words := rfl
@[simp] theorem State.useFree_started : (s.useFree).started = s.started := rfl
@[simp] theorem State.useFree_procs : (s.useFree).procs = s.procs := rfl
@[simp] theorem State.useFree_modes : (s.useFree).modes = s.modes := rfl
@[simp] theorem State.useFree_dwell : (s.useFree).dwell = s.dwell := rfl
@[simp] theorem State.useFree_pw : (s.useFree).pw = s.pw := rfl
@[simp] theorem State.useFree_txn : (s.useFree).txn = s.txn := rfl
@[simp] theorem State.useFree_flt : (s.useFree).flt = s.flt := rfl
@[simp] theorem State.useFree_tt : (s.useFree).tt = s.tt := rfl
@[simp] theorem State.useFree_bn : (s.useFree).bn = s.bn := rfl
@[simp] theorem State.useFree_chans : (s.useFree).chans = s.chans := rfl
@[simp] theorem State.useFree_locks : (s.useFree).locks = s.locks := rfl
@[simp] theorem State.useFree_band : (s.useFree).band = s.band := rfl
@[simp] theorem State.useFree_led : (s.useFree).led = s.led := rfl
@[simp] theorem State.useFree_mot : (s.useFree).mot = s.mot := rfl
@[simp] theorem State.useFree_inp : (s.useFree).inp = s.inp := rfl
@[simp] theorem State.useFree_imu : (s.useFree).imu = s.imu := rfl
@[simp] theorem State.useFree_tch : (s.useFree).tch = s.tch := rfl
@[simp] theorem State.useFree_chg : (s.useFree).chg = s.chg := rfl
@[simp] theorem State.useFree_can : (s.useFree).can = s.can := rfl
@[simp] theorem State.useFree_lin : (s.useFree).lin = s.lin := rfl
@[simp] theorem State.useFree_nm : (s.useFree).nm = s.nm := rfl
@[simp] theorem State.useFree_uds : (s.useFree).uds = s.uds := rfl
@[simp] theorem State.useFree_fab : (s.useFree).fab = s.fab := rfl
@[simp] theorem State.useFree_hst : (s.useFree).hst = s.hst := rfl
@[simp] theorem State.useFree_sec : (s.useFree).sec = s.sec := rfl
@[simp] theorem State.useFree_upd : (s.useFree).upd = s.upd := rfl
@[simp] theorem State.useFree_share : (s.useFree).share = s.share := rfl
@[simp] theorem State.useFree_boot : (s.useFree).boot = s.boot := rfl

/-! ### `State.withQueue` changes `pending` -/
@[simp] theorem State.withQueue_now (q : List Instr) : (s.withQueue q).now = s.now := rfl
@[simp] theorem State.withQueue_freeBase (q : List Instr) : (s.withQueue q).freeBase = s.freeBase := rfl
@[simp] theorem State.withQueue_free (q : List Instr) : (s.withQueue q).free = s.free := rfl
@[simp] theorem State.withQueue_words (q : List Instr) : (s.withQueue q).words = s.words := rfl
@[simp] theorem State.withQueue_started (q : List Instr) : (s.withQueue q).started = s.started := rfl
@[simp] theorem State.withQueue_procs (q : List Instr) : (s.withQueue q).procs = s.procs := rfl
@[simp] theorem State.withQueue_modes (q : List Instr) : (s.withQueue q).modes = s.modes := rfl
@[simp] theorem State.withQueue_dwell (q : List Instr) : (s.withQueue q).dwell = s.dwell := rfl
@[simp] theorem State.withQueue_pw (q : List Instr) : (s.withQueue q).pw = s.pw := rfl
@[simp] theorem State.withQueue_txn (q : List Instr) : (s.withQueue q).txn = s.txn := rfl
@[simp] theorem State.withQueue_flt (q : List Instr) : (s.withQueue q).flt = s.flt := rfl
@[simp] theorem State.withQueue_tt (q : List Instr) : (s.withQueue q).tt = s.tt := rfl
@[simp] theorem State.withQueue_bn (q : List Instr) : (s.withQueue q).bn = s.bn := rfl
@[simp] theorem State.withQueue_chans (q : List Instr) : (s.withQueue q).chans = s.chans := rfl
@[simp] theorem State.withQueue_locks (q : List Instr) : (s.withQueue q).locks = s.locks := rfl
@[simp] theorem State.withQueue_band (q : List Instr) : (s.withQueue q).band = s.band := rfl
@[simp] theorem State.withQueue_led (q : List Instr) : (s.withQueue q).led = s.led := rfl
@[simp] theorem State.withQueue_mot (q : List Instr) : (s.withQueue q).mot = s.mot := rfl
@[simp] theorem State.withQueue_inp (q : List Instr) : (s.withQueue q).inp = s.inp := rfl
@[simp] theorem State.withQueue_imu (q : List Instr) : (s.withQueue q).imu = s.imu := rfl
@[simp] theorem State.withQueue_tch (q : List Instr) : (s.withQueue q).tch = s.tch := rfl
@[simp] theorem State.withQueue_chg (q : List Instr) : (s.withQueue q).chg = s.chg := rfl
@[simp] theorem State.withQueue_can (q : List Instr) : (s.withQueue q).can = s.can := rfl
@[simp] theorem State.withQueue_lin (q : List Instr) : (s.withQueue q).lin = s.lin := rfl
@[simp] theorem State.withQueue_nm (q : List Instr) : (s.withQueue q).nm = s.nm := rfl
@[simp] theorem State.withQueue_uds (q : List Instr) : (s.withQueue q).uds = s.uds := rfl
@[simp] theorem State.withQueue_fab (q : List Instr) : (s.withQueue q).fab = s.fab := rfl
@[simp] theorem State.withQueue_hst (q : List Instr) : (s.withQueue q).hst = s.hst := rfl
@[simp] theorem State.withQueue_sec (q : List Instr) : (s.withQueue q).sec = s.sec := rfl
@[simp] theorem State.withQueue_upd (q : List Instr) : (s.withQueue q).upd = s.upd := rfl
@[simp] theorem State.withQueue_share (q : List Instr) : (s.withQueue q).share = s.share := rfl
@[simp] theorem State.withQueue_boot (q : List Instr) : (s.withQueue q).boot = s.boot := rfl

/-! ### `State.withFront` changes `pending` -/
@[simp] theorem State.withFront_now (i : Instr) : (s.withFront i).now = s.now := rfl
@[simp] theorem State.withFront_freeBase (i : Instr) : (s.withFront i).freeBase = s.freeBase := rfl
@[simp] theorem State.withFront_free (i : Instr) : (s.withFront i).free = s.free := rfl
@[simp] theorem State.withFront_words (i : Instr) : (s.withFront i).words = s.words := rfl
@[simp] theorem State.withFront_started (i : Instr) : (s.withFront i).started = s.started := rfl
@[simp] theorem State.withFront_procs (i : Instr) : (s.withFront i).procs = s.procs := rfl
@[simp] theorem State.withFront_modes (i : Instr) : (s.withFront i).modes = s.modes := rfl
@[simp] theorem State.withFront_dwell (i : Instr) : (s.withFront i).dwell = s.dwell := rfl
@[simp] theorem State.withFront_pw (i : Instr) : (s.withFront i).pw = s.pw := rfl
@[simp] theorem State.withFront_txn (i : Instr) : (s.withFront i).txn = s.txn := rfl
@[simp] theorem State.withFront_flt (i : Instr) : (s.withFront i).flt = s.flt := rfl
@[simp] theorem State.withFront_tt (i : Instr) : (s.withFront i).tt = s.tt := rfl
@[simp] theorem State.withFront_bn (i : Instr) : (s.withFront i).bn = s.bn := rfl
@[simp] theorem State.withFront_chans (i : Instr) : (s.withFront i).chans = s.chans := rfl
@[simp] theorem State.withFront_locks (i : Instr) : (s.withFront i).locks = s.locks := rfl
@[simp] theorem State.withFront_band (i : Instr) : (s.withFront i).band = s.band := rfl
@[simp] theorem State.withFront_led (i : Instr) : (s.withFront i).led = s.led := rfl
@[simp] theorem State.withFront_mot (i : Instr) : (s.withFront i).mot = s.mot := rfl
@[simp] theorem State.withFront_inp (i : Instr) : (s.withFront i).inp = s.inp := rfl
@[simp] theorem State.withFront_imu (i : Instr) : (s.withFront i).imu = s.imu := rfl
@[simp] theorem State.withFront_tch (i : Instr) : (s.withFront i).tch = s.tch := rfl
@[simp] theorem State.withFront_chg (i : Instr) : (s.withFront i).chg = s.chg := rfl
@[simp] theorem State.withFront_can (i : Instr) : (s.withFront i).can = s.can := rfl
@[simp] theorem State.withFront_lin (i : Instr) : (s.withFront i).lin = s.lin := rfl
@[simp] theorem State.withFront_nm (i : Instr) : (s.withFront i).nm = s.nm := rfl
@[simp] theorem State.withFront_uds (i : Instr) : (s.withFront i).uds = s.uds := rfl
@[simp] theorem State.withFront_fab (i : Instr) : (s.withFront i).fab = s.fab := rfl
@[simp] theorem State.withFront_hst (i : Instr) : (s.withFront i).hst = s.hst := rfl
@[simp] theorem State.withFront_sec (i : Instr) : (s.withFront i).sec = s.sec := rfl
@[simp] theorem State.withFront_upd (i : Instr) : (s.withFront i).upd = s.upd := rfl
@[simp] theorem State.withFront_share (i : Instr) : (s.withFront i).share = s.share := rfl
@[simp] theorem State.withFront_boot (i : Instr) : (s.withFront i).boot = s.boot := rfl

end Sys2Proof.Machine
end

