-- ==== Sys2Proof/Laws/Memory.lean ====
section
/-!
SUPPORT. The byte memories (Bank S and the key staging buffer): what a write leaves at its address and at the others, and that
every memory operation keeps the canonical form.
-/
namespace Sys2Proof.Machine

theorem insertCell_lookup_same (m : Mem) (a : Nat) (b : Byte) : (insertCell m a b).lookup a = some b := by
  induction m with
  | nil => simp [insertCell]
  | cons e t ih =>
    obtain ⟨x, y⟩ := e
    simp only [insertCell]
    split
    · simp
    · split
      · simp
      · rename_i h; simp [List.lookup_cons, beq_eq_false_iff_ne.2 h, ih]

theorem insertCell_lookup_other (m : Mem) {a k : Nat} (b : Byte) (h : k ≠ a) :
    (insertCell m a b).lookup k = m.lookup k := by
  induction m with
  | nil => simp [insertCell, List.lookup_cons, beq_eq_false_iff_ne.2 h]
  | cons e t ih =>
    obtain ⟨x, y⟩ := e
    simp only [insertCell]
    split
    · simp [List.lookup_cons, beq_eq_false_iff_ne.2 h]
    · split
      · rename_i h2; subst h2; simp [List.lookup_cons, beq_eq_false_iff_ne.2 h]
      · simp [List.lookup_cons, ih]

/-- Read after write at the same address. -/
theorem memByte_memSet_same (m : Mem) (a : Nat) (b : Byte) : memByte (memSet m a b) a = b := by
  unfold memSet memByte
  split
  · rename_i h
    have : (m.filter (·.1 != a)).lookup a = none := by
      simp only [List.lookup_eq_none_iff, List.mem_filter, bne_iff_ne, ne_eq]
      rintro p ⟨-, hp⟩ rfl
      exact hp rfl
    simp [this, h]
  · simp [insertCell_lookup_same]

theorem lookup_filter_other (m : Mem) {a k : Nat} (h : k ≠ a) : (m.filter (·.1 != a)).lookup k = m.lookup k := by
  induction m with
  | nil => simp
  | cons e t ih =>
    obtain ⟨x, y⟩ := e
    by_cases hx : x = a
    · subst hx; simp [List.lookup_cons, beq_eq_false_iff_ne.2 h, ih]
    · simp [List.lookup_cons, hx, ih]

/-- A write leaves every other address alone. -/
theorem memByte_memSet_other (m : Mem) {a k : Nat} (b : Byte) (h : k ≠ a) : memByte (memSet m a b) k = memByte m k := by
  unfold memSet memByte
  split
  · rw [lookup_filter_other m h]
  · rw [insertCell_lookup_other m b h]

/-- Every address of the memory lies above `a`. -/
def Memory.above (a : Nat) (m : Mem) : Prop := ∀ e ∈ m, a < e.1

/-- A byte after a write of bytes: theirs within, the old one elsewhere. -/
theorem memByte_write_from (bs : List Byte) : ∀ (m : Mem) (a n k : Nat),
    memByte ((bs.zipIdx n).foldl (fun m x => memSet m (a + x.2) x.1) m) k =
      if a + n ≤ k then bs.getD (k - (a + n)) (memByte m k) else memByte m k := by
  induction bs with
  | nil => intro m a n k; simp
  | cons b bs ih =>
    intro m a n k
    rw [List.zipIdx_cons, List.foldl_cons, ih]
    by_cases h1 : a + n = k
    · subst h1
      rw [if_neg (by omega), if_pos (Nat.le_refl _), memByte_memSet_same]
      simp
    · rw [memByte_memSet_other _ _ (Ne.symm h1)]
      by_cases h2 : a + n ≤ k
      · rw [if_pos (by omega), if_pos h2]
        have h3 : k - (a + n) = (k - (a + (n + 1))) + 1 := by omega
        rw [h3, List.getD_cons_succ]
      · rw [if_neg (by omega), if_neg h2]

/-- A read of what was written gives it back. -/
theorem memRead_memWrite (m : Mem) (a : Nat) (bs : List Byte) : memRead (memWrite m a bs) a bs.length = bs := by
  apply List.ext_getElem
  · simp [memRead]
  · intro i h1 h2
    simp only [memRead, memWrite, List.getElem_map, List.getElem_range, memByte_write_from, Nat.add_zero]
    rw [if_pos (by omega), Nat.add_sub_cancel_left, List.getD_eq_getElem?_getD, List.getElem?_eq_getElem h2]
    rfl

/-- A write leaves every other byte alone. -/
theorem memByte_memWrite_outside (m : Mem) (a : Nat) (bs : List Byte) {k : Nat} (h : k < a ∨ a + bs.length ≤ k) :
    memByte (memWrite m a bs) k = memByte m k := by
  simp only [memWrite, memByte_write_from, Nat.add_zero]
  rcases h with h | h
  · rw [if_neg (by omega)]
  · rw [if_pos (by omega), List.getD_eq_getElem?_getD, List.getElem?_eq_none (by omega)]
    rfl

theorem Memory.wf_cons (a : Nat) (b : Byte) (t : Mem) :
    Memory.wf ((a, b) :: t) = true ↔ b ≠ 0xFF ∧ Memory.above a t ∧ Memory.wf t = true := by
  induction t generalizing a b with
  | nil => simp [Memory.wf, Memory.above]
  | cons e t ih =>
    obtain ⟨x, y⟩ := e
    simp only [Memory.wf, Bool.and_eq_true, bne_iff_ne, ne_eq, decide_eq_true_eq, Memory.above, List.mem_cons,
      forall_eq_or_imp]
    rw [ih x y]
    constructor
    · rintro ⟨⟨p, q⟩, c, d, e⟩
      exact ⟨p, ⟨q, fun z hz => Nat.lt_trans q (d z hz)⟩, c, d, e⟩
    · rintro ⟨p, ⟨q, -⟩, c, d, e⟩
      exact ⟨⟨p, q⟩, c, d, e⟩

theorem Memory.above_insert {x a : Nat} {b : Byte} {m : Mem} (h : Memory.above x m) (ha : x < a) :
    Memory.above x (insertCell m a b) := by
  induction m with
  | nil => simpa [insertCell, Memory.above] using ha
  | cons e t ih =>
    obtain ⟨k, w⟩ := e
    have hk : x < k := h (k, w) (by simp)
    have ht : Memory.above x t := fun z hz => h z (by simp [hz])
    simp only [insertCell]
    split
    · intro z hz
      rcases List.mem_cons.1 hz with rfl | hz
      · exact ha
      · exact h z hz
    · split
      · intro z hz
        rcases List.mem_cons.1 hz with rfl | hz
        · exact ha
        · exact ht z hz
      · intro z hz
        rcases List.mem_cons.1 hz with rfl | hz
        · exact hk
        · exact ih ht z hz

theorem Memory.wf_insert {m : Mem} {a : Nat} {b : Byte} (h : Memory.wf m = true) (hb : b ≠ 0xFF) :
    Memory.wf (insertCell m a b) = true := by
  induction m with
  | nil => simpa [insertCell, Memory.wf] using hb
  | cons e t ih =>
    obtain ⟨x, y⟩ := e
    have hc := (Memory.wf_cons x y t).1 h
    simp only [insertCell]
    split
    · rename_i hax
      refine (Memory.wf_cons _ _ _).2 ⟨hb, ?_, h⟩
      intro z hz
      rcases List.mem_cons.1 hz with rfl | hz
      · exact hax
      · exact Nat.lt_trans hax (hc.2.1 z hz)
    · split
      · rename_i heq; subst heq
        exact (Memory.wf_cons _ _ _).2 ⟨hb, hc.2.1, hc.2.2⟩
      · exact (Memory.wf_cons _ _ _).2 ⟨hc.1, Memory.above_insert hc.2.1 (by omega), ih hc.2.2⟩

theorem Memory.wf_filter {m : Mem} (p : Host.Cell → Bool) (h : Memory.wf m = true) : Memory.wf (m.filter p) = true := by
  induction m with
  | nil => simpa using h
  | cons e t ih =>
    obtain ⟨x, y⟩ := e
    have hc := (Memory.wf_cons x y t).1 h
    simp only [List.filter_cons]
    split
    · exact (Memory.wf_cons _ _ _).2 ⟨hc.1, fun z hz => hc.2.1 z (List.mem_filter.1 hz).1, ih hc.2.2⟩
    · exact ih hc.2.2

/-- Writing one byte keeps the canonical form. -/
theorem Memory.wf_set {m : Mem} (a : Nat) (b : Byte) (h : Memory.wf m = true) : Memory.wf (memSet m a b) = true := by
  unfold memSet
  split
  · exact Memory.wf_filter _ h
  · rename_i hb; exact Memory.wf_insert h hb

/-- Writing a run of bytes keeps the canonical form. -/
theorem Memory.wf_write {m : Mem} (a : Nat) (bs : List Byte) (h : Memory.wf m = true) :
    Memory.wf (memWrite m a bs) = true := by
  unfold memWrite
  generalize bs.zipIdx = l
  induction l generalizing m with
  | nil => simpa using h
  | cons x t ih => exact ih (Memory.wf_set _ _ h)

/-- Programming the units of a block keeps the canonical form. -/
theorem Memory.wf_program {m : Mem} (offset : Nat) (data : List Byte) (got : List (Nat × Nat)) (h : Memory.wf m = true) :
    Memory.wf (programUnits offset data got m) = true := by
  unfold programUnits
  generalize (chunks 16 data).zipIdx = l
  induction l generalizing m with
  | nil => simpa using h
  | cons x t ih =>
    simp only [List.foldl_cons]
    apply ih
    split
    · exact h
    · exact Memory.wf_write _ _ h

end Sys2Proof.Machine
end

