-- ==== Sys2Proof/Laws/Step.lean ====
section
/-!
SUPPORT. How `exec` answers: completion from a meaning's shape, and what `after` leaves of the effect.
-/
namespace Sys2Proof.Machine

@[simp] theorem step_front (i : Instr) (s : State) : step (s.withFront i) = exec i s := rfl

/-- A command of a part acts on the state as it is where what serves it is available and nothing has to be roused. -/
theorem doneFor_ready {p : Part} {s : State} {f : State → State} (h : served p s = true) (r : p.rouses = true → s.pw.pw ≠ .standby) :
    doneFor p s f = done s (f s) := by
  have : rouse p s = s := by
    unfold rouse
    split
    · next hr => simp [leaveStandby, r hr]
    · rfl
  simp [doneFor, h, this]

/-- A command of a part whose block is not available changes nothing. -/
theorem doneFor_unserved {p : Part} {s : State} {f : State → State} (h : served p s = false) : doneFor p s f = done s s := by
  simp [doneFor, h]

/-- Nothing answers but with a next state where a meaning ends in `done`. -/
theorem done_next (s t : State) : done s t = .next (after s t) := rfl

/-- A meaning of the command's part completes with any expression of its effect. -/
theorem completes_of {i : Instr} {s t : State} {f : State → State} (h : exec i s = doneFor (Instr.part i) s f) (e : f s = t) :
    Completes i s t := by
  intro r
  rw [h, doneFor_ready r.1 r.2, e, done_next]

/-- A meaning of the command's part gives what `after` of its effect has. -/
theorem gives_of {i : Instr} {s : State} {f : State → State} {P : State → Prop} (h : exec i s = doneFor (Instr.part i) s f)
    (p : P (after s (f s))) : Gives i s P := by
  intro r
  exact ⟨after s (f s), by rw [h, doneFor_ready r.1 r.2, done_next], p⟩

@[simp] theorem after_pending (s t : State) : (after s t).pending = s.pending := rfl
@[simp] theorem after_now (s t : State) : (after s t).now = Nat.max s.now t.now := rfl
@[simp] theorem after_freeBase (s t : State) : (after s t).freeBase = t.freeBase := rfl
@[simp] theorem after_free (s t : State) : (after s t).free = t.free := rfl
@[simp] theorem after_words (s t : State) : (after s t).words = t.words := rfl
@[simp] theorem after_started (s t : State) : (after s t).started = t.started := rfl
@[simp] theorem after_procs (s t : State) : (after s t).procs = t.procs := rfl
@[simp] theorem after_modes (s t : State) : (after s t).modes = t.modes := rfl
@[simp] theorem after_pw (s t : State) : (after s t).pw = t.pw := rfl
@[simp] theorem after_txn (s t : State) : (after s t).txn = t.txn := rfl
@[simp] theorem after_flt (s t : State) : (after s t).flt = t.flt := rfl
@[simp] theorem after_tt (s t : State) : (after s t).tt = t.tt := rfl
@[simp] theorem after_bn (s t : State) : (after s t).bn = t.bn := rfl
@[simp] theorem after_chans (s t : State) : (after s t).chans = t.chans := rfl
@[simp] theorem after_locks (s t : State) : (after s t).locks = t.locks := rfl
@[simp] theorem after_band (s t : State) : (after s t).band = t.band := rfl
@[simp] theorem after_led (s t : State) : (after s t).led = t.led := rfl
@[simp] theorem after_mot (s t : State) : (after s t).mot = t.mot := rfl
@[simp] theorem after_inp (s t : State) : (after s t).inp = t.inp := rfl
@[simp] theorem after_imu (s t : State) : (after s t).imu = t.imu := rfl
@[simp] theorem after_tch (s t : State) : (after s t).tch = t.tch := rfl
@[simp] theorem after_chg (s t : State) : (after s t).chg = t.chg := rfl
@[simp] theorem after_can (s t : State) : (after s t).can = t.can := rfl
@[simp] theorem after_lin (s t : State) : (after s t).lin = t.lin := rfl
@[simp] theorem after_nm (s t : State) : (after s t).nm = t.nm := rfl
@[simp] theorem after_uds (s t : State) : (after s t).uds = t.uds := rfl
@[simp] theorem after_fab (s t : State) : (after s t).fab = t.fab := rfl
@[simp] theorem after_hst (s t : State) : (after s t).hst = t.hst := rfl
@[simp] theorem after_sec (s t : State) : (after s t).sec = t.sec := rfl
@[simp] theorem after_upd (s t : State) : (after s t).upd = t.upd := rfl
@[simp] theorem after_share (s t : State) : (after s t).share = t.share := rfl
@[simp] theorem after_boot (s t : State) : (after s t).boot = t.boot := rfl

/-- An effect that leaves the queue alone and does not turn the clock back is the state after it, with the dwells brought up to
date. -/
theorem after_eq {s t : State} (hp : t.pending = s.pending) (hn : s.now ≤ t.now) : after s t = track s t := by
  unfold after
  rw [← hp, show Nat.max s.now t.now = t.now from Nat.max_eq_right hn]

end Sys2Proof.Machine
end

