-- ==== Sys2Proof/Laws/Words.lean ====
section
/-!
SUPPORT. The word store: what a write leaves at its index and at the others, and that every write keeps the canonical form.
-/
namespace Sys2Proof.Machine

theorem insertWord_lookup_same (ws : List (Nat × Word)) (i : Nat) (v : Word) : (insertWord ws i v).lookup i = some v := by
  induction ws with
  | nil => simp [insertWord]
  | cons e t ih =>
    obtain ⟨j, w⟩ := e
    simp only [insertWord]
    split
    · simp
    · split
      · simp
      · rename_i h; simp [List.lookup_cons, beq_eq_false_iff_ne.2 h, ih]

theorem insertWord_lookup_other (ws : List (Nat × Word)) {i k : Nat} (v : Word) (h : k ≠ i) :
    (insertWord ws i v).lookup k = ws.lookup k := by
  induction ws with
  | nil => simp [insertWord, List.lookup_cons, beq_eq_false_iff_ne.2 h]
  | cons e t ih =>
    obtain ⟨j, w⟩ := e
    simp only [insertWord]
    split
    · simp [List.lookup_cons, beq_eq_false_iff_ne.2 h]
    · split
      · rename_i h2; subst h2; simp [List.lookup_cons, beq_eq_false_iff_ne.2 h]
      · simp [List.lookup_cons, ih]

theorem eraseWord_lookup_same (ws : List (Nat × Word)) (i : Nat) : (eraseWord ws i).lookup i = none := by
  simp only [eraseWord, List.lookup_eq_none_iff, List.mem_filter, bne_iff_ne, ne_eq]
  rintro p ⟨-, hp⟩ rfl
  exact hp rfl

theorem eraseWord_lookup_other (ws : List (Nat × Word)) {i k : Nat} (h : k ≠ i) :
    (eraseWord ws i).lookup k = ws.lookup k := by
  induction ws with
  | nil => simp [eraseWord]
  | cons e t ih =>
    obtain ⟨j, w⟩ := e
    simp only [eraseWord] at ih
    by_cases hj : j = i
    · subst hj; simp [eraseWord, List.lookup_cons, beq_eq_false_iff_ne.2 h, ih]
    · simp [eraseWord, List.lookup_cons, hj, ih]

/-- A write is read back. -/
theorem wordsAt_setWords_same (ws : List (Nat × Word)) (i : Nat) (v : Word) : wordsAt (setWords ws i v) i = v := by
  unfold setWords wordsAt
  split
  · rename_i h; simp [eraseWord_lookup_same, h]
  · simp [insertWord_lookup_same]

/-- A write leaves every other index alone. -/
theorem wordsAt_setWords_other (ws : List (Nat × Word)) {i k : Nat} (v : Word) (h : k ≠ i) :
    wordsAt (setWords ws i v) k = wordsAt ws k := by
  unfold setWords wordsAt
  split
  · rw [eraseWord_lookup_other ws h]
  · rw [insertWord_lookup_other ws v h]

@[simp] theorem word_put_same (s : State) (i : Nat) (v : Word) : (s.put i v).word i = v :=
  wordsAt_setWords_same s.words i v

theorem word_put_other (s : State) {i k : Nat} (v : Word) (h : k ≠ i) : (s.put i v).word k = s.word k :=
  wordsAt_setWords_other s.words v h

@[simp] theorem word_putNat_same (s : State) (i v : Nat) : (s.putNat i v).word i = toWord v := word_put_same s i _

theorem word_putNat_other (s : State) {i k : Nat} (v : Nat) (h : k ≠ i) : (s.putNat i v).word k = s.word k :=
  word_put_other s _ h

/-! ## The canonical form -/

/-- Every index of the list lies above `i`. -/
def Words.above (i : Nat) (ws : List (Nat × Word)) : Prop := ∀ e ∈ ws, i < e.1

theorem Words.wf_cons (i : Nat) (v : Word) (t : List (Nat × Word)) :
    Words.wf ((i, v) :: t) = true ↔ v ≠ resetWord i ∧ Words.above i t ∧ Words.wf t = true := by
  induction t generalizing i v with
  | nil => simp [Words.wf, Words.above]
  | cons e t ih =>
    obtain ⟨j, w⟩ := e
    simp only [Words.wf, Bool.and_eq_true, bne_iff_ne, ne_eq, decide_eq_true_eq, Words.above, List.mem_cons,
      forall_eq_or_imp]
    rw [ih j w]
    constructor
    · rintro ⟨⟨a, b⟩, c, d, e⟩
      exact ⟨a, ⟨b, fun x hx => Nat.lt_trans b (d x hx)⟩, c, d, e⟩
    · rintro ⟨a, ⟨b, -⟩, c, d, e⟩
      exact ⟨⟨a, b⟩, c, d, e⟩

theorem Words.above_insert {j i : Nat} {v : Word} {ws : List (Nat × Word)} (h : Words.above j ws) (hi : j < i) :
    Words.above j (insertWord ws i v) := by
  induction ws with
  | nil => simpa [insertWord, Words.above] using hi
  | cons e t ih =>
    obtain ⟨k, w⟩ := e
    have hk : j < k := h (k, w) (by simp)
    have ht : Words.above j t := fun x hx => h x (by simp [hx])
    simp only [insertWord]
    split
    · intro x hx
      rcases List.mem_cons.1 hx with rfl | hx
      · exact hi
      · exact h x hx
    · split
      · intro x hx
        rcases List.mem_cons.1 hx with rfl | hx
        · exact hi
        · exact ht x hx
      · intro x hx
        rcases List.mem_cons.1 hx with rfl | hx
        · exact hk
        · exact ih ht x hx

theorem Words.wf_insert {ws : List (Nat × Word)} {i : Nat} {v : Word} (h : Words.wf ws = true) (hv : v ≠ resetWord i) :
    Words.wf (insertWord ws i v) = true := by
  induction ws with
  | nil => simpa [insertWord, Words.wf] using hv
  | cons e t ih =>
    obtain ⟨j, w⟩ := e
    have hc := (Words.wf_cons j w t).1 h
    simp only [insertWord]
    split
    · rename_i hij
      refine (Words.wf_cons _ _ _).2 ⟨hv, ?_, h⟩
      intro x hx
      rcases List.mem_cons.1 hx with rfl | hx
      · exact hij
      · exact Nat.lt_trans hij (hc.2.1 x hx)
    · split
      · rename_i heq; subst heq
        exact (Words.wf_cons _ _ _).2 ⟨hv, hc.2.1, hc.2.2⟩
      · rename_i h1 h2
        exact (Words.wf_cons _ _ _).2 ⟨hc.1, Words.above_insert hc.2.1 (by omega), ih hc.2.2⟩

theorem Words.wf_erase {ws : List (Nat × Word)} (i : Nat) (h : Words.wf ws = true) : Words.wf (eraseWord ws i) = true := by
  induction ws with
  | nil => simpa [eraseWord] using h
  | cons e t ih =>
    obtain ⟨j, w⟩ := e
    have hc := (Words.wf_cons j w t).1 h
    have ht := ih hc.2.2
    simp only [eraseWord, List.filter_cons] at ht ⊢
    split
    · refine (Words.wf_cons _ _ _).2 ⟨hc.1, ?_, ht⟩
      intro x hx
      exact hc.2.1 x (List.mem_filter.1 hx).1
    · exact ht

/-- Every write keeps the canonical form of the word store. -/
theorem Words.wf_set {ws : List (Nat × Word)} (i : Nat) (v : Word) (h : Words.wf ws = true) :
    Words.wf (setWords ws i v) = true := by
  unfold setWords
  split
  · exact Words.wf_erase i h
  · rename_i hv; exact Words.wf_insert h hv

end Sys2Proof.Machine
end

