-- ==== Sys2Proof/Laws/Txn.lean ====
section
/-!
SUPPORT. What the operations around a transaction leave alone: noting a request, committing due payloads, touching the owner.
-/
namespace Sys2Proof.Machine

/-- Noting a request changes the mode manager's record of the workshop requester at most. -/
theorem noteRequest_eq (r : Requester) (s : State) : noteRequest r s = { s with modes := (noteRequest r s).modes } := by
  unfold noteRequest; split <;> rfl

@[simp] theorem noteRequest_txn (r : Requester) (s : State) : (noteRequest r s).txn = s.txn := by
  rw [noteRequest_eq]
@[simp] theorem noteRequest_words (r : Requester) (s : State) : (noteRequest r s).words = s.words := by
  rw [noteRequest_eq]
@[simp] theorem noteRequest_started (r : Requester) (s : State) : (noteRequest r s).started = s.started := by
  rw [noteRequest_eq]
@[simp] theorem noteRequest_now (r : Requester) (s : State) : (noteRequest r s).now = s.now := by
  rw [noteRequest_eq]
@[simp] theorem noteRequest_hst (r : Requester) (s : State) : (noteRequest r s).hst = s.hst := by
  rw [noteRequest_eq]

/-- A request noted for a requester that does not hold the workshop changes nothing. -/
theorem noteRequest_other {r : Requester} {s : State} (h : s.modes.wsBy ≠ some r) : noteRequest r s = s := by
  simp [noteRequest, h]

/-- Assembling the payload of a release changes the CAN service at most. -/
theorem commitPayload_eq (e : Event) (s : State) : commitPayload e s = { s with can := (commitPayload e s).can } := by
  unfold commitPayload
  split
  · split
    · rfl
    · rfl
  · rfl

theorem foldl_commitPayload_eq (es : List Event) (s : State) :
    es.foldl (fun t e => commitPayload e t) s = { s with can := (es.foldl (fun t e => commitPayload e t) s).can } := by
  induction es generalizing s with
  | nil => rfl
  | cons e t ih =>
    simp only [List.foldl_cons]
    rw [ih (commitPayload e s), commitPayload_eq e s]

/-- Bringing the commitments up to date changes the CAN service and the events' commitment at most. -/
theorem settle_eq (s : State) : settle s = { s with can := (settle s).can, tt := { s.tt with events := (settle s).tt.events } } := by
  unfold settle
  rw [foldl_commitPayload_eq]

@[simp] theorem settle_txn (s : State) : (settle s).txn = s.txn := by rw [settle_eq]
@[simp] theorem settle_words (s : State) : (settle s).words = s.words := by rw [settle_eq]
@[simp] theorem settle_now (s : State) : (settle s).now = s.now := by rw [settle_eq]
@[simp] theorem settle_started (s : State) : (settle s).started = s.started := by rw [settle_eq]
@[simp] theorem settle_modes (s : State) : (settle s).modes = s.modes := by rw [settle_eq]

/-- Bringing the commitments up to date keeps every event in its place, with its slot and what was posted. -/
theorem settle_events (s : State) : (settle s).tt.events.map (fun e => (e.slot, e.spec)) = s.tt.events.map fun e => (e.slot, e.spec) := by
  unfold settle
  rw [foldl_commitPayload_eq]
  simp only [List.map_map]
  apply List.map_congr_left
  intro e _
  simp only [Function.comp]
  split
  · rfl
  · split
    · split <;> rfl
    · rfl

theorem settle_events_length (s : State) : (settle s).tt.events.length = s.tt.events.length := by
  have h := congrArg List.length (settle_events s)
  simpa using h

theorem touchTxn_other {r : Requester} {s : State} (h : s.txn.owner ≠ some r) : touchTxn r s = s := by
  simp [touchTxn, ownsTxn, h]

/-- The owner's operation refreshes the instant of its last operation and nothing else. -/
theorem touchTxn_owner {r : Requester} {s : State} (hs : s.txn.st ≠ .idle) (h : s.txn.owner = some r) :
    touchTxn r s = { s with txn := { s.txn with lastOp := s.now } } := by
  have : (s.txn.st != .idle) = true := by simpa using hs
  simp [touchTxn, ownsTxn, h, this]

theorem touchTxn_idle {r : Requester} {s : State} (h : s.txn.st = .idle) : touchTxn r s = s := by
  simp [touchTxn, ownsTxn, h]

/-- Touching the transaction changes the instant of the owner's last operation at most. -/
theorem touchTxn_eq (r : Requester) (s : State) :
    touchTxn r s = { s with txn := { s.txn with lastOp := (touchTxn r s).txn.lastOp } } := by
  unfold touchTxn; split <;> rfl

/-- The end of a transaction leaves none. -/
@[simp] theorem endTxn_txn (st c i : Nat) (s : State) : (endTxn st c i s).txn = Txn.reset := rfl

end Sys2Proof.Machine
end

