-- ==== Sys2Proof/Laws/Timetable.lean ====
section
/-!
SUPPORT. What the operations on the Timetable leave alone.
-/
namespace Sys2Proof.Machine

/-- Writing the event log changes the log and the words at most. -/
theorem ttLog_eq (a b c d e f g h i j : Nat) (s : State) :
    ttLog a b c d e f g h i j s =
      { s with tt := { s.tt with log := (ttLog a b c d e f g h i j s).tt.log }, words := (ttLog a b c d e f g h i j s).words } := by
  unfold ttLog
  by_cases h : (s.flag Ix.TT_LOG_MASK (e - 1) && s.flag Ix.TT_LOG_MASK (16 + a)) = true
  · simp only [h, if_true, State.bump, State.put]
  · simp only [h, if_false, Bool.false_eq_true]

theorem ttLog_events (a b c d e f g h i j : Nat) (s : State) : (ttLog a b c d e f g h i j s).tt.events = s.tt.events := by
  rw [ttLog_eq]

theorem ttLog_now (a b c d e f g h i j : Nat) (s : State) : (ttLog a b c d e f g h i j s).now = s.now := by
  rw [ttLog_eq]

/-- Placing a group adds one event and one handle for each of its events, and changes the Timetable only. -/
theorem placeGroup_ok (g : List EventSpec) (s u : State) (h : placeGroup g s = .ok u) :
    u.tt.events.length = s.tt.events.length + g.length ∧ u.tt.handles.length = s.tt.handles.length + g.length ∧
      (∀ e ∈ s.tt.events, e ∈ u.tt.events) ∧ u.tt.status = s.tt.status ∧ u = { s with tt := u.tt } := by
  induction g generalizing s with
  | nil => cases h; simp
  | cons e t ih =>
    unfold placeGroup at h
    split at h
    · cases h
    · rename_i sh _
      obtain ⟨h1, h2, h3, h4, h5⟩ := ih _ h
      have q : ∀ slot due, (placeEvent slot sh e due s) = { s with tt := (placeEvent slot sh e due s).tt } ∧
          (placeEvent slot sh e due s).tt.events.length = s.tt.events.length + 1 ∧
          (placeEvent slot sh e due s).tt.handles.length = s.tt.handles.length + 1 ∧
          (∀ x ∈ s.tt.events, x ∈ (placeEvent slot sh e due s).tt.events) ∧
          (placeEvent slot sh e due s).tt.status = s.tt.status := by
        intro slot due
        by_cases hs : slot = 4095
        · simp only [placeEvent, hs, if_true]
          exact ⟨trivial, by simp, by simp, fun x hx => by simp [hx], trivial⟩
        · simp only [placeEvent, hs, if_false]
          exact ⟨trivial, by simp, by simp, fun x hx => by simp [hx], trivial⟩
      obtain ⟨q1, q2, q3, q4, q5⟩ := q (freeSlot s) (dueOf e s)
      refine ⟨by simp only [h1, q2, List.length_cons]; omega, by simp only [h2, q3, List.length_cons]; omega, fun x hx => h3 x (q4 x hx), by rw [h4, q5], ?_⟩
      generalize placeEvent (freeSlot s) sh e (dueOf e s) s = v at *
      rw [h5, q1]

end Sys2Proof.Machine
end

