-- ==== Sys2Proof/Tests/Slice0.lean ====
section
/-!
SUPPORT. Tests on single commands: ill-formed commands that WellFormed refuses, and for each statement about the block concrete
states and operands that meet its hypotheses. Expected values come from the chapters of spec/.
-/
open Sys2Proof Sys2Proof.Machine
namespace Sys2Proof.Tests

set_option maxRecDepth 20000
set_option Elab.async false

/-! ## Ill-formed commands -/

/-- A start with nothing exchanged. -/
def k0 : StartInput :=
  { swap := none, nacks := 0, errors := [], entropy := true, wakeUs := 0, loadUs := 0, startUs := 0, cut := none, closed := 0,
    retBad := [], pages := 0, keyFail := none, offsets := [], rot := [] }

/-- A fabric frame from node 5 to node 1. -/
def f0 : FabFrame := { typ := 0x11, bcast := false, dst := 1, src := 5, hops := 0, seq := 7, payload := [1, 2, 3] }

/-- A classical CAN frame of eight bytes. -/
def c0 : CanFrame :=
  { id := 0x123, ide := false, fdf := false, brs := false, esi := false, dlc := 8, data := [1, 2, 3, 4, 5, 6, 7, 8] }

/-- A post of HS04 on, 1 ms ahead on FREE. -/
def p0 : EventSpec := { clock := 8, due := 40000, rep := 1, period := 0, act := .outSet 4 1, pool := 1 }

theorem test_wf_accepts :
    Instr.wf (.ttPost [p0]) = true ∧ Instr.wf (.echo 0 f0) = true ∧ Instr.wf (.nmFrameReceived 0 0 c0) = true ∧
    Instr.wf (.powerOnReset k0) = true ∧ Instr.wf (.paramWrite (.fabric 4095) 16383 0) = true := by decide

theorem test_wf_refuses_requester : Instr.wf (.txnBegin (.fabric 4096)) = false := by decide
theorem test_wf_refuses_index : Instr.wf (.paramWrite .host 16384 0) = false ∧ Instr.wf (.txnRead .host 16384) = false := by decide
theorem test_wf_refuses_slot :
    Instr.wf (.eventOutSet 4096 0) = false ∧ Instr.wf (.ttCancel 0 16) = false ∧ Instr.wf (.ttLogSelWrite 256) = false := by decide
theorem test_wf_refuses_group_size : Instr.wf (.ttPost []) = false ∧ Instr.wf (.ttPost (List.replicate 17 p0)) = false := by decide
theorem test_wf_refuses_event_fields :
    Instr.wf (.ttPost [{ p0 with clock := 16 }]) = false ∧ Instr.wf (.ttPost [{ p0 with due := 2 ^ 48 }]) = false ∧
    Instr.wf (.ttPost [{ p0 with rep := 65536 }]) = false ∧ Instr.wf (.ttPost [{ p0 with period := 2 ^ 32 }]) = false ∧
    Instr.wf (.ttPost [{ p0 with pool := 16 }]) = false := by decide
theorem test_wf_refuses_actions :
    Instr.wf (.ttPost [{ p0 with act := .outDuty 0 65536 }]) = false ∧ Instr.wf (.ttPost [{ p0 with act := .ledScene 0 256 }]) = false ∧
    Instr.wf (.ttPost [{ p0 with act := .ledStep 0 65536 }]) = false ∧ Instr.wf (.ttPost [{ p0 with act := .adcSample 256 }]) = false ∧
    Instr.wf (.ttPost [{ p0 with act := .canRelease 0 64 }]) = false ∧ Instr.wf (.ttPost [{ p0 with act := .motCmd 0 256 }]) = false := by
  decide
theorem test_wf_refuses_commit :
    Instr.wf (.txnCommit .host (some { clock := 16, due := 0 })) = false ∧
    Instr.wf (.txnCommit .host (some { clock := 8, due := 2 ^ 48 })) = false := by decide
theorem test_wf_refuses_can_frame :
    Instr.wf (.nmFrameReceived 0 0 { c0 with id := 2048 }) = false ∧ Instr.wf (.nmFrameReceived 0 0 { c0 with dlc := 16 }) = false ∧
    Instr.wf (.nmFrameReceived 0 0 { c0 with data := [] }) = false ∧ Instr.wf (.nmFrameReceived 0 0 { c0 with brs := true }) = false ∧
    Instr.wf (.nmFrameReceived 0 0 { c0 with ide := true, id := 2 ^ 29 }) = false := by decide
theorem test_wf_refuses_error_kind : Instr.wf (.canErrorFrame 0 0 8 false false false 0) = false := by decide
theorem test_wf_refuses_fabric_frame :
    Instr.wf (.echo 0 { f0 with typ := 64 }) = false ∧ Instr.wf (.echo 0 { f0 with dst := 4096 }) = false ∧
    Instr.wf (.echo 0 { f0 with src := 4096 }) = false ∧ Instr.wf (.echo 0 { f0 with hops := 64 }) = false ∧
    Instr.wf (.echo 0 { f0 with seq := 256 }) = false ∧ Instr.wf (.echo 0 { f0 with payload := List.replicate 257 0 }) = false := by
  decide

theorem test_wf_refuses_start_input :
    Instr.wf (.powerOnReset { k0 with swap := some (5, []) }) = false ∧ Instr.wf (.powerOnReset { k0 with swap := some (0, [1]) }) = false ∧
    Instr.wf (.powerOnReset { k0 with errors := [4] }) = false ∧ Instr.wf (.recoveryRetry { k0 with closed := 2 ^ 32 }) = false := by decide
theorem test_wf_refuses_motor_period :
    Instr.wf (.motPwmPeriod (.bridge 0 0 1300 0 0 0 0 [(0, 1), (0, 1)] none)) = false ∧
    Instr.wf (.motPwmPeriod (.brushed 0 0 1300 32768)) = false ∧ Instr.wf (.motPwmPeriod (.brushed 0 0 1300 (-32768))) = false := by decide
theorem test_wf_refuses_touch_frame :
    Instr.wf (.touchFrame { convs := [(0, [1, 2, 3], [1, 2, 3, 4])], selfTest := [], pairTest := [], refTest := [] }) = false ∧
    Instr.wf (.touchFrame { convs := [(0, [1, 2, 3, 4], [])], selfTest := [], pairTest := [], refTest := [] }) = false := by decide
/-- Measured heat with lists of the lengths given. -/
def heatOf (hs mot groups : Nat) : Heat :=
  { at_ := 0, slug := 40, logic := 60, hottest := 60, hs := List.replicate hs 60, mot := List.replicate mot 60,
    groups := List.replicate groups 130, terms := [] }
theorem test_wf_refuses_heat :
    Instr.wf (.dissipationUpdate (heatOf 36 2 4)) = true ∧ Instr.wf (.dissipationUpdate (heatOf 35 2 4)) = false ∧
    Instr.wf (.dissipationUpdate (heatOf 36 1 4)) = false ∧ Instr.wf (.dissipationUpdate (heatOf 36 2 3)) = false := by decide
/-- A stream packet from node 5 to node 1. -/
def q0 : FabPacket := { dst := 1, src := 5, stream := 0, seq := 0, hops := 0, payload := [1, 2, 3] }
theorem test_wf_refuses_packet :
    Instr.wf (.streamPacketReceived 0 0 q0 true) = true ∧ Instr.wf (.streamPacketReceived 0 0 { q0 with dst := 4096 } true) = false ∧
    Instr.wf (.streamPacketReceived 0 0 { q0 with src := 4096 } true) = false ∧
    Instr.wf (.streamPacketReceived 0 0 { q0 with stream := 16 } true) = false ∧
    Instr.wf (.streamPacketReceived 0 0 { q0 with seq := 65536 } true) = false ∧
    Instr.wf (.streamPacketReceived 0 0 { q0 with hops := 64 } true) = false ∧
    Instr.wf (.streamPacketReceived 0 0 { q0 with payload := [] } true) = false ∧
    Instr.wf (.streamPacketReceived 0 0 { q0 with payload := List.replicate 513 0 } true) = false := by decide
theorem test_wf_refuses_lengths :
    Instr.wf (.testerPresent 0 (List.replicate 4095 0)) = false ∧ Instr.wf (.ping (List.replicate 4113 0)) = false ∧
    Instr.wf (.hostStreamFrame 0 1 (List.replicate 513 0)) = false ∧ Instr.wf (.hostStreamFrame 0 4096 []) = false ∧
    Instr.wf (.linResponseReceived 0 0 (List.replicate 9 0) 0 false false) = false := by decide +kernel
theorem test_wf_refuses_numbers :
    Instr.wf (.requestTimeout 256) = false ∧ Instr.wf (.streamResendTimeout 16 1 0 k0) = false ∧
    Instr.wf (.streamResendTimeout 1 4096 0 k0) = false ∧ Instr.wf (.readRequest .host 0 [16384]) = false ∧
    Instr.wf (.writeRequest .host 0 [(16384, 0)]) = false ∧ Instr.wf (.faultReport 4096 0) = false ∧
    Instr.wf (.faultEventExpiry 0 256) = false ∧ Instr.wf (.testPortProvision [] 65536 [] none) = false ∧
    Instr.wf (.debugAccess (2 ^ 32) none) = false ∧ Instr.wf (.linSprigMessage 0 0 256 []) = false := by decide

/-! ## States that the witnesses use -/

/-- A word put in a state. -/
def wd (i v : Nat) (s : State) : State := s.put i (toWord v)

/-- The part a while after its start, in WATCH and RUN, with every processor running and a configuration that uses a block of every
power domain: HS04, bridge MA, the cell, port DZ0. -/
def up : State :=
  wd (Ix.HS_CFG 4) 0x800 (wd (Ix.MOT_CFG 0) 0x40100 (wd Ix.CHG_CFG 0x03200014 (wd Ix.FAB_CFG 0x41 { State.reset with
    now := 1000, started := true, procs := { principal := .running, app := .running, motor := .running, park := .running,
                                              fabric := .running, stops := [] } })))

/-- A step that is ready, by evaluation. -/
theorem readyOf {i : Instr} {s : State}
    (h : (served (Instr.part i) s && (!(Instr.part i).rouses || s.pw.pw != .standby)) = true) : Ready i s := by
  simp only [Bool.and_eq_true, Bool.or_eq_true, Bool.not_eq_true', bne_iff_ne] at h
  exact ⟨h.1, fun e => h.2.resolve_left (by simp [e])⟩

/-- `up` in WORKSHOP. -/
def upWs : State := { up with modes := { up.modes with mode := .workshop } }

/-- `up` with a transaction. -/
def txnUp (st : TxnSt) (o : Requester) (staged : List Staged) : State :=
  { up with txn := { Txn.reset with st := st, owner := some o, staged := staged, limit := 2000, lastOp := 1000 } }

/-- A staged write. -/
def stg (i : Nat) (v : Word) (eff : Bool) : Staged := { idx := i, val := v, eff := eff }

/-- An event in slot 0 due 2 ms from now on FREE. -/
def ev0 (a : Act) (committed : Bool) : Event :=
  { slot := 0, gen := 0, shared := false, spec := { p0 with act := a, due := 81000 }, due := 81000, left := 1, committed := committed,
    commitAt := 81000, order := 0, stop := false, late := false }

/-- A state with events pending. -/
def withEvents (s : State) (es : List Event) : State := { s with tt := { s.tt with events := es, gens := [(0, 0)] } }

/-- `up` with that event pending. -/
def evUp (a : Act) (committed : Bool) : State := withEvents up [ev0 a committed]

/-- `up` with a SEALED transaction whose commit event is due. -/
def sealedUp (staged : List Staged) : State :=
  { withEvents up [{ ev0 .txnCommit true with slot := 4095 }] with
    txn := { Txn.reset with st := .sealed, owner := some .host, staged := staged, limit := 2000, lastOp := 1000,
                            handle := some (4095, 0) } }

/-- `up` with phase clock PC0 in a state. -/
def clockUp (c : PhaseClock) : State := { up with tt := { up.tt with clocks := up.tt.clocks.set 0 c } }

/-- PC0 tracking at one turn in 400,000 base periods. -/
def pcTracking : PhaseClock :=
  { PhaseClock.reset with st := .tracking, marks := [(2 ^ 32, 900)], w := 65536 / 400000, pos := 2 ^ 32, lastMark := 900, next := 4096 }

/-- PC0 coasting. -/
def pcCoasting : PhaseClock :=
  { pcTracking with st := .coasting, base := 900, coastFrom := 2 ^ 32 }

/-- A committed event of PC0 whose angle lies far ahead. -/
def evClock : Event :=
  { ev0 (.outSet 4 1) true with spec := { p0 with clock := 0, due := 60000 }, due := 2 ^ 32 + 60000, commitAt := 2000 }

/-- A state whose party holds a privilege. -/
def withPriv (w : Fin 5) (n : Nat) (s : State) : State := updParty w (fun p => { p with priv := n }) s

/-- A state in a power state. -/
def inPower (p : Power) (s : State) : State := { s with pw := { s.pw with pw := p } }

/-- A state in a mode. -/
def inMode (m : Mode) (s : State) : State := { s with modes := { s.modes with mode := m } }

/-- A CAN transmit buffer that waits. -/
def txb : TxBuf := { buf := 5, frame := c0, single := false, attempt := none, cancel := false, next := none }

/-- A CANDB with one receive entry of CAN 0. -/
def canDb (s : State) : State :=
  { s with can := { s.can with
      db := { frames := [{ chan := 0, tx := false, ide := false, fdf := false, brs := false, single := false, dlc := 8, buffer := 0,
                           id := 0x123, mask := 2047, time := 100, clock := 15, onChange := false, phase := 0 }], signals := [] },
      entries := [{ last := none, stamp := 0, angle := 0, stampValid := false, lastAt := 0, stale := false, payload := [],
                    releasedAt := none }] } }

/-- A LINSCHED with one frame of LIN 0, of a direction and type, and one table with it. -/
def linDb (dir typ : Nat) (s : State) : State :=
  { s with lin := { s.lin with
      sched := { frames := [{ chan := 0, dir := dir, classic := false, id := 0x11, len := 2, typ := typ, timeout := 100, collision := 0xFF }],
                 signals := [], tables := [{ first := 0, count := 1, chan := 0, once := false }],
                 slots := [{ frame := 0, second := 0xFF, third := 0xFF, delay := 10 }] },
      rx := [(0, 900, false)] } }

/-- A part in MAKER, of maker 7, with a signer 3. -/
def made (s : State) : State :=
  { s with sec := { s.sec with fuses := [255, 0, 0, 0], makerRoot := some ([1], 7), signers := [some { id := 3, ver := 0, key := [9] }],
                               entropyOk := true } }

/-- The first 92 bytes of an image of 176 bytes without sections, of maker 7 and signer 3. -/
def imgHead : List Byte :=
  [0x4C, 0x52, 0x4C, 0x31, 1, 0, 96, 0, 176, 0, 0, 0, 1, 0, 0, 0, 0, 0, 0, 0, 0, 0, 1, 0] ++ List.replicate 24 0 ++ [7, 0, 0, 0, 3, 0, 0, 0] ++
    List.replicate 36 0

/-- An image of 176 bytes without sections. -/
def img : List Byte := imgHead ++ leBytes (crc32 imgHead) 4 ++ [0x53, 0x49, 0x47, 0x31, 1, 0, 0, 0, 3, 0, 0, 0, 0, 0, 0, 0] ++ List.replicate 64 0

/-- A state with one signal of kind 0 that holds 1. -/
def sigOne (s : State) : State :=
  { s with bn := { s.bn with
      cfg := { s.bn.cfg with signals := [{ typ := 0, retain := false, kind := 0, index := 0, init := 0 }] },
      sigs := [{ val := 1, stale := false, restored := false }] } }

/-- A state with the ignition request true. -/
def ignOn (s : State) : State := sigOne (wd Ix.MODE_IGN_SIGNAL 0 s)

/-- A state with an image in mirror slot 0. -/
def mirrored (s : State) : State := { s with boot := { s.boot with mirror := s.boot.mirror.set 0 (some (mirrorSlot img 1 true)), capacity := 262144 } }

/-- The pressures of an evaluation that call for neither shedding nor restoring. -/
def calm : Pressures := { at_ := 2000, slug := 100, sum := 4300, input := 0, vbat := 1220, held := [0, 0, 0, 0] }

/-- A reading of the cell, a conversion of HS04, a result of the IMU, a touch frame, a stage. -/
def cell0 : CellReading := { at_ := 1000, mv := 3700, ma := 0 }
def conv0 : Conv := .channel 4 100
def imu0 : ImuSample := { at_ := 1000, acc := (0, 0, 1000), gyro := (0, 0, 0), least := 1000 }
def tf0 : TouchFrame := { convs := [], selfTest := [], pairTest := [], refTest := [] }
def stage0 : Stage := { valley := 20, peak := 20, armed := false, fresh := false, units := 0, shorts := 0 }

/-- An active fault source. -/
def src0 : FaultSrc := { id := 0x000, inst := 0, active := true, sev := 2, reports := 1, last := 900, warned := false }

/-- A record of it. -/
def dtc0 : Dtc :=
  { id := 0x000, inst := 0, pending := true, confirmed := true, failedSince := true, sev := 2, count := 1, firstRtc := 0, lastRtc := 0,
    lastAt := 900 }

/-- A state with diagnostic session `n` of CAN 0 open. -/
def inSess (n : Nat) (s : State) : State := { s with uds := { s.uds with session := n, chan := 0, lastAt := 900 } }

/-- Energy for an update: VBAT at 13 V. -/
def charged (s : State) : State := wd Ix.SYS_SUPPLY 1300 s

/-- An image session of the host or over diagnostics, of 32 bytes with the first 16 written. -/
def imgS (uds : Bool) (st : Nat) (sha : Option (List Byte)) (got : List (Nat × Nat)) : ImgSession :=
  { uds := uds, total := 32, sha := sha, got := got, st := st, at_ := 900 }

/-- A state with that image session. -/
def withImg (x : ImgSession) (s : State) : State := { s with upd := { s.upd with session := some x, st := 1 } }

/-- A manifest. -/
def man0 : Manifest := { id := 1, count := 2, length := 400, hash := [], base := 0, expiry := 0, auto := true, signer := 0 }

/-- The first 124 bytes of a bunch of 400 bytes with one component, an image. -/
def bunchHead : List Byte :=
  [0x42, 0x55, 0x4E, 0x31, 1, 0, 128, 0, 0x90, 1, 0, 0, 5, 0, 0, 0, 0, 0, 0, 0, 0, 1, 0, 0] ++ List.replicate 100 0

/-- The bunch. -/
def bunch : List Byte :=
  bunchHead ++ leBytes (crc32 bunchHead) 4 ++ [0x10, 0, 0, 0, 144, 0, 0, 0, 176, 0, 0, 0, 0, 0, 0, 0] ++ img ++ List.replicate 80 0

/-- A response that is a credential of INTEGRATOR privilege with no limits. -/
def cred : List Byte :=
  [0x43, 0x52, 0x44, 0x31, 1, 0, 1, 0, 0, 0, 0, 0, 7, 0, 0, 0, 0, 0, 0, 0, 0, 0, 0, 0, 0, 0, 0, 0, 255, 255, 255, 255] ++ List.replicate 220 0


/-! ## Witnesses by evaluation -/

theorem someOf {α : Type} {o : Option α} {P : α → Prop} (h : o.isSome = true) (p : P (o.get h)) : ∃ a, o = some a ∧ P a :=
  ⟨_, (Option.some_get h).symm, p⟩

theorem someOf0 {α : Type} {o : Option α} (h : o.isSome = true) : ∃ a, o = some a := ⟨_, (Option.some_get h).symm⟩

theorem pairOf {α β : Type} {o : Option (α × β)} {P : α → β → Prop} (h : o.isSome = true) (p : P (o.get h).1 (o.get h).2) :
    ∃ a b, o = some (a, b) ∧ P a b := ⟨_, _, (Option.some_get h).symm, p⟩

theorem pairOf0 {α β : Type} {o : Option (α × β)} (h : o.isSome = true) : ∃ a b, o = some (a, b) :=
  ⟨_, _, (Option.some_get h).symm⟩

theorem sndOf0 {α β : Type} {o : Option (α × β)} {a : α} (h : o.isSome = true) (e : (o.get h).1 = a) : ∃ b, o = some (a, b) :=
  ⟨_, by rw [← e]; exact (Option.some_get h).symm⟩

theorem rangeOf {P : Nat → Bool} (a k : Nat) (h : ((List.range k).all fun n => decide (n < a) || P n) = true) :
    ∀ n, a ≤ n → n < k → P n = true := by
  intro n h1 h2
  have := List.all_eq_true.1 h n (List.mem_range.2 h2)
  simpa [Nat.not_lt.2 h1] using this

/-! ## States of single units -/

/-- String 0, of six positions, lit at full level. -/
def lit0 : State :=
  updStr 0 (fun y => { y with st := .lit, level := 65535, target := 65535, d := 10000, mask := 0 })
    (wd (Ix.LED_STR_CFG 0) 6 (wd (Ix.LED_STR_ISET 0) (400 + 20 * 65536) up))

/-- One lesson on FREE with one block, last evaluated at instant 0 or never, in the modes of a mask. -/
def lessonUp (modes period : Nat) (evaluated : Bool) : State :=
  { up with bn := { up.bn with
      cfg := { up.bn.cfg with
        lessons := [{ clock := 8, modes := modes, fallback := 1000, period := 10000, phase := 0, minPeriod := period }],
        blocks := [{ typ := 1, lesson := 0, nin := 1, out := 1, ins := [0], p0 := 0, p1 := 0 }] },
      lessons := up.bn.lessons.set 0 { up.bn.lessons[0] with evaluated := evaluated, last := 0 } } }

/-- RETAIN with the touch wake armed and park baselines. -/
def touchPark (b : Option Nat) : State :=
  { wd Ix.TCH_WAKE_CFG 1 up with
    pw := { up.pw with pw := .retain, armed := [3], cause := none },
    tch := { up.tch with gest := { up.tch.gest with base := [b, b] } } }

/-- A tester's session of CAN 0 in a mode, with a privilege. -/
def tester (session priv : Nat) (s : State) : State := withPriv 2 priv (inSess session (made s))

/-- CAN 0 of the diagnostics in the middle of a transfer: sending, receiving, receiving a sprig message. -/
def held0 : State := { up with uds := { up.uds with chans := up.uds.chans.set 0 { up.uds.chans[0] with tx := some { bytes := [1, 2, 3, 4, 5, 6, 7, 8, 9], sent := 6, sn := 1, block := none, waitFc := true, at_ := 900 } } } }
def held1 : State := { up with uds := { up.uds with chans := up.uds.chans.set 0 { up.uds.chans[0] with rx := some { total := 20, got := [1, 2, 3, 4, 5, 6], sn := 1, block := 8, at_ := 900 } } } }
def held2 : State := { up with uds := { up.uds with chans := up.uds.chans.set 0 { up.uds.chans[0] with sprig := some { total := 20, got := [1, 2, 3, 4, 5, 6], sn := 1, block := 8, at_ := 900 } } } }

/-- A KEY download in progress. -/
def loading : State :=
  let u := tester 2 2 upWs
  { u with uds := { u.uds with dl := some { key := true, next := 1, last := some 0, offset := 0, total := 32 } } }

/-- FIELD with a code, an OWNER_LOCK and wrong codes counted. -/
def field (code : List Word) (owner : Option (List Byte)) : State :=
  { up with sec := { up.sec with fuses := [255, 255, 0, 0], code := code, owner := owner } }

/-- CAN 0 with command 0 configured on identifier 0x123 under key slot 1. -/
def acmdUp : State :=
  updKey 1 (fun x => { x with key := some [3] }) (made (wd (Ix.SEC_ACMD_CFG 0) (64 + 16 * 65536) (wd (Ix.SEC_ACMD_ID 0) 0x123
    (updCan 0 (fun y => { y with st := .active }) up))))

/-! ## What the statements ask

For each statement about the block, clause by clause and in its order: a concrete state and operands that meet the clause's hypotheses
and at which its commands are served. -/

theorem wit_EmptyQueueIdles :
    ∃ (s : State), s.pending = [] :=
  ⟨up, (by decide +kernel)⟩

theorem wit_EveryStepCompletes :
    (∃ (s : State) (i : Instr), served (Instr.part i) s = false ∧ (∀ (c : Can) (at_ kind : Nat) (tx exempt fdf : Bool) (more : Nat),
      i = .canErrorFrame c at_ kind tx exempt fdf more → (s.can.ctl[c]).st ≠ .sleep)) ∧
    (∃ (s : State) (i : Instr), ((Instr.part i).rouses = true ∧ served (Instr.part i) s = true ∧ s.pw.pw = .standby) ∧
      (∀ (c : Can) (at_ kind : Nat) (tx exempt fdf : Bool) (more : Nat),
      i = .canErrorFrame c at_ kind tx exempt fdf more → (s.can.ctl[c]).st ≠ .sleep)) :=
  ⟨⟨State.reset, (.ttPost [p0]), ⟨(by decide +kernel), (fun _ _ _ _ _ _ _ h => nomatch h)⟩⟩,
    ⟨(inPower .standby (up)), (.ttPost [p0]), ⟨(by decide +kernel), (fun _ _ _ _ _ _ _ h => nomatch h)⟩⟩⟩

theorem wit_RefusedRequestsChangeNothing_1 :
    (∃ (s : State) (r : Requester) (i : Nat), mayRead r i s = false) ∧
    (∃ (s : State) (r : Requester) (i : Nat), mayRead r i s = true ∧ ∃ (x : ParamRow), paramRow i = some x ∧ x.access = .rc ∧
      i ≠ Ix.CHG_FAULTS ∧ i ≠ Ix.PWR_WATCH_RUN ∧ i ≠ Ix.PWR_WATCH_STBY) ∧
    (∃ (s : State) (r : Requester), mayRead r Ix.CHG_FAULTS s = true) ∧
    (∃ (s : State) (r : Requester) (i : Nat), mayWrite r i s = false) ∧
    (∃ (s : State) (r : Requester) (i : Nat), mayRead r i (noteRequest r s) = false ∧ Ready (.readClearWord r i) s) ∧
    (∃ (s : State) (r : Requester) (c : Ch) (v : Word), mayWrite r (chForceIx c) (noteRequest r s) = false ∧ Ready (.hsForceWrite r c v) s) ∧
    (∃ (s : State) (r : Requester) (t : Str) (v : Word), mayWrite r (Ix.LED_FORCE t.val) (noteRequest r s) = false ∧
      Ready (.ledForceWrite r t v) s) ∧
    (∃ (s : State) (r : Requester) (v : Word), mayWrite r Ix.MODE_HOST_STAY (noteRequest r s) = false ∧ Ready (.hostStayWrite r v) s) :=
  ⟨⟨up, .host, 0x3FFF, (by decide +kernel)⟩,
    ⟨(withPriv 0 2 (up)), .host, Ix.SYS_START_CAUSE, ⟨(by decide +kernel), someOf (by decide +kernel) ((by decide +kernel))⟩⟩,
    ⟨(withPriv 0 2 (up)), .host, (by decide +kernel)⟩,
    ⟨up, .host, 0, (by decide +kernel)⟩,
    ⟨up, .host, 0x3FFF, ⟨(by decide +kernel), (readyOf (by decide +kernel))⟩⟩,
    ⟨up, .host, 4, 0, ⟨(by decide +kernel), (readyOf (by decide +kernel))⟩⟩,
    ⟨up, .host, 0, 0, ⟨(by decide +kernel), (readyOf (by decide +kernel))⟩⟩,
    ⟨(inMode .park up), .host, 0, ⟨(by decide +kernel), (readyOf (by decide +kernel))⟩⟩⟩

theorem wit_RefusedRequestsChangeNothing_2 :
    ∃ (s : State) (r : Requester) (v : Word), mayWrite r Ix.FLT_CLEAR (noteRequest r s) = false ∧ Ready (.fltClearWrite r v) s :=
  ⟨up, .host, 0, ⟨(by decide +kernel), (readyOf (by decide +kernel))⟩⟩

theorem wit_BadValueKeepsWord :
    (∃ (s : State) (r : Requester) (i : Nat) (v : Word), mayWrite r i s = true ∧ ∃ (x : ParamRow), paramRow i = some x ∧ x.access = .rw ∧
      (valueOk i v s && crossOk i (s.put i (cleanValue i v))) = false) ∧
    (∃ (i : Nat) (v : Word) (w : Word), ∃ (x : ParamRow), paramRow i = some x ∧ usedBits x v = usedBits x w ∧
      maskWord v (usedBits x v) = maskWord w (usedBits x w)) :=
  ⟨⟨(withPriv 0 2 upWs), .host, Ix.TXN_TIMEOUT, 0, ⟨(by decide +kernel), someOf (by decide +kernel) ((by decide +kernel))⟩⟩,
    ⟨0, 0, 0, someOf (by decide +kernel) ((by decide +kernel))⟩⟩

theorem wit_ReadClearsOnlyWhenPermitted_1 :
    (∃ (s : State) (r : Requester) (i : Nat), mayRead r i s = true ∧ ∃ (x : ParamRow), paramRow i = some x ∧ x.access = .rc ∧
      i ≠ Ix.CHG_FAULTS ∧ i ≠ Ix.PWR_WATCH_RUN ∧ i ≠ Ix.PWR_WATCH_STBY) ∧
    (∃ (s : State) (r : Requester) (i : Nat) (k : _), mayRead r i s = true ∧ ∃ (x : ParamRow), paramRow i = some x ∧ x.access = .rc ∧
      i ≠ Ix.CHG_FAULTS ∧ i ≠ Ix.PWR_WATCH_RUN ∧ i ≠ Ix.PWR_WATCH_STBY ∧ k ≠ i) ∧
    (∃ (s : State) (r : Requester), mayRead r Ix.CHG_FAULTS s = true) ∧
    (∃ (s : State) (r : Requester), mayRead r Ix.PWR_WATCH_RUN s = true) ∧
    (∃ (s : State) (r : Requester), mayRead r Ix.PWR_WATCH_STBY s = true) ∧
    (∃ (s : State) (r : Requester) (i : Nat), mayRead r i s = true ∧ ∃ (x : ParamRow), paramRow i = some x ∧ x.access ≠ .rc ∧ i ≠ Ix.TT_FREE_LO) ∧
    (∃ (s : State) (r : Requester), mayRead r Ix.TT_FREE_LO s = true) ∧
    (∃ (s : State) (r : Requester) (i : Nat), mayRead r i s = false) :=
  ⟨⟨(withPriv 0 2 (up)), .host, Ix.SYS_START_CAUSE, ⟨(by decide +kernel), someOf (by decide +kernel) ((by decide +kernel))⟩⟩,
    ⟨(withPriv 0 2 (up)), .host, Ix.SYS_START_CAUSE, 0, ⟨(by decide +kernel), someOf (by decide +kernel) ((by decide +kernel))⟩⟩,
    ⟨(withPriv 0 2 (up)), .host, (by decide +kernel)⟩,
    ⟨(withPriv 0 2 (up)), .host, (by decide +kernel)⟩,
    ⟨(withPriv 0 2 (up)), .host, (by decide +kernel)⟩,
    ⟨(withPriv 0 2 (up)), .host, 0, ⟨(by decide +kernel), someOf (by decide +kernel) ((by decide +kernel))⟩⟩,
    ⟨(withPriv 0 2 (up)), .host, (by decide +kernel)⟩,
    ⟨up, .host, Ix.SYS_START_CAUSE, (by decide +kernel)⟩⟩

theorem wit_ReadClearsOnlyWhenPermitted_2 :
    (∃ (s : State) (r : Requester) (i : Nat), mayRead r i (noteRequest r s) = true ∧ ∃ (x : ParamRow), paramRow i = some x ∧ (x.access = .rc ∧
      i ≠ Ix.CHG_FAULTS ∧ i ≠ Ix.PWR_WATCH_RUN ∧ i ≠ Ix.PWR_WATCH_STBY) ∧ Ready (.readClearWord r i) s) ∧
    (∃ (s : State) (r : Requester), mayRead r Ix.CHG_FAULTS (noteRequest r s) = true ∧ Ready (.chgFaultsRead r) s) :=
  ⟨⟨(withPriv 0 2 (up)), .host, Ix.SYS_START_CAUSE, ⟨(by decide +kernel), someOf (by decide +kernel) (⟨(by decide +kernel),
      (readyOf (by decide +kernel))⟩)⟩⟩,
    ⟨(withPriv 0 2 (up)), .host, ⟨(by decide +kernel), (readyOf (by decide +kernel))⟩⟩⟩

theorem wit_PlainWordWrite :
    ∃ (s : State) (r : Requester) (i : Nat) (v : Word), let u := spendMeasured (noteRequest r s); mayWrite r i u = true ∧ ∃ (x : ParamRow),
      paramRow i = some x ∧ (x.access = .rw ∧ (valueOk i v u && crossOk i (u.put i (cleanValue i v))) = true ∧
      commandWord r (freeMeasured (noteRequest r s)) i (cleanValue i v) u = none ∧ forceWord i (cleanValue i v) u = none) ∧
      Ready (.paramWrite r i v) s :=
  ⟨(withPriv 0 2 up), .host, Ix.TXN_TIMEOUT, 100, ⟨(by decide +kernel), someOf (by decide +kernel) (⟨(by decide +kernel),
    (readyOf (by decide +kernel))⟩)⟩⟩

theorem wit_TxnBeginBusyOrOpens :
    (∃ (s : State), (s.txn.st ≠ .idle ∨ s.started = false)) ∧
    (∃ (s : State), s.txn.st = .idle ∧ s.started = true) ∧
    (∃ (s : State) (r : Requester), admitted r s ∧ ((opened r s).txn.st = .idle ∧ (opened r s).started = true) ∧ Ready (.txnBegin r) s) ∧
    (∃ (s : State) (r : Requester), admitted r s ∧ ((opened r s).txn.st ≠ .idle ∨ (opened r s).started = false) ∧ Ready (.txnBegin r) s) :=
  ⟨⟨(txnUp .opened (.tester 0) []), (by decide +kernel)⟩,
    ⟨(fun u : State => { u with started := true }) ((fun u : State => { u with txn := { u.txn with st := .idle } }) (up)), (by decide +kernel)⟩,
    ⟨up, .host, ⟨(fun _ h => nomatch h), ⟨(by decide +kernel), (readyOf (by decide +kernel))⟩⟩⟩,
    ⟨(txnUp .opened (.tester 0) []), .host, ⟨(fun _ h => nomatch h), ⟨(by decide +kernel), (readyOf (by decide +kernel))⟩⟩⟩⟩

theorem wit_OnlyOwnerChangesTxn :
    (∃ (s : State) (r : Requester), s.txn.st ≠ .idle ∧ s.txn.owner ≠ some r) ∧
    (∃ (s : State), s.txn.st = .idle) ∧
    (∃ (s : State) (r : Requester) (i : Nat) (v : Word) (a : Option CommitAt), admitted r s ∧ ((opened r s).txn.st ≠ .idle ∧
      (opened r s).txn.owner ≠ some r) ∧ Ready (.txnWrite r i v) s ∧ Ready (.txnCommit r a) s ∧ Ready (.txnAbort r) s) ∧
    (∃ (s : State) (r : Requester) (m : Measured) (i : Nat) (v : Word), (s.txn.st ≠ .idle ∧ mayWrite r i s = true) ∧ ∃ (x : ParamRow),
      paramRow i = some x ∧ x.access = .rw ∧ (valueOk i v s && crossOk i (s.put i (cleanValue i v))) = true ∧
      commandWord r m i (cleanValue i v) s = none ∧ forceWord i (cleanValue i v) s = none) :=
  ⟨⟨(txnUp .opened (.tester 0) []), .host, (by decide +kernel)⟩,
    ⟨(fun u : State => { u with txn := { u.txn with st := .idle } }) (up), (by decide +kernel)⟩,
    ⟨(txnUp .opened (.tester 0) []), .host, 0, 0, none, ⟨(fun _ h => nomatch h), ⟨(by decide +kernel), ⟨(readyOf (by decide +kernel)),
      ⟨(readyOf (by decide +kernel)), (readyOf (by decide +kernel))⟩⟩⟩⟩⟩,
    ⟨(withPriv 0 2 (txnUp .opened (.tester 0) [])), .host, (freeMeasured up), Ix.TXN_TIMEOUT, 100, ⟨(by decide +kernel),
      someOf (by decide +kernel) ((by decide +kernel))⟩⟩⟩

theorem wit_StagingSlots :
    (∃ (s : State), s.txn.staged.length ≤ 512) ∧
    (∃ (s : State) (i : Nat) (v : Word), s.txn.st = .opened ∧ ∃ (r : Requester), s.txn.owner = some r ∧ (mayStage r i s = false ∨ (∃ x,
      paramRow i = some x ∧ x.access = .w1c) ∨ valueOk i v (touchTxn r s) = true) ∧ (s.txn.staged.any fun y => y.idx == i) = true) ∧
    (∃ (s : State) (i : Nat) (v : Word), s.txn.st = .opened ∧ ∃ (r : Requester), s.txn.owner = some r ∧ (mayStage r i s = false ∨ (∃ x,
      paramRow i = some x ∧ x.access = .w1c) ∨ valueOk i v (touchTxn r s) = true) ∧ (s.txn.staged.any fun y => y.idx == i) = false ∧
      s.txn.staged.length < 512) ∧
    (∃ (s : State) (i : Nat) (v : Word), s.txn.st = .opened ∧ ∃ (r : Requester), s.txn.owner = some r ∧ (mayStage r i s = false ∨ (∃ x,
      paramRow i = some x ∧ x.access = .w1c) ∨ valueOk i v (touchTxn r s) = true) ∧ (s.txn.staged.any fun y => y.idx == i) = false ∧
      512 ≤ s.txn.staged.length) ∧
    (∃ (s : State) (i : Nat) (v : Word), s.txn.st = .opened ∧ ∃ (r : Requester), s.txn.owner = some r ∧ mayStage r i s = true ∧
      ∃ (x : ParamRow), paramRow i = some x ∧ x.access ≠ .w1c ∧ valueOk i v (touchTxn r s) = false) ∧
    (∃ (s : State) (r : Requester) (i : Nat) (v : Word), admitted r s ∧ i < 16384 ∧ Ready (.txnWrite r i v) s) :=
  ⟨⟨up, (by decide +kernel)⟩,
    ⟨(txnUp .opened .host [stg 0 1 false]), 0, 0, ⟨(by decide +kernel), someOf (by decide +kernel) (⟨(Or.inl (by decide +kernel)),
      (by decide +kernel)⟩)⟩⟩,
    ⟨(txnUp .opened .host []), 0, 0, ⟨(by decide +kernel), someOf (by decide +kernel) (⟨(Or.inl (by decide +kernel)), (by decide +kernel)⟩)⟩⟩,
    ⟨(txnUp .opened .host ((List.range 512).map fun k => stg (0x1000 + k) 0 false)), 0, 0, ⟨(by decide +kernel),
      someOf (by decide +kernel) (⟨(Or.inl (by decide +kernel)), (by decide +kernel)⟩)⟩⟩,
    ⟨(withPriv 0 2 (txnUp .opened .host [])), Ix.TXN_TIMEOUT, 0, ⟨(by decide +kernel), someOf (by decide +kernel) (⟨(by decide +kernel),
      someOf (by decide +kernel) ((by decide +kernel))⟩)⟩⟩,
    ⟨up, .host, 0, 0, ⟨(fun _ h => nomatch h), ⟨(by decide +kernel), (readyOf (by decide +kernel))⟩⟩⟩⟩

theorem wit_ReadYourStagedWrites :
    (∃ (s : State) (i : Nat), s.txn.st ≠ .idle ∧ ∃ (r : Requester), s.txn.owner = some r ∧ ∃ (x : Staged),
      (s.txn.staged.find? fun y => y.idx == i) = some x ∧ x.eff = true ∧ ∃ (p : ParamRow), paramRow i = some p ∧ p.access ≠ .w1c) ∧
    (∃ (s : State) (i : Nat), s.txn.st ≠ .idle ∧ ∃ (r : Requester), s.txn.owner = some r ∧ ∃ (x : Staged),
      (s.txn.staged.find? fun y => y.idx == i) = some x ∧ x.eff = false) ∧
    (∃ (s : State) (r : Requester), s.txn.owner ≠ some r) ∧
    (∃ (s : State) (i : Nat), (s.txn.staged.find? fun y => y.idx == i) = none) ∧
    (∃ (s : State) (r : Requester) (i : Nat), admitted r s ∧ i < 16384 ∧ Ready (.txnRead r i) s) ∧
    (∃ (s : State) (r : Requester), admitted r s ∧ let u := touchTxn r (opened r s); Ready (.txnStatus r) s) :=
  ⟨⟨(txnUp .opened .host [stg 3 1 false, stg 2 1 true]), 2, ⟨(by decide +kernel),
      someOf (by decide +kernel) (someOf (by decide +kernel) (⟨(by decide +kernel), someOf (by decide +kernel) ((by decide +kernel))⟩))⟩⟩,
    ⟨(txnUp .opened .host [stg 0 1 false]), 0, ⟨(by decide +kernel),
      someOf (by decide +kernel) (someOf (by decide +kernel) ((by decide +kernel)))⟩⟩,
    ⟨up, .host, (by decide +kernel)⟩,
    ⟨up, 0, (by decide +kernel)⟩,
    ⟨up, .host, 0, ⟨(fun _ h => nomatch h), ⟨(by decide +kernel), (readyOf (by decide +kernel))⟩⟩⟩,
    ⟨up, .host, ⟨(fun _ h => nomatch h), (readyOf (by decide +kernel))⟩⟩⟩

theorem wit_CommitSealsOrRefuses :
    (∃ (s : State) (a : Option CommitAt), s.txn.st = .opened ∧ ∃ (r : Requester), s.txn.owner = some r ∧ let u := settle (touchTxn r s);
      let e := commitSpec a u; True) ∧
    (∃ (s : State) (a : Option CommitAt), s.txn.st = .opened ∧ ∃ (r : Requester), s.txn.owner = some r ∧ let u := settle (touchTxn r s);
      let e := commitSpec a u; noClock e.clock u = true) ∧
    (∃ (s : State) (a : Option CommitAt), s.txn.st = .opened ∧ ∃ (r : Requester), s.txn.owner = some r ∧ let u := settle (touchTxn r s);
      let e := commitSpec a u; noClock e.clock u = false ∧ tooLate e u = true) ∧
    (∃ (s : State) (a : Option CommitAt), s.txn.st = .opened ∧ ∃ (r : Requester), s.txn.owner = some r ∧ let u := settle (touchTxn r s);
      let e := commitSpec a u; noClock e.clock u = false ∧ tooLate e u = false ∧ (!isBehind e u && commitFar e u) = true) ∧
    (∃ (s : State) (a : Option CommitAt), s.txn.st = .opened ∧ ∃ (r : Requester), s.txn.owner = some r ∧ let u := settle (touchTxn r s);
      let e := commitSpec a u; noClock e.clock u = false ∧ tooLate e u = false ∧ (!isBehind e u && commitFar e u) = false) ∧
    (∃ (s : State), s.txn.st = .sealed ∧ ∃ (r : Requester), s.txn.owner = some r) ∧
    (∃ (s : State) (r : Requester) (a : Option CommitAt), admitted r s ∧ Ready (.txnCommit r a) s) :=
  ⟨⟨(txnUp .opened .host []), none, ⟨(by decide +kernel), someOf (by decide +kernel) (trivial)⟩⟩,
    ⟨(txnUp .opened .host []), (some { clock := 0, due := 1 }), ⟨(by decide +kernel), someOf (by decide +kernel) ((by decide +kernel))⟩⟩,
    ⟨(txnUp .opened .host []), (some { clock := 8, due := 1 }), ⟨(by decide +kernel), someOf (by decide +kernel) ((by decide +kernel))⟩⟩,
    ⟨(txnUp .opened .host []), (some { clock := 8, due := 2 ^ 47 - 1 }), ⟨(by decide +kernel),
      someOf (by decide +kernel) ((by decide +kernel))⟩⟩,
    ⟨(txnUp .opened .host []), none, ⟨(by decide +kernel), someOf (by decide +kernel) ((by decide +kernel))⟩⟩,
    ⟨(fun u : State => { u with txn := { u.txn with owner := some .host } }) ((fun u : State => { u with txn := { u.txn with st := .sealed } }) (up)),
      ⟨(by decide +kernel), (someOf0 (by decide +kernel))⟩⟩,
    ⟨up, .host, none, ⟨(fun _ h => nomatch h), (readyOf (by decide +kernel))⟩⟩⟩

theorem wit_TxnEnds :
    (∃ (s : State), s.txn.st = .opened ∧ ∃ (r : Requester), s.txn.owner = some r) ∧
    (∃ (s : State) (r : Requester), admitted r s ∧ ((opened r s).txn.st = .opened ∧ (opened r s).txn.owner = some r) ∧ Ready (.txnAbort r) s) ∧
    (∃ (s : State), s.txn.st = .opened ∧ Ready .txnTimeout s) ∧
    (∃ (s : State), s.txn.st ≠ .opened ∧ Ready .txnTimeout s) ∧
    (∃ (s : State) (slot : Nat), ∃ (e : Event) (u : State), takeEvent slot s = some (e, u) ∧ (e.spec.act = .txnCommit ∧ u.txn.st = .sealed) ∧
      ∃ (r : Requester), u.txn.owner = some r ∧ (conflictAt (liveStaged u) (standing (liveStaged u) u) u = none ∧
      crossAt (liveStaged u) (standing (liveStaged u) u) = none) ∧
      let t := forEach (liveStaged u) (fun x w => (applyWrite r (freeMeasured u) x.idx x.val w).2) (spendMeasured u);
      Ready (.eventTxnCommit slot) s) ∧
    (∃ (s : State) (slot : Nat), ∃ (e : Event) (u : State), takeEvent slot s = some (e, u) ∧ (e.spec.act = .txnCommit ∧ u.txn.st = .sealed) ∧
      ∃ (r : Requester), u.txn.owner = some r ∧ ∃ (i : Nat), conflictAt (liveStaged u) (standing (liveStaged u) u) u = some i ∧
      Ready (.eventTxnCommit slot) s) ∧
    (∃ (s : State) (slot : Nat), ∃ (e : Event) (u : State), takeEvent slot s = some (e, u) ∧ (e.spec.act = .txnCommit ∧ u.txn.st = .sealed) ∧
      ∃ (r : Requester), u.txn.owner = some r ∧ conflictAt (liveStaged u) (standing (liveStaged u) u) u = none ∧ ∃ (i : Nat),
      crossAt (liveStaged u) (standing (liveStaged u) u) = some i ∧ Ready (.eventTxnCommit slot) s) :=
  ⟨⟨(fun u : State => { u with txn := { u.txn with owner := some .host } }) ((fun u : State => { u with txn := { u.txn with st := .opened } }) (up)),
      ⟨(by decide +kernel), (someOf0 (by decide +kernel))⟩⟩,
    ⟨(txnUp .opened .host []), .host, ⟨(fun _ h => nomatch h), ⟨(by decide +kernel), (readyOf (by decide +kernel))⟩⟩⟩,
    ⟨(fun u : State => { u with txn := { u.txn with st := .opened } }) (up), ⟨(by decide +kernel), (readyOf (by decide +kernel))⟩⟩,
    ⟨up, ⟨(by decide +kernel), (readyOf (by decide +kernel))⟩⟩,
    ⟨(sealedUp []), 4095, pairOf (by decide +kernel) (⟨(by decide +kernel), someOf (by decide +kernel) (⟨(by decide +kernel),
      (readyOf (by decide +kernel))⟩)⟩)⟩,
    ⟨(sealedUp [stg 0x0601 4095 true, stg 0x0602 4095 true]), 4095, pairOf (by decide +kernel) (⟨(by decide +kernel),
      someOf (by decide +kernel) (someOf (by decide +kernel) ((readyOf (by decide +kernel))))⟩)⟩,
    ⟨(sealedUp [stg Ix.PWR_VBAT_WAKE_HI 1 true]), 4095, pairOf (by decide +kernel) (⟨(by decide +kernel),
      someOf (by decide +kernel) (⟨(by decide +kernel), someOf (by decide +kernel) ((readyOf (by decide +kernel)))⟩)⟩)⟩⟩

theorem wit_PostsWholeOrNotAtAll :
    (∃ (s : State) (g : List EventSpec), (groupStatus g s ≠ 0 ∧ groupStatus g s ≠ 0x10) ∧ Ready (.ttPost g) s) ∧
    (∃ (s : State) (g : List EventSpec), groupStatus g s = 0 ∧ ∃ (u : State),
      placeGroup g { s with tt := { s.tt with status := 0, handles := [] } } = .ok u ∧ Ready (.ttPost g) s) ∧
    (∃ (s : State) (g : List EventSpec), groupStatus g s = 0 ∧ ∃ (pool : Nat),
      placeGroup g { s with tt := { s.tt with status := 0, handles := [] } } = .error pool) ∧
    (∃ (s : State) (g : List EventSpec), (postGroup g s).tt.status = 0x10 ∧ Ready (.ttPost g) s) :=
  ⟨⟨up, ([{ p0 with clock := 0 }]), ⟨(by decide +kernel), (readyOf (by decide +kernel))⟩⟩,
    ⟨up, [p0], ⟨(by decide +kernel), ⟨_, rfl, (readyOf (by decide +kernel))⟩⟩⟩,
    ⟨(List.range 8).foldl (fun t k => wd (0x601 + k) (if k = 1 then 4095 else 0) t) up, [p0], ⟨(by decide +kernel), ⟨_, rfl⟩⟩⟩,
    ⟨(List.range 8).foldl (fun t k => wd (0x601 + k) (if k = 1 then 4095 else 0) t) up, [p0], ⟨(by decide +kernel),
      (readyOf (by decide +kernel))⟩⟩⟩

theorem wit_CancelByHandle :
    (∃ (s : State) (slot : Nat) (gen : Nat), (s.tt.events.find? fun e => e.slot == slot && e.gen == gen) = none ∧ Ready (.ttCancel slot gen) s) ∧
    (∃ (s : State) (slot : Nat) (gen : Nat), ∃ (e : Event), (s.tt.events.find? fun e => e.slot == slot && e.gen == gen) = some e ∧
      e.isCommitted s = false ∧ Ready (.ttCancel slot gen) s) ∧
    (∃ (s : State) (slot : Nat) (gen : Nat), ∃ (e : Event), (s.tt.events.find? fun e => e.slot == slot && e.gen == gen) = some e ∧
      e.isCommitted s = true ∧ Ready (.ttCancel slot gen) s) :=
  ⟨⟨up, 0, 0, ⟨(by decide +kernel), (readyOf (by decide +kernel))⟩⟩,
    ⟨(evUp (.outSet 4 1) false), 0, 0, someOf (by decide +kernel) (⟨(by decide +kernel), (readyOf (by decide +kernel))⟩)⟩,
    ⟨(evUp (.outSet 4 1) true), 0, 0, someOf (by decide +kernel) (⟨(by decide +kernel), (readyOf (by decide +kernel))⟩)⟩⟩

theorem wit_ClockAndCommitRows_1 :
    (∃ (s : State) (slot : Nat), ∃ (e : Event), eventAt slot s = some e ∧ e.committed = false ∧ ∃ (t : Nat), e.predicted s = some t ∧
      Ready (.eventCommit slot) s) ∧
    (∃ (s : State) (slot : Nat), ∃ (e : Event), eventAt slot s = some e ∧ e.committed = true ∧ Ready (.eventCommit slot) s) ∧
    (∃ (s : State) (p : Pc), ∃ (t : Nat), (s.tt.clocks[p]).missAt = some t ∧ Ready (.markMissing p) s) ∧
    (∃ (s : State) (p : Pc), ∃ (t : Nat), (s.tt.clocks[p]).limitAt (s.num (Ix.TT_PC_COAST p.val)) = some t ∧ Ready (.coastLimit p) s) ∧
    (∃ (s : State) (p : Pc), (s.pw.pw ≠ .standby ∧ ((s.tt.clocks[p]).st = .acquiring ∨ (s.tt.clocks[p]).st = .lost)) ∧
      Ready (.clockStopTimeout p) s) ∧
    (∃ (s : State) (p : Pc), s.pw.pw = .standby ∧ Ready (.clockStopTimeout p) s) ∧
    (∃ (s : State) (slot : Nat) (delay : Nat) (vbat : Nat) (convs : List Conv), ∃ (e : Event) (u : State), takeAtBound slot s = some (e, u) ∧
      Ready (.committedBoundExpiry slot convs delay vbat) s) ∧
    (∃ (e : Event) (c : Ch) (st : Fin 4), e.spec.act = .outSet c st) :=
  ⟨⟨(evUp (.outSet 4 1) false), 0, someOf (by decide +kernel) (⟨(by decide +kernel),
      someOf (by decide +kernel) ((readyOf (by decide +kernel)))⟩)⟩,
    ⟨(evUp (.outSet 4 1) true), 0, someOf (by decide +kernel) (⟨(by decide +kernel), (readyOf (by decide +kernel))⟩)⟩,
    ⟨(clockUp pcTracking), 0, someOf (by decide +kernel) ((readyOf (by decide +kernel)))⟩,
    ⟨(clockUp pcCoasting), 0, someOf (by decide +kernel) ((readyOf (by decide +kernel)))⟩,
    ⟨(updPc 0 (fun y => { y with st := .acquiring }) (up)), 0, ⟨(by decide +kernel), (readyOf (by decide +kernel))⟩⟩,
    ⟨(inPower .standby (up)), 0, ⟨(by decide +kernel), (readyOf (by decide +kernel))⟩⟩,
    ⟨(withEvents (clockUp pcTracking) [evClock]), 0, 0, 0, [], pairOf (by decide +kernel) ((readyOf (by decide +kernel)))⟩,
    ⟨(ev0 (.outSet 4 1) true), 4, 1, (by decide +kernel)⟩⟩

theorem wit_ClockAndCommitRows_2 :
    ∃ (e : Event), e.spec.act = .txnCommit :=
  ⟨(ev0 .txnCommit true), (by decide +kernel)⟩

theorem wit_LogSelectAndRetry :
    (∃ (s : State) (age : Nat), age < s.tt.log.length ∧ ∃ (e : List Word), s.tt.log.getD (s.tt.log.length - 1 - age) [] = e ∧
      Ready (.ttLogSelWrite age) s) ∧
    (∃ (s : State) (age : Nat), s.tt.log.length ≤ age ∧ Ready (.ttLogSelWrite age) s) ∧
    (∃ (s : State), s.tt.waiting = [] ∧ Ready .servicePostRetry s) ∧
    (∃ (s : State), ∃ (w : Waiting) (rest : List Waiting), s.tt.waiting = w :: rest ∧
      let t := postGroup (reaim w.group s) { s with tt := { s.tt with waiting := rest } }; t.tt.status = 0x10 ∧ Ready .servicePostRetry s) ∧
    (∃ (s : State), ∃ (w : Waiting) (rest : List Waiting), s.tt.waiting = w :: rest ∧
      let t := postGroup (reaim w.group s) { s with tt := { s.tt with waiting := rest } }; t.tt.status = 0 ∧ Ready .servicePostRetry s) ∧
    (∃ (s : State), ∃ (w : Waiting) (rest : List Waiting), s.tt.waiting = w :: rest ∧
      let t := postGroup (reaim w.group s) { s with tt := { s.tt with waiting := rest } }; (t.tt.status ≠ 0x10 ∧ t.tt.status ≠ 0) ∧
      Ready .servicePostRetry s) :=
  ⟨⟨({ up with tt := { up.tt with log := [[1, 2, 3, 4, 5, 6]] } }), 0, ⟨(by decide +kernel), ⟨_, rfl, (readyOf (by decide +kernel))⟩⟩⟩,
    ⟨up, 0, ⟨(by decide +kernel), (readyOf (by decide +kernel))⟩⟩,
    ⟨(fun u : State => { u with tt := { u.tt with waiting := [] } }) (up), ⟨(by decide +kernel), (readyOf (by decide +kernel))⟩⟩,
    ⟨({ ((List.range 8).foldl (fun t k => wd (0x601 + k) (if k = 1 then 4095 else 0) t) up) with tt := { up.tt with waiting := [{ group := [p0], by_ := .plain, since := 900 }] } }),
      ⟨_, _, rfl, ⟨(by decide +kernel), (readyOf (by decide +kernel))⟩⟩⟩,
    ⟨({ (up) with tt := { up.tt with waiting := [{ group := [p0], by_ := .plain, since := 900 }] } }), ⟨_, _, rfl, ⟨(by decide +kernel),
      (readyOf (by decide +kernel))⟩⟩⟩,
    ⟨({ (up) with tt := { up.tt with waiting := [{ group := [{ p0 with clock := 0 }], by_ := .plain, since := 900 }] } }), ⟨_, _, rfl,
      ⟨(by decide +kernel), (readyOf (by decide +kernel))⟩⟩⟩⟩

theorem wit_SwitchEvents_1 :
    (∃ (s : State) (slot : Nat) (vbat : Nat) (c : Ch), ∃ (e : Event) (u : State), takeEvent slot s = some (e, u) ∧ (c.val < 40 ∧
      pwrOn u = true ∧ e.spec.act = .outSet c 0 ∧ ((u.ch c).isOn = false ∨ (u.ch c).turnOn + minOnP c u ≤ u.now)) ∧
      Ready (.eventOutSet slot vbat) s) ∧
    (∃ (s : State) (slot : Nat) (vbat : Nat) (c : Ch), ∃ (e : Event) (u : State), takeEvent slot s = some (e, u) ∧ (c.val < 40 ∧
      pwrOn u = true ∧ e.spec.act = .outSet c 0 ∧ (u.ch c).isOn = true ∧ u.now < (u.ch c).turnOn + minOnP c u) ∧
      Ready (.eventOutSet slot vbat) s) ∧
    (∃ (s : State) (slot : Nat) (vbat : Nat) (c : Ch) (st : Fin 4), ∃ (e : Event) (u : State), takeEvent slot s = some (e, u) ∧ (c.val < 40 ∧
      pwrOn u = true ∧ st ≠ 0 ∧ e.spec.act = .outSet c st ∧ (u.ch c).st = .off ∧ (u.ch c).held = false ∧ (u.ch c).posted ≠ 2 ∧
      holdP c u + decayP c u = 0) ∧ Ready (.eventOutSet slot vbat) s) ∧
    (∃ (s : State) (slot : Nat) (vbat : Nat) (c : Ch) (st : Fin 4), ∃ (e : Event) (u : State), takeEvent slot s = some (e, u) ∧ (c.val < 40 ∧
      st ≠ 0 ∧ e.spec.act = .outSet c st ∧ ((u.ch c).st = .tripped ∨ (u.ch c).st = .latched ∨ (u.ch c).st = .dropped)) ∧
      Ready (.eventOutSet slot vbat) s) ∧
    (∃ (s : State) (slot : Nat) (vbat : Nat) (c : Ch) (st : Fin 4), ∃ (e : Event) (u : State), takeEvent slot s = some (e, u) ∧
      (pwrOn u = false ∧ e.spec.act = .outSet c st) ∧ Ready (.eventOutSet slot vbat) s) ∧
    (∃ (s : State) (slot : Nat) (c : Ch) (d : Nat), ∃ (e : Event) (u : State), takeEvent slot s = some (e, u) ∧ (e.spec.act = .outDuty c d ∧
      d < 65536) ∧ Ready (.eventOutDuty slot) s) ∧
    (∃ (s : State) (c : Ch), ∃ (at_ : Nat), (s.ch c).offAt = some at_ ∧ (s.ch c).ending = false ∧ Ready (.pwmOffEdge c) s) ∧
    (∃ (s : State) (c : Ch), ∃ (at_ : Nat), (s.ch c).offAt = some at_ ∧ (s.ch c).ending = true ∧ Ready (.pwmOffEdge c) s) :=
  ⟨⟨(withEvents (up) [ev0 (.outSet 4 0) true]), 0, 0, 4, pairOf (by decide +kernel) (⟨(by decide +kernel), (readyOf (by decide +kernel))⟩)⟩,
    ⟨(updCh 4 (fun y => { y with st := .on, turnOn := 81000 }) (evUp (.outSet 4 0) true)), 0, 0, 4,
      pairOf (by decide +kernel) (⟨(by decide +kernel), (readyOf (by decide +kernel))⟩)⟩,
    ⟨(wd Ix.HS_PROF0_w1 0 (evUp (.outSet 4 1) true)), 0, 0, 4, 1, pairOf (by decide +kernel) (⟨(by decide +kernel),
      (readyOf (by decide +kernel))⟩)⟩,
    ⟨(updCh 4 (fun y => { y with st := .tripped }) (withEvents (up) [ev0 (.outSet 4 1) true])), 0, 0, 4, 1,
      pairOf (by decide +kernel) (⟨(by decide +kernel), (readyOf (by decide +kernel))⟩)⟩,
    ⟨(wd (Ix.HS_CFG 4) 0 (evUp (.outSet 4 1) true)), 0, 0, 4, 1, pairOf (by decide +kernel) (⟨(by decide +kernel),
      (readyOf (by decide +kernel))⟩)⟩,
    ⟨(withEvents (up) [ev0 (.outDuty 4 1) true]), 0, 4, 1, pairOf (by decide +kernel) (⟨(by decide +kernel), (readyOf (by decide +kernel))⟩)⟩,
    ⟨(updCh 4 (fun y => { y with ending := false }) (updCh 4 (fun y => { y with offAt := some 900 }) (up))), 4,
      someOf (by decide +kernel) (⟨(by decide +kernel), (readyOf (by decide +kernel))⟩)⟩,
    ⟨(updCh 4 (fun y => { y with ending := true }) (updCh 4 (fun y => { y with offAt := some 900 }) (up))), 4,
      someOf (by decide +kernel) (⟨(by decide +kernel), (readyOf (by decide +kernel))⟩)⟩⟩

theorem wit_SwitchEvents_2 :
    ∃ (s : State) (c : Ch), (s.ch c).st = .inrush ∧ Ready (.inrushEnd c) s :=
  ⟨(updCh 4 (fun y => { y with st := .inrush }) (up)), 4, ⟨(by decide +kernel), (readyOf (by decide +kernel))⟩⟩

theorem wit_ChannelDetections_1 :
    (∃ (s : State) (c : Ch) (least : Nat) (most : Nat) (vbat : Nat) (us : Nat), ((shortFigures c).1 ≤ least ∧ 2 * most < shortLevel c vbat s ∧
      (shortFigures c).2 ≤ us) ∧ Ready (.hsShortDetect c least most vbat us) s) ∧
    (∃ (s : State) (c : Ch) (least : Nat) (most : Nat) (vbat : Nat) (us : Nat),
      (least < (shortFigures c).1 ∨ shortLevel c vbat s ≤ 2 * most ∨ us < (shortFigures c).2) ∧ Ready (.hsShortDetect c least most vbat us) s) ∧
    (∃ (s : State) (c : Ch) (temp : Int), 175 ≤ temp ∧ Ready (.hsThermalDetect c temp) s) ∧
    (∃ (s : State) (c : Ch) (temp : Int), temp < 175 ∧ Ready (.hsThermalDetect c temp) s) ∧
    (∃ (s : State) (c : Ch), ∃ (at_ : Nat), (s.ch c).excess = some at_ ∧ Ready (.hsOverloadDetect c) s) ∧
    (∃ (s : State) (c : Ch), (s.ch c).excess = none ∧ Ready (.hsOverloadDetect c) s) ∧
    (∃ (s : State) (c : Ch), (s.ch c).st ≠ .on ∧ (s.ch c).st ≠ .inrush) ∧
    (∃ (s : State) (c : Ch), ((s.ch c).st = .on ∨ (s.ch c).st = .inrush)) :=
  ⟨⟨up, 4, 100000, 0, 1200, 1000, ⟨(by decide +kernel), (readyOf (by decide +kernel))⟩⟩,
    ⟨up, 4, 0, 0, 0, 0, ⟨(by decide +kernel), (readyOf (by decide +kernel))⟩⟩,
    ⟨up, 4, 175, ⟨(by decide +kernel), (readyOf (by decide +kernel))⟩⟩,
    ⟨up, 4, 0, ⟨(by decide +kernel), (readyOf (by decide +kernel))⟩⟩,
    ⟨(updCh 4 (fun y => { y with excess := some 900 }) (up)), 4, someOf (by decide +kernel) ((readyOf (by decide +kernel)))⟩,
    ⟨(updCh 4 (fun y => { y with excess := none }) (up)), 4, ⟨(by decide +kernel), (readyOf (by decide +kernel))⟩⟩,
    ⟨up, 4, (by decide +kernel)⟩,
    ⟨(updCh 4 (fun y => { y with st := .on }) (up)), 4, (by decide +kernel)⟩⟩

theorem wit_ChannelDetections_2 :
    (∃ (s : State) (c : Ch), ∃ (at_ : Nat), (if (s.ch c).open_ then (s.ch c).high else (s.ch c).low) = some at_ ∧ Ready (.hsOpenOnDetect c) s) ∧
    (∃ (s : State) (c : Ch) (least : Nat) (most : Nat), ((c.val < 36 ∨ 40 ≤ c.val) ∧ offTest c s = true) ∧
      Ready (.hsOpenOffDetect c least most) s) ∧
    (∃ (s : State) (c : Ch) (least : Nat) (most : Nat), (36 ≤ c.val ∧ c.val < 40 ∧ offTest c s = true) ∧
      Ready (.hsOpenOffDetect c least most) s) ∧
    (∃ (s : State) (c : Ch) (least : Nat), offTest c s = true ∧ Ready (.hsShortBatDetect c least) s) ∧
    (∃ (s : State) (c : Ch) (least : Nat) (most : Nat), offTest c s = false ∧ Ready (.hsOpenOffDetect c least most) s ∧
      Ready (.hsShortBatDetect c least) s) ∧
    (∃ (s : State) (c : Ch) (most : Int), (s.ch c).isOn = true ∧ Ready (.hsBackfeedDetect c most) s) :=
  ⟨⟨(updCh 4 (fun y => { y with low := some 900 }) up), 4, someOf (by decide +kernel) ((readyOf (by decide +kernel)))⟩,
    ⟨up, 4, 0, 0, ⟨(by decide +kernel), (readyOf (by decide +kernel))⟩⟩,
    ⟨({ up with now := 10000000 }), 36, 0, 0, ⟨(by decide +kernel), (readyOf (by decide +kernel))⟩⟩,
    ⟨up, 4, 0, ⟨(by decide +kernel), (readyOf (by decide +kernel))⟩⟩,
    ⟨(updCh 4 (fun y => { y with st := .on }) up), 4, 0, 0, ⟨(by decide +kernel), ⟨(readyOf (by decide +kernel)),
      (readyOf (by decide +kernel))⟩⟩⟩,
    ⟨(updCh 4 (fun y => { y with st := .on }) (up)), 4, 0, ⟨(by decide +kernel), (readyOf (by decide +kernel))⟩⟩⟩

theorem wit_ChannelRecovery :
    (∃ (s : State) (c : Ch) (at_ : Nat) (most : Int), ((s.ch c).st = .tripped ∧ most ≤ 155) ∧
      let u := updCh c (fun y => { y with st := .off }) (s.reach (Nat.max at_ ((s.ch c).tripAt + retryP c s))); wantState c u = 0 ∧
      Ready (.channelRestart c at_ most) s) ∧
    (∃ (s : State) (c : Ch) (at_ : Nat) (most : Int), ((s.ch c).st = .tripped ∧ most ≤ 155) ∧
      let u := updCh c (fun y => { y with st := .off }) (s.reach (Nat.max at_ ((s.ch c).tripAt + retryP c s))); wantState c u ≠ 0 ∧
      Ready (.channelRestart c at_ most) s) ∧
    (∃ (s : State) (c : Ch) (at_ : Nat) (most : Int), ((s.ch c).st ≠ .tripped ∨ 155 < most) ∧ Ready (.channelRestart c at_ most) s) ∧
    (∃ (s : State) (c : Ch), (s.ch c).st = .latched ∧ Ready (.hsLatchedClear c) s) ∧
    (∃ (s : State) (c : Ch), (s.ch c).st ≠ .latched ∧ Ready (.hsLatchedClear c) s) ∧
    (∃ (s : State) (c : Ch), onPending c s = false ∧ chHb c = none) ∧
    (∃ (s : State) (c : Ch) (outMv : Nat) (raw : Int) (offset : Int), ((s.ch c).calDeferred = true ∧ (s.ch c).isOn = false ∧
      (s.ch c).drive = 0 ∧ outMv < 300 ∧ raw.natAbs ≤ 30) ∧ let u := s.reach (Nat.max (s.ch c).wentOff (s.ch c).calAt + msP 500);
      Ready (.senseCalRetry c outMv raw offset) s) ∧
    (∃ (s : State) (r : Requester) (c : Ch) (v : Word), (mayWrite r (chForceIx c) (noteRequest r s) = true ∧
      (valueOk (chForceIx c) v (noteRequest r s) && crossWritten (chForceIx c) v (noteRequest r s)) = true) ∧ Ready (.hsForceWrite r c v) s) :=
  ⟨⟨(updCh 4 (fun y => { y with st := .tripped }) (up)), 4, 0, 0, ⟨(by decide +kernel), ⟨(by decide +kernel), (readyOf (by decide +kernel))⟩⟩⟩,
    ⟨(updCh 4 (fun y => { y with st := .tripped, req := 1 }) up), 4, 0, 0, ⟨(by decide +kernel), ⟨(by decide +kernel),
      (readyOf (by decide +kernel))⟩⟩⟩,
    ⟨up, 4, 0, 0, ⟨(by decide +kernel), (readyOf (by decide +kernel))⟩⟩,
    ⟨(updCh 4 (fun y => { y with st := .latched }) (up)), 4, ⟨(by decide +kernel), (readyOf (by decide +kernel))⟩⟩,
    ⟨up, 4, ⟨(by decide +kernel), (readyOf (by decide +kernel))⟩⟩,
    ⟨up, 4, (by decide +kernel)⟩,
    ⟨(updCh 4 (fun y => { y with drive := 0 }) (updCh 4 (fun y => { y with calDeferred := true }) (up))), 4, 0, 0, 0, ⟨(by decide +kernel),
      (readyOf (by decide +kernel))⟩⟩,
    ⟨(withPriv 0 2 upWs), .host, 4, 0, ⟨(by decide +kernel), (readyOf (by decide +kernel))⟩⟩⟩

theorem wit_LockStrokes :
    (∃ (s : State) (h : Hb), (s.locks[h]).st = .drive ∧ ∃ (at_ : Nat), (s.locks[h]).stall = some at_ ∧ Ready (.lockEndstop h) s) ∧
    (∃ (s : State) (h : Hb), (s.locks[h]).stall = none ∧ Ready (.lockEndstop h) s) ∧
    (∃ (s : State) (h : Hb), (s.locks[h]).st = .drive ∧ Ready (.lockStrokeMax h) s) ∧
    (∃ (s : State) (h : Hb), (s.locks[h]).st = .brake ∧ Ready (.lockBrakeEnd h) s) ∧
    (∃ (s : State) (h : Hb), (s.locks[h]).waiting = none) ∧
    (∃ (s : State) (h : Hb), (s.locks[h]).st = .idle ∧ Ready (.lockEndstop h) s ∧ Ready (.lockStrokeMax h) s ∧ Ready (.lockBrakeEnd h) s) ∧
    (∃ (s : State) (h : Hb), (s.locks[h]).cooling = true ∧ ∃ (d : Nat), (s.locks[h]).waiting = some d ∧ (recentStrokes h s).length < 6 ∧
      Ready (.lockCoolingEnd h) s) ∧
    (∃ (s : State) (h : Hb), ∃ (d : Nat), (s.locks[h]).turnTo = some d ∧ (blocked (s.ch (hbCh h)) = false ∧ (s.ch (hbCh h)).isOn = true) ∧
      Ready (.hbRevBrakeEnd h) s) :=
  ⟨⟨(updLock 0 (fun y => { y with stall := some 900 }) (updLock 0 (fun y => { y with st := .drive }) (up))), 0, ⟨(by decide +kernel),
      someOf (by decide +kernel) ((readyOf (by decide +kernel)))⟩⟩,
    ⟨(updLock 0 (fun y => { y with stall := none }) (up)), 0, ⟨(by decide +kernel), (readyOf (by decide +kernel))⟩⟩,
    ⟨(updLock 0 (fun y => { y with st := .drive }) (up)), 0, ⟨(by decide +kernel), (readyOf (by decide +kernel))⟩⟩,
    ⟨(updLock 0 (fun y => { y with st := .brake }) (up)), 0, ⟨(by decide +kernel), (readyOf (by decide +kernel))⟩⟩,
    ⟨(updLock 0 (fun y => { y with waiting := none }) (up)), 0, (by decide +kernel)⟩,
    ⟨(updLock 0 (fun y => { y with st := .idle }) (up)), 0, ⟨(by decide +kernel), ⟨(readyOf (by decide +kernel)),
      ⟨(readyOf (by decide +kernel)), (readyOf (by decide +kernel))⟩⟩⟩⟩,
    ⟨(updLock 0 (fun y => { y with waiting := some 1 }) (updLock 0 (fun y => { y with cooling := true }) (up))), 0, ⟨(by decide +kernel),
      someOf (by decide +kernel) (⟨(by decide +kernel), (readyOf (by decide +kernel))⟩)⟩⟩,
    ⟨(updCh 40 (fun y => { y with st := .on }) (updLock 0 (fun y => { y with turnTo := some 1 }) up)), 0,
      someOf (by decide +kernel) (⟨(by decide +kernel), (readyOf (by decide +kernel))⟩)⟩⟩

theorem wit_StringLevels_1 :
    (∃ (s : State) (t : Str), (s.led.strs[t]).fadeLen = 0 ∧ Ready (.fadeTick t) s) ∧
    (∃ (s : State) (t : Str), (s.led.strs[t]).fadeLen ≠ 0 ∧
      let u := s.reach ((s.led.strs[t]).fadeAt + ((s.now - (s.led.strs[t]).fadeAt) / usP 100 + 1) * usP 100);
      let dt := u.now - (s.led.strs[t]).fadeAt; Ready (.fadeTick t) s) ∧
    (∃ (s : State) (t : Str), ∃ (at_ : Nat) (pos : Nat), nextPulse t s = some (at_, pos) ∧ let u := s.reach at_; Ready (.ledPulsePeriod t) s) ∧
    (∃ (s : State) (t : Str), nextPulse t s = none ∧ Ready (.ledPulsePeriod t) s) ∧
    (∃ (s : State) (t : Str), (strBlocked s.led.strs[t] = true ∨ (effLevel t s).1 = 0 ∨ above40 s = true)) ∧
    (∃ (s : State) (t : Str), strBlocked s.led.strs[t] = false ∧ (effLevel t s).1 ≠ 0 ∧ above40 s = false ∧
      strCross t s * (effLevel t s).2 ≤ 100 * (effLevel t s).1) ∧
    (∃ (s : State) (t : Str), (strBlocked s.led.strs[t] = false ∧ (effLevel t s).1 ≠ 0 ∧ above40 s = false ∧
      100 * (effLevel t s).1 < strCross t s * (effLevel t s).2) ∧
      let width := (divNear ((pulsePeriodP t s * (effLevel t s).1 * 100 : Nat) : Int) (((effLevel t s).2 * strCross t s : Nat) : Int)).toNat;
      usP 4 ≤ width ∧ usP 4 ≤ pulsePeriodP t s - width) ∧
    (∃ (s : State) (t : Str), (strBlocked s.led.strs[t] = false ∧ (effLevel t s).1 ≠ 0 ∧ above40 s = false ∧
      100 * (effLevel t s).1 < strCross t s * (effLevel t s).2) ∧
      let width := (divNear ((pulsePeriodP t s * (effLevel t s).1 * 100 : Nat) : Int) (((effLevel t s).2 * strCross t s : Nat) : Int)).toNat;
      width < usP 4 ∧ (s.led.strs[t]).carry + width < usP 4) :=
  ⟨⟨(updStr 0 (fun y => { y with fadeLen := 0 }) (up)), 0, ⟨(by decide +kernel), (readyOf (by decide +kernel))⟩⟩,
    ⟨(updStr 0 (fun y => { y with fadeLen := 1 }) (up)), 0, ⟨(by decide +kernel), (readyOf (by decide +kernel))⟩⟩,
    ⟨up, 0, pairOf (by decide +kernel) ((readyOf (by decide +kernel)))⟩,
    ⟨(wd (Ix.LED_STR_PWM 0) 0 up), 0, ⟨(by decide +kernel), (readyOf (by decide +kernel))⟩⟩,
    ⟨up, 0, (by decide +kernel)⟩,
    ⟨(updStr 0 (fun y => { y with st := .lit, level := 65535, target := 65535, d := 10000, carry := 0 }) (wd (Ix.LED_STR_ISET 0) (400 + 20 * 65536) up)),
      0, (by decide +kernel)⟩,
    ⟨(updStr 0 (fun y => { y with st := .lit, level := 6553, target := 6553, d := 10000, carry := 0 }) (wd (Ix.LED_STR_ISET 0) (400 + 20 * 65536) up)),
      0, ⟨(by decide +kernel), (by decide +kernel)⟩⟩,
    ⟨(updStr 0 (fun y => { y with st := .lit, level := 1, target := 1, d := 10000, carry := 0 }) (wd (Ix.LED_STR_ISET 0) (400 + 20 * 65536) up)),
      0, ⟨(by decide +kernel), (by decide +kernel)⟩⟩⟩

theorem wit_StringLevels_2 :
    (∃ (s : State) (t : Str), (strBlocked s.led.strs[t] = false ∧ (effLevel t s).1 ≠ 0 ∧ above40 s = false ∧
      100 * (effLevel t s).1 < strCross t s * (effLevel t s).2) ∧
      let width := (divNear ((pulsePeriodP t s * (effLevel t s).1 * 100 : Nat) : Int) (((effLevel t s).2 * strCross t s : Nat) : Int)).toNat;
      width < usP 4 ∧ usP 4 ≤ (s.led.strs[t]).carry + width) ∧
    (∃ (s : State) (at_ : Nat), let u := s.reach at_; ((cornerEval u).active = s.led.corner.active ∧ (cornerEval u).left = s.led.corner.left ∧
      (cornerEval u).right = s.led.corner.right) ∧ Ready (.corneringUpdate at_) s) ∧
    (∃ (s : State) (at_ : Nat) (t : Str), let u := s.reach at_;
      (((cornerEval u).active ≠ s.led.corner.active ∨ (cornerEval u).left ≠ s.led.corner.left ∨ (cornerEval u).right ≠ s.led.corner.right) ∧
      (s.led.corner.lastStep = 0 ∨ s.led.corner.lastStep + msP 100 ≤ u.now) ∧ t.val = u.fld Ix.LED_CORNER_CFG 0 2) ∧
      Ready (.corneringUpdate at_) s) :=
  ⟨⟨(updStr 0 (fun y => { y with st := .lit, level := 1, target := 1, d := 10000, carry := 159 }) (wd (Ix.LED_STR_ISET 0) (400 + 20 * 65536) up)),
      0, ⟨(by decide +kernel), (by decide +kernel)⟩⟩,
    ⟨up, 0, ⟨(by decide +kernel), (readyOf (by decide +kernel))⟩⟩,
    ⟨({ up with led := { up.led with corner := { up.led.corner with active := true } } }), 0, 0, ⟨(by decide +kernel),
      (readyOf (by decide +kernel))⟩⟩⟩

theorem wit_StringScenes_1 :
    (∃ (s : State) (slot : Nat) (k : Nat) (t : Str), ∃ (e : Event) (u : State), takeEvent slot s = some (e, u) ∧ e.spec.act = .ledScene t k ∧
      Ready (.eventLedScene slot) s) ∧
    (∃ (s : State) (t : Str), (s.led.strs[t]).st ≠ .disabled) ∧
    (∃ (s : State) (t : Str) (k : Nat), k ≠ 0xF9 ∧ k ≠ 0xFA ∧ ((s.led.strs[t]).st = .disabled ∨ (strForce t s ≠ 0 ∧ k ≠ 0xF8))) ∧
    (∃ (s : State) (t : Str) (k : Nat), k < 0xF8 ∧ (s.led.strs[t]).st ≠ .disabled ∧ strForce t s = 0) ∧
    (∃ (mask : Nat) (x : StringS), strBlocked x = false ∧ mask < 65536) ∧
    (∃ (s : State) (slot : Nat) (m : Nat) (t : Str), ∃ (e : Event) (u : State), takeEvent slot s = some (e, u) ∧ (e.spec.act = .ledStep t m ∧
      (u.led.strs[t]).st ≠ .disabled ∧ strForce t u = 0) ∧ Ready (.eventLedStep slot) s) ∧
    (∃ (s : State) (slot : Nat) (m : Nat) (t : Str), ∃ (e : Event) (u : State), takeEvent slot s = some (e, u) ∧ (e.spec.act = .ledStep t m ∧
      ((u.led.strs[t]).st = .disabled ∨ strForce t u ≠ 0)) ∧ Ready (.eventLedStep slot) s) ∧
    (∃ (s : State), s.modes.mode = .park ∧ Ready .overlayRead s) :=
  ⟨⟨(withEvents (up) [ev0 (.ledScene 0 0) true]), 0, 0, 0, pairOf (by decide +kernel) (⟨(by decide +kernel), (readyOf (by decide +kernel))⟩)⟩,
    ⟨(updStr 0 (fun y => { y with st := .lit }) (up)), 0, (by decide +kernel)⟩,
    ⟨(updStr 0 (fun y => { y with st := .disabled }) (up)), 0, 0, (by decide +kernel)⟩,
    ⟨(updStr 0 (fun y => { y with st := .lit }) (up)), 0, 0, (by decide +kernel)⟩,
    ⟨0, (lit0.led.strs[(0 : Str)]), (by decide +kernel)⟩,
    ⟨(updStr 0 (fun y => { y with st := .lit }) (evUp (.ledStep 0 1) true)), 0, 1, 0, pairOf (by decide +kernel) (⟨(by decide +kernel),
      (readyOf (by decide +kernel))⟩)⟩,
    ⟨(evUp (.ledStep 0 1) true), 0, 1, 0, pairOf (by decide +kernel) (⟨(by decide +kernel), (readyOf (by decide +kernel))⟩)⟩,
    ⟨(inMode .park (up)), ⟨(by decide +kernel), (readyOf (by decide +kernel))⟩⟩⟩

theorem wit_StringScenes_2 :
    (∃ (s : State), s.modes.mode ≠ .park ∧ let v := s.reach (nextMs s);
      let u : State := (List.range 4).foldl (fun a k => condFault 0x423 k (((List.range 4).map fun k => overlayValue k v).getD k (false, false)).2 a) { v with led := { v.led with ovl := (List.range 4).map fun k => overlayValue k v } };
      (blinkWanted u = u.led.blink ∧ failFast (blinkWanted u) u = u.led.fast ∧ brakeOn v = brakeOn u) ∧ Ready .overlayRead s) ∧
    (∃ (s : State) (k : _), s.modes.mode ≠ .park ∧ let v := s.reach (nextMs s);
      let u : State := (List.range 4).foldl (fun a k => condFault 0x423 k (((List.range 4).map fun k => overlayValue k v).getD k (false, false)).2 a) { v with led := { v.led with ovl := (List.range 4).map fun k => overlayValue k v } };
      ((blinkWanted u ≠ u.led.blink ∨ failFast (blinkWanted u) u ≠ u.led.fast) ∧ blinkWanted u = some k) ∧
      let w := startCycle k (failFast (blinkWanted u) u) (endCycle u); brakeOn v = brakeOn w ∧ Ready .overlayRead s) ∧
    (∃ (s : State), s.modes.mode ≠ .park ∧ let v := s.reach (nextMs s);
      let u : State := (List.range 4).foldl (fun a k => condFault 0x423 k (((List.range 4).map fun k => overlayValue k v).getD k (false, false)).2 a) { v with led := { v.led with ovl := (List.range 4).map fun k => overlayValue k v } };
      ((blinkWanted u ≠ u.led.blink ∨ failFast (blinkWanted u) u ≠ u.led.fast) ∧ blinkWanted u = none ∧ brakeOn v = brakeOn (endCycle u)) ∧
      Ready .overlayRead s) ∧
    (∃ (s : State) (r : Requester) (t : Str) (v : Word), (mayWrite r (Ix.LED_FORCE t.val) (noteRequest r s) = true ∧
      (valueOk (Ix.LED_FORCE t.val) v (noteRequest r s) && crossWritten (Ix.LED_FORCE t.val) v (noteRequest r s)) = true) ∧
      Ready (.ledForceWrite r t v) s) :=
  ⟨⟨up, ⟨(by decide +kernel), ⟨(by decide +kernel), (readyOf (by decide +kernel))⟩⟩⟩,
    ⟨(wd (Ix.LED_OVL_SRC 0) 0x7FF (wd (Ix.LED_OVL_SRC 1) 0 (wd (Ix.LED_OVL_SRC 2) 0x7FF (wd (Ix.LED_OVL_SRC 3) 0x7FF (sigOne up))))), 1,
      ⟨(by decide +kernel), ⟨(by decide +kernel), ⟨(by decide +kernel), (readyOf (by decide +kernel))⟩⟩⟩⟩,
    ⟨({ up with led := { up.led with blink := some 1 } }), ⟨(by decide +kernel), ⟨(by decide +kernel), (readyOf (by decide +kernel))⟩⟩⟩,
    ⟨(withPriv 0 2 upWs), .host, 0, 0, ⟨(by decide +kernel), (readyOf (by decide +kernel))⟩⟩⟩

theorem wit_StringDetections_1 :
    (∃ (s : State) (t : Str) (least : Nat) (most : Nat) (us : Nat), (converterOn t s = true ∧ 58000 ≤ least ∧ 2 * most < strCurrent t s ∧
      100 ≤ us) ∧ Ready (.ledStrOpenDetect t least most us) s) ∧
    (∃ (s : State) (t : Str) (excess : Nat) (us : Nat), (converterOn t s = true ∧ s.fld (Ix.LED_STR_ISET t.val) 0 11 < 5 * excess ∧ 20 ≤ us) ∧
      Ready (.ledStrShortDetect t excess us) s) ∧
    (∃ (s : State) (t : Str) (temp : Int), (175 ≤ temp ∧ ((s.led.strs[t]).st = .lit ∨ (s.led.strs[t]).st = .dark)) ∧
      Ready (.ledThermalDetect t temp) s) ∧
    (∃ (s : State) (t : Str) (least : Nat) (most : Nat) (excess : Nat) (us : Nat), converterOn t s = false ∧
      Ready (.ledStrOpenDetect t least most us) s ∧ Ready (.ledStrShortDetect t excess us) s) ∧
    (∃ (s : State) (t : Str) (temp : Int), temp < 175 ∧ Ready (.ledThermalDetect t temp) s) ∧
    (∃ (s : State) (t : Str) (p : Fin 16) (least : Nat) (us : Nat), (positionLit t p s = true ∧ 8000 < least ∧ 2 ≤ us) ∧
      Ready (.ledPosOpenDetect t p least us) s) ∧
    (∃ (s : State) (t : Str) (p : Fin 16) (least : Nat) (us : Nat), positionLit t p s = false ∧ Ready (.ledPosOpenDetect t p least us) s) ∧
    (∃ (s : State) (t : Str) (least : Nat), (converterOn t s = false ∧ (s.led.strs[t]).st ≠ .disabled) ∧
      Ready (.ledStrShortBatDetect t least) s) :=
  ⟨⟨lit0, 0, 58000, 0, 100, ⟨(by decide +kernel), (readyOf (by decide +kernel))⟩⟩,
    ⟨lit0, 0, 400, 20, ⟨(by decide +kernel), (readyOf (by decide +kernel))⟩⟩,
    ⟨(updStr 0 (fun y => { y with st := .lit }) (up)), 0, 175, ⟨(by decide +kernel), (readyOf (by decide +kernel))⟩⟩,
    ⟨up, 0, 0, 0, 0, 0, ⟨(by decide +kernel), ⟨(readyOf (by decide +kernel)), (readyOf (by decide +kernel))⟩⟩⟩,
    ⟨up, 0, 0, ⟨(by decide +kernel), (readyOf (by decide +kernel))⟩⟩,
    ⟨lit0, 0, 0, 8001, 2, ⟨(by decide +kernel), (readyOf (by decide +kernel))⟩⟩,
    ⟨up, 0, 0, 0, 0, ⟨(by decide +kernel), (readyOf (by decide +kernel))⟩⟩,
    ⟨(updStr 0 (fun y => { y with st := .lit }) (up)), 0, 0, ⟨(by decide +kernel), (readyOf (by decide +kernel))⟩⟩⟩

theorem wit_StringDetections_2 :
    (∃ (s : State) (t : Str) (at_ : Nat) (most : Int), ((s.led.strs[t]).st = .tripped ∧ most ≤ 155) ∧
      let u := updStr t (fun y => { y with st := .dark }) (s.reach (Nat.max at_ ((s.led.strs[t]).tripAt + msP 100))); (composeNow t u).2.1 = 0 ∧
      Ready (.stringRestart t at_ most) s) ∧
    (∃ (s : State) (t : Str) (at_ : Nat) (most : Int), ((s.led.strs[t]).st = .tripped ∧ most ≤ 155) ∧
      let u := updStr t (fun y => { y with st := .dark }) (s.reach (Nat.max at_ ((s.led.strs[t]).tripAt + msP 100))); (composeNow t u).2.1 ≠ 0 ∧
      Ready (.stringRestart t at_ most) s) ∧
    (∃ (s : State) (t : Str) (at_ : Nat) (most : Int), ((s.led.strs[t]).st ≠ .tripped ∨ 155 < most) ∧ Ready (.stringRestart t at_ most) s) ∧
    (∃ (s : State) (t : Str), (s.led.strs[t]).st = .latched ∧ Ready (.ledLatchedClear t) s) ∧
    (∃ (s : State) (t : Str), (s.led.strs[t]).st ≠ .latched ∧ Ready (.ledLatchedClear t) s) ∧
    (∃ (s : State) (t : Str) (n00Mv : Nat) (raw : Int) (offset : Int), ((s.led.strs[t]).calDeferred = true ∧ (s.led.strs[t]).st ≠ .lit ∧
      (s.led.strs[t]).st ≠ .disabled) ∧ let u := s.reach (Nat.max (s.led.strs[t]).wentDark (s.led.strs[t]).calAt + msP 500);
      Ready (.ledCalRetry t n00Mv raw offset) s) ∧
    (∃ (n00Mv : Nat) (raw : Int), n00Mv < 300 ∧ raw.natAbs ≤ 30) :=
  ⟨⟨(updStr 0 (fun y => { y with st := .tripped }) (up)), 0, 0, 0, ⟨(by decide +kernel), ⟨(by decide +kernel), (readyOf (by decide +kernel))⟩⟩⟩,
    ⟨(updStr 0 (fun y => { y with st := .tripped }) (wd (Ix.LED_FORCE 0) 3 upWs)), 0, 0, 0, ⟨(by decide +kernel), ⟨(by decide +kernel),
      (readyOf (by decide +kernel))⟩⟩⟩,
    ⟨up, 0, 0, 0, ⟨(by decide +kernel), (readyOf (by decide +kernel))⟩⟩,
    ⟨(updStr 0 (fun y => { y with st := .latched }) (up)), 0, ⟨(by decide +kernel), (readyOf (by decide +kernel))⟩⟩,
    ⟨up, 0, ⟨(by decide +kernel), (readyOf (by decide +kernel))⟩⟩,
    ⟨(updStr 0 (fun y => { y with calDeferred := true, st := .dark }) up), 0, 0, 0, 0, ⟨(by decide +kernel), (readyOf (by decide +kernel))⟩⟩,
    ⟨0, 0, (by decide +kernel)⟩⟩

theorem wit_BridgeStarts_1 :
    (∃ (s : State) (slot : Nat) (k : Nat) (b : Mot), ∃ (e : Event) (u : State), takeEvent slot s = some (e, u) ∧ e.spec.act = .motCmd b k ∧
      ∃ (c : MotCmd), (u.br b).slots.lookup k = some c ∧ c.quantity < 0x10 ∧ Ready (.eventMotCmd slot) s) ∧
    (∃ (s : State) (slot : Nat) (k : Nat) (b : Mot), ∃ (e : Event) (u : State), takeEvent slot s = some (e, u) ∧ (e.spec.act = .motCmd b k ∧
      (u.br b).slots.lookup k = none) ∧ Ready (.eventMotCmd slot) s) ∧
    (∃ (s : State) (b : Mot) (emfMv : Nat) (angle : Nat) (speed : Int), (s.br b).st = .catch_ ∧
      let u := s.reach ((s.br b).since + msP (s.fld (Ix.MOT_START b.val) 24 8)); ((decide (200 ≤ emfMv) && turningAt b speed u) = true ∧
      motDecelerates (s.br b) = false ∧ decide (speed < 0) = (s.br b).back) ∧ Ready (.motCatchDone b emfMv angle speed) s) ∧
    (∃ (s : State) (b : Mot) (emfMv : Nat) (angle : Nat) (speed : Int), (s.br b).st = .catch_ ∧
      let u := s.reach ((s.br b).since + msP (s.fld (Ix.MOT_START b.val) 24 8)); ((decide (200 ≤ emfMv) && turningAt b speed u) = true ∧
      motDecelerates (s.br b) = false ∧ decide (speed < 0) ≠ (s.br b).back) ∧ Ready (.motCatchDone b emfMv angle speed) s) ∧
    (∃ (s : State) (b : Mot) (emfMv : Nat) (angle : Nat) (speed : Int), (s.br b).st = .catch_ ∧
      let u := s.reach ((s.br b).since + msP (s.fld (Ix.MOT_START b.val) 24 8)); ((decide (200 ≤ emfMv) && turningAt b speed u) = true ∧
      motDecelerates (s.br b) = true) ∧ Ready (.motCatchDone b emfMv angle speed) s) ∧
    (∃ (s : State) (b : Mot) (emfMv : Nat) (angle : Nat) (speed : Int), (s.br b).st = .catch_ ∧
      let u := s.reach ((s.br b).since + msP (s.fld (Ix.MOT_START b.val) 24 8)); ((decide (200 ≤ emfMv) && turningAt b speed u) = false ∧
      motDecelerates (s.br b) = true) ∧ Ready (.motCatchDone b emfMv angle speed) s) ∧
    (∃ (s : State) (b : Mot) (emfMv : Nat) (angle : Nat) (speed : Int), (s.br b).st = .catch_ ∧
      let u := s.reach ((s.br b).since + msP (s.fld (Ix.MOT_START b.val) 24 8)); ((decide (200 ≤ emfMv) && turningAt b speed u) = false ∧
      motDecelerates (s.br b) = false) ∧ Ready (.motCatchDone b emfMv angle speed) s) ∧
    (∃ (s : State) (b : Mot) (emfMv : Nat) (angle : Nat) (speed : Int), (s.br b).st ≠ .catch_ ∧ Ready (.motCatchDone b emfMv angle speed) s) :=
  ⟨⟨(updBr 0 (fun y => { y with slots := [(0, { quantity := 1, value := 0 })] }) (evUp (.motCmd 0 0) true)), 0, 0, 0,
      pairOf (by decide +kernel) (⟨(by decide +kernel), someOf (by decide +kernel) (⟨(by decide +kernel), (readyOf (by decide +kernel))⟩)⟩)⟩,
    ⟨(withEvents (up) [ev0 (.motCmd 0 0) true]), 0, 0, 0, pairOf (by decide +kernel) (⟨(by decide +kernel), (readyOf (by decide +kernel))⟩)⟩,
    ⟨(updBr 0 (fun y => { y with st := .catch_, toStop := false }) up), 0, 200, 0, 500000, ⟨(by decide +kernel), ⟨(by decide +kernel),
      (readyOf (by decide +kernel))⟩⟩⟩,
    ⟨(updBr 0 (fun y => { y with st := .catch_, toStop := false }) up), 0, 200, 0, -500000, ⟨(by decide +kernel), ⟨(by decide +kernel),
      (readyOf (by decide +kernel))⟩⟩⟩,
    ⟨(updBr 0 (fun y => { y with st := .catch_, toStop := true }) up), 0, 200, 0, 500000, ⟨(by decide +kernel), ⟨(by decide +kernel),
      (readyOf (by decide +kernel))⟩⟩⟩,
    ⟨(updBr 0 (fun y => { y with st := .catch_, toStop := true }) up), 0, 0, 0, 0, ⟨(by decide +kernel), ⟨(by decide +kernel),
      (readyOf (by decide +kernel))⟩⟩⟩,
    ⟨(updBr 0 (fun y => { y with st := .catch_ }) (up)), 0, 0, 0, 0, ⟨(by decide +kernel), ⟨(by decide +kernel),
      (readyOf (by decide +kernel))⟩⟩⟩,
    ⟨up, 0, 0, 0, 0, ⟨(by decide +kernel), (readyOf (by decide +kernel))⟩⟩⟩

theorem wit_BridgeStarts_2 :
    (∃ (s : State) (b : Mot), ((s.br b).st = .brake ∧ (s.br b).stillBrake = true) ∧ Ready (.motStillBrakeDone b) s) ∧
    (∃ (s : State) (b : Mot), ((s.br b).st ≠ .brake ∨ (s.br b).stillBrake = false) ∧ Ready (.motStillBrakeDone b) s) ∧
    (∃ (s : State) (b : Mot), (s.br b).st = .align ∧ Ready (.motAlignDone b) s) ∧
    (∃ (s : State) (b : Mot), (s.br b).st ≠ .align ∧ Ready (.motAlignDone b) s) ∧
    (∃ (s : State) (b : Mot) (err : Nat) (angle : Nat) (speed : Int), ((s.br b).st = .forced ∧ motDecelerates (s.br b) = false ∧
      motHandoff b s ≤ (s.br b).ref.natAbs ∧ err ≤ 2048) ∧ Ready (.motHandoff b err angle speed) s) ∧
    (∃ (s : State) (b : Mot) (err : Nat) (angle : Nat) (speed : Int), (2048 < err ∨ (s.br b).st ≠ .forced) ∧
      Ready (.motHandoff b err angle speed) s) ∧
    (∃ (s : State) (b : Mot), ((s.br b).st = .forced ∧ motDecelerates (s.br b) = false) ∧ Ready (.motHandoffTimeout b) s) ∧
    (∃ (s : State) (b : Mot), (s.br b).st ≠ .forced ∧ Ready (.motHandoffTimeout b) s) :=
  ⟨⟨(updBr 0 (fun y => { y with stillBrake := true }) (updBr 0 (fun y => { y with st := .brake }) (up))), 0, ⟨(by decide +kernel),
      (readyOf (by decide +kernel))⟩⟩,
    ⟨up, 0, ⟨(by decide +kernel), (readyOf (by decide +kernel))⟩⟩,
    ⟨(updBr 0 (fun y => { y with st := .align }) (up)), 0, ⟨(by decide +kernel), (readyOf (by decide +kernel))⟩⟩,
    ⟨up, 0, ⟨(by decide +kernel), (readyOf (by decide +kernel))⟩⟩,
    ⟨(updBr 0 (fun y => { y with st := .forced, ref := 1000000 }) up), 0, 2048, 0, 0, ⟨(by decide +kernel), (readyOf (by decide +kernel))⟩⟩,
    ⟨up, 0, 0, 0, 0, ⟨(by decide +kernel), (readyOf (by decide +kernel))⟩⟩,
    ⟨(updBr 0 (fun y => { y with st := .forced }) (up)), 0, ⟨(by decide +kernel), (readyOf (by decide +kernel))⟩⟩,
    ⟨up, 0, ⟨(by decide +kernel), (readyOf (by decide +kernel))⟩⟩⟩

theorem wit_BridgeStarts_3 :
    (∃ (s : State) (b : Mot), (s.br b).holdBrake = true ∧ ∃ (d : Bool), (s.br b).reversal = some d ∧ Ready (.motReversalHoldEnd b) s) ∧
    (∃ (s : State) (b : Mot), (s.br b).holdBrake = false ∧ Ready (.motReversalHoldEnd b) s) ∧
    (∃ (s : State) (b : Mot) (t : Nat) (v : Nat) (volt : Nat) (turn : Int) (iq : Int) (id : Int) (ps : List (Nat × Int)) (pk : Option Nat),
      ((s.br b).next = [] ∧ (s.br b).st ≠ .forced ∧ (s.br b).st ≠ .align ∧ ((s.br b).st ≠ .run ∨ turn ≤ 0)) ∧
      Ready (.motPwmPeriod (.bridge b t v turn iq id volt ps pk)) s) ∧
    (∃ (s : State) (h : Hb) (t : Nat) (v : Nat) (d : Int), hbMode h s ≠ 2 ∧ Ready (.motPwmPeriod (.brushed h t v d)) s) ∧
    (∃ (s : State) (h : Hb) (t : Nat) (v : Nat) (d : Int), hbMode h s = 2 ∧ Ready (.motPwmPeriod (.brushed h t v d)) s) ∧
    (∃ (s : State) (h : Hb) (goal : Int), let x := (brushRamp h goal s).mot.brushed[h]; ((s.mot.brushed[h]).watch = .clear ∧
      s.fld (Ix.MOT_BR_CFG h.val) 16 16 = 0 ∧ 0 ≤ goal ∧ 0 ≤ (s.mot.brushed[h]).duty ∧ goal ≤ 32767 ∧ (s.mot.brushed[h]).duty ≤ 32767)) :=
  ⟨⟨(updBr 0 (fun y => { y with st := .brake, holdBrake := true, reversal := some true }) up), 0, ⟨(by decide +kernel),
      someOf (by decide +kernel) ((readyOf (by decide +kernel)))⟩⟩,
    ⟨(updBr 0 (fun y => { y with holdBrake := false }) (up)), 0, ⟨(by decide +kernel), (readyOf (by decide +kernel))⟩⟩,
    ⟨(updBr 0 (fun y => { y with next := [] }) (up)), 0, 0, 0, 0, 0, 0, 0, [], none, ⟨(by decide +kernel), (readyOf (by decide +kernel))⟩⟩,
    ⟨up, 0, 0, 0, 0, ⟨(by decide +kernel), (readyOf (by decide +kernel))⟩⟩,
    ⟨(wd (Ix.HB_CFG 0) 0x200 up), 0, 0, 0, 0, ⟨(by decide +kernel), (readyOf (by decide +kernel))⟩⟩,
    ⟨(wd (Ix.MOT_BR_CFG 0) 0 up), 0, 0, (by decide +kernel)⟩⟩

theorem wit_BridgeRunsAndStops_1 :
    (∃ (s : State) (b : Mot) (at_ : Nat) (speed : Int), ((s.br b).st ≠ .run ∧ (s.br b).st ≠ .forced) ∧ Ready (.motSpeedLoopTick b at_ speed) s) ∧
    (∃ (s : State) (b : Mot) (at_ : Nat) (speed : Int) (v : Int), (s.br b).st = .run ∧
      let u := updBr b (fun x => { x with speed := speed }) (s.reach at_); (motTarget b u = .speed v ∧ motFactor b u ≠ 0) ∧
      Ready (.motSpeedLoopTick b at_ speed) s) ∧
    (∃ (s : State) (b : Mot) (at_ : Nat) (speed : Int), ((s.br b).st = .forced ∧ motDecelerates (s.br b) = false) ∧
      let u := updBr b (fun x => { x with speed := speed }) (s.reach at_); Ready (.motSpeedLoopTick b at_ speed) s) ∧
    (∃ (s : State) (b : Mot) (speed : Int), ((s.br b).st = .run ∧ motDecelerates (s.br b) = true ∧ turningAt b speed s = false) ∧
      let u := updBr b (fun x => { x with speed := speed, ref := speed * 1000 }) s; (s.br b).caught = false ∧ Ready (.motForcedEntry b speed) s) ∧
    (∃ (s : State) (b : Mot) (speed : Int), ((s.br b).st = .run ∧ motDecelerates (s.br b) = true ∧ turningAt b speed s = false) ∧
      let u := updBr b (fun x => { x with speed := speed, ref := speed * 1000 }) s; (s.br b).caught = true ∧ ∃ d, (s.br b).reversal = some d ∧
      Ready (.motForcedEntry b speed) s) ∧
    (∃ (s : State) (b : Mot), ((s.br b).st = .forced ∧ motDecelerates (s.br b) = true) ∧ Ready (.motForcedStop b) s) ∧
    (∃ (s : State) (b : Mot), ((s.br b).st = .brake ∧ (s.br b).stillBrake = false ∧ (s.br b).holdBrake = false ∧ (s.br b).watch ≠ .shortBrake ∧
      s.modes.mode = .watch) ∧ Ready (.motHoldTimeout b) s) ∧
    (∃ (s : State) (b : Mot), s.modes.mode ≠ .watch ∧ Ready (.motHoldTimeout b) s) :=
  ⟨⟨up, 0, 0, 0, ⟨(by decide +kernel), (readyOf (by decide +kernel))⟩⟩,
    ⟨(updBr 0 (fun y => { y with st := .run, sp := .speed 65536000 }) up), 0, 0, 0, 65536000, ⟨(by decide +kernel), ⟨(by decide +kernel),
      (readyOf (by decide +kernel))⟩⟩⟩,
    ⟨(updBr 0 (fun y => { y with st := .forced }) (up)), 0, 0, 0, ⟨(by decide +kernel), (readyOf (by decide +kernel))⟩⟩,
    ⟨(updBr 0 (fun y => { y with st := .run, toStop := true }) up), 0, 0, ⟨(by decide +kernel), ⟨(by decide +kernel),
      (readyOf (by decide +kernel))⟩⟩⟩,
    ⟨(updBr 0 (fun y => { y with st := .run, caught := true, reversal := some true }) up), 0, 0, ⟨(by decide +kernel), ⟨(by decide +kernel),
      someOf (by decide +kernel) ((readyOf (by decide +kernel)))⟩⟩⟩,
    ⟨(updBr 0 (fun y => { y with st := .forced, toStop := true }) up), 0, ⟨(by decide +kernel), (readyOf (by decide +kernel))⟩⟩,
    ⟨(inMode .watch (updBr 0 (fun y => { y with holdBrake := false }) (updBr 0 (fun y => { y with stillBrake := false }) (updBr 0 (fun y => { y with st := .brake }) (up))))),
      0, ⟨(by decide +kernel), (readyOf (by decide +kernel))⟩⟩,
    ⟨(inMode .ride up), 0, ⟨(by decide +kernel), (readyOf (by decide +kernel))⟩⟩⟩

theorem wit_BridgeRunsAndStops_2 :
    (∃ (s : State) (b : Mot) (least : Nat) (most : Nat), watchActive (s.br b) = false ∧ Ready (.motSupplyWatchBand b least most) s) ∧
    (∃ (s : State) (b : Mot) (least : Nat) (most : Nat), (watchActive (s.br b) = true ∧ s.band ≠ .jump ∧ (s.br b).watch = .slow ∧
      1650 < least) ∧ Ready (.motSupplyWatchBand b least most) s) ∧
    (∃ (s : State) (b : Mot) (least : Nat) (most : Nat), (watchActive (s.br b) = true ∧ s.band = .jump ∧ (s.br b).watch ≠ .shortBrake) ∧
      Ready (.motSupplyWatchBand b least most) s) ∧
    (∃ (s : State) (b : Mot) (least : Nat), ((s.br b).homing = true ∧ ((s.br b).st = .run ∨ (s.br b).st = .forced) ∧
      s.fld (Ix.MOT_POS_HOME b.val) 16 8 * 10 < least) ∧ Ready (.motHomeStall b least) s) ∧
    (∃ (s : State) (b : Mot) (least : Nat), ((s.br b).homing = false ∨ least ≤ s.fld (Ix.MOT_POS_HOME b.val) 16 8 * 10) ∧
      Ready (.motHomeStall b least) s) ∧
    (∃ (s : State) (b : Mot), ((s.br b).homing = true ∧
      ((150 * s.fld (Ix.MOT_POS_SCALE b.val) 16 16 * 65536 : Nat) : Int) ≤ ((s.br b).homeStart - (s.br b).count) * (s.fld (Ix.MOT_POS_SCALE b.val) 0 16 : Int)) ∧
      Ready (.motHomeFail b) s) ∧
    (∃ (s : State) (b : Mot), (s.br b).homing = false ∧ Ready (.motHomeFail b) s) :=
  ⟨⟨up, 0, 0, 0, ⟨(by decide +kernel), (readyOf (by decide +kernel))⟩⟩,
    ⟨(updBr 0 (fun y => { y with st := .run, toStop := true, watch := .slow }) up), 0, 1651, 0, ⟨(by decide +kernel),
      (readyOf (by decide +kernel))⟩⟩,
    ⟨({ updBr 0 (fun y => { y with st := .run, toStop := true }) up with band := .jump }), 0, 0, 0, ⟨(by decide +kernel),
      (readyOf (by decide +kernel))⟩⟩,
    ⟨(updBr 0 (fun y => { y with st := .run, homing := true }) up), 0, 2551, ⟨(by decide +kernel), (readyOf (by decide +kernel))⟩⟩,
    ⟨(updBr 0 (fun y => { y with homing := false }) (up)), 0, 0, ⟨(by decide +kernel), (readyOf (by decide +kernel))⟩⟩,
    ⟨(updBr 0 (fun y => { y with homing := true }) (up)), 0, ⟨(by decide +kernel), (readyOf (by decide +kernel))⟩⟩,
    ⟨(updBr 0 (fun y => { y with homing := false }) (up)), 0, ⟨(by decide +kernel), (readyOf (by decide +kernel))⟩⟩⟩

theorem wit_BridgeDetections_1 :
    (∃ (s : State) (b : Mot) (ma : Nat) (us : Nat), ((if b.val = 0 then 40000 else 15000) < ma ∧ 2 ≤ us) ∧ Ready (.motShortDetect b ma us) s) ∧
    (∃ (s : State) (b : Mot) (ma : Nat) (us : Nat), (ma ≤ (if b.val = 0 then 40000 else 15000) ∨ us < 2) ∧ Ready (.motShortDetect b ma us) s) ∧
    (∃ (s : State) (b : Mot), ∃ (t : Nat), (s.br b).peakSince = some t ∧ Ready (.motPeakTrip b) s) ∧
    (∃ (s : State) (b : Mot), (s.br b).peakSince = none ∧ Ready (.motPeakTrip b) s) ∧
    (∃ (s : State) (b : Mot) (temp : Int), 175 ≤ temp ∧ Ready (.motThermalDetect b temp) s) ∧
    (∃ (s : State) (b : Mot) (temp : Int), temp < 175 ∧ Ready (.motThermalDetect b temp) s) ∧
    (∃ (s : State) (b : Mot), (s.br b).st.drives = false) ∧
    (∃ (s : State) (b : Mot), (s.br b).st.drives = true) :=
  ⟨⟨up, 0, 40001, 2, ⟨(by decide +kernel), (readyOf (by decide +kernel))⟩⟩,
    ⟨up, 0, 0, 0, ⟨(by decide +kernel), (readyOf (by decide +kernel))⟩⟩,
    ⟨(updBr 0 (fun y => { y with peakSince := some 900 }) (up)), 0, someOf (by decide +kernel) ((readyOf (by decide +kernel)))⟩,
    ⟨(updBr 0 (fun y => { y with peakSince := none }) (up)), 0, ⟨(by decide +kernel), (readyOf (by decide +kernel))⟩⟩,
    ⟨up, 0, 175, ⟨(by decide +kernel), (readyOf (by decide +kernel))⟩⟩,
    ⟨up, 0, 0, ⟨(by decide +kernel), (readyOf (by decide +kernel))⟩⟩,
    ⟨up, 0, (by decide +kernel)⟩,
    ⟨(updBr 0 (fun y => { y with st := .run }) up), 0, (by decide +kernel)⟩⟩

theorem wit_BridgeDetections_2 :
    (∃ (s : State) (b : Mot) (err : Nat), ((s.br b).st = .run ∧ 4096 < err) ∧
      let ls := s.now :: (s.br b).losses.filter fun t => decide (s.now ≤ t + secP 10);
      let u := (updBr b (fun y => { y with losses := ls }) s).bump (Ix.MOT_COUNTS b.val) 8 8; ls.length < 3 ∧ Ready (.motObserverLoss b err) s) ∧
    (∃ (s : State) (b : Mot) (err : Nat), ((s.br b).st = .run ∧ 4096 < err) ∧
      let ls := s.now :: (s.br b).losses.filter fun t => decide (s.now ≤ t + secP 10);
      let u := (updBr b (fun y => { y with losses := ls }) s).bump (Ix.MOT_COUNTS b.val) 8 8; 3 ≤ ls.length ∧ Ready (.motObserverLoss b err) s) ∧
    (∃ (s : State) (b : Mot) (err : Nat), ((s.br b).st ≠ .run ∨ err ≤ 4096) ∧ Ready (.motObserverLoss b err) s) ∧
    (∃ (s : State) (b : Mot) (least : Nat) (others : Nat), ((s.br b).st.drives = true ∧ least * 20 < others ∧
      motPeak b s < 10 * (s.br b).iq.natAbs) ∧ Ready (.motPhaseOpenDetect b least others) s) ∧
    (∃ (s : State) (b : Mot) (at_ : Nat) (most : Int), ((s.br b).st = .tripped ∧ most ≤ 155) ∧
      let u := enterBr b .off (s.reach (Nat.max at_ ((s.br b).tripAt + msP (10 * s.fld (Ix.MOT_CFG b.val) 24 8)))); (∀ back,
      motWant b u ≠ .turn back) ∧ Ready (.motRestart b at_ most) s) ∧
    (∃ (s : State) (b : Mot) (at_ : Nat) (most : Int) (back : _), ((s.br b).st = .tripped ∧ most ≤ 155) ∧
      let u := enterBr b .off (s.reach (Nat.max at_ ((s.br b).tripAt + msP (10 * s.fld (Ix.MOT_CFG b.val) 24 8)))); motWant b u = .turn back ∧
      Ready (.motRestart b at_ most) s) ∧
    (∃ (s : State) (b : Mot) (at_ : Nat) (most : Int), ((s.br b).st ≠ .tripped ∨ 155 < most) ∧ Ready (.motRestart b at_ most) s) ∧
    (∃ (s : State) (b : Mot), (s.br b).st = .latched ∧ Ready (.motLatchedClear b) s) :=
  ⟨⟨(updBr 0 (fun y => { y with st := .run }) (up)), 0, 4097, ⟨(by decide +kernel), ⟨(by decide +kernel), (readyOf (by decide +kernel))⟩⟩⟩,
    ⟨(updBr 0 (fun y => { y with st := .run, losses := [900, 800] }) up), 0, 4097, ⟨(by decide +kernel), ⟨(by decide +kernel),
      (readyOf (by decide +kernel))⟩⟩⟩,
    ⟨up, 0, 0, ⟨(by decide +kernel), (readyOf (by decide +kernel))⟩⟩,
    ⟨(updBr 0 (fun y => { y with st := .run, iq := 5000 }) up), 0, 1, 21, ⟨(by decide +kernel), (readyOf (by decide +kernel))⟩⟩,
    ⟨(updBr 0 (fun y => { y with st := .tripped }) (up)), 0, 0, 0, ⟨(by decide +kernel), ⟨(by decide +kernel), (readyOf (by decide +kernel))⟩⟩⟩,
    ⟨(updBr 0 (fun y => { y with st := .tripped, sp := .speed 65536000 }) up), 0, 0, 0, false, ⟨(by decide +kernel), ⟨(by decide +kernel),
      (readyOf (by decide +kernel))⟩⟩⟩,
    ⟨up, 0, 0, 0, ⟨(by decide +kernel), (readyOf (by decide +kernel))⟩⟩,
    ⟨(updBr 0 (fun y => { y with st := .latched }) (up)), 0, ⟨(by decide +kernel), (readyOf (by decide +kernel))⟩⟩⟩

theorem wit_BridgeDetections_3 :
    (∃ (s : State) (b : Mot), (s.br b).st ≠ .latched ∧ Ready (.motLatchedClear b) s) ∧
    (∃ (s : State) (b : Mot) (emfMv : Nat) (raw : Int) (offset : Int), (s.br b).st = .off ∧ Ready (.motOffsetCal b emfMv raw offset) s) ∧
    (∃ (b : Mot) (emfMv : Nat) (raw : Int), offsetOk b emfMv raw = true) ∧
    (∃ (s : State) (r : Requester) (b : Mot) (emfMv : Nat) (res : Nat) (ind : Nat) (raw : Int) (offset : Int),
      mayWrite r Ix.MOT_CAL_CMD (noteRequest r s) = true ∧ (∀ n,
      2 ≤ n → n < 6 → (valueOk Ix.MOT_CAL_CMD (toWord n) (noteRequest r s) && crossWritten Ix.MOT_CAL_CMD (toWord n) (noteRequest r s)) = true) ∧
      Ready (.motCalOffsetCmd r b emfMv raw offset) s ∧ Ready (.motCalIdentifyCmd r b emfMv res ind) s) ∧
    (∃ (s : State) (b : Mot) (emfMv : Nat), (s.br b).st = .off ∧ emfMv < 200) ∧
    (∃ (s : State) (r : Requester) (b : Mot) (v : Word), (mayWrite r (Ix.MOT_FORCE b.val) (noteRequest r s) = true ∧
      (valueOk (Ix.MOT_FORCE b.val) v (noteRequest r s) && crossWritten (Ix.MOT_FORCE b.val) v (noteRequest r s)) = true) ∧
      Ready (.motForceWrite r b v) s) ∧
    (∃ (s : State), s.procs.motor = .loading ∧ Ready .motCoproReloadDone s) ∧
    (∃ (s : State), s.procs.motor ≠ .loading ∧ Ready .motCoproReloadDone s) :=
  ⟨⟨up, 0, ⟨(by decide +kernel), (readyOf (by decide +kernel))⟩⟩,
    ⟨(updBr 0 (fun y => { y with st := .off }) (up)), 0, 0, 0, 0, ⟨(by decide +kernel), (readyOf (by decide +kernel))⟩⟩,
    ⟨0, 0, 0, (by decide +kernel)⟩,
    ⟨(withPriv 0 2 upWs), .host, 0, 0, 0, 0, 0, 0, ⟨(by decide +kernel), ⟨(rangeOf 2 6 (by decide +kernel)), ⟨(readyOf (by decide +kernel)),
      (readyOf (by decide +kernel))⟩⟩⟩⟩,
    ⟨(updBr 0 (fun y => { y with st := .off }) (up)), 0, 0, (by decide +kernel)⟩,
    ⟨(withPriv 0 2 upWs), .host, 0, 0, ⟨(by decide +kernel), (readyOf (by decide +kernel))⟩⟩,
    ⟨(fun u : State => { u with procs := { u.procs with motor := .loading } }) (up), ⟨(by decide +kernel), (readyOf (by decide +kernel))⟩⟩,
    ⟨up, ⟨(by decide +kernel), (readyOf (by decide +kernel))⟩⟩⟩

theorem wit_SwitchInputs_1 :
    (∃ (s : State) (n : SwitchNo) (at_ : Nat) (mv : Nat), (swUsed n (s.reach at_) = true ∧ swRaw n mv (s.reach at_) ≠ (s.inp.sw[n]).raw) ∧
      Ready (.swRawEdge n at_ mv) s) ∧
    (∃ (s : State) (n : SwitchNo), s.band ≠ .crank ∧ swDebounceP n s ≠ 0) ∧
    (∃ (s : State) (n : SwitchNo), s.band ≠ .crank ∧ swDebounceP n s = 0) ∧
    (∃ (s : State) (n : SwitchNo) (at_ : Nat) (mv : Nat), swRaw n mv (s.reach at_) = (s.inp.sw[n]).raw ∧ Ready (.swRawEdge n at_ mv) s) ∧
    (∃ (s : State) (n : SwitchNo), ∃ (t : Nat), (s.inp.sw[n]).since = some t ∧ s.band ≠ .crank ∧ Ready (.swDebounceExpiry n) s) ∧
    (∃ (s : State) (n : SwitchNo), ((s.inp.sw[n]).since = none ∨ s.band = .crank) ∧ Ready (.swDebounceExpiry n) s) ∧
    (∃ (n : SwitchNo) (k : _), k ≠ n) ∧
    (∃ (s : State) (at_ : Nat) (mvs : List (SwitchNo × Nat)), s.pw.pw = .standby ∧ Ready (.swStandbySample at_ mvs) s) :=
  ⟨⟨(wd (Ix.IN_SW_CFG 0) 2 up), 0, 0, 0, ⟨(by decide +kernel), (readyOf (by decide +kernel))⟩⟩,
    ⟨(wd (Ix.IN_SW_CFG 0) 0x12 up), 0, (by decide +kernel)⟩,
    ⟨up, 0, (by decide +kernel)⟩,
    ⟨(wd (Ix.IN_SW_CFG 0) 2 up), 0, 0, 5000, ⟨(by decide +kernel), (readyOf (by decide +kernel))⟩⟩,
    ⟨(updSw 0 (fun y => { y with since := some 900 }) (up)), 0, someOf (by decide +kernel) (⟨(by decide +kernel),
      (readyOf (by decide +kernel))⟩)⟩,
    ⟨(updSw 0 (fun y => { y with since := none }) (up)), 0, ⟨(by decide +kernel), (readyOf (by decide +kernel))⟩⟩,
    ⟨0, 1, (by decide +kernel)⟩,
    ⟨(inPower .standby (up)), 0, [], ⟨(by decide +kernel), (readyOf (by decide +kernel))⟩⟩⟩

theorem wit_SwitchInputs_2 :
    (∃ (s : State) (at_ : Nat) (mvs : List (SwitchNo × Nat)), s.pw.pw = .retain ∧ Ready (.parkSwitchSample at_ mvs) s) ∧
    (∃ (s : State) (at_ : Nat) (mvs : List (SwitchNo × Nat)), s.pw.pw ≠ .standby ∧ Ready (.swStandbySample at_ mvs) s) ∧
    (∃ (s : State) (at_ : Nat) (mvs : List (SwitchNo × Nat)), s.pw.pw ≠ .retain ∧ Ready (.parkSwitchSample at_ mvs) s) ∧
    (∃ (s : State) (n : SwitchNo) (mv : Nat), swUsed n s = true ∧ swRaw n mv s ≠ (s.inp.sw[n]).closed ∧ (s.inp.sw[n]).differ = 0) ∧
    (∃ (s : State) (n : SwitchNo) (mv : Nat), swUsed n s = true ∧ swRaw n mv s ≠ (s.inp.sw[n]).closed ∧ 1 ≤ (s.inp.sw[n]).differ ∧
      s.pw.pw = .standby) ∧
    (∃ (s : State) (n : SwitchNo) (mv : Nat), swUsed n s = true ∧ s.flag Ix.IN_SW_PARK_MASK n.val = true ∧
      swRaw n mv s ≠ (nbits s.inp.reference n.val 1 == 1) ∧ parkEdge n (swRaw n mv s) s = true ∧ 1 ≤ (s.inp.sw[n]).differ ∧ s.pw.pw = .retain ∧
      s.pw.armed.contains 2 = true ∧ s.pw.cause = none) ∧
    (∃ (s : State) (k : Fin 2) (mv : Nat), (ssupOn k s = true ∧ 4850 ≤ mv ∧ mv ≤ 5150) ∧ Ready (.ssupFaultDetect k mv false) s) ∧
    (∃ (s : State) (k : Fin 2) (mv : Nat), (ssupOn k s = true ∧ (mv < 4850 ∨ 5150 < mv)) ∧ Ready (.ssupFaultDetect k mv false) s) :=
  ⟨⟨(inPower .retain (up)), 0, [], ⟨(by decide +kernel), (readyOf (by decide +kernel))⟩⟩,
    ⟨up, 0, [], ⟨(by decide +kernel), (readyOf (by decide +kernel))⟩⟩,
    ⟨up, 0, [], ⟨(by decide +kernel), (readyOf (by decide +kernel))⟩⟩,
    ⟨(wd (Ix.IN_SW_CFG 0) 2 up), 0, 0, (by decide +kernel)⟩,
    ⟨(updSw 0 (fun y => { y with differ := 1 }) (inPower .standby (wd (Ix.IN_SW_CFG 0) 2 up))), 0, 0, (by decide +kernel)⟩,
    ⟨({ updSw 0 (fun y => { y with differ := 1 }) (wd Ix.IN_SW_PARK_MASK 1 (wd (Ix.IN_SW_CFG 0) 2 up)) with pw := { up.pw with pw := .retain, armed := [2], cause := none } }),
      0, 0, (by decide +kernel)⟩,
    ⟨(inMode .ride (wd Ix.IN_SSUP_CFG 3 up)), 0, 4850, ⟨(by decide +kernel), (readyOf (by decide +kernel))⟩⟩,
    ⟨(inMode .ride (wd Ix.IN_SSUP_CFG 3 up)), 0, 0, ⟨(by decide +kernel), (readyOf (by decide +kernel))⟩⟩⟩

theorem wit_SwitchInputs_3 :
    (∃ (s : State) (k : Fin 2) (mv : Nat), ssupOn k s = true ∧ Ready (.ssupFaultDetect k mv true) s) ∧
    (∃ (s : State) (k : Fin 2), s.inp.ssup[k] = .short ∧ Ready (.ssupRetry k) s) :=
  ⟨⟨(inMode .ride (wd Ix.IN_SSUP_CFG 3 up)), 0, 0, ⟨(by decide +kernel), (readyOf (by decide +kernel))⟩⟩,
    ⟨({ up with inp := { up.inp with ssup := up.inp.ssup.set 0 .short } }), 0, ⟨(by decide +kernel), (readyOf (by decide +kernel))⟩⟩⟩

theorem wit_FrequencyInputs_1 :
    (∃ (s : State) (f : Fin 4) (at_ : Nat), fqMode f (s.reach at_) = 0 ∧ Ready (.fqEdge f at_) s) ∧
    (∃ (s : State) (f : Fin 4) (at_ : Nat), ∃ (t : Nat), (s.inp.fq[f]).lastEdge = some t ∧ (s.reach at_).now < t + usP 20 ∧
      Ready (.fqEdge f at_) s) ∧
    (∃ (s : State) (f : Fin 4) (at_ : Nat), (fqMode f (s.reach at_) ≠ 0 ∧ (s.inp.fq[f]).lastEdge = none ∧
      isSource f (updFq f (fun x => { x with lastEdge := some (s.reach at_).now, interval := none }) (s.reach at_)) = false) ∧
      Ready (.fqEdge f at_) s) ∧
    (∃ (s : State) (f : Fin 4) (at_ : Nat), fqMode f (s.reach at_) ≠ 0 ∧ ∃ (t : Nat), (s.inp.fq[f]).lastEdge = some t ∧
      t + usP 20 ≤ (s.reach at_).now ∧ let i := (s.reach at_).now - t;
      let u := publishFreq f i (updFq f (fun x => { x with lastEdge := some (s.reach at_).now, interval := some i }) (s.reach at_));
      isSource f u = false ∧ Ready (.fqEdge f at_) s) ∧
    (∃ (s : State) (at_ : Nat), s.inp.alt.lastCross = none ∧ Ready (.speedReevaluation 4 at_) s) ∧
    (∃ (s : State) (at_ : Nat), ∃ (t : Nat), s.inp.alt.lastCross = some t ∧ fqTimeoutP (s.reach at_) ≤ (s.reach at_).now - t ∧
      Ready (.speedReevaluation 4 at_) s) ∧
    (∃ (s : State) (f : Fin 4) (at_ : Nat), (s.inp.fq[f]).lastEdge = none ∧ Ready (.speedReevaluation f.castSucc at_) s) ∧
    (∃ (s : State) (f : Fin 4) (at_ : Nat), ∃ (t : Nat), (s.inp.fq[f]).lastEdge = some t ∧ fqTimeoutP (s.reach at_) ≤ (s.reach at_).now - t ∧
      let x := s.inp.fq[f];
      let u := (publishSource 3 (4 + f.val) 0 (x.open_ || x.range) (updFq f (fun x => { x with freq := 0 }) (s.reach at_))).putNat (Ix.IN_FQ_FREQ f.val) 0;
      isSource f u = false ∧ Ready (.speedReevaluation f.castSucc at_) s) :=
  ⟨⟨up, 0, 0, ⟨(by decide +kernel), (readyOf (by decide +kernel))⟩⟩,
    ⟨(updFq 0 (fun y => { y with lastEdge := some 900 }) (up)), 0, 0, someOf (by decide +kernel) (⟨(by decide +kernel),
      (readyOf (by decide +kernel))⟩)⟩,
    ⟨(wd (Ix.IN_FQ_CFG 0) 1 up), 0, 1000, ⟨(by decide +kernel), (readyOf (by decide +kernel))⟩⟩,
    ⟨(updFq 0 (fun y => { y with lastEdge := some 900 }) (wd (Ix.IN_FQ_CFG 0) 1 up)), 0, 2000, ⟨(by decide +kernel),
      someOf (by decide +kernel) (⟨(by decide +kernel), ⟨(by decide +kernel), (readyOf (by decide +kernel))⟩⟩)⟩⟩,
    ⟨up, 0, ⟨(by decide +kernel), (readyOf (by decide +kernel))⟩⟩,
    ⟨({ up with inp := { up.inp with alt := { up.inp.alt with lastCross := some 900 } } }), 4000000000,
      someOf (by decide +kernel) (⟨(by decide +kernel), (readyOf (by decide +kernel))⟩)⟩,
    ⟨(updFq 0 (fun y => { y with lastEdge := none }) (up)), 0, 0, ⟨(by decide +kernel), (readyOf (by decide +kernel))⟩⟩,
    ⟨(updFq 0 (fun y => { y with lastEdge := some 900 }) (wd (Ix.IN_FQ_CFG 0) 1 up)), 0, 4000000000,
      someOf (by decide +kernel) (⟨(by decide +kernel), ⟨(by decide +kernel), (readyOf (by decide +kernel))⟩⟩)⟩⟩

theorem wit_FrequencyInputs_2 :
    (∃ (s : State) (at_ : Nat) (peak : Nat), (altCycles (s.reach at_) ≠ 0 ∧ s.inp.alt.lastCross = none ∧ s.fld Ix.IN_ALT_CFG 8 8 < peak) ∧
      Ready (.altZeroCrossing at_ peak) s) ∧
    (∃ (s : State) (at_ : Nat) (peak : Nat), (altCycles (s.reach at_) ≠ 0 ∧ s.inp.alt.lastCross = none ∧ peak ≤ s.fld Ix.IN_ALT_CFG 8 8) ∧
      Ready (.altZeroCrossing at_ peak) s) ∧
    (∃ (s : State) (at_ : Nat) (peak : Nat), altCycles (s.reach at_) = 0 ∧ Ready (.altZeroCrossing at_ peak) s) :=
  ⟨⟨(wd Ix.IN_ALT_CFG 0x6404 up), 1000, 101, ⟨(by decide +kernel), (readyOf (by decide +kernel))⟩⟩,
    ⟨(wd Ix.IN_ALT_CFG 0x6404 up), 1000, 100, ⟨(by decide +kernel), (readyOf (by decide +kernel))⟩⟩,
    ⟨up, 0, 0, ⟨(by decide +kernel), (readyOf (by decide +kernel))⟩⟩⟩

theorem wit_ImuRows_1 :
    (∃ (s : State) (accel : Nat) (gyro : Nat), ∃ (t : Nat), s.imu.moveHi = some t ∧ t + msP (s.fld Ix.IMU_DWELL 0 16) ≤ s.now ∧
      (s.fld Ix.IMU_MOVE 0 8 * 10 < accel ∨ s.fld Ix.IMU_MOVE 16 8 * 10 < gyro)) ∧
    (∃ (s : State) (at_ : Nat) (g : Int × Int × Int), (s.modes.mode = .watch ∧ s.imu.moving = false ∧
      s.imu.stillAt + msP (s.fld Ix.IMU_DWELL 16 16) ≤ (s.reach at_).now ∧ s.imu.ref = none) ∧ Ready (.tamperReferenceCapture at_ g) s) ∧
    (∃ (s : State) (at_ : Nat) (g : Int × Int × Int), s.modes.mode ≠ .watch ∧ Ready (.tamperReferenceCapture at_ g) s) ∧
    (∃ (s : State) (at_ : Nat) (accel : Nat) (gyro : Nat) (g : Int × Int × Int), s.pw.pw ≠ .standby ∧
      Ready (.imuStandbyEval at_ accel gyro g) s) ∧
    (∃ (s : State) (at_ : Nat) (accel : Nat) (gyro : Nat) (g : Int × Int × Int), s.pw.pw = .standby ∧
      let t := judgeTamper g (judgeMoving accel gyro (s.reach at_)); (t.imu.moving = s.imu.moving ∧ t.imu.tamper = s.imu.tamper) ∧
      Ready (.imuStandbyEval at_ accel gyro g) s) ∧
    (∃ (s : State) (at_ : Nat) (accel : Nat) (gyro : Nat) (g : Int × Int × Int), s.pw.pw = .standby ∧
      let t := judgeTamper g (judgeMoving accel gyro (s.reach at_)); (t.imu.moving ≠ s.imu.moving ∨ t.imu.tamper ≠ s.imu.tamper) ∧
      Ready (.imuStandbyEval at_ accel gyro g) s) ∧
    (∃ (s : State) (at_ : Nat) (mean : Int × Int × Int), ∃ (t : Nat), s.imu.attempt = some t ∧ (wheelsSlow (s.reach at_) = true ∧
      crankRotates (s.reach at_) = false ∧ dwellOver s.dwell.resting t (secP 10) (s.reach at_) = true ∧ (s.reach at_).now ≤ t + secP 60) ∧
      Ready (.gyroZeroSuccess at_ mean) s) ∧
    (∃ (s : State), ∃ (t : Nat), s.imu.attempt = some t ∧
      let u : State := { s.reach (t + secP 60) with imu := { s.imu with attempt := none, calDeferred := true, calRun := s.imu.calRun + 1, cmd := if s.imu.commanded then .deferred else s.imu.cmd, commanded := false } };
      s.imu.calRun < 2 ∧ Ready .gyroZeroTimeout s) :=
  ⟨⟨(fun u : State => { u with imu := { u.imu with moveHi := some 900 } }) (wd Ix.IMU_DWELL 0 up), 100000, 0,
      someOf (by decide +kernel) ((by decide +kernel))⟩,
    ⟨(wd Ix.IMU_DWELL 0 up), 0, (0, 0, 1000), ⟨(by decide +kernel), (readyOf (by decide +kernel))⟩⟩,
    ⟨(inMode .ride up), 0, (0, 0, 1000), ⟨(by decide +kernel), (readyOf (by decide +kernel))⟩⟩,
    ⟨up, 0, 0, 0, (0, 0, 1000), ⟨(by decide +kernel), (readyOf (by decide +kernel))⟩⟩,
    ⟨(inPower .standby (up)), 0, 0, 0, (0, 0, 1000), ⟨(by decide +kernel), ⟨(by decide +kernel), (readyOf (by decide +kernel))⟩⟩⟩,
    ⟨(inPower .standby (wd Ix.IMU_DWELL 0 up)), 0, 100000, 0, (0, 0, 1000), ⟨(by decide +kernel), ⟨(by decide +kernel),
      (readyOf (by decide +kernel))⟩⟩⟩,
    ⟨(fun u : State => { u with imu := { u.imu with attempt := some 1000 } }) ({ up with dwell := { up.dwell with resting := some 900 } }),
      400001000, (0, 0, 1000), someOf (by decide +kernel) (⟨(by decide +kernel), (readyOf (by decide +kernel))⟩)⟩,
    ⟨(fun u : State => { u with imu := { u.imu with attempt := some 900 } }) (up), someOf (by decide +kernel) (⟨(by decide +kernel),
      (readyOf (by decide +kernel))⟩)⟩⟩

theorem wit_ImuRows_2 :
    (∃ (s : State), ∃ (t : Nat), s.imu.attempt = some t ∧
      let u : State := { s.reach (t + secP 60) with imu := { s.imu with attempt := none, calDeferred := true, calRun := s.imu.calRun + 1, cmd := if s.imu.commanded then .deferred else s.imu.cmd, commanded := false } };
      2 ≤ s.imu.calRun ∧ Ready .gyroZeroTimeout s) ∧
    (∃ (s : State) (r : Requester) (g : Int × Int × Int) (held : Bool), mayWrite r Ix.IMU_CAL_CMD (noteRequest r s) = true ∧ (∀ n,
      1 ≤ n → n ≤ 2 → (valueOk Ix.IMU_CAL_CMD (toWord n) (noteRequest r s) && crossWritten Ix.IMU_CAL_CMD (toWord n) (noteRequest r s)) = true) ∧
      Ready (.imuCalZeroCmd r) s ∧ Ready (.imuCalLevelCmd r g held) s) ∧
    (∃ (s : State) (held : Bool), (held = false ∨ stationary s = false ∨ s.imu.moving = true)) ∧
    (∃ (s : State), stationary s = true ∧ s.imu.moving = false) ∧
    (∃ (s : State) (r : Requester) (v : Word), (mayWrite r Ix.IMU_CLEAR (noteRequest r s) = true ∧ bit (cleanValue Ix.IMU_CLEAR v) 3 = true) ∧
      Ready (.imuClearWrite r v) s) :=
  ⟨⟨(fun u : State => { u with imu := { u.imu with attempt := some 900, calRun := 2 } }) (wd Ix.IMU_DWELL 0 up),
      someOf (by decide +kernel) (⟨(by decide +kernel), (readyOf (by decide +kernel))⟩)⟩,
    ⟨(withPriv 0 2 upWs), .host, (0, 0, 1000), false, ⟨(by decide +kernel),
      ⟨(fun n h1 h2 => rangeOf (P := fun n => valueOk Ix.IMU_CAL_CMD (toWord n) _ && crossWritten Ix.IMU_CAL_CMD (toWord n) _) 1 3 (by decide +kernel) n h1 (by omega)),
      ⟨(readyOf (by decide +kernel)), (readyOf (by decide +kernel))⟩⟩⟩⟩,
    ⟨up, false, (by decide +kernel)⟩,
    ⟨(fun u : State => { u with imu := { u.imu with moving := false } }) (up), (by decide +kernel)⟩,
    ⟨(withPriv 0 2 up), .host, 8, ⟨(by decide +kernel), (readyOf (by decide +kernel))⟩⟩⟩

theorem wit_TouchRows_1 :
    (∃ (s : State) (m : TouchFrame), s.tch.frameAt = none ∧ Ready (.touchFrame m) s) ∧
    (∃ (s : State) (m : TouchFrame), ∃ (t : Nat), s.tch.frameAt = some t ∧
      let u := latchRaw m (State.reach { s with tch := { s.tch with frameAt := none } } (t + frameP m s));
      let noisy := (List.finRange 8).any fun g => tchMask g u != 0 && groupNoisy m g u; noisy = false ∧ Ready (.touchFrame m) s) ∧
    (∃ (s : State) (m : TouchFrame), ∃ (t : Nat), s.tch.frameAt = some t ∧
      let u := latchRaw m (State.reach { s with tch := { s.tch with frameAt := none } } (t + frameP m s));
      let noisy := (List.finRange 8).any fun g => tchMask g u != 0 && groupNoisy m g u; noisy = true ∧ Ready (.touchFrame m) s) ∧
    (∃ (s : State) (g : Fin 8), ∃ (t : Nat), (s.tch.gr[g]).deferredAt = some t ∧ (s.tch.gr[g]).attempt = none ∧ Ready (.touchCalRetry g) s) ∧
    (∃ (s : State) (g : Fin 8), (s.tch.gr[g]).deferredAt = none ∧ Ready (.touchCalRetry g) s) ∧
    (∃ (s : State) (r : Requester) (v : Word), (mayWrite r Ix.TCH_CAL_CMD (noteRequest r s) = true ∧
      (valueOk Ix.TCH_CAL_CMD v (noteRequest r s) && crossWritten Ix.TCH_CAL_CMD v (noteRequest r s)) = true) ∧ Ready (.tchCalCmdWrite r v) s) ∧
    (∃ (s : State) (g : Fin 8), tchMask g s ≠ 0) ∧
    (∃ (s : State) (g : Fin 8), ∃ (t : Nat), (s.tch.gr[g]).touchedAt = some t ∧ s.fld (Ix.TCH_G_TIME g.val) 24 8 ≠ 0 ∧
      Ready (.touchStuckTimeout g) s) :=
  ⟨⟨(fun u : State => { u with tch := { u.tch with frameAt := none } }) (up), tf0, ⟨(by decide +kernel), (readyOf (by decide +kernel))⟩⟩,
    ⟨(fun u : State => { u with tch := { u.tch with frameAt := some 900 } }) (up), tf0, someOf (by decide +kernel) (⟨(by decide +kernel),
      (readyOf (by decide +kernel))⟩)⟩,
    ⟨(wd (Ix.TCH_G_CFG 0) 1 { up with tch := { up.tch with frameAt := some 900 } }),
      ({ tf0 with convs := [(0, [1, 60000, 2, 3], [1, 2, 3, 4])] }), someOf (by decide +kernel) (⟨(by decide +kernel),
      (readyOf (by decide +kernel))⟩)⟩,
    ⟨(updGroup 0 (fun y => { y with attempt := none }) (updGroup 0 (fun y => { y with deferredAt := some 900 }) (up))), 0,
      someOf (by decide +kernel) (⟨(by decide +kernel), (readyOf (by decide +kernel))⟩)⟩,
    ⟨(updGroup 0 (fun y => { y with deferredAt := none }) (up)), 0, ⟨(by decide +kernel), (readyOf (by decide +kernel))⟩⟩,
    ⟨(withPriv 0 2 upWs), .host, 0, ⟨(by decide +kernel), (readyOf (by decide +kernel))⟩⟩,
    ⟨(wd (Ix.TCH_G_CFG 0) 1 up), 0, (by decide +kernel)⟩,
    ⟨(State.putFld (updGroup 0 (fun y => { y with touchedAt := some 900 }) (up)) (Ix.TCH_G_TIME 0) 24 8 1), 0,
      someOf (by decide +kernel) (⟨(by decide +kernel), (readyOf (by decide +kernel))⟩)⟩⟩

theorem wit_TouchRows_2 :
    (∃ (s : State) (g : Fin 8), (s.tch.gr[g]).touchedAt = none ∧ Ready (.touchStuckTimeout g) s) ∧
    (∃ (s : State) (g : Fin 8), (s.tch.gr[g]).glove = true ∧ Ready (.gloveHoldExpiry g) s) ∧
    (∃ (s : State) (g : Fin 8), (s.tch.gr[g]).glove = false ∧ Ready (.gloveHoldExpiry g) s) ∧
    (∃ (s : State) (at_ : Nat) (raw0 : Nat) (raw1 : Nat), (s.pw.pw ≠ .retain ∨ s.pw.armed.contains 3 = false) ∧
      Ready (.parkTouchSample at_ raw0 raw1) s) ∧
    (∃ (s : State) (at_ : Nat) (raw0 : Nat) (raw1 : Nat) (b0 : Nat) (b1 : Nat), (s.pw.pw = .retain ∧ s.fld Ix.TCH_WAKE_CFG 0 2 ≠ 0 ∧
      s.pw.armed.contains 3 = true ∧ s.tch.gest.base = [some b0, some b1]) ∧ Ready (.parkTouchSample at_ raw0 raw1) s) ∧
    (∃ (s : State) (raw0 : Nat) (raw1 : Nat) (b0 : Nat) (b1 : Nat), s.pw.pw = .retain ∧ s.pw.armed.contains 3 = true ∧ s.pw.cause = none ∧
      s.fld Ix.TCH_WAKE_CFG 0 2 = 1 ∧ s.flag Ix.TCH_WAKE_CFG 2 = false ∧ s.tch.gest.wet = false ∧ parkTouch raw0 b0 s.tch.gest.touch0 s = true ∧
      parkTouch raw1 b1 s.tch.gest.touch1 s = false ∧ s.tch.gest.tap + 1 = s.fld Ix.TCH_WAKE_TIME 0 8) ∧
    (∃ (s : State) (at_ : Nat) (raw0 : Nat) (raw1 : Nat), (s.pw.pw = .retain ∧ s.fld Ix.TCH_WAKE_CFG 0 2 ≠ 0 ∧ s.pw.armed.contains 3 = true ∧
      s.tch.gest.base = [none, none] ∧ s.tch.gest.gather.length < 3) ∧ Ready (.parkTouchSample at_ raw0 raw1) s) :=
  ⟨⟨(updGroup 0 (fun y => { y with touchedAt := none }) (up)), 0, ⟨(by decide +kernel), (readyOf (by decide +kernel))⟩⟩,
    ⟨(updGroup 0 (fun y => { y with glove := true }) (up)), 0, ⟨(by decide +kernel), (readyOf (by decide +kernel))⟩⟩,
    ⟨(updGroup 0 (fun y => { y with glove := false }) (up)), 0, ⟨(by decide +kernel), (readyOf (by decide +kernel))⟩⟩,
    ⟨up, 0, 0, 0, ⟨(by decide +kernel), (readyOf (by decide +kernel))⟩⟩,
    ⟨(touchPark (some 100)), 0, 0, 0, 100, 100, ⟨(by decide +kernel), (readyOf (by decide +kernel))⟩⟩,
    ⟨(fun u : State => { u with tch := { u.tch with gest := { u.tch.gest with tap := u.fld Ix.TCH_WAKE_TIME 0 8 - 1 } } }) (touchPark (some 100)),
      60000, 100, 100, 100, (by decide +kernel)⟩,
    ⟨(touchPark none), 0, 0, 0, ⟨(by decide +kernel), (readyOf (by decide +kernel))⟩⟩⟩

theorem wit_LessonRows_1 :
    (∃ (s : State) (slot : Nat) (l : LessonNo), ∃ (e : Event) (u : State), takeEvent slot s = some (e, u) ∧ e.spec.act = .lessonTick l ∧
      Ready (.eventLessonTick slot) s) ∧
    (∃ (s : State) (slot : Nat), takeEvent slot s = none ∧ Ready (.eventLessonTick slot) s ∧ Ready (.eventCanRelease slot) s ∧
      Ready (.eventFabSync slot) s) ∧
    (∃ (s : State) (l : LessonNo), ∃ (c : LessonCfg), s.bn.cfg.lessons[l.val]? = some c ∧ lessonIn l s.modes.mode (flushPubs s.now s) = false ∧
      (flushPubs s.now s).bn.cfg = s.bn.cfg ∧ (flushPubs s.now s).modes = s.modes) ∧
    (∃ (s : State) (l : LessonNo), let u := flushPubs s.now s; ∃ (c : LessonCfg), u.bn.cfg.lessons[l.val]? = some c ∧
      lessonIn l u.modes.mode u = true ∧ (u.bn.lessons[l]).fallback = false ∧ (blocksOf u.bn.cfg l.val).isEmpty = false ∧
      (u.bn.lessons[l]).evaluated = true ∧ usSince u.usTotal (u.bn.lessons[l]).last < c.minPeriod) ∧
    (∃ (s : State) (l : LessonNo), let u := flushPubs s.now s; ∃ (c : LessonCfg), u.bn.cfg.lessons[l.val]? = some c ∧
      lessonIn l u.modes.mode u = true ∧ (u.bn.lessons[l]).fallback = false ∧ (blocksOf u.bn.cfg l.val).isEmpty = false ∧
      ((u.bn.lessons[l]).evaluated = false ∨ c.minPeriod ≤ usSince u.usTotal (u.bn.lessons[l]).last)) ∧
    (∃ (s : State) (l : LessonNo), (s.bn.lessons[l]).pubs = [] ∧ Ready (.lessonPublish l) s) ∧
    (∃ (s : State) (l : LessonNo) (t : Nat) (n : Nat) (v : Word), (s.bn.lessons[l]).pubs = [(t, n, v)] ∧ Ready (.lessonPublish l) s) ∧
    (∃ (s : State) (k : Fin 64) (v : Word), (mayWrite .host (Ix.BN_HOST k.val) (noteRequest .host s) = true ∧
      (valueOk (Ix.BN_HOST k.val) v (noteRequest .host s) && crossWritten (Ix.BN_HOST k.val) v (noteRequest .host s)) = true) ∧
      Ready (.bnHostWrite .host k v) s) :=
  ⟨⟨(withEvents (up) [ev0 (.lessonTick 0) true]), 0, 0, pairOf (by decide +kernel) (⟨(by decide +kernel), (readyOf (by decide +kernel))⟩)⟩,
    ⟨up, 0, ⟨(by decide +kernel), ⟨(readyOf (by decide +kernel)), ⟨(readyOf (by decide +kernel)), (readyOf (by decide +kernel))⟩⟩⟩⟩,
    ⟨(lessonUp 1 1000 false), 0, someOf (by decide +kernel) ((by decide +kernel))⟩,
    ⟨(lessonUp 2 1000 true), 0, someOf (by decide +kernel) ((by decide +kernel))⟩,
    ⟨(lessonUp 2 1000 false), 0, someOf (by decide +kernel) ((by decide +kernel))⟩,
    ⟨(updLesson 0 (fun y => { y with pubs := [] }) (up)), 0, ⟨(by decide +kernel), (readyOf (by decide +kernel))⟩⟩,
    ⟨(updLesson 0 (fun y => { y with pubs := [(2000, 0, 5)] }) up), 0, 2000, 0, 5, ⟨(by decide +kernel), (readyOf (by decide +kernel))⟩⟩,
    ⟨(withPriv 0 2 upWs), 0, 0, ⟨(by decide +kernel), (readyOf (by decide +kernel))⟩⟩⟩

theorem wit_LessonRows_2 :
    (∃ (s : State) (slot : Nat) (delay : Nat) (convs : List Conv) (k : Nat), ∃ (e : Event) (u : State), takeEvent slot s = some (e, u) ∧
      e.spec.act = .adcSample k ∧ Ready (.eventAdcSample slot convs delay) s) ∧
    (∃ (k : Nat), 42 ≤ k ∧ k ≠ tchList) ∧
    (∃ (s : State) (v : Conv) (delay : Nat), (convClass v s = 1 ∨ delay ≤ usP 4) ∧ Ready (.adcConversionSkip v delay) s) ∧
    (∃ (s : State) (v : Conv) (delay : Nat), (convClass v s ≠ 1 ∧ usP 4 < delay) ∧ Ready (.adcConversionSkip v delay) s) :=
  ⟨⟨(withEvents (up) [ev0 (.adcSample 0) true]), 0, 0, [], 0, pairOf (by decide +kernel) (⟨(by decide +kernel),
      (readyOf (by decide +kernel))⟩)⟩,
    ⟨42, (by decide +kernel)⟩,
    ⟨up, conv0, 0, ⟨(by decide +kernel), (readyOf (by decide +kernel))⟩⟩,
    ⟨up, (.analogue 0 0), 161, ⟨(by decide +kernel), (readyOf (by decide +kernel))⟩⟩⟩

theorem wit_ChargerPowerPath_1 :
    (∃ (s : State) (railMv : Nat), (railMv < 4500 ∧ s.chg.aoOnCell = false ∧ s.chg.cutOff = false ∧ s.flag Ix.CHG_FAULTS 5 = false ∧
      s.chg.conds.getD 5 false = false) ∧
      let u := (updChg (fun c => { c with railUp := false, aoOnCell := true, onCellSaid := true }) s).bump Ix.CHG_COUNTS 16 16;
      s.chg.onCellSaid = false ∧ Ready (.cellSwitchChangeover railMv) s) ∧
    (∃ (s : State) (railMv : Nat), (railMv < 4500 ∧ s.chg.aoOnCell = false ∧ s.chg.cutOff = false ∧ s.flag Ix.CHG_FAULTS 5 = false ∧
      s.chg.conds.getD 5 false = false) ∧
      let u := (updChg (fun c => { c with railUp := false, aoOnCell := true, onCellSaid := true }) s).bump Ix.CHG_COUNTS 16 16;
      s.chg.onCellSaid = true ∧ Ready (.cellSwitchChangeover railMv) s) ∧
    (∃ (s : State) (railMv : Nat), 5000 < railMv ∧ Ready (.cellSwitchChangeover railMv) s) ∧
    (∃ (s : State) (railMv : Nat), (4500 ≤ railMv ∧ railMv ≤ 5000) ∧ Ready (.cellSwitchChangeover railMv) s) ∧
    (∃ (s : State) (mv : Nat) (least : Nat), (4500 < least ∧ s.chg.svinPresent = false) ∧
      let u := wakeFires (if s.fld Ix.PWR_DEEP_WAKE 0 4 = 4 ∧ s.pw.pw = .deep then 7 else 6) (parkSourceFires 6 ((updChg (fun c => { c with svinPresent := true }) s).putFld Ix.CHG_SVIN 0 16 mv));
      s.modes.mode = .park ∧ Ready (.svinPresent mv least) s) ∧
    (∃ (s : State) (mv : Nat) (least : Nat), (4500 < least ∧ s.chg.svinPresent = false) ∧
      let u := wakeFires (if s.fld Ix.PWR_DEEP_WAKE 0 4 = 4 ∧ s.pw.pw = .deep then 7 else 6) (parkSourceFires 6 ((updChg (fun c => { c with svinPresent := true }) s).putFld Ix.CHG_SVIN 0 16 mv));
      s.modes.mode ≠ .park ∧ Ready (.svinPresent mv least) s) ∧
    (∃ (s : State) (mv : Nat) (least : Nat), (least ≤ 4500 ∧ s.modes.mode ≠ .park) ∧ Ready (.svinPresent mv least) s) ∧
    (∃ (s : State) (mv : Nat), (s.chg.svinPresent = true ∧ mv ≤ 4500 ∧ s.modes.mode ≠ .park) ∧ Ready (.svinRemoved mv) s) :=
  ⟨⟨(fun u : State => { u with chg := { u.chg with onCellSaid := false } }) (State.putFld ((fun u : State => { u with chg := { u.chg with cutOff := false } }) ((fun u : State => { u with chg := { u.chg with aoOnCell := false } }) (up))) (Ix.CHG_FAULTS) 5 1 0),
      0, ⟨(by decide +kernel), ⟨(by decide +kernel), (readyOf (by decide +kernel))⟩⟩⟩,
    ⟨(fun u : State => { u with chg := { u.chg with onCellSaid := true } }) (State.putFld ((fun u : State => { u with chg := { u.chg with cutOff := false } }) ((fun u : State => { u with chg := { u.chg with aoOnCell := false } }) (up))) (Ix.CHG_FAULTS) 5 1 0),
      0, ⟨(by decide +kernel), ⟨(by decide +kernel), (readyOf (by decide +kernel))⟩⟩⟩,
    ⟨up, 5001, ⟨(by decide +kernel), (readyOf (by decide +kernel))⟩⟩,
    ⟨up, 4500, ⟨(by decide +kernel), (readyOf (by decide +kernel))⟩⟩,
    ⟨(inMode .park ((fun u : State => { u with chg := { u.chg with svinPresent := false } }) (up))), 0, 4501, ⟨(by decide +kernel),
      ⟨(by decide +kernel), (readyOf (by decide +kernel))⟩⟩⟩,
    ⟨(fun u : State => { u with chg := { u.chg with svinPresent := false } }) (up), 0, 4501, ⟨(by decide +kernel), ⟨(by decide +kernel),
      (readyOf (by decide +kernel))⟩⟩⟩,
    ⟨up, 0, 0, ⟨(by decide +kernel), (readyOf (by decide +kernel))⟩⟩,
    ⟨(fun u : State => { u with chg := { u.chg with svinPresent := true } }) (up), 0, ⟨(by decide +kernel), (readyOf (by decide +kernel))⟩⟩⟩

theorem wit_ChargerPowerPath_2 :
    (∃ (s : State) (mv : Nat), s.chg.svinPresent = false ∧ Ready (.svinRemoved mv) s) ∧
    (∃ (s : State) (least : Nat) (most : Nat), vbatFloor s + 300 < least ∧ Ready (.vbatGateChange least most) s) ∧
    (∃ (s : State) (least : Nat) (most : Nat), (least ≤ vbatFloor s + 300 ∧ most < vbatFloor s) ∧ Ready (.vbatGateChange least most) s) ∧
    (∃ (s : State) (at_ : Nat) (openMv : Nat) (vbatMv : Nat) (apart : Nat), ∃ (t : Nat), searchDue s = some t ∧ (s.chg.input = 2 ∧
      s.chg.svinIsRail = false) ∧ let u := s.reach (Nat.max at_ t); Ready (.chgSearchStart at_ openMv vbatMv apart) s) ∧
    (∃ (s : State) (at_ : Nat) (openMv : Nat) (vbatMv : Nat) (apart : Nat), searchDue s = none ∧
      Ready (.chgSearchStart at_ openMv vbatMv apart) s) ∧
    (∃ (s : State) (least : Nat) (maxMa : Nat) (vbatMv : Nat), s.chg.search = none ∧ Ready (.chgSearchStep least maxMa vbatMv) s) ∧
    (∃ (s : State) (least : Nat) (maxMa : Nat) (vbatMv : Nat), ∃ (q : Search), s.chg.search = some q ∧ q.near = false ∧
      let u := updChg (fun c => { c with inputMa := maxMa }) (s.reach (q.stepAt + msP 20));
      let top := Nat.min (chgIlim u) (scaled (chgIlim u) (factorAtLevel u 4)); least ≤ searchFloor q.openMv u ∧
      Ready (.chgSearchStep least maxMa vbatMv) s) ∧
    (∃ (s : State) (least : Nat) (maxMa : Nat) (vbatMv : Nat), ∃ (q : Search), s.chg.search = some q ∧ q.near = false ∧
      let u := updChg (fun c => { c with inputMa := maxMa }) (s.reach (q.stepAt + msP 20));
      let top := Nat.min (chgIlim u) (scaled (chgIlim u) (factorAtLevel u 4)); (searchFloor q.openMv u < least ∧ maxMa + 20 < q.limit) ∧
      Ready (.chgSearchStep least maxMa vbatMv) s) :=
  ⟨⟨(fun u : State => { u with chg := { u.chg with svinPresent := false } }) (up), 0, ⟨(by decide +kernel), (readyOf (by decide +kernel))⟩⟩,
    ⟨up, 20000, 0, ⟨(by decide +kernel), (readyOf (by decide +kernel))⟩⟩,
    ⟨up, 0, 0, ⟨(by decide +kernel), (readyOf (by decide +kernel))⟩⟩,
    ⟨(updChg (fun c => { c with input := 2, svinIsRail := false, due := true }) (up)), 0, 0, 0, 0,
      someOf (by decide +kernel) (⟨(by decide +kernel), (readyOf (by decide +kernel))⟩)⟩,
    ⟨up, 0, 0, 0, 0, ⟨(by decide +kernel), (readyOf (by decide +kernel))⟩⟩,
    ⟨(fun u : State => { u with chg := { u.chg with search := none } }) (up), 0, 0, 0, ⟨(by decide +kernel), (readyOf (by decide +kernel))⟩⟩,
    ⟨(updChg (fun c => { c with input := 2, search := some { limit := 500, openMv := 5000, vbat := 12000, near := false, stepAt := 900 } }) (up)),
      1000, 300, 0, someOf (by decide +kernel) (⟨(by decide +kernel), ⟨(by decide +kernel), (readyOf (by decide +kernel))⟩⟩)⟩,
    ⟨(updChg (fun c => { c with input := 2, search := some { limit := 500, openMv := 5000, vbat := 12000, near := false, stepAt := 900 } }) (up)),
      5000, 300, 0, someOf (by decide +kernel) (⟨(by decide +kernel), ⟨(by decide +kernel), (readyOf (by decide +kernel))⟩⟩)⟩⟩

theorem wit_ChargerPowerPath_3 :
    (∃ (s : State) (least : Nat) (maxMa : Nat) (vbatMv : Nat), ∃ (q : Search), s.chg.search = some q ∧ q.near = false ∧
      let u := updChg (fun c => { c with inputMa := maxMa }) (s.reach (q.stepAt + msP 20));
      let top := Nat.min (chgIlim u) (scaled (chgIlim u) (factorAtLevel u 4)); (searchFloor q.openMv u < least ∧ q.limit ≤ maxMa + 20 ∧
      top ≤ q.limit) ∧ Ready (.chgSearchStep least maxMa vbatMv) s) ∧
    (∃ (s : State) (least : Nat) (maxMa : Nat) (vbatMv : Nat), ∃ (q : Search), s.chg.search = some q ∧ q.near = false ∧
      let u := updChg (fun c => { c with inputMa := maxMa }) (s.reach (q.stepAt + msP 20));
      let top := Nat.min (chgIlim u) (scaled (chgIlim u) (factorAtLevel u 4)); (searchFloor q.openMv u < least ∧ q.limit ≤ maxMa + 20 ∧
      q.limit < top) ∧ Ready (.chgSearchStep least maxMa vbatMv) s) ∧
    (∃ (s : State) (most : Nat), (s.chg.search = none ∧ s.chg.input ≠ 0) ∧ ∃ (l : Nat), s.chg.found = some l ∧
      most ≤ searchFloor s.chg.openMv s ∧ Ready (.chgInputBackoff most) s) ∧
    (∃ (s : State) (most : Nat), (s.chg.search ≠ none ∨ searchFloor s.chg.openMv s < most) ∧ Ready (.chgInputBackoff most) s) ∧
    (∃ (s : State) (r : CellReading), ((readCell r s).chg.socValid = true ∧ (readCell r s).chg.railUp = false ∧
      socPercent (readCell r s) ≤ (readCell r s).fld Ix.CHG_BKO_CFG 16 8) ∧ Ready (.bkoutCellCutoff r) s) ∧
    (∃ (s : State) (r : CellReading), ((readCell r s).chg.socValid = true ∧
      (readCell r s).fld Ix.CHG_BKO_CFG 16 8 < socPercent (readCell r s)) ∧ Ready (.bkoutCellCutoff r) s) :=
  ⟨⟨(updChg (fun c => { c with input := 2, search := some { limit := 5000, openMv := 5000, vbat := 12000, near := false, stepAt := 900 } }) (up)),
      5000, 4980, 0, someOf (by decide +kernel) (⟨(by decide +kernel), ⟨(by decide +kernel), (readyOf (by decide +kernel))⟩⟩)⟩,
    ⟨(updChg (fun c => { c with input := 2, search := some { limit := 500, openMv := 5000, vbat := 12000, near := false, stepAt := 900 } }) (up)),
      5000, 480, 0, someOf (by decide +kernel) (⟨(by decide +kernel), ⟨(by decide +kernel), (readyOf (by decide +kernel))⟩⟩)⟩,
    ⟨(updChg (fun c => { c with input := 2, found := some 400, openMv := 5000 }) (up)), 1000, ⟨(by decide +kernel),
      someOf (by decide +kernel) (⟨(by decide +kernel), (readyOf (by decide +kernel))⟩)⟩⟩,
    ⟨(updChg (fun c => { c with input := 2, found := some 400, openMv := 5000 }) (up)), 5000, ⟨(by decide +kernel),
      (readyOf (by decide +kernel))⟩⟩,
    ⟨(updChg (fun c => { c with socValid := true }) (up)), cell0, ⟨(by decide +kernel), (readyOf (by decide +kernel))⟩⟩,
    ⟨(updChg (fun c => { c with socValid := true, soc := 8000 }) (up)), cell0, ⟨(by decide +kernel), (readyOf (by decide +kernel))⟩⟩⟩

theorem wit_ChargeStates_1 :
    (∃ (s : State) (r : CellReading) (least : Nat), ((readCell r s).chg.st = .precharge ∧ (readCell r s).chg.cutOff = false ∧
      (chem (readCell r s)).precharge + 100 < least) ∧ Ready (.chgPrechargeDone r least) s) ∧
    (∃ (s : State) (r : CellReading) (least : Nat), ((readCell r s).chg.st ≠ .precharge ∧ (readCell r s).chg.cutOff = false) ∧
      Ready (.chgPrechargeDone r least) s) ∧
    (∃ (s : State) (r : CellReading), ((readCell r s).chg.st = .fastCc ∧ (readCell r s).chg.cutOff = false ∧ chgVterm (readCell r s) ≤ r.mv) ∧
      Ready (.chgVtermReached r) s) ∧
    (∃ (s : State) (r : CellReading), ((readCell r s).chg.st ≠ .fastCc ∧ (readCell r s).chg.cutOff = false) ∧ Ready (.chgVtermReached r) s) ∧
    (∃ (s : State) (r : CellReading) (most : Int), ((readCell r s).chg.st = .fastCv ∧ most < ((readCell r s).fld Ix.CHG_CURRENT 16 16 : Int)) ∧
      Ready (.chgTermination r most) s) ∧
    (∃ (s : State) (r : CellReading) (most : Int), ((readCell r s).chg.st ≠ .fastCv ∨ ((readCell r s).fld Ix.CHG_CURRENT 16 16 : Int) ≤ most) ∧
      Ready (.chgTermination r most) s) ∧
    (∃ (s : State) (r : CellReading) (most : Nat), ((readCell r s).chg.st = .done ∧ most < (chem (readCell r s)).recharge ∧
      chgOk (readCell r s) = true) ∧ Ready (.chgRechargeStart r most) s) ∧
    (∃ (s : State) (r : CellReading) (most : Nat), (readCell r s).chg.st ≠ .done ∧ Ready (.chgRechargeStart r most) s) :=
  ⟨⟨(updChg (fun c => { c with st := .precharge }) (up)), cell0, 3101, ⟨(by decide +kernel), (readyOf (by decide +kernel))⟩⟩,
    ⟨up, cell0, 0, ⟨(by decide +kernel), (readyOf (by decide +kernel))⟩⟩,
    ⟨(updChg (fun c => { c with st := .fastCc }) (up)), ({ cell0 with mv := 4200 }), ⟨(by decide +kernel), (readyOf (by decide +kernel))⟩⟩,
    ⟨up, cell0, ⟨(by decide +kernel), (readyOf (by decide +kernel))⟩⟩,
    ⟨(updChg (fun c => { c with st := .fastCv }) (up)), cell0, -1, ⟨(by decide +kernel), (readyOf (by decide +kernel))⟩⟩,
    ⟨up, cell0, 0, ⟨(by decide +kernel), (readyOf (by decide +kernel))⟩⟩,
    ⟨(updChg (fun c => { c with st := .done, present := true, window := 2, input := 1 }) (up)), cell0, 4000, ⟨(by decide +kernel),
      (readyOf (by decide +kernel))⟩⟩,
    ⟨up, cell0, 0, ⟨(by decide +kernel), (readyOf (by decide +kernel))⟩⟩⟩

theorem wit_ChargeStates_2 :
    (∃ (s : State), ∃ (from_ : Nat), s.chg.timerFrom = some from_ ∧ s.chg.st = .precharge ∧ Ready .chgTimerExpiry s) ∧
    (∃ (s : State), ∃ (from_ : Nat), s.chg.timerFrom = some from_ ∧ s.chg.st ≠ .precharge ∧ Ready .chgTimerExpiry s) ∧
    (∃ (s : State), s.chg.timerFrom = none ∧ Ready .chgTimerExpiry s) ∧
    (∃ (s : State) (r : CellReading) (most : Nat), (s.chg.aoOnCell = true ∧ most < (chem (readCell r s)).empty) ∧ Ready (.cellCutoff r most) s) ∧
    (∃ (s : State) (r : CellReading) (most : Nat), (s.chg.aoOnCell = false ∧ bkoOn (readCell r s) = true ∧ s.chg.railUp = false ∧
      most < (chem (readCell r s)).empty) ∧ Ready (.cellCutoff r most) s) ∧
    (∃ (s : State) (r : CellReading), ((readCell r s).chg.cutOff = true ∧ isCharging (readCell r s).chg.st = true ∧
      (chem (readCell r s)).empty + 200 < r.mv) ∧ Ready (.cellCutoffEnd r) s) ∧
    (∃ (s : State) (r : CellReading), (readCell r s).chg.cutOff = false ∧ Ready (.cellCutoffEnd r) s) ∧
    (∃ (s : State) (least : Int) (most : Int) (stay : Bool), (s.chg.aoOnCell = false ∧ most < -500) ∧
      Ready (.chgFaultDetect 0 least most stay) s) :=
  ⟨⟨(updChg (fun c => { c with st := .precharge, timerFrom := some 900 }) (up)), someOf (by decide +kernel) (⟨(by decide +kernel),
      (readyOf (by decide +kernel))⟩)⟩,
    ⟨(updChg (fun c => { c with st := .fastCc, timerFrom := some 900 }) (up)), someOf (by decide +kernel) (⟨(by decide +kernel),
      (readyOf (by decide +kernel))⟩)⟩,
    ⟨(fun u : State => { u with chg := { u.chg with timerFrom := none } }) (up), ⟨(by decide +kernel), (readyOf (by decide +kernel))⟩⟩,
    ⟨(fun u : State => { u with chg := { u.chg with aoOnCell := true } }) (up), cell0, 0, ⟨(by decide +kernel), (readyOf (by decide +kernel))⟩⟩,
    ⟨(updChg (fun c => { c with present := true }) (wd Ix.CHG_BKO_CFG 31 up)), cell0, 0, ⟨(by decide +kernel), (readyOf (by decide +kernel))⟩⟩,
    ⟨(updChg (fun c => { c with st := .fastCc, cutOff := true }) (up)), cell0, ⟨(by decide +kernel), (readyOf (by decide +kernel))⟩⟩,
    ⟨up, cell0, ⟨(by decide +kernel), (readyOf (by decide +kernel))⟩⟩,
    ⟨up, 0, -501, false, ⟨(by decide +kernel), (readyOf (by decide +kernel))⟩⟩⟩

theorem wit_ChargeStates_3 :
    (∃ (s : State) (least : Int) (most : Int) (stay : Bool), (s.chg.aoOnCell = false ∧ -500 ≤ most) ∧
      Ready (.chgFaultDetect 0 least most stay) s) ∧
    (∃ (s : State) (least : Int) (most : Int) (stay : Bool), 700 < least ∧
      let u := latchChg 5 (updChg (fun d => { d with conds := d.conds.set 5 true }) s); s.chg.aoOnCell = false ∧
      Ready (.chgFaultDetect 5 least most stay) s) ∧
    (∃ (s : State) (least : Int) (most : Int) (stay : Bool), 700 < least ∧
      let u := latchChg 5 (updChg (fun d => { d with conds := d.conds.set 5 true }) s); s.chg.aoOnCell = true ∧
      Ready (.chgFaultDetect 5 least most stay) s) ∧
    (∃ (s : State) (least : Int) (most : Int) (stay : Bool), (650 ≤ most ∧ least ≤ 700) ∧ Ready (.chgFaultDetect 5 least most stay) s) ∧
    (∃ (s : State) (least : Int) (most : Int), (s.chg.aoOnCell = false ∧ ((chem s).overMv : Int) < least) ∧
      Ready (.chgFaultDetect 2 least most false) s) ∧
    (∃ (s : State) (r : Requester), mayRead r Ix.CHG_FAULTS (noteRequest r s) = true ∧ Ready (.chgFaultsRead r) s ∧ Ready (.chgFaultsRead r) s) ∧
    (∃ (s : State) (r : CellReading) (least : Nat) (drop : Nat), (cellUsed s = true ∧ s.modes.mode ≠ .park ∧ isCharging s.chg.st = false ∧
      1000 < least ∧ drop ≤ 100) ∧ Ready (.cellProbe r least drop) s) ∧
    (∃ (s : State) (r : CellReading) (least : Nat) (drop : Nat), (cellUsed s = true ∧ s.modes.mode ≠ .park ∧ isCharging s.chg.st = false ∧
      (least ≤ 1000 ∨ 100 < drop)) ∧ Ready (.cellProbe r least drop) s) :=
  ⟨⟨(fun u : State => { u with chg := { u.chg with aoOnCell := false } }) (up), 0, 0, false, ⟨(by decide +kernel),
      (readyOf (by decide +kernel))⟩⟩,
    ⟨(fun u : State => { u with chg := { u.chg with aoOnCell := false } }) (up), 701, 0, false, ⟨(by decide +kernel), ⟨(by decide +kernel),
      (readyOf (by decide +kernel))⟩⟩⟩,
    ⟨(fun u : State => { u with chg := { u.chg with aoOnCell := true } }) (up), 701, 0, false, ⟨(by decide +kernel), ⟨(by decide +kernel),
      (readyOf (by decide +kernel))⟩⟩⟩,
    ⟨up, 0, 650, false, ⟨(by decide +kernel), (readyOf (by decide +kernel))⟩⟩,
    ⟨up, 4351, 0, ⟨(by decide +kernel), (readyOf (by decide +kernel))⟩⟩,
    ⟨(withPriv 0 2 (up)), .host, ⟨(by decide +kernel), ⟨(readyOf (by decide +kernel)), (readyOf (by decide +kernel))⟩⟩⟩,
    ⟨up, cell0, 1001, 0, ⟨(by decide +kernel), (readyOf (by decide +kernel))⟩⟩,
    ⟨up, cell0, 0, 0, ⟨(by decide +kernel), (readyOf (by decide +kernel))⟩⟩⟩

theorem wit_ChargeStates_4 :
    (∃ (s : State) (r : CellReading) (least : Nat) (drop : Nat), isCharging s.chg.st = true ∧ Ready (.cellProbe r least drop) s) ∧
    (∃ (s : State) (r : CellReading), ((readCell r s).chg.present = true ∧ (readCell r s).chg.socValid = false ∧
      (readCell r s).fld Ix.CHG_CFG 0 2 < 2 ∧ dwellOver (readCell r s).chg.calmFrom 0 (secP 1800) (readCell r s) = true) ∧ Ready (.socSeed r) s) ∧
    (∃ (s : State) (r : CellReading), ((readCell r s).chg.socValid = true ∨ 2 ≤ (readCell r s).fld Ix.CHG_CFG 0 2) ∧ Ready (.socSeed r) s) :=
  ⟨⟨(updChg (fun c => { c with st := .fastCc }) (up)), cell0, 0, 0, ⟨(by decide +kernel), (readyOf (by decide +kernel))⟩⟩,
    ⟨(updChg (fun c => { c with present := true, calmFrom := some 900 }) (up)), ({ cell0 with at_ := 72000001000 }), ⟨(by decide +kernel),
      (readyOf (by decide +kernel))⟩⟩,
    ⟨(updChg (fun c => { c with socValid := true }) (up)), cell0, ⟨(by decide +kernel), (readyOf (by decide +kernel))⟩⟩⟩

theorem wit_CanTransmission_1 :
    (∃ (x : CanC), ∃ (b : TxBuf), offered x = some b) ∧
    (∃ (s : State) (c : Can) (at_ : Nat), canSends c (s.reach at_) = true ∧ ∃ (b : TxBuf), offered (s.can.ctl[c]) = some b ∧
      Ready (.canTxAttempt c at_) s) ∧
    (∃ (s : State) (c : Can) (at_ : Nat), canSends c (s.reach at_) = false ∧ Ready (.canTxAttempt c at_) s) ∧
    (∃ (s : State) (c : Can), ∃ (b : TxBuf), inAttempt c s = some b ∧ (b.single = false ∧ b.cancel = false ∧ b.next = none) ∧
      Ready (.canArbitrationLost c) s) ∧
    (∃ (s : State) (c : Can) (buf : Nat), let u := updCan c (fun _ => settleArb c s) s; ∃ (b : TxBuf),
      (u.can.ctl[c]).bufs.find? (fun y => y.buf == buf) = some b ∧ b.attempt = none) ∧
    (∃ (s : State) (r : Requester) (c : Can) (hi : Bool) (v : Word), let i := if hi then Ix.CAN_TXB_PEND_HI c.val else Ix.CAN_TXB_PEND_LO c.val;
      mayWrite r i (noteRequest r s) = true ∧ Ready (.canTxbCancel r c hi v) s) ∧
    (∃ (s : State) (c : Can) (at_ : Nat) (tdc : Nat), let u := updCan c (fun _ => settleArb c (s.reach at_)) (s.reach at_); ∃ (b : TxBuf),
      inAttempt c s = some b ∧ (b.buf < 56 ∧ inAttempt c u = some b ∧ b.frame.fdf = false ∧ testMode c (txSuccess c at_ tdc s) = 0) ∧
      let st := angleStamp c (b.attempt.getD u.now) u; Ready (.canTxSuccess c at_ tdc) s) ∧
    (∃ (s : State) (c : Can) (at_ : Nat) (kind : Nat) (fdf : Bool), let u := updCan c (fun _ => settleArb c (s.reach at_)) (s.reach at_);
      (((u.can.ctl[c]).st = .active ∨ (u.can.ctl[c]).st = .passive) ∧ testMode c u ≠ 3) ∧ Ready (.canErrorFrame c at_ kind false false fdf 0) s) :=
  ⟨⟨({ CanC.reset with bufs := [txb] }), (someOf0 (by decide +kernel))⟩,
    ⟨(updCan 0 (fun y => { y with st := .active, bufs := [txb] }) (up)), 0, 2000, ⟨(by decide +kernel),
      someOf (by decide +kernel) ((readyOf (by decide +kernel)))⟩⟩,
    ⟨up, 0, 0, ⟨(by decide +kernel), (readyOf (by decide +kernel))⟩⟩,
    ⟨(updCan 0 (fun y => { y with st := .active, bufs := [{ txb with attempt := some 900 }] }) (up)), 0,
      someOf (by decide +kernel) (⟨(by decide +kernel), (readyOf (by decide +kernel))⟩)⟩,
    ⟨(updCan 0 (fun y => { y with st := .active, bufs := [txb] }) (up)), 0, 5, someOf (by decide +kernel) ((by decide +kernel))⟩,
    ⟨(withPriv 0 2 upWs), .host, 0, false, 0, ⟨(by decide +kernel), (readyOf (by decide +kernel))⟩⟩,
    ⟨(updCan 0 (fun y => { y with st := .active, bufs := [{ txb with attempt := some 900 }] }) (wd (Ix.CAN_STAMP 0) 0 up)), 0, 10000, 0,
      someOf (by decide +kernel) (⟨(by decide +kernel), (readyOf (by decide +kernel))⟩)⟩,
    ⟨(updCan 0 (fun y => { y with st := .active }) (up)), 0, 0, 0, false, ⟨(by decide +kernel), (readyOf (by decide +kernel))⟩⟩⟩

theorem wit_CanTransmission_2 :
    (∃ (s : State) (c : Can) (at_ : Nat), (s.flag (Ix.CAN_CFG c.val) 2 = false ∧ (s.can.ctl[c]).st = .active) ∧
      Ready (.canProtocolException c at_) s) ∧
    (∃ (s : State) (c : Can), ((s.can.ctl[c]).st = .busOff ∧ (s.can.ctl[c]).recovering = false ∧ s.fld (Ix.CAN_BUSOFF c.val) 0 2 = 0) ∧
      Ready (.canBusoffHoldExpiry c) s) ∧
    (∃ (s : State) (c : Can) (at_ : Nat), ((s.can.ctl[c]).st = .busOff ∧ (s.can.ctl[c]).recovering = true) ∧ Ready (.canRecoveryDone c at_) s) ∧
    (∃ (s : State) (r : Requester) (c : Can), (mayWrite r (Ix.CAN_RECOVER c.val) (noteRequest r s) = true ∧
      (valueOk (Ix.CAN_RECOVER c.val) 1 (noteRequest r s) && crossWritten (Ix.CAN_RECOVER c.val) 1 (noteRequest r s)) = true ∧
      (s.can.ctl[c]).st = .busOff ∧ s.fld (Ix.CAN_BUSOFF c.val) 0 2 = 1) ∧ Ready (.canRecoverWrite r c 1) s) ∧
    (∃ (s : State) (c : Can) (at_ : Nat), (s.can.ctl[c]).st ≠ .off ∧ Ready (.canBusStuck c at_) s) ∧
    (∃ (s : State) (c : Can), ∃ (b : TxBuf), inAttempt c s = some b) ∧
    (∃ (s : State) (c : Can) (at_ : Nat), ((s.can.ctl[c]).st = .integrating ∧ (s.can.ctl[c]).stuck = false) ∧
      Ready (.canIntegrationComplete c at_) s) ∧
    (∃ (s : State) (c : Can) (at_ : Nat), ((s.can.ctl[c]).timingWait = true ∧ (s.can.ctl[c]).bufs.any (fun b => begunNow c b s) = false ∧
      (s.can.ctl[c]).st ≠ .sleep ∧ (s.can.ctl[c]).st ≠ .busOff) ∧ let t := canIntegrate c (s.reach at_); Ready (.canTimingApply c at_) s) :=
  ⟨⟨(updCan 0 (fun y => { y with st := .active }) (State.putFld (up) (Ix.CAN_CFG 0) 2 1 0)), 0, 0, ⟨(by decide +kernel),
      (readyOf (by decide +kernel))⟩⟩,
    ⟨(State.putFld (updCan 0 (fun y => { y with recovering := false }) (updCan 0 (fun y => { y with st := .busOff }) (up))) (Ix.CAN_BUSOFF 0) 0 2 0),
      0, ⟨(by decide +kernel), (readyOf (by decide +kernel))⟩⟩,
    ⟨(updCan 0 (fun y => { y with recovering := true }) (updCan 0 (fun y => { y with st := .busOff }) (up))), 0, 0, ⟨(by decide +kernel),
      (readyOf (by decide +kernel))⟩⟩,
    ⟨(State.putFld (updCan 0 (fun y => { y with st := .busOff }) (withPriv 0 2 upWs)) (Ix.CAN_BUSOFF 0) 0 2 1), .host, 0, ⟨(by decide +kernel),
      (readyOf (by decide +kernel))⟩⟩,
    ⟨(updCan 0 (fun y => { y with st := .integrating }) (up)), 0, 0, ⟨(by decide +kernel), (readyOf (by decide +kernel))⟩⟩,
    ⟨(updCan 0 (fun y => { y with st := .active, bufs := [{ txb with attempt := some 900 }] }) (up)), 0, (someOf0 (by decide +kernel))⟩,
    ⟨(updCan 0 (fun y => { y with stuck := false }) (updCan 0 (fun y => { y with st := .integrating }) (up))), 0, 0, ⟨(by decide +kernel),
      (readyOf (by decide +kernel))⟩⟩,
    ⟨(updCan 0 (fun y => { y with timingWait := true }) (up)), 0, 0, ⟨(by decide +kernel), (readyOf (by decide +kernel))⟩⟩⟩

theorem wit_CanTransmission_3 :
    (∃ (s : State) (c : Can) (at_ : Nat), (s.can.ctl[c]).bufs.any (fun b => begunNow c b s) = true ∧ Ready (.canTimingApply c at_) s) ∧
    (∃ (s : State) (c : Can) (at_ : Nat), (s.can.ctl[c]).timingWait = false ∧ Ready (.canTimingApply c at_) s) ∧
    (∃ (s : State) (r : Requester) (c : Can) (v : Word), (mayWrite r (Ix.CAN_TEST c.val) (noteRequest r s) = true ∧
      (valueOk (Ix.CAN_TEST c.val) v (noteRequest r s) && crossWritten (Ix.CAN_TEST c.val) v (noteRequest r s)) = true) ∧
      Ready (.canTestWrite r c v) s) :=
  ⟨⟨({ updCan 0 (fun y => { y with st := .active, bufs := [{ txb with attempt := some 900 }] }) (up) with now := 10000000 }), 0, 0,
      ⟨(by decide +kernel), (readyOf (by decide +kernel))⟩⟩,
    ⟨(updCan 0 (fun y => { y with timingWait := false }) (up)), 0, 0, ⟨(by decide +kernel), (readyOf (by decide +kernel))⟩⟩,
    ⟨(withPriv 0 2 upWs), .host, 0, 0, ⟨(by decide +kernel), (readyOf (by decide +kernel))⟩⟩⟩

theorem wit_CanReception_1 :
    (∃ (s : State) (c : Can) (at_ : Nat) (sof : Nat) (f : CanFrame), (s.can.ctl[c]).st = .active ∧
      let u := leaveStandby (rxGood c (s.reach at_)); ((wufAny c f u && decide (c.val < 2)) = false ∧ f.rtr = false ∧ isNmFrame c f u = false ∧
      serviceMatch c f u = false) ∧ Ready (.canFrameReceived c at_ sof f) s) ∧
    (∃ (s : State) (c : Can) (at_ : Nat) (sof : Nat) (f : CanFrame), (s.can.ctl[c]).st = .busOff ∧ Ready (.canFrameReceived c at_ sof f) s) ∧
    (∃ (s : State) (c : Can) (f : CanFrame), (s.can.ctl[c]).noRx = false ∧ firstMatch c f s = none) ∧
    (∃ (s : State) (c : Can) (f : CanFrame), (s.can.ctl[c]).noRx = false ∧ ∃ (m : CanFrameCfg × Nat), firstMatch c f s = some m ∧
      s.procs.app = .running) ∧
    (∃ (s : State) (c : Can) (f : CanFrame), (s.can.ctl[c]).noRx = false ∧ ∃ (m : CanFrameCfg × Nat), firstMatch c f s = some m ∧
      s.procs.app ≠ .running ∧ (s.can.ctl[c]).rx.length < 64) ∧
    (∃ (s : State) (c : Can) (f : CanFrame), (s.can.ctl[c]).noRx = false ∧ ∃ (m : CanFrameCfg × Nat), firstMatch c f s = some m ∧
      s.procs.app ≠ .running ∧ 64 ≤ (s.can.ctl[c]).rx.length) ∧
    (∃ (s : State) (c : Can) (n : Nat), ∃ (f : CanFrameCfg), s.can.db.frames[n]? = some f ∧ ∃ (e : CanEntry), s.can.entries[n]? = some e ∧
      (f.chan = c.val ∧ f.tx = false ∧ f.time ≠ 0 ∧ e.stale = false ∧ (s.nm.can[c]).st = .awake) ∧ Ready (.canRxTimeout false n) s) ∧
    (∃ (s : State) (n : Nat) (t : Nat), ∃ (f : LinFrameCfg), s.lin.sched.frames[n]? = some f ∧ (f.dir = 0 ∧ f.timeout ≠ 0 ∧
      s.lin.rx.find? (·.1 == n) = some (n, t, false)) ∧ Ready (.canRxTimeout true n) s) :=
  ⟨⟨(updCan 0 (fun y => { y with st := .active }) (up)), 0, 0, 0, c0, ⟨(by decide +kernel), ⟨(by decide +kernel),
      (readyOf (by decide +kernel))⟩⟩⟩,
    ⟨(updCan 0 (fun y => { y with st := .busOff }) (up)), 0, 0, 0, c0, ⟨(by decide +kernel), (readyOf (by decide +kernel))⟩⟩,
    ⟨(updCan 0 (fun y => { y with noRx := false }) (up)), 0, c0, (by decide +kernel)⟩,
    ⟨(canDb (updCan 0 (fun y => { y with st := .active }) (up))), 0, c0, ⟨(by decide +kernel),
      someOf (by decide +kernel) ((by decide +kernel))⟩⟩,
    ⟨(fun u : State => { u with procs := { u.procs with app := .loading } }) (canDb (updCan 0 (fun y => { y with st := .active }) (up))), 0, c0,
      ⟨(by decide +kernel), someOf (by decide +kernel) ((by decide +kernel))⟩⟩,
    ⟨(fun u : State => { u with procs := { u.procs with app := .loading } }) (canDb (updCan 0 (fun y => { y with st := .active, rx := List.replicate 64 (c0, 900) }) (up))),
      0, c0, ⟨(by decide +kernel), someOf (by decide +kernel) ((by decide +kernel))⟩⟩,
    ⟨(updNm 0 (fun y => { y with st := .awake }) (canDb (updCan 0 (fun y => { y with st := .active }) (up)))), 0, 0,
      someOf (by decide +kernel) (someOf (by decide +kernel) (⟨(by decide +kernel), (readyOf (by decide +kernel))⟩))⟩,
    ⟨(linDb 0 0 up), 0, 900, someOf (by decide +kernel) (⟨(by decide +kernel), (readyOf (by decide +kernel))⟩)⟩⟩

theorem wit_CanReception_2 :
    (∃ (s : State) (slot : Nat) (c : Can) (b : Nat), ∃ (e : Event) (u : State), takeEvent slot s = some (e, u) ∧ (e.spec.act = .canRelease c b ∧
      b ≠ 56) ∧ Ready (.eventCanRelease slot) s) ∧
    (∃ (s : State) (slot : Nat) (c : Can), ∃ (e : Event) (u : State), takeEvent slot s = some (e, u) ∧ e.spec.act = .canRelease c 56 ∧
      Ready (.eventCanRelease slot) s) ∧
    (∃ (s : State) (r : Requester) (v : Word), (mayWrite r Ix.CAN_RX_SEL (noteRequest r s) = true ∧
      (valueOk Ix.CAN_RX_SEL v (noteRequest r s) && crossWritten Ix.CAN_RX_SEL v (noteRequest r s)) = true) ∧
      let n := (cleanValue Ix.CAN_RX_SEL v).toNat % 512; Ready (.canRxSelWrite r v) s) :=
  ⟨⟨(evUp (.canRelease 0 1) true), 0, 0, 1, pairOf (by decide +kernel) (⟨(by decide +kernel), (readyOf (by decide +kernel))⟩)⟩,
    ⟨(evUp (.canRelease 0 56) true), 0, 0, pairOf (by decide +kernel) (⟨(by decide +kernel), (readyOf (by decide +kernel))⟩)⟩,
    ⟨(withPriv 0 2 upWs), .host, 0, ⟨(by decide +kernel), (readyOf (by decide +kernel))⟩⟩⟩

theorem wit_LinRows_1 :
    (∃ (s : State) (l : Lin) (at_ : Nat), linRole l s ≠ 1 ∧ Ready (.linSlotStart l at_) s) ∧
    (∃ (s : State) (l : Lin) (at_ : Nat), (linRole l s = 1 ∧ (s.nm.lin[l]).st = 1 ∧ (s.lin.ch[l]).status = 1 ∧ s.procs.app ≠ .running) ∧
      Ready (.linSlotStart l at_) s) ∧
    (∃ (s : State) (l : Lin) (at_ : Nat), (linRole l s = 1 ∧ (s.nm.lin[l]).st = 1 ∧ (s.lin.ch[l]).status = 1 ∧ s.procs.app = .running ∧
      s.band ≠ .crank) ∧ let u := s.reach (s.lin.ch[l]).nextAt; (wantTable l u = (s.lin.ch[l]).chosen ∧
      (s.lin.ch[l]).nextSlot < tableLen (s.lin.ch[l]).table s) ∧ Ready (.linSlotStart l at_) s) ∧
    (∃ (s : State) (l : Lin) (at_ : Nat) (d : List Byte) (check : Byte) (framing : Bool) (bitError : Bool), (s.lin.ch[l]).header = none ∧
      Ready (.linResponseReceived l at_ d check framing bitError) s) ∧
    (∃ (s : State) (l : Lin) (at_ : Nat) (d : List Byte) (check : Byte) (bitError : Bool), ∃ (h : LinHdr), (s.lin.ch[l]).header = some h ∧
      ∃ (n : Nat), h.entry = some n ∧ ∃ (f : LinFrameCfg), s.lin.sched.frames[n]? = some f ∧ (f.dir = 0 ∧ f.typ = 0 ∧ h.id ≠ 0x3C ∧
      check.toNat ≠ linCheck (linClassic f) h.id d) ∧ Ready (.linResponseReceived l at_ d check false bitError) s) ∧
    (∃ (s : State) (l : Lin) (at_ : Nat) (d : List Byte) (check : Byte) (bitError : Bool), ∃ (h : LinHdr), (s.lin.ch[l]).header = some h ∧
      ∃ (n : Nat), h.entry = some n ∧ ∃ (f : LinFrameCfg), s.lin.sched.frames[n]? = some f ∧ (f.dir = 0 ∧ f.typ = 0 ∧ h.id ≠ 0x3C ∧
      check.toNat = linCheck (linClassic f) h.id d) ∧ Ready (.linResponseReceived l at_ d check false bitError) s) ∧
    (∃ (s : State) (l : Lin), ∃ (h : LinHdr), (s.lin.ch[l]).header = some h ∧ ∃ (n : Nat), h.entry = some n ∧ ∃ (f : LinFrameCfg),
      s.lin.sched.frames[n]? = some f ∧ (f.dir = 0 ∧ linRole l s = 1) ∧ Ready (.linNoResponse l) s) ∧
    (∃ (s : State) (l : Lin) (at_ : Nat) (pid : Byte) (syncOk : Bool), (linRole l s = 2 ∧ (s.nm.lin[l]).st = 1) ∧
      let u := updNmLin l (fun x => { x with pulses := 0 }) (linActive l (s.reach at_));
      (syncOk = false ∨ linPid (pid.toNat % 64) ≠ pid.toNat) ∧ Ready (.linHeaderReceived l at_ pid syncOk) s) :=
  ⟨⟨up, 0, 0, ⟨(by decide +kernel), (readyOf (by decide +kernel))⟩⟩,
    ⟨(updLin 0 (fun y => { y with status := 1 }) ((fun u : State => { u with procs := { u.procs with app := .loading } }) (updNmLin 0 (fun y => { y with st := 1 }) (wd (Ix.LIN_CFG 0) 1 up)))),
      0, 0, ⟨(by decide +kernel), (readyOf (by decide +kernel))⟩⟩,
    ⟨(updLin 0 (fun y => { y with status := 1, chosen := 0, table := 0 }) (wd (Ix.LIN_SCHED 0) 0x7FF (linDb 0 0 (updNmLin 0 (fun y => { y with st := 1 }) (wd (Ix.LIN_CFG 0) 1 up))))),
      0, 0, ⟨(by decide +kernel), ⟨(by decide +kernel), (readyOf (by decide +kernel))⟩⟩⟩,
    ⟨(updLin 0 (fun y => { y with header := none }) (up)), 0, 0, [], 0, false, false, ⟨(by decide +kernel), (readyOf (by decide +kernel))⟩⟩,
    ⟨(updLin 0 (fun y => { y with header := some { id := 0x11, entry := some 0 } }) (linDb 0 0 up)), 0, 0, ([1, 2]), 0, false,
      someOf (by decide +kernel) (someOf (by decide +kernel) (someOf (by decide +kernel) (⟨(by decide +kernel),
      (readyOf (by decide +kernel))⟩)))⟩,
    ⟨(updLin 0 (fun y => { y with header := some { id := 0x11, entry := some 0 } }) (linDb 0 0 up)), 0, 0, ([1, 2]),
      (BitVec.ofNat 8 (linCheck false 0x11 [1, 2])), false,
      someOf (by decide +kernel) (someOf (by decide +kernel) (someOf (by decide +kernel) (⟨(by decide +kernel),
      (readyOf (by decide +kernel))⟩)))⟩,
    ⟨(updLin 0 (fun y => { y with header := some { id := 0x11, entry := some 0 } }) (linDb 0 0 (wd (Ix.LIN_CFG 0) 1 up))), 0,
      someOf (by decide +kernel) (someOf (by decide +kernel) (someOf (by decide +kernel) (⟨(by decide +kernel),
      (readyOf (by decide +kernel))⟩)))⟩,
    ⟨(updNmLin 0 (fun y => { y with st := 1 }) (wd (Ix.LIN_CFG 0) 2 up)), 0, 2000, 0x11, false, ⟨(by decide +kernel), ⟨(by decide +kernel),
      (readyOf (by decide +kernel))⟩⟩⟩⟩

theorem wit_LinRows_2 :
    (∃ (s : State) (l : Lin) (at_ : Nat) (pid : Byte) (syncOk : Bool), (linRole l s = 2 ∧ (s.nm.lin[l]).st = 1) ∧
      let u := updNmLin l (fun x => { x with pulses := 0 }) (linActive l (s.reach at_)); (syncOk = true ∧ linPid (pid.toNat % 64) = pid.toNat ∧
      (s.lin.sched.frames.findIdx? fun f => f.chan == l.val && f.id == pid.toNat % 64) = none) ∧ Ready (.linHeaderReceived l at_ pid syncOk) s) ∧
    (∃ (s : State) (l : Lin), let t := Nat.max (s.nm.lin[l]).readyAt (s.nm.lin[l]).needUntil + msP (100 * s.fld (Ix.NM_LIN_TIME l.val) 0 8);
      let u := s.reach (if (s.lin.ch[l]).status = 1 then Nat.max t (s.lin.ch[l]).nextAt else t); (linRole l s = 1 ∧ (s.nm.lin[l]).st = 1 ∧
      linNeed l u = false ∧ (s.lin.ch[l]).status ≠ 3 ∧ s.band ≠ .crank) ∧ Ready (.linGoToSleep l) s) ∧
    (∃ (s : State) (l : Lin), let t := Nat.max (s.nm.lin[l]).readyAt (s.nm.lin[l]).needUntil + msP (100 * s.fld (Ix.NM_LIN_TIME l.val) 0 8);
      let u := s.reach (if (s.lin.ch[l]).status = 1 then Nat.max t (s.lin.ch[l]).nextAt else t); linNeed l u = true ∧ Ready (.linGoToSleep l) s) ∧
    (∃ (s : State) (l : Lin), (linRole l s = 2 ∧ (s.nm.lin[l]).st = 1) ∧ Ready (.linResponderIdle l) s) ∧
    (∃ (s : State) (l : Lin) (at_ : Nat) (dur : Nat), dur ≤ usP 150 ∧ Ready (.linWakeDominant l at_ dur) s) ∧
    (∃ (s : State) (l : Lin) (at_ : Nat) (dur : Nat), ((s.nm.lin[l]).st = 4 ∧ usP 150 < dur ∧ s.modes.mode ≠ .park) ∧ let u := s.reach at_;
      Ready (.linWakeDominant l at_ dur) s) ∧
    (∃ (s : State) (l : Lin), (linRole l s = 2 ∧ (s.nm.lin[l]).st = 1 ∧ 0 < (s.nm.lin[l]).pulses) ∧
      let u := s.reach ((s.nm.lin[l]).pulseAt + (if (s.nm.lin[l]).pulses < 3 then msP 200 else msP 1500) + msP 1);
      Ready (.linWakePulseTimeout l) s) :=
  ⟨⟨(updNmLin 0 (fun y => { y with st := 1 }) (wd (Ix.LIN_CFG 0) 2 up)), 0, 2000, (BitVec.ofNat 8 (linPid 0x11)), true, ⟨(by decide +kernel),
      ⟨(by decide +kernel), (readyOf (by decide +kernel))⟩⟩⟩,
    ⟨(updLin 0 (fun y => { y with status := 2 }) (wd (Ix.NM_LIN_CFG 0) 0x7FF (updNmLin 0 (fun y => { y with st := 1 }) (wd (Ix.LIN_CFG 0) 1 up)))),
      0, ⟨(by decide +kernel), (readyOf (by decide +kernel))⟩⟩,
    ⟨(inMode .ride up), 0, ⟨(by decide +kernel), (readyOf (by decide +kernel))⟩⟩,
    ⟨(updNmLin 0 (fun y => { y with st := 1 }) (wd (Ix.LIN_CFG 0) 2 up)), 0, ⟨(by decide +kernel), (readyOf (by decide +kernel))⟩⟩,
    ⟨up, 0, 0, 0, ⟨(by decide +kernel), (readyOf (by decide +kernel))⟩⟩,
    ⟨(updNmLin 0 (fun y => { y with st := 4 }) (wd (Ix.LIN_CFG 0) 2 up)), 0, 0, 6001, ⟨(by decide +kernel), (readyOf (by decide +kernel))⟩⟩,
    ⟨(updNmLin 0 (fun y => { y with st := 1, pulses := 1, pulseAt := 900 }) (wd (Ix.LIN_CFG 0) 2 up)), 0, ⟨(by decide +kernel),
      (readyOf (by decide +kernel))⟩⟩⟩

theorem wit_NmSleepRows_1 :
    (∃ (s : State) (ch : Fin 5) (at_ : Nat) (c : Can), (ch.val = c.val ∧ realNeed c (s.reach at_) = false ∧ ownNeed c (s.reach at_) = false ∧
      (s.nm.can[c]).st = .awake) ∧ Ready (.nmOwnNeedChange ch at_) s) ∧
    (∃ (s : State) (ch : Fin 5) (at_ : Nat) (c : Can), (ch.val = c.val ∧ realNeed c (s.reach at_) = false ∧ ownNeed c (s.reach at_) = true ∧
      (s.nm.can[c]).st = .ready) ∧ Ready (.nmOwnNeedChange ch at_) s) ∧
    (∃ (s : State) (c : Can), ((s.nm.can[c]).st = .ready ∧ nmRole c s = 1 ∧ ownNeed c s = false) ∧ Ready (.nmReadyExpiry c) s) ∧
    (∃ (s : State) (c : Can), (s.nm.can[c]).st ≠ .ready ∧ Ready (.nmReadyExpiry c) s) ∧
    (∃ (s : State) (c : Can), ((s.nm.can[c]).st = .prepare ∧ nmRole c s = 1 ∧ (s.nm.can[c]).silence = false) ∧ Ready (.nmSleepCmdSend c) s) ∧
    (∃ (s : State) (c : Can), (s.nm.can[c]).st ≠ .prepare ∧ Ready (.nmSleepCmdSend c) s ∧ Ready (.nmSilenceExpiry c) s ∧
      Ready (.nmOffenderTimeout c) s) ∧
    (∃ (s : State) (c : Can), ((s.nm.can[c]).st = .prepare ∧ (s.nm.can[c]).silence = true) ∧ Ready (.nmSilenceExpiry c) s) ∧
    (∃ (s : State) (c : Can), ((s.nm.can[c]).st = .prepare ∧ (s.nm.can[c]).silence = true ∧ nmRole c s = 1) ∧
      let u := s.reach ((s.nm.can[c]).s1End + nmOffender c s); (s.flag (Ix.NM_CFG c.val) 8 = true ∧ (s.nm.can[c]).heldSince = false ∧
      (s.nm.can[c]).matchedSince = false) ∧ Ready (.nmOffenderTimeout c) s) :=
  ⟨⟨(updNm 0 (fun y => { y with st := .awake }) (up)), 0, 0, 0, ⟨(by decide +kernel), (readyOf (by decide +kernel))⟩⟩,
    ⟨(updNm 0 (fun y => { y with st := .ready, wakeUntil := 5000 }) (wd (Ix.NM_CFG 0) (1 + 0x7FF * 1024) up)), 0, 2000, 0, ⟨(by decide +kernel),
      (readyOf (by decide +kernel))⟩⟩,
    ⟨(updNm 0 (fun y => { y with st := .ready }) (wd (Ix.NM_CFG 0) (1 + 0x7FF * 1024) up)), 0, ⟨(by decide +kernel),
      (readyOf (by decide +kernel))⟩⟩,
    ⟨up, 0, ⟨(by decide +kernel), (readyOf (by decide +kernel))⟩⟩,
    ⟨(updNm 0 (fun y => { y with st := .prepare }) (wd (Ix.NM_CFG 0) (1 + 0x7FF * 1024) up)), 0, ⟨(by decide +kernel),
      (readyOf (by decide +kernel))⟩⟩,
    ⟨up, 0, ⟨(by decide +kernel), ⟨(readyOf (by decide +kernel)), ⟨(readyOf (by decide +kernel)), (readyOf (by decide +kernel))⟩⟩⟩⟩,
    ⟨(updNm 0 (fun y => { y with silence := true }) (updNm 0 (fun y => { y with st := .prepare }) (up))), 0, ⟨(by decide +kernel),
      (readyOf (by decide +kernel))⟩⟩,
    ⟨(updNm 0 (fun y => { y with st := .prepare, silence := true }) (wd (Ix.NM_CFG 0) (1 + 0x7FF * 1024 + 256) up)), 0, ⟨(by decide +kernel),
      ⟨(by decide +kernel), (readyOf (by decide +kernel))⟩⟩⟩⟩

theorem wit_NmSleepRows_2 :
    (∃ (s : State) (c : Can), ((s.nm.can[c]).st = .prepare ∧ (s.nm.can[c]).silence = true ∧ nmRole c s = 1) ∧
      let u := s.reach ((s.nm.can[c]).s1End + nmOffender c s); (s.flag (Ix.NM_CFG c.val) 8 = false ∧ (s.nm.can[c]).offenderSaid = true) ∧
      Ready (.nmOffenderTimeout c) s) ∧
    (∃ (s : State) (c : Can), (nmRole c s = 0 ∧ (s.nm.can[c]).st = .awake ∧ ownNeed c s = false) ∧ Ready (.nmIdleTimeout c) s) ∧
    (∃ (s : State) (c : Can), (nmRole c s = 2 ∧ ((s.nm.can[c]).st = .awake ∨ (s.nm.can[c]).st = .ready)) ∧
      let u := updNm c (fun y => { y with lostSaid := true }) (s.reach ((s.nm.can[c]).masterAt + nmIdle c s)); ((s.nm.can[c]).lostSaid = true ∧
      ownNeed c u = false) ∧ Ready (.nmIdleTimeout c) s) ∧
    (∃ (s : State) (c : Can), (nmRole c s = 2 ∧ ((s.nm.can[c]).st = .awake ∨ (s.nm.can[c]).st = .ready)) ∧
      let u := updNm c (fun y => { y with lostSaid := true }) (s.reach ((s.nm.can[c]).masterAt + nmIdle c s)); ((s.nm.can[c]).lostSaid = true ∧
      ownNeed c u = true) ∧ Ready (.nmIdleTimeout c) s) ∧
    (∃ (s : State) (c : Can), (nmRole c s = 2 ∧ ((s.nm.can[c]).st = .awake ∨ (s.nm.can[c]).st = .ready)) ∧
      let u := updNm c (fun y => { y with lostSaid := true }) (s.reach ((s.nm.can[c]).masterAt + nmIdle c s)); ((s.nm.can[c]).lostSaid = false ∧
      ownNeed c (report 0xA01 c.val u) = false) ∧ Ready (.nmIdleTimeout c) s) ∧
    (∃ (s : State) (c : Can), nmRole c s = 1 ∧ Ready (.nmIdleTimeout c) s) ∧
    (∃ (s : State) (c : Can) (at_ : Nat) (f : CanFrame), ((s.can.ctl[c]).st = .active ∧ isNmFrame c f (s.reach at_) = true) ∧
      let u := (rxGood c (s.reach at_)).bump (Ix.CAN_RX_COUNT c.val) 0 16; Ready (.nmFrameReceived c at_ f) s) ∧
    (∃ (s : State) (c : Can) (at_ : Nat) (f : CanFrame), isNmFrame c f (s.reach at_) = false ∧ Ready (.nmFrameReceived c at_ f) s) :=
  ⟨⟨(updNm 0 (fun y => { y with st := .prepare, silence := true, offenderSaid := true }) (wd (Ix.NM_CFG 0) (1 + 0x7FF * 1024) up)), 0,
      ⟨(by decide +kernel), ⟨(by decide +kernel), (readyOf (by decide +kernel))⟩⟩⟩,
    ⟨(updNm 0 (fun y => { y with st := .awake }) (up)), 0, ⟨(by decide +kernel), (readyOf (by decide +kernel))⟩⟩,
    ⟨(updNm 0 (fun y => { y with st := .awake, lostSaid := true }) (wd (Ix.NM_CFG 0) (2 + 0x7FF * 1024) up)), 0, ⟨(by decide +kernel),
      ⟨(by decide +kernel), (readyOf (by decide +kernel))⟩⟩⟩,
    ⟨(updNm 0 (fun y => { y with st := .awake, lostSaid := true, wakeUntil := 400000000000 }) (wd (Ix.NM_CFG 0) (2 + 0x7FF * 1024) up)), 0,
      ⟨(by decide +kernel), ⟨(by decide +kernel), (readyOf (by decide +kernel))⟩⟩⟩,
    ⟨(updNm 0 (fun y => { y with st := .awake }) (wd (Ix.NM_CFG 0) (2 + 0x7FF * 1024) up)), 0, ⟨(by decide +kernel), ⟨(by decide +kernel),
      (readyOf (by decide +kernel))⟩⟩⟩,
    ⟨(wd (Ix.NM_CFG 0) (1 + 0x7FF * 1024) up), 0, ⟨(by decide +kernel), (readyOf (by decide +kernel))⟩⟩,
    ⟨(wd (Ix.NM_BASE 0) 0x500 (updCan 0 (fun y => { y with st := .active }) (wd (Ix.NM_CFG 0) (1 + 0x7FF * 1024) up))), 0, 2000,
      ({ c0 with id := 0x505, data := [5, 1, 0, 0, 0, 0, 0, 0] }), ⟨(by decide +kernel), (readyOf (by decide +kernel))⟩⟩,
    ⟨up, 0, 0, c0, ⟨(by decide +kernel), (readyOf (by decide +kernel))⟩⟩⟩

theorem wit_NmSleepRows_3 :
    (∃ (s : State) (c : Can) (u : State), ∃ (e : Event), (nmEvents c s).find? (fun x => x.spec.rep == 0) = some e ∧
      takeEvent e.slot s = some (e, u) ∧ Ready (.nmCycleSend c) s) ∧
    (∃ (s : State) (c : Can), (nmEvents c s).find? (fun x => x.spec.rep == 0) = none ∧ Ready (.nmCycleSend c) s) :=
  ⟨⟨(withEvents up [{ ev0 (.canRelease 0 56) true with spec := { p0 with act := .canRelease 0 56, rep := 0, period := 4000 } }]), 0,
      ((takeEvent 0 (withEvents up [{ ev0 (.canRelease 0 56) true with spec := { p0 with act := .canRelease 0 56, rep := 0, period := 4000 } }])).get (by decide +kernel)).2,
      someOf (by decide +kernel) (⟨(by decide +kernel), (readyOf (by decide +kernel))⟩)⟩,
    ⟨up, 0, ⟨(by decide +kernel), (readyOf (by decide +kernel))⟩⟩⟩

theorem wit_BusWakes_1 :
    (∃ (s : State) (c : Can) (at_ : Nat), (s.modes.mode ≠ .park ∧ selWake c s = false) ∧ Ready (.busWakePattern c at_) s) ∧
    (∃ (s : State) (c : Can) (at_ : Nat), (s.modes.mode ≠ .park ∧ selWake c s = true) ∧ Ready (.busWakePattern c at_) s) ∧
    (∃ (s : State) (c : Can), (s.nm.can[c]).st ≠ .busSleep ∧ (s.nm.can[c]).st ≠ .silent) ∧
    (∃ (s : State) (c : Can) (kind : Nat), ((s.nm.can[c]).st = .busSleep ∨ (s.nm.can[c]).st = .silent) ∧ kind ≠ 1) ∧
    (∃ (s : State) (c : Can) (at_ : Nat) (f : CanFrame), (s.modes.mode ≠ .park ∧ selWake c s = true ∧ wufAny c f (s.reach at_) = true ∧
      (s.can.ctl[c]).st = .sleep) ∧ Ready (.wufMatch c at_ f) s) ∧
    (∃ (s : State) (c : Can) (at_ : Nat) (f : CanFrame), wufAny c f (s.reach at_) = false ∧ Ready (.wufMatch c at_ f) s) ∧
    (∃ (s : State) (c : Can), (selWake c s = true ∧ (s.can.ctl[c]).st = .sleep ∧ 31 < (s.nm.can[c]).decErr ∧
      (report 0xA02 c.val (s.bump (Ix.NM_COUNTS c.val) 24 8)).modes.mode ≠ .park) ∧ Ready (.wufDecoderFallback c) s) ∧
    (∃ (s : State) (c : Can), (s.nm.can[c]).decErr ≤ 31 ∧ Ready (.wufDecoderFallback c) s) :=
  ⟨⟨up, 0, 0, ⟨(by decide +kernel), (readyOf (by decide +kernel))⟩⟩,
    ⟨(wd (Ix.NM_CFG 0) 512 (wd (Ix.NM_WUF_DLC 0) 24 (wd (Ix.NM_WUF_MASK 0) 2047 (wd (Ix.NM_WUF_ID 0) 0x123 (updCan 0 (fun y => { y with st := .sleep }) (up)))))),
      0, 0, ⟨(by decide +kernel), (readyOf (by decide +kernel))⟩⟩,
    ⟨up, 0, (by decide +kernel)⟩,
    ⟨(updNm 0 (fun y => { y with st := .busSleep }) (up)), 0, 0, (by decide +kernel)⟩,
    ⟨(wd (Ix.NM_CFG 0) 512 (wd (Ix.NM_WUF_DLC 0) 24 (wd (Ix.NM_WUF_MASK 0) 2047 (wd (Ix.NM_WUF_ID 0) 0x123 (updCan 0 (fun y => { y with st := .sleep }) (up)))))),
      0, 2000, c0, ⟨(by decide +kernel), (readyOf (by decide +kernel))⟩⟩,
    ⟨up, 0, 0, c0, ⟨(by decide +kernel), (readyOf (by decide +kernel))⟩⟩,
    ⟨(updNm 0 (fun y => { y with decErr := 32 }) (wd (Ix.NM_CFG 0) 512 (wd (Ix.NM_WUF_DLC 0) 24 (wd (Ix.NM_WUF_MASK 0) 2047 (wd (Ix.NM_WUF_ID 0) 0x123 (updCan 0 (fun y => { y with st := .sleep }) (up))))))),
      0, ⟨(by decide +kernel), (readyOf (by decide +kernel))⟩⟩,
    ⟨up, 0, ⟨(by decide +kernel), (readyOf (by decide +kernel))⟩⟩⟩

theorem wit_BusWakes_2 :
    (∃ (s : State) (c : Can), ∃ (t : Nat), (s.nm.can[c]).holdEnd = some t ∧ s.pw.pw = .retain ∧
      let u := updNm c (fun x => { x with holdEnd := none, unarmed := false }) (s.reach t); Ready (.nmEscalationHoldExpiry c) s) ∧
    (∃ (s : State) (c : Can), (s.nm.can[c]).holdEnd = none ∧ Ready (.nmEscalationHoldExpiry c) s) ∧
    (∃ (s : State) (r : Requester) (v : Word), (mayWrite r Ix.NM_FW_CLEAR (noteRequest r s) = true ∧
      (valueOk Ix.NM_FW_CLEAR v (noteRequest r s) && crossWritten Ix.NM_FW_CLEAR v (noteRequest r s)) = true) ∧ Ready (.nmFwClearWrite r v) s) ∧
    (∃ (s : State) (r : Requester), (mayWrite r Ix.NM_OFF_CLEAR (noteRequest r s) = true ∧
      (valueOk Ix.NM_OFF_CLEAR 1 (noteRequest r s) && crossWritten Ix.NM_OFF_CLEAR 1 (noteRequest r s)) = true) ∧
      Ready (.nmOffClearWrite r 1) s) ∧
    (∃ (s : State) (r : Requester) (v : Word), (mayWrite r Ix.NM_OFF_SEL (noteRequest r s) = true ∧
      (valueOk Ix.NM_OFF_SEL v (noteRequest r s) && crossWritten Ix.NM_OFF_SEL v (noteRequest r s)) = true) ∧
      let k := (cleanValue Ix.NM_OFF_SEL v).toNat % 256; Ready (.nmOffSelWrite r v) s) :=
  ⟨⟨(inPower .retain (updNm 0 (fun y => { y with holdEnd := some 900 }) (up))), 0, someOf (by decide +kernel) (⟨(by decide +kernel),
      (readyOf (by decide +kernel))⟩)⟩,
    ⟨(updNm 0 (fun y => { y with holdEnd := none }) (up)), 0, ⟨(by decide +kernel), (readyOf (by decide +kernel))⟩⟩,
    ⟨(withPriv 0 2 upWs), .host, 0, ⟨(by decide +kernel), (readyOf (by decide +kernel))⟩⟩,
    ⟨(withPriv 0 2 upWs), .host, ⟨(by decide +kernel), (readyOf (by decide +kernel))⟩⟩,
    ⟨(withPriv 0 2 upWs), .host, 0, ⟨(by decide +kernel), (readyOf (by decide +kernel))⟩⟩⟩

theorem wit_FabricLinkRows :
    (∃ (s : State) (p : Port) (at_ : Nat) (ack : Bool) (frame : Option (List Byte)) (train : Nat), (s.fab.ports[p]).st = .disabled ∧
      Ready (.fabTurnReceived p at_ ack frame train) s) ∧
    (∃ (s : State) (p : Port) (at_ : Nat) (ack : Bool) (b : List Byte) (train : Nat), ((s.fab.ports[p]).st = .up ∧
      (s.fab.ports[p]).flight = none ∧ (s.fab.ports[p]).lastRx = none) ∧ ∃ (f : FabFrame), frameOf b = some f ∧
      Ready (.fabTurnReceived p at_ ack (some b) train) s) ∧
    (∃ (s : State) (p : Port) (at_ : Nat) (ack : Bool) (b : List Byte) (train : Nat), ((s.fab.ports[p]).st = .up ∧
      (s.fab.ports[p]).flight = none ∧ frameOf b = none) ∧ Ready (.fabTurnReceived p at_ ack (some b) train) s) ∧
    (∃ (s : State) (p : Port), (s.fab.ports[p]).st = .down ∧ Ready (.fabIdleTurnTimer p) s ∧ Ready (.fabLinkTimeout p) s) ∧
    (∃ (s : State) (p : Port), (s.fab.ports[p]).st = .up ∧ Ready (.fabLinkTimeout p) s ∧ Ready (.helloSendTimer p) s ∧
      Ready (.delayReqSend p) s) ∧
    (∃ (s : State) (p : Port) (at_ : Nat), (s.fab.ports[p]).st ≠ .up ∧ Ready (.leave p at_) s ∧ Ready (.helloSendTimer p) s ∧
      Ready (.delayReqSend p) s ∧ Ready (.delayReq p at_) s) ∧
    (∃ (s : State) (p : Port) (at_ : Nat) (f : FabFrame), ∃ (t1 : Nat), (s.fab.ports[p]).t1 = some t1 ∧
      let d := ((at_ - t1) - (leAt f.payload 4 4 + 2 ^ 32 - leAt f.payload 0 4) % 2 ^ 32) / 2; Ready (.delayResp p at_ f) s) ∧
    (∃ (s : State) (p : Port) (at_ : Nat) (f : FabFrame), (s.fab.ports[p]).t1 = none ∧ Ready (.delayResp p at_ f) s) :=
  ⟨⟨(updPort 0 (fun y => { y with st := .disabled }) (up)), 0, 0, false, none, 0, ⟨(by decide +kernel), (readyOf (by decide +kernel))⟩⟩,
    ⟨(updPort 0 (fun y => { y with st := .up }) (up)), 0, 0, false, (frameBytes f0), 0, ⟨(by decide +kernel),
      someOf (by decide +kernel) ((readyOf (by decide +kernel)))⟩⟩,
    ⟨(updPort 0 (fun y => { y with flight := none }) (updPort 0 (fun y => { y with st := .up }) (up))), 0, 0, false, [], 0,
      ⟨(by decide +kernel), (readyOf (by decide +kernel))⟩⟩,
    ⟨(updPort 0 (fun y => { y with st := .down }) (up)), 0, ⟨(by decide +kernel), ⟨(readyOf (by decide +kernel)),
      (readyOf (by decide +kernel))⟩⟩⟩,
    ⟨(updPort 0 (fun y => { y with st := .up }) (up)), 0, ⟨(by decide +kernel), ⟨(readyOf (by decide +kernel)), ⟨(readyOf (by decide +kernel)),
      (readyOf (by decide +kernel))⟩⟩⟩⟩,
    ⟨up, 0, 0, ⟨(by decide +kernel), ⟨(readyOf (by decide +kernel)), ⟨(readyOf (by decide +kernel)), ⟨(readyOf (by decide +kernel)),
      (readyOf (by decide +kernel))⟩⟩⟩⟩⟩,
    ⟨(updPort 0 (fun y => { y with st := .up, t1 := some 1000 }) (up)), 0, 0, f0, someOf (by decide +kernel) ((readyOf (by decide +kernel)))⟩,
    ⟨(updPort 0 (fun y => { y with t1 := none }) (up)), 0, 0, f0, ⟨(by decide +kernel), (readyOf (by decide +kernel))⟩⟩⟩

theorem wit_RollCallRows_1 :
    (∃ (s : State), s.fab.held = [] ∧ Ready .rootHoldExpiry s) ∧
    (∃ (s : State) (a : Nat) (b : Nat) (t : Nat), s.fab.held = [(a, b, t)] ∧ Ready .rootHoldExpiry s) ∧
    (∃ (s : State), (s.fab.node = .root ∧ s.fab.inEpoch = false) ∧ Ready .epochStart s) ∧
    (∃ (s : State), s.fab.node ≠ .root ∧ Ready .epochStart s) ∧
    (∃ (s : State) (p : Port) (at_ : Nat) (f : FabFrame), ((s.fab.ports[p]).st = .up ∧ s.fab.epoch = leAt f.payload 0 4 ∧
      s.fab.parent ≠ some p.val) ∧ Ready (.call p at_ f) s) ∧
    (∃ (s : State) (p : Port) (at_ : Nat) (f : FabFrame), ((s.fab.ports[p]).st = .up ∧ s.fab.node ≠ .root ∧ s.fab.epoch < leAt f.payload 0 4) ∧
      Ready (.call p at_ f) s) ∧
    (∃ (s : State) (p : Port) (at_ : Nat) (f : FabFrame), ((s.fab.ports[p]).st = .up ∧ s.fab.node = .root ∧ s.fab.inEpoch = false ∧
      s.fab.epoch < leAt f.payload 0 4) ∧ Ready (.call p at_ f) s) ∧
    (∃ (s : State) (p : Port) (at_ : Nat) (f : FabFrame), (s.fab.ports[p]).st ≠ .up ∧ Ready (.call p at_ f) s) :=
  ⟨⟨(fun u : State => { u with fab := { u.fab with held := [] } }) (up), ⟨(by decide +kernel), (readyOf (by decide +kernel))⟩⟩,
    ⟨(updFab (fun y => { y with held := [(5, 6, 900)] }) (up)), 5, 6, 900, ⟨(by decide +kernel), (readyOf (by decide +kernel))⟩⟩,
    ⟨(fun u : State => { u with fab := { u.fab with inEpoch := false } }) ((fun u : State => { u with fab := { u.fab with node := .root } }) (up)),
      ⟨(by decide +kernel), (readyOf (by decide +kernel))⟩⟩,
    ⟨up, ⟨(by decide +kernel), (readyOf (by decide +kernel))⟩⟩,
    ⟨(updFab (fun y => { y with epoch := 7 }) (updPort 0 (fun y => { y with st := .up }) (up))), 0, 0,
      ({ f0 with payload := (leBytes 7 4 ++ [0, 0, 0, 0]) }), ⟨(by decide +kernel), (readyOf (by decide +kernel))⟩⟩,
    ⟨(updPort 0 (fun y => { y with st := .up }) (up)), 0, 0, f0, ⟨(by decide +kernel), (readyOf (by decide +kernel))⟩⟩,
    ⟨(fun u : State => { u with fab := { u.fab with inEpoch := false } }) ((fun u : State => { u with fab := { u.fab with node := .root } }) (updPort 0 (fun y => { y with st := .up }) (up))),
      0, 0, f0, ⟨(by decide +kernel), (readyOf (by decide +kernel))⟩⟩,
    ⟨up, 0, 0, f0, ⟨(by decide +kernel), (readyOf (by decide +kernel))⟩⟩⟩

theorem wit_RollCallRows_2 :
    (∃ (s : State) (p : Port) (at_ : Nat) (f : FabFrame), s.fab.inEpoch = false ∧ Ready (.decline p at_ f) s ∧ Ready (.report p at_ f) s ∧
      Ready (.assign p at_ f) s ∧ Ready (.close p at_ f) s ∧ Ready (.rcWaitTimeout p) s) ∧
    (∃ (s : State) (p : Port) (at_ : Nat) (f : FabFrame), (s.fab.inEpoch = true ∧ leAt f.payload 0 4 = s.fab.epoch ∧
      (s.fab.ports[p]).child = true ∧ (finishChild p (s.reach at_)).fab.epoch = s.fab.epoch) ∧ Ready (.decline p at_ f) s) ∧
    (∃ (s : State) (p : Port) (at_ : Nat) (f : FabFrame), (s.fab.inEpoch = true ∧ leAt f.payload 0 4 = s.fab.epoch ∧
      (s.fab.ports[p]).child = true ∧ s.fab.node ≠ .root ∧ leAt f.payload 7 1 % 2 = 0) ∧ Ready (.report p at_ f) s) ∧
    (∃ (s : State) (p : Port), (s.fab.inEpoch = true ∧ (s.fab.ports[p]).child = true ∧ (s.fab.ports[p]).finished = false) ∧
      Ready (.rcWaitTimeout p) s) ∧
    (∃ (s : State) (p : Port) (at_ : Nat) (f : FabFrame), (s.fab.inEpoch = true ∧ s.fab.parent = some p.val ∧
      leAt f.payload 0 4 = s.fab.epoch) ∧ ∃ (a : Nat) (d : Nat), s.fab.mine = some (a, d) ∧ Ready (.close p at_ f) s) ∧
    (∃ (s : State) (p : Port) (at_ : Nat) (f : FabFrame), (s.fab.inEpoch = true ∧ s.fab.parent = some p.val ∧ leAt f.payload 0 4 = s.fab.epoch ∧
      s.fab.mine = none) ∧ Ready (.close p at_ f) s) ∧
    (∃ (s : State) (at_ : Nat) (f : FabFrame), (s.fab.node = .root ∧ s.fab.inEpoch = true) ∧ Ready (.linkChange at_ f) s) ∧
    (∃ (s : State) (at_ : Nat) (f : FabFrame) (q : Port), (s.fab.node = .listed ∧ s.fab.parent = some q.val) ∧ Ready (.linkChange at_ f) s) :=
  ⟨⟨(fun u : State => { u with fab := { u.fab with inEpoch := false } }) (up), 0, 0, f0, ⟨(by decide +kernel), ⟨(readyOf (by decide +kernel)),
      ⟨(readyOf (by decide +kernel)), ⟨(readyOf (by decide +kernel)), ⟨(readyOf (by decide +kernel)), (readyOf (by decide +kernel))⟩⟩⟩⟩⟩⟩,
    ⟨(updFab (fun y => { y with inEpoch := true, epoch := 7, parent := some 1, node := .listed }) (updPort 0 (fun y => { y with st := .up, child := true }) (up))),
      0, 0, ({ f0 with payload := (leBytes 7 4 ++ [0, 0, 0, 0]) }), ⟨(by decide +kernel), (readyOf (by decide +kernel))⟩⟩,
    ⟨(updFab (fun y => { y with inEpoch := true, epoch := 7, parent := some 1, node := .listed }) (updPort 0 (fun y => { y with st := .up, child := true }) (up))),
      0, 0, ({ f0 with payload := (leBytes 7 4 ++ [0, 0, 0, 0]) }), ⟨(by decide +kernel), (readyOf (by decide +kernel))⟩⟩,
    ⟨(updPort 0 (fun y => { y with finished := false }) (updPort 0 (fun y => { y with child := true }) ((fun u : State => { u with fab := { u.fab with inEpoch := true } }) (up)))),
      0, ⟨(by decide +kernel), (readyOf (by decide +kernel))⟩⟩,
    ⟨(updFab (fun y => { y with inEpoch := true, epoch := 7, parent := some 0, mine := some (5, 1) }) (updPort 0 (fun y => { y with st := .up }) (up))),
      0, 0, ({ f0 with payload := (leBytes 7 4 ++ [0, 0, 0, 0]) }), ⟨(by decide +kernel),
      pairOf (by decide +kernel) ((readyOf (by decide +kernel)))⟩⟩,
    ⟨(updFab (fun y => { y with inEpoch := true, epoch := 7, parent := some 0, mine := none }) (updPort 0 (fun y => { y with st := .up }) (up))),
      0, 0, ({ f0 with payload := (leBytes 7 4 ++ [0, 0, 0, 0]) }), ⟨(by decide +kernel), (readyOf (by decide +kernel))⟩⟩,
    ⟨(fun u : State => { u with fab := { u.fab with inEpoch := true } }) ((fun u : State => { u with fab := { u.fab with node := .root } }) (up)),
      0, f0, ⟨(by decide +kernel), (readyOf (by decide +kernel))⟩⟩,
    ⟨(updFab (fun y => { y with node := .listed, parent := some 1 }) (up)), 0, f0, 1, ⟨(by decide +kernel), (readyOf (by decide +kernel))⟩⟩⟩

theorem wit_RollCallRows_3 :
    (∃ (s : State) (r : Requester), (mayWrite r Ix.FAB_RC_CMD (noteRequest r s) = true ∧
      (valueOk Ix.FAB_RC_CMD 1 (noteRequest r s) && crossWritten Ix.FAB_RC_CMD 1 (noteRequest r s)) = true ∧ s.fab.node = .root ∧
      s.fab.inEpoch = true) ∧ Ready (.fabRcCmdWrite r 1) s) ∧
    (∃ (s : State) (r : Requester), (mayWrite r Ix.FAB_RC_CMD (noteRequest r s) = true ∧
      (valueOk Ix.FAB_RC_CMD 1 (noteRequest r s) && crossWritten Ix.FAB_RC_CMD 1 (noteRequest r s)) = true ∧ s.fab.node = .root ∧
      s.fab.inEpoch = false) ∧ Ready (.fabRcCmdWrite r 1) s) ∧
    (∃ (s : State) (r : Requester), (mayWrite r Ix.FAB_RC_CMD (noteRequest r s) = true ∧
      (valueOk Ix.FAB_RC_CMD 1 (noteRequest r s) && crossWritten Ix.FAB_RC_CMD 1 (noteRequest r s)) = true ∧ s.fab.node ≠ .root) ∧
      Ready (.fabRcCmdWrite r 1) s) ∧
    (∃ (s : State) (r : Requester) (v : Word), (mayWrite r Ix.FAB_ADDR_SEL (noteRequest r s) = true ∧
      (valueOk Ix.FAB_ADDR_SEL v (noteRequest r s) && crossWritten Ix.FAB_ADDR_SEL v (noteRequest r s)) = true) ∧
      Ready (.fabAddrSelWrite r v) s) :=
  ⟨⟨(fun u : State => { u with fab := { u.fab with inEpoch := true } }) ((fun u : State => { u with fab := { u.fab with node := .root } }) (withPriv 0 2 upWs)),
      .host, ⟨(by decide +kernel), (readyOf (by decide +kernel))⟩⟩,
    ⟨(fun u : State => { u with fab := { u.fab with inEpoch := false } }) ((fun u : State => { u with fab := { u.fab with node := .root } }) (withPriv 0 2 upWs)),
      .host, ⟨(by decide +kernel), (readyOf (by decide +kernel))⟩⟩,
    ⟨(withPriv 0 2 upWs), .host, ⟨(by decide +kernel), (readyOf (by decide +kernel))⟩⟩,
    ⟨(withPriv 0 2 upWs), .host, 0, ⟨(by decide +kernel), (readyOf (by decide +kernel))⟩⟩⟩

theorem wit_RoutedRows_1 :
    (∃ (s : State) (p : Port) (at_ : Nat) (f : FabFrame), (routedType f.typ = true ∧ f.typ ≠ 0x19 ∧ routeCode f.dst s = 1) ∧
      Ready (.routedFrame p at_ f) s) ∧
    (∃ (s : State) (p : Port) (at_ : Nat) (f : FabFrame), (routedType f.typ = true ∧ f.typ ≠ 0x19 ∧ routeCode f.dst s = 0) ∧
      Ready (.routedFrame p at_ f) s) ∧
    (∃ (s : State) (p : Port) (q : Port) (at_ : Nat) (f : FabFrame), (routedType f.typ = true ∧ f.typ ≠ 0x19 ∧ routeCode f.dst s = 2 + q.val ∧
      (s.fab.ports[q]).st = .up ∧ f.hops < 62) ∧ Ready (.routedFrame p at_ f) s) ∧
    (∃ (s : State) (p : Port) (at_ : Nat) (f : FabFrame), routedType f.typ = false ∧ Ready (.routedFrame p at_ f) s) ∧
    (∃ (s : State) (p : Port) (at_ : Nat) (f : FabFrame), mayBroadcast f.typ = false ∧ Ready (.broadcastFrame p at_ f) s) ∧
    (∃ (s : State) (p : Port) (at_ : Nat) (f : FabFrame), (mayBroadcast f.typ = true ∧ routeCode f.dst s = 1) ∧
      Ready (.broadcastFrame p at_ f) s) ∧
    (∃ (s : State) (r : Requester) (at_ : Nat) (i : Nat), mayRead r (i % 16384) (noteRequest r (s.reach at_)) = false ∧
      Ready (.readRequest r at_ [i]) s) ∧
    (∃ (s : State) (r : Requester) (at_ : Nat) (i : Nat), mayRead r (i % 16384) (noteRequest r (s.reach at_)) = true ∧ ∃ (x : ParamRow),
      paramRow (i % 16384) = some x ∧ (x.access ≠ .rc ∧ i % 16384 ≠ Ix.TT_FREE_LO) ∧ Ready (.readRequest r at_ [i]) s) :=
  ⟨⟨(updFab (fun y => { y with hasTable := true, dflt := 1 }) (up)), 0, 0, f0, ⟨(by decide +kernel), (readyOf (by decide +kernel))⟩⟩,
    ⟨up, 0, 0, f0, ⟨(by decide +kernel), (readyOf (by decide +kernel))⟩⟩,
    ⟨(updFab (fun y => { y with hasTable := true, dflt := 2 }) (updPort 0 (fun y => { y with st := .up, delay := some 10 }) (up))), 0, 0, 0, f0,
      ⟨(by decide +kernel), (readyOf (by decide +kernel))⟩⟩,
    ⟨up, 0, 0, ({ f0 with typ := 0x19 + 1 }), ⟨(by decide +kernel), (readyOf (by decide +kernel))⟩⟩,
    ⟨up, 0, 0, f0, ⟨(by decide +kernel), (readyOf (by decide +kernel))⟩⟩,
    ⟨(updFab (fun y => { y with hasTable := true, dflt := 1 }) (up)), 0, 0, ({ f0 with typ := 0x18, bcast := true }), ⟨(by decide +kernel),
      (readyOf (by decide +kernel))⟩⟩,
    ⟨up, .host, 0, 0x3FFF, ⟨(by decide +kernel), (readyOf (by decide +kernel))⟩⟩,
    ⟨(withPriv 0 2 (up)), .host, 0, 0, ⟨(by decide +kernel), someOf (by decide +kernel) (⟨(by decide +kernel), (readyOf (by decide +kernel))⟩)⟩⟩⟩

theorem wit_RoutedRows_2 :
    (∃ (s : State) (r : Requester) (at_ : Nat) (i : Nat) (v : Word),
      mayWrite r (i % 16384) (spendMeasured (noteRequest r (s.reach at_))) = false ∧ Ready (.writeRequest r at_ [(i, v)]) s) ∧
    (∃ (s : State) (at_ : Nat) (f : FabFrame), requestOf f s = none ∧ Ready (.requestReply at_ f) s ∧ Ready (.resolveReply at_ f) s ∧
      Ready (.reloadReply at_ f) s) ∧
    (∃ (s : State) (at_ : Nat) (f : FabFrame), ∃ (q : FabReq), requestOf f s = some q ∧ q.owner = 2 ∧ Ready (.requestReply at_ f) s) ∧
    (∃ (s : State) (at_ : Nat) (f : FabFrame), ∃ (q : FabReq), requestOf f s = some q ∧ q.typ = 0x1C ∧ Ready (.resolveReply at_ f) s) ∧
    (∃ (s : State) (q : Nat), ∃ (r : FabReq), s.fab.outstanding.find? (·.seq == q) = some r ∧ Ready (.requestTimeout q) s) ∧
    (∃ (s : State) (at_ : Nat) (f : FabFrame), s.fab.node ≠ .root ∧ Ready (.resolve at_ f) s) ∧
    (∃ (s : State) (at_ : Nat) (f : FabFrame), (s.fab.node = .root ∧ f.payload.length = 8) ∧ ∃ (x : AddrRec),
      (s.fab.records.find? fun r => r.listed && r.serial == ser48 (leNat f.payload)) = some x ∧ Ready (.resolve at_ f) s) ∧
    (∃ (s : State) (at_ : Nat) (f : FabFrame), (s.fab.node = .root ∧ f.payload.length = 8 ∧
      (s.fab.records.find? fun r => r.listed && r.serial == ser48 (leNat f.payload)) = none) ∧ Ready (.resolve at_ f) s) :=
  ⟨⟨up, .host, 0, 0, 0, ⟨(by decide +kernel), (readyOf (by decide +kernel))⟩⟩,
    ⟨up, 0, f0, ⟨(by decide +kernel), ⟨(readyOf (by decide +kernel)), ⟨(readyOf (by decide +kernel)), (readyOf (by decide +kernel))⟩⟩⟩⟩,
    ⟨(updFab (fun y => { y with outstanding := [{ seq := 7, dst := 5, typ := 0x12, owner := 2, mark := 0, at_ := 900 }] }) (up)), 0, f0,
      someOf (by decide +kernel) (⟨(by decide +kernel), (readyOf (by decide +kernel))⟩)⟩,
    ⟨(updFab (fun y => { y with outstanding := [{ seq := 7, dst := 5, typ := 0x1C, owner := 0, mark := 0, at_ := 900 }] }) (up)), 0, f0,
      someOf (by decide +kernel) (⟨(by decide +kernel), (readyOf (by decide +kernel))⟩)⟩,
    ⟨(updFab (fun y => { y with outstanding := [{ seq := 7, dst := 5, typ := 0x12, owner := 0, mark := 0, at_ := 900 }] }) (up)), 7,
      someOf (by decide +kernel) ((readyOf (by decide +kernel)))⟩,
    ⟨up, 0, f0, ⟨(by decide +kernel), (readyOf (by decide +kernel))⟩⟩,
    ⟨(updFab (fun y => { y with node := .root, records := [{ addr := 5, serial := 9, age := 0, listed := true }] }) (up)), 0,
      ({ f0 with payload := leBytes 9 8 }), ⟨(by decide +kernel), someOf (by decide +kernel) ((readyOf (by decide +kernel)))⟩⟩,
    ⟨(updFab (fun y => { y with node := .root }) (up)), 0, ({ f0 with payload := leBytes 9 8 }), ⟨(by decide +kernel),
      (readyOf (by decide +kernel))⟩⟩⟩

theorem wit_RoutedRows_3 :
    (∃ (s : State) (k : Nat), s.fab.domain.pubs[k]? = none ∧ Ready (.signalsSend k) s) ∧
    (∃ (s : State) (k : Nat), ∃ (p : PubCfg), s.fab.domain.pubs[k]? = some p ∧ let u := s.reach (s.fab.pubAt.getD k 0);
      let vals := ((List.range p.count).map fun i => leBytes ((s.fab.pubVals.lookup (32 * p.group + i)).getD 0).toNat 4).flatten;
      Ready (.signalsSend k) s) ∧
    (∃ (s : State) (at_ : Nat) (f : FabFrame) (x : SubCfg), ∃ (m : Resolved), memberAt f.src s = some m ∧ (s.fab.domain.subs = [x] ∧
      x.ordinal = m.ordinal ∧ x.group = leAt f.payload 0 1 ∧ x.pos < leAt f.payload 1 1) ∧ Ready (.signalsReceived at_ f) s) ∧
    (∃ (s : State) (at_ : Nat) (f : FabFrame), memberAt f.src s = none ∧ Ready (.signalsReceived at_ f) s ∧
      Ready (.domainStateReceived at_ f) s) ∧
    (∃ (s : State) (n : Nat), ∃ (c : SubCfg), s.fab.domain.subs[n]? = some c ∧ ∃ (x : SubSt), s.fab.subs[n]? = some x ∧ x.stale = false ∧
      Ready (.subscriptionTimeout n) s) ∧
    (∃ (s : State) (at_ : Nat) (f : FabFrame), ∃ (m : Resolved), memberAt f.src s = some m ∧ m.ordinal = 0 ∧
      Ready (.domainStateReceived at_ f) s) ∧
    (∃ (s : State) (at_ : Nat) (f : FabFrame), ∃ (m : Resolved), memberAt f.src s = some m ∧ (m.ordinal ≠ 0 ∧ isDomainRoot s = true ∧
      leAt f.payload 0 1 / 2 % 2 = 1) ∧ Ready (.domainStateReceived at_ f) s) ∧
    (∃ (s : State), isDomainRoot s = true ∧ Ready .domainStateSend s) :=
  ⟨⟨up, 0, ⟨(by decide +kernel), (readyOf (by decide +kernel))⟩⟩,
    ⟨(updFab (fun y => { y with domain := { y.domain with pubs := [{ group := 1, count := 1, mask := 0, period := 10 }] } }) (up)), 0,
      someOf (by decide +kernel) ((readyOf (by decide +kernel)))⟩,
    ⟨(updFab (fun y => { y with resolved := [{ ordinal := 0, addr := 5, tag := 1 }], domain := { y.domain with subs := [{ ordinal := 0, group := 1, pos := 0, typ := 0, timeout := 100 }] }, subs := [{ lastAt := 900, stale := false }] }) (up)),
      0, ({ f0 with payload := [1, 1, 5, 0, 0, 0] }), ({ ordinal := 0, group := 1, pos := 0, typ := 0, timeout := 100 }),
      someOf (by decide +kernel) (⟨(by decide +kernel), (readyOf (by decide +kernel))⟩)⟩,
    ⟨up, 0, f0, ⟨(by decide +kernel), ⟨(readyOf (by decide +kernel)), (readyOf (by decide +kernel))⟩⟩⟩,
    ⟨(updFab (fun y => { y with domain := { y.domain with subs := [{ ordinal := 0, group := 1, pos := 0, typ := 0, timeout := 100 }] }, subs := [{ lastAt := 900, stale := false }] }) (up)),
      0, someOf (by decide +kernel) (someOf (by decide +kernel) (⟨(by decide +kernel), (readyOf (by decide +kernel))⟩))⟩,
    ⟨(updFab (fun y => { y with resolved := [{ ordinal := 0, addr := 5, tag := 1 }] }) (up)), 0, f0,
      someOf (by decide +kernel) (⟨(by decide +kernel), (readyOf (by decide +kernel))⟩)⟩,
    ⟨(updFab (fun y => { y with resolved := [{ ordinal := 1, addr := 5, tag := 1 }], domain := { y.domain with own := 0, members := [{ serial := 1, ordinal := 0, rootLoaded := false }] } }) (up)),
      0, ({ f0 with payload := [2] }), someOf (by decide +kernel) (⟨(by decide +kernel), (readyOf (by decide +kernel))⟩)⟩,
    ⟨(updFab (fun y => { y with domain := { y.domain with own := 0, members := [{ serial := 1, ordinal := 0, rootLoaded := false }] } }) (up)),
      ⟨(by decide +kernel), (readyOf (by decide +kernel))⟩⟩⟩

theorem wit_RoutedRows_4 :
    (∃ (s : State), isDomainRoot s = false ∧ Ready .domainStateSend s) ∧
    (∃ (s : State), s.modes.rootRide = true ∧ Ready .rootStateTimeout s) ∧
    (∃ (s : State), s.modes.rootRide = false ∧ Ready .rootStateTimeout s) ∧
    (∃ (s : State) (r : Requester) (v : Word), (mayWrite r Ix.FAB_ROUTE_SEL (noteRequest r s) = true ∧
      (valueOk Ix.FAB_ROUTE_SEL v (noteRequest r s) && crossWritten Ix.FAB_ROUTE_SEL v (noteRequest r s)) = true) ∧
      Ready (.fabRouteSelWrite r v) s) :=
  ⟨⟨up, ⟨(by decide +kernel), (readyOf (by decide +kernel))⟩⟩,
    ⟨(fun u : State => { u with modes := { u.modes with rootRide := true } }) (up), ⟨(by decide +kernel), (readyOf (by decide +kernel))⟩⟩,
    ⟨(fun u : State => { u with modes := { u.modes with rootRide := false } }) (up), ⟨(by decide +kernel), (readyOf (by decide +kernel))⟩⟩,
    ⟨(withPriv 0 2 upWs), .host, 0, ⟨(by decide +kernel), (readyOf (by decide +kernel))⟩⟩⟩

theorem wit_StreamAndReloadRows_1 :
    (∃ (s : State) (p : Port) (at_ : Nat) (k : FabPacket) (ok : Bool), (s.fab.ports[p]).rate = 0 ∧ Ready (.streamPacketReceived p at_ k ok) s) ∧
    (∃ (s : State) (p : Port) (at_ : Nat) (k : FabPacket), (s.fab.ports[p]).rate ≠ 0 ∧ Ready (.streamPacketReceived p at_ k false) s ∧
      Ready (.streamPacketReceived p at_ k true) s ∧ Ready (.streamPacketReceived p at_ k true) s) ∧
    (∃ (s : State) (p : Port) (n : Nat), (s.fab.ports[p]).packets = [] ∧ Ready (.streamCreditReturn p n) s) ∧
    (∃ (s : State) (at_ : Nat) (f : FabFrame), (s.fab.txs.find? fun t => t.stream == leAt f.payload 0 1 && t.dst == f.src) = none ∧
      Ready (.streamAck at_ f) s) ∧
    (∃ (s : State) (at_ : Nat) (f : FabFrame), ∃ (t : StreamTx),
      (s.fab.txs.find? fun t => t.stream == leAt f.payload 0 1 && t.dst == f.src) = some t ∧ (ackNumber t.acked (leAt f.payload 2 2) ≤ t.next ∧
      t.acked < ackNumber t.acked (leAt f.payload 2 2)) ∧ let n := ackNumber t.acked (leAt f.payload 2 2); Ready (.streamAck at_ f) s) ∧
    (∃ (s : State) (stream : Nat) (dst : Nat) (at_ : Nat) (k : StartInput), s.fab.offer = none ∧ ∃ (t : StreamTx),
      (s.fab.txs.find? fun t => t.stream == stream && t.dst == dst) = some t ∧ t.data.isEmpty = false ∧ let u := s.reach (t.lastAck + msP 50);
      t.resends < 3 ∧ Ready (.streamResendTimeout stream dst at_ k) s) ∧
    (∃ (s : State) (stream : Nat) (dst : Nat) (at_ : Nat) (k : StartInput), s.fab.offer = none ∧ ∃ (t : StreamTx),
      (s.fab.txs.find? fun t => t.stream == stream && t.dst == dst) = some t ∧ t.data.isEmpty = false ∧ let u := s.reach (t.lastAck + msP 50);
      3 ≤ t.resends ∧ Ready (.streamResendTimeout stream dst at_ k) s) ∧
    (∃ (s : State) (stream : Nat) (dst : Nat) (at_ : Nat) (src : Nat) (total : Nat) (count : Nat) (root : Nat) (k : StartInput),
      (s.fab.offer = some (src, total, count, root) ∧ s.fab.reload = 2 ∧ stream = 0 ∧ src = dst) ∧
      Ready (.streamResendTimeout stream dst at_ k) s) :=
  ⟨⟨(updPort 0 (fun y => { y with rate := 0 }) (up)), 0, 0, q0, false, ⟨(by decide +kernel), (readyOf (by decide +kernel))⟩⟩,
    ⟨(updPort 0 (fun y => { y with rate := 1 }) (up)), 0, 0, q0, ⟨(by decide +kernel), ⟨(readyOf (by decide +kernel)),
      ⟨(readyOf (by decide +kernel)), (readyOf (by decide +kernel))⟩⟩⟩⟩,
    ⟨(updPort 0 (fun y => { y with packets := [] }) (up)), 0, 0, ⟨(by decide +kernel), (readyOf (by decide +kernel))⟩⟩,
    ⟨up, 0, f0, ⟨(by decide +kernel), (readyOf (by decide +kernel))⟩⟩,
    ⟨(updFab (fun y => { y with txs := [{ stream := 1, dst := 5, acked := 0, next := 4, data := [[1], [2]], resends := 0, lastAck := 900 }] }) (up)),
      0, ({ f0 with payload := [1, 0, 2, 0] }), someOf (by decide +kernel) (⟨(by decide +kernel), (readyOf (by decide +kernel))⟩)⟩,
    ⟨(updFab (fun y => { y with txs := [{ stream := 1, dst := 5, acked := 0, next := 4, data := [[1], [2]], resends := 0, lastAck := 900 }] }) (up)),
      1, 5, 0, k0, ⟨(by decide +kernel), someOf (by decide +kernel) (⟨(by decide +kernel), ⟨(by decide +kernel),
      (readyOf (by decide +kernel))⟩⟩)⟩⟩,
    ⟨(updFab (fun y => { y with txs := [{ stream := 1, dst := 5, acked := 0, next := 4, data := [[1], [2]], resends := 3, lastAck := 900 }] }) (up)),
      1, 5, 0, k0, ⟨(by decide +kernel), someOf (by decide +kernel) (⟨(by decide +kernel), ⟨(by decide +kernel),
      (readyOf (by decide +kernel))⟩⟩)⟩⟩,
    ⟨(updFab (fun y => { y with reload := 2, offer := some (5, 176, 0, 9) }) (up)), 0, 5, 0, 5, 176, 0, 9, k0, ⟨(by decide +kernel),
      (readyOf (by decide +kernel))⟩⟩⟩

theorem wit_StreamAndReloadRows_2 :
    (∃ (s : State) (at_ : Nat) (f : FabFrame), ∃ (q : FabReq), requestOf f s = some q ∧ q.typ = 0x1F ∧ let u := endRequest f.seq (s.reach at_);
      (leAt f.payload 0 1 = 0 ∧ leAt f.payload 4 1 % 2 = 1) ∧ Ready (.reloadReply at_ f) s) ∧
    (∃ (s : State) (at_ : Nat) (f : FabFrame), ∃ (q : FabReq), requestOf f s = some q ∧ q.typ = 0x1F ∧ let u := endRequest f.seq (s.reach at_);
      leAt f.payload 0 1 = 1 ∧ Ready (.reloadReply at_ f) s) ∧
    (∃ (s : State) (at_ : Nat) (f : FabFrame), ∃ (q : FabReq), requestOf f s = some q ∧ q.typ = 0x1F ∧ let u := endRequest f.seq (s.reach at_);
      (leAt f.payload 0 1 ≠ 1 ∧ leAt f.payload 4 1 % 2 = 0) ∧ Ready (.reloadReply at_ f) s) ∧
    (∃ (s : State) (at_ : Nat) (f : FabFrame), ∃ (m : Resolved), memberAt f.src s = some m ∧ leAt f.payload 0 1 = 0 ∧
      Ready (.reloadDone at_ f) s) ∧
    (∃ (s : State) (at_ : Nat) (f : FabFrame), (acceptsOffer (leAt f.payload 8 8) s = true ∧ s.fab.reload = 1) ∧ Ready (.reloadOffer at_ f) s) ∧
    (∃ (s : State) (at_ : Nat) (f : FabFrame), acceptsOffer (leAt f.payload 8 8) s = false ∧ Ready (.reloadOffer at_ f) s) ∧
    (∃ (s : State) (k : StartInput), s.fab.reload ≠ 1 ∧ Ready (.reloadWaitExpiry k) s) ∧
    (∃ (s : State) (k : StartInput), s.fab.reload = 1 ∧ Ready (.reloadWaitExpiry k) s) :=
  ⟨⟨(updFab (fun y => { y with outstanding := [{ seq := 7, dst := 5, typ := 0x1F, owner := 0, mark := 0, at_ := 900 }] }) (up)), 0,
      ({ f0 with payload := [0, 0, 0, 0, 1, 0, 0, 0] }), someOf (by decide +kernel) (⟨(by decide +kernel), ⟨(by decide +kernel),
      (readyOf (by decide +kernel))⟩⟩)⟩,
    ⟨(updFab (fun y => { y with outstanding := [{ seq := 7, dst := 5, typ := 0x1F, owner := 0, mark := 0, at_ := 900 }] }) (up)), 0,
      ({ f0 with payload := [1, 0, 0, 0, 0, 0, 0, 0] }), someOf (by decide +kernel) (⟨(by decide +kernel), ⟨(by decide +kernel),
      (readyOf (by decide +kernel))⟩⟩)⟩,
    ⟨(updFab (fun y => { y with outstanding := [{ seq := 7, dst := 5, typ := 0x1F, owner := 0, mark := 0, at_ := 900 }] }) (up)), 0,
      ({ f0 with payload := [0, 0, 0, 0, 0, 0, 0, 0] }), someOf (by decide +kernel) (⟨(by decide +kernel), ⟨(by decide +kernel),
      (readyOf (by decide +kernel))⟩⟩)⟩,
    ⟨(updFab (fun y => { y with resolved := [{ ordinal := 0, addr := 5, tag := 1 }] }) (up)), 0, ({ f0 with payload := [0, 0, 0, 0] }),
      someOf (by decide +kernel) (⟨(by decide +kernel), (readyOf (by decide +kernel))⟩)⟩,
    ⟨(updFab (fun y => { y with member := some (1, 9), reload := 1 }) (up)), 0, ({ f0 with payload := (leBytes 0 8 ++ leBytes 9 8) }),
      ⟨(by decide +kernel), (readyOf (by decide +kernel))⟩⟩,
    ⟨up, 0, f0, ⟨(by decide +kernel), (readyOf (by decide +kernel))⟩⟩,
    ⟨up, k0, ⟨(by decide +kernel), (readyOf (by decide +kernel))⟩⟩,
    ⟨(fun u : State => { u with fab := { u.fab with reload := 1 } }) (up), k0, ⟨(by decide +kernel), (readyOf (by decide +kernel))⟩⟩⟩

theorem wit_StreamAndReloadRows_3 :
    (∃ (s : State) (at_ : Nat) (k : StartInput), s.fab.offer = none ∧ Ready (.reloadStreamComplete at_ k) s) ∧
    (∃ (s : State) (slot : Nat) (p : Port) (c : Pc), ∃ (e : Event) (u : State), takeEvent slot s = some (e, u) ∧ e.spec.act = .fabSync p c ∧
      Ready (.eventFabSync slot) s) ∧
    (∃ (s : State) (p : Port) (at_ : Nat) (f : FabFrame), routeCode f.dst s = 1 ∧ Ready (.fabSyncReceived p at_ f) s) ∧
    (∃ (s : State) (p : Port) (q : Port) (at_ : Nat) (f : FabFrame), routeCode f.dst s = 2 + q.val ∧ ∃ (d : Nat),
      (s.fab.ports[p]).delay = some d ∧ ((s.fab.ports[q]).st = .up ∧ (s.fab.ports[q]).delay ≠ none ∧ f.hops < 62) ∧
      Ready (.fabSyncReceived p at_ f) s) ∧
    (∃ (s : State) (r : Requester), (mayWrite r Ix.FAB_RELOAD_CMD (noteRequest r s) = true ∧
      (valueOk Ix.FAB_RELOAD_CMD 1 (noteRequest r s) && crossWritten Ix.FAB_RELOAD_CMD 1 (noteRequest r s)) = true) ∧
      Ready (.fabReloadCmdWrite r 1) s) ∧
    (∃ (s : State) (at_ : Nat) (dst : Nat) (b : List Byte), (s.flag (Ix.FAB_STREAM_CFG 0) 2 = true ∧ dst ≠ srcAddr s ∧ frameOk 500 b = false) ∧
      Ready (.hostStreamFrame at_ dst b) s) ∧
    (∃ (s : State) (at_ : Nat) (dst : Nat) (b : List Byte), s.flag (Ix.FAB_STREAM_CFG 0) 2 = false ∧ Ready (.hostStreamFrame at_ dst b) s) ∧
    (∃ (s : State) (at_ : Nat) (dst : Nat) (b : List Byte), (s.flag (Ix.FAB_STREAM_CFG 0) 2 = true ∧ dst ≠ srcAddr s ∧ frameOk 500 b = true) ∧
      ∃ (typ : Nat), carriedType (entryOf b).cmd = some typ ∧ let u := s.reach at_; Ready (.hostStreamFrame at_ dst b) s) :=
  ⟨⟨(fun u : State => { u with fab := { u.fab with offer := none } }) (up), 0, k0, ⟨(by decide +kernel), (readyOf (by decide +kernel))⟩⟩,
    ⟨(evUp (.fabSync 0 0) true), 0, 0, 0, pairOf (by decide +kernel) (⟨(by decide +kernel), (readyOf (by decide +kernel))⟩)⟩,
    ⟨(updFab (fun y => { y with hasTable := true, dflt := 1 }) (up)), 0, 0, f0, ⟨(by decide +kernel), (readyOf (by decide +kernel))⟩⟩,
    ⟨(updFab (fun y => { y with hasTable := true, dflt := 2 }) (updPort 0 (fun y => { y with st := .up, delay := some 10 }) (up))), 0, 0, 0, f0,
      ⟨(by decide +kernel), someOf (by decide +kernel) (⟨(by decide +kernel), (readyOf (by decide +kernel))⟩)⟩⟩,
    ⟨(withPriv 0 2 upWs), .host, ⟨(by decide +kernel), (readyOf (by decide +kernel))⟩⟩,
    ⟨(wd (Ix.FAB_STREAM_CFG 0) 4 up), 0, 5, [], ⟨(by decide +kernel), (readyOf (by decide +kernel))⟩⟩,
    ⟨(State.putFld (up) (Ix.FAB_STREAM_CFG 0) 2 1 0), 0, 0, [], ⟨(by decide +kernel), (readyOf (by decide +kernel))⟩⟩,
    ⟨(wd (Ix.FAB_STREAM_CFG 0) 4 up), 0, 5, ([2, 9, 0, 0, 0, 0, 0, 0] ++ leBytes (crc32 [2, 9, 0, 0, 0, 0, 0, 0]) 4), ⟨(by decide +kernel),
      someOf (by decide +kernel) ((readyOf (by decide +kernel)))⟩⟩⟩

theorem wit_ModeRows_1 :
    (∃ (s : State) (at_ : Nat), let u := evalAt at_ s; (modesRun u = true ∧ commitFirst u = false ∧ s.modes.mode = .watch ∧ rideGuard s = true ∧
      ignition u = true) ∧ ∃ (t : Nat), s.dwell.ignOn = some t ∧ Nat.max t (s.modes.took.getD 0) + msP (s.num Ix.MODE_IGN_ON_DWELL) ≤ u.now ∧
      Ready (.rideEntry at_) s) ∧
    (∃ (s : State) (at_ : Nat), ignition (evalAt at_ s) = false ∧ Ready (.rideEntry at_) s) ∧
    (∃ (s : State) (at_ : Nat), s.modes.mode ≠ .watch ∧ Ready (.rideEntry at_) s ∧ Ready (.parkEntry at_) s) ∧
    (∃ (s : State) (at_ : Nat), let u := evalAt at_ s; (modesRun u = true ∧ commitFirst u = false ∧ s.modes.mode = .ride ∧ ignition u = false) ∧
      ∃ (t : Nat), s.dwell.ignOff = some t ∧ t + msP (s.num Ix.MODE_IGN_OFF_DWELL) ≤ u.now ∧ let w := imuEnterWatch (changeMode .watch 3 u);
      Ready (.rideExit at_) s) ∧
    (∃ (s : State) (at_ : Nat), s.modes.mode ≠ .ride ∧ Ready (.rideExit at_) s) ∧
    (∃ (s : State) (r : Requester), (mayWrite r Ix.MODE_WS_REQUEST (noteRequest r s) = true ∧
      (valueOk Ix.MODE_WS_REQUEST 1 (noteRequest r s) && crossWritten Ix.MODE_WS_REQUEST 1 (noteRequest r s)) = true) ∧
      Ready (.wsEnterRequest r) s) ∧
    (∃ (s : State) (r : Requester), (mayWrite r Ix.MODE_WS_REQUEST (noteRequest r s) = true ∧
      (valueOk Ix.MODE_WS_REQUEST 2 (noteRequest r s) && crossWritten Ix.MODE_WS_REQUEST 2 (noteRequest r s)) = true) ∧
      Ready (.wsExitRequest r) s) ∧
    (∃ (s : State) (at_ : Nat), let u := evalAt at_ s; (modesRun u = true ∧ commitFirst u = false ∧ (∀ k ∈ [1, 2, 3], rowWins k u = false)) ∧
      ∃ (r : Requester), s.modes.wsEnter = some r ∧ let v := { u with modes := { u.modes with wsEnter := none } }; workshopRefusal v ≠ 0 ∧
      Ready (.workshopEntry at_) s) :=
  ⟨⟨(fun u : State => { u with dwell := { u.dwell with ignOn := some 900 } }) (ignOn (made up)), 40000000000, ⟨(by decide +kernel),
      someOf (by decide +kernel) (⟨(by decide +kernel), (readyOf (by decide +kernel))⟩)⟩⟩,
    ⟨up, 0, ⟨(by decide +kernel), (readyOf (by decide +kernel))⟩⟩,
    ⟨(inMode .ride up), 0, ⟨(by decide +kernel), ⟨(readyOf (by decide +kernel)), (readyOf (by decide +kernel))⟩⟩⟩,
    ⟨(fun u : State => { u with dwell := { u.dwell with ignOff := some 900 } }) (inMode .ride up), 40000000000, ⟨(by decide +kernel),
      someOf (by decide +kernel) (⟨(by decide +kernel), (readyOf (by decide +kernel))⟩)⟩⟩,
    ⟨up, 0, ⟨(by decide +kernel), (readyOf (by decide +kernel))⟩⟩,
    ⟨(withPriv 0 2 upWs), .host, ⟨(by decide +kernel), (readyOf (by decide +kernel))⟩⟩,
    ⟨(withPriv 0 2 upWs), .host, ⟨(by decide +kernel), (readyOf (by decide +kernel))⟩⟩,
    ⟨(fun u : State => { u with modes := { u.modes with wsEnter := some .host } }) (up), 0, ⟨(by decide +kernel),
      someOf (by decide +kernel) (⟨(by decide +kernel), (readyOf (by decide +kernel))⟩)⟩⟩⟩

theorem wit_ModeRows_2 :
    (∃ (s : State) (at_ : Nat), let u := evalAt at_ s; (modesRun u = true ∧ commitFirst u = false ∧ (∀ k ∈ [1, 2, 3], rowWins k u = false)) ∧
      ∃ (r : Requester), s.modes.wsEnter = some r ∧ let v := { u with modes := { u.modes with wsEnter := none } }; workshopRefusal v = 0 ∧
      let w := imuLeaveWatch (changeMode .workshop 4 v); Ready (.workshopEntry at_) s) ∧
    (∃ (s : State), s.modes.mode = .watch ∧ stationary s = false) ∧
    (∃ (s : State), s.modes.mode = .watch ∧ stationary s = true) ∧
    (∃ (s : State) (at_ : Nat), s.modes.wsEnter = none ∧ Ready (.workshopEntry at_) s) ∧
    (∃ (s : State) (at_ : Nat), let u := evalAt at_ s; (modesRun u = true ∧ commitFirst u = false ∧ s.modes.mode = .workshop ∧
      (s.modes.wsExit = true ∨ wsHolderGone u = true ∨ (stationary u = false ∧ ∃ t, s.dwell.moved = some t ∧
      t + msP (s.num Ix.MODE_MOVE_EXIT_DWELL) ≤ u.now))) ∧ Ready (.workshopExit at_) s) ∧
    (∃ (s : State) (at_ : Nat), let u := evalAt at_ s; (s.modes.mode ≠ .workshop ∧ modesRun u = true ∧ s.modes.wsExit = true) ∧
      Ready (.workshopExit at_) s) ∧
    (∃ (s : State) (at_ : Nat), let u := evalAt at_ s; (s.modes.mode ≠ .workshop ∧ s.modes.wsExit = false) ∧ Ready (.workshopExit at_) s) ∧
    (∃ (s : State) (at_ : Nat), let u := evalAt at_ s; (modesRun u = true ∧ commitFirst u = false ∧ s.modes.mode = .watch ∧ stayEmpty u = true ∧
      s.modes.wsEnter = none ∧ s.modes.wsRefused ≠ some u.now) ∧ ∃ (t : Nat), s.dwell.empty = some t ∧
      Nat.max t s.modes.cancelled + secP (s.num Ix.MODE_PARK_DELAY) ≤ u.now ∧ let v := if u.txn.st = .opened then rollBack 9 4 u else u;
      Ready (.parkEntry at_) s) :=
  ⟨⟨(fun u : State => { u with modes := { u.modes with wsEnter := some .host } }) (made up), 2000, ⟨(by decide +kernel),
      someOf (by decide +kernel) (⟨(by decide +kernel), (readyOf (by decide +kernel))⟩)⟩⟩,
    ⟨(fun u : State => { u with imu := { u.imu with moving := true } }) up, (by decide +kernel)⟩,
    ⟨(inMode .watch (up)), (by decide +kernel)⟩,
    ⟨(fun u : State => { u with modes := { u.modes with wsEnter := none } }) (up), 0, ⟨(by decide +kernel), (readyOf (by decide +kernel))⟩⟩,
    ⟨(fun u : State => { u with modes := { u.modes with wsExit := true } }) (inMode .workshop (up)), 0, ⟨(by decide +kernel),
      (readyOf (by decide +kernel))⟩⟩,
    ⟨(fun u : State => { u with modes := { u.modes with wsExit := true } }) (up), 0, ⟨(by decide +kernel), (readyOf (by decide +kernel))⟩⟩,
    ⟨(fun u : State => { u with modes := { u.modes with wsExit := false } }) (up), 0, ⟨(by decide +kernel), (readyOf (by decide +kernel))⟩⟩,
    ⟨(fun u : State => { u with dwell := { u.dwell with empty := some 900 } }) (up), 40000000000, ⟨(by decide +kernel),
      someOf (by decide +kernel) (⟨(by decide +kernel), (readyOf (by decide +kernel))⟩)⟩⟩⟩

theorem wit_ModeRows_3 :
    (∃ (s : State) (at_ : Nat), stayEmpty (evalAt at_ s) = false ∧ Ready (.parkEntry at_) s) ∧
    (∃ (s : State), s.modes.entering = none ∧ Ready .parkWaitEnd s) ∧
    (∃ (s : State), ∃ (t : Nat), s.modes.entering = some t ∧ (isDomainRoot s = true ∧ s.modes.membersAwake.isEmpty = false) ∧
      Ready .parkWaitEnd s) ∧
    (∃ (s : State), ∃ (t : Nat), s.modes.entering = some t ∧ (isDomainRoot s = false ∨ s.modes.membersAwake.isEmpty = true) ∧
      Ready .parkWaitEnd s) ∧
    (∃ (s : State) (at_ : Nat) (code : Fin 8), ∃ (t : Nat), s.modes.entering = some t ∧
      let u := s.reach (if code.val = 0 then t + secP (s.num Ix.PWR_RTC_WAKE) else at_); (code.val ≠ 1 ∧ code.val < 7 ∧
      sourceConfigured code.val u = true ∧ (parkSourceFires code.val u).modes.entering = none) ∧ Ready (.parkEntryCancel at_ code) s) ∧
    (∃ (s : State) (at_ : Nat) (code : Fin 8), ∃ (t : Nat), s.modes.entering = some t ∧
      let u := s.reach (if code.val = 0 then t + secP (s.num Ix.PWR_RTC_WAKE) else at_); (code.val ≠ 1 ∧ code.val < 7 ∧
      sourceConfigured code.val u = false) ∧ Ready (.parkEntryCancel at_ code) s) ∧
    (∃ (s : State) (at_ : Nat) (code : Fin 8), ∃ (t : Nat), s.modes.entering = some t ∧
      let u := s.reach (if code.val = 0 then t + secP (s.num Ix.PWR_RTC_WAKE) else at_); (code.val = 1 ∨ code.val = 7) ∧
      Ready (.parkEntryCancel at_ code) s) ∧
    (∃ (s : State) (v : Word), (mayWrite .host Ix.MODE_HOST_STAY (noteRequest .host s) = true ∧
      (valueOk Ix.MODE_HOST_STAY v (noteRequest .host s) && crossWritten Ix.MODE_HOST_STAY v (noteRequest .host s)) = true) ∧
      Ready (.hostStayWrite .host v) s) :=
  ⟨⟨(wd Ix.MODE_HOST_STAY 1 up), 2000, ⟨(by decide +kernel), (readyOf (by decide +kernel))⟩⟩,
    ⟨(fun u : State => { u with modes := { u.modes with entering := none } }) (up), ⟨(by decide +kernel), (readyOf (by decide +kernel))⟩⟩,
    ⟨(fun u : State => { u with modes := { u.modes with entering := some 2000, membersAwake := [1] } }) (updFab (fun y => { y with domain := { y.domain with own := 0, members := [{ serial := 1, ordinal := 0, rootLoaded := false }] } }) (up)),
      someOf (by decide +kernel) (⟨(by decide +kernel), (readyOf (by decide +kernel))⟩)⟩,
    ⟨(fun u : State => { u with modes := { u.modes with entering := some 900 } }) (up), someOf (by decide +kernel) (⟨(by decide +kernel),
      (readyOf (by decide +kernel))⟩)⟩,
    ⟨(fun u : State => { u with modes := { u.modes with entering := some 900 } }) (wd (Ix.IN_SW_CFG 0) 2 (wd Ix.IN_SW_PARK_MASK 1 (wd Ix.PWR_WAKE_ENABLE 4 up))),
      2000, 2, someOf (by decide +kernel) (⟨(by decide +kernel), (readyOf (by decide +kernel))⟩)⟩,
    ⟨(fun u : State => { u with modes := { u.modes with entering := some 900 } }) (up), 2000, 2,
      someOf (by decide +kernel) (⟨(by decide +kernel), (readyOf (by decide +kernel))⟩)⟩,
    ⟨(fun u : State => { u with modes := { u.modes with entering := some 900 } }) (up), 2000, 1,
      someOf (by decide +kernel) (⟨(by decide +kernel), (readyOf (by decide +kernel))⟩)⟩,
    ⟨(withPriv 0 2 upWs), 0, ⟨(by decide +kernel), (readyOf (by decide +kernel))⟩⟩⟩

theorem wit_ModeRows_4 :
    (∃ (s : State) (r : Requester) (v : Word), r ≠ .host ∧ Ready (.hostStayWrite r v) s) ∧
    (∃ (s : State), s.flag Ix.MODE_HOST_STAY 0 = true ∧ Ready .hostStayExpiry s) ∧
    (∃ (s : State), s.flag Ix.MODE_HOST_STAY 0 = false ∧ Ready .hostStayExpiry s) ∧
    (∃ (s : State) (at_ : Nat), (isMember s = true ∧ rootLinked s = false) ∧ ∃ (t : Nat), s.dwell.unlinked = some t ∧
      t + msP (s.num Ix.MODE_IGN_OFF_DWELL) ≤ (s.reach at_).now ∧ Ready (.memberRootLinkLoss at_) s) ∧
    (∃ (s : State) (at_ : Nat), (isMember s = false ∨ rootLinked s = true) ∧ Ready (.memberRootLinkLoss at_) s) :=
  ⟨⟨up, (.tester 0), 0, ⟨(by decide +kernel), (readyOf (by decide +kernel))⟩⟩,
    ⟨(State.putFld (up) (Ix.MODE_HOST_STAY) 0 1 1), ⟨(by decide +kernel), (readyOf (by decide +kernel))⟩⟩,
    ⟨(State.putFld (up) (Ix.MODE_HOST_STAY) 0 1 0), ⟨(by decide +kernel), (readyOf (by decide +kernel))⟩⟩,
    ⟨(fun u : State => { u with dwell := { u.dwell with unlinked := some 900 } }) (updFab (fun y => { y with domain := { y.domain with own := 1, members := [{ serial := 1, ordinal := 0, rootLoaded := false }] } }) (up)),
      40000000000, ⟨(by decide +kernel), someOf (by decide +kernel) (⟨(by decide +kernel), (readyOf (by decide +kernel))⟩)⟩⟩,
    ⟨up, 0, ⟨(by decide +kernel), (readyOf (by decide +kernel))⟩⟩⟩

theorem wit_PowerRows_1 :
    (∃ (s : State), (s.pw.pw = .run ∧ s.started = true ∧ (s.modes.mode = .ride ∨ s.modes.mode = .workshop)) ∧ Ready .dozeEntry s) ∧
    (∃ (s : State), s.modes.mode = .watch ∧ Ready .dozeEntry s) ∧
    (∃ (s : State), s.pw.pw = .doze ∧ Ready .dozeExit s) ∧
    (∃ (s : State), (s.pw.pw = .run ∧ s.started = true ∧ s.modes.entering = none ∧ s.modes.mode = .watch ∧ runHold s = false) ∧
      Ready .standbyEntry s) ∧
    (∃ (s : State), runHold s = true ∧ Ready .standbyEntry s) ∧
    (∃ (s : State), s.pw.pw = .standby ∧ ∃ (t : Nat), nextDue s = some t ∧ Ready .standbyExitScheduled s) ∧
    (∃ (s : State) (at_ : Nat), s.pw.pw = .standby ∧ Ready (.standbyExitHold at_) s) ∧
    (∃ (s : State) (at_ : Nat), s.pw.pw ≠ .standby ∧ Ready (.standbyExitHold at_) s ∧ Ready .standbyExitScheduled s) :=
  ⟨⟨(inMode .ride ((fun u : State => { u with started := true }) (inPower .run (up)))), ⟨(by decide +kernel), (readyOf (by decide +kernel))⟩⟩,
    ⟨(inMode .watch (up)), ⟨(by decide +kernel), (readyOf (by decide +kernel))⟩⟩,
    ⟨(inPower .doze (up)), ⟨(by decide +kernel), (readyOf (by decide +kernel))⟩⟩,
    ⟨(inMode .watch ((fun u : State => { u with modes := { u.modes with entering := none } }) ((fun u : State => { u with started := true }) (inPower .run (up))))),
      ⟨(by decide +kernel), (readyOf (by decide +kernel))⟩⟩,
    ⟨(txnUp .opened .host []), ⟨(by decide +kernel), (readyOf (by decide +kernel))⟩⟩,
    ⟨(inPower .standby (evUp (.outSet 4 1) false)), ⟨(by decide +kernel), someOf (by decide +kernel) ((readyOf (by decide +kernel)))⟩⟩,
    ⟨(inPower .standby (up)), 0, ⟨(by decide +kernel), (readyOf (by decide +kernel))⟩⟩,
    ⟨up, 0, ⟨(by decide +kernel), ⟨(readyOf (by decide +kernel)), (readyOf (by decide +kernel))⟩⟩⟩⟩

theorem wit_PowerRows_2 :
    (∃ (s : State) (code : Fin 8) (at_ : Nat) (least : Nat) (ms : Nat), ((s.pw.pw = .retain ∨ s.pw.pw = .deep) ∧ code.val ∈ s.pw.armed ∧
      s.pw.cause = none ∧ (code.val = 1 → s.pw.wasLow = true ∧ s.num Ix.PWR_VBAT_WAKE_HI < least ∧ 1000 * s.fld Ix.PWR_VBAT_DWELL 16 16 ≤ ms) ∧
      (code.val = 7 → s.fld Ix.PWR_DEEP_WAKE 0 4 = 1 → 300 < least ∧ 10 ≤ ms)) ∧
      let u := s.reach (if code.val = 0 then s.pw.parkAt + secP (s.num Ix.PWR_RTC_WAKE) else at_); let e := wakeEdge s.pw.parkAt u.now;
      Ready (.wakeSourceFire code at_ least ms) s) ∧
    (∃ (s : State) (code : Fin 8) (at_ : Nat) (least : Nat) (ms : Nat), (2 ≤ code.val ∧ ¬ code.val ∈ s.pw.armed) ∧
      Ready (.wakeSourceFire code at_ least ms) s) ∧
    (∃ (a : Nat) (n : Nat) (t : Nat), a ≤ n ∧ n ≤ t) ∧
    (∃ (s : State) (steps : List Nat), ∃ (w : Waking), s.pw.waking = some w ∧ (w.waiting = none ∧ s.pw.brownOut = false ∧ steps.length < 3 ∧
      (∀ x ∈ steps.zip wakeLimits, x.1 < x.2)) ∧ let u := s.reach (w.from_ + usP (steps.foldl (· + ·) 0 + wakeLimits.getD steps.length 0));
      w.fails + 1 < 3 ∧ Ready (.wakeStepTimeout steps) s) ∧
    (∃ (s : State) (steps : List Nat), ∃ (w : Waking), s.pw.waking = some w ∧ (w.waiting = none ∧ s.pw.brownOut = false ∧ steps.length < 3 ∧
      (∀ x ∈ steps.zip wakeLimits, x.1 < x.2)) ∧ let u := s.reach (w.from_ + usP (steps.foldl (· + ·) 0 + wakeLimits.getD steps.length 0));
      3 ≤ w.fails + 1 ∧ Ready (.wakeStepTimeout steps) s) ∧
    (∃ (s : State) (steps : List Nat), s.pw.waking = none ∧ Ready (.wakeStepTimeout steps) s) ∧
    (∃ (s : State), ∃ (w : Waking), s.pw.waking = some w ∧ ∃ (t : Nat), w.waiting = some t ∧ Ready .wakeBackoffExpiry s) ∧
    (∃ (s : State) (at_ : Nat) (most : Nat) (ms : Nat), (s.pw.pw = .retain ∧ s.pw.cause = none ∧ most < s.num Ix.PWR_DEEP_VBAT_LO ∧
      1000 * s.fld Ix.PWR_VBAT_DWELL 0 16 ≤ ms) ∧ Ready (.retainEscalation at_ most ms) s) :=
  ⟨⟨(fun u : State => { u with pw := { u.pw with pw := .retain, armed := [2] } }) (up), 2, 0, 0, 0, ⟨(by decide +kernel),
      (readyOf (by decide +kernel))⟩⟩,
    ⟨up, 2, 0, 0, 0, ⟨(by decide +kernel), (readyOf (by decide +kernel))⟩⟩,
    ⟨0, 0, 0, (by decide +kernel)⟩,
    ⟨(fun u : State => { u with pw := { u.pw with waking := some { wstep := 2, from_ := 0, fails := 0, backoff := 0, waiting := none } } }) (up),
      [], someOf (by decide +kernel) (⟨(by decide +kernel), ⟨(by decide +kernel), (readyOf (by decide +kernel))⟩⟩)⟩,
    ⟨(fun u : State => { u with pw := { u.pw with waking := some { wstep := 2, from_ := 0, fails := 2, backoff := 0, waiting := none } } }) (up),
      [], someOf (by decide +kernel) (⟨(by decide +kernel), ⟨(by decide +kernel), (readyOf (by decide +kernel))⟩⟩)⟩,
    ⟨(fun u : State => { u with pw := { u.pw with waking := none } }) (up), [], ⟨(by decide +kernel), (readyOf (by decide +kernel))⟩⟩,
    ⟨(fun u : State => { u with pw := { u.pw with waking := some { wstep := 2, from_ := 0, fails := 0, backoff := 0, waiting := some 2000 } } }) (up),
      someOf (by decide +kernel) (someOf (by decide +kernel) ((readyOf (by decide +kernel))))⟩,
    ⟨(fun u : State => { u with pw := { u.pw with pw := .retain } }) (up), 0, 100, 1000000, ⟨(by decide +kernel),
      (readyOf (by decide +kernel))⟩⟩⟩

theorem wit_PowerRows_3 :
    (∃ (s : State) (at_ : Nat) (most : Nat) (ms : Nat), s.pw.pw = .run ∧ Ready (.retainEscalation at_ most ms) s) ∧
    (∃ (s : State) (at_ : Nat), (s.pw.pw = .run ∧ s.procs.principal ≠ .off) ∧ Ready (.brownOut at_) s) ∧
    (∃ (s : State) (at_ : Nat), ((s.pw.pw = .retain ∨ s.pw.pw = .deep) ∧ s.pw.waking = none) ∧ Ready (.brownOut at_) s) ∧
    (∃ (s : State) (at_ : Nat), s.pw.pw = .off ∧ Ready (.brownOut at_) s) ∧
    (∃ (s : State) (at_ : Nat) (k : StartInput), (s.pw.brownOut = true ∧ s.pw.waking = none ∧ s.pw.rstHeld = false) ∧
      Ready (.brownOutRecovery at_ k) s) ∧
    (∃ (s : State) (at_ : Nat) (k : StartInput), s.pw.brownOut = true ∧ ∃ (w : Waking), s.pw.waking = some w ∧
      Ready (.brownOutRecovery at_ k) s) ∧
    (∃ (s : State) (at_ : Nat) (k : StartInput), s.pw.brownOut = false ∧ Ready (.brownOutRecovery at_ k) s) ∧
    (∃ (s : State) (k : StartInput), s.pw.rstHeld = true ∧ Ready (.powerOnReset k) s) :=
  ⟨⟨(inPower .run (up)), 0, 0, 0, ⟨(by decide +kernel), (readyOf (by decide +kernel))⟩⟩,
    ⟨(inPower .run (up)), 0, ⟨(by decide +kernel), (readyOf (by decide +kernel))⟩⟩,
    ⟨(fun u : State => { u with pw := { u.pw with waking := none } }) (inPower .retain (up)), 0, ⟨(by decide +kernel),
      (readyOf (by decide +kernel))⟩⟩,
    ⟨(inPower .off (up)), 0, ⟨(by decide +kernel), (readyOf (by decide +kernel))⟩⟩,
    ⟨(fun u : State => { u with pw := { u.pw with rstHeld := false } }) ((fun u : State => { u with pw := { u.pw with waking := none } }) ((fun u : State => { u with pw := { u.pw with brownOut := true } }) (up))),
      0, k0, ⟨(by decide +kernel), (readyOf (by decide +kernel))⟩⟩,
    ⟨(fun u : State => { u with pw := { u.pw with brownOut := true, waking := some { wstep := 2, from_ := 0, fails := 0, backoff := 0, waiting := none } } }) (up),
      0, k0, ⟨(by decide +kernel), someOf (by decide +kernel) ((readyOf (by decide +kernel)))⟩⟩,
    ⟨(fun u : State => { u with pw := { u.pw with brownOut := false } }) (up), 0, k0, ⟨(by decide +kernel), (readyOf (by decide +kernel))⟩⟩,
    ⟨(fun u : State => { u with pw := { u.pw with rstHeld := true } }) (up), k0, ⟨(by decide +kernel), (readyOf (by decide +kernel))⟩⟩⟩

theorem wit_PowerRows_4 :
    (∃ (s : State) (k : StartInput), (s.pw.rstHeld = false ∧ s.pw.brownOut = false ∧ s.upd.dead = false ∧ (s.pw.pw = .off ∨ (s.pw.pw = .run ∧
      s.procs.principal = .off))) ∧ Ready (.powerOnReset k) s) ∧
    (∃ (s : State) (k : StartInput), (s.pw.rstHeld = false ∧ s.pw.brownOut = false ∧ s.upd.dead = false ∧
      (s.pw.pw = .retain ∨ s.pw.pw = .deep)) ∧ ∃ (w : Waking), s.pw.waking = some w ∧ (w.waiting = none ∧
      (w.from_ ≤ s.pw.wakeAt + usP k.wakeUs ∧ s.pw.wakeAt + usP k.wakeUs ≤ w.from_ + usP 8050)) ∧ Ready (.powerOnReset k) s) ∧
    (∃ (s : State) (at_ : Nat) (k : StartInput), deviceUp s = true ∧ Ready (.principalSelfFault at_ k) s) ∧
    (∃ (s : State) (at_ : Nat) (k : StartInput), deviceUp s = false ∧ Ready (.principalSelfFault at_ k) s) ∧
    (∃ (s : State), (rstHonoured s = true ∧ s.pw.rstHeld = false) ∧ Ready .tstRstnAssert s) ∧
    (∃ (s : State), rstHonoured s = false ∧ Ready .tstRstnAssert s) ∧
    (∃ (s : State) (k : StartInput), (s.pw.rstHeld = true ∧ s.pw.pw ≠ .off ∧ s.pw.brownOut = false) ∧ Ready (.tstRstnRelease k) s) ∧
    (∃ (s : State) (k : StartInput), s.pw.rstHeld = false ∧ Ready (.tstRstnRelease k) s) :=
  ⟨⟨(inPower .off ((fun u : State => { u with upd := { u.upd with dead := false } }) ((fun u : State => { u with pw := { u.pw with brownOut := false } }) ((fun u : State => { u with pw := { u.pw with rstHeld := false } }) (up))))),
      k0, ⟨(by decide +kernel), (readyOf (by decide +kernel))⟩⟩,
    ⟨(fun u : State => { u with pw := { u.pw with pw := .retain, waking := some { wstep := 2, from_ := 0, fails := 0, backoff := 0, waiting := none } } }) (up),
      k0, ⟨(by decide +kernel), someOf (by decide +kernel) (⟨(by decide +kernel), (readyOf (by decide +kernel))⟩)⟩⟩,
    ⟨up, 0, k0, ⟨(by decide +kernel), (readyOf (by decide +kernel))⟩⟩,
    ⟨(fun u : State => { u with pw := { u.pw with pw := .off } }) (up), 0, k0, ⟨(by decide +kernel), (readyOf (by decide +kernel))⟩⟩,
    ⟨(fun u : State => { u with pw := { u.pw with rstHeld := false } }) (up), ⟨(by decide +kernel), (readyOf (by decide +kernel))⟩⟩,
    ⟨(fun u : State => { u with sec := { u.sec with fuses := [255, 255, 0, 0] } }) (up), ⟨(by decide +kernel), (readyOf (by decide +kernel))⟩⟩,
    ⟨(fun u : State => { u with pw := { u.pw with brownOut := false } }) ((fun u : State => { u with pw := { u.pw with rstHeld := true } }) (up)),
      k0, ⟨(by decide +kernel), (readyOf (by decide +kernel))⟩⟩,
    ⟨(fun u : State => { u with pw := { u.pw with rstHeld := false } }) (up), k0, ⟨(by decide +kernel), (readyOf (by decide +kernel))⟩⟩⟩

theorem wit_PowerRows_5 :
    (∃ (s : State) (k : StartInput), (s.upd.dead = true ∧ s.pw.rstHeld = false) ∧ Ready (.recoveryRetry k) s) ∧
    (∃ (s : State) (k : StartInput), s.upd.dead = false ∧ Ready (.recoveryRetry k) s) ∧
    (∃ (s : State) (r : Requester) (v : Word), (mayWrite r Ix.PWR_RTC_TIME (noteRequest r s) = true ∧
      (valueOk Ix.PWR_RTC_TIME v (noteRequest r s) && crossWritten Ix.PWR_RTC_TIME v (noteRequest r s)) = true) ∧
      let n := (cleanValue Ix.PWR_RTC_TIME v).toNat; n < s.sec.floor ∧ Ready (.rtcWrite r v) s) ∧
    (∃ (s : State) (r : Requester) (v : Word), (mayWrite r Ix.PWR_RTC_TIME (noteRequest r s) = true ∧
      (valueOk Ix.PWR_RTC_TIME v (noteRequest r s) && crossWritten Ix.PWR_RTC_TIME v (noteRequest r s)) = true) ∧
      let n := (cleanValue Ix.PWR_RTC_TIME v).toNat; s.sec.floor ≤ n ∧ Ready (.rtcWrite r v) s) :=
  ⟨⟨(fun u : State => { u with pw := { u.pw with rstHeld := false } }) ((fun u : State => { u with upd := { u.upd with dead := true } }) (up)),
      k0, ⟨(by decide +kernel), (readyOf (by decide +kernel))⟩⟩,
    ⟨(fun u : State => { u with upd := { u.upd with dead := false } }) (up), k0, ⟨(by decide +kernel), (readyOf (by decide +kernel))⟩⟩,
    ⟨(fun u : State => { u with sec := { u.sec with floor := 5000 } }) (withPriv 0 2 up), .host, 4999, ⟨(by decide +kernel),
      ⟨(by decide +kernel), (readyOf (by decide +kernel))⟩⟩⟩,
    ⟨(withPriv 0 2 upWs), .host, 0, ⟨(by decide +kernel), ⟨(by decide +kernel), (readyOf (by decide +kernel))⟩⟩⟩⟩

theorem wit_ProcessorRows_1 :
    (∃ (s : State) (at_ : Nat), (deviceUp s = true ∧ s.procs.app = .running) ∧ Ready (.lockstepMismatch at_) s ∧
      Ready (.appHeartbeatTimeout at_) s) ∧
    (∃ (s : State) (at_ : Nat), s.procs.app ≠ .running ∧ Ready (.lockstepMismatch at_) s ∧ Ready (.appHeartbeatTimeout at_) s) ∧
    (∃ (s : State), let recent := s.now :: s.procs.stops.filter fun t => decide (s.now < t + secP 600); recent.length < 4) ∧
    (∃ (s : State), let recent := s.now :: s.procs.stops.filter fun t => decide (s.now < t + secP 600); 4 ≤ recent.length) ∧
    (∃ (s : State) (at_ : Nat), (s.procs.app = .loading ∧ deviceUp s = true) ∧ let u := s.reach at_; Ready (.appReloadDone at_) s) ∧
    (∃ (s : State) (at_ : Nat), s.procs.app ≠ .loading ∧ Ready (.appReloadDone at_) s) ∧
    (∃ (s : State) (at_ : Nat), (deviceUp s = true ∧ s.procs.motor = .running) ∧ Ready (.motCoproHeartbeatTimeout at_) s) ∧
    (∃ (s : State) (at_ : Nat), s.procs.motor ≠ .running ∧ Ready (.motCoproHeartbeatTimeout at_) s) :=
  ⟨⟨(fun u : State => { u with procs := { u.procs with app := .running } }) (up), 0, ⟨(by decide +kernel), ⟨(readyOf (by decide +kernel)),
      (readyOf (by decide +kernel))⟩⟩⟩,
    ⟨(fun u : State => { u with procs := { u.procs with app := .loading } }) up, 0, ⟨(by decide +kernel), ⟨(readyOf (by decide +kernel)),
      (readyOf (by decide +kernel))⟩⟩⟩,
    ⟨up, (by decide +kernel)⟩,
    ⟨({ up with procs := { up.procs with stops := [900, 800, 700] } }), (by decide +kernel)⟩,
    ⟨(fun u : State => { u with procs := { u.procs with app := .loading } }) (up), 0, ⟨(by decide +kernel), (readyOf (by decide +kernel))⟩⟩,
    ⟨up, 0, ⟨(by decide +kernel), (readyOf (by decide +kernel))⟩⟩,
    ⟨(fun u : State => { u with procs := { u.procs with motor := .running } }) (up), 0, ⟨(by decide +kernel), (readyOf (by decide +kernel))⟩⟩,
    ⟨({ up with procs := { up.procs with motor := .loading } }), 0, ⟨(by decide +kernel), (readyOf (by decide +kernel))⟩⟩⟩

theorem wit_ProcessorRows_2 :
    (∃ (s : State) (at_ : Nat), (deviceUp s = true ∧ s.procs.fabric = .running) ∧ Ready (.fabEngineHeartbeatTimeout at_) s) ∧
    (∃ (s : State) (at_ : Nat), s.procs.fabric ≠ .running ∧ Ready (.fabEngineHeartbeatTimeout at_) s) ∧
    (∃ (s : State) (at_ : Nat), s.procs.fabric = .loading ∧ let u := s.reach at_; Ready (.fabEngineReloadDone at_) s) ∧
    (∃ (s : State) (at_ : Nat), s.procs.fabric ≠ .loading ∧ Ready (.fabEngineReloadDone at_) s) ∧
    (∃ (s : State) (at_ : Nat), ∃ (n : Fin 2) (b : List Byte), s.boot.mirrorDue = some (n, b) ∧ (s.started = true ∧
      activeMirror (s.reach at_) = none) ∧ Ready (.mirrorWriteDone at_) s) ∧
    (∃ (s : State) (at_ : Nat), s.boot.mirrorDue = none ∧ Ready (.mirrorWriteDone at_) s) ∧
    (∃ (s : State) (r : Requester), (mayWrite r Ix.HK_WB_CMD (noteRequest r s) = true ∧
      (valueOk Ix.HK_WB_CMD 1 (noteRequest r s) && crossWritten Ix.HK_WB_CMD 1 (noteRequest r s)) = true ∧ s.boot.writing ≠ none) ∧
      Ready (.hkWbMirror r) s) ∧
    (∃ (s : State) (r : Requester), (mayWrite r Ix.HK_WB_CMD (noteRequest r s) = true ∧
      (valueOk Ix.HK_WB_CMD 1 (noteRequest r s) && crossWritten Ix.HK_WB_CMD 1 (noteRequest r s)) = true ∧ s.boot.writing = none ∧
      writeBackImage false (noteRequest r s) = none) ∧ Ready (.hkWbMirror r) s) :=
  ⟨⟨(fun u : State => { u with procs := { u.procs with fabric := .running } }) (up), 0, ⟨(by decide +kernel), (readyOf (by decide +kernel))⟩⟩,
    ⟨({ up with procs := { up.procs with fabric := .loading } }), 0, ⟨(by decide +kernel), (readyOf (by decide +kernel))⟩⟩,
    ⟨(fun u : State => { u with procs := { u.procs with fabric := .loading } }) (up), 0, ⟨(by decide +kernel), (readyOf (by decide +kernel))⟩⟩,
    ⟨up, 0, ⟨(by decide +kernel), (readyOf (by decide +kernel))⟩⟩,
    ⟨(fun u : State => { u with boot := { u.boot with mirrorDue := some (0, [1]) } }) (up), 0, pairOf (by decide +kernel) (⟨(by decide +kernel),
      (readyOf (by decide +kernel))⟩)⟩,
    ⟨(fun u : State => { u with boot := { u.boot with mirrorDue := none } }) (up), 0, ⟨(by decide +kernel), (readyOf (by decide +kernel))⟩⟩,
    ⟨(fun u : State => { u with boot := { u.boot with writing := some [1] } }) (withPriv 0 2 upWs), .host, ⟨(by decide +kernel),
      (readyOf (by decide +kernel))⟩⟩,
    ⟨(fun u : State => { u with boot := { u.boot with writing := none } }) (withPriv 0 2 upWs), .host, ⟨(by decide +kernel),
      (readyOf (by decide +kernel))⟩⟩⟩

theorem wit_ProcessorRows_3 :
    (∃ (s : State) (r : Requester), (mayWrite r Ix.HK_WB_CMD (noteRequest r s) = true ∧
      (valueOk Ix.HK_WB_CMD 2 (noteRequest r s) && crossWritten Ix.HK_WB_CMD 2 (noteRequest r s)) = true ∧ s.boot.writing ≠ none) ∧
      Ready (.hkWbStaged r) s) ∧
    (∃ (s : State) (r : Requester), (mayWrite r Ix.HK_WB_CMD (noteRequest r s) = true ∧
      (valueOk Ix.HK_WB_CMD 2 (noteRequest r s) && crossWritten Ix.HK_WB_CMD 2 (noteRequest r s)) = true ∧ s.boot.writing = none ∧
      writeBackImage true (noteRequest r s) = none) ∧ Ready (.hkWbStaged r) s) ∧
    (∃ (s : State) (at_ : Nat) (failed : Option Nat), s.boot.writing = none ∧ Ready (.hkWriteBackDone at_ failed) s) ∧
    (∃ (s : State) (at_ : Nat) (k : Nat), ∃ (b : List Byte), s.boot.writing = some b ∧ (s.boot.keyBlocks ≠ 0 ∧ k < ceilDiv b.length 128 + 1) ∧
      Ready (.hkWriteBackDone at_ (some k)) s) :=
  ⟨⟨(fun u : State => { u with boot := { u.boot with writing := some [1] } }) (withPriv 0 2 upWs), .host, ⟨(by decide +kernel),
      (readyOf (by decide +kernel))⟩⟩,
    ⟨(fun u : State => { u with boot := { u.boot with writing := none } }) (withPriv 0 2 upWs), .host, ⟨(by decide +kernel),
      (readyOf (by decide +kernel))⟩⟩,
    ⟨(fun u : State => { u with boot := { u.boot with writing := none } }) (up), 0, none, ⟨(by decide +kernel), (readyOf (by decide +kernel))⟩⟩,
    ⟨(fun u : State => { u with boot := { u.boot with writing := some img, keyBlocks := 1 } }) (up), 0, 0,
      someOf (by decide +kernel) (⟨(by decide +kernel), (readyOf (by decide +kernel))⟩)⟩⟩

theorem wit_SharedResourceRows_1 :
    (∃ (most : Nat), most < 600) ∧
    (∃ (least : Nat) (most : Nat), 600 ≤ most ∧ 1800 < least) ∧
    (∃ (least : Nat) (most : Nat), 600 ≤ most ∧ least ≤ 1800) ∧
    (∃ (least : Nat), 630 < least) ∧
    (∃ (least : Nat), least ≤ 630) ∧
    (∃ (most : Nat), most < 1750) ∧
    (∃ (most : Nat), 1750 ≤ most) ∧
    (∃ (s : State) (at_ : Nat) (least : Nat) (most : Nat), bandAfter least most s.band = s.band ∧ Ready (.supplyBandChange at_ least most) s) :=
  ⟨⟨0, (by decide +kernel)⟩,
    ⟨1801, 600, (by decide +kernel)⟩,
    ⟨0, 600, (by decide +kernel)⟩,
    ⟨631, (by decide +kernel)⟩,
    ⟨0, (by decide +kernel)⟩,
    ⟨0, (by decide +kernel)⟩,
    ⟨1750, (by decide +kernel)⟩,
    ⟨up, 0, 1000, 1000, ⟨(by decide +kernel), (readyOf (by decide +kernel))⟩⟩⟩

theorem wit_SharedResourceRows_2 :
    (∃ (s : State) (at_ : Nat) (least : Nat) (most : Nat), (s.band = .normal ∧ most < 600) ∧ let u := s.reach at_;
      Ready (.supplyBandChange at_ least most) s) ∧
    (∃ (s : State) (at_ : Nat) (least : Nat) (most : Nat), (s.band = .normal ∧ 600 ≤ most ∧ 1800 < least) ∧ let u := s.reach at_;
      Ready (.supplyBandChange at_ least most) s) ∧
    (∃ (s : State) (at_ : Nat) (least : Nat) (most : Nat), (s.band = .crank ∧ 630 < least) ∧ let u := s.reach at_;
      Ready (.supplyBandChange at_ least most) s) ∧
    (∃ (s : State) (at_ : Nat) (least : Nat) (most : Nat), (s.band = .jump ∧ most < 1750) ∧ let u := s.reach at_;
      Ready (.supplyBandChange at_ least most) s) ∧
    (∃ (s : State) (at_ : Nat) (least : Nat), (s.share.overvolt = false ∧ 2800 < least) ∧ let u := s.reach at_;
      Ready (.overvoltEntry at_ least) s) ∧
    (∃ (s : State) (at_ : Nat) (least : Nat), (s.share.overvolt = true ∨ least ≤ 2800) ∧ Ready (.overvoltEntry at_ least) s) ∧
    (∃ (s : State) (at_ : Nat) (most : Nat), (s.share.overvolt = true ∧ most < 2700) ∧ let u := s.reach at_; Ready (.overvoltExit at_ most) s) ∧
    (∃ (s : State) (at_ : Nat) (most : Nat), (s.share.overvolt = false ∨ 2700 ≤ most) ∧ Ready (.overvoltExit at_ most) s) :=
  ⟨⟨(fun u : State => { u with band := .normal }) (up), 0, 0, 0, ⟨(by decide +kernel), (readyOf (by decide +kernel))⟩⟩,
    ⟨(fun u : State => { u with band := .normal }) (up), 0, 1801, 600, ⟨(by decide +kernel), (readyOf (by decide +kernel))⟩⟩,
    ⟨(fun u : State => { u with band := .crank }) (up), 0, 631, 0, ⟨(by decide +kernel), (readyOf (by decide +kernel))⟩⟩,
    ⟨(fun u : State => { u with band := .jump }) (up), 0, 0, 0, ⟨(by decide +kernel), (readyOf (by decide +kernel))⟩⟩,
    ⟨(fun u : State => { u with share := { u.share with overvolt := false } }) (up), 0, 2801, ⟨(by decide +kernel),
      (readyOf (by decide +kernel))⟩⟩,
    ⟨(fun u : State => { u with share := { u.share with overvolt := true } }) (up), 0, 0, ⟨(by decide +kernel), (readyOf (by decide +kernel))⟩⟩,
    ⟨(fun u : State => { u with share := { u.share with overvolt := true } }) (up), 0, 0, ⟨(by decide +kernel), (readyOf (by decide +kernel))⟩⟩,
    ⟨(fun u : State => { u with share := { u.share with overvolt := false } }) (up), 0, 0, ⟨(by decide +kernel), (readyOf (by decide +kernel))⟩⟩⟩

theorem wit_SharedResourceRows_3 :
    (∃ (s : State) (at_ : Nat) (on : Bool), s.share.reverse = on ∧ Ready (.reverseSupply at_ on) s) ∧
    (∃ (s : State) (at_ : Nat), s.share.reverse = false ∧ Ready (.reverseSupply at_ true) s) ∧
    (∃ (s : State) (p : Pressures), evaluates s = false ∧ Ready (.shedLevelUp p) s ∧ Ready (.shedLevelDown p) s) ∧
    (∃ (s : State) (p : Pressures), evaluates s = true ∧ let u := s.reach p.at_; let due := shedElapsed p u; due.any id = true ∧
      Ready (.shedLevelUp p) s) ∧
    (∃ (s : State) (p : Pressures), evaluates s = true ∧ let u := s.reach p.at_; let due := shedElapsed p u; due.any id = false ∧
      Ready (.shedLevelUp p) s) ∧
    (∃ (s : State) (p : Pressures), evaluates s = true ∧ let u := s.reach p.at_; let v := notePressures p u; (restoreElapsed p u = true ∧
      0 < s.share.level) ∧ Ready (.shedLevelDown p) s) ∧
    (∃ (s : State) (p : Pressures), evaluates s = true ∧ let u := s.reach p.at_; let v := notePressures p u;
      (restoreElapsed p u = false ∨ s.share.level = 0) ∧ Ready (.shedLevelDown p) s) ∧
    (∃ (k : Nat), k < 4) :=
  ⟨⟨up, 0, false, ⟨(by decide +kernel), (readyOf (by decide +kernel))⟩⟩,
    ⟨(fun u : State => { u with share := { u.share with reverse := false } }) (up), 0, ⟨(by decide +kernel), (readyOf (by decide +kernel))⟩⟩,
    ⟨(inMode .park up), calm, ⟨(by decide +kernel), ⟨(readyOf (by decide +kernel)), (readyOf (by decide +kernel))⟩⟩⟩,
    ⟨up, ({ calm with at_ := 4000000000, sum := 4501, held := [5000, 1000, 100, 1000] }), ⟨(by decide +kernel), ⟨(by decide +kernel),
      (readyOf (by decide +kernel))⟩⟩⟩,
    ⟨up, calm, ⟨(by decide +kernel), ⟨(by decide +kernel), (readyOf (by decide +kernel))⟩⟩⟩,
    ⟨(fun u : State => { u with share := { u.share with level := 3 } }) (up),
      ({ calm with at_ := 40000000000, slug := 80, sum := 4199, vbat := 5000, held := [100000, 100000, 100000, 100000] }), ⟨(by decide +kernel),
      ⟨(by decide +kernel), (readyOf (by decide +kernel))⟩⟩⟩,
    ⟨up, calm, ⟨(by decide +kernel), ⟨(by decide +kernel), (readyOf (by decide +kernel))⟩⟩⟩,
    ⟨0, (by decide +kernel)⟩⟩

theorem wit_SharedResourceRows_4 :
    (∃ (s : State), s.share.level < 20) ∧
    (∃ (s : State), 20 ≤ s.share.level) ∧
    (∃ (s : State), 0 < s.share.level) ∧
    (∃ (s : State), s.modes.mode = .ride ∧ Ready .degradedOperationStart s) ∧
    (∃ (s : State), (s.modes.mode ≠ .ride ∧ s.flt.reqCtl = true) ∧ Ready .degradedOperationStart s) :=
  ⟨⟨up, (by decide +kernel)⟩,
    ⟨(fun u : State => { u with share := { u.share with level := 20 } }) (up), (by decide +kernel)⟩,
    ⟨(fun u : State => { u with share := { u.share with level := 3 } }) (up), (by decide +kernel)⟩,
    ⟨(inMode .ride (up)), ⟨(by decide +kernel), (readyOf (by decide +kernel))⟩⟩,
    ⟨(fun u : State => { u with flt := { u.flt with reqCtl := true } }) (up), ⟨(by decide +kernel), (readyOf (by decide +kernel))⟩⟩⟩

theorem wit_FaultRows_1 :
    (∃ (s : State) (id : Nat) (inst : Nat), faultRow id = none ∧ Ready (.faultReport id inst) s) ∧
    (∃ (s : State) (id : Nat) (inst : Nat), ∃ (x : FaultRow), faultRow id = some x ∧ (s.modes.mode ≠ .park ∧ s.started = true) ∧
      Ready (.faultReport id inst) s) ∧
    (∃ (s : State) (id : Nat) (inst : Nat), ∃ (x : FaultRow), faultRow id = some x ∧ (s.modes.mode = .park ∨ s.started = false) ∧
      Ready (.faultReport id inst) s) ∧
    (∃ (s : State) (id : Nat) (inst : Nat), ∃ (r : FaultRow), faultRow id = some r ∧ ∃ (x : FaultSrc),
      s.flt.srcs.find? (fun x => x.id == id && x.inst == inst && x.active) = some x ∧ r.kind = .event ∧ Ready (.faultEventExpiry id inst) s) ∧
    (∃ (s : State) (id : Nat) (inst : Nat), ∃ (r : FaultRow), faultRow id = some r ∧ ∃ (x : FaultSrc),
      s.flt.srcs.find? (fun x => x.id == id && x.inst == inst && x.active) = some x ∧ r.kind ≠ .event ∧ Ready (.faultEventExpiry id inst) s) ∧
    (∃ (s : State) (id : Nat) (inst : Nat), ∃ (x : FaultSrc), s.flt.srcs.find? (fun x => x.id == id && x.inst == inst && x.active) = some x ∧
      x.warned = false) ∧
    (∃ (s : State), s.flt.buf = [] ∧ Ready .logFlush s) ∧
    (∃ (s : State), (0 < s.flt.buf.length ∧ s.flt.buf.length < 16 ∧ s.flt.lost = 0) ∧ let u := s.reach (s.flt.bufAt + secP 1);
      Ready .logFlush s) :=
  ⟨⟨up, 0xFFF, 0, ⟨(by decide +kernel), (readyOf (by decide +kernel))⟩⟩,
    ⟨(fun u : State => { u with started := true }) (up), 0, 0, someOf (by decide +kernel) (⟨(by decide +kernel),
      (readyOf (by decide +kernel))⟩)⟩,
    ⟨(inMode .park (up)), 0, 0, someOf (by decide +kernel) (⟨(by decide +kernel), (readyOf (by decide +kernel))⟩)⟩,
    ⟨(fun u : State => { u with flt := { u.flt with srcs := [src0] } }) (up), 0, 0,
      someOf (by decide +kernel) (someOf (by decide +kernel) (⟨(by decide +kernel), (readyOf (by decide +kernel))⟩))⟩,
    ⟨(fun u : State => { u with flt := { u.flt with srcs := [{ src0 with id := 0x101 }] } }) (up), 0x101, 0,
      someOf (by decide +kernel) (someOf (by decide +kernel) (⟨(by decide +kernel), (readyOf (by decide +kernel))⟩))⟩,
    ⟨(fun u : State => { u with flt := { u.flt with srcs := [src0] } }) (up), 0, 0, someOf (by decide +kernel) ((by decide +kernel))⟩,
    ⟨(fun u : State => { u with flt := { u.flt with buf := [] } }) (up), ⟨(by decide +kernel), (readyOf (by decide +kernel))⟩⟩,
    ⟨(fun u : State => { u with flt := { u.flt with buf := [[1]], bufAt := 900 } }) (up), ⟨(by decide +kernel), (readyOf (by decide +kernel))⟩⟩⟩

theorem wit_FaultRows_2 :
    (∃ (s : State), (16 ≤ s.flt.buf.length ∧ s.flt.lost = 0) ∧ Ready .logFlush s) ∧
    (∃ (s : State), (16 ≤ s.flt.buf.length ∧ s.flt.lost ≠ 0) ∧ Ready .logFlush s) ∧
    (∃ (s : State) (r : Requester), (mayWrite r Ix.FLT_CLEAR (noteRequest r s) = true ∧
      (valueOk Ix.FLT_CLEAR 1 (noteRequest r s) && crossWritten Ix.FLT_CLEAR 1 (noteRequest r s)) = true) ∧ let n := noteRequest r s;
      let limp := s.flt.limp && anySeverity 4 n; let safe := s.flt.safe && anySeverity 5 n; (limp = s.flt.limp ∧ safe = s.flt.safe) ∧
      Ready (.fltClearWrite r 1) s) ∧
    (∃ (s : State) (r : Requester), (mayWrite r Ix.FLT_CLEAR (noteRequest r s) = true ∧
      (valueOk Ix.FLT_CLEAR 1 (noteRequest r s) && crossWritten Ix.FLT_CLEAR 1 (noteRequest r s)) = true) ∧ let n := noteRequest r s;
      let limp := s.flt.limp && anySeverity 4 n; let safe := s.flt.safe && anySeverity 5 n; (limp ≠ s.flt.limp ∨ safe ≠ s.flt.safe) ∧
      Ready (.fltClearWrite r 1) s) ∧
    (∃ (s : State) (r : Requester) (v : Word), (mayWrite r Ix.FLT_LOG_SEL (noteRequest r s) = true ∧
      (valueOk Ix.FLT_LOG_SEL v (noteRequest r s) && crossWritten Ix.FLT_LOG_SEL v (noteRequest r s)) = true) ∧
      let age := (cleanValue Ix.FLT_LOG_SEL v).toNat % 4096; Ready (.fltLogSelWrite r v) s) ∧
    (∃ (t : Int) (g : Stage), g.fresh = false ∧ g.armed = true ∧ max g.peak t - 60 < t) ∧
    (∃ (t : Int) (g : Stage), g.fresh = false ∧ g.armed = true ∧ t ≤ g.peak - 60) ∧
    (∃ (s : State) (at_ : Nat) (f : FabFrame), mayCollect f (s.reach at_) = false ∧ Ready (.logRead at_ f) s ∧ Ready (.rcRead at_ f) s) :=
  ⟨⟨(fun u : State => { u with flt := { u.flt with buf := List.replicate 16 [1] } }) (up), ⟨(by decide +kernel),
      (readyOf (by decide +kernel))⟩⟩,
    ⟨(fun u : State => { u with flt := { u.flt with buf := List.replicate 16 [1], lost := 1 } }) (up), ⟨(by decide +kernel),
      (readyOf (by decide +kernel))⟩⟩,
    ⟨(withPriv 0 2 upWs), .host, ⟨(by decide +kernel), ⟨(by decide +kernel), (readyOf (by decide +kernel))⟩⟩⟩,
    ⟨(fun u : State => { u with flt := { u.flt with limp := true } }) (withPriv 0 2 upWs), .host, ⟨(by decide +kernel), ⟨(by decide +kernel),
      (readyOf (by decide +kernel))⟩⟩⟩,
    ⟨(withPriv 0 2 upWs), .host, 0, ⟨(by decide +kernel), (readyOf (by decide +kernel))⟩⟩,
    ⟨21, ({ valley := 20, peak := 80, armed := true, fresh := false, units := 0, shorts := 0 }), (by decide +kernel)⟩,
    ⟨20, ({ valley := 20, peak := 80, armed := true, fresh := false, units := 0, shorts := 0 }), (by decide +kernel)⟩,
    ⟨up, 0, f0, ⟨(by decide +kernel), ⟨(readyOf (by decide +kernel)), (readyOf (by decide +kernel))⟩⟩⟩⟩

theorem wit_FaultRows_3 :
    (∃ (s : State) (at_ : Nat) (f : FabFrame) (e : List Word), mayCollect f (s.reach at_) = true ∧
      let es : List (List Word) := (s.flt.flash.filter fun e => decide (leAt f.payload 0 4 ≤ (e.getD 1 0).toNat)).take (Nat.min 3 (leAt f.payload 4 1));
      es.getLast? = some e ∧ Ready (.logRead at_ f) s) ∧
    (∃ (s : State) (at_ : Nat) (f : FabFrame), let u := s.reach at_; (mayCollect f u = true ∧ leAt f.payload 1 1 = 1) ∧ Ready (.rcRead at_ f) s) :=
  ⟨⟨(fun u : State => { u with flt := { u.flt with flash := [[0, 5]] } }) (wd Ix.FLT_COLLECT_PRIV 0 up), 2000,
      ({ f0 with payload := [5, 0, 0, 0, 1] }), ([0, 5]), ⟨(by decide +kernel), ⟨(by decide +kernel), (readyOf (by decide +kernel))⟩⟩⟩,
    ⟨(wd Ix.FLT_COLLECT_PRIV 0 up), 0, ({ f0 with payload := [0, 1] }), ⟨(by decide +kernel), (readyOf (by decide +kernel))⟩⟩⟩

theorem wit_HostPortRows_1 :
    (∃ (s : State) (at_ : Nat) (sck : Nat) (fr : List Byte) (whole : Bool), (hspiOn s = true ∧ tooEarly sck (s.reach at_) = false) ∧
      let u := leaveStandby (s.reach at_); (whole = false ∨ frameOk 4112 fr = false) ∧ Ready (.hspiSend at_ sck fr whole) s) ∧
    (∃ (s : State) (at_ : Nat) (sck : Nat) (fr : List Byte) (whole : Bool), (hspiOn s = true ∧ tooEarly sck (s.reach at_) = false) ∧
      let u := leaveStandby (s.reach at_); (whole = true ∧ frameOk 4112 fr = true ∧ 32 ≤ u.hst.queue.length + u.hst.replies.length) ∧
      Ready (.hspiSend at_ sck fr whole) s) ∧
    (∃ (s : State) (at_ : Nat) (sck : Nat) (fr : List Byte) (whole : Bool), (hspiOn s = true ∧ tooEarly sck (s.reach at_) = false) ∧
      let u := leaveStandby (s.reach at_); (whole = true ∧ frameOk 4112 fr = true ∧ u.hst.queue.length + u.hst.replies.length < 32 ∧
      (∀ e ∈ u.hst.queue ++ [entryOf fr], entryError e = 0)) ∧ Ready (.hspiSend at_ sck fr whole) s) ∧
    (∃ (s : State) (at_ : Nat) (sck : Nat) (fr : List Byte) (whole : Bool), (hspiOn s = true ∧ tooEarly sck (s.reach at_) = false) ∧
      let u := leaveStandby (s.reach at_); (whole = true ∧ frameOk 4112 fr = true ∧ u.hst.replies.length < 32 ∧ u.hst.queue = [] ∧
      entryError (entryOf fr) ≠ 0) ∧ Ready (.hspiSend at_ sck fr whole) s) ∧
    (∃ (s : State) (at_ : Nat) (sck : Nat) (fr : List Byte) (fs : List (List Byte)), (hspiOn s = true ∧ tooEarly sck (s.reach at_) = false) ∧
      let u := leaveStandby (s.reach at_); u.hst.replies = fr :: fs ∧ Ready (.hspiFetch at_ sck true) s ∧ Ready (.hspiFetch at_ sck false) s) ∧
    (∃ (s : State) (at_ : Nat) (sck : Nat) (whole : _), (hspiOn s = true ∧ tooEarly sck (s.reach at_) = false) ∧
      let u := leaveStandby (s.reach at_); u.hst.replies = [] ∧ Ready (.hspiFetch at_ sck whole) s) ∧
    (∃ (s : State) (at_ : Nat) (sck : Nat), (hspiOn s = true ∧ tooEarly sck (s.reach at_) = false) ∧ let u := leaveStandby (s.reach at_);
      Ready (.hspiStatus at_ sck) s ∧ Ready (.hspiUnknownOpcode at_ sck) s) ∧
    (∃ (s : State) (at_ : Nat) (sck : Nat) (fr : List Byte) (whole : Bool), (hspiOn s = true ∧ tooEarly sck (s.reach at_) = true) ∧
      let u := updHst (fun h => { h with out := [0xFF, 0xFF, 0xFF, 0xFF] }) ((leaveStandby (s.reach at_)).bump Ix.HST_COUNTS 16 8);
      Ready (.hspiStatus at_ sck) s ∧ Ready (.hspiFetch at_ sck whole) s ∧ Ready (.hspiSend at_ sck fr whole) s ∧
      Ready (.hspiUnknownOpcode at_ sck) s) :=
  ⟨⟨up, 0, 0, [], false, ⟨(by decide +kernel), ⟨(by decide +kernel), (readyOf (by decide +kernel))⟩⟩⟩,
    ⟨(fun u : State => { u with hst := { u.hst with replies := List.replicate 32 [1] } }) (up), 2000, 100, ([1, 9, 0, 0, 0, 0, 0,
      0] ++ leBytes (crc32 [1, 9, 0, 0, 0, 0, 0, 0]) 4), true, ⟨(by decide +kernel), ⟨(by decide +kernel), (readyOf (by decide +kernel))⟩⟩⟩,
    ⟨up, 2000, 100, ([1, 9, 0, 0, 0, 0, 0, 0] ++ leBytes (crc32 [1, 9, 0, 0, 0, 0, 0, 0]) 4), true, ⟨(by decide +kernel), ⟨(by decide +kernel),
      (readyOf (by decide +kernel))⟩⟩⟩,
    ⟨up, 2000, 100, ([99, 9, 0, 0, 0, 0, 0, 0] ++ leBytes (crc32 [99, 9, 0, 0, 0, 0, 0, 0]) 4), true, ⟨(by decide +kernel),
      ⟨(by decide +kernel), (readyOf (by decide +kernel))⟩⟩⟩,
    ⟨(fun u : State => { u with hst := { u.hst with replies := [[1], [2]] } }) (up), 2000, 100, [1], [[2]], ⟨(by decide +kernel),
      ⟨(by decide +kernel), ⟨(readyOf (by decide +kernel)), (readyOf (by decide +kernel))⟩⟩⟩⟩,
    ⟨up, 2000, 100, true, ⟨(by decide +kernel), ⟨(by decide +kernel), (readyOf (by decide +kernel))⟩⟩⟩,
    ⟨up, 0, 0, ⟨(by decide +kernel), ⟨(readyOf (by decide +kernel)), (readyOf (by decide +kernel))⟩⟩⟩,
    ⟨(inPower .standby up), 2000, 99, [], false, ⟨(by decide +kernel), ⟨(readyOf (by decide +kernel)), ⟨(readyOf (by decide +kernel)),
      ⟨(readyOf (by decide +kernel)), (readyOf (by decide +kernel))⟩⟩⟩⟩⟩⟩

theorem wit_HostPortRows_2 :
    (∃ (s : State) (bytes : List Byte) (e : HostEntry), (s.hst.queue = [e] ∧ e.cmd = 1 ∧ s.hst.carried = []) ∧ Ready (.ping bytes) s) ∧
    (∃ (s : State), s.hst.queue.find? (·.cmd == 0x0F) = none ∧ Ready .hostReset s) ∧
    (∃ (s : State), ∃ (e : HostEntry), s.hst.queue.find? (·.cmd == 0x0F) = some e ∧ Ready .hostReset s) ∧
    (∃ (s : State) (r : Requester) (v : Word), (mayWrite r Ix.HST_IRQ_CAUSE (noteRequest r s) = true ∧ s.hst.replies = []) ∧
      Ready (.hstIrqCauseWrite r v) s) ∧
    (∃ (s : State) (r : Requester) (v : Word), (mayWrite r Ix.HST_IRQ_CAUSE (noteRequest r s) = true ∧ s.hst.replies ≠ []) ∧
      Ready (.hstIrqCauseWrite r v) s) :=
  ⟨⟨(fun u : State => { u with hst := { u.hst with queue := [{ cmd := 1, tag := 9, payload := [] }] } }) (up), [],
      ({ cmd := 1, tag := 9, payload := [] }), ⟨(by decide +kernel), (readyOf (by decide +kernel))⟩⟩,
    ⟨up, ⟨(by decide +kernel), (readyOf (by decide +kernel))⟩⟩,
    ⟨(fun u : State => { u with hst := { u.hst with queue := [{ cmd := 0x0F, tag := 9, payload := [] }] } }) (up),
      someOf (by decide +kernel) ((readyOf (by decide +kernel)))⟩,
    ⟨(fun u : State => { u with hst := { u.hst with replies := [] } }) (withPriv 0 2 upWs), .host, 0, ⟨(by decide +kernel),
      (readyOf (by decide +kernel))⟩⟩,
    ⟨(fun u : State => { u with hst := { u.hst with replies := [[1]] } }) (withPriv 0 2 up), .host, 0, ⟨(by decide +kernel),
      (readyOf (by decide +kernel))⟩⟩⟩

theorem wit_ImageSessionRows_1 :
    (∃ (s : State), let n := noteRequest .host s; (lockedOut 0 n = true ∨ n.sec.entropyOk = false) ∧ Ready .authChallenge s) ∧
    (∃ (s : State), let n := noteRequest .host s; (lockedOut 0 n = false ∧ n.sec.entropyOk = true) ∧ Ready .authChallenge s) ∧
    (∃ (s : State) (total : Nat) (rep : Bool) (sha : List Byte), let n := noteRequest .host s; ∃ st, imgRefusal n = some st ∧
      Ready (.imgBegin total rep sha) s) ∧
    (∃ (s : State) (total : Nat) (rep : Bool) (sha : List Byte), let n := noteRequest .host s; (imgRefusal n = none ∧ n.upd.session = none ∧
      16 ≤ total ∧ total ≤ 8388608 ∧ (sprigWork n = false ∨ rep = true)) ∧ Ready (.imgBegin total rep sha) s) ∧
    (∃ (s : State) (rep : Bool), let n := noteRequest .host s; imgRefusal n = none ∧ ∃ x, n.upd.session = some x ∧ x.st = 2 ∧ ∃ (total : Nat),
      x.total = total ∧ ∃ (sha : List Byte), x.sha = some sha ∧
      let u := raiseIrq 4 (updImg (fun y => { y with st := 1, uds := false, at_ := n.now }) n); Ready (.imgBegin total rep sha) s) ∧
    (∃ (s : State) (off : Nat) (data : List Byte), let n := noteRequest .host s; imgRefusal n = none ∧ ∃ (x : ImgSession),
      n.upd.session = some x ∧ (x.st = 1 ∧ x.uds = false ∧ blockFits off data.length x.total = true) ∧
      let u := updUpd (fun y => { y with bankS := programUnits off data x.got y.bankS, session := some { x with got := addUnits x.got (off / 16) (ceilDiv (off + data.length) 16), at_ := n.now } }) n;
      Ready (.imgWrite off data) s) ∧
    (∃ (s : State) (off : Nat) (data : List Byte), let n := noteRequest .host s; (imgRefusal n = none ∧ n.upd.session = none) ∧
      Ready (.imgWrite off data) s) ∧
    (∃ (s : State), let t := touchImg (noteRequest .host s); ∃ (x : ImgSession), s.upd.session = some x ∧ Ready .imgProgressQuery s) :=
  ⟨⟨up, ⟨(by decide +kernel), (readyOf (by decide +kernel))⟩⟩,
    ⟨(made up), ⟨(by decide +kernel), (readyOf (by decide +kernel))⟩⟩,
    ⟨up, 0, false, [], someOf (by decide +kernel) ((readyOf (by decide +kernel)))⟩,
    ⟨(charged up), 16, false, [], ⟨(by decide +kernel), (readyOf (by decide +kernel))⟩⟩,
    ⟨(withImg (imgS false 2 (some (List.replicate 32 0)) [(0, 1)]) (charged up)), false, ⟨(by decide +kernel),
      someOf (by decide +kernel) (⟨(by decide +kernel), ⟨_, rfl, someOf (by decide +kernel) ((readyOf (by decide +kernel)))⟩⟩)⟩⟩,
    ⟨(withImg (imgS false 1 (some (List.replicate 32 0)) [(0, 1)]) (charged up)), 16, (List.replicate 16 5), ⟨(by decide +kernel),
      someOf (by decide +kernel) (⟨(by decide +kernel), (readyOf (by decide +kernel))⟩)⟩⟩,
    ⟨(charged up), 0, [], ⟨(by decide +kernel), (readyOf (by decide +kernel))⟩⟩,
    ⟨(withImg (imgS false 1 (some (List.replicate 32 0)) [(0, 1)]) up), someOf (by decide +kernel) ((readyOf (by decide +kernel)))⟩⟩

theorem wit_ImageSessionRows_2 :
    (∃ (s : State), ∃ (x : ImgSession), s.upd.session = some x ∧ (x.st = 2 ∨ (x.st = 1 ∧ x.uds = false)) ∧ Ready .imgAbort s) ∧
    (∃ (s : State), ∃ (x : ImgSession), s.upd.session = some x ∧ x.st = 2 ∧ Ready .imgSessionExpiry s) ∧
    (∃ (s : State) (off : Nat) (data : List Byte), let n := noteRequest .host s; s.modes.mode ≠ .workshop ∧ Ready (.keyStage off data) s) ∧
    (∃ (s : State) (off : Nat) (data : List Byte), let n := noteRequest .host s; (s.modes.mode = .workshop ∧ privOf .host n < 2) ∧
      Ready (.keyStage off data) s) ∧
    (∃ (s : State) (off : Nat) (data : List Byte), let n := noteRequest .host s; (s.modes.mode = .workshop ∧ 2 ≤ privOf .host n ∧ data = []) ∧
      Ready (.keyStage off data) s) ∧
    (∃ (s : State) (off : Nat) (data : List Byte), let n := noteRequest .host s; (s.modes.mode = .workshop ∧ 2 ≤ privOf .host n ∧ data ≠ [] ∧
      blockFits off data.length 262144 = false) ∧ Ready (.keyStage off data) s) ∧
    (∃ (s : State) (off : Nat) (data : List Byte), let n := noteRequest .host s; (s.modes.mode = .workshop ∧ 2 ≤ privOf .host n ∧ data ≠ [] ∧
      blockFits off data.length 262144 = true) ∧
      let u := { n with boot := { n.boot with staging := programUnits off data n.boot.staged n.boot.staging, staged := addUnits n.boot.staged (off / 16) (ceilDiv (off + data.length) 16) } };
      Ready (.keyStage off data) s) :=
  ⟨⟨(withImg (imgS false 1 (some (List.replicate 32 0)) [(0, 1)]) (charged up)), someOf (by decide +kernel) (⟨(by decide +kernel),
      (readyOf (by decide +kernel))⟩)⟩,
    ⟨(withImg (imgS false 2 (some (List.replicate 32 0)) [(0, 1)]) up), someOf (by decide +kernel) (⟨(by decide +kernel),
      (readyOf (by decide +kernel))⟩)⟩,
    ⟨up, 0, [], ⟨(by decide +kernel), (readyOf (by decide +kernel))⟩⟩,
    ⟨(inMode .workshop (up)), 0, [], ⟨(by decide +kernel), (readyOf (by decide +kernel))⟩⟩,
    ⟨(withPriv 0 2 upWs), 0, [], ⟨(by decide +kernel), (readyOf (by decide +kernel))⟩⟩,
    ⟨(withPriv 0 2 upWs), 1, [5], ⟨(by decide +kernel), (readyOf (by decide +kernel))⟩⟩,
    ⟨(withPriv 0 2 upWs), 0, (List.replicate 16 5), ⟨(by decide +kernel), (readyOf (by decide +kernel))⟩⟩⟩

theorem wit_UdsServiceRows_1 :
    (∃ (s : State) (c : Can) (sid : Nat) (sub : Nat) (sess : Nat) (priv : Nat) (ok : Bool), ∃ (n : Nat),
      udsGate c sid sub sess ok priv (udsStart c sid s) = some n) ∧
    (∃ (s : State) (c : Can) (body : List Byte), let t := udsStart c 0x10 s; body.length = 1 ∧ ∃ (sub : Nat), leAt body 0 1 % 128 = sub ∧
      ((sub = 2 ∨ sub = 3) ∧ scrappedRefuses 0x10 sub t = false ∧ (s.uds.session = 1 ∨ s.uds.chan = c.val)) ∧
      Ready (.udsSessionControl c body) s) ∧
    (∃ (s : State) (c : Can) (body : List Byte), let t := udsStart c 0x10 s; body.length = 1 ∧ ∃ (sub : Nat), leAt body 0 1 % 128 = sub ∧
      ((sub = 2 ∨ sub = 3) ∧ scrappedRefuses 0x10 sub t = false ∧ s.uds.session ≠ 1 ∧ s.uds.chan ≠ c.val) ∧ Ready (.udsSessionControl c body) s) ∧
    (∃ (s : State), s.uds.session = 1 ∧ Ready .udsS3Timeout s) ∧
    (∃ (s : State), s.uds.session ≠ 1 ∧ Ready .udsS3Timeout s) ∧
    (∃ (s : State) (c : Can), ∃ (x : IsoTx), (s.uds.chans[c]).tx = some x ∧ (x.waitFc = true ∧ (s.uds.chans[c]).out = []) ∧
      Ready (.isotpTimeout c 0) s) ∧
    (∃ (s : State) (c : Can), ∃ (x : IsoRx), (s.uds.chans[c]).rx = some x ∧ Ready (.isotpTimeout c 1) s) ∧
    (∃ (s : State) (c : Can), ∃ (x : IsoRx), (s.uds.chans[c]).sprig = some x ∧ Ready (.isotpTimeout c 2) s) :=
  ⟨⟨up, 0, 0, 0, 0, 0, false, (someOf0 (by decide +kernel))⟩,
    ⟨(fun u : State => { u with uds := { u.uds with session := 1 } }) (up), 0, [3], ⟨(by decide +kernel), ⟨_, rfl, ⟨(by decide +kernel),
      (readyOf (by decide +kernel))⟩⟩⟩⟩,
    ⟨(fun u : State => { u with uds := { u.uds with chan := 1 } }) (inSess 3 up), 0, [3], ⟨(by decide +kernel), ⟨_, rfl, ⟨(by decide +kernel),
      (readyOf (by decide +kernel))⟩⟩⟩⟩,
    ⟨(fun u : State => { u with uds := { u.uds with session := 1 } }) (up), ⟨(by decide +kernel), (readyOf (by decide +kernel))⟩⟩,
    ⟨(inSess 3 up), ⟨(by decide +kernel), (readyOf (by decide +kernel))⟩⟩,
    ⟨held0, 0, someOf (by decide +kernel) (⟨(by decide +kernel), (readyOf (by decide +kernel))⟩)⟩,
    ⟨held1, 0, someOf (by decide +kernel) ((readyOf (by decide +kernel)))⟩,
    ⟨held2, 0, someOf (by decide +kernel) ((readyOf (by decide +kernel)))⟩⟩

theorem wit_UdsServiceRows_2 :
    (∃ (s : State) (c : Can) (sid : Byte), knownSid sid.toNat = false ∧ Ready (.udsUnsupportedService c sid) s) ∧
    (∃ (s : State) (c : Can) (sp : Bool) (k : StartInput), let t := udsStart c 0x11 s; udsGate c 0x11 1 progExt true 1 t = none ∧
      Ready (.ecuResetHard c sp [] k) s) ∧
    (∃ (s : State) (c : Can) (sp : Bool), let t := udsStart c 0x11 s; udsGate c 0x11 3 progExt true 1 t = none ∧
      Ready (.ecuResetSoft c sp []) s) ∧
    (∃ (s : State) (c : Can) (m : Byte), let t := udsStart c 0x19 s; let hit := t.flt.dtcs.filter fun d => dtcStatus d t &&& m.toNat != 0;
      udsGate c 0x19 1 allSess true 0 t = none ∧ Ready (.readDtcCountByStatus c [m]) s) ∧
    (∃ (s : State) (c : Can) (m : Byte), let t := udsStart c 0x19 s; let hit := t.flt.dtcs.filter fun d => dtcStatus d t &&& m.toNat != 0;
      udsGate c 0x19 2 allSess true 0 t = none ∧ Ready (.readDtcByStatus c [m]) s) ∧
    (∃ (s : State) (c : Can) (m : Byte), let t := udsStart c 0x19 s; let hit := t.flt.dtcs.filter fun d => dtcStatus d t &&& m.toNat != 0;
      udsGate c 0x19 0x0A allSess true 0 t = none ∧ Ready (.readDtcSupported c []) s) ∧
    (∃ (s : State) (c : Can) (body : List Byte), let t := udsStart c 0x19 s; udsGate c 0x19 6 allSess (body.length == 4) 0 t = none ∧
      ∃ (d : Dtc), (t.flt.dtcs.find? fun d => dtcNumber d == beNat (body.take 3)) = some d ∧ leAt body 3 1 = 0xFF ∧
      Ready (.readDtcExtData c body) s) ∧
    (∃ (s : State) (c : Can) (body : List Byte) (d : Dtc), let t := udsStart c 0x19 s; (udsGate c 0x19 6 allSess (body.length == 4) 0 t = none ∧
      (t.flt.dtcs.find? fun d => dtcNumber d == beNat (body.take 3)) = none) ∧ Ready (.readDtcExtData c body) s) :=
  ⟨⟨up, 0, 0, ⟨(by decide +kernel), (readyOf (by decide +kernel))⟩⟩,
    ⟨(withPriv 2 2 (inSess 3 ((fun u : State => { u with flt := { u.flt with dtcs := [dtc0] } }) (up)))), 0, false, k0, ⟨(by decide +kernel),
      (readyOf (by decide +kernel))⟩⟩,
    ⟨(withPriv 2 2 (inSess 3 ((fun u : State => { u with flt := { u.flt with dtcs := [dtc0] } }) (up)))), 0, false, ⟨(by decide +kernel),
      (readyOf (by decide +kernel))⟩⟩,
    ⟨up, 0, 0, ⟨(by decide +kernel), (readyOf (by decide +kernel))⟩⟩,
    ⟨up, 0, 0, ⟨(by decide +kernel), (readyOf (by decide +kernel))⟩⟩,
    ⟨up, 0, 0, ⟨(by decide +kernel), (readyOf (by decide +kernel))⟩⟩,
    ⟨(withPriv 2 2 (inSess 3 ((fun u : State => { u with flt := { u.flt with dtcs := [dtc0] } }) (up)))), 0, ([0x90, 0, 0, 0xFF]),
      ⟨(by decide +kernel), someOf (by decide +kernel) (⟨(by decide +kernel), (readyOf (by decide +kernel))⟩)⟩⟩,
    ⟨(withPriv 2 2 (inSess 3 ((fun u : State => { u with flt := { u.flt with dtcs := [dtc0] } }) (up)))), 0, ([0x90, 1, 0, 0xFF]), dtc0,
      ⟨(by decide +kernel), (readyOf (by decide +kernel))⟩⟩⟩

theorem wit_UdsServiceRows_3 :
    (∃ (s : State) (c : Can), let t := udsStart c 0x14 s; udsGate c 0x14 0 (2 ^ 3) true 1 t = none ∧ Ready (.clearDtc c [0xFF, 0xFF, 0xFF]) s ∧
      Ready (.clearDtc c [0, 0, 0]) s) ∧
    (∃ (s : State) (c : Can), let t := udsStart c 0x85 s; udsGate c 0x85 1 (2 ^ 3) true 1 t = none ∧ Ready (.dtcSettingOn c true []) s) ∧
    (∃ (s : State) (c : Can), let t := udsStart c 0x85 s; udsGate c 0x85 2 (2 ^ 3) true 1 t = none ∧ Ready (.dtcSettingOff c true []) s) ∧
    (∃ (s : State) (c : Can) (body : List Byte), let t := udsStart c 0x22 s; let ids := (chunks 2 body).map beNat;
      (udsGate c 0x22 0 allSess (body.length % 2 == 0 && decide (1 ≤ ids.length) && decide (ids.length ≤ 16)) 0 t = none ∧
      ids.all readableId = true) ∧ Ready (.readDataById c body) s) ∧
    (∃ (s : State) (c : Can) (body : List Byte), let t := udsStart c 0x22 s; let ids := (chunks 2 body).map beNat;
      (udsGate c 0x22 0 allSess (body.length % 2 == 0 && decide (1 ≤ ids.length) && decide (ids.length ≤ 16)) 0 t = none ∧
      ids.all readableId = false) ∧ Ready (.readDataById c body) s) ∧
    (∃ (s : State) (c : Can) (body : List Byte), let t := udsStart c 0x2E s; let d := beNat (body.take 2);
      let a := writeFree (.tester c) (d - 0x4000) (toWord (beNat (body.drop 2))) t; (udsGate c 0x2E 0 progExt (body.length == 6) 0 t = none ∧
      (d < 0x4000 ∨ 0x8000 ≤ d)) ∧ Ready (.writeDataById c body) s) ∧
    (∃ (s : State) (c : Can) (body : List Byte), let t := udsStart c 0x2E s; let d := beNat (body.take 2);
      let a := writeFree (.tester c) (d - 0x4000) (toWord (beNat (body.drop 2))) t; (udsGate c 0x2E 0 progExt (body.length == 6) 0 t = none ∧
      0x4000 ≤ d ∧ d < 0x8000 ∧ a.1 = 0) ∧ Ready (.writeDataById c body) s) ∧
    (∃ (s : State) (c : Can) (body : List Byte), let t := udsStart c 0x2E s; let d := beNat (body.take 2);
      let a := writeFree (.tester c) (d - 0x4000) (toWord (beNat (body.drop 2))) t; (udsGate c 0x2E 0 progExt (body.length == 6) 0 t = none ∧
      0x4000 ≤ d ∧ d < 0x8000 ∧ a.1 ≠ 0) ∧ Ready (.writeDataById c body) s) :=
  ⟨⟨(withPriv 2 2 (inSess 3 ((fun u : State => { u with flt := { u.flt with dtcs := [dtc0] } }) (up)))), 0, ⟨(by decide +kernel),
      ⟨(readyOf (by decide +kernel)), (readyOf (by decide +kernel))⟩⟩⟩,
    ⟨(withPriv 2 2 (inSess 3 ((fun u : State => { u with flt := { u.flt with dtcs := [dtc0] } }) (up)))), 0, ⟨(by decide +kernel),
      (readyOf (by decide +kernel))⟩⟩,
    ⟨(withPriv 2 2 (inSess 3 ((fun u : State => { u with flt := { u.flt with dtcs := [dtc0] } }) (up)))), 0, ⟨(by decide +kernel),
      (readyOf (by decide +kernel))⟩⟩,
    ⟨(withPriv 2 2 (inSess 3 ((fun u : State => { u with flt := { u.flt with dtcs := [dtc0] } }) (up)))), 0, ([0x40, 0]), ⟨(by decide +kernel),
      (readyOf (by decide +kernel))⟩⟩,
    ⟨(withPriv 2 2 (inSess 3 ((fun u : State => { u with flt := { u.flt with dtcs := [dtc0] } }) (up)))), 0, ([0x30, 0]), ⟨(by decide +kernel),
      (readyOf (by decide +kernel))⟩⟩,
    ⟨(withPriv 2 2 (inSess 3 ((fun u : State => { u with flt := { u.flt with dtcs := [dtc0] } }) (up)))), 0, ([0x30, 0, 0, 0, 0, 1]),
      ⟨(by decide +kernel), (readyOf (by decide +kernel))⟩⟩,
    ⟨(withPriv 2 2 (inSess 3 ((fun u : State => { u with flt := { u.flt with dtcs := [dtc0] } }) (up)))), 0, ([0x44, 0x82, 0, 0, 0, 100]),
      ⟨(by decide +kernel), (readyOf (by decide +kernel))⟩⟩,
    ⟨(withPriv 2 2 (inSess 3 ((fun u : State => { u with flt := { u.flt with dtcs := [dtc0] } }) (up)))), 0, ([0x44, 0x82, 0, 0, 0, 99]),
      ⟨(by decide +kernel), (readyOf (by decide +kernel))⟩⟩⟩

theorem wit_UdsServiceRows_4 :
    (∃ (s : State) (c : Can) (typ : Byte), let t := udsStart c 0x28 s; ((typ = 1 ∨ typ = 3) ∧ udsGate c 0x28 0 (2 ^ 3) true 1 t = none) ∧
      Ready (.commEnableRxTx c true [typ]) s) ∧
    (∃ (s : State) (c : Can) (typ : Byte), let t := udsStart c 0x28 s; ((typ = 1 ∨ typ = 3) ∧ udsGate c 0x28 1 (2 ^ 3) true 1 t = none) ∧
      Ready (.commEnableRxDisableTx c true [typ]) s) ∧
    (∃ (s : State) (c : Can) (typ : Byte), let t := udsStart c 0x28 s; ((typ = 1 ∨ typ = 3) ∧ udsGate c 0x28 3 (2 ^ 3) true 1 t = none) ∧
      Ready (.commDisableRxTx c true [typ]) s) :=
  ⟨⟨(withPriv 2 2 (inSess 3 ((fun u : State => { u with flt := { u.flt with dtcs := [dtc0] } }) (up)))), 0, 1, ⟨(by decide +kernel),
      (readyOf (by decide +kernel))⟩⟩,
    ⟨(withPriv 2 2 (inSess 3 ((fun u : State => { u with flt := { u.flt with dtcs := [dtc0] } }) (up)))), 0, 1, ⟨(by decide +kernel),
      (readyOf (by decide +kernel))⟩⟩,
    ⟨(withPriv 2 2 (inSess 3 ((fun u : State => { u with flt := { u.flt with dtcs := [dtc0] } }) (up)))), 0, 1, ⟨(by decide +kernel),
      (readyOf (by decide +kernel))⟩⟩⟩

theorem wit_UdsAccessAndRoutines_1 :
    (∃ (s : State) (c : Can), let t := udsStart c 0x27 s; (udsGate c 0x27 1 progExt true 0 t = none ∧
      ((keySlot 0 t).key.isNone || t.flag Ix.SEC_CFG 0) = true) ∧ Ready (.saRequestSeedL1 c []) s) ∧
    (∃ (s : State) (c : Can), let t := udsStart c 0x27 s; (udsGate c 0x27 1 progExt true 0 t = none ∧
      ((keySlot 0 t).key.isNone || t.flag Ix.SEC_CFG 0) = false ∧ 1 ≤ privOf (.tester c) t) ∧ Ready (.saRequestSeedL1 c []) s) ∧
    (∃ (s : State) (c : Can), let t := udsStart c 0x27 s; (udsGate c 0x27 1 progExt true 0 t = none ∧
      ((keySlot 0 t).key.isNone || t.flag Ix.SEC_CFG 0) = false ∧ privOf (.tester c) t = 0 ∧ seedRefusal c t = none) ∧
      let seed := Config.drbg s.sec.drbg 16; Ready (.saRequestSeedL1 c []) s) ∧
    (∃ (s : State) (c : Can), let t := udsStart c 0x27 s; (udsGate c 0x27 3 progExt true 0 t = none ∧ privOf (.tester c) t < 2 ∧
      seedRefusal c t = none) ∧ Ready (.saRequestSeedL3 c []) s) ∧
    (∃ (s : State) (c : Can) (resp : List Byte), let t := udsStart c 0x27 s; (udsGate c 0x27 4 progExt (resp.length == 252) 0 t = none ∧
      (s.sec.parties[testerParty c]).challenge = none) ∧ Ready (.saSendKeyL3 c resp) s) ∧
    (∃ (s : State) (c : Can) (body : List Byte), let t := udsStart c 0x34 s; (udsGate c 0x34 0 (2 ^ 2) (downloadLen body) 2 t = none ∧
      leAt body 0 1 = 0 ∧ dlAddr body = 0 ∧ (imgBegin true (dlSize body) false none t).1 = 0) ∧
      let u := (imgBegin true (dlSize body) false none t).2; Ready (.requestDownloadImage c body) s) ∧
    (∃ (s : State) (c : Can) (body : List Byte), let t := udsStart c 0x34 s; (udsGate c 0x34 0 (2 ^ 2) (downloadLen body) 2 t = none ∧
      leAt body 0 1 = 0 ∧ dlAddr body = 2 ^ 28 ∧ 1 ≤ dlSize body ∧ dlSize body ≤ 262144 ∧ t.modes.mode = .workshop) ∧
      Ready (.requestDownloadKey c body) s) ∧
    (∃ (s : State) (c : Can) (body : List Byte), let t := udsStart c 0x34 s; (udsGate c 0x34 0 (2 ^ 2) (downloadLen body) 2 t = none ∧
      leAt body 0 1 = 0 ∧ dlAddr body = 2 ^ 28 ∧ 1 ≤ dlSize body ∧ dlSize body ≤ 262144 ∧ t.modes.mode ≠ .workshop) ∧
      Ready (.requestDownloadKey c body) s) :=
  ⟨⟨(tester 3 0 up), 0, ⟨(by decide +kernel), (readyOf (by decide +kernel))⟩⟩,
    ⟨(updKey 0 (fun x => { x with key := some [3] }) (tester 3 1 up)), 0, ⟨(by decide +kernel), (readyOf (by decide +kernel))⟩⟩,
    ⟨(updKey 0 (fun x => { x with key := some [3] }) (tester 3 0 up)), 0, ⟨(by decide +kernel), (readyOf (by decide +kernel))⟩⟩,
    ⟨(tester 3 0 up), 0, ⟨(by decide +kernel), (readyOf (by decide +kernel))⟩⟩,
    ⟨(tester 3 0 up), 0, cred, ⟨(by decide +kernel), (readyOf (by decide +kernel))⟩⟩,
    ⟨(tester 2 2 (charged up)), 0, ([0, 0x44, 0, 0, 0, 0, 0, 0, 0, 32]), ⟨(by decide +kernel), (readyOf (by decide +kernel))⟩⟩,
    ⟨(tester 2 2 upWs), 0, ([0, 0x44, 0x10, 0, 0, 0, 0, 0, 0, 32]), ⟨(by decide +kernel), (readyOf (by decide +kernel))⟩⟩,
    ⟨(tester 2 2 up), 0, ([0, 0x44, 0x10, 0, 0, 0, 0, 0, 0, 32]), ⟨(by decide +kernel), (readyOf (by decide +kernel))⟩⟩⟩

theorem wit_UdsAccessAndRoutines_2 :
    (∃ (s : State) (c : Can) (n : Byte) (data : List Byte), let t := udsStart c 0x36 s;
      udsGate c 0x36 0 (2 ^ 2) (transferLen (n :: data) s) 2 t = none ∧ ∃ (d : Download), s.uds.dl = some d ∧ (d.next = n.toNat ∧
      d.offset + data.length ≤ d.total ∧ (transferBlock d data t).1 = 0) ∧ Ready (.transferData c (n :: data)) s) ∧
    (∃ (s : State) (c : Can) (n : Byte) (data : List Byte), let t := udsStart c 0x36 s;
      udsGate c 0x36 0 (2 ^ 2) (transferLen (n :: data) s) 2 t = none ∧ ∃ (d : Download), s.uds.dl = some d ∧ (d.next ≠ n.toNat ∧
      d.last = some n.toNat) ∧ Ready (.transferData c (n :: data)) s) ∧
    (∃ (s : State) (c : Can) (n : Byte) (data : List Byte), let t := udsStart c 0x36 s;
      udsGate c 0x36 0 (2 ^ 2) (transferLen (n :: data) s) 2 t = none ∧ ∃ (d : Download), s.uds.dl = some d ∧ (d.next ≠ n.toNat ∧
      d.last ≠ some n.toNat ∧ d.offset + data.length ≤ d.total) ∧ Ready (.transferData c (n :: data)) s) ∧
    (∃ (s : State) (c : Can), let t := udsStart c 0x37 s; udsGate c 0x37 0 (2 ^ 2) true 2 t = none ∧ ∃ (d : Download), s.uds.dl = some d ∧
      d.key = true ∧ Ready (.requestTransferExit c []) s) ∧
    (∃ (s : State) (c : Can), let t := udsStart c 0x37 s; (udsGate c 0x37 0 (2 ^ 2) true 2 t = none ∧ s.uds.dl = none) ∧
      Ready (.requestTransferExit c []) s) ∧
    (∃ (s : State) (c : Can) (body : List Byte), let t := udsStart c 0x31 s; (udsGate c 0x31 3 progExt (body.length == 2) 0 t = none ∧
      knownRoutine (beNat body) = true) ∧ ∃ (r : List Byte), s.uds.results.lookup (beNat body) = some r ∧ Ready (.routineResults c body) s) ∧
    (∃ (s : State) (c : Can) (body : List Byte), let t := udsStart c 0x31 s; (udsGate c 0x31 3 progExt (body.length == 2) 0 t = none ∧
      knownRoutine (beNat body) = true ∧ s.uds.results.lookup (beNat body) = none) ∧ Ready (.routineResults c body) s) ∧
    (∃ (s : State) (c : Can) (sha : _), let t := udsStart c 0x31 s; (udsGate c 0x31 1 progExt true 0 t = none ∧ sha.length = 32) ∧
      Ready (.routineImageSha c sha) s) :=
  ⟨⟨loading, 0, 1, (List.replicate 16 5), ⟨(by decide +kernel), someOf (by decide +kernel) (⟨(by decide +kernel),
      (readyOf (by decide +kernel))⟩)⟩⟩,
    ⟨loading, 0, 0, (List.replicate 16 5), ⟨(by decide +kernel), someOf (by decide +kernel) (⟨(by decide +kernel),
      (readyOf (by decide +kernel))⟩)⟩⟩,
    ⟨loading, 0, 5, (List.replicate 16 5), ⟨(by decide +kernel), someOf (by decide +kernel) (⟨(by decide +kernel),
      (readyOf (by decide +kernel))⟩)⟩⟩,
    ⟨loading, 0, ⟨(by decide +kernel), someOf (by decide +kernel) (⟨(by decide +kernel), (readyOf (by decide +kernel))⟩)⟩⟩,
    ⟨(tester 2 2 up), 0, ⟨(by decide +kernel), (readyOf (by decide +kernel))⟩⟩,
    ⟨(fun u : State => { u with uds := { u.uds with results := [(0xF110, [0])] } }) (tester 3 0 up), 0, ([0xF1, 0x10]), ⟨(by decide +kernel),
      someOf (by decide +kernel) ((readyOf (by decide +kernel)))⟩⟩,
    ⟨(tester 3 0 up), 0, ([0xF1, 0x10]), ⟨(by decide +kernel), (readyOf (by decide +kernel))⟩⟩,
    ⟨(tester 3 0 up), 0, (List.replicate 32 0), ⟨(by decide +kernel), (readyOf (by decide +kernel))⟩⟩⟩

theorem wit_UdsAccessAndRoutines_3 :
    (∃ (s : State) (c : Can), let t := udsStart c 0x31 s; udsGate c 0x31 1 progExt true 0 t = none ∧ ∃ x, s.upd.session = some x ∧
      Ready (.routineProgress c []) s) ∧
    (∃ (s : State) (c : Can), let t := udsStart c 0x31 s; (udsGate c 0x31 1 progExt true 0 t = none ∧ s.upd.session = none) ∧
      Ready (.routineProgress c []) s) ∧
    (∃ (s : State) (c : Can), let t := udsStart c 0x31 s; udsGate c 0x31 1 progExt true 0 t = none ∧ Ready (.updStatus c []) s ∧
      Ready (.certCheck c []) s) ∧
    (∃ (s : State) (c : Can) (nonce : _), let t := udsStart c 0x31 s; (udsGate c 0x31 1 progExt true 0 t = none ∧ nonce.length = 32) ∧ ∃ d,
      s.sec.device = some d ∧ Ready (.attest c nonce) s) ∧
    (∃ (s : State) (c : Can) (k : Byte), let t := udsStart c 0x31 s; (udsGate c 0x31 1 progExt true 1 t = none ∧ k.toNat ≤ 3) ∧
      Ready (.updBitmap c [k]) s) ∧
    (∃ (s : State) (c : Can) (k : Byte), let t := udsStart c 0x31 s; (udsGate c 0x31 1 progExt true 1 t = none ∧ 3 < k.toNat) ∧
      Ready (.updBitmap c [k]) s) ∧
    (∃ (s : State), activationReady s = true ∧ s.modes.mode = .workshop ∧ hallPass s = true) ∧
    (∃ (s : State), (activationReady s = false ∨ s.modes.mode ≠ .workshop ∨ hallPass s = false)) :=
  ⟨⟨(withImg (imgS true 1 (some (List.replicate 32 0)) [(0, 1)]) (tester 3 0 up)), 0, ⟨(by decide +kernel),
      someOf (by decide +kernel) ((readyOf (by decide +kernel)))⟩⟩,
    ⟨(tester 3 0 up), 0, ⟨(by decide +kernel), (readyOf (by decide +kernel))⟩⟩,
    ⟨(tester 3 0 up), 0, ⟨(by decide +kernel), ⟨(readyOf (by decide +kernel)), (readyOf (by decide +kernel))⟩⟩⟩,
    ⟨(fun u : State => { u with sec := { u.sec with device := some [5] } }) (tester 3 0 up), 0, (List.replicate 32 0), ⟨(by decide +kernel),
      someOf (by decide +kernel) ((readyOf (by decide +kernel)))⟩⟩,
    ⟨(tester 3 1 up), 0, 3, ⟨(by decide +kernel), (readyOf (by decide +kernel))⟩⟩,
    ⟨(tester 3 1 up), 0, 4, ⟨(by decide +kernel), (readyOf (by decide +kernel))⟩⟩,
    ⟨(fun u : State => { u with upd := { u.upd with st := 6, bankS := memWrite [] 0 bunch } }) (tester 3 2 (charged upWs)), (by decide +kernel)⟩,
    ⟨up, (by decide +kernel)⟩⟩

theorem wit_UdsAccessAndRoutines_4 :
    (∃ (s : State), s.upd.st ≠ 1 ∧ s.upd.st ≠ 0) ∧
    (∃ (s : State), s.upd.st = 1) ∧
    (∃ (s : State) (r : Requester) (now_ : Bool) (k : StartInput), let n := noteRequest r s; (mayWrite r Ix.UPD_CMD n = true ∧
      (valueOk Ix.UPD_CMD 1 n && crossWritten Ix.UPD_CMD 1 n) = true) ∧ Ready (.updActivate r true now_ k) s) ∧
    (∃ (s : State) (r : Requester), let n := noteRequest r s; (mayWrite r Ix.UPD_CMD n = true ∧
      (valueOk Ix.UPD_CMD 2 n && crossWritten Ix.UPD_CMD 2 n) = true) ∧ Ready (.updDiscard r true) s) ∧
    (∃ (s : State) (c : Can) (k : StartInput), let t := udsStart c 0x31 s; (udsGate c 0x31 1 progExt true 2 t = none ∧ (updCommand 1 t).1 = 0) ∧
      Ready (.updActivate (.tester c) false false k) s ∧ Ready (.updActivate (.tester c) false true k) s) ∧
    (∃ (s : State) (c : Can) (k : StartInput), let t := udsStart c 0x31 s; (udsGate c 0x31 1 progExt true 2 t = none ∧ (updCommand 1 t).1 ≠ 0) ∧
      Ready (.updActivate (.tester c) false false k) s) ∧
    (∃ (s : State) (c : Can), let t := udsStart c 0x31 s; (udsGate c 0x31 1 progExt true 2 t = none ∧ (updCommand 2 t).1 = 0) ∧
      Ready (.updDiscard (.tester c) false) s) ∧
    (∃ (s : State) (c : Can) (v : _), let t := udsStart c 0x31 s; (udsGate c 0x31 1 progExt true 2 t = none ∧ t.modes.mode = .workshop ∧
      v.length = 24) ∧ Ready (.adoptPermit c v) s) :=
  ⟨⟨(fun u : State => { u with upd := { u.upd with st := 6 } }) (up), (by decide +kernel)⟩,
    ⟨(fun u : State => { u with upd := { u.upd with st := 1 } }) (up), (by decide +kernel)⟩,
    ⟨(withPriv 0 2 upWs), .host, false, k0, ⟨(by decide +kernel), (readyOf (by decide +kernel))⟩⟩,
    ⟨(withPriv 0 2 upWs), .host, ⟨(by decide +kernel), (readyOf (by decide +kernel))⟩⟩,
    ⟨(fun u : State => { u with upd := { u.upd with st := 6, bankS := memWrite [] 0 bunch } }) (tester 3 2 (charged upWs)), 0, k0,
      ⟨(by decide +kernel), ⟨(readyOf (by decide +kernel)), (readyOf (by decide +kernel))⟩⟩⟩,
    ⟨(tester 3 2 up), 0, k0, ⟨(by decide +kernel), (readyOf (by decide +kernel))⟩⟩,
    ⟨(fun u : State => { u with upd := { u.upd with st := 6 } }) (tester 3 2 up), 0, ⟨(by decide +kernel), (readyOf (by decide +kernel))⟩⟩,
    ⟨(tester 3 2 upWs), 0, (List.replicate 24 0), ⟨(by decide +kernel), (readyOf (by decide +kernel))⟩⟩⟩

theorem wit_UdsAccessAndRoutines_5 :
    (∃ (s : State) (c : Can) (o : _), let t := udsStart c 0x31 s; (udsGate c 0x31 1 progExt true 2 t = none ∧ t.modes.mode = .workshop ∧
      o.length = 140 ∧ signerLoad o t = none) ∧ Ready (.signerLoad c o) s) ∧
    (∃ (s : State) (c : Can) (o : _), let t := udsStart c 0x31 s; (udsGate c 0x31 1 progExt true 2 t = none ∧ t.modes.mode ≠ .workshop ∧
      o.length = 48) ∧ Ready (.keyLoad c o) s) ∧
    (∃ (s : State) (c : Can) (body : List Byte) (k : StartInput), let t := udsStart c 0x31 s;
      (udsGate c 0x31 1 progExt (body.length == 2) 0 t = none ∧ lcPrivileged c (leAt body 0 1) t = false) ∧ Ready (.lcChange c body k) s) ∧
    (∃ (s : State) (c : Can) (body : List Byte) (k : StartInput), let t := udsStart c 0x31 s;
      (udsGate c 0x31 1 progExt (body.length == 2) 0 t = none ∧ lcPrivileged c (leAt body 0 1) t = true ∧ lcGuard c (leAt body 0 1) t = true ∧
      lcAllowed (leAt body 0 1) t = true ∧ k.cut = none) ∧
      let i : Intent := { src := t.life.code, target := leAt body 0 1, spare := leAt body 1 1 % 2 == 1, seq := 0, requester := 1 + c.val * 4, seed := [] };
      Ready (.lcChange c body k) s) :=
  ⟨⟨(tester 3 2 upWs), 0, (List.replicate 140 0), ⟨(by decide +kernel), (readyOf (by decide +kernel))⟩⟩,
    ⟨(tester 3 2 up), 0, (List.replicate 48 0), ⟨(by decide +kernel), (readyOf (by decide +kernel))⟩⟩,
    ⟨(tester 3 0 up), 0, ([2, 0]), k0, ⟨(by decide +kernel), (readyOf (by decide +kernel))⟩⟩,
    ⟨(tester 3 2 upWs), 0, ([2, 0]), k0, ⟨(by decide +kernel), (readyOf (by decide +kernel))⟩⟩⟩

theorem wit_CredentialRows_1 :
    (∃ (s : State) (w : Fin 5), ∃ (u : Nat), (s.sec.parties[w]).validUntil = some u ∧ ∃ (secs : Nat) (at_ : Nat), s.pw.rtc = some (secs, at_) ∧
      Ready (.credentialExpiry w) s) ∧
    (∃ (s : State) (w : Fin 5), ((s.sec.parties[w]).validUntil = none ∨ s.pw.rtc = none) ∧ Ready (.credentialExpiry w) s) ∧
    (∃ (s : State) (w : Fin 5), ∃ (t : Nat), (s.sec.parties[w]).lockedAt = some t ∧ Ready (.authLockoutExpiry w) s) ∧
    (∃ (s : State) (c : Can), ∃ (t : Nat), (s.sec.parties[testerParty c]).lockedAt = some t ∧ Ready (.saDelayExpiry c) s) ∧
    (∃ (s : State) (w : Fin 5), ∃ (ch : List Byte) (t : Nat), (s.sec.parties[w]).challenge = some (ch, t) ∧ Ready (.challengeExpiry w) s) ∧
    (∃ (s : State) (v : List Byte) (t : Nat), s.sec.permit = some (v, some t) ∧ ∃ (secs : Nat) (at_ : Nat), s.pw.rtc = some (secs, at_) ∧
      Ready .permitExpiry s) ∧
    (∃ (s : State) (c : Can) (at_ : Nat) (f : CanFrame), ((s.can.ctl[c]).st = .active ∨ (s.can.ctl[c]).st = .passive) ∧ ∃ (k : Nat),
      acmdOf c f s = some k ∧ let u := s.reach at_; let n := acmdKey k u; let fv := fullFreshness (keySlot n u).fv (leAt f.data 2 2);
      let who := 3 + c.val * 4 + k * 256; (f.fdf = true ∨ f.dlc ≠ 8 ∨ f.data.length ≠ 8) ∧ Ready (.authCommandFrame c at_ f) s) ∧
    (∃ (s : State) (c : Can) (at_ : Nat) (f : CanFrame), ((s.can.ctl[c]).st = .active ∨ (s.can.ctl[c]).st = .passive) ∧ ∃ (k : Nat),
      acmdOf c f s = some k ∧ let u := s.reach at_; let n := acmdKey k u; let fv := fullFreshness (keySlot n u).fv (leAt f.data 2 2);
      let who := 3 + c.val * 4 + k * 256; (f.fdf = false ∧ f.dlc = 8 ∧ f.data.length = 8 ∧
      (u.fld (Ix.SEC_ACMD_CFG k) 16 10 < fv - (keySlot n u).fv ∨ 0xFFFFFFFF < fv)) ∧ Ready (.authCommandFrame c at_ f) s) :=
  ⟨⟨(fun u : State => { u with pw := { u.pw with rtc := some (5000, 900) } }) (updParty 0 (fun p => { p with validUntil := some 5000 }) up), 0,
      someOf (by decide +kernel) (pairOf (by decide +kernel) ((readyOf (by decide +kernel))))⟩,
    ⟨(updParty 0 (fun y => { y with validUntil := none }) (up)), 0, ⟨(by decide +kernel), (readyOf (by decide +kernel))⟩⟩,
    ⟨(updParty 0 (fun y => { y with lockedAt := some 900 }) (up)), 0, someOf (by decide +kernel) ((readyOf (by decide +kernel)))⟩,
    ⟨(updParty 2 (fun p => { p with lockedAt := some 900 }) up), 0, someOf (by decide +kernel) ((readyOf (by decide +kernel)))⟩,
    ⟨(updParty 0 (fun p => { p with challenge := some ([1], 900) }) up), 0, pairOf (by decide +kernel) ((readyOf (by decide +kernel)))⟩,
    ⟨(fun u : State => { u with pw := { u.pw with rtc := some (5000, 900) } }) ((fun u : State => { u with sec := { u.sec with permit := some ([1], some 5000) } }) (up)),
      [1], 5000, ⟨(by decide +kernel), pairOf (by decide +kernel) ((readyOf (by decide +kernel)))⟩⟩,
    ⟨acmdUp, 0, 2000, ({ c0 with data := [1, 2, 1, 0, 0, 0, 0, 0], dlc := 7 }), ⟨(by decide +kernel),
      someOf (by decide +kernel) (⟨(by decide +kernel), (readyOf (by decide +kernel))⟩)⟩⟩,
    ⟨acmdUp, 0, 2000, ({ c0 with data := [1, 2, 17, 0, 0, 0, 0, 0] }), ⟨(by decide +kernel), someOf (by decide +kernel) (⟨(by decide +kernel),
      (readyOf (by decide +kernel))⟩)⟩⟩⟩

theorem wit_CredentialRows_2 :
    (∃ (s : State) (pass : Bool), s.sec.sinceSeed < 2 ^ 20 ∧ Ready (.drbgReseed pass) s) ∧
    (∃ (s : State), 2 ^ 20 ≤ s.sec.sinceSeed ∧ Ready (.drbgReseed true) s) :=
  ⟨⟨up, false, ⟨(by decide +kernel), (readyOf (by decide +kernel))⟩⟩,
    ⟨(fun u : State => { u with sec := { u.sec with sinceSeed := 2 ^ 20 } }) (up), ⟨(by decide +kernel), (readyOf (by decide +kernel))⟩⟩⟩

theorem wit_OwnerAndPortRows_1 :
    (∃ (s : State) (r : Requester), mayWrite r Ix.LC_OWNER_CMD (noteRequest r s) = false ∧ Ready (.ownerLockSet r) s ∧
      Ready (.ownerLockClear r) s) ∧
    (∃ (s : State) (r : Requester), mayWrite r Ix.LC_OWNER_CMD s = true) ∧
    (∃ (s : State) (r : Requester), let n := noteRequest r s; (mayWrite r Ix.LC_OWNER_CMD n = true ∧
      (valueOk Ix.LC_OWNER_CMD 1 n && crossWritten Ix.LC_OWNER_CMD 1 n) = true ∧ s.sec.owner = none ∧ ownerRefused n = false ∧
      s.sec.code.all (· == 0) = false) ∧ Ready (.ownerLockSet r) s) ∧
    (∃ (s : State) (r : Requester), let n := noteRequest r s; (mayWrite r Ix.LC_OWNER_CMD n = true ∧
      (valueOk Ix.LC_OWNER_CMD 1 n && crossWritten Ix.LC_OWNER_CMD 1 n) = true ∧
      (s.sec.owner ≠ none ∨ ownerRefused n = true ∨ s.sec.code.all (· == 0) = true)) ∧ Ready (.ownerLockSet r) s) ∧
    (∃ (s : State) (r : Requester), let n := noteRequest r s; (mayWrite r Ix.LC_OWNER_CMD n = true ∧
      (valueOk Ix.LC_OWNER_CMD 2 n && crossWritten Ix.LC_OWNER_CMD 2 n) = true ∧ s.sec.owner = none) ∧ Ready (.ownerLockClear r) s) ∧
    (∃ (s : State) (r : Requester), let n := noteRequest r s; (mayWrite r Ix.LC_OWNER_CMD n = true ∧
      (valueOk Ix.LC_OWNER_CMD 2 n && crossWritten Ix.LC_OWNER_CMD 2 n) = true) ∧ ∃ h, s.sec.owner = some h ∧
      (ownerOverride r n = true ∨ (ownerRefused n = false ∧ ownerHash (ownerBytes s) = h)) ∧ Ready (.ownerLockClear r) s) ∧
    (∃ (s : State) (r : Requester), let n := noteRequest r s; (mayWrite r Ix.LC_OWNER_CMD n = true ∧
      (valueOk Ix.LC_OWNER_CMD 2 n && crossWritten Ix.LC_OWNER_CMD 2 n) = true) ∧ ∃ h, s.sec.owner = some h ∧ (ownerOverride r n = false ∧
      ownerRefused n = true) ∧ Ready (.ownerLockClear r) s) ∧
    (∃ (s : State), ∃ (t : Nat) (h : Nat), s.sec.refusal = some (t, h) ∧ Ready .ownerRefusalExpiry s) :=
  ⟨⟨up, .host, ⟨(by decide +kernel), ⟨(readyOf (by decide +kernel)), (readyOf (by decide +kernel))⟩⟩⟩,
    ⟨(field [0, 0, 0, 0] none), .host, (by decide +kernel)⟩,
    ⟨(field [1, 0, 0, 0] none), .host, ⟨(by decide +kernel), (readyOf (by decide +kernel))⟩⟩,
    ⟨(field [0, 0, 0, 0] none), .host, ⟨(by decide +kernel), (readyOf (by decide +kernel))⟩⟩,
    ⟨(field [0, 0, 0, 0] none), .host, ⟨(by decide +kernel), (readyOf (by decide +kernel))⟩⟩,
    ⟨(updParty 0 (fun p => { p with priv := 3 }) (field [0, 0, 0, 0] (some (List.replicate 32 0)))), .host, ⟨(by decide +kernel),
      someOf (by decide +kernel) (⟨(by decide +kernel), (readyOf (by decide +kernel))⟩)⟩⟩,
    ⟨(fun u : State => { u with sec := { u.sec with refusal := some (900, 1) } }) (field [0, 0, 0, 0] (some (List.replicate 32 0))), .host,
      ⟨(by decide +kernel), someOf (by decide +kernel) (⟨(by decide +kernel), (readyOf (by decide +kernel))⟩)⟩⟩,
    ⟨(fun u : State => { u with sec := { u.sec with refusal := some (900, 1) } }) (up),
      pairOf (by decide +kernel) ((readyOf (by decide +kernel)))⟩⟩

theorem wit_OwnerAndPortRows_2 :
    (∃ (s : State) (drive : List Bool), (portOpen s = true ∧ s.pw.rstHeld = true) ∧ Ready (.testPortExtest drive) s) ∧
    (∃ (s : State) (drive : List Bool), (portOpen s = false ∨ s.pw.rstHeld = false) ∧ Ready (.testPortExtest drive) s) ∧
    (∃ (s : State) (resp : Option (List Byte)), portOpen s = false ∧ Ready (.testPortUnlock resp) s) ∧
    (∃ (s : State), (portOpen s = true ∧ s.sec.entropyOk = true ∧ lockedOut 1 s = false) ∧ Ready (.testPortUnlock none) s) ∧
    (∃ (s : State) (resp : List Byte), (portOpen s = true ∧ s.sec.entropyOk = true ∧ (respond 1 resp s).1 = false) ∧
      Ready (.testPortUnlock (some resp)) s) ∧
    (∃ (s : State) (addr : Nat) (w : Option Byte), debugOpen s = false ∧ Ready (.debugAccess addr w) s) ∧
    (∃ (s : State) (addr : Nat) (b : Byte), debugOpen s = true ∧ Ready (.debugAccess addr (some b)) s ∧ Ready (.debugAccess addr none) s ∧
      Ready (.debugAccess addr none) s) ∧
    (∃ (s : State) (key : List Byte) (sig : List Byte) (id : Nat) (cut : Option Nat), s.life ≠ .blank ∧
      Ready (.testPortProvision key id sig cut) s) :=
  ⟨⟨(fun u : State => { u with pw := { u.pw with rstHeld := true } }) (up), [], ⟨(by decide +kernel), (readyOf (by decide +kernel))⟩⟩,
    ⟨up, [], ⟨(by decide +kernel), (readyOf (by decide +kernel))⟩⟩,
    ⟨(field [0, 0, 0, 0] none), none, ⟨(by decide +kernel), (readyOf (by decide +kernel))⟩⟩,
    ⟨(fun u : State => { u with sec := { u.sec with entropyOk := true } }) (up), ⟨(by decide +kernel), (readyOf (by decide +kernel))⟩⟩,
    ⟨(fun u : State => { u with sec := { u.sec with entropyOk := true } }) (up), [], ⟨(by decide +kernel), (readyOf (by decide +kernel))⟩⟩,
    ⟨(made up), 0, none, ⟨(by decide +kernel), (readyOf (by decide +kernel))⟩⟩,
    ⟨up, 0, 0, ⟨(by decide +kernel), ⟨(readyOf (by decide +kernel)), ⟨(readyOf (by decide +kernel)), (readyOf (by decide +kernel))⟩⟩⟩⟩,
    ⟨(made up), [], [], 0, none, ⟨(by decide +kernel), (readyOf (by decide +kernel))⟩⟩⟩

theorem wit_OwnerAndPortRows_3 :
    (∃ (s : State) (k : StartInput), (s.sec.parties[(1 : Fin 5)]).priv ≠ 3 ∧ Ready (.testPortScrap k) s) ∧
    (∃ (s : State) (k : StartInput), ((s.life = .blank ∨ s.life = .maker ∨ s.life = .returned) ∧ s.pw.rstHeld = true ∧ s.pw.pw ≠ .off ∧
      s.sec.entropyOk = true ∧ s.upd.intent = none ∧ (s.sec.parties[(1 : Fin 5)]).priv = 3 ∧ k.cut = none) ∧
      let i : Intent := { src := s.life.code, target := 4, spare := false, seq := 0, requester := 0, seed := [] };
      let v := (transition i none s).2; Ready (.testPortScrap k) s) :=
  ⟨⟨up, k0, ⟨(by decide +kernel), (readyOf (by decide +kernel))⟩⟩,
    ⟨(fun u : State => { u with pw := { u.pw with rstHeld := true } }) ((fun u : State => { u with sec := { u.sec with entropyOk := true } }) (updParty 1 (fun p => { p with priv := 3 }) up)),
      k0, ⟨(by decide +kernel), (readyOf (by decide +kernel))⟩⟩⟩

theorem wit_UpdateRows_1 :
    (∃ (s : State) (c : Can) (at_ : Nat) (b : List Byte), let u := s.reach at_; s.flag (Ix.UPD_CAN c.val) 30 = false ∧
      Ready (.canSprigMessage c at_ b) s) ∧
    (∃ (s : State) (c : Can) (at_ : Nat) (b : List Byte), let u := s.reach at_; (s.flag (Ix.UPD_CAN c.val) 30 = true ∧ s.modes.mode = .park) ∧
      Ready (.canSprigMessage c at_ b) s) ∧
    (∃ (s : State) (c : Can) (at_ : Nat) (b : List Byte), let u := s.reach at_; (s.flag (Ix.UPD_CAN c.val) 30 = true ∧ s.modes.mode ≠ .park ∧
      32 ≤ b.length ∧ leAt b 0x14 2 = 0) ∧ Ready (.canSprigMessage c at_ b) s) ∧
    (∃ (s : State) (c : Can) (at_ : Nat) (b : List Byte), let u := s.reach at_; (s.flag (Ix.UPD_CAN c.val) 30 = true ∧ s.modes.mode ≠ .park ∧
      b.length < 32) ∧ Ready (.canSprigMessage c at_ b) s) ∧
    (∃ (s : State) (l : Lin) (at_ : Nat) (nad : Nat) (b : List Byte), let u := s.reach at_;
      (s.fld (Ix.LIN_CFG l.val) 0 2 ≠ 2 ∨ s.flag (Ix.UPD_LIN l.val) 8 = false ∨ s.fld (Ix.UPD_LIN l.val) 0 8 ≠ nad) ∧
      Ready (.linSprigMessage l at_ nad b) s) ∧
    (∃ (s : State) (l : Lin) (at_ : Nat) (b : List Byte), let u := s.reach at_; (s.fld (Ix.LIN_CFG l.val) 0 2 = 2 ∧
      s.flag (Ix.UPD_LIN l.val) 8 = true) ∧ ∃ (nad : Nat), s.fld (Ix.UPD_LIN l.val) 0 8 = nad ∧ (s.modes.mode ≠ .park ∧ 32 ≤ b.length ∧
      leAt b 0x14 2 = 0) ∧ Ready (.linSprigMessage l at_ nad b) s) ∧
    (∃ (s : State) (at_ : Nat) (f : FabFrame), f.payload.length ≤ 8 ∧ Ready (.sprigSeg at_ f) s) ∧
    (∃ (s : State) (at_ : Nat) (f : FabFrame), (s.upd.asm = [] ∧ leAt f.payload 6 1 / 4 % 4 = 0 ∧ leAt f.payload 6 1 % 4 = 0 ∧
      8 < f.payload.length ∧ f.payload.length ≤ 256 ∧ s.modes.mode = .park) ∧ Ready (.sprigSeg at_ f) s) :=
  ⟨⟨(State.putFld (up) (Ix.UPD_CAN 0) 30 1 0), 0, 0, [], ⟨(by decide +kernel), (readyOf (by decide +kernel))⟩⟩,
    ⟨(inMode .park (State.putFld (up) (Ix.UPD_CAN 0) 30 1 1)), 0, 0, [], ⟨(by decide +kernel), (readyOf (by decide +kernel))⟩⟩,
    ⟨(wd (Ix.UPD_CAN 0) (2 ^ 30) up), 0, 2000, (List.replicate 40 0), ⟨(by decide +kernel), (readyOf (by decide +kernel))⟩⟩,
    ⟨(State.putFld (up) (Ix.UPD_CAN 0) 30 1 1), 0, 0, [], ⟨(by decide +kernel), (readyOf (by decide +kernel))⟩⟩,
    ⟨up, 0, 0, 0, [], ⟨(by decide +kernel), (readyOf (by decide +kernel))⟩⟩,
    ⟨(wd (Ix.LIN_CFG 0) 2 (wd (Ix.UPD_LIN 0) (256 + 5) up)), 0, 2000, (List.replicate 40 0), ⟨(by decide +kernel), ⟨_, rfl,
      ⟨(by decide +kernel), (readyOf (by decide +kernel))⟩⟩⟩⟩,
    ⟨up, 0, f0, ⟨(by decide +kernel), (readyOf (by decide +kernel))⟩⟩,
    ⟨(inMode .park up), 0, ({ f0 with payload := [1, 0, 0, 0, 0, 0, 0, 0, 9] }), ⟨(by decide +kernel), (readyOf (by decide +kernel))⟩⟩⟩

theorem wit_UpdateRows_2 :
    (∃ (s : State) (at_ : Nat) (f : FabFrame), (s.upd.asm = [] ∧ leAt f.payload 6 1 / 4 % 4 = 1 ∧ leAt f.payload 6 1 % 4 = 0 ∧
      f.payload.length = 256) ∧ Ready (.sprigSeg at_ f) s) ∧
    (∃ (s : State) (at_ : Nat) (f : FabFrame), (s.upd.asm = [] ∧ leAt f.payload 6 1 / 4 % 4 = 0 ∧ leAt f.payload 6 1 % 4 = 0 ∧
      8 < f.payload.length ∧ f.payload.length ≤ 256) ∧ Ready (.sprigSeg at_ f) s) ∧
    (∃ (s : State) (x : SprigAsm), s.upd.asm = [x] ∧ Ready .sprigReassemblyTimeout s) ∧
    (∃ (s : State), ∃ (m : Manifest), s.upd.manifest = some m ∧ s.upd.st ≠ 3 ∧ Ready .bankSEraseDone s) ∧
    (∃ (s : State), ∃ (m : Manifest), s.upd.manifest = some m ∧ (s.upd.st = 3 ∧ s.upd.store = []) ∧ Ready .bankSEraseDone s) ∧
    (∃ (s : State), s.upd.st ≠ 5 ∧ Ready .bankSVerifyDone s) ∧
    (∃ (s : State), s.upd.st = 5 ∧ let e := expectedBunch s; let b := memRead s.upd.bankS 0 e.1; ∃ c, bunchErr b e.1 e.2 s = some c ∧
      Ready .bankSVerifyDone s) ∧
    (∃ (s : State), s.rtcNow = none ∧ Ready .updateExpiry s) :=
  ⟨⟨(fun u : State => { u with upd := { u.upd with asm := [] } }) (up), 0,
      ({ f0 with payload := ([1, 0, 0, 0, 0, 0, 4, 0] ++ List.replicate 248 9) }), ⟨(by decide +kernel), (readyOf (by decide +kernel))⟩⟩,
    ⟨(fun u : State => { u with upd := { u.upd with asm := [] } }) (up), 0, ({ f0 with payload := [1, 0, 0, 0, 0, 0, 0, 0, 9] }),
      ⟨(by decide +kernel), (readyOf (by decide +kernel))⟩⟩,
    ⟨(fun u : State => { u with upd := { u.upd with asm := [{ id := 1, index := 0, last := 1, segs := [(0, [9])], at_ := 900 }] } }) (up),
      ({ id := 1, index := 0, last := 1, segs := [(0, [9])], at_ := 900 }), ⟨(by decide +kernel), (readyOf (by decide +kernel))⟩⟩,
    ⟨(fun u : State => { u with upd := { u.upd with manifest := some man0, st := 1 } }) (up), someOf (by decide +kernel) (⟨(by decide +kernel),
      (readyOf (by decide +kernel))⟩)⟩,
    ⟨(fun u : State => { u with upd := { u.upd with manifest := some man0, st := 3 } }) (up), someOf (by decide +kernel) (⟨(by decide +kernel),
      (readyOf (by decide +kernel))⟩)⟩,
    ⟨up, ⟨(by decide +kernel), (readyOf (by decide +kernel))⟩⟩,
    ⟨(fun u : State => { u with upd := { u.upd with st := 5 } }) (up), ⟨(by decide +kernel),
      someOf (by decide +kernel) ((readyOf (by decide +kernel)))⟩⟩,
    ⟨up, ⟨(by decide +kernel), (readyOf (by decide +kernel))⟩⟩⟩

theorem wit_UpdateRows_3 :
    (∃ (s : State), ∃ (t : Nat), s.rtcNow = some t ∧ s.upd.st < 6 ∧ ∃ (d : Nat), s.upd.deadline = some d ∧ (d ≤ t ∧ s.upd.store = []) ∧
      Ready .updateExpiry s) ∧
    (∃ (s : State) (at_ : Nat) (k : StartInput), let u := evalAt at_ s; s.modes.mode ≠ .watch ∧ Ready (.updAutoActivate at_ k) s) ∧
    (∃ (s : State) (at_ : Nat) (k : StartInput), let u := evalAt at_ s; (s.started = true ∧ s.modes.entering = none ∧ s.modes.mode = .watch ∧
      s.upd.st = 6 ∧ bunchAuto u = true ∧ hallPass u = true) ∧ ∃ t, s.dwell.ignOff = some t ∧ t + secP (60 * s.fld Ix.UPD_CFG 16 8) ≤ u.now ∧
      Ready (.updAutoActivate at_ k) s) ∧
    (∃ (s : State) (at_ : Nat) (k : StartInput), let u := evalAt at_ s; (s.started = true ∧ s.modes.entering = none ∧ s.modes.mode = .watch ∧
      (s.upd.st ≠ 6 ∨ bunchAuto u = false ∨ hallPass u = false ∨ s.dwell.ignOff = none)) ∧ Ready (.updAutoActivate at_ k) s) ∧
    (∃ (s : State) (at_ : Nat) (f : FabFrame), let u := s.reach at_; f.bcast = true ∧ Ready (.updQuery at_ f) s) ∧
    (∃ (s : State) (at_ : Nat) (f : FabFrame), let u := s.reach at_; (f.bcast = false ∧ leAt f.payload 0 4 = s.upd.bunch ∧
      s.upd.manifest.isSome = true) ∧ Ready (.updQuery at_ f) s) ∧
    (∃ (s : State), s.upd.events = [] ∧ Ready .updEvent s) ∧
    (∃ (s : State) (e : List Byte) (es : List (List Byte)), (s.upd.events = e :: es ∧ s.fab.node ≠ .unlisted) ∧ Ready .updEvent s) :=
  ⟨⟨(fun u : State => { u with pw := { u.pw with rtc := some (5000, 900) } }) ((fun u : State => { u with upd := { u.upd with st := 2, deadline := some 4000 } }) (up)),
      someOf (by decide +kernel) (⟨(by decide +kernel), someOf (by decide +kernel) (⟨(by decide +kernel), (readyOf (by decide +kernel))⟩)⟩)⟩,
    ⟨(inMode .ride up), 0, k0, ⟨(by decide +kernel), (readyOf (by decide +kernel))⟩⟩,
    ⟨(fun u : State => { u with dwell := { u.dwell with ignOff := some 900 } }) ((fun u : State => { u with upd := { u.upd with st := 6, bankS := memWrite [] 0 (bunch.set 0x16 1) } }) (charged up)),
      40000000000, k0, ⟨(by decide +kernel), someOf (by decide +kernel) (⟨(by decide +kernel), (readyOf (by decide +kernel))⟩)⟩⟩,
    ⟨(inMode .watch ((fun u : State => { u with modes := { u.modes with entering := none } }) ((fun u : State => { u with started := true }) (up)))),
      0, k0, ⟨(by decide +kernel), (readyOf (by decide +kernel))⟩⟩,
    ⟨up, 0, ({ f0 with bcast := true }), ⟨(by decide +kernel), (readyOf (by decide +kernel))⟩⟩,
    ⟨(fun u : State => { u with upd := { u.upd with bunch := 1, manifest := some man0 } }) (up), 0, ({ f0 with payload := [1, 0, 0, 0] }),
      ⟨(by decide +kernel), (readyOf (by decide +kernel))⟩⟩,
    ⟨(fun u : State => { u with upd := { u.upd with events := [] } }) (up), ⟨(by decide +kernel), (readyOf (by decide +kernel))⟩⟩,
    ⟨(fun u : State => { u with upd := { u.upd with events := [[1], [2]] } }) (updFab (fun y => { y with node := .root }) (up)), [1], [[2]],
      ⟨(by decide +kernel), (readyOf (by decide +kernel))⟩⟩⟩

theorem wit_UpdateRows_4 :
    ∃ (s : State) (r : Requester) (v : Word), (mayWrite r Ix.UPD_BITMAP_SEL (noteRequest r s) = true ∧
      (valueOk Ix.UPD_BITMAP_SEL v (noteRequest r s) && crossWritten Ix.UPD_BITMAP_SEL v (noteRequest r s)) = true) ∧
      Ready (.updBitmapSelWrite r v) s :=
  ⟨(withPriv 0 2 upWs), .host, 0, ⟨(by decide +kernel), (readyOf (by decide +kernel))⟩⟩

theorem wit_FabricFrameRoundTrip :
    ∃ (f : FabFrame), f.typ < 64 ∧ f.dst < 4096 ∧ f.src < 4096 ∧ f.hops < 64 ∧ f.seq < 256 ∧ f.payload.length ≤ 256 :=
  ⟨f0, (by decide +kernel)⟩

/-! ## Witnesses that rest on values Config leaves open

Each takes the one fact about the open value that its clause needs as a hypothesis, or builds the operand from that value. -/

/-- The image's signature verifies. -/
def ImgSigned : Prop := Config.ecdsaVerify [9] (img.take 96) (slice img 112 64) = true

theorem wit_FabricLinkRows_ownSerial : ∃ (s : State) (p : Port) (at_ : Nat) (f : FabFrame) (train : Nat),
    (s.fab.ports[p]).st = .up ∧ leAt f.payload 0 8 = ownSerial ∧ Ready (.hello p at_ f train) s :=
  ⟨updPort 0 (fun y => { y with st := .up }) up, 0, 0, { f0 with payload := leBytes ownSerial 8 }, 0, by decide +kernel, by
    have h := Config.serial.isLt
    simp only [leAt, slice, leNat, leBytes, ownSerial, List.drop_zero, List.take_succ_cons, List.take_zero, BitVec.toNat_ofNat]
    omega, readyOf (by decide +kernel)⟩

theorem wit_RollCallRows_ownEntry : ∃ (s : State) (p : Port) (at_ : Nat) (f : FabFrame) (e : Nat × Nat × Nat × List Byte),
    s.fab.inEpoch = true ∧ s.fab.parent = some p.val ∧ leAt f.payload 0 4 = s.fab.epoch ∧ assignEntries f.payload = [e] ∧
      e.1 = ser48 ownSerial ∧ Ready (.assign p at_ f) s :=
  ⟨updFab (fun y => { y with inEpoch := true, epoch := 7, parent := some 0 }) (updPort 0 (fun y => { y with st := .up }) up), 0, 0,
    { f0 with payload := leBytes 7 4 ++ [0, 0, 0, 0] ++ leBytes (ser48 ownSerial) 6 ++ [1, 0, 1, 0] }, _, by decide +kernel, by decide +kernel,
    by decide +kernel, rfl, by
    show leAt (leBytes (ser48 ownSerial) 6 ++ [1, 0, 1, 0]) 0 6 = ser48 ownSerial
    simp only [leAt, slice, leNat, leBytes, ser48, List.drop_zero, List.cons_append, List.take_succ_cons, List.take_zero, BitVec.toNat_ofNat]
    omega, readyOf (by decide +kernel)⟩

theorem signature_none (h : ImgSigned) (s : State) (hk : signerKey 3 s = some [9]) : signatureErr img s = none := by
  have h1 : (leAt img (imgLength img - 80) 4 == 0x31474953) = true := by decide +kernel
  have h2 : (leAt img (imgLength img - 76) 2 == 1) = true := by decide +kernel
  have h3 : (leAt img (imgLength img - 72) 4 == imgSigner img) = true := by decide +kernel
  have h4 : imgSigner img = 3 := by decide +kernel
  have h5 : imgLength img = 176 := by decide +kernel
  have h6 : Config.ecdsaVerify [9] (img.take 96) (slice img 112 64) = true := h
  simp only [signatureErr, h1, h2, h3, need, if_true]
  rw [h4, hk, h5]
  simpa using h6

theorem wit_ProcessorRows_signed (h : ImgSigned) : ∃ (s : State) (at_ : Nat) (b : List Byte),
    s.boot.writing = some b ∧ s.boot.keyBlocks ≠ 0 ∧ signatureErr b (s.reach at_) = none ∧ Ready (.hkWriteBackDone at_ none) s :=
  ⟨(fun u : State => { u with boot := { u.boot with writing := some img, keyBlocks := 1 } }) (made up), 2000, img, by decide +kernel,
    by decide +kernel, signature_none h _ (by decide +kernel), readyOf (by decide +kernel)⟩

theorem mirror_valid (h : ImgSigned) (s : State) (hm : s.boot.mirror[(0 : Fin 2)] = some (mirrorSlot img 1 true))
    (hk : signerKey 3 s = some [9]) : mirrorValid 0 s = true := by
  have hd : img.drop (img.length - 64) = slice img 112 64 := by decide +kernel
  have ht : img.length - 80 = 96 := by decide +kernel
  have h4 : leAt img 0x34 4 = 3 := by decide +kernel
  have hb : blockSigned [9] img = true := by rw [blockSigned, hd, ht]; exact h
  simp only [mirrorValid, hm, mirrorSlot, h4, hk, hb, beq_self_eq_true, Bool.and_self]

theorem active_mirror (h : ImgSigned) (s : State) (hm : s.boot.mirror[(0 : Fin 2)] = some (mirrorSlot img 1 true))
    (hk : signerKey 3 s = some [9]) (h1 : mirrorValid 1 s = false) : activeMirror s = some 0 := by
  simp only [activeMirror, mirror_valid h s hm hk, h1]

theorem wit_ProcessorRows_mirrorKept (h : ImgSigned) : ∃ (s : State) (at_ : Nat) (n : Fin 2) (b : List Byte),
    s.boot.mirrorDue = some (n, b) ∧ s.started = true ∧ ∃ m, activeMirror (s.reach at_) = some m ∧ ∃ x, s.boot.mirror[m] = some x ∧
      Ready (.mirrorWriteDone at_) s :=
  ⟨(fun u : State => { u with boot := { u.boot with mirrorDue := some (1, [1]) } }) (mirrored (made up)), 2000, 1, [1], rfl, by decide +kernel,
    0, active_mirror h _ rfl (by decide +kernel) (by decide +kernel), _, rfl, readyOf (by decide +kernel)⟩

theorem wit_ProcessorRows_mirror (h : ImgSigned) : ∃ (s : State) (r : Requester), mayWrite r Ix.HK_WB_CMD (noteRequest r s) = true ∧
    (valueOk Ix.HK_WB_CMD 1 (noteRequest r s) && crossWritten Ix.HK_WB_CMD 1 (noteRequest r s)) = true ∧ s.boot.writing = none ∧
      ∃ b, writeBackImage false (noteRequest r s) = some b ∧ Ready (.hkWbMirror r) s := by
  refine ⟨mirrored (made (withPriv 0 2 upWs)), .host, by decide +kernel, by decide +kernel, by decide +kernel, img, ?_, readyOf (by decide +kernel)⟩
  have hm : mirrorImage (noteRequest .host (mirrored (made (withPriv 0 2 upWs)))) = some img := by
    simp only [mirrorImage, active_mirror h (noteRequest .host (mirrored (made (withPriv 0 2 upWs)))) rfl (by decide +kernel) (by decide +kernel)]
    rfl
  simp only [writeBackImage, hm]
  decide +kernel

/-- A part in WORKSHOP with an image staged. -/
def stagedUp : State :=
  let u := made (withPriv 0 2 upWs)
  { u with boot := { u.boot with capacity := 262144, staging := memWrite [] 0 img }, upd := { u.upd with bankA := some [] } }

theorem imageErr_none (h : ImgSigned) (s : State) (hk : signerKey 3 s = some [9])
    (hb : need (bindingOf (imgVehicle img) (imgMaker img) s != .foreign) (loadErr 4 0xB 0x18) = none)
    (hc : contentErr img (bankAVersion s).toNat { s with words := [] } = none) : imageErr img s = none := by
  have hh : headerErr img img.length = none := by decide +kernel
  have hl : layoutErr img = none := by decide +kernel
  simp only [imageErr, formErr, hh, hl, signature_none h s hk, hb, hc]
  rfl

theorem wit_ProcessorRows_staged (h : ImgSigned) : ∃ (s : State) (r : Requester), mayWrite r Ix.HK_WB_CMD (noteRequest r s) = true ∧
    (valueOk Ix.HK_WB_CMD 2 (noteRequest r s) && crossWritten Ix.HK_WB_CMD 2 (noteRequest r s)) = true ∧ s.boot.writing = none ∧
      ∃ b, writeBackImage true (noteRequest r s) = some b ∧ Ready (.hkWbStaged r) s := by
  refine ⟨stagedUp, .host, by decide +kernel, by decide +kernel, by decide +kernel, img, ?_, readyOf (by decide +kernel)⟩
  have hs : stagedImage (noteRequest .host stagedUp) = img := by decide +kernel
  have he := imageErr_none h (noteRequest .host stagedUp) (by decide +kernel) (by decide +kernel) (by decide +kernel)
  have ho : (noteRequest .host stagedUp).sec.owner.isSome = false := by decide +kernel
  have hl : img.length ≤ (noteRequest .host stagedUp).boot.capacity := by decide +kernel
  simp [writeBackImage, hs, he, ho, hl]

/-- A root-loaded part that has received the image. -/
def reloadUp : State :=
  updFab (fun y => { y with reload := 2, offer := some (5, 176, 0, 9),
                            rxs := [{ src := 5, stream := 0, expected := 0, gapSaid := false, bytes := img }] }) (made { up with started := false })

theorem wit_StreamAndReloadRows_received (h : ImgSigned) : ∃ (s : State) (at_ src total count root : Nat) (k : StartInput),
    s.fab.offer = some (src, total, count, root) ∧ s.fab.reload = 2 ∧ total ≤ (reloadReceived src s).length ∧
      let p := splitComps count ((reloadReceived src s).take total)
      (p.1.any fun c => (compErr (some s.upd.counter) c).isSome) = false ∧ receivedErr p.2 (beforeStep4 k (s.reach at_)) = none ∧
        Ready (.reloadStreamComplete at_ k) s := by
  refine ⟨reloadUp, 2000, 5, 176, 0, 9, k0, by decide +kernel, by decide +kernel, by decide +kernel, by decide +kernel, ?_,
    readyOf (by decide +kernel)⟩
  have hp : (splitComps 0 ((reloadReceived 5 reloadUp).take 176)).2 = img := by decide +kernel
  have hh : headerErr img 262144 = none := by decide +kernel
  have hl : layoutErr img = none := by decide +kernel
  have ht : img.take (imgLength img) = img := by decide +kernel
  have hk : signerKey 3 (beforeStep4 k0 (reloadUp.reach 2000)) = some [9] := by decide +kernel
  have hb : (bindingOf (imgVehicle img) (imgMaker img) (beforeStep4 k0 (reloadUp.reach 2000)) != .foreign) = true := by decide +kernel
  have hc : contentErr img ((beforeStep4 k0 (reloadUp.reach 2000)).word Ix.SYS_FW_VERSION).toNat
      { beforeStep4 k0 (reloadUp.reach 2000) with words := [] } = none := by decide +kernel
  rw [hp]
  simp only [receivedErr, bodyErr, ht, hh, hl, signature_none h _ hk, hb, hc, need]
  rfl

/-- A state whose Bank S holds the bunch, being verified. -/
def verifyUp : State :=
  let u := made up
  { u with upd := { u.upd with st := 5, bankA := some [], bankS := memWrite [] 0 bunch,
                               session := some { uds := false, total := 400, sha := none, got := [], st := 1, at_ := 900 } } }

theorem wit_UpdateRows_verified (h : ImgSigned) (hb : blockSigned Config.vendorRoot bunch = true) : ∃ s : State, s.upd.st = 5 ∧
    let e := expectedBunch s
    bunchErr (memRead s.upd.bankS 0 e.1) e.1 e.2 s = none ∧ Ready .bankSVerifyDone s := by
  refine ⟨verifyUp, by decide +kernel, ?_, readyOf (by decide +kernel)⟩
  have h1 : expectedBunch verifyUp = (400, none) := by decide +kernel
  have hl : bunch.length = 400 := by decide +kernel
  have h2 : memRead verifyUp.upd.bankS 0 400 = bunch := hl ▸ memRead_memWrite [] 0 bunch
  rw [h1]
  show bunchErr (memRead verifyUp.upd.bankS 0 400) 400 none verifyUp = none
  rw [h2]
  have h3 : bunchHeaderOk bunch = true := by decide +kernel
  have h4 : forUs (leAt bunch 0x18 8) (leAt bunch 0x20 4) verifyUp = true := by decide +kernel
  have h5 : bunchFormOk bunch = true := by decide +kernel
  have h6 : (leAt bunch 8 4 == 400) = true := by decide +kernel
  have h7 : leAt bunch 0x24 4 = 0 := by decide +kernel
  have h8 : (comps bunch).filter (·.typ != 0x10) = [] := by decide +kernel
  have h9 : (comps bunch).filter isFirmware = [] := by decide +kernel
  have h10 : compOf bunch 0x10 = some img := by decide +kernel
  have h11 : compOf bunch 0x20 = none := by decide +kernel
  have h12 := imageErr_none h verifyUp (by decide +kernel) (by decide +kernel) (by decide +kernel)
  simp [bunchErr, h3, h4, h5, h6, h7, h8, h9, h10, h11, h12, bunchKey, hb]

/-- The signatures of the credential verify: the issuer's, and the holder's over a challenge of zeros from a requester of kind `w`. -/
def CredSigned (w : Fin 5) : Prop :=
  Config.ecdsaVerify [1] (cred.take 0x7C) (slice cred 0x7C 64) = true ∧
  Config.ecdsaVerify (slice cred 0x20 64) (List.replicate 32 0 ++ leBytes Config.serial.toNat 8 ++ leBytes (kindCode w) 1) (cred.drop 188) = true

theorem credential_ok (w : Fin 5) (h : CredSigned w) (s : State) (hm : s.sec.makerRoot = some ([1], 7)) (hr : s.sec.revoked = [])
    (hf : s.sec.floor = 0) (ht : s.rtcNow = none) : credentialOk w (List.replicate 32 0) cred s = true := by
  have h1 : (cred.length == 252) = true := by decide +kernel
  have h2 : (leAt cred 0 4 == 0x31445243) = true := by decide +kernel
  have h3 : (leAt cred 4 2 == 1) = true := by decide +kernel
  have h4 : leAt cred 6 1 = 1 := by decide +kernel
  have h5 : leAt cred 0x0C 4 = 7 := by decide +kernel
  have h6 : leAt cred 0x10 8 = 0 := by decide +kernel
  have h7 : issuerKey 1 s = some [1] := by simp [issuerKey, hm]
  have h8 : makerOk 1 7 s = true := by simp [makerOk, hm]
  have h9 : windowOk (leAt cred 0x18 4) (leAt cred 0x1C 4) s = true := by simp [windowOk, hf, ht]
  simp only [credentialOk, h1, h2, h3, h4, h5, h6, h7, h8, h9, isRevoked, hr]
  rw [h.1, h.2]
  rfl

theorem wit_ImageSessionRows_credential (h : CredSigned 0) : ∃ (s : State) (resp c : List Byte) (t : Nat),
    (s.sec.parties[(0 : Fin 5)]).challenge = some (c, t) ∧ s.now < t + secP 10 ∧ credentialOk 0 c resp s = true ∧
      Ready (.authRespond resp) s :=
  ⟨updParty 0 (fun p => { p with challenge := some (List.replicate 32 0, 900) }) (made up), cred, _, _, rfl, by decide +kernel,
    credential_ok 0 h _ (by decide +kernel) (by decide +kernel) (by decide +kernel) (by decide +kernel), readyOf (by decide +kernel)⟩

/-- A tester's non-default session with a challenge open. -/
def chalUp : State := updParty 2 (fun p => { p with challenge := some (List.replicate 32 0, 900) }) (tester 3 0 up)

theorem wit_UdsAccessAndRoutines_credential (h : CredSigned 2) : ∃ (s : State) (c : Can) (resp ch : List Byte) (at_ : Nat),
    let t := udsStart c 0x27 s
    udsGate c 0x27 4 progExt (resp.length == 252) 0 t = none ∧ (s.sec.parties[testerParty c]).challenge = some (ch, at_) ∧
      s.now < at_ + secP 10 ∧ (respond (testerParty c) resp t).1 = true ∧ Ready (.saSendKeyL3 c resp) s := by
  refine ⟨chalUp, 0, cred, List.replicate 32 0, 900, by decide +kernel, by decide +kernel, by decide +kernel, ?_, readyOf (by decide +kernel)⟩
  have hc := credential_ok 2 h (udsStart 0 0x27 chalUp) (by decide +kernel) (by decide +kernel) (by decide +kernel) (by decide +kernel)
  have hp : ((udsStart 0 0x27 chalUp).sec.parties[testerParty 0]).challenge = some (List.replicate 32 0, 900) := by decide +kernel
  have hn : (udsStart 0 0x27 chalUp).now < 900 + secP 10 := by decide +kernel
  have hw : testerParty 0 = 2 := by decide +kernel
  simp only [respond, hp, hn, if_true]
  rw [hw, hc]
  rfl

/-- An image session whose SHA-256 is a given one, whole. -/
def wholeUp (sha : List Byte) : State := withImg (imgS false 1 (some sha) [(0, 2)]) up

theorem wit_ImageSessionRows_sha :
    (∃ (s : State) (x : ImgSession) (h : List Byte), s.upd.session = some x ∧ x.st = 1 ∧ x.uds = false ∧ x.total ≤ imgNext x ∧ x.sha = some h ∧
      Config.sha256 (memRead s.upd.bankS 0 x.total) = h ∧ Ready .imgEnd s) ∧
    (∃ (s : State) (x : ImgSession) (h : List Byte), s.upd.session = some x ∧ x.st = 1 ∧ x.uds = false ∧ x.total ≤ imgNext x ∧ x.sha = some h ∧
      Config.sha256 (memRead s.upd.bankS 0 x.total) ≠ h ∧ Ready .imgEnd s) :=
  ⟨⟨wholeUp (Config.sha256 (memRead [] 0 32)), _, _, rfl, rfl, rfl, show (32 : Nat) ≤ 32 from Nat.le_refl _, rfl, rfl, readyOf (by decide +kernel)⟩,
   ⟨wholeUp (0 :: Config.sha256 (memRead [] 0 32)), _, _, rfl, rfl, rfl, show (32 : Nat) ≤ 32 from Nat.le_refl _, rfl,
    fun h => by have := congrArg List.length (show Config.sha256 (memRead [] 0 32) = 0 :: Config.sha256 (memRead [] 0 32) from h); simp at this,
    readyOf (by decide +kernel)⟩⟩

/-- A tester's session with the SA1 key `[3]` and the seed `[4]` handed out. -/
def seedUp : State := updParty 2 (fun p => { p with seed := some [4] }) (updKey 0 (fun x => { x with key := some [3] }) (tester 3 0 up))

/-- What a clause about SendKey of level 0x01 asks of a key. -/
def KeyAsks (P : List Byte → List Byte → Prop) : Prop := ∃ (s : State) (c : Can) (key seed sa1 : List Byte),
  udsGate c 0x27 2 progExt (key.length == 16) 0 (udsStart c 0x27 s) = none ∧ (s.sec.parties[testerParty c]).seed = some seed ∧
    (keySlot 0 s).key = some sa1 ∧ P (Config.aesCmac sa1 (seed ++ leBytes Config.serial.toNat 8)) key ∧ Ready (.saSendKeyL1 c key) s

theorem wit_UdsAccessAndRoutines_key (h : (Config.aesCmac [3] ([4] ++ leBytes Config.serial.toNat 8)).length = 16) :
    KeyAsks (· = ·) ∧ KeyAsks (· ≠ ·) := by
  have hg : udsGate 0 0x27 2 progExt true 0 (udsStart 0 0x27 seedUp) = none := by decide +kernel
  refine ⟨⟨seedUp, 0, _, [4], [3], ?_, by decide +kernel, by decide +kernel, rfl, readyOf rfl⟩, ?_⟩
  · rw [h]; exact hg
  · by_cases e : Config.aesCmac [3] ([4] ++ leBytes Config.serial.toNat 8) = List.replicate 16 0
    · refine ⟨seedUp, 0, List.replicate 16 1, [4], [3], hg, by decide +kernel, by decide +kernel, ?_, readyOf (by decide +kernel)⟩
      rw [e]; decide
    · exact ⟨seedUp, 0, List.replicate 16 0, [4], [3], hg, by decide +kernel, by decide +kernel, e, readyOf (by decide +kernel)⟩

/-- A tester with MAKER in an extended session in WORKSHOP, a transport key loaded. -/
def shop : State :=
  let u := tester 3 2 upWs
  { u with sec := { u.sec with transport := some [6] } }

/-- A signer load into slot 0, version 1; a revocation of version 1 that lists nothing; a key load into slot 0, version 1. -/
def signerRec : List Byte := [9, 0, 0, 0, 0, 0, 0, 0, 1, 0, 0, 0] ++ List.replicate 128 0
def revokeRec : List Byte := [1, 0, 0, 0] ++ List.replicate 68 0
def keyRec : List Byte := [0, 0, 0, 0, 1, 0, 0, 0] ++ List.replicate 40 0

/-- What a clause about a routine of the key store asks, the record's own part apart. -/
def ShopAsks (cmd : Can → List Byte → Instr) (P : List Byte → State → Prop) : Prop := ∃ (s : State) (c : Can) (o : List Byte),
  udsGate c 0x31 1 progExt true 2 (udsStart c 0x31 s) = none ∧ (udsStart c 0x31 s).modes.mode = .workshop ∧ P o (udsStart c 0x31 s) ∧
    Ready (cmd c o) s

theorem wit_UdsAccessAndRoutines_signer (h : Config.ecdsaVerify [1] (signerRec.take 76) (signerRec.drop 76) = true) :
    ShopAsks .signerLoad fun o t => o.length = 140 ∧ ∃ u, signerLoad o t = some u := by
  refine ⟨shop, 0, signerRec, by decide +kernel, by decide +kernel, ⟨by decide +kernel, ?_⟩, readyOf (by decide +kernel)⟩
  have h1 : leAt signerRec 4 1 = 0 := by decide +kernel
  have h2 : leAt signerRec 8 4 = 1 := by decide +kernel
  have h3 : (udsStart 0 0x31 shop).sec.makerRoot = some ([1], 7) := by decide +kernel
  simp only [signerLoad, h1, h2, h3, h]
  exact ⟨_, rfl⟩

theorem wit_UdsAccessAndRoutines_revoke (h : Config.ecdsaVerify [1] (revokeRec.take 8) (revokeRec.drop 8) = true) :
    ShopAsks .revoke fun o t => o.length = 72 + 4 * leAt o 4 1 ∧ ∃ u, revoke o t = some u := by
  refine ⟨shop, 0, revokeRec, by decide +kernel, by decide +kernel, ⟨by decide +kernel, ?_⟩, readyOf (by decide +kernel)⟩
  have h1 : leAt revokeRec 0 4 = 1 := by decide +kernel
  have h2 : leAt revokeRec 4 1 = 0 := by decide +kernel
  have h3 : (udsStart 0 0x31 shop).sec.makerRoot = some ([1], 7) := by decide +kernel
  have h4 : (udsStart 0 0x31 shop).sec.revokedVer = 0 := by decide +kernel
  have h5 : revokeRec.length = 72 := by decide +kernel
  simp only [revoke, h1, h2, h3, h4, h5, Nat.mul_zero, Nat.add_zero, h]
  exact ⟨_, rfl⟩

theorem wit_UdsAccessAndRoutines_keyLoad (h : Config.aesCmac [6] (keyRec.take 32) = List.replicate 16 0) :
    ShopAsks .keyLoad fun o t => o.length = 48 ∧ ∃ u, keyLoad o t = some u := by
  refine ⟨shop, 0, keyRec, by decide +kernel, by decide +kernel, ⟨by decide +kernel, ?_⟩, readyOf (by decide +kernel)⟩
  have h1 : leAt keyRec 0 1 = 0 := by decide +kernel
  have h2 : leAt keyRec 4 4 = 1 := by decide +kernel
  have h3 : (udsStart 0 0x31 shop).sec.transport = some [6] := by decide +kernel
  have h4 : (keySlot 0 (udsStart 0 0x31 shop)).ver = 0 := by decide +kernel
  have h5 : slice keyRec 32 16 = List.replicate 16 0 := by decide +kernel
  simp only [keyLoad, h1, h2, h3, h4, h5, h]
  exact ⟨_, rfl⟩

/-- A frame of command 0 with freshness 16 and a MAC. -/
def acmdF (mac : Byte) : CanFrame := { c0 with data := [1, 2, 16, 0, mac, mac, mac, mac] }

/-- What a clause about an authenticated command asks of a state, a frame and a key, the MAC apart. -/
def AcmdAsks (s : State) (f : CanFrame) (P : List Byte → List Byte → Prop) : Prop :=
  ((s.can.ctl[0]).st = .active ∨ (s.can.ctl[0]).st = .passive) ∧ ∃ k, acmdOf 0 f s = some k ∧
    let u := s.reach 2000; let n := acmdKey k u; let fv := fullFreshness (keySlot n u).fv (leAt f.data 2 2)
    f.fdf = false ∧ f.dlc = 8 ∧ f.data.length = 8 ∧ fv - (keySlot n u).fv ≤ u.fld (Ix.SEC_ACMD_CFG k) 16 10 ∧ fv ≤ 0xFFFFFFFF ∧
    Ready (.authCommandFrame 0 2000 f) s ∧
    ∃ key, (keySlot n u).key = some key ∧ P ((Config.aesCmac key (acmdMessage f fv)).take 4) (f.data.drop 4)

theorem wit_CredentialRows_mac :
    ((Config.aesCmac [3] (acmdMessage (acmdF 0) 16)).take 4 = [0, 0, 0, 0] → ∃ s f, AcmdAsks s f (· = ·)) ∧ ∃ s f, AcmdAsks s f (· ≠ ·) := by
  have hk : ∀ m, acmdOf 0 (acmdF m) acmdUp = some 0 := fun m => rfl
  have hr : ∀ m, Ready (.authCommandFrame 0 2000 (acmdF m)) acmdUp := fun m => readyOf rfl
  refine ⟨fun h => ⟨acmdUp, acmdF 0, by decide +kernel, 0, hk 0, by decide +kernel, by decide +kernel, by decide +kernel, by decide +kernel,
    by decide +kernel, hr 0, [3], by decide +kernel, h⟩, ?_⟩
  by_cases e : (Config.aesCmac [3] (acmdMessage (acmdF 0) 16)).take 4 = [0, 0, 0, 0]
  · refine ⟨acmdUp, acmdF 1, by decide +kernel, 0, hk 1, by decide +kernel, by decide +kernel, by decide +kernel, by decide +kernel,
      by decide +kernel, hr 1, [3], by decide +kernel, fun h => ?_⟩
    have h' : (Config.aesCmac [3] (acmdMessage (acmdF 0) 16)).take 4 = [1, 1, 1, 1] := h
    rw [e] at h'; exact absurd h' (by decide)
  · exact ⟨acmdUp, acmdF 0, by decide +kernel, 0, hk 0, by decide +kernel, by decide +kernel, by decide +kernel, by decide +kernel,
      by decide +kernel, hr 0, [3], by decide +kernel, e⟩

/-- A part in FIELD with OWNER_LOCK set to a hash no code has, and codes refused so far. -/
def lockedField (wrong : Nat) : State :=
  let u := field [0, 0, 0, 0] (some (0 :: ownerHash (ownerBytes up)))
  { u with sec := { u.sec with wrong := wrong } }

/-- What a clause about a wrong code asks, the count of wrong codes apart. -/
def WrongCode (P : Nat → Prop) : Prop := ∃ (s : State) (r : Requester),
  let n := noteRequest r s
  mayWrite r Ix.LC_OWNER_CMD n = true ∧ (valueOk Ix.LC_OWNER_CMD 2 n && crossWritten Ix.LC_OWNER_CMD 2 n) = true ∧
    ∃ h, s.sec.owner = some h ∧ ownerOverride r n = false ∧ ownerRefused n = false ∧ ownerHash (ownerBytes s) ≠ h ∧ P (s.sec.wrong + 1) ∧
      Ready (.ownerLockClear r) s

theorem wit_OwnerAndPortRows_wrongCode : WrongCode (· % 5 ≠ 0) ∧ WrongCode (· % 5 = 0) := by
  have hh : ∀ n, ownerHash (ownerBytes (lockedField n)) ≠ 0 :: ownerHash (ownerBytes up) := fun n h => by
    have := congrArg List.length (show ownerHash (ownerBytes up) = 0 :: ownerHash (ownerBytes up) from h); simp at this
  exact ⟨⟨lockedField 0, .host, rfl, rfl, _, rfl, by decide +kernel, by decide +kernel, hh 0, by decide +kernel, readyOf rfl⟩,
    ⟨lockedField 4, .host, rfl, rfl, _, rfl, by decide +kernel, by decide +kernel, hh 4, by decide +kernel, readyOf rfl⟩⟩

theorem wit_OwnerAndPortRows_provision (h : Config.provisionSigned [1] 7 [2] = true) : ∃ (s : State) (key sig : List Byte) (id : Nat),
    s.life = .blank ∧ s.pw.rstHeld = true ∧ s.pw.pw ≠ .off ∧ s.sec.entropyOk = true ∧ s.upd.intent = none ∧
      Config.provisionSigned key id sig = true ∧ Ready (.testPortProvision key id sig none) s :=
  ⟨{ up with sec := { up.sec with entropyOk := true }, pw := { up.pw with rstHeld := true } }, [1], [2], 7, by decide +kernel, by decide +kernel,
    by decide +kernel, by decide +kernel, by decide +kernel, h, readyOf (by decide +kernel)⟩

/-! ## The Timetable's slots -/

theorem slots_up : SlotsOk up := by
  refine ⟨?_, ?_, ?_, ?_, ?_⟩ <;> decide +kernel

theorem wit_SlotsStayInOrder :
    (∃ (g : List EventSpec) (s t : State), SlotsOk s ∧
      (let v := rouse .pair s
       (groupStatus g v ≠ 0 ∧ groupStatus g v ≠ 0x10) ∨
        ∃ u, groupStatus g v = 0 ∧ placeGroup g { v with tt := { v.tt with status := 0, handles := [] } } = .ok u) ∧
      step (s.withFront (.ttPost g)) = .next t) ∧
    (∃ (i : Instr) (s t : State), SlotsOk s ∧
      ((∃ slot gen, i = .ttCancel slot gen) ∨ (∃ slot, i = .eventCommit slot) ∨ (∃ age, i = .ttLogSelWrite age)) ∧
      step (s.withFront i) = .next t) ∧
    (∃ (slot : Nat) (s : State), SlotsOk s ∧ ∃ e u, takeEvent slot s = some (e, u)) := by
  refine ⟨⟨[p0], up, _, slots_up, Or.inr ⟨_, by decide +kernel, rfl⟩, rfl⟩, ⟨.ttCancel 0 0, up, _, slots_up, Or.inl ⟨0, 0, rfl⟩, rfl⟩,
    0, evUp (.outSet 4 1) true, ?_, pairOf0 (by decide +kernel)⟩
  refine ⟨?_, ?_, ?_, ?_, ?_⟩ <;> decide +kernel


/-! ## Worked examples of the chapters -/

/-- R33: the check value of the ASCII string "123456789". -/
theorem test_crc_check_value : crc32 [0x31, 0x32, 0x33, 0x34, 0x35, 0x36, 0x37, 0x38, 0x39] = 0xCBF43926 := by decide +kernel

/-- Table 20-15: FV of the genuine frame, of the replay (difference 65,517) and of the forged frame (difference 13). -/
theorem test_freshness_example :
    fullFreshness 0x12FE 0x1303 = 0x1303 ∧ fullFreshness 0x1303 0x12F0 = 0x112F0 ∧ fullFreshness 0x1303 0x12F0 - 0x1303 = 65517 ∧
    fullFreshness 0x1303 0x1310 - 0x1303 = 13 := by decide +kernel

/-- HS04 of the T2 heated grips at duty 393 (08): profile 0, PWM on FREE with a period of 10 ms, the carry of the period before. -/
def grip (carry : Nat) : State :=
  updCh 4 (fun y => { y with st := .on, shadow := 393, carryOn := carry }) (wd (Ix.HS_CFG 4) 0x800 (wd (Ix.HS_PWM 4) 0x271008 up))

/-- 08, lowest level: period 1 is skipped and carries 2,399 base periods. -/
theorem test_grip_skipped : (pulseOf 4 1300 (grip 0)).on = false ∧ (pulseOf 4 1300 (grip 0)).carryOn = 2399 := by decide +kernel

/-- 08, lowest level: period 2 is a pulse of 119.950 µs without a carry. -/
theorem test_grip_pulse :
    (pulseOf 4 1300 (grip 2399)).on = true ∧ (pulseOf 4 1300 (grip 2399)).off = some 4798 ∧ (pulseOf 4 1300 (grip 2399)).carryOn = 0 := by decide +kernel

/-- STR2 of the T2 tail unit (09): ISET 400 mA, CROSS 20, twelve positions, at a level. -/
def tail (level : Nat) : State :=
  updStr 2 (fun y => { y with st := .lit, level := level, target := level, d := 10000, mask := 0 })
    (wd (Ix.LED_STR_CFG 2) 12 (wd (Ix.LED_STR_ISET 2) (400 + 20 * 65536) up))

/-- 09: the tail lamp at 0x0CCD runs at 80 mA, the brake lamp at 400 mA. -/
theorem test_tail_current : strCurrent 2 (tail 0x0CCD) = 80 ∧ strCurrent 2 (tail 0xFFFF) = 400 := by decide +kernel

/-- 11: 1.5625 ms between the teeth of a wheel of 24 is 1,600 r/min. -/
theorem test_crank_speed : crankFix 62500 24 = 1600 * 65536 := by decide +kernel

/-- 12: a frame of two SENSE electrodes that one DRIVE electrode drives lasts 250 µs. -/
theorem test_touch_frame_length :
    frameP { convs := [], selfTest := [], pairTest := [], refTest := [] }
      ((fun u : State => ({ u with tch := { u.tch with testAt := some 1000 } } : State))
        (wd (Ix.TCH_EL_CFG 0) 1 (wd (Ix.TCH_EL_CFG 1) 1 (wd (Ix.TCH_EL_CFG 2) 2 (wd (Ix.TCH_G_CFG 0) 0x120001 (wd (Ix.TCH_G_CFG 1) 0x120002 up)))))) =
      usP 250 := by decide +kernel

/-- R502: IDCODE shifts out 0xBCB0_7A3F. -/
theorem test_idcode : (shiftOut (leBytes 0xBCB07A3F 4) up).sec.tdo = [0x3F, 0x7A, 0xB0, 0xBC] := by decide +kernel

/-- R61, R65: a host's write of TXN_TIMEOUT takes effect with INTEGRATOR and within its range of 100 to 60,000 only. -/
theorem test_word_write :
    ((writeFree .host Ix.TXN_TIMEOUT 100 (withPriv 0 1 up)).2).word Ix.TXN_TIMEOUT = 100 ∧
      (writeFree .host Ix.TXN_TIMEOUT 99 (withPriv 0 1 up)).1 = 5 ∧
    ((writeFree .host Ix.TXN_TIMEOUT 99 (withPriv 0 1 up)).2).word Ix.TXN_TIMEOUT = 2000 ∧
    ((writeFree .host Ix.TXN_TIMEOUT 100 up).2).word Ix.TXN_TIMEOUT = 2000 := by decide +kernel

/-- A step takes the front of the queue: the front command runs first, the rest waits. -/
theorem test_queue :
    (match step { State.reset with pending := [.testPortIdcode, .ttCancel 0 0] } with
      | .next t => decide (t.pending = [.ttCancel 0 0] ∧ t.sec.tdo = [0x3F, 0x7A, 0xB0, 0xBC])
      | _ => false) = true := by decide +kernel

end Sys2Proof.Tests
end

section
/-!
PROOF. Permission and the words (03_parameters_and_transactions.md, R57-R63): when a request is permitted, what a read and a write of
one word do, and how a command that is one read or one write completes.
-/
namespace Sys2Proof.Machine

section
variable {r : Requester} {i : Nat} {v : Word} {x : ParamRow} {s : State}

/-! ## Permission (R61) -/

theorem direct_iff (a : Access) : a.direct = true ↔ a = .rw ∨ a = .w1c := by cases a <;> decide

theorem staged_iff (a : Access) : a.staged = true ↔ a = .rw ∨ a = .rwt ∨ a = .w1c := by cases a <;> decide

theorem mayRead_iff (r : Requester) (i : Nat) (s : State) :
    mayRead r i s = true ↔ ∃ x, paramRow i = some x ∧ x.priv.rank ≤ privOf r s ∧ aliveNow x.alive s = true := by
  unfold mayRead privileged
  cases paramRow i <;> simp

theorem mayWrite_iff (r : Requester) (i : Nat) (s : State) :
    mayWrite r i s = true ↔ ∃ x, paramRow i = some x ∧ (x.access = .rw ∨ x.access = .w1c) ∧ x.priv.rank ≤ privOf r s ∧
      aliveNow x.alive s = true := by
  unfold mayWrite privileged
  cases paramRow i <;> simp [direct_iff, and_assoc]

theorem mayStage_iff (r : Requester) (i : Nat) (s : State) :
    mayStage r i s = true ↔ ∃ x, paramRow i = some x ∧ (x.access = .rw ∨ x.access = .rwt ∨ x.access = .w1c) ∧
      x.priv.rank ≤ privOf r s ∧ aliveNow x.alive s = true := by
  unfold mayStage privileged
  cases paramRow i <;> simp [staged_iff, and_assoc]

/-! ## Reads (R57, R58) -/

theorem readParam_refused (h : mayRead r i s = false) : readParam r i s = (0, s) := by simp [readParam, h]

theorem readParam_permitted (h : mayRead r i s = true) : readParam r i s = (readWord i s, clearRead i s) := by
  simp [readParam, h]

/-- A read-clear word that the store holds goes back to its Reset column. -/
theorem clearRead_stored (hx : paramRow i = some x) (ha : x.access = .rc) (hc : i ≠ Ix.CHG_FAULTS) (hr : i ≠ Ix.PWR_WATCH_RUN)
    (hs : i ≠ Ix.PWR_WATCH_STBY) : clearRead i s = s.put i (resetWord i) := by
  simp [clearRead, hx, ha, hc, hr, hs]

theorem clearRead_notRc (hx : paramRow i = some x) (ha : x.access ≠ .rc) (hi : i ≠ Ix.TT_FREE_LO) : clearRead i s = s := by
  simp [clearRead, hx, ha, hi]

theorem chgFaults_isRc : ∃ x, paramRow Ix.CHG_FAULTS = some x ∧ x.access = .rc := Option.map_eq_some_iff.1 rfl

theorem watchRun_isRc : ∃ x, paramRow Ix.PWR_WATCH_RUN = some x ∧ x.access = .rc := Option.map_eq_some_iff.1 rfl

theorem watchStby_isRc : ∃ x, paramRow Ix.PWR_WATCH_STBY = some x ∧ x.access = .rc := Option.map_eq_some_iff.1 rfl

theorem freeLo_isRo : ∃ x, paramRow Ix.TT_FREE_LO = some x ∧ x.access = .ro := Option.map_eq_some_iff.1 rfl

theorem clearRead_chgFaults (s : State) : clearRead Ix.CHG_FAULTS s = chgFaultsRead s := by
  obtain ⟨x, hx, ha⟩ := chgFaults_isRc
  simp [clearRead, hx, ha]

theorem clearRead_watchRun (s : State) :
    clearRead Ix.PWR_WATCH_RUN s = { accountWatch s with pw := { (accountWatch s).pw with watchRun := 0 } } := by
  obtain ⟨x, hx, ha⟩ := watchRun_isRc
  have hne : Ix.PWR_WATCH_RUN ≠ Ix.CHG_FAULTS := by decide
  simp [clearRead, hx, ha, hne]

theorem clearRead_watchStby (s : State) :
    clearRead Ix.PWR_WATCH_STBY s = { accountWatch s with pw := { (accountWatch s).pw with watchStby := 0 } } := by
  obtain ⟨x, hx, ha⟩ := watchStby_isRc
  have hne : Ix.PWR_WATCH_STBY ≠ Ix.CHG_FAULTS ∧ Ix.PWR_WATCH_STBY ≠ Ix.PWR_WATCH_RUN := by decide
  simp [clearRead, hx, ha, hne]

/-- Reading the low half of FREE latches the high half (06). -/
theorem clearRead_freeLo (s : State) :
    clearRead Ix.TT_FREE_LO s = { s with tt := { s.tt with freeHi := toWord (s.freeCount / 2 ^ 32) } } := by
  obtain ⟨x, hx, ha⟩ := freeLo_isRo
  simp [clearRead, hx, ha]

/-- Accounting the present stretch of WATCH changes the power manager's record only. -/
theorem accountWatch_words (s : State) : (accountWatch s).words = s.words := by
  unfold accountWatch; split <;> rfl

/-- A permitted read of a read-clear word of the store empties that word and no other. -/
theorem readParam_stored (h : mayRead r i s = true) (hx : paramRow i = some x) (ha : x.access = .rc) (hc : i ≠ Ix.CHG_FAULTS)
    (hr : i ≠ Ix.PWR_WATCH_RUN) (hs : i ≠ Ix.PWR_WATCH_STBY) : readParam r i s = (readWord i s, s.put i (resetWord i)) := by
  rw [readParam_permitted h, clearRead_stored hx ha hc hr hs]

theorem readParam_chgFaults (h : mayRead r Ix.CHG_FAULTS s = true) :
    readParam r Ix.CHG_FAULTS s = (readWord Ix.CHG_FAULTS s, chgFaultsRead s) := by
  rw [readParam_permitted h, clearRead_chgFaults]

/-! ## Writes (R57, R58, R65) -/

theorem writeParam_refused (m : Measured) (h : mayWrite r i s = false) : writeParam r m i v s = (0, s) := by simp [writeParam, h]

/-- A permitted write in range to a RW word that no command and no forcing rule serves stores the value less its reserved bits. -/
theorem writeParam_plain {m : Measured} (h : mayWrite r i s = true) (hx : paramRow i = some x) (ha : x.access = .rw)
    (hv : (valueOk i v s && crossOk i (s.put i (cleanValue i v))) = true) (hc : commandWord r m i (cleanValue i v) s = none)
    (hf : forceWord i (cleanValue i v) s = none) : writeParam r m i v s = (0, s.put i (cleanValue i v)) := by
  have happly : applyWrite r m i v s = (0, s.put i (cleanValue i v)) := by simp [applyWrite, hx, ha, hc, hf]
  simp [writeParam, crossWritten, h, hx, ha, hv, happly]

/-! ## Commands that are one request for one word -/

/-- A command that is one write: where the write is refused, the request is noted and nothing else changes. -/
theorem completes_of_refusedWrite {c : Instr} {m : Measured} (hc : exec c s = doneFor (Instr.part c) s (requestWrite r m i v))
    (h : mayWrite r i (noteRequest r s) = false) : Completes c s (noteRequest r s) :=
  completes_of hc (congrArg Prod.snd (writeParam_refused m h))

/-- READ_CLEAR_WORD leaves what the read of its word leaves. -/
theorem completes_readClearWord (r : Requester) (i : Nat) (s : State) :
    Completes (.readClearWord r i) s (readParam r i (noteRequest r s)).2 :=
  completes_of (f := fun t => (readParam r i (noteRequest r t)).2) rfl rfl

/-- CHG_FAULTS_READ leaves what the read of CHG_FAULTS leaves. -/
theorem completes_chgFaultsRead (r : Requester) (s : State) :
    Completes (.chgFaultsRead r) s (readParam r Ix.CHG_FAULTS (noteRequest r s)).2 :=
  completes_of (f := fun t => (readParam r Ix.CHG_FAULTS (noteRequest r t)).2) rfl rfl

end

/-! ## The statements -/

/-- Settles O5: each test is the conjunction of R61 over the row that defines the index. -/
theorem permittedOnlyIfAllFour : Obligations.PermittedOnlyIfAllFour := by
  unfold Obligations.PermittedOnlyIfAllFour
  exact ⟨by decide, fun r i s => ⟨mayRead_iff r i s, mayWrite_iff r i s, mayStage_iff r i s⟩⟩

/-- Settles O6: a refused read or write ends before it touches the state, so its command leaves the noted request alone. -/
theorem refusedRequestsChangeNothing : Obligations.RefusedRequestsChangeNothing := by
  unfold Obligations.RefusedRequestsChangeNothing
  refine ⟨fun _ _ _ h => readParam_refused h, ?_, ?_, fun _ m _ _ _ h => writeParam_refused m h, ?_,
    fun _ _ _ _ h => completes_of_refusedWrite rfl h, fun _ _ _ _ h => completes_of_refusedWrite rfl h,
    fun _ _ _ h => completes_of_refusedWrite rfl h, fun _ _ _ h => completes_of_refusedWrite rfl h⟩
  · intro r i x s h hx ha hc hr hs
    rw [readParam_stored h hx ha hc hr hs]
  · intro r s h
    rw [readParam_chgFaults h]
  · intro r i s h
    have hread := completes_readClearWord r i s
    rwa [readParam_refused h] at hread

/-- Settles O8: a permitted read answers the present value and leaves what `clearRead` leaves, class by class. -/
theorem readClearsOnlyWhenPermitted : Obligations.ReadClearsOnlyWhenPermitted := by
  unfold Obligations.ReadClearsOnlyWhenPermitted
  refine ⟨?stored, fun _ _ h => readParam_chgFaults h, ?watchRun, ?watchStby, ?notRc, ?freeLo, ?refused, ?command, ?faultsRead⟩
  case stored =>
    intro r i x s h hx ha hc hr hs
    rw [readParam_stored h hx ha hc hr hs]
    exact ⟨rfl, word_put_same s i _, fun _ hk => word_put_other s _ hk⟩
  case watchRun =>
    intro r s h
    rw [readParam_permitted h, clearRead_watchRun]
    exact ⟨rfl, rfl, accountWatch_words s⟩
  case watchStby =>
    intro r s h
    rw [readParam_permitted h, clearRead_watchStby]
    exact ⟨rfl, rfl, accountWatch_words s⟩
  case notRc =>
    intro r i x s h hx ha hi
    rw [readParam_permitted h, clearRead_notRc hx ha hi]
  case freeLo =>
    intro r s h
    rw [readParam_permitted h, clearRead_freeLo]
  case refused =>
    intro r i k s h
    rw [readParam_refused h]
  case command =>
    intro r i x s h hx ha hc hr hs
    have hread := completes_readClearWord r i s
    rwa [readParam_stored h hx ha hc hr hs] at hread
  case faultsRead =>
    intro r s h
    have hread := completes_chgFaultsRead r s
    rwa [readParam_chgFaults h] at hread

end Sys2Proof.Machine
end

section
/-!
PROOF. Transactions (03_parameters_and_transactions.md, R66-R70): who may use one, what TXN_BEGIN, TXN_WRITE and TXN_READ do, and how
the commands of a transaction answer their requester.
-/
namespace Sys2Proof.Machine

section
variable {r : Requester} {i : Nat} {v : Word} {s : State}

/-! ## Who may use a transaction (R67) -/

theorem notMine_idle (h : s.txn.st = .idle) : notMine r s = some 2 := by simp [notMine, h]

theorem notMine_other (hs : s.txn.st ≠ .idle) (ho : s.txn.owner ≠ some r) : notMine r s = some 3 := by simp [notMine, hs, ho]

/-- The operation runs for the owner of a transaction and for nobody else. -/
theorem notMine_none : notMine r s = none ↔ s.txn.st ≠ .idle ∧ s.txn.owner = some r := by
  by_cases hs : s.txn.st = .idle
  · simp [notMine_idle hs, hs]
  · by_cases ho : s.txn.owner = some r
    · simp [notMine, hs, ho]
    · simp [notMine_other hs ho, ho]

/-- An operation of the owner alone, asked by another requester or without a transaction, answers why and changes nothing. -/
theorem txnWrite_notMine {n : Nat} (h : notMine r s = some n) : txnWrite r i v s = (n, s) := by simp [txnWrite, h]

theorem txnCommit_notMine {n : Nat} {a : Option CommitAt} (h : notMine r s = some n) : txnCommit r a s = (n, s) := by
  simp [txnCommit, h]

theorem txnAbort_notMine {n : Nat} (h : notMine r s = some n) : txnAbort r s = (n, s) := by simp [txnAbort, h]

theorem ownsTxn_owner (hs : s.txn.st ≠ .idle) (ho : s.txn.owner = some r) : ownsTxn r s = true := by simp [ownsTxn, hs, ho]

theorem ownsTxn_other (ho : s.txn.owner ≠ some r) : ownsTxn r s = false := by simp [ownsTxn, ho]

/-! ## What touching the transaction leaves alone -/

@[simp] theorem touchTxn_words (r : Requester) (s : State) : (touchTxn r s).words = s.words := by rw [touchTxn_eq]
@[simp] theorem touchTxn_started (r : Requester) (s : State) : (touchTxn r s).started = s.started := by rw [touchTxn_eq]
@[simp] theorem touchTxn_st (r : Requester) (s : State) : (touchTxn r s).txn.st = s.txn.st := by rw [touchTxn_eq]
@[simp] theorem touchTxn_staged (r : Requester) (s : State) : (touchTxn r s).txn.staged = s.txn.staged := by rw [touchTxn_eq]
@[simp] theorem ownsTxn_touchTxn (r q : Requester) (s : State) : ownsTxn r (touchTxn q s) = ownsTxn r s := by
  rw [touchTxn_eq]; rfl
@[simp] theorem mayStage_touchTxn (r q : Requester) (i : Nat) (s : State) : mayStage r i (touchTxn q s) = mayStage r i s := by
  rw [touchTxn_eq]; rfl

/-! ## TXN_BEGIN (R66) -/

theorem txnBegin_busy (h : s.txn.st ≠ .idle ∨ s.started = false) : txnBegin r s = (1, touchTxn r s) := by
  have : ((touchTxn r s).txn.st != .idle || !(touchTxn r s).started) = true := by simpa using h
  simp only [txnBegin, this, if_true]

theorem txnBegin_opens (hs : s.txn.st = .idle) (hb : s.started = true) :
    txnBegin r s = (0, { s with txn := { st := .opened, owner := some r, staged := [], limit := s.num Ix.TXN_TIMEOUT,
                                         lastOp := s.now, handle := none, due := none } }) := by
  simp [txnBegin, touchTxn_idle hs, hs, hb]

/-! ## TXN_WRITE (R68, R69) -/

/-- A staged value of an index is judged against its range: the write is permitted and the word is no W1C word (R65). -/
def rangeJudged (r : Requester) (i : Nat) (s : State) : Bool := mayStage r i s && !(paramRow i).any (·.access == .w1c)

/-- TXN_WRITE of the owner of an OPEN transaction: the range, then the free slot, then the staging. -/
theorem txnWrite_opened (hs : s.txn.st = .opened) (ho : s.txn.owner = some r) :
    txnWrite r i v s =
      if rangeJudged r i s && !valueOk i v (touchTxn r s) then (5, touchTxn r s)
      else if 512 ≤ s.txn.staged.length ∧ (s.txn.staged.any fun y => y.idx == i) = false then (4, touchTxn r s)
      else (0, stageValue { idx := i, val := v, eff := mayStage r i s } (touchTxn r s)) := by
  have hmine : notMine r s = none := notMine_none.2 ⟨by simp [hs], ho⟩
  cases hx : paramRow i <;> simp [txnWrite, rangeJudged, hmine, hs, hx]

/-- A write that is refused, or to a W1C word, or in range passes the range test of TXN_WRITE. -/
theorem rangeTest_passed (h : mayStage r i s = false ∨ (∃ x, paramRow i = some x ∧ x.access = .w1c) ∨
    valueOk i v (touchTxn r s) = true) : (rangeJudged r i s && !valueOk i v (touchTxn r s)) = false := by
  obtain h | ⟨x, hx, ha⟩ | h := h
  · simp [rangeJudged, h]
  · simp [rangeJudged, hx, ha]
  · simp [h]

theorem stageValue_txn (x : Staged) (s : State) : stageValue x s = { s with txn := (stageValue x s).txn } := rfl

/-- An index already staged keeps its slot (R69). -/
theorem stageValue_repeated {x : Staged} (h : (s.txn.staged.any fun y => y.idx == x.idx) = true) :
    (stageValue x s).txn.staged = s.txn.staged.map fun y => if y.idx == x.idx then x else y := by
  simp only [stageValue, h, if_true]

/-- A new index takes one slot behind those in use. -/
theorem stageValue_new {x : Staged} (h : (s.txn.staged.any fun y => y.idx == x.idx) = false) :
    (stageValue x s).txn.staged = s.txn.staged ++ [x] := by
  simp only [stageValue, h, Bool.false_eq_true, if_false]

theorem stageValue_length_le {x : Staged} (h : s.txn.staged.length ≤ 512)
    (hfree : ¬ (512 ≤ s.txn.staged.length ∧ (s.txn.staged.any fun y => y.idx == x.idx) = false)) :
    (stageValue x s).txn.staged.length ≤ 512 := by
  cases hany : s.txn.staged.any fun y => y.idx == x.idx with
  | true => rwa [stageValue_repeated hany, List.length_map]
  | false =>
    have hroom : s.txn.staged.length < 512 := Nat.lt_of_not_le fun hfull => hfree ⟨hfull, hany⟩
    rw [stageValue_new hany, List.length_append, List.length_singleton]
    omega

/-- What TXN_WRITE can leave: the state as it was, the state with the owner's activity noted, or that with one value staged where
there is a slot for it. -/
theorem txnWrite_cases (r : Requester) (i : Nat) (v : Word) (s : State) :
    (txnWrite r i v s).2 = s ∨ (txnWrite r i v s).2 = touchTxn r s ∨
    (¬ (512 ≤ s.txn.staged.length ∧ (s.txn.staged.any fun y => y.idx == i) = false) ∧
      (txnWrite r i v s).2 = stageValue { idx := i, val := v, eff := mayStage r i s } (touchTxn r s)) := by
  cases hmine : notMine r s with
  | some n => exact .inl (by rw [txnWrite_notMine hmine])
  | none =>
    obtain ⟨hs, ho⟩ := notMine_none.1 hmine
    cases hst : s.txn.st with
    | idle => exact absurd hst hs
    | sealed => exact .inr (.inl (by simp [txnWrite, hmine, hst]))
    | opened =>
      rw [txnWrite_opened hst ho]
      split
      · exact .inr (.inl rfl)
      · split
        next => exact .inr (.inl rfl)
        next hfree => exact .inr (.inr ⟨hfree, rfl⟩)

/-- TXN_WRITE changes the transaction alone. -/
theorem txnWrite_txn (r : Requester) (i : Nat) (v : Word) (s : State) :
    (txnWrite r i v s).2 = { s with txn := (txnWrite r i v s).2.txn } := by
  obtain h | h | ⟨-, h⟩ := txnWrite_cases r i v s <;> rw [h]
  · rw [touchTxn_eq]
  · rw [stageValue_txn, touchTxn_eq]

theorem txnWrite_length_le (r : Requester) (i : Nat) (v : Word) (h : s.txn.staged.length ≤ 512) :
    (txnWrite r i v s).2.txn.staged.length ≤ 512 := by
  obtain hw | hw | ⟨hfree, hw⟩ := txnWrite_cases r i v s <;> rw [hw]
  · exact h
  · rwa [touchTxn_staged]
  · exact stageValue_length_le (by rwa [touchTxn_staged]) (by rwa [touchTxn_staged])

/-! ## TXN_READ (R70) -/

/-- The owner's read of an index it has staged with effect, of a class that a commit stores as it is. -/
theorem txnRead_staged {x : Staged} {p : ParamRow} (hs : s.txn.st ≠ .idle) (ho : s.txn.owner = some r)
    (hx : (s.txn.staged.find? fun y => y.idx == i) = some x) (he : x.eff = true) (hp : paramRow i = some p)
    (ha : p.access ≠ .w1c) : txnRead r i s = (cleanValue i x.val, touchTxn r s) := by
  simp [txnRead, ownsTxn_owner hs ho, hx, he, hp, ha]

theorem txnRead_withoutEffect {x : Staged} (hs : s.txn.st ≠ .idle) (ho : s.txn.owner = some r)
    (hx : (s.txn.staged.find? fun y => y.idx == i) = some x) (he : x.eff = false) : txnRead r i s = (0, touchTxn r s) := by
  simp [txnRead, ownsTxn_owner hs ho, hx, he]

theorem txnRead_other (ho : s.txn.owner ≠ some r) : txnRead r i s = readParam r i s := by
  simp [txnRead, touchTxn_other ho, ownsTxn_other ho]

theorem txnRead_notStaged (hx : (s.txn.staged.find? fun y => y.idx == i) = none) :
    txnRead r i s = readParam r i (touchTxn r s) := by
  simp [txnRead, hx]

/-! ## The commands (R434, R448) -/

/-- An operation that is carried out answers its requester from the state in which the request found the block. -/
theorem txnRequest_admitted (op : Nat) (f : State → Nat × List Byte × State) (h : admitted r s) :
    txnRequest r op f s =
      replyTo r 0x04 (0xF100 + op) (f (opened r s)).1 (f (opened r s)).2.1 (f (opened r s)).2.2 := by
  cases r with
  | host => rfl
  | fabric n => rfl
  | tester c =>
    have hgate : udsGate c 0x31 1 progExt true 0 (udsStart c 0x31 s) = none := h c rfl
    simp [txnRequest, opened, hgate]

/-- A command that is one operation on a transaction answers its requester, under the operation's routine, with what it did. -/
theorem completes_txn {c : Instr} {op id : Nat} {f : State → Nat × List Byte × State}
    (hc : exec c s = doneFor (Instr.part c) s (txnRequest r op f)) (hid : 0xF100 + op = id) (h : admitted r s) :
    Completes c s (replyTo r 0x04 id (f (opened r s)).1 (f (opened r s)).2.1 (f (opened r s)).2.2) := by
  subst hid
  exact completes_of hc (txnRequest_admitted op f h)

section
variable (h : admitted r s)
include h

theorem completes_txnBegin :
    Completes (.txnBegin r) s (replyTo r 0x04 0xF100 (txnBegin r (opened r s)).1 [] (txnBegin r (opened r s)).2) :=
  completes_txn (op := 0) (f := fun t => plain (txnBegin r t)) rfl rfl h

/-- The index of a command is taken as one of the 2^14 (R53). -/
theorem completes_txnWrite (i : Nat) (v : Word) :
    Completes (.txnWrite r i v) s
      (replyTo r 0x04 0xF101 (txnWrite r (i % 16384) v (opened r s)).1 [] (txnWrite r (i % 16384) v (opened r s)).2) :=
  completes_txn (op := 1) (f := fun t => plain (txnWrite r (i % 16384) v t)) rfl rfl h

theorem completes_txnRead (i : Nat) :
    Completes (.txnRead r i) s
      (replyTo r 0x04 0xF102 0 (leBytes (txnRead r (i % 16384) (opened r s)).1.toNat 4) (txnRead r (i % 16384) (opened r s)).2) :=
  completes_txn (op := 2) (f := fun t => (0, leBytes (txnRead r (i % 16384) t).1.toNat 4, (txnRead r (i % 16384) t).2)) rfl rfl h

theorem completes_txnCommit (a : Option CommitAt) :
    Completes (.txnCommit r a) s (replyTo r 0x04 0xF103 (txnCommit r a (opened r s)).1 [] (txnCommit r a (opened r s)).2) :=
  completes_txn (op := 3) (f := fun t => plain (txnCommit r a t)) rfl rfl h

theorem completes_txnAbort :
    Completes (.txnAbort r) s (replyTo r 0x04 0xF104 (txnAbort r (opened r s)).1 [] (txnAbort r (opened r s)).2) :=
  completes_txn (op := 4) (f := fun t => plain (txnAbort r t)) rfl rfl h

theorem completes_txnStatus :
    Completes (.txnStatus r) s (replyTo r 0x04 0xF105 0 (txnStatus r (opened r s)).1 (txnStatus r (opened r s)).2) :=
  completes_txn (op := 5) (f := fun t => (0, (txnStatus r t).1, (txnStatus r t).2)) rfl rfl h

end

end

/-! ## The statements -/

/-- Settles O10: TXN_BEGIN turns on the present transaction and the first LESSON_TICK alone. -/
theorem txnBeginBusyOrOpens : Obligations.TxnBeginBusyOrOpens := by
  unfold Obligations.TxnBeginBusyOrOpens
  refine ⟨?_, fun _ _ hs hb => txnBegin_opens hs hb, ?_, ?_⟩
  · intro r s h
    rw [txnBegin_busy h]
    exact ⟨rfl, touchTxn_eq r s⟩
  · intro r s ha hs hb
    have hbegin := completes_txnBegin ha
    rwa [txnBegin_opens hs hb] at hbegin
  · intro r s ha h
    have hbegin := completes_txnBegin ha
    rwa [txnBegin_busy h] at hbegin

/-- Settles O11: the test of the owner stands before every effect of TXN_WRITE, TXN_COMMIT and TXN_ABORT, and a direct write does not
look at the transaction. -/
theorem onlyOwnerChangesTxn : Obligations.OnlyOwnerChangesTxn := by
  unfold Obligations.OnlyOwnerChangesTxn
  refine ⟨?other, ?none, ?command, ?direct⟩
  case other =>
    intro r i v a s hs ho
    have h := notMine_other hs ho
    exact ⟨txnWrite_notMine h, txnCommit_notMine h, txnAbort_notMine h⟩
  case none =>
    intro r i v a s hs
    have h : notMine r s = some 2 := notMine_idle hs
    exact ⟨txnWrite_notMine h, txnCommit_notMine h, txnAbort_notMine h⟩
  case command =>
    intro r i v a s ha hs ho
    have h := notMine_other hs ho
    have hwrite := completes_txnWrite ha i v
    have hcommit := completes_txnCommit ha a
    have habort := completes_txnAbort ha
    rw [txnWrite_notMine h] at hwrite
    rw [txnCommit_notMine h] at hcommit
    rw [txnAbort_notMine h] at habort
    exact ⟨hwrite, hcommit, habort⟩
  case direct =>
    intro r m i v x s _ h hx ha hv hc hf
    exact writeParam_plain h hx ha hv hc hf

/-- Settles O12: what TXN_WRITE does in its order of tests, and the list it stages into. -/
theorem stagingSlots : Obligations.StagingSlots := by
  unfold Obligations.StagingSlots
  refine ⟨fun r i v s h => txnWrite_length_le r i v h, ?slots, ?badValue, ?command⟩
  case slots =>
    intro r i v s hs ho hok
    rw [txnWrite_opened hs ho, rangeTest_passed hok]
    refine ⟨fun hany => ?_, fun hany hroom => ?_, fun hany hfull => ?_⟩
    · simp [hany, stageValue_repeated (s := touchTxn r s) (x := ⟨i, v, mayStage r i s⟩) (by simpa using hany)]
    · have hnot : ¬ 512 ≤ s.txn.staged.length := by omega
      simp [hnot, stageValue_new (s := touchTxn r s) (x := ⟨i, v, mayStage r i s⟩) (by simpa using hany)]
    · simp [hany, hfull, hs]
  case badValue =>
    intro r i v x s hs ho hm hx ha hv
    have hj : rangeJudged r i s = true := by simp [rangeJudged, hm, hx, ha]
    simp [txnWrite_opened hs ho, hj, hv, hs]
  case command =>
    intro r i v s ha hi
    have hwrite := completes_txnWrite ha i v
    rwa [Nat.mod_eq_of_lt hi] at hwrite

/-- Settles O13: the owner's read looks at the staged writes first, and staging leaves the words alone. -/
theorem readYourStagedWrites : Obligations.ReadYourStagedWrites := by
  unfold Obligations.ReadYourStagedWrites
  refine ⟨?withEffect, ?withoutEffect, fun _ _ _ ho => txnRead_other ho, ?notStaged, txnWrite_txn, ?read, ?status⟩
  case withEffect =>
    intro r i x p s hs ho hx he hp ha
    rw [txnRead_staged hs ho hx he hp ha]
    exact ⟨rfl, touchTxn_words r s⟩
  case withoutEffect =>
    intro r i x s hs ho hx he
    rw [txnRead_withoutEffect hs ho hx he]
  case notStaged =>
    intro r i s hx
    rw [txnRead_notStaged hx]
  case read =>
    intro r i s ha hi
    have hread := completes_txnRead ha i
    rwa [Nat.mod_eq_of_lt hi] at hread
  case status =>
    intro r s ha
    exact completes_txnStatus ha

end Sys2Proof.Machine
end

section
/-!
PROOF. The proofs below are elaborated one after another: the whole text is checked as one file, and side by side they would wait for
each other in too many threads.
-/
set_option Elab.async false

section
/-!
PROOF. The bytes of a fabric frame (16_fabric_roll_call.md, R386): its header is a number of fields, its CRC a number of 32 bits, and
reading back little-endian bytes gives the number they were written from.
-/
namespace Sys2Proof.Machine

/-! ## Little-endian bytes (R4) -/

@[simp] theorem leBytes_length (n k : Nat) : (leBytes n k).length = k := by
  induction k generalizing n with
  | zero => rfl
  | succ k ih => simp [leBytes, ih]

theorem leNat_leBytes (n k : Nat) : leNat (leBytes n k) = n % 256 ^ k := by
  induction k generalizing n with
  | zero => simp [leBytes, leNat, Nat.mod_one]
  | succ k ih => rw [leBytes, leNat, ih, BitVec.toNat_ofNat, Nat.pow_succ' (m := 256), Nat.mod_mul (a := 256)]

theorem slice_append_left {a b : List Byte} {off len : Nat} (h : off + len ≤ a.length) :
    slice (a ++ b) off len = slice a off len := by
  rw [slice, slice, List.drop_append_of_le_length (by omega), List.take_append_of_le_length (by simp; omega)]

theorem slice_append_right {a b : List Byte} {off len : Nat} (ha : a.length = off) (hb : b.length = len) :
    slice (a ++ b) off len = b := by
  subst ha hb; simp [slice]

/-- Bytes in the middle of a number are its digits. -/
theorem leBytes_drop (n k j : Nat) : (leBytes n k).drop j = leBytes (n / 256 ^ j) (k - j) := by
  induction j generalizing n k with
  | zero => simp
  | succ j ih =>
    cases k with
    | zero => simp [leBytes]
    | succ k =>
      have : n / 256 ^ (j + 1) = n / 256 / 256 ^ j := by rw [Nat.pow_succ', Nat.div_div_eq_div_mul]
      rw [leBytes, List.drop_succ_cons, ih, this, Nat.succ_sub_succ]

theorem leBytes_take (n : Nat) {j k : Nat} (h : j ≤ k) : (leBytes n k).take j = leBytes n j := by
  induction j generalizing n k with
  | zero => rfl
  | succ j ih =>
    obtain ⟨k, rfl⟩ := Nat.exists_eq_add_of_le' h
    simp [leBytes, ih (n / 256) (Nat.le_add_left j k)]

theorem leAt_leBytes (n : Nat) {k off len : Nat} (h : off + len ≤ k) :
    leAt (leBytes n k) off len = n / 256 ^ off % 256 ^ len := by
  rw [leAt, slice, leBytes_drop, leBytes_take _ (by omega), leNat_leBytes]

/-! ## The CRC is a number of 32 bits (R33) -/

theorem crcBit_lt {c : Nat} (h : c < 2 ^ 32) : crcBit c < 2 ^ 32 := by
  unfold crcBit
  split
  · exact Nat.xor_lt_two_pow (by omega) (by omega)
  · omega

theorem crcBits_lt (k : Nat) {c : Nat} (h : c < 2 ^ 32) : crcBits k c < 2 ^ 32 := by
  induction k generalizing c with
  | zero => exact h
  | succ k ih => exact ih (crcBit_lt h)

theorem crcLoop_lt (bs : List Byte) {c : Nat} (h : c < 2 ^ 32) : crcLoop bs c < 2 ^ 32 := by
  induction bs generalizing c with
  | nil => exact h
  | cons b bs ih => exact ih (crcBits_lt 8 (Nat.xor_lt_two_pow h (by omega)))

theorem crc32_lt (bs : List Byte) : crc32 bs < 2 ^ 32 :=
  Nat.xor_lt_two_pow (crcLoop_lt bs (by decide)) (by decide)

/-! ## The frame (R386) -/

theorem b2n_lt_two (b : Bool) : b2n b < 2 := by cases b <;> decide

theorem b2n_beq_one (b : Bool) : (b2n b == 1) = b := by cases b <;> rfl

/-- The header of a frame as a number (Table 16-2). -/
def frameHead (f : FabFrame) : Nat :=
  f.typ % 64 + b2n f.bcast * 2 ^ 6 + f.dst % 4096 * 2 ^ 8 + f.src % 4096 * 2 ^ 20 + f.hops % 64 * 2 ^ 32
    + f.payload.length * 2 ^ 40 + f.seq % 256 * 2 ^ 56

/-- Header and payload, what the CRC of a frame covers. -/
def frameBody (f : FabFrame) : List Byte := leBytes (frameHead f) 8 ++ f.payload

theorem frameBytes_eq (f : FabFrame) : frameBytes f = frameBody f ++ leBytes (crc32 (frameBody f)) 4 := rfl

@[simp] theorem frameBody_length (f : FabFrame) : (frameBody f).length = 8 + f.payload.length := by simp [frameBody]

/-- A read within the header of a frame is a read of the header's number. -/
theorem leAt_frameBytes (f : FabFrame) {off len : Nat} (h : off + len ≤ 8) :
    leAt (frameBytes f) off len = frameHead f / 256 ^ off % 256 ^ len := by
  rw [← leAt_leBytes (frameHead f) h, leAt, leAt, frameBytes_eq, slice_append_left (by simp; omega), frameBody,
    slice_append_left (by simpa using h)]

section
variable {f : FabFrame}

theorem frameHead_length (h : f.payload.length ≤ 256) : frameHead f / 256 ^ 5 % 256 ^ 2 % 512 = f.payload.length := by
  have := b2n_lt_two f.bcast
  unfold frameHead
  omega

/-- The fields of the header, read back (Table 16-2). -/
theorem frameHead_fields (ht : f.typ < 64) (hd : f.dst < 4096) (hs : f.src < 4096) (hh : f.hops < 64) (hq : f.seq < 256)
    (hp : f.payload.length ≤ 256) :
    nbits (frameHead f) 0 6 = f.typ ∧ nbits (frameHead f) 6 1 = b2n f.bcast ∧ nbits (frameHead f) 8 12 = f.dst ∧
      nbits (frameHead f) 20 12 = f.src ∧ nbits (frameHead f) 32 6 = f.hops ∧ nbits (frameHead f) 56 8 = f.seq := by
  have := b2n_lt_two f.bcast
  unfold frameHead nbits
  omega

theorem frameHead_lt (hp : f.payload.length ≤ 256) : frameHead f < 256 ^ 8 := by
  have := b2n_lt_two f.bcast
  unfold frameHead
  omega

theorem slice_frameBytes_payload : slice (frameBytes f) 8 f.payload.length = f.payload := by
  rw [frameBytes_eq, slice_append_left (by simp), frameBody, slice_append_right (by simp) rfl]

theorem leAt_frameBytes_crc : leAt (frameBytes f) (8 + f.payload.length) 4 = crc32 (frameBody f) := by
  rw [frameBytes_eq, leAt, slice_append_right (by simp) (by simp), leNat_leBytes]
  exact Nat.mod_eq_of_lt (crc32_lt _)

theorem take_frameBytes : (frameBytes f).take (8 + f.payload.length) = frameBody f := by
  rw [frameBytes_eq, List.take_left' (by simp)]

end

/-- Settles O58: length and CRC are those of the bytes, the header's number holds the fields, and the payload stands behind it. -/
theorem fabricFrameRoundTrip : Obligations.FabricFrameRoundTrip := by
  unfold Obligations.FabricFrameRoundTrip
  intro f ht hd hs hh hq hp
  have hlen : leAt (frameBytes f) 5 2 % 512 = f.payload.length := by rw [leAt_frameBytes f (by decide), frameHead_length hp]
  have hhead : leAt (frameBytes f) 0 8 = frameHead f := by
    rw [leAt_frameBytes f (by decide), Nat.pow_zero, Nat.div_one, Nat.mod_eq_of_lt (frameHead_lt hp)]
  obtain ⟨etyp, ebcast, edst, esrc, ehops, eseq⟩ := frameHead_fields ht hd hs hh hq hp
  have hsize : (frameBytes f).length = 12 + f.payload.length := by rw [frameBytes_eq]; simp; omega
  simp only [frameOf, hlen, hhead, hsize, hp, leAt_frameBytes_crc, take_frameBytes, and_self, if_true, etyp, ebcast, edst, esrc,
    ehops, eseq, b2n_beq_one, slice_frameBytes_payload]

end Sys2Proof.Machine
end

section
/-!
PROOF. What the fault collector leaves alone (19_faults_and_health.md): a report and its end change the collector's own record, the
outputs and the operations that its reactions stop, and words from the load switches' up; nothing of the Timetable, the transaction,
the buses or the modes.
-/
namespace Sys2Proof.Machine

/-! ## Words a field write leaves alone -/

theorem word_bump_other (s : State) {i k : Nat} (lo w : Nat) (h : k ≠ i) : (s.bump i lo w).word k = s.word k :=
  word_put_other s _ h

theorem word_latch_other (s : State) {i k : Nat} (m : Nat) (h : k ≠ i) : (s.latch i m).word k = s.word k :=
  word_put_other s _ h

/-! ## The frame of the fault collector -/

/-- What the fault collector may change: its record, the outputs, the calibrations and the charger; of the words none below the load
switches' counts, and of a lock not the direction of its stroke. -/
def FaultFrame (s t : State) : Prop :=
  t = { s with words := t.words, flt := t.flt, chans := t.chans, locks := t.locks, led := t.led, mot := t.mot, imu := t.imu,
               tch := t.tch, chg := t.chg } ∧
  (∀ i < 0xD80, t.word i = s.word i) ∧ ∀ h : Hb, (t.locks[h]).dir = (s.locks[h]).dir

section
variable {s t u : State}

theorem FaultFrame.refl (s : State) : FaultFrame s s := ⟨rfl, fun _ _ => rfl, fun _ => rfl⟩

theorem FaultFrame.trans (h : FaultFrame s t) (k : FaultFrame t u) : FaultFrame s u := by
  obtain ⟨ht, hw, hd⟩ := h
  obtain ⟨hu, kw, kd⟩ := k
  refine ⟨hu.trans ?_, fun i hi => (kw i hi).trans (hw i hi), fun b => (kd b).trans (hd b)⟩
  rw [ht]

theorem FaultFrame.tt (h : FaultFrame s t) : t.tt = s.tt := by rw [h.1]
theorem FaultFrame.now (h : FaultFrame s t) : t.now = s.now := by rw [h.1]
theorem FaultFrame.modes (h : FaultFrame s t) : t.modes = s.modes := by rw [h.1]
theorem FaultFrame.pw (h : FaultFrame s t) : t.pw = s.pw := by rw [h.1]
theorem FaultFrame.txn (h : FaultFrame s t) : t.txn = s.txn := by rw [h.1]
theorem FaultFrame.procs (h : FaultFrame s t) : t.procs = s.procs := by rw [h.1]

end

theorem faultFrame_flt (s : State) (f : FaultS) : FaultFrame s { s with flt := f } := ⟨rfl, fun _ _ => rfl, fun _ => rfl⟩

/-- A counter from the load switches' words up is none of the words below. -/
theorem faultFrame_bump (s : State) {i : Nat} (lo w : Nat) (h : 0xD80 ≤ i) : FaultFrame s (s.bump i lo w) :=
  ⟨rfl, fun _ hk => word_bump_other s lo w (by omega), fun _ => rfl⟩

theorem faultFrame_raiseIrq (n : Nat) (s : State) : FaultFrame s (raiseIrq n s) :=
  ⟨rfl, fun _ hk => word_latch_other s _ (by unfold Ix.HST_IRQ_CAUSE; omega), fun _ => rfl⟩

theorem faultFrame_pushEntry (e : List Word) (s : State) : FaultFrame s (pushEntry e s) := by
  unfold pushEntry
  split
  · exact faultFrame_flt s _
  · exact (faultFrame_flt s _).trans (faultFrame_bump _ 0 32 (by decide))

theorem faultFrame_putRaises (r : RaiseRec) (s : State) : FaultFrame s (putRaises r s) := faultFrame_flt s _

theorem faultFrame_logRaise (id inst sev : Nat) (ws : List Word) (s : State) : FaultFrame s (logRaise id inst sev ws s) := by
  simp only [logRaise]
  split
  · exact faultFrame_putRaises _ s
  · exact (faultFrame_putRaises _ s).trans (faultFrame_pushEntry _ _)

theorem faultFrame_logClear (id inst sev : Nat) (s : State) : FaultFrame s (logClear id inst sev s) :=
  (faultFrame_putRaises _ s).trans (faultFrame_pushEntry _ _)

theorem faultFrame_noteDtc (id inst sev n : Nat) (s : State) : FaultFrame s (noteDtc id inst sev n s) := by
  unfold noteDtc
  split
  · exact FaultFrame.refl s
  · split <;> exact faultFrame_flt s _

/-! ## Reactions (R457-R459) -/

theorem faultFrame_updCh (c : Ch) (f : Channel → Channel) (s : State) : FaultFrame s (updCh c f s) := ⟨rfl, fun _ _ => rfl, fun _ => rfl⟩
theorem faultFrame_updStr (t : Str) (f : StringS → StringS) (s : State) : FaultFrame s (updStr t f s) := ⟨rfl, fun _ _ => rfl, fun _ => rfl⟩
theorem faultFrame_updBr (b : Mot) (f : Bridge → Bridge) (s : State) : FaultFrame s (updBr b f s) := ⟨rfl, fun _ _ => rfl, fun _ => rfl⟩

/-- A lock that is cut keeps the direction of its stroke. -/
theorem updLock_cut_dir (h k : Hb) (s : State) : ((updLock h LockS.cut s).locks[k]).dir = (s.locks[k]).dir := by
  by_cases hk : k = h
  · subst hk
    exact (congrArg LockS.dir (Vector.getElem_set_self k.isLt)).trans rfl
  · exact congrArg LockS.dir (Vector.getElem_set_ne h.isLt k.isLt fun he => hk (Fin.ext he.symm))

theorem faultFrame_cutLock (c : Ch) (s : State) : FaultFrame s (cutLock c s) := by
  unfold cutLock
  split
  · exact ⟨rfl, fun _ _ => rfl, fun k => updLock_cut_dir _ k s⟩
  · exact FaultFrame.refl s

theorem faultFrame_latchChannel (c : Ch) (s : State) : FaultFrame s (latchChannel c s) := by
  have hcut : FaultFrame s (cutLock c (updCh c (fun x => { x.dark s.now with st := .latched, posted := 0 }) s)) :=
    (faultFrame_updCh c _ s).trans (faultFrame_cutLock c _)
  unfold latchChannel
  split
  · exact FaultFrame.refl s
  · split
    · exact hcut.trans (faultFrame_bump _ 24 8 (by unfold Ix.HS_COUNTS; omega))
    · split
      · exact hcut.trans (faultFrame_bump _ 24 8 (by unfold Ix.HB_COUNTS; omega))
      · exact hcut

theorem faultFrame_latchString (t : Str) (s : State) : FaultFrame s (latchString t s) := by
  unfold latchString
  split
  · exact FaultFrame.refl s
  · exact (faultFrame_updStr t _ s).trans (faultFrame_bump _ 24 8 (by unfold Ix.LED_COUNTS; omega))

theorem faultFrame_latchBridge (b : Mot) (s : State) : FaultFrame s (latchBridge b s) := by
  unfold latchBridge
  split
  · exact FaultFrame.refl s
  · exact (faultFrame_updBr b _ s).trans (faultFrame_bump _ 24 8 (by unfold Ix.MOT_COUNTS; omega))

theorem faultFrame_outputs (s : State) (cs : Vector Channel 42) (l : Lighting) (m : Motor) :
    FaultFrame s { s with chans := cs, led := l, mot := m } := ⟨rfl, fun _ _ => rfl, fun _ => rfl⟩

theorem faultFrame_applyLimits (s : State) : FaultFrame s (applyLimits s) := by
  simp only [applyLimits, mapCh]
  exact faultFrame_outputs s _ _ _

theorem faultFrame_limpSafe (sev : Nat) (s : State) : FaultFrame s (limpSafe sev s) := by
  unfold limpSafe
  split
  · exact FaultFrame.refl s
  · refine FaultFrame.trans ?_ (faultFrame_applyLimits _)
    split
    · exact (faultFrame_flt s _).trans ⟨rfl, fun _ _ => rfl, fun _ => rfl⟩
    · exact faultFrame_flt s _

/-! ## Reports (R456) and their end (R452) -/

theorem faultFrame_recordAt (id inst sev : Nat) (ws : List Word) (s : State) : FaultFrame s (recordAt id inst sev ws s) := by
  have hnote : FaultFrame s (noteSource id inst sev s) := faultFrame_flt s _
  refine FaultFrame.trans ?_ (faultFrame_limpSafe sev _)
  have hlog : FaultFrame s (if 1 ≤ sev then noteDtc id inst sev 1 (logRaise id inst sev ws (noteSource id inst sev s))
      else noteSource id inst sev s) := by
    split
    · exact hnote.trans ((faultFrame_logRaise ..).trans (faultFrame_noteDtc ..))
    · exact hnote
  split
  · exact hlog.trans (faultFrame_raiseIrq 2 _)
  · exact hlog

theorem faultFrame_recordFault (id inst : Nat) (s : State) : FaultFrame s (recordFault id inst s) := faultFrame_recordAt ..

/-- An output is latched, and its latch is recorded where it is not what was reported. -/
theorem faultFrame_latched {b : Prop} [Decidable b] {s t : State} {id inst : Nat} (h : FaultFrame s t) :
    FaultFrame s (if b then t else recordFault id inst t) := by
  split
  · exact h
  · exact h.trans (faultFrame_recordFault ..)

theorem faultFrame_instanceReaction (id inst : Nat) (s : State) : FaultFrame s (instanceReaction id inst s) := by
  simp only [instanceReaction]
  split
  case h_1 | h_2 =>
    split
    · split
      · exact FaultFrame.refl s
      · exact faultFrame_latched (faultFrame_latchChannel _ s)
    · exact FaultFrame.refl s
  case h_3 =>
    generalize (if id = 0x420 ∨ id = 0x421 then inst / 16 else inst) = t
    split
    · split
      · exact FaultFrame.refl s
      · split
        · exact FaultFrame.refl s
        · exact faultFrame_latched (faultFrame_latchString _ s)
    · exact FaultFrame.refl s
  case h_4 =>
    split
    · split
      · exact FaultFrame.refl s
      · exact faultFrame_latched (faultFrame_latchBridge _ s)
    · exact FaultFrame.refl s
  case h_5 => exact ⟨rfl, fun _ _ => rfl, fun _ => rfl⟩
  case h_6 => exact FaultFrame.refl s

theorem faultFrame_applyReport (id inst sev : Nat) (ws : List Word) (s : State) : FaultFrame s (applyReport id inst sev ws s) := by
  unfold applyReport
  split
  · exact (faultFrame_recordAt ..).trans (faultFrame_instanceReaction ..)
  · exact faultFrame_recordAt ..

theorem faultFrame_reportWith (id inst : Nat) (ws : List Word) (s : State) : FaultFrame s (reportWith id inst ws s) := by
  unfold reportWith
  split
  · exact FaultFrame.refl s
  · split
    · exact faultFrame_flt s _
    · exact faultFrame_applyReport ..

theorem faultFrame_report (id inst : Nat) (s : State) : FaultFrame s (report id inst s) := faultFrame_reportWith ..

theorem faultFrame_endFault (id inst : Nat) (s : State) : FaultFrame s (endFault id inst s) := by
  have hend : FaultFrame s (endWaiting id inst s) := faultFrame_flt s _
  simp only [endFault]
  split
  · exact hend
  · split
    · exact hend.trans ((faultFrame_flt _ _).trans (faultFrame_logClear ..))
    · exact hend.trans (faultFrame_flt _ _)

theorem faultFrame_condFault (id inst : Nat) (b : Bool) (s : State) : FaultFrame s (condFault id inst b s) := by
  unfold condFault
  split
  · split
    · exact FaultFrame.refl s
    · exact faultFrame_report ..
  · exact faultFrame_endFault ..

end Sys2Proof.Machine
end

section
/-!
PROOF. The slots of the Timetable stay in order (03_parameters_and_transactions.md, R72; 06_timetable.md, R128, R140): an operation of
the Timetable either places a group, event by event, into free slots of a pool that has room, or keeps and removes events.
-/
namespace Sys2Proof.Machine

/-! ## What the order of the slots is about -/

/-- Of an event what the pools count: slot, whether it was drawn from the shared range, and its pool. -/
def slotKey (e : Event) : Nat × Bool × Nat := (e.slot, e.shared, e.spec.pool)

def slotKeys (s : State) : List (Nat × Bool × Nat) := s.tt.events.map slotKey

/-- An event of this key counts against a pool (0: the shared range). -/
def countsFor (p : Nat) (k : Nat × Bool × Nat) : Bool := decide (k.1 < 4095) && if p = 0 then k.2.1 else !k.2.1 && k.2.2 == p

/-- A key stands for a slot that exists and a pool that exists. -/
def KeyOk (k : Nat × Bool × Nat) : Prop := k.1 ≤ 4095 ∧ (k.1 = 4095 ∨ k.2.1 = true ∨ (1 ≤ k.2.2 ∧ k.2.2 ≤ 8))

theorem poolUse_eq (p : Nat) (s : State) : poolUse p s = (slotKeys s).countP (countsFor p) := by
  rw [slotKeys, List.countP_map, List.countP_eq_length_filter]
  rfl

/-- The sum of `f` over the numbers below `n`. -/
def sumBelow (f : Nat → Nat) : Nat → Nat
  | 0 => 0
  | n + 1 => sumBelow f n + f n

section
variable {f g : Nat → Nat} {n : Nat}

theorem sumBelow_congr (h : ∀ k < n, f k = g k) : sumBelow f n = sumBelow g n := by
  induction n with
  | zero => rfl
  | succ n ih => rw [sumBelow, sumBelow, ih fun k hk => h k (Nat.lt_succ_of_lt hk), h n (Nat.lt_succ_self n)]

theorem sumBelow_add (f g : Nat → Nat) (n : Nat) : sumBelow (fun k => f k + g k) n = sumBelow f n + sumBelow g n := by
  induction n with
  | zero => rfl
  | succ n ih => simp only [sumBelow, ih]; omega

theorem sumBelow_le (h : ∀ k < n, f k ≤ g k) : sumBelow f n ≤ sumBelow g n := by
  induction n with
  | zero => exact Nat.le_refl 0
  | succ n ih => exact Nat.add_le_add (ih fun k hk => h k (Nat.lt_succ_of_lt hk)) (h n (Nat.lt_succ_self n))

theorem sumBelow_lt {i : Nat} (h : ∀ k < n, f k ≤ g k) (hi : i < n) (hlt : f i < g i) : sumBelow f n < sumBelow g n := by
  induction n with
  | zero => exact absurd hi (Nat.not_lt_zero i)
  | succ n ih =>
    have hrest : ∀ k < n, f k ≤ g k := fun k hk => h k (Nat.lt_succ_of_lt hk)
    have hlast := h n (Nat.lt_succ_self n)
    have hbelow := sumBelow_le hrest
    simp only [sumBelow]
    by_cases hin : i = n
    · subst hin
      omega
    · have := ih hrest (by omega)
      omega

theorem le_sumBelow (f : Nat → Nat) {i n : Nat} (hi : i < n) : f i ≤ sumBelow f n := by
  induction n with
  | zero => exact absurd hi (Nat.not_lt_zero i)
  | succ n ih =>
    simp only [sumBelow]
    by_cases hin : i = n
    · subst hin
      omega
    · have := ih (by omega)
      omega

end

/-- Numbers that are all different and all stand in a list are no more than the list is long. -/
theorem length_le_of_nodup_of_subset {l m : List Nat} (hl : l.Nodup) (h : ∀ a ∈ l, a ∈ m) : l.length ≤ m.length := by
  induction l generalizing m with
  | nil => exact Nat.zero_le _
  | cons a l ih =>
    obtain ⟨ha, hrest⟩ := List.nodup_cons.1 hl
    have hmem : a ∈ m := h a List.mem_cons_self
    have hle : l.length ≤ (m.erase a).length := ih hrest fun b hb =>
      (List.mem_erase_of_ne fun (he : b = a) => ha (he ▸ hb)).2 (h b (List.mem_cons_of_mem a hb))
    have hpos := List.length_pos_of_mem hmem
    rw [List.length_erase_of_mem hmem] at hle
    rw [List.length_cons]
    omega

theorem poolSum_eq (s : State) : poolSum s = sumBelow (fun k => s.num (Ix.TT_POOL_1 + k)) 8 := by
  simp [poolSum, List.range_succ, sumBelow]

theorem slotsOk_iff (s : State) : SlotsOk s ↔
    ((slotKeys s).map (·.1)).Nodup ∧ (∀ k ∈ slotKeys s, KeyOk k) ∧ poolSum s ≤ 4095 ∧
      (∀ k < 8, poolUse (k + 1) s ≤ s.num (Ix.TT_POOL_1 + k)) ∧ poolUse 0 s ≤ sharedSize s := by
  simp [SlotsOk, slotKeys, KeyOk, slotKey, List.map_map, Function.comp_def]

/-- The sizes of the pools are as they were, and no event has come or changed its slot or pool. -/
def SlotFrame (s t : State) : Prop :=
  (slotKeys t).Sublist (slotKeys s) ∧ ∀ k < 8, t.word (Ix.TT_POOL_1 + k) = s.word (Ix.TT_POOL_1 + k)

section
variable {s t u : State}

theorem SlotFrame.refl (s : State) : SlotFrame s s := ⟨List.Sublist.refl _, fun _ _ => rfl⟩

theorem SlotFrame.trans (h : SlotFrame s t) (k : SlotFrame t u) : SlotFrame s u :=
  ⟨k.1.trans h.1, fun i hi => (k.2 i hi).trans (h.2 i hi)⟩

theorem SlotFrame.of_eq (he : t.tt.events = s.tt.events) (hw : t.words = s.words) : SlotFrame s t :=
  ⟨by rw [slotKeys, he]; exact List.Sublist.refl _, fun _ _ => by rw [State.word, hw]; rfl⟩

theorem SlotFrame.num (h : SlotFrame s t) {k : Nat} (hk : k < 8) : t.num (Ix.TT_POOL_1 + k) = s.num (Ix.TT_POOL_1 + k) := by
  rw [State.num, h.2 k hk]; rfl

theorem SlotFrame.poolSum (h : SlotFrame s t) : poolSum t = poolSum s := by
  rw [poolSum_eq, poolSum_eq]
  exact sumBelow_congr fun k hk => h.num hk

theorem SlotFrame.poolUse (h : SlotFrame s t) (p : Nat) : poolUse p t ≤ poolUse p s := by
  rw [poolUse_eq, poolUse_eq]
  exact h.1.countP_le

/-- What only keeps and removes events keeps the order of the slots. -/
theorem SlotFrame.slotsOk (h : SlotFrame s t) (hs : SlotsOk s) : SlotsOk t := by
  rw [slotsOk_iff] at hs ⊢
  obtain ⟨hnodup, hkey, hsum, hpool, hshared⟩ := hs
  refine ⟨(h.1.map _).nodup hnodup, fun k hk => hkey k (h.1.subset hk), h.poolSum ▸ hsum, fun k hk => ?_, ?_⟩
  · rw [h.num hk]
    exact Nat.le_trans (h.poolUse _) (hpool k hk)
  · rw [sharedSize, h.poolSum]
    exact Nat.le_trans (h.poolUse 0) hshared

end

/-! ## Operations that keep and remove events -/

theorem FaultFrame.slots {s t : State} (h : FaultFrame s t) : SlotFrame s t :=
  ⟨by rw [slotKeys, h.tt]; exact List.Sublist.refl _, fun k hk => h.2.1 _ (by unfold Ix.TT_POOL_1; omega)⟩

/-- A write to a word that is no pool size. -/
theorem slotFrame_put (s : State) {i : Nat} (v : Word) (h : i < 0x601 ∨ 0x608 < i) : SlotFrame s (s.put i v) :=
  ⟨List.Sublist.refl _, fun k hk => word_put_other s v (by unfold Ix.TT_POOL_1; omega)⟩

theorem slotFrame_leaveStandby (s : State) : SlotFrame s (leaveStandby s) := by
  unfold leaveStandby accountWatch
  split
  · split <;> exact SlotFrame.of_eq rfl rfl
  · exact SlotFrame.refl s

theorem slotFrame_rouse (p : Part) (s : State) : SlotFrame s (rouse p s) := by
  unfold rouse
  split
  · exact slotFrame_leaveStandby s
  · exact SlotFrame.refl s

theorem slotFrame_ttLog (a b c d e f g h i j : Nat) (s : State) : SlotFrame s (ttLog a b c d e f g h i j s) := by
  simp only [ttLog]
  split
  · refine SlotFrame.trans ?_ (slotFrame_put _ _ (by unfold Ix.TT_LOG_COUNT; omega))
    exact SlotFrame.of_eq rfl rfl
  · exact SlotFrame.refl s

theorem slotFrame_logEvent (kind status late : Nat) (e : Event) (s : State) : SlotFrame s (logEvent kind status late e s) :=
  slotFrame_ttLog ..

theorem slotFrame_dropEvent (slot : Nat) (s : State) : SlotFrame s (dropEvent slot s) :=
  ⟨List.filter_sublist.map _, fun _ _ => rfl⟩

/-- A change of an event that leaves its slot and pool alone. -/
theorem slotFrame_mapEvents (s : State) {f : Event → Event} (h : ∀ e, slotKey (f e) = slotKey e) :
    SlotFrame s { s with tt := { s.tt with events := s.tt.events.map f } } := by
  refine ⟨?_, fun _ _ => rfl⟩
  have hmap : (s.tt.events.map f).map slotKey = s.tt.events.map slotKey := by simp [List.map_map, Function.comp_def, h]
  simp [slotKeys, hmap]

theorem slotFrame_updEvent (slot : Nat) (s : State) {f : Event → Event} (h : ∀ e, slotKey (f e) = slotKey e) :
    SlotFrame s (updEvent slot f s) :=
  slotFrame_mapEvents s fun e => by
    split
    · exact h e
    · rfl

theorem slotFrame_commitPayload (e : Event) (s : State) : SlotFrame s (commitPayload e s) := by
  rw [commitPayload_eq]; exact SlotFrame.of_eq rfl rfl

theorem slotFrame_settle (s : State) : SlotFrame s (settle s) := by
  unfold settle
  refine SlotFrame.trans ?_ (slotFrame_mapEvents _ fun e => ?_)
  · rw [foldl_commitPayload_eq]; exact SlotFrame.of_eq rfl rfl
  · split
    · rfl
    · split
      · split <;> rfl
      · rfl

theorem slotFrame_cancelHandle (h : Nat × Nat) (s : State) : SlotFrame s (cancelHandle h s) := by
  simp only [cancelHandle]
  split
  · exact SlotFrame.of_eq rfl rfl
  · split
    · refine SlotFrame.trans (t := logEvent 3 7 0 _ _) ?_ (SlotFrame.of_eq rfl rfl)
      refine SlotFrame.trans ?_ (slotFrame_logEvent ..)
      exact (slotFrame_settle s).trans (slotFrame_updEvent _ _ fun _ => rfl)
    · refine SlotFrame.trans (t := dropEvent _ _) ?_ (SlotFrame.of_eq rfl rfl)
      exact SlotFrame.trans (slotFrame_logEvent ..) (slotFrame_dropEvent ..)

theorem slotFrame_endSeries (l : Nat) (s : State) : SlotFrame s (endSeries l s) := by
  simp only [endSeries]
  split
  · exact SlotFrame.refl s
  · refine SlotFrame.trans (t := cancelHandle _ _) ?_ (SlotFrame.of_eq rfl rfl)
    exact SlotFrame.trans (t := dropWaiting _ s) (SlotFrame.of_eq rfl rfl) (slotFrame_cancelHandle ..)

theorem slotFrame_endTxn (status cause idx : Nat) (s : State) : SlotFrame s (endTxn status cause idx s) := by
  have hlast : SlotFrame s (s.putNat Ix.TXN_LAST_STATUS (status + cause * 2 ^ 8 + idx % 2 ^ 14 * 2 ^ 16)) :=
    slotFrame_put s _ (by decide)
  simp only [endTxn]
  refine SlotFrame.trans ?_ (SlotFrame.of_eq (s := if _ then _ else _) rfl rfl)
  split
  · exact hlast.trans (faultFrame_raiseIrq 1 _).slots
  · exact hlast

theorem slotFrame_keepHandles (by_ : Poster) (s : State) : SlotFrame s (keepHandles by_ s) := by
  cases by_ <;> exact SlotFrame.of_eq rfl rfl

theorem slotFrame_refuseGroup (status : Nat) (es : List EventSpec) (s : State) : SlotFrame s (refuseGroup status es s) := by
  have hlog : ∀ t, SlotFrame t (es.foldl (fun t e => ttLog 4 status 0 e.clock (actCode e.act) e.pool e.due e.rep (actArg e.act) 0 t) t) := by
    induction es with
    | nil => exact SlotFrame.refl
    | cons e es ih => exact fun t => (slotFrame_ttLog ..).trans (ih _)
  exact SlotFrame.trans (SlotFrame.of_eq rfl rfl) (hlog _)

/-! ## Placing a group (R140) -/

/-- Events below slot 4,095, counted by pool. -/
theorem countP_below_le (ks : List (Nat × Bool × Nat)) (h : ∀ k ∈ ks, KeyOk k) :
    ks.countP (fun k => decide (k.1 < 4095)) ≤
      ks.countP (countsFor 0) + sumBelow (fun j => ks.countP (countsFor (j + 1))) 8 := by
  induction ks with
  | nil => simp
  | cons k ks ih =>
    have hrest := ih fun x hx => h x (List.mem_cons_of_mem _ hx)
    simp only [List.countP_cons, sumBelow_add]
    have hone : k.1 < 4095 → 1 ≤ (if countsFor 0 k = true then 1 else 0) +
        sumBelow (fun j => if countsFor (j + 1) k = true then 1 else 0) 8 := by
      intro hlt
      obtain ⟨-, htop | hshared | hpool⟩ := h k List.mem_cons_self
      · omega
      · have hcount : countsFor 0 k = true := by simp [countsFor, hlt, hshared]
        rw [if_pos hcount]
        exact Nat.le_add_right 1 _
      · by_cases hsh : k.2.1 = true
        · have hcount : countsFor 0 k = true := by simp [countsFor, hlt, hsh]
          rw [if_pos hcount]
          exact Nat.le_add_right 1 _
        · have hcount : countsFor (k.2.2 - 1 + 1) k = true := by
            simp [countsFor, hlt, hsh, Nat.sub_add_cancel hpool.1, Nat.ne_of_gt hpool.1]
          have hle := le_sumBelow (fun j => if countsFor (j + 1) k = true then 1 else 0) (show k.2.2 - 1 < 8 by omega)
          simp only [hcount, if_true] at hle
          omega
    by_cases hlt : k.1 < 4095
    · have := hone hlt
      simp only [hlt, decide_true, if_true]
      omega
    · simp only [hlt, decide_false, Bool.false_eq_true, if_false]
      omega

/-- Where a pool gives a slot, it has room of its own, or the shared range has. -/
theorem slotFrom_some {pool : Nat} {sh : Bool} {s : State} (h : slotFrom pool 0 0 s = some sh) :
    (sh = false ∧ 1 ≤ pool ∧ pool ≤ 8 ∧ poolUse pool s < s.num (Ix.TT_POOL_1 + (pool - 1))) ∨
      (sh = true ∧ poolUse 0 s < sharedSize s) := by
  unfold slotFrom at h
  split at h
  · next hroom => exact .inl ⟨(Option.some.inj h).symm, hroom.1, hroom.2.1, by simpa using hroom.2.2⟩
  · split at h
    · next hroom => exact .inr ⟨(Option.some.inj h).symm, by simpa using hroom⟩
    · cases h

/-- Where a pool gives a slot, fewer than 4,095 slots below the reserved one are in use. -/
theorem below_lt_of_slotFrom {pool : Nat} {sh : Bool} {s : State} (hs : SlotsOk s) (h : slotFrom pool 0 0 s = some sh) :
    (slotKeys s).countP (fun k => decide (k.1 < 4095)) < 4095 := by
  obtain ⟨-, hkey, hsum, hpool, hshared⟩ := (slotsOk_iff s).1 hs
  have hcount := countP_below_le (slotKeys s) hkey
  simp only [← poolUse_eq] at hcount
  have hle : sumBelow (fun j => poolUse (j + 1) s) 8 ≤ poolSum s := by
    rw [poolSum_eq]
    exact sumBelow_le hpool
  rw [sharedSize] at hshared
  obtain ⟨-, h1, h8, hroom⟩ | ⟨-, hroom⟩ := slotFrom_some h
  · have hlt : sumBelow (fun j => poolUse (j + 1) s) 8 < poolSum s := by
      rw [poolSum_eq]
      refine sumBelow_lt (i := pool - 1) hpool (by omega) ?_
      rwa [Nat.sub_add_cancel h1]
    omega
  · rw [sharedSize] at hroom
    omega

/-- Where fewer slots are in use than there are, the lowest free slot is one below the reserved one, and no event has it. -/
theorem freeSlot_free {s : State} (h : (slotKeys s).countP (fun k => decide (k.1 < 4095)) < 4095) :
    freeSlot s < 4095 ∧ freeSlot s ∉ (slotKeys s).map (·.1) := by
  have hmem : ∀ n, n ∈ (slotKeys s).map (·.1) ↔ (s.tt.events.any fun e => e.slot == n) = true := by
    simp [slotKeys, slotKey]
  unfold freeSlot firstBelow
  cases hfind : (List.range 4095).find? fun n => !s.tt.events.any (·.slot == n) with
  | some n =>
    obtain ⟨hn, hlt⟩ := List.find?_eq_some_iff_append.1 hfind |>.1, List.mem_range.1 (List.mem_of_find?_eq_some hfind)
    exact ⟨hlt, by simpa [hmem] using hn⟩
  | none =>
    exfalso
    have hsub : ∀ n ∈ List.range 4095, n ∈ ((slotKeys s).filter fun k => decide (k.1 < 4095)).map (·.1) := by
      intro n hn
      have hused := List.find?_eq_none.1 hfind n hn
      obtain ⟨k, hk, rfl⟩ := List.mem_map.1 ((hmem n).2 (by simpa using hused))
      exact List.mem_map.2 ⟨k, List.mem_filter.2 ⟨hk, by simpa using List.mem_range.1 hn⟩, rfl⟩
    have hle := length_le_of_nodup_of_subset List.nodup_range hsub
    rw [List.length_range, List.length_map, ← List.countP_eq_length_filter] at hle
    omega

/-- Placing an event adds its key and changes no pool size. -/
theorem placeEvent_slots (slot : Nat) (sh : Bool) (e : EventSpec) (due : Nat) (s : State) :
    slotKeys (placeEvent slot sh e due s) = slotKeys s ++ [(slot, sh, e.pool)] ∧ (placeEvent slot sh e due s).words = s.words := by
  simp only [placeEvent]
  split <;> exact ⟨by simp [slotKeys, slotKey], rfl⟩

theorem slotsOk_placeEvent {e : EventSpec} {sh : Bool} {due : Nat} {s : State} (hs : SlotsOk s)
    (h : slotFrom e.pool 0 0 s = some sh) : SlotsOk (placeEvent (freeSlot s) sh e due s) := by
  obtain ⟨hlt, hfree⟩ := freeSlot_free (below_lt_of_slotFrom hs h)
  generalize freeSlot s = n at hlt hfree ⊢
  obtain ⟨hkeys, hwords⟩ := placeEvent_slots n sh e due s
  generalize placeEvent n sh e due s = t at hkeys hwords
  have hnum : ∀ i, t.num i = s.num i := fun i => by simp [State.num, State.word, hwords]
  have hsums : poolSum t = poolSum s := by simp [poolSum_eq, hnum]
  have huse : ∀ p, poolUse p t = poolUse p s + if countsFor p (n, sh, e.pool) then 1 else 0 := fun p => by
    rw [poolUse_eq, poolUse_eq, hkeys, List.countP_append, List.countP_singleton]
  obtain ⟨hnodup, hkey, hsum, hpool, hshared⟩ := (slotsOk_iff s).1 hs
  have hsplit := slotFrom_some h
  refine (slotsOk_iff t).2 ⟨?_, fun k hk => ?_, hsums ▸ hsum, fun k hk => ?_, ?_⟩
  · rw [hkeys, List.map_append, List.nodup_append]
    refine ⟨hnodup, List.pairwise_singleton _ _, fun a ha b hb => ?_⟩
    rw [List.mem_singleton.1 hb]
    rintro rfl
    exact hfree ha
  · rw [hkeys, List.mem_append, List.mem_singleton] at hk
    obtain hk | rfl := hk
    · exact hkey k hk
    · show n ≤ 4095 ∧ (n = 4095 ∨ sh = true ∨ (1 ≤ e.pool ∧ e.pool ≤ 8))
      refine ⟨Nat.le_of_lt hlt, .inr ?_⟩
      obtain ⟨-, h1, h8, -⟩ | ⟨rfl, -⟩ := hsplit
      · exact .inr ⟨h1, h8⟩
      · exact .inl rfl
  · rw [huse, hnum]
    have hold := hpool k hk
    obtain ⟨rfl, h1, -, hroom⟩ | ⟨rfl, -⟩ := hsplit
    · by_cases hp : e.pool = k + 1
      · rw [hp, Nat.add_sub_cancel] at hroom
        split <;> omega
      · simpa [countsFor, hp] using hold
    · simpa [countsFor] using hold
  · rw [huse, sharedSize, hsums, ← sharedSize]
    obtain ⟨rfl, -⟩ | ⟨rfl, hroom⟩ := hsplit
    · simpa [countsFor] using hshared
    · split <;> omega

theorem slotsOk_placeGroup {g : List EventSpec} {s u : State} (hs : SlotsOk s) (h : placeGroup g s = .ok u) : SlotsOk u := by
  induction g generalizing s with
  | nil => cases h; exact hs
  | cons e g ih =>
    unfold placeGroup at h
    split at h
    · cases h
    · next hfrom => exact ih (slotsOk_placeEvent hs hfrom) h

/-- A post keeps the slots in order, whatever becomes of it. -/
theorem slotsOk_postGroup {g : List EventSpec} {s : State} (hs : SlotsOk s) : SlotsOk (postGroup g s) := by
  simp only [postGroup]
  split
  · exact (slotFrame_refuseGroup ..).slotsOk hs
  · split
    next hplace =>
      refine slotsOk_placeGroup ?_ hplace
      exact SlotFrame.slotsOk (s := s) (SlotFrame.of_eq rfl rfl) hs
    next pool _ =>
      have hne : Ix.TT_FULL_COUNT < 0x601 ∨ 0x608 < Ix.TT_FULL_COUNT := by unfold Ix.TT_FULL_COUNT; omega
      have hcount : SlotFrame s ((s.bump Ix.TT_FULL_COUNT 0 16).putFld Ix.TT_FULL_COUNT 16 4 pool) :=
        (slotFrame_put s _ hne).trans (slotFrame_put _ _ hne)
      refine SlotFrame.slotsOk (hcount.trans ?_) hs
      exact SlotFrame.trans (slotFrame_refuseGroup ..) (faultFrame_report ..).slots

theorem slotsOk_servicePostAs {by_ : Poster} {g : List EventSpec} {s : State} (hs : SlotsOk s) :
    SlotsOk (servicePostAs by_ g s) := by
  have hpost : SlotsOk (postGroup g s) := slotsOk_postGroup hs
  simp only [servicePostAs]
  split
  · exact SlotFrame.slotsOk (SlotFrame.of_eq rfl rfl) hpost
  · split
    · exact (slotFrame_keepHandles ..).slotsOk hpost
    · exact hpost

/-! ## The engine's part of a firing (R130, R145) -/

theorem slotsOk_startSeries {l rev : Nat} {e : EventSpec} {s : State} (hs : SlotsOk s) : SlotsOk (startSeries l rev e s) :=
  slotsOk_servicePostAs ((SlotFrame.trans (slotFrame_endSeries l s) (SlotFrame.of_eq rfl rfl)).slotsOk hs)

theorem slotFrame_loseOther (policy : Nat) (c : PhaseClock) (e : Event) (s : State) :
    SlotFrame s (loseEvent.loseOther policy c e s) := by
  simp only [loseEvent.loseOther]
  split
  · exact SlotFrame.refl s
  · split
    · refine SlotFrame.trans ?_ (slotFrame_logEvent ..)
      exact slotFrame_updEvent _ s fun _ => rfl
    · exact SlotFrame.trans (slotFrame_logEvent ..) (slotFrame_dropEvent ..)

theorem slotFrame_lessonFallback (e : Event) (l : LessonNo) (s : State) : SlotFrame s (lessonFallback e l s) := by
  simp only [lessonFallback]
  refine SlotFrame.trans ?_ (faultFrame_condFault ..).slots
  refine SlotFrame.trans ?_ (SlotFrame.of_eq (s := logEvent 6 0 0 e _) rfl rfl)
  refine SlotFrame.trans ?_ (slotFrame_logEvent ..)
  exact slotFrame_updEvent _ s fun _ => rfl

theorem slotsOk_loseEvent {policy : Nat} {c : PhaseClock} {e : Event} {s : State} (hs : SlotsOk s) :
    SlotsOk (loseEvent policy c e s) := by
  simp only [loseEvent]
  split
  · refine SlotFrame.slotsOk (SlotFrame.trans ?_ (slotFrame_endTxn ..)) hs
    exact SlotFrame.trans (slotFrame_logEvent ..) (slotFrame_dropEvent ..)
  · exact (slotFrame_lessonFallback ..).slotsOk hs
  · split
    · exact slotsOk_startSeries hs
    · exact (slotFrame_loseOther ..).slotsOk hs
  · exact (slotFrame_loseOther ..).slotsOk hs

theorem slotsOk_loseRest {slot : Nat} {s : State} (hs : SlotsOk s) : SlotsOk (loseRest slot s) := by
  simp only [loseRest]
  split
  · exact hs
  · split
    · split
      · exact hs
      · exact slotsOk_loseEvent hs
    · exact hs

theorem slotFrame_advanceEvent (e : Event) (s : State) : SlotFrame s (advanceEvent e s) := by
  simp only [advanceEvent]
  split
  · exact slotFrame_dropEvent ..
  · exact slotFrame_updEvent _ s fun _ => rfl

theorem slotsOk_takeEvent {slot : Nat} {e : Event} {s u : State} (hs : SlotsOk s) (h : takeEvent slot s = some (e, u)) : SlotsOk u := by
  simp only [takeEvent] at h
  split at h
  · cases h
  · split at h
    · obtain ⟨-, rfl⟩ := Prod.mk.inj (Option.some.inj h)
      refine slotsOk_loseRest (SlotFrame.slotsOk ?_ hs)
      refine SlotFrame.trans ?_ (slotFrame_advanceEvent ..)
      refine SlotFrame.trans ?_ (slotFrame_logEvent ..)
      refine SlotFrame.trans ?_ (slotFrame_put _ _ (by unfold Ix.TT_LATE_MAX; omega))
      exact SlotFrame.of_eq rfl rfl
    · cases h

/-! ## Commands -/

theorem slotFrame_commitEvent (slot : Nat) (s : State) : SlotFrame s (commitEvent slot s) := by
  simp only [commitEvent]
  split
  · exact SlotFrame.refl s
  · split
    · exact SlotFrame.refl s
    · split
      · refine SlotFrame.trans ?_ (slotFrame_commitPayload ..)
        exact SlotFrame.trans (t := s.reach _) (SlotFrame.of_eq rfl rfl) (slotFrame_updEvent _ _ fun _ => rfl)
      · exact SlotFrame.refl s

theorem slotFrame_ttLogSel (age : Nat) (s : State) : SlotFrame s (ttLogSel age s) := by
  simp only [ttLogSel]
  refine SlotFrame.trans (t := s.putNat Ix.TT_LOG_SEL (age % 256)) (slotFrame_put s _ (by unfold Ix.TT_LOG_SEL; omega)) ?_
  generalize s.putNat Ix.TT_LOG_SEL (age % 256) = t
  generalize (if age < s.tt.log.length then s.tt.log.getD (s.tt.log.length - 1 - age) [] else []) = e
  generalize List.range 6 = ks
  induction ks generalizing t with
  | nil => exact SlotFrame.refl t
  | cons k ks ih => exact (slotFrame_put t _ (by unfold Ix.TT_LOG_ENTRY; omega)).trans (ih _)

/-- A command whose effect keeps the slots in order keeps them in order. -/
theorem slotsOk_of_doneFor {p : Part} {f : State → State} {s t : State} (hs : SlotsOk s) (hf : ∀ u, SlotsOk u → SlotsOk (f u))
    (h : doneFor p s f = .next t) : SlotsOk t := by
  unfold doneFor at h
  split at h <;> obtain rfl := Host.Outcome.next.inj h
  · exact SlotFrame.slotsOk (s := f (rouse p s)) (SlotFrame.of_eq rfl rfl) (hf _ ((slotFrame_rouse p s).slotsOk hs))
  · exact SlotFrame.slotsOk (s := s) (SlotFrame.of_eq rfl rfl) hs

/-- Settles O59: a group is placed into free slots of pools with room, and every other operation only keeps and removes events. -/
theorem slotsStayInOrder : Obligations.SlotsStayInOrder := by
  unfold Obligations.SlotsStayInOrder
  refine ⟨fun g s t hs _ hstep => ?_, fun i s t hs hi hstep => ?_, fun _ _ _ _ hs htake => slotsOk_takeEvent hs htake⟩
  · exact slotsOk_of_doneFor hs (fun u hu => slotsOk_servicePostAs hu) hstep
  · obtain ⟨slot, gen, rfl⟩ | ⟨slot, rfl⟩ | ⟨age, rfl⟩ := hi
    · exact slotsOk_of_doneFor hs (fun u hu => (slotFrame_cancelHandle ..).slotsOk hu) hstep
    · exact slotsOk_of_doneFor hs (fun u hu => (slotFrame_commitEvent ..).slotsOk hu) hstep
    · exact slotsOk_of_doneFor hs (fun u hu => (slotFrame_ttLogSel ..).slotsOk hu) hstep

end Sys2Proof.Machine
end

section
/-!
PROOF. The step (01_architecture.md) and the direct write of a word (03_parameters_and_transactions.md, R57, R65): every command
completes, and what it does beside its own effect.
-/
namespace Sys2Proof.Machine

/-! ## Every command completes -/

/-- Every command ends in `done`, whatever the state. -/
theorem exec_done (i : Instr) (s : State) : ∃ t, exec i s = done s t := by
  have hform : (∃ f : State → State, exec i s = doneFor (Instr.part i) s f) → ∃ t, exec i s = done s t := by
    rintro ⟨f, hf⟩
    rw [hf, doneFor]
    split
    · exact ⟨_, rfl⟩
    · exact ⟨_, rfl⟩
  by_cases hasleep : ∀ (c : Can) (at_ kind : Nat) (tx exempt fdf : Bool) (more : Nat),
      i = .canErrorFrame c at_ kind tx exempt fdf more → (s.can.ctl[c]).st ≠ .sleep
  · obtain ⟨f, hf⟩ := exec_form i s hasleep
    exact hform ⟨f, hf s rfl⟩
  · simp only [ne_eq, Classical.not_forall, Classical.not_not] at hasleep
    obtain ⟨c, at_, kind, tx, exempt, fdf, more, rfl, hs⟩ := hasleep
    exact ⟨decoderError c kind fdf (s.reach at_), if_pos (beq_iff_eq.2 hs)⟩

theorem exec_next (i : Instr) (s : State) : ∃ t, exec i s = .next (after s t) := by
  obtain ⟨t, ht⟩ := exec_done i s
  exact ⟨t, ht⟩

/-- Taking the later of two instants again with the earlier one of them changes nothing. -/
@[simp] theorem natMax_natMax_left (a b : Nat) : Nat.max a (Nat.max a b) = Nat.max a b := Nat.max_eq_right (Nat.le_max_left a b)

theorem now_le_after (s t : State) : s.now ≤ (after s t).now := Nat.le_max_left _ _

/-! ## The return from STANDBY (R105) -/

theorem accountWatch_pw (s : State) : accountWatch s = { s with pw := (accountWatch s).pw } := by
  unfold accountWatch; split <;> rfl

/-- The return to RUN changes the power manager's record and the phase clocks alone. -/
theorem leaveStandby_eq (s : State) :
    leaveStandby s = { s with pw := (leaveStandby s).pw, tt := { s.tt with clocks := (leaveStandby s).tt.clocks } } := by
  unfold leaveStandby
  split
  · rw [accountWatch_pw]
  · rfl

theorem leaveStandby_power {s : State} (h : s.pw.pw = .standby) : (leaveStandby s).pw.pw = .run := by
  simp [leaveStandby, h]

theorem leaveStandby_idem (s : State) : leaveStandby (leaveStandby s) = leaveStandby s := by
  by_cases h : s.pw.pw = .standby
  · rw [leaveStandby, leaveStandby_power h]; rfl
  · have : leaveStandby s = s := by simp [leaveStandby, h]
    rw [this, this]

@[simp] theorem leaveStandby_words (s : State) : (leaveStandby s).words = s.words := by rw [leaveStandby_eq]
@[simp] theorem leaveStandby_procs (s : State) : (leaveStandby s).procs = s.procs := by rw [leaveStandby_eq]
@[simp] theorem leaveStandby_bn (s : State) : (leaveStandby s).bn = s.bn := by rw [leaveStandby_eq]
@[simp] theorem leaveStandby_sec (s : State) : (leaveStandby s).sec = s.sec := by rw [leaveStandby_eq]
@[simp] theorem leaveStandby_can (s : State) : (leaveStandby s).can = s.can := by rw [leaveStandby_eq]

theorem deviceUp_leaveStandby {s : State} (h : s.pw.pw = .standby) : deviceUp (leaveStandby s) = deviceUp s := by
  simp [deviceUp, leaveStandby_power h, h]

theorem usesPwr_leaveStandby (s : State) : usesPwr (leaveStandby s) = usesPwr s := by
  simp [usesPwr, strCount, State.fld, State.word]

/-- What serves a command that ends STANDBY serves it after the return to RUN. -/
theorem served_leaveStandby {p : Part} {s : State} (hp : p.rouses = true) (h : s.pw.pw = .standby) :
    served p (leaveStandby s) = served p s := by
  cases p <;> simp_all [served, Part.rouses, pairUp, pwrOn, deviceUp_leaveStandby, usesPwr_leaveStandby]

/-! ## The statements on steps -/

/-- Settles O1: a step takes the front of the queue. -/
theorem stepRunsFront : Obligations.StepRunsFront := by
  unfold Obligations.StepRunsFront
  exact step_front

/-- Settles O2: with no command waiting a step is `idle`. -/
theorem emptyQueueIdles : Obligations.EmptyQueueIdles := by
  unfold Obligations.EmptyQueueIdles
  intro s h
  simp only [step, h, idle]

/-- Settles O3: every command ends in `done`, and where nothing serves it, or it ends STANDBY, the form of its part says the rest. -/
theorem everyStepCompletes : Obligations.EveryStepCompletes := by
  unfold Obligations.EveryStepCompletes
  refine ⟨?step, ?dwell, ?unserved, ?standby⟩
  case step =>
    intro s
    cases hq : s.pending with
    | nil => exact ⟨idle s, by simp only [step, hq], hq, Nat.le_succ s.now⟩
    | cons i rest =>
      obtain ⟨t, ht⟩ := exec_next i (s.withQueue rest)
      exact ⟨after (s.withQueue rest) t, by simp only [step, hq]; exact ht, rfl, now_le_after (s.withQueue rest) t⟩
  case dwell =>
    intro i s
    obtain ⟨t, ht⟩ := exec_done i s
    exact ⟨{ t with pending := s.pending, now := Nat.max s.now t.now }, rfl, Nat.le_max_left _ _, ht⟩
  case unserved =>
    intro i s h hasleep
    obtain ⟨f, hf⟩ := exec_form i s hasleep
    rw [hf s rfl, doneFor_unserved h]
    rfl
  case standby =>
    intro i s hr hserved hpw hasleep
    obtain ⟨f, hf⟩ := exec_form i s hasleep
    refine ⟨f (leaveStandby s), ?_, ?_⟩
    · rw [hf s rfl, doneFor, if_pos hserved, rouse, if_pos hr]
      rfl
    · rw [hf _ (leaveStandby_can s), doneFor, served_leaveStandby hr hpw, if_pos hserved, rouse, if_pos hr, leaveStandby_idem]
      rfl

/-! ## The state right after reset -/

theorem reset_word (i : Nat) : State.reset.word i = resetWord i := rfl

/-- Settles O4: every field of the reset state is a constant. -/
theorem resetState : Obligations.ResetState := by
  unfold Obligations.ResetState
  refine ⟨rfl, rfl, fun c => ?_, fun t => ?_, fun b => ?_, rfl, rfl, rfl, rfl, reset_word, by decide +kernel⟩
  · have : State.reset.ch c = Channel.reset := Vector.getElem_replicate _
    rw [this]
    exact ⟨rfl, rfl⟩
  · have : State.reset.led.strs[t] = StringS.reset := Vector.getElem_replicate _
    rw [this]
    exact ⟨rfl, rfl⟩
  · have : State.reset.mot.bridges[b] = Bridge.reset := Vector.getElem_replicate _
    rw [this]
    rfl

/-- Settles O60: no event is pending at reset, and the Reset columns of the pools fit the slots. -/
theorem slotsInOrderAtReset : Obligations.SlotsInOrderAtReset := by
  unfold Obligations.SlotsInOrderAtReset
  have hnone : slotKeys State.reset = [] := rfl
  have huse : ∀ p, poolUse p State.reset = 0 := fun p => by rw [poolUse_eq, hnone]; rfl
  have hsum : poolSum State.reset ≤ 4095 := by decide +kernel
  rw [slotsOk_iff]
  simp [hnone, huse, hsum]

/-! ## Direct writes (R65) -/

section
variable {r : Requester} {i : Nat} {v : Word} {x : ParamRow} {s : State}

theorem writeParam_badValue {m : Measured} (h : mayWrite r i s = true) (hx : paramRow i = some x) (ha : x.access = .rw)
    (hv : (valueOk i v s && crossOk i (s.put i (cleanValue i v))) = false) : writeParam r m i v s = (5, s) := by
  simp [writeParam, crossWritten, h, hx, ha, hv]

/-- PARAM_WRITE leaves what the write of its word leaves, the free values spent. -/
theorem completes_paramWrite (r : Requester) (i : Nat) (v : Word) (s : State) :
    Completes (.paramWrite r i v) s (writeFree r i v (noteRequest r s)).2 :=
  completes_of (f := fun t => (writeFree r i v (noteRequest r t)).2) rfl rfl

end

/-- What a completed command gives, it gives of the state `after` its effect. -/
theorem Completes.gives {i : Instr} {s t : State} {P : State → Prop} (h : Completes i s t) (hp : P (after s t)) : Gives i s P :=
  fun r => ⟨_, h r, hp⟩

/-- Settles O7: the value is judged with its reserved bits cleared, and a write that fails the test ends before its effect. -/
theorem badValueKeepsWord : Obligations.BadValueKeepsWord := by
  unfold Obligations.BadValueKeepsWord
  refine ⟨fun r m i v x s h hx ha hv => writeParam_badValue h hx ha hv, fun i v w x hx _ hmask => ?_⟩
  simp only [rangeOk, hx, hmask]

/-- Settles O9: the write stores the cleaned value at its index, and nothing else but the free values moves. -/
theorem plainWordWrite : Obligations.PlainWordWrite := by
  unfold Obligations.PlainWordWrite
  intro r i v x s u hm hx ha hv hc hf
  have hwrite : (writeFree r i v (noteRequest r s)).2 = u.put i (cleanValue i v) :=
    congrArg Prod.snd (writeParam_plain hm hx ha hv hc hf)
  have hword : ∀ k, u.word k = s.word k := fun k => by simp [u, State.word, spendMeasured]
  refine (completes_paramWrite r i v s).gives ?_
  rw [hwrite]
  refine ⟨word_put_same u i _, fun k hk => (word_put_other u _ hk).trans (hword k), ?_⟩
  have hnow : Nat.max s.now u.now = s.now := by simp [u, spendMeasured]
  simp only [after, track, State.put_now, hnow]
  simp only [u, spendMeasured, State.put]
  rw [noteRequest_eq]

end Sys2Proof.Machine
end

section
/-!
PROOF. The commit of a transaction and its ends (03_parameters_and_transactions.md, R71-R78).
-/
namespace Sys2Proof.Machine

section
variable {r : Requester} {a : Option CommitAt} {s : State}

/-! ## TXN_COMMIT (R71, R72) -/

theorem notMine_owner (hs : s.txn.st ≠ .idle) (ho : s.txn.owner = some r) : notMine r s = none := notMine_none.2 ⟨hs, ho⟩

/-- A commit posts a TXN_COMMIT event, whatever instant it names. -/
theorem commitSpec_act (a : Option CommitAt) (s : State) : (commitSpec a s).act = .txnCommit := by
  unfold commitSpec
  split
  · rfl
  · split <;> rfl

/-- TXN_COMMIT of the owner of a SEALED transaction. -/
theorem txnCommit_sealed (hs : s.txn.st = .sealed) (ho : s.txn.owner = some r) :
    txnCommit r a s = (0x0A, settle (touchTxn r s)) := by
  simp [txnCommit, notMine_owner (by simp [hs]) ho, hs]

/-- The state a commit leaves that passes its tests: its event in the reserved slot, the transaction SEALED. -/
def sealTxn (e : EventSpec) (s : State) : State :=
  let t := placeEvent 4095 false e (dueOf e s) s
  settle { t with txn := { t.txn with st := .sealed, handle := some (4095, nextGen 4095 s), due := some { clock := e.clock, due := e.due } } }

/-- TXN_COMMIT of the owner of an OPEN transaction: the tests of R71 in their order, then the seal. -/
theorem txnCommit_opened (hs : s.txn.st = .opened) (ho : s.txn.owner = some r) :
    txnCommit r a s =
      let u := settle (touchTxn r s)
      let e := commitSpec a u
      if noClock e.clock u then (0x0C, u)
      else if tooLate e u then (7, u)
      else if !isBehind e u && commitFar e u then (0x0B, u)
      else (0, sealTxn e u) := by
  simp only [txnCommit, notMine_owner (r := r) (s := s) (by simp [hs]) ho]
  rw [if_neg (by simp [hs])]
  rfl

theorem placeEvent_txn (slot : Nat) (sh : Bool) (e : EventSpec) (due : Nat) (s : State) : (placeEvent slot sh e due s).txn = s.txn := by
  simp only [placeEvent]; split <;> rfl

/-- The reserved slot is taken whatever the pools hold, and no pool's use changes. -/
theorem placeEvent_reserved_events (e : EventSpec) (due : Nat) (s : State) :
    ∃ x : Event, x.slot = 4095 ∧ x.spec = e ∧ (placeEvent 4095 false e due s).tt.events = s.tt.events ++ [x] :=
  ⟨_, rfl, rfl, rfl⟩

theorem sealTxn_txn (e : EventSpec) (s : State) : (sealTxn e s).txn.st = .sealed ∧ (sealTxn e s).txn.staged = s.txn.staged := by
  simp only [sealTxn, settle_txn, placeEvent_txn, and_self]

/-- Sealing adds one event, in the reserved slot, with the action of its spec. -/
theorem sealTxn_events (e : EventSpec) (s : State) :
    (sealTxn e s).tt.events.length = s.tt.events.length + 1 ∧ ∃ x ∈ (sealTxn e s).tt.events, x.slot = 4095 ∧ x.spec = e := by
  obtain ⟨x, hslot, hspec, hevents⟩ := placeEvent_reserved_events e (dueOf e s) s
  refine ⟨by simp only [sealTxn, settle_events_length, hevents, List.length_append, List.length_singleton], ?_⟩
  have hmem : (4095, e) ∈ (sealTxn e s).tt.events.map fun y => (y.slot, y.spec) := by
    simp only [sealTxn, settle_events, hevents, List.map_append, List.map_singleton, hslot, hspec]
    exact List.mem_append_right _ (List.mem_singleton_self _)
  obtain ⟨y, hy, heq⟩ := List.mem_map.1 hmem
  exact ⟨y, hy, congrArg Prod.fst heq, congrArg Prod.snd heq⟩

/-! ## TXN_ABORT (R77) -/

theorem rollBack_opened {status cause : Nat} (h : s.txn.st = .opened) :
    rollBack status cause s = endTxn status cause 0 (settle s) := by
  simp [rollBack, h]

/-- TXN_ABORT of the owner of an OPEN transaction discards it. -/
theorem txnAbort_opened (hs : s.txn.st = .opened) (ho : s.txn.owner = some r) :
    txnAbort r s = (0, endTxn 9 1 0 (settle (touchTxn r s))) := by
  have hst : (touchTxn r s).txn.st = .opened := (touchTxn_st r s).trans hs
  simp only [txnAbort, notMine_owner (r := r) (s := s) (by simp [hs]) ho, rollBack_opened hst, endTxn_txn]
  rfl

end

/-! ## The commit event (R73) -/

section
variable {slot : Nat} {e : Event} {s u : State}

/-- EVENT_TXN_COMMIT of a SEALED transaction commits it now. -/
theorem txnCommitEvent_sealed (ht : takeEvent slot s = some (e, u)) (ha : e.spec.act = .txnCommit) (hs : u.txn.st = .sealed) :
    txnCommitEvent slot s = commitNow u := by
  simp [txnCommitEvent, ht, ha, fireCommit, hs]

theorem completes_eventTxnCommit (ht : takeEvent slot s = some (e, u)) (ha : e.spec.act = .txnCommit) (hs : u.txn.st = .sealed) :
    Completes (.eventTxnCommit slot) s (commitNow u) :=
  completes_of rfl (txnCommitEvent_sealed ht ha hs)

theorem commitNow_conflict {r : Requester} {i : Nat} (ho : u.txn.owner = some r)
    (hc : conflictAt (liveStaged u) (standing (liveStaged u) u) u = some i) : commitNow u = endTxn 6 0 i u := by
  simp only [commitNow, ho, hc]

theorem commitNow_cross {r : Requester} {i : Nat} (ho : u.txn.owner = some r)
    (hc : conflictAt (liveStaged u) (standing (liveStaged u) u) u = none)
    (hx : crossAt (liveStaged u) (standing (liveStaged u) u) = some i) : commitNow u = endTxn 5 0 i u := by
  simp only [commitNow, ho, hc, hx]

theorem commitNow_applied {r : Requester} (ho : u.txn.owner = some r)
    (hc : conflictAt (liveStaged u) (standing (liveStaged u) u) u = none)
    (hx : crossAt (liveStaged u) (standing (liveStaged u) u) = none) :
    commitNow u =
      let t := forEach (liveStaged u) (fun x w => (applyWrite r (freeMeasured u) x.idx x.val w).2) (spendMeasured u)
      endTxn 0 0 0 (afterCommit (liveStaged u) u
        ((t.putNat Ix.TXN_COMMIT_SEQ (t.num Ix.TXN_COMMIT_SEQ + 1)).putNat Ix.TXN_LAST_COMMIT_TIME t.us)) := by
  simp only [commitNow, ho, hc, hx]

end

theorem txnTimeout_opened {s : State} (h : s.txn.st = .opened) :
    txnTimeout s = report 0x003 0 ((endTxn 8 0 0 (s.reach (s.txn.lastOp + msP s.txn.limit))).bump Ix.TXN_EXPIRIES 0 32) := by
  simp [txnTimeout, h]

theorem txnTimeout_other {s : State} (h : s.txn.st ≠ .opened) : txnTimeout s = s := by simp [txnTimeout, h]

/-! ## The statements -/

/-- Settles O14: the tests of R71 in their order, and the event of the seal in its reserved slot. -/
theorem commitSealsOrRefuses : Obligations.CommitSealsOrRefuses := by
  unfold Obligations.CommitSealsOrRefuses
  refine ⟨fun r a s hs ho => ?_, fun r a s hs ho => txnCommit_sealed hs ho, fun r a s ha => completes_txnCommit ha a⟩
  intro u e
  have hcommit := txnCommit_opened (a := a) hs ho
  refine ⟨by simp [u, hs], by simp [u], fun hclock => ?_, fun hclock hlate => ?_, fun hclock hlate hfar => ?_,
    fun hclock hlate hfar => ?_⟩
  · rw [hcommit]; exact if_pos hclock
  · rw [hcommit]; simp only [u, e] at hclock hlate; simp only [hclock, hlate]; rfl
  · rw [hcommit]; simp only [u, e] at hclock hlate hfar; simp only [hclock, hlate, hfar]; rfl
  · have hseal : txnCommit r a s = (0, sealTxn e u) := by
      rw [hcommit]; simp only [u, e] at hclock hlate hfar; simp only [hclock, hlate, hfar]; rfl
    obtain ⟨hst, hstaged⟩ := sealTxn_txn e u
    obtain ⟨hlen, x, hx, hslot, hspec⟩ := sealTxn_events e u
    rw [hseal]
    refine ⟨rfl, hst, hstaged.trans (by simp [u]), hlen.trans ?_, x, hx, hslot, hspec ▸ commitSpec_act a u⟩
    rw [settle_events_length, touchTxn_eq]

/-- Settles O15: an OPEN transaction ends by abort and time-out, a SEALED one by its event, which applies it whole or not at all. -/
theorem txnEnds : Obligations.TxnEnds := by
  unfold Obligations.TxnEnds
  refine ⟨fun r s hs ho => ?_, fun r s ha hs ho => ?_, fun s hs => completes_of rfl (txnTimeout_opened hs),
    fun s hs => completes_of rfl (txnTimeout_other hs), ?applied, ?conflict, ?cross⟩
  · rw [txnAbort_opened hs ho]
    exact ⟨rfl, endTxn_txn ..⟩
  · have habort := completes_txnAbort ha
    rwa [txnAbort_opened hs ho] at habort ⊢
  case applied =>
    intro slot e r s u ht ha hs ho hc hx
    have hcommit := completes_eventTxnCommit ht ha hs
    rwa [commitNow_applied ho hc hx] at hcommit
  case conflict =>
    intro slot i e r s u ht ha hs ho hc
    have hcommit := completes_eventTxnCommit ht ha hs
    rwa [commitNow_conflict ho hc] at hcommit
  case cross =>
    intro slot i e r s u ht ha hs ho hc hx
    have hcommit := completes_eventTxnCommit ht ha hs
    rwa [commitNow_cross ho hc hx] at hcommit

end Sys2Proof.Machine
end

section
/-!
PROOF. Reading back what the named updates write: the entry of its number holds the changed value, every other entry keeps its own; and
what a command leaves beside its effect.
-/
namespace Sys2Proof.Machine

/-! ## Entries by number -/

section
variable {α : Type} {n : Nat} (v : Vector α n) (x : α)

theorem vset_same (i : Fin n) : (v.set i x)[i] = x := Vector.getElem_set_self i.isLt

theorem vset_other {i j : Fin n} (h : j ≠ i) : (v.set i x)[j] = v[j] :=
  Vector.getElem_set_ne i.isLt j.isLt fun hij => h (Fin.ext hij.symm)

end

section
variable (s : State)

@[simp] theorem updCh_same (c : Ch) (f : Channel → Channel) : (updCh c f s).ch c = f (s.ch c) := vset_same ..
theorem updCh_other {c d : Ch} (f : Channel → Channel) (h : d ≠ c) : (updCh c f s).ch d = s.ch d := vset_other _ _ h

@[simp] theorem updLock_same (h : Hb) (f : LockS → LockS) : (updLock h f s).locks[h] = f s.locks[h] := vset_same ..

@[simp] theorem updStr_same (t : Str) (f : StringS → StringS) : (updStr t f s).led.strs[t] = f s.led.strs[t] := vset_same ..
theorem updStr_other {t k : Str} (f : StringS → StringS) (h : k ≠ t) : (updStr t f s).led.strs[k] = s.led.strs[k] := vset_other _ _ h

@[simp] theorem updBr_same (b : Mot) (f : Bridge → Bridge) : (updBr b f s).mot.bridges[b] = f s.mot.bridges[b] := vset_same ..
theorem updBr_other {b k : Mot} (f : Bridge → Bridge) (h : k ≠ b) : (updBr b f s).mot.bridges[k] = s.mot.bridges[k] := vset_other _ _ h

@[simp] theorem updPc_same (p : Pc) (f : PhaseClock → PhaseClock) : (updPc p f s).tt.clocks[p] = f s.tt.clocks[p] := vset_same ..
theorem updPc_other {p q : Pc} (f : PhaseClock → PhaseClock) (h : q ≠ p) : (updPc p f s).tt.clocks[q] = s.tt.clocks[q] :=
  vset_other _ _ h

@[simp] theorem updGroup_same (g : Fin 8) (f : Group → Group) : (updGroup g f s).tch.gr[g] = f s.tch.gr[g] := vset_same ..

@[simp] theorem updCan_same (c : Can) (f : CanC → CanC) : (updCan c f s).can.ctl[c] = f s.can.ctl[c] := vset_same ..

@[simp] theorem updNm_same (c : Can) (f : NmC → NmC) : (updNm c f s).nm.can[c] = f s.nm.can[c] := vset_same ..
theorem updNm_other {c k : Can} (f : NmC → NmC) (h : k ≠ c) : (updNm c f s).nm.can[k] = s.nm.can[k] := vset_other _ _ h

@[simp] theorem updPort_same (p : Port) (f : PortS → PortS) : (updPort p f s).fab.ports[p] = f s.fab.ports[p] := vset_same ..
theorem updPort_other {p q : Port} (f : PortS → PortS) (h : q ≠ p) : (updPort p f s).fab.ports[q] = s.fab.ports[q] := vset_other _ _ h

@[simp] theorem updSw_same (n : SwitchNo) (f : Switch → Switch) : (updSw n f s).inp.sw[n] = f s.inp.sw[n] := vset_same ..
theorem updSw_other {n k : SwitchNo} (f : Switch → Switch) (h : k ≠ n) : (updSw n f s).inp.sw[k] = s.inp.sw[k] := vset_other _ _ h

@[simp] theorem updFq_same (n : Fin 4) (f : Freq → Freq) : (updFq n f s).inp.fq[n] = f s.inp.fq[n] := vset_same ..
theorem updFq_other {n k : Fin 4} (f : Freq → Freq) (h : k ≠ n) : (updFq n f s).inp.fq[k] = s.inp.fq[k] := vset_other _ _ h

end

/-! ## A run of words (a latched record) -/

/-- Words written one after the other, each at the place of its number. -/
def putEach (ks : List Nat) (ix : Nat → Nat) (f : Nat → Word) (s : State) : State := ks.foldl (fun t k => t.put (ix k) (f k)) s

section
variable {ks : List Nat} {ix : Nat → Nat} {f : Nat → Word} {s : State}

theorem putEach_eq (ks : List Nat) (ix : Nat → Nat) (f : Nat → Word) (s : State) :
    putEach ks ix f s = { s with words := (putEach ks ix f s).words } := by
  induction ks generalizing s with
  | nil => rfl
  | cons k ks ih =>
    rw [putEach, List.foldl_cons, ← putEach, ih]
    rfl

theorem word_putEach_other {i : Nat} (h : ∀ k ∈ ks, i ≠ ix k) : (putEach ks ix f s).word i = s.word i := by
  induction ks generalizing s with
  | nil => rfl
  | cons k ks ih =>
    rw [putEach, List.foldl_cons, ← putEach, ih fun j hj => h j (List.mem_cons_of_mem _ hj)]
    exact word_put_other s _ (h k List.mem_cons_self)

theorem word_putEach {k : Nat} (hk : k ∈ ks) (hix : ∀ i j, ix i = ix j → i = j) : (putEach ks ix f s).word (ix k) = f k := by
  induction ks generalizing s with
  | nil => cases hk
  | cons j ks ih =>
    rw [putEach, List.foldl_cons, ← putEach]
    by_cases hmem : k ∈ ks
    · exact ih hmem
    · obtain rfl : k = j := (List.mem_cons.1 hk).resolve_right hmem
      rw [word_putEach_other fun i hi hik => hmem (by rwa [hix _ _ hik]), word_put_same]

end

/-! ## What a command leaves beside its effect -/

section
variable {i : Instr} {s t : State}

/-- An effect that leaves the queue and the clock alone is left as it is, with the dwells brought up to date. -/
theorem after_of_now (hp : t.pending = s.pending) (hn : t.now = s.now) : after s t = { t with dwell := (after s t).dwell } := by
  have hmax : Nat.max s.now t.now = t.now := by rw [hn]; exact Nat.max_self _
  simp only [after, track, hmax, ← hp]

@[simp] theorem after_word (s t : State) (k : Nat) : (after s t).word k = t.word k := rfl
@[simp] theorem after_num (s t : State) (k : Nat) : (after s t).num k = t.num k := rfl
@[simp] theorem after_ch (s t : State) (c : Ch) : (after s t).ch c = t.ch c := rfl

/-- A command whose effect is `t`, given what `t` leaves. -/
theorem gives_of_eq {f : State → State} {P : State → Prop} (h : exec i s = doneFor (Instr.part i) s f) (e : f s = t)
    (p : P (after s t)) : Gives i s P := (completes_of h e).gives p

end

theorem toNat_toWord_of_lt {n : Nat} (h : n < 2 ^ 32) : (toWord n).toNat = n := by
  rw [toWord, BitVec.toNat_ofNat, Nat.mod_eq_of_lt h]

end Sys2Proof.Machine
end

section
/-!
PROOF. The Timetable's commands (06_timetable.md): posting (R133, R134, R140), cancelling (R142), commitment (R136), the limits of a
phase clock (R123, R125), and the event log (R149).
-/
namespace Sys2Proof.Machine

/-! ## Posting -/

section
variable {g : List EventSpec} {s u : State}

/-- A refusal leaves its status, no handle, and the events as they were; it changes the log beside. -/
theorem refuseGroup_tt (status : Nat) (g : List EventSpec) (s : State) :
    (refuseGroup status g s).tt.status = status ∧ (refuseGroup status g s).tt.events = s.tt.events ∧
      (refuseGroup status g s).tt.handles = [] ∧
      refuseGroup status g s = { s with tt := (refuseGroup status g s).tt, words := (refuseGroup status g s).words } := by
  have hlog : ∀ (g : List EventSpec) (v : State),
      let w := g.foldl (fun t e => ttLog 4 status 0 e.clock (actCode e.act) e.pool e.due e.rep (actArg e.act) 0 t) v
      w.tt.status = v.tt.status ∧ w.tt.events = v.tt.events ∧ w.tt.handles = v.tt.handles ∧ w = { v with tt := w.tt, words := w.words } := by
    intro g
    induction g with
    | nil => exact fun v => ⟨rfl, rfl, rfl, rfl⟩
    | cons e g ih =>
      intro v
      obtain ⟨h1, h2, h3, h4⟩ := ih (ttLog 4 status 0 e.clock (actCode e.act) e.pool e.due e.rep (actArg e.act) 0 v)
      have hone := ttLog_eq 4 status 0 e.clock (actCode e.act) e.pool e.due e.rep (actArg e.act) 0 v
      simp only [List.foldl_cons]
      generalize ttLog 4 status 0 e.clock (actCode e.act) e.pool e.due e.rep (actArg e.act) 0 v = w at *
      refine ⟨h1.trans ?_, h2.trans ?_, h3.trans ?_, h4.trans ?_⟩ <;> rw [hone]
  exact hlog g { s with tt := { s.tt with status := status, handles := [] } }

theorem postGroup_refused (h : groupStatus g s ≠ 0) : postGroup g s = refuseGroup (groupStatus g s) g s := by
  simp [postGroup, h]

theorem postGroup_placed (h : groupStatus g s = 0) (hu : placeGroup g { s with tt := { s.tt with status := 0, handles := [] } } = .ok u) :
    postGroup g s = u := by
  simp [postGroup, h, hu]

theorem postGroup_full {pool : Nat} (h : groupStatus g s = 0)
    (hu : placeGroup g { s with tt := { s.tt with status := 0, handles := [] } } = .error pool) :
    postGroup g s = report 0x100 pool (refuseGroup 0x10 g ((s.bump Ix.TT_FULL_COUNT 0 16).putFld Ix.TT_FULL_COUNT 16 4 pool)) := by
  simp [postGroup, h, hu]

/-- A post that does not meet TT_FULL is what the service leaves that keeps no handle. -/
theorem servicePost_of_status (h : (postGroup g s).tt.status ≠ 0x10) : servicePost g s = postGroup g s := by
  simp [servicePost, servicePostAs, h, keepHandles]

theorem servicePost_full (h : (postGroup g s).tt.status = 0x10) :
    servicePost g s = { postGroup g s with
      tt := { (postGroup g s).tt with waiting := (postGroup g s).tt.waiting ++ [{ group := g, by_ := .plain, since := s.now }] } } := by
  simp [servicePost, servicePostAs, h]

end

/-- Settles O16: a refused group leaves its status, a placed one its events and handles, and one that finds no slot waits. -/
theorem postsWholeOrNotAtAll : Obligations.PostsWholeOrNotAtAll := by
  unfold Obligations.PostsWholeOrNotAtAll
  refine ⟨fun g s h h10 => ?_, fun _ _ => rfl, fun g s u h hu => ?_, fun g pool s h hu => ?_,
    fun g s h => completes_of rfl (servicePost_full h)⟩
  · obtain ⟨hstatus, hevents, hhandles, hframe⟩ := refuseGroup_tt (groupStatus g s) g s
    have hpost : servicePost g s = refuseGroup (groupStatus g s) g s := by
      rw [servicePost_of_status] <;> rw [postGroup_refused h]
      rwa [hstatus]
    refine gives_of_eq rfl hpost ⟨hstatus, hevents, hhandles, ?_⟩
    generalize refuseGroup (groupStatus g s) g s = t at *
    rw [after_of_now (s := s) (t := t) (by rw [hframe]) (by rw [hframe])]
    rw [hframe]
  · obtain ⟨hlen, hhandles, hkept, hstatus, hframe⟩ := placeGroup_ok g _ u hu
    have hpost : servicePost g s = u := by
      rw [servicePost_of_status] <;> rw [postGroup_placed h hu]
      rw [hstatus]; exact Nat.zero_ne_add_one 15
    refine gives_of_eq rfl hpost ⟨hstatus, hlen, hhandles.trans (Nat.zero_add _), hkept, ?_⟩
    rw [after_of_now (s := s) (t := u) (by rw [hframe]) (by rw [hframe])]
    rw [hframe]
  · obtain ⟨hstatus, hevents, -, -⟩ := refuseGroup_tt 0x10 g ((s.bump Ix.TT_FULL_COUNT 0 16).putFld Ix.TT_FULL_COUNT 16 4 pool)
    exact ⟨_, hevents, hstatus, postGroup_full h hu⟩

/-! ## Cancelling (R142) -/

section
variable {slot gen : Nat} {e : Event} {s : State}

theorem cancelHandle_none (h : (s.tt.events.find? fun e => e.slot == slot && e.gen == gen) = none) :
    cancelHandle (slot, gen) s = { s with tt := { s.tt with status := 0x14 } } := by
  simp [cancelHandle, h]

theorem cancelHandle_uncommitted (h : (s.tt.events.find? fun e => e.slot == slot && e.gen == gen) = some e)
    (hc : e.isCommitted s = false) :
    cancelHandle (slot, gen) s =
      { dropEvent e.slot (logEvent 2 0 0 e s) with tt := { (dropEvent e.slot (logEvent 2 0 0 e s)).tt with status := 0 } } := by
  simp [cancelHandle, h, hc]

theorem cancelHandle_committed (h : (s.tt.events.find? fun e => e.slot == slot && e.gen == gen) = some e)
    (hc : e.isCommitted s = true) :
    cancelHandle (slot, gen) s =
      { logEvent 3 7 0 e (updEvent e.slot (fun x => { x with stop := true }) (settle s)) with
        tt := { (logEvent 3 7 0 e (updEvent e.slot (fun x => { x with stop := true }) (settle s))).tt with status := 7 } } := by
  simp [cancelHandle, h, hc]

end

theorem logEvent_eq (kind status late : Nat) (e : Event) (s : State) :
    logEvent kind status late e s = { s with tt := { s.tt with log := (logEvent kind status late e s).tt.log },
                                             words := (logEvent kind status late e s).words } := ttLog_eq ..

/-- Settles O17: the handle finds no event, an uncommitted one, or a committed one. -/
theorem cancelByHandle : Obligations.CancelByHandle := by
  unfold Obligations.CancelByHandle
  refine ⟨fun slot gen s h => completes_of rfl (cancelHandle_none h), fun slot gen e s h hc => ?_, fun slot gen e s h hc => ?_⟩
  · have hlog := logEvent_eq 2 0 0 e s
    refine gives_of_eq rfl (cancelHandle_uncommitted h hc) ⟨rfl, ?_, ?_⟩
    · simp only [after_tt, dropEvent]
      rw [hlog]
    · generalize logEvent 2 0 0 e s = t at *
      rw [after_of_now (s := s) (by simp only [dropEvent]; rw [hlog]) (by simp only [dropEvent]; rw [hlog])]
      simp only [dropEvent]
      rw [hlog]
  · have hevents : (logEvent 3 7 0 e (updEvent e.slot (fun x => { x with stop := true }) (settle s))).tt.events =
        (updEvent e.slot (fun x => { x with stop := true }) (settle s)).tt.events := ttLog_events ..
    refine gives_of_eq rfl (cancelHandle_committed h hc) ⟨rfl, ?_, fun x hx hslot => ?_⟩
    · refine (congrArg List.length hevents).trans ?_
      simp only [updEvent, List.length_map, settle_events_length]
    · obtain ⟨y, -, rfl⟩ := List.mem_map.1 (hevents ▸ hx)
      split at hslot
      · next hy => rw [if_pos hy]
      · next hy => exact absurd (beq_iff_eq.2 hslot) hy

/-! ## Commitment and the limits of a clock (R123, R125, R136, R137) -/

section
variable {slot t : Nat} {e : Event} {p : Pc} {s : State}

theorem commitEvent_predicted (h : eventAt slot s = some e) (hc : e.committed = false) (hp : e.predicted s = some t) :
    commitEvent slot s =
      commitPayload e (updEvent slot (fun x => { x with committed := true, commitAt := t }) (s.reach (t - horizonP s))) := by
  simp [commitEvent, h, hc, hp]

theorem commitEvent_committed (h : eventAt slot s = some e) (hc : e.committed = true) : commitEvent slot s = s := by
  simp [commitEvent, h, hc]

theorem coastLimit_reached (h : (s.tt.clocks[p]).limitAt (s.num (Ix.TT_PC_COAST p.val)) = some t) :
    coastLimit p s = loseClock p (s.reach t) := by
  simp only [coastLimit, h]

theorem markMissing_reached (h : (s.tt.clocks[p]).missAt = some t) :
    ∃ f : PhaseClock → PhaseClock, markMissing p s = updPc p f (s.reach t) ∧ ∀ c, (f c).st = .coasting := by
  simp only [markMissing, h]
  exact ⟨_, rfl, fun _ => rfl⟩

theorem clockStop_standby (h : s.pw.pw = .standby) : clockStop p s = s := by simp [clockStop, h]

theorem clockStop_stops (hpw : s.pw.pw ≠ .standby) (h : (s.tt.clocks[p]).st = .acquiring ∨ (s.tt.clocks[p]).st = .lost) :
    ∃ (f : PhaseClock → PhaseClock) (t : Nat), clockStop p s = updPc p f (s.reach t) ∧ ∀ c, (f c).st = .stopped := by
  obtain h | h := h
  · refine ⟨fun c => { c with st := .stopped, acq := none, marks := [], good := 0 },
      (s.tt.clocks[p]).lastMark + msP (s.num (Ix.TT_PC_STOP p.val)), ?_, fun _ => rfl⟩
    simp only [clockStop, h]
    simp [hpw]
  · refine ⟨fun c => { c with st := .stopped },
      Nat.max (s.tt.clocks[p]).lastMark (s.tt.clocks[p]).entryAt + msP (s.num (Ix.TT_PC_STOP p.val)), ?_, fun _ => rfl⟩
    simp only [clockStop, h]
    simp [hpw]

theorem takeAtBound_eq (slot : Nat) (s : State) : takeAtBound slot s = takeEvent slot s ∨ takeAtBound slot s = none := by
  unfold takeAtBound
  split
  · exact .inr rfl
  · split
    · exact .inl rfl
    · exact .inr rfl

end

/-- Settles O18: each row by the case of the clock or of the event it finds. -/
theorem clockAndCommitRows : Obligations.ClockAndCommitRows := by
  unfold Obligations.ClockAndCommitRows
  refine ⟨fun slot t e s h hc hp => completes_of rfl (commitEvent_predicted h hc hp),
    fun slot e s h hc => completes_of rfl (commitEvent_committed h hc), ?missing, fun p t s h => completes_of rfl (coastLimit_reached h),
    ?stop, fun p s h => completes_of rfl (clockStop_standby h), ?bound, fun slot _ s => takeAtBound_eq slot s, ?outSet, ?txnCommit⟩
  case missing =>
    intro p t s h
    obtain ⟨f, hmiss, hst⟩ := markMissing_reached h
    refine gives_of_eq rfl hmiss ⟨?_, ?_, fun q hq => updPc_other _ f hq, rfl⟩
    · simp only [after_tt, updPc_same, hst]
    · simp [State.reach]
  case stop =>
    intro p s hpw h
    obtain ⟨f, t, hstop, hst⟩ := clockStop_stops hpw h
    refine gives_of_eq rfl hstop ⟨?_, fun q hq => updPc_other _ f hq, rfl⟩
    simp only [after_tt, updPc_same, hst]
  case bound =>
    intro slot delay vbat convs e s u h
    exact completes_of rfl (by simp only [boundExpiry, h])
  case outSet =>
    intro convs delay vbat e c st u ha
    simp only [fireAct, ha]
  case txnCommit =>
    intro convs delay vbat e u ha
    simp only [fireAct, ha]

/-! ## The retry of a post (R140) -/

/-- The CB7 in RUN with both processors running, a LIMP or SAFE reaction having ended the forcing of WORKSHOP, and no group waiting. -/
def unforcedUp : State :=
  { State.reset with procs := { Procs.reset with principal := .running, app := .running },
                     flt := { FaultS.reset with unforced := true } }

/-- The retry's turn of the services takes the mark of the ended forcing away (R174). -/
theorem retry_unforcedUp :
    (match exec .servicePostRetry unforcedUp with | .next t => t.flt.unforced | _ => true) = false := by decide +kernel

/-- Refutes O19: with no group waiting SERVICE_POST_RETRY still brings the outputs to their requests where forcing has ended, so it does
not leave the state as it was. -/
theorem not_logSelectAndRetry : ¬ Obligations.LogSelectAndRetry := by
  unfold Obligations.LogSelectAndRetry
  rintro ⟨-, -, -, hnone, -⟩
  have hready : Ready .servicePostRetry unforcedUp := ⟨by decide, by decide⟩
  have hkept : (match exec .servicePostRetry unforcedUp with | .next t => t.flt.unforced | _ => true) = true := by
    rw [hnone unforcedUp rfl hready]
    rfl
  exact absurd (retry_unforcedUp.symm.trans hkept) (by decide)

end Sys2Proof.Machine
end

section
/-!
PROOF. Direct writes of the words that have an effect of their own (R57, R65): the command words and the forcing words. What a permitted
write in range does is what its word does with the cleaned value.
-/
namespace Sys2Proof.Machine

/-- The word is none, or one whose bits are cleared by writing 1 (Table 3-2). -/
def isW1c (i : Nat) : Bool := match paramRow i with | some x => x.access == .w1c | none => true

section
variable {r : Requester} {m : Measured} {i : Nat} {v : Word} {s t : State} {a : Nat × State}

theorem writeParam_allowed (h : mayWrite r i s = true) (hv : (valueOk i v s && crossWritten i v s) = true) :
    writeParam r m i v s = applyWrite r m i v s := by
  obtain ⟨x, hx, -⟩ := (mayWrite_iff r i s).1 h
  simp [writeParam, h, hx, hv]

theorem applyWrite_command (hi : isW1c i = false) (h : commandWord r m i (cleanValue i v) s = some a) : applyWrite r m i v s = a := by
  unfold isW1c at hi
  split at hi
  case h_1 x hx => simp_all [applyWrite]
  case h_2 => exact absurd hi (by decide)

theorem applyWrite_force (hi : isW1c i = false) (h : commandWord r m i (cleanValue i v) s = none)
    (hf : forceWord i (cleanValue i v) s = some t) : applyWrite r m i v s = (0, t) := by
  unfold isW1c at hi
  split at hi
  case h_1 x hx => simp_all [applyWrite]
  case h_2 => exact absurd hi (by decide)

/-- A permitted write of a command word in range has the effect of the command. -/
theorem requestWrite_command (h : mayWrite r i (noteRequest r s) = true)
    (hv : (valueOk i v (noteRequest r s) && crossWritten i v (noteRequest r s)) = true) (hi : isW1c i = false)
    (hc : commandWord r m i (cleanValue i v) (noteRequest r s) = some a) : requestWrite r m i v s = a.2 := by
  rw [requestWrite, writeParam_allowed h hv, applyWrite_command hi hc]

/-- A permitted write of a forcing word in range has the effect of the forcing. -/
theorem requestWrite_force (h : mayWrite r i (noteRequest r s) = true)
    (hv : (valueOk i v (noteRequest r s) && crossWritten i v (noteRequest r s)) = true) (hi : isW1c i = false)
    (hc : commandWord r m i (cleanValue i v) (noteRequest r s) = none)
    (hf : forceWord i (cleanValue i v) (noteRequest r s) = some t) : requestWrite r m i v s = t := by
  rw [requestWrite, writeParam_allowed h hv, applyWrite_force hi hc hf]

/-- A permitted write of a word whose bits a 1 clears has the effect of the clearing. -/
theorem requestWrite_w1c (h : mayWrite r i (noteRequest r s) = true) (hi : isW1c i = true) :
    requestWrite r m i v s = clearBits i (cleanValue i v) (noteRequest r s) := by
  obtain ⟨x, hx, -⟩ := (mayWrite_iff r i _).1 h
  have hacc : x.access = .w1c := by simpa [isW1c, hx] using hi
  simp [requestWrite, writeParam, applyWrite, h, hx, hacc]

end

/-! ## The forcing words -/

section
variable (v : Word) (s : State)

theorem chForceIx_page (c : Ch) : chForceIx c / 256 = 0x0E ∨ chForceIx c / 256 = 0x10 ∨ chForceIx c / 256 = 0x11 := by
  revert c; decide

theorem commandWord_chForce (r : Requester) (m : Measured) (c : Ch) : commandWord r m (chForceIx c) v s = none := by
  obtain h | h | h := chForceIx_page c <;> simp only [commandWord, h]

theorem isW1c_chForce : ∀ c : Ch, isW1c (chForceIx c) = false := by decide +kernel

theorem find_chForceIx : ∀ c : Ch, ((List.finRange 42).find? fun d => chForceIx d == chForceIx c) = some c := by decide +kernel

theorem forceWord_chForce (c : Ch) : forceWord (chForceIx c) v s = some (serveCh c (s.put (chForceIx c) v)) := by
  simp only [forceWord, find_chForceIx]

theorem isW1c_motForce : ∀ b : Mot, isW1c (Ix.MOT_FORCE b.val) = false := by decide +kernel

theorem commandWord_motForce (r : Requester) (m : Measured) (b : Mot) : commandWord r m (Ix.MOT_FORCE b.val) v s = none := by
  have hpage : Ix.MOT_FORCE b.val / 256 = 0x17 := by unfold Ix.MOT_FORCE; omega
  simp only [commandWord, hpage]

theorem find_motForceIx : ∀ b : Mot, ((List.finRange 42).find? fun c => chForceIx c == Ix.MOT_FORCE b.val) = none ∧
    ((List.finRange 4).find? fun t => Ix.LED_FORCE t.val == Ix.MOT_FORCE b.val) = none ∧
    ((List.finRange 2).find? fun k => Ix.MOT_FORCE k.val == Ix.MOT_FORCE b.val) = some b := by decide +kernel

theorem forceWord_motForce (b : Mot) : forceWord (Ix.MOT_FORCE b.val) v s = some (postForce b (s.put (Ix.MOT_FORCE b.val) v)) := by
  obtain ⟨hch, hled, hmot⟩ := find_motForceIx b
  simp only [forceWord, hch, hled, hmot]

end

end Sys2Proof.Machine
end

section
/-!
PROOF. Load switches (08_load_switches.md): the output events (R175, R178), the detections and the trip rule (R182), recovery (R183 to
R185) and the strokes of a lock (R187, R188).
-/
namespace Sys2Proof.Machine

/-! ## Output events -/

section
variable {slot vbat : Nat} {e : Event} {c : Ch} {st : Fin 4} {s u : State}

theorem chHb_of_lt (h : c.val < 40) : chHb c = none := dif_neg (Nat.not_le.2 h)

theorem outSetEvent_taken (h : takeEvent slot s = some (e, u)) (ha : e.spec.act = .outSet c st) :
    outSetEvent slot vbat s = fireOutSet c st vbat u := by
  simp only [outSetEvent, h, ha]

theorem fireOutSet_unpowered (h : pwrOn s = false) : fireOutSet c st vbat s = s := by simp [fireOutSet, h]

theorem fireOutSet_switch (hc : c.val < 40) (hp : pwrOn s = true) : fireOutSet c st vbat s = fireSwitch c (st.val != 0) vbat s := by
  simp [fireOutSet, hp, chHb_of_lt hc]

theorem fireSwitch_off (h : (s.ch c).isOn = false ∨ (s.ch c).turnOn + minOnP c s ≤ s.now) :
    fireSwitch c false vbat s = turnOffCh c s := by
  simp only [fireSwitch, Bool.not_false, if_true]
  refine if_neg ?_
  obtain hoff | hmin := h
  · exact fun hc => Bool.false_ne_true (hoff.symm.trans (Bool.and_eq_true_iff.1 hc).1)
  · exact fun hc => Nat.not_le.2 (of_decide_eq_true (Bool.and_eq_true_iff.1 hc).2) hmin

theorem fireSwitch_endsLater (hon : (s.ch c).isOn = true) (h : s.now < (s.ch c).turnOn + minOnP c s) :
    fireSwitch c false vbat s = updCh c (fun y => { y with ending := true, offAt := some (y.turnOn + minOnP c s) }) s := by
  simp only [State.ch] at hon h
  simp [-Fin.getElem_fin, fireSwitch, hon, h]

theorem fireSwitch_blocked (h : blocked (s.ch c) = true) : fireSwitch c true vbat s = s := by
  simp only [State.ch] at h
  simp [-Fin.getElem_fin, fireSwitch, h]

theorem fireSwitch_turnsOn (hoff : (s.ch c).st = .off) (hheld : (s.ch c).held = false) (hpwm : (s.ch c).posted ≠ 2) :
    fireSwitch c true vbat s =
      updCh c (fun y => { y with drive := 1, pulse := true, offAt := none, ending := false, applied := 0xFFFF, derated := false })
        (chTurnOn c 1 s) := by
  simp only [State.ch] at hoff hheld hpwm
  simp [-Fin.getElem_fin, fireSwitch, blocked, hoff, hheld, hpwm]

end

/-- Settles O20: by the state of the channel and of its stages. -/
theorem switchEvents : Obligations.SwitchEvents := by
  unfold Obligations.SwitchEvents
  refine ⟨?off, ?later, ?on, ?blocked, ?unpowered, ?duty, ?edge, ?offWaited, ?inrush⟩
  case off =>
    intro slot vbat e c s u h hc hp ha hmin
    refine ⟨updCh c (fun x => { chOff u.now x with reverse := false }) u, ?_, ?_, ?_, ?_, fun d hd => updCh_other _ _ hd, rfl, ?_⟩
    · rw [updCh_same]; rfl
    · rw [updCh_same]; rfl
    · rw [updCh_same]
    · rw [updCh_same]; rfl
    · exact completes_of rfl (by rw [outSetEvent_taken h ha, fireOutSet_switch hc hp]; exact fireSwitch_off hmin)
  case later =>
    intro slot vbat e c s u h hc hp ha hon hmin
    exact completes_of rfl (by rw [outSetEvent_taken h ha, fireOutSet_switch hc hp]; exact fireSwitch_endsLater hon hmin)
  case on =>
    intro slot vbat e c st s u h hc hp hst ha hoff hheld hpwm hno
    have hon : (st.val != 0) = true := bne_iff_ne.2 fun h0 => hst (Fin.ext h0)
    refine ⟨updCh c (fun x => { x with st := .on, drive := 1, turnOn := u.now, pulse := true, offAt := none, ending := false,
                                       applied := if pwmEnabled c u then x.applied else 0xFFFF, openOff := false, shortBat := false,
                                       excess := none, low := none, high := none }) u, ?_, ?_, ?_, ?_, ?_,
      fun d hd => updCh_other _ _ hd, rfl, ?_⟩
    iterate 5 rw [updCh_same]
    refine completes_of rfl ?_
    rw [outSetEvent_taken h ha, fireOutSet_switch hc hp, hon, fireSwitch_turnsOn hoff hheld hpwm]
    simp only [chTurnOn, hno, if_true]
  case blocked =>
    intro slot vbat e c st s u h hc hst ha hblocked
    have hon : (st.val != 0) = true := bne_iff_ne.2 fun h0 => hst (Fin.ext h0)
    have hb : blocked (u.ch c) = true := by obtain h | h | h := hblocked <;> simp [Sys2Proof.Machine.blocked, h]
    refine completes_of rfl ?_
    rw [outSetEvent_taken h ha]
    cases hp : pwrOn u
    · exact fireOutSet_unpowered hp
    · rw [fireOutSet_switch hc hp, hon, fireSwitch_blocked hb]
  case unpowered =>
    intro slot vbat e c st s u h hp ha
    exact completes_of rfl (by rw [outSetEvent_taken h ha, fireOutSet_unpowered hp])
  case duty =>
    intro slot e c d s u h ha hd
    refine gives_of_eq (t := fireOutDuty c d u) rfl (by simp only [outDutyEvent, h, ha]) ⟨?_, ?_,
      fun k hk => by rw [after_ch, fireOutDuty, updCh_other _ _ hk], rfl⟩
    · simp only [after_ch, fireOutDuty, updCh_same, Nat.mod_eq_of_lt hd]
      split <;> simp_all
    · simp only [after_ch, fireOutDuty, updCh_same]
      split <;> rfl
  case edge =>
    intro c t s h he
    simp only [State.ch] at h he
    exact completes_of rfl (by simp [-Fin.getElem_fin, pwmOffEdge, h, he])
  case offWaited =>
    intro c t s h he
    simp only [State.ch] at h he
    exact completes_of rfl (by simp [-Fin.getElem_fin, pwmOffEdge, h, he])
  case inrush =>
    intro c s h
    simp only [State.ch] at h
    exact completes_of rfl (by simp [-Fin.getElem_fin, inrushEnd, h, State.ch])

/-! ## Detections and the trip rule -/

section
variable {c : Ch} {k : Trip} {s : State}

theorem isOn_iff (x : Channel) : x.isOn = true ↔ x.st = .on ∨ x.st = .inrush := by simp [Channel.isOn]

theorem tripChannel_off (h : (s.ch c).isOn = false) : tripChannel c k s = s := if_neg (Bool.eq_false_iff.1 h)

theorem tripChannel_on (h : (s.ch c).isOn = true) :
    tripChannel c k s =
      let u := updCh c (fun y => { y.dark s.now with st := .tripped, lastTrip := k, tripAt := s.now, reverse := false, posted := 0,
                                                     restarts := recentRestarts (s.ch c) s }) (withdraw c s)
      let v := countTrip c k (endFault 0x3C0 c.val (cutLock c u))
      let w := report (tripId c k) c.val (if k = .short then countShort c.val v else v)
      if latchBit c k w || decide (8 ≤ (recentRestarts (s.ch c) s).length) then condFault (0x2C0 + c.val) c.val true (latchChannel c w)
      else if pairUp w then ensureSense c (serveCh c w) else w := if_pos h

theorem openOn_judged {t : Nat} (h : (if (s.ch c).open_ then (s.ch c).high else (s.ch c).low) = some t) :
    openOn c s = condFault (0x300 + c.val) c.val (!(s.ch c).open_)
      (updCh c (fun y => { y with open_ := !(s.ch c).open_ }) (s.reach (t + openFilterP c s))) := by
  change (match if (s.ch c).open_ then (s.ch c).high else (s.ch c).low with | some t => _ | none => _) = _
  rw [h]
  rfl

theorem openOff_tested {least most : Nat} (h : offTest c s = true) :
    openOff c least most s =
      let found := if decide (36 ≤ c.val ∧ c.val < 40) then decide (most < 2000) else decide (3000 < least) && decide (most ≤ 6000)
      condFault (0x340 + c.val) c.val found (updCh c (fun y => { y with openOff := found }) (s.reach ((s.ch c).wentOff + msP 60))) :=
  if_pos h

end

/-- Settles O21: each detection at its limit and below it, and what the trip rule leaves. -/
theorem channelDetections : Obligations.ChannelDetections := by
  unfold Obligations.ChannelDetections
  refine ⟨?short, ?noShort, ?hot, ?cool, ?overload, ?noOverload, ?idle, ?trips, ?openOn, ?openOff, ?openLow, ?shortBat, ?noTest,
    fun _ _ => rfl, ?backfeed⟩
  case short =>
    intro c least most vbat us s h1 h2 h3
    exact completes_of rfl (if_pos ⟨h1, h2, h3⟩)
  case noShort =>
    intro c least most vbat us s h
    exact completes_of rfl (if_neg fun hc => by omega)
  case hot =>
    intro c temp s h
    exact completes_of rfl (if_pos h)
  case cool =>
    intro c temp s h
    exact completes_of rfl (if_neg (Int.not_le.2 h))
  case overload =>
    intro c t s h
    simp only [State.ch] at h
    exact completes_of rfl (by simp only [Sys2Proof.Machine.overload, h])
  case noOverload =>
    intro c s h
    simp only [State.ch] at h
    exact completes_of rfl (by simp only [Sys2Proof.Machine.overload, h])
  case idle =>
    intro c k s hon hinrush
    exact tripChannel_off (Bool.eq_false_iff.2 fun h => ((isOn_iff _).1 h).elim hon hinrush)
  case trips =>
    intro c k s h
    refine ⟨_, ?_, ?_, ?_, ?_, ?_, fun d hd => updCh_other _ _ hd, rfl, tripChannel_on ((isOn_iff _).2 h)⟩
    all_goals simp only [updCh_same, Channel.dark]
  case openOn =>
    intro c t s h
    exact completes_of rfl (openOn_judged h)
  case openOff =>
    intro c least most s hc h
    refine completes_of rfl ((openOff_tested h).trans ?_)
    simp only [show ¬(36 ≤ c.val ∧ c.val < 40) by omega, decide_false, Bool.false_eq_true, if_false]
  case openLow =>
    intro c least most s hc hc' h
    refine completes_of rfl ((openOff_tested h).trans ?_)
    simp only [show 36 ≤ c.val ∧ c.val < 40 from ⟨hc, hc'⟩, and_self, decide_true, if_true]
  case shortBat =>
    intro c least s h
    exact completes_of rfl (if_pos h)
  case noTest =>
    intro c least most s h
    exact ⟨completes_of rfl (if_neg (Bool.eq_false_iff.1 h)), completes_of rfl (if_neg (Bool.eq_false_iff.1 h))⟩
  case backfeed =>
    intro c most s h
    simp only [State.ch] at h
    exact completes_of rfl (by simp only [Sys2Proof.Machine.backfeed, h, Bool.true_and])

/-! ## Restart, latch, calibration and forcing -/

/-- Settles O22: each recovery where its guard holds and where it does not. -/
theorem channelRecovery : Obligations.ChannelRecovery := by
  unfold Obligations.ChannelRecovery
  refine ⟨?restart, ?noRestart, ?clear, ?noClear, ?resume, ?calibrate, ?force⟩
  case restart =>
    intro c t most s h hmost u
    have hrestart : restartChannel c t most s =
        if wantState c u = 0 then u else resumeCh c (updCh c (fun y => { y with restarts := u.now :: y.restarts }) u) :=
      if_pos ⟨beq_iff_eq.2 h, hmost⟩
    exact ⟨fun hw => completes_of rfl (hrestart.trans (if_pos hw)), fun hw => completes_of rfl (hrestart.trans (if_neg hw))⟩
  case noRestart =>
    intro c t most s h
    exact completes_of rfl (if_neg fun hc => h.elim (fun hst => hst (beq_iff_eq.1 hc.1)) (Int.not_lt.2 hc.2))
  case clear =>
    intro c s h
    exact completes_of rfl (if_pos (beq_iff_eq.2 h))
  case noClear =>
    intro c s h
    exact completes_of rfl (if_neg fun hc => h (beq_iff_eq.1 hc))
  case resume =>
    intro c s h hc
    simp only [resumeCh, h, hc, Bool.false_eq_true, if_false]
  case calibrate =>
    intro c mv raw offset s hd hoff hdrive hmv hraw u
    have hcal : senseCal c mv raw offset u =
        endFault 0x3C3 c.val (updCh c (fun x => { x with offset := offset, calDeferred := false, calRun := 0 }) u) := if_pos ⟨hmv, hraw⟩
    have hguard : ((s.ch c).calDeferred && !(s.ch c).isOn && (s.ch c).drive == 0) = true := by simp [hd, hoff, hdrive]
    refine completes_of rfl ((if_pos hguard : senseRetry c mv raw offset s = _).trans ?_)
    rw [← hcal]
    rfl
  case force =>
    intro r c v s h hv
    exact completes_of rfl (requestWrite_force h hv (isW1c_chForce c) (commandWord_chForce ..) (forceWord_chForce ..))

/-! ## Lock strokes -/

section
variable {h : Hb} {s : State}

theorem updLock_ch (f : LockS → LockS) (c : Ch) : (updLock h f s).ch c = s.ch c := rfl

theorem lockEndstop_noStall (hs : (s.locks[h]).stall = none) : lockEndstop h s = s := by simp only [lockEndstop, hs]

theorem lockEndstop_stalled {t : Nat} (hst : (s.locks[h]).st = .drive) (hs : (s.locks[h]).stall = some t) :
    lockEndstop h s = beginBrake h (s.reach (t + msP 20)) := by
  simp only [lockEndstop, hs, hst]
  rfl

theorem lockEndstop_idle (hst : (s.locks[h]).st = .idle) : lockEndstop h s = s := by
  unfold lockEndstop
  split
  · exact if_neg (by simp [-Fin.getElem_fin, hst])
  · rfl

theorem wakeStroke_none (hw : (s.locks[h]).waiting = none) : wakeStroke h s = s := by simp only [wakeStroke, hw]

theorem wakeStroke_some {d : Nat} (hw : (s.locks[h]).waiting = some d) :
    wakeStroke h s = requestStroke h d (updLock h (fun l => { l with waiting := none, cooling := false }) s) := by
  simp only [wakeStroke, hw]

theorem coolingEnd_cooled (hc : (s.locks[h]).cooling = true) (hlen : (recentStrokes h s).length < 6) :
    coolingEnd h s = wakeStroke h s := by
  have hnone : (recentStrokes h s)[5]? = none := List.getElem?_eq_none (Nat.le_of_lt_succ hlen)
  simp only [coolingEnd, hc, hnone, if_true]

theorem revBrakeEnd_drives {d : Nat} (ht : (s.locks[h]).turnTo = some d) (hb : blocked (s.ch (hbCh h)) = false)
    (hon : (s.ch (hbCh h)).isOn = true) :
    revBrakeEnd h s = driveBridge (hbCh h) h d (s.reach ((s.locks[h]).brakeAt + revBrakeP h s)) := by
  simp only [State.ch] at hb hon
  simp only [revBrakeEnd, ht, State.reach, hb, hon]
  rfl

end

/-! ## The direction of a stroke, kept when its bridge goes off -/

section
variable (s : State)

theorem cancelHandle_locks (h : Nat × Nat) : (cancelHandle h s).locks = s.locks := by
  have hlog : ∀ kind status late e (u : State), (logEvent kind status late e u).locks = u.locks := fun kind status late e u => by
    rw [logEvent_eq]
  simp only [cancelHandle]
  split
  · rfl
  · split
    · exact (hlog ..).trans (by rw [settle_eq]; rfl)
    · exact hlog ..

theorem endSeries_locks (l : Nat) : (endSeries l s).locks = s.locks := by
  simp only [endSeries]
  split
  · rfl
  · exact cancelHandle_locks _ _

/-- The direction of a bridge's stroke. -/
def lockDir (h : Hb) (s : State) : Nat := (s.locks[h]).dir

theorem lockDir_of_locks {h : Hb} {s t : State} (he : t.locks = s.locks) : lockDir h t = lockDir h s := by simp only [lockDir, he]

/-- A post may report TT_FULL, whose reactions may cut a lock; its direction stays. -/
theorem lockDir_postGroup (g : List EventSpec) (h : Hb) : lockDir h (postGroup g s) = lockDir h s := by
  have hrefuse : ∀ status (u : State), lockDir h (refuseGroup status g u) = lockDir h u := fun status u => by
    obtain ⟨-, -, -, hframe⟩ := refuseGroup_tt status g u
    exact lockDir_of_locks (by rw [hframe])
  by_cases hst : groupStatus g s = 0
  · cases hu : placeGroup g { s with tt := { s.tt with status := 0, handles := [] } } with
    | ok u =>
      obtain ⟨-, -, -, -, hframe⟩ := placeGroup_ok _ _ _ hu
      rw [postGroup_placed hst hu]
      exact lockDir_of_locks (by rw [hframe])
    | error pool =>
      obtain ⟨-, -, hdir⟩ := faultFrame_report 0x100 pool
        (refuseGroup 0x10 g ((s.bump Ix.TT_FULL_COUNT 0 16).putFld Ix.TT_FULL_COUNT 16 4 pool))
      rw [postGroup_full hst hu]
      exact (hdir h).trans (hrefuse ..)
  · rw [postGroup_refused hst]
    exact hrefuse ..

theorem lockDir_servicePostAs (p : Poster) (g : List EventSpec) (h : Hb) : lockDir h (servicePostAs p g s) = lockDir h s := by
  have hkeep : ∀ u : State, (keepHandles p u).locks = u.locks := fun u => by cases p <;> rfl
  simp only [servicePostAs]
  split
  · exact lockDir_postGroup s g h
  · split
    · exact (lockDir_of_locks (hkeep _)).trans (lockDir_postGroup s g h)
    · exact lockDir_postGroup s g h

theorem lockDir_ensureSense (c : Ch) (h : Hb) : lockDir h (ensureSense c s) = lockDir h s := by
  unfold ensureSense
  split
  · rfl
  · exact (lockDir_servicePostAs ..).trans (lockDir_of_locks (endSeries_locks ..))

theorem lockDir_turnOffCh (c : Ch) (h : Hb) : lockDir h (turnOffCh c s) = lockDir h s := by
  obtain ⟨-, -, hdir⟩ := faultFrame_endFault 0x3C0 c.val (updCh c (fun x => { chOff s.now x with reverse := false }) s)
  exact (lockDir_ensureSense ..).trans (hdir h)

theorem updLock_congr {h : Hb} {f g : LockS → LockS} (hfg : f s.locks[h] = g s.locks[h]) : updLock h f s = updLock h g s := by
  simp only [updLock, hfg]

end

theorem lockBrakeEnd_braking {h : Hb} {s : State} (hst : (s.locks[h]).st = .brake) :
    lockBrakeEnd h s = wakeStroke h (updLock h (fun l => { l with st := .idle, last := (s.locks[h]).dir })
      (turnOffCh (hbCh h) (s.reach ((s.locks[h]).brakeAt + strokeBrakeP h s)))) := by
  have hdir := lockDir_turnOffCh (s.reach ((s.locks[h]).brakeAt + strokeBrakeP h s)) (hbCh h) h
  refine (if_pos (beq_iff_eq.2 hst)).trans (congrArg (wakeStroke h) (updLock_congr _ ?_))
  exact congrArg (fun d => { (turnOffCh (hbCh h) (s.reach ((s.locks[h]).brakeAt + strokeBrakeP h s))).locks[h] with
    st := .idle, last := d }) hdir

/-- Settles O23: each phase of a stroke where it is under way and where it is not. -/
theorem lockStrokes : Obligations.LockStrokes := by
  unfold Obligations.LockStrokes
  refine ⟨?endstop, fun h s hs => completes_of rfl (lockEndstop_noStall hs), ?strokeMax, ?brakeEnd, fun h s hw => wakeStroke_none hw,
    ?idle, ?cooling, ?reverse⟩
  case endstop =>
    intro h t s hst hs
    refine gives_of_eq rfl (lockEndstop_stalled hst hs) ⟨?_, ?_, ?_, rfl, fun c hc => ?_⟩
    · simp only [after_locks, beginBrake, updLock_same]
    · rw [after_ch, beginBrake, updLock_ch, updCh_same]
    · simp only [after_locks, beginBrake, updLock_same]
      rfl
    · rw [after_ch, beginBrake, updLock_ch, updCh_other _ _ hc]
      rfl
  case strokeMax =>
    intro h s hst
    exact completes_of rfl (if_pos (beq_iff_eq.2 hst))
  case brakeEnd =>
    intro h s hst
    exact completes_of rfl (lockBrakeEnd_braking hst)
  case idle =>
    intro h s hst
    have hne : ∀ x : StrokeSt, x ≠ .idle → ((s.locks[h]).st == x) ≠ true := fun x hx hc => hx (by rw [← hst, beq_iff_eq.1 hc])
    exact ⟨completes_of rfl (lockEndstop_idle hst), completes_of rfl (if_neg (hne _ (by decide))),
      completes_of rfl (if_neg (hne _ (by decide)))⟩
  case cooling =>
    intro h d s hc hw hlen
    exact completes_of rfl ((coolingEnd_cooled hc hlen).trans (wakeStroke_some hw))
  case reverse =>
    intro h d s ht hb hon
    refine gives_of_eq rfl (revBrakeEnd_drives ht hb hon) ⟨?_, ?_, ?_, rfl⟩
    · simp only [after_locks, driveBridge, updLock_same]
    · rw [after_ch, driveBridge, updLock_ch, updCh_same]
    · simp [driveBridge, State.reach]

end Sys2Proof.Machine
end

section
/-!
PROOF. Lighting (09_lighting.md): fades (R206), dimming pulses (R199, R200), derating (R213) and cornering (R212).
-/
namespace Sys2Proof.Machine

/-- An effect that moves the clock forward and leaves the queue is left as it is, with the dwells brought up to date. -/
theorem after_of_le {s t : State} (hp : t.pending = s.pending) (hn : s.now ≤ t.now) : after s t = { t with dwell := (after s t).dwell } := by
  have hmax : Nat.max s.now t.now = t.now := Nat.max_eq_right hn
  simp only [after, track, hmax, ← hp]

/-! ## Fades -/

section
variable {t : Str} {s : State}

theorem litState_keeps (now : Nat) (x : StringS) :
    (litState now x).level = x.level ∧ (litState now x).carry = x.carry ∧ (litState now x).gap = x.gap ∧
      (litState now x).fadeLen = x.fadeLen := by
  unfold litState
  split
  · exact ⟨rfl, rfl, rfl, rfl⟩
  · split <;> exact ⟨rfl, rfl, rfl, rfl⟩

/-- A running fade's tick: the clock moves to the next 100 µs of the fade, and the string takes the level of that moment. -/
theorem fadeTick_running (h : (s.led.strs[t]).fadeLen ≠ 0) :
    let u := s.reach ((s.led.strs[t]).fadeAt + ((s.now - (s.led.strs[t]).fadeAt) / usP 100 + 1) * usP 100)
    let dt := u.now - (s.led.strs[t]).fadeAt
    ∃ f : StringS → StringS, fadeTick t s = updStr t f u ∧ ∀ y, (f y).level = fadeLevel y dt ∧
      ((f y).level ≠ y.level → (f y).carry = 0 ∧ (f y).gap = 0) ∧ (y.fadeLen ≤ dt → (f y).fadeLen = 0) := by
  intro u dt
  refine ⟨_, if_neg h, fun y => ?_⟩
  obtain ⟨hlevel, hcarry, hgap, hlen⟩ := litState_keeps u.now { y with
    level := fadeLevel y dt, fadeLen := if y.fadeLen ≤ dt then 0 else y.fadeLen, ramp := y.ramp && decide (dt < y.fadeLen)
    carry := if fadeLevel y dt = y.level then y.carry else 0, gap := if fadeLevel y dt = y.level then y.gap else 0 }
  refine ⟨hlevel, fun hne => ?_, fun hle => hlen.trans (if_pos hle)⟩
  have hne : fadeLevel y dt ≠ y.level := fun he => hne (hlevel.trans he)
  exact ⟨hcarry.trans (if_neg hne), hgap.trans (if_neg hne)⟩

end

/-! ## Dimming pulses -/

section
variable {t : Str} {s : State}

theorem formPulse_dark (h : strBlocked s.led.strs[t] = true ∨ (effLevel t s).1 = 0 ∨ above40 s = true) :
    formPulse t s = updStr t (fun y => { y with pulse := 0, carry := 0, gap := 0 }) s := if_pos h

theorem formPulse_full (hb : strBlocked s.led.strs[t] = false) (hl : (effLevel t s).1 ≠ 0) (ho : above40 s = false)
    (h : strCross t s * (effLevel t s).2 ≤ 100 * (effLevel t s).1) :
    formPulse t s = updStr t (fun y => { y with pulse := pulsePeriodP t s, carry := 0, gap := 0 }) s := by
  simp [-Fin.getElem_fin, formPulse, hb, hl, ho, h]

/-- The width of a pulse below the full level: the level's share of the period, to the nearest base period (R200). -/
def pulseWidth (t : Str) (s : State) : Nat :=
  (divNear ((pulsePeriodP t s * (effLevel t s).1 * 100 : Nat) : Int) (((effLevel t s).2 * strCross t s : Nat) : Int)).toNat

theorem formPulse_share (hb : strBlocked s.led.strs[t] = false) (hl : (effLevel t s).1 ≠ 0) (ho : above40 s = false)
    (h : 100 * (effLevel t s).1 < strCross t s * (effLevel t s).2) :
    formPulse t s =
      if pulseWidth t s < usP 4 then
        if (s.led.strs[t]).carry + pulseWidth t s < usP 4 then
          updStr t (fun y => { y with pulse := 0, carry := (s.led.strs[t]).carry + pulseWidth t s }) s
        else updStr t (fun y => { y with pulse := usP 4, carry := (s.led.strs[t]).carry + pulseWidth t s - usP 4 }) s
      else if pulsePeriodP t s - pulseWidth t s < usP 4 then
        if (s.led.strs[t]).gap + (pulsePeriodP t s - pulseWidth t s) < usP 4 then
          updStr t (fun y => { y with pulse := pulsePeriodP t s, gap := (s.led.strs[t]).gap + (pulsePeriodP t s - pulseWidth t s) }) s
        else updStr t (fun y => { y with pulse := pulsePeriodP t s - usP 4,
                                         gap := (s.led.strs[t]).gap + (pulsePeriodP t s - pulseWidth t s) - usP 4 }) s
      else updStr t (fun y => { y with pulse := pulseWidth t s }) s := by
  have hlit : ¬(strBlocked s.led.strs[t] = true ∨ (effLevel t s).1 = 0 ∨ above40 s = true) := by simp [-Fin.getElem_fin, hb, hl, ho]
  exact (if_neg hlit).trans (if_neg (Nat.not_le.2 h))

theorem pulsePeriod_next {u pos : Nat} (h : nextPulse t s = some (u, pos)) :
    pulsePeriod t s =
      strSample t (formPulse t (updStr t (fun y => { y with periodAt := some (s.reach u).now, pulsePos := pos }) (s.reach u))) := by
  simp only [pulsePeriod, h]

theorem pulsePeriod_none (h : nextPulse t s = none) : pulsePeriod t s = s := by simp only [pulsePeriod, h]

end

/-! ## Derating and cornering -/

section
variable {t : Str} {s : State}

/-- D moves towards its goal by at most 5 hundredths of a percent, and stands in the word of the converter's temperature. -/
theorem derateUpdate_eq (t : Str) (temp : Int) (s : State) :
    ∃ d u : Nat, d ≤ (s.led.strs[t]).d + 5 ∧ (s.led.strs[t]).d ≤ d + 5 ∧
      derateUpdate t temp s = updStr t (fun x => { x with d := d, derateAt := u })
        ((s.reach ((s.led.strs[t]).derateAt + msP 10)).putNat (Ix.LED_STR_TEMP t.val) (unsigned temp 16 + d / 10 * 2 ^ 16)) := by
  have hstep : ∀ d goal : Nat, (if d < goal then Nat.min goal (d + 5) else Nat.max goal (d - 5)) ≤ d + 5 ∧
      d ≤ (if d < goal then Nat.min goal (d + 5) else Nat.max goal (d - 5)) + 5 := fun d goal => by
    simp only [Nat.min_def, Nat.max_def]
    split
    · split <;> omega
    · split <;> omega
  exact ⟨_, _, (hstep _ _).1, (hstep _ _).2, rfl⟩

theorem cornerUpdate_same {u : Nat} (ha : (cornerEval (s.reach u)).active = s.led.corner.active)
    (hl : (cornerEval (s.reach u)).left = s.led.corner.left) (hr : (cornerEval (s.reach u)).right = s.led.corner.right) :
    cornerUpdate u s = { s.reach u with led := { (s.reach u).led with corner := cornerEval (s.reach u) } } := by
  refine if_pos ?_
  simp only [State.reach_led, ha, hl, hr, decide_true, Bool.and_self]

theorem cornerUpdate_changed {u : Nat} (h : (cornerEval (s.reach u)).active ≠ s.led.corner.active ∨
      (cornerEval (s.reach u)).left ≠ s.led.corner.left ∨ (cornerEval (s.reach u)).right ≠ s.led.corner.right)
    (hstep : s.led.corner.lastStep = 0 ∨ s.led.corner.lastStep + msP 100 ≤ (s.reach u).now)
    (ht : t.val = (s.reach u).fld Ix.LED_CORNER_CFG 0 2) :
    cornerUpdate u s = recomposeWith stepStr [t]
      { s.reach u with led := { (s.reach u).led with corner := { cornerEval (s.reach u) with lastStep := (s.reach u).now } } } := by
  have hchange : ¬((decide ((cornerEval (s.reach u)).active = s.led.corner.active) &&
      decide ((cornerEval (s.reach u)).left = s.led.corner.left) &&
      decide ((cornerEval (s.reach u)).right = s.led.corner.right)) = true) := by
    simp only [Bool.and_eq_true, decide_eq_true_eq]
    rintro ⟨⟨ha, hl⟩, hr⟩
    exact h.elim (· ha) (·.elim (· hl) (· hr))
  have hdue : ¬(s.led.corner.lastStep ≠ 0 ∧ (s.reach u).now < s.led.corner.lastStep + msP 100) := by
    rintro ⟨h0, hlt⟩
    exact hstep.elim h0 (Nat.not_le.2 hlt)
  exact (if_neg hchange).trans ((if_neg hdue).trans (congrArg (fun k => recomposeWith stepStr [k] _) (Fin.ext ht.symm)))

end

/-- Settles O24: a fade, a period, a derating or a cornering step, each by the case of its string. -/
theorem stringLevels : Obligations.StringLevels := by
  unfold Obligations.StringLevels
  refine ⟨fun t s h => completes_of rfl (if_pos h), ?fade, fun t u pos s h => completes_of rfl (pulsePeriod_next h),
    fun t s h => completes_of rfl (pulsePeriod_none h), fun t s h => formPulse_dark h,
    fun t s hb hl ho h => formPulse_full hb hl ho h, ?share, ?derate, fun u s ha hl hr => completes_of rfl (cornerUpdate_same ha hl hr),
    fun u t s h hstep ht => completes_of rfl (cornerUpdate_changed h hstep ht)⟩
  case fade =>
    intro t s h u dt
    obtain ⟨f, hf, hkeep⟩ := fadeTick_running h
    obtain ⟨hlevel, hcarry, hlen⟩ := hkeep s.led.strs[t]
    have hsame : ((updStr t f u).led.strs[t]) = f s.led.strs[t] := updStr_same u t f
    refine gives_of_eq rfl hf ⟨?_, ?_, ?_, ?_, fun k hk => updStr_other _ f hk⟩
    · rw [after_led, hsame, hlevel]
    · simp only [after_led]
      rw [hsame]
      exact hcarry
    · intro hle
      rw [after_led, hsame, hlen hle]
    · exact after_of_le rfl (Nat.le_max_left _ _)
  case share =>
    intro t s hb hl ho h width
    have hform := formPulse_share hb hl ho h
    have hwidth : width = pulseWidth t s := rfl
    clear_value width
    subst hwidth
    refine ⟨fun hw hgap => ?_, fun hw hc => ?_, fun hw hc => ?_⟩
    · rw [hform, if_neg (Nat.not_lt.2 hw), if_neg (Nat.not_lt.2 hgap)]
    · rw [hform, if_pos hw, if_pos hc]
    · rw [hform, if_pos hw, if_neg (Nat.not_lt.2 hc)]
  case derate =>
    intro t temp s
    obtain ⟨d, u, hle, hge, heq⟩ := derateUpdate_eq t temp s
    refine gives_of_eq rfl heq ⟨?_, ?_, ?_, rfl, fun k hk => ?_⟩
    · simp only [after_led, updStr_same]
      exact hle
    · simp only [after_led, updStr_same]
      exact hge
    · simp only [after_led, updStr_same]
      exact word_put_same _ _ _
    · rw [after_led, updStr_other _ _ hk]
      rfl

end Sys2Proof.Machine
end

section
/-!
PROOF. The motor drive (10_motor_drive.md): running, stopping and homing (R229, R235 to R239), detections, restart and calibration (R241
to R244), and the coprocessor's reload (R24).
-/
namespace Sys2Proof.Machine

section
variable (s t : State)

@[simp] theorem updBr_br_same (b : Mot) (f : Bridge → Bridge) : (updBr b f s).br b = f (s.br b) := updBr_same s b f
theorem updBr_br_other {b k : Mot} (f : Bridge → Bridge) (h : k ≠ b) : (updBr b f s).br k = s.br k := updBr_other s f h
@[simp] theorem reach_br (u : Nat) (b : Mot) : (s.reach u).br b = s.br b := rfl
@[simp] theorem after_br (b : Mot) : (after s t).br b = t.br b := rfl

end

/-! ## Running, decelerating, stopping -/

section
variable {b : Mot} {u : Nat} {speed : Int} {s : State}

theorem speedTick_idle (hrun : (s.br b).st ≠ .run) (hforced : (s.br b).st ≠ .forced) :
    speedTick b u speed s = updBr b (fun x => { x with speed := speed }) (s.reach u) := by
  simp only [speedTick, updBr_br_same, reach_br]

theorem speedTick_run {v : Int} (hrun : (s.br b).st = .run)
    (htarget : motTarget b (updBr b (fun x => { x with speed := speed }) (s.reach u)) = .speed v)
    (hfactor : motFactor b (updBr b (fun x => { x with speed := speed }) (s.reach u)) ≠ 0) :
    speedTick b u speed s = speedLoop b (updBr b (fun x => { x with speed := speed }) (s.reach u)) := by
  simp only [speedTick, updBr_br_same, reach_br, hrun, htarget, hfactor, false_and, if_false]

theorem speedTick_forced {w : State} (hw : updBr b (fun x => { x with speed := speed }) (s.reach u) = w) (hforced : (s.br b).st = .forced)
    (hdec : motDecelerates (s.br b) = false) :
    speedTick b u speed s = updBr b (fun x => { x with
      ref := approach x.ref (if x.back then -(motHandoff b w : Int) else motHandoff b w) (motForcedRate b w) (motForcedRate b w) }) w := by
  have hbr : w.br b = { s.br b with speed := speed } := by rw [← hw, updBr_br_same, reach_br]
  have hst : (w.br b).st = .forced := by rw [hbr]; exact hforced
  have hkeep : motDecelerates (w.br b) = false := by rw [hbr]; exact hdec
  simp only [speedTick, hw, hst, hkeep, Bool.false_and, Bool.false_eq_true, if_false]
  rfl

theorem forcedEntry_uncaught (hrun : (s.br b).st = .run) (hdec : motDecelerates (s.br b) = true) (hslow : turningAt b speed s = false)
    (hc : (s.br b).caught = false) :
    forcedEntry b speed s = updBr b (fun x => { x with back := decide (speed < 0) })
      (enterBr b .forced (updBr b (fun x => { x with speed := speed, ref := speed * 1000 }) s)) := by
  simp [forcedEntry, hrun, hdec, hslow, hc]

theorem forcedEntry_caught {d : Bool} (hrun : (s.br b).st = .run) (hdec : motDecelerates (s.br b) = true)
    (hslow : turningAt b speed s = false) (hc : (s.br b).caught = true) (hrev : (s.br b).reversal = some d) :
    forcedEntry b speed s = beginHold b d (updBr b (fun x => { x with speed := speed, ref := speed * 1000 }) s) := by
  simp [forcedEntry, hrun, hdec, hslow, hc, hrev]

theorem watchBand_rise {least most : Nat} (ha : watchActive (s.br b) = true) (hj : s.band ≠ .jump) (hw : (s.br b).watch = .slow)
    (hl : 1650 < least) :
    watchBand b least most s =
      (updBr b (fun x => { x with watch := .shortBrake }) (enterBr b .brake s)).bump (Ix.MOT_COUNTS b.val) 16 8 := by
  simp [watchBand, ha, hj, hw, hl]

theorem watchBand_jump {least most : Nat} (ha : watchActive (s.br b) = true) (hj : s.band = .jump) (hw : (s.br b).watch ≠ .shortBrake) :
    watchBand b least most s = updBr b (fun x => { x with watch := .slow }) s := by
  simp [watchBand, ha, hj, hw]

/-- What the stall of homing leaves of its bridge. -/
theorem homeStall_stalled {least : Nat} (hh : (s.br b).homing = true) (hst : (s.br b).st = .run ∨ (s.br b).st = .forced)
    (hl : s.fld (Ix.MOT_POS_HOME b.val) 16 8 * 10 < least) :
    ∃ f : Bridge → Bridge, homeStall b least s = updBr b f (enterBr b .brake s) ∧ ∀ x, (f x).homed = true ∧ (f x).homing = false ∧
      (f x).count = 0 ∧ (f x).st = x.st ∧ (f x).moves = 0 :=
  ⟨_, if_pos ⟨hh, hst, hl⟩, fun _ => ⟨rfl, rfl, rfl, rfl, rfl⟩⟩

end

/-- Settles O28: each row by the state of its bridge. -/
theorem bridgeRunsAndStops : Obligations.BridgeRunsAndStops := by
  unfold Obligations.BridgeRunsAndStops
  refine ⟨fun b u speed s hr hf => completes_of rfl (speedTick_idle hr hf),
    fun b u speed v s hr ht hf => completes_of rfl (speedTick_run hr ht hf),
    fun b u speed s hf hd => completes_of rfl (speedTick_forced rfl hf hd), ?rms,
    fun b speed s hr hd hs => ⟨fun hc => completes_of rfl (forcedEntry_uncaught hr hd hs hc),
      fun d hc hrev => completes_of rfl (forcedEntry_caught hr hd hs hc hrev)⟩,
    fun b s hf hd => completes_of rfl (if_pos ⟨hf, hd⟩), fun b s h1 h2 h3 h4 h5 => completes_of rfl (if_pos ⟨h1, h2, h3, h4, h5⟩),
    fun b s h => completes_of rfl (if_neg fun hc => h hc.2.2.2.2), ?inactive,
    fun b least most s ha hj hw hl => completes_of rfl (watchBand_rise ha hj hw hl),
    fun b least most s ha hj hw => completes_of rfl (watchBand_jump ha hj hw), ?stall, ?noStall,
    fun b s hh hway => completes_of rfl (if_pos ⟨hh, hway⟩),
    fun b s hh => completes_of rfl (if_neg fun hc => Bool.false_ne_true (hh.symm.trans hc.1))⟩
  case rms =>
    intro b rms s
    refine gives_of_eq (t := rmsUpdate b rms s) rfl rfl ⟨?_, ?_, ?_, ?_, fun k hk => ?_, ?_⟩
    · simp only [after_br, rmsUpdate, updBr_br_same]
    · intro h
      simp only [after_br, rmsUpdate, updBr_br_same, h, if_true]
    · intro h h95
      simp only [after_br, rmsUpdate, updBr_br_same, Nat.not_lt.2 h, h95, if_false, if_true]
    · intro h h95
      simp only [after_br, rmsUpdate, updBr_br_same, Nat.not_lt.2 h, Nat.not_lt.2 h95, if_false]
    · rw [after_br, rmsUpdate, updBr_br_other _ _ hk]
    · exact after_of_now rfl rfl
  case inactive =>
    intro b least most s h
    exact completes_of rfl (if_pos (by rw [h]; rfl))
  case stall =>
    intro b least s hh hst hl
    obtain ⟨f, hf, hkeep⟩ := homeStall_stalled hh hst hl
    obtain ⟨h1, h2, h3, h4, h5⟩ := hkeep ((enterBr b .brake s).br b)
    refine gives_of_eq rfl hf ⟨?_, ?_, ?_, ?_, ?_, fun k hk => ?_, ?_⟩
    · rw [after_br, updBr_br_same, h1]
    · rw [after_br, updBr_br_same, h2]
    · rw [after_br, updBr_br_same, h3]
    · rw [after_br, updBr_br_same, h4, enterBr, updBr_br_same]
    · rw [after_br, updBr_br_same, h5]
    · rw [after_br, updBr_br_other _ _ hk, enterBr, updBr_br_other _ _ hk]
    · exact after_of_now rfl rfl
  case noStall =>
    intro b least s h
    refine completes_of rfl (if_neg ?_)
    rintro ⟨hh, -, hl⟩
    exact h.elim (fun h0 => Bool.false_ne_true (h0.symm.trans hh)) (Nat.not_le.2 hl)

/-! ## Detections, restart, latch -/

section
variable {b : Mot} {s : State}

theorem tripBridge_idle {cause id : Nat} (h : (s.br b).st.drives = false) : tripBridge b cause id s = s := if_neg (Bool.eq_false_iff.1 h)

theorem tripBridge_driving {cause id : Nat} (h : (s.br b).st.drives = true) :
    tripBridge b cause id s =
      let u := updBr b (fun y => { y with lastTrip := cause, tripAt := s.now, restarts := recentBrRestarts (s.br b) s, toStop := false,
                                          reversal := none, caught := false, stillBrake := false, holdBrake := false, endBrake := false,
                                          watch := .clear, iqRef := 0, ref := 0, integ := 0 }) (enterBr b .tripped s)
      let v := report id b.val (if cause = 1 then countShort (stageOfMot b) (u.bump (Ix.MOT_COUNTS b.val) 0 8)
        else u.bump (Ix.MOT_COUNTS b.val) 0 8)
      if 8 ≤ (recentBrRestarts (s.br b) s).length then condFault (0x50C + b.val) b.val true (latchBridge b v) else v := if_pos h

theorem peakTrip_some {t : Nat} (h : (s.br b).peakSince = some t) : peakTrip b s = tripBridge b 2 (0x502 + b.val) (s.reach (t + msP 100)) := by
  simp only [peakTrip, h]

theorem peakTrip_none (h : (s.br b).peakSince = none) : peakTrip b s = s := by simp only [peakTrip, h]

theorem observerLoss_run {err : Nat} (hst : (s.br b).st = .run) (he : 4096 < err) :
    observerLoss b err s =
      let ls := s.now :: (s.br b).losses.filter fun t => decide (s.now ≤ t + secP 10)
      let u := (updBr b (fun y => { y with losses := ls }) s).bump (Ix.MOT_COUNTS b.val) 8 8
      if 3 ≤ ls.length then tripBridge b 4 (0x506 + b.val) (updBr b (fun y => { y with losses := [] }) u)
      else report (0x506 + b.val) b.val (updBr b (fun y => { y with iqRef := 0, integ := 0 }) (enterBr b .catch_ u)) :=
  if_pos ⟨hst, he⟩

theorem restartBr_tripped {at_ : Nat} {most : Int} {u : State} (hst : (s.br b).st = .tripped) (hm : most ≤ 155)
    (hu : enterBr b .off (s.reach (Nat.max at_ ((s.br b).tripAt + msP (10 * s.fld (Ix.MOT_CFG b.val) 24 8)))) = u) :
    restartBr b at_ most s = match motWant b u with
      | .turn _ => startFromCatch b (updBr b (fun y => { y with restarts := u.now :: y.restarts }) u)
      | _ => u := by
  subst hu
  exact if_pos ⟨hst, hm⟩

end

/-! ## Calibration and the coprocessor -/

section
variable (s : State)

/-- The operand of a bridge's operation: bit 0 is the bridge, the bits above the operation (R244). -/
theorem cleanValue_motCal : ∀ b : Mot, cleanValue Ix.MOT_CAL_CMD (toWord (b.val + 2)) = toWord (b.val + 2) ∧
    cleanValue Ix.MOT_CAL_CMD (toWord (b.val + 4)) = toWord (b.val + 4) := by decide +kernel

theorem motCal_offset (m : Measured) (b : Mot) : motCal m (toWord (b.val + 2)) s = calOffset b m.emfMv m.raw m.offset s := by
  match b with
  | 0 => rfl
  | 1 => rfl

theorem motCal_identify (m : Measured) (b : Mot) : motCal m (toWord (b.val + 4)) s = calIdentify b m.emfMv m.res m.ind s := by
  match b with
  | 0 => rfl
  | 1 => rfl

theorem commandWord_motCal (r : Requester) (m : Measured) (v : Word) : commandWord r m Ix.MOT_CAL_CMD v s = some (0, motCal m v s) := rfl

theorem startFromCatch_procs (b : Mot) : (startFromCatch b s).procs = s.procs := by
  unfold startFromCatch
  split
  · split <;> rfl
  · rfl

theorem coproResume_procs : (coproResume s).procs.motor = .running := by
  have hstart : ∀ (bs : List Mot) (t : State),
      (bs.foldl (fun t b => if (t.br b).st = .off ∨ (t.br b).st = .tripped then startFromCatch b t else t) t).procs = t.procs := by
    intro bs
    induction bs with
    | nil => exact fun _ => rfl
    | cons b bs ih =>
      intro t
      rw [List.foldl_cons, ih]
      split
      · exact startFromCatch_procs t b
      · rfl
  rw [coproResume, hstart]

end

/-- Settles O29: each detection at its limit and below it, and each recovery by the state of its bridge. -/
theorem bridgeDetections : Obligations.BridgeDetections := by
  unfold Obligations.BridgeDetections
  refine ⟨fun b ma us s h h2 => completes_of rfl (if_pos ⟨h, h2⟩),
    fun b ma us s h => completes_of rfl (if_neg fun hc => h.elim (Nat.not_le.2 hc.1) (Nat.not_lt.2 hc.2)),
    fun b t s h => completes_of rfl (peakTrip_some h), fun b s h => completes_of rfl (peakTrip_none h),
    fun b temp s h => completes_of rfl (if_pos h), fun b temp s h => completes_of rfl (if_neg (Int.not_le.2 h)),
    fun b cause id s h => tripBridge_idle h, ?trips, ?observer,
    fun b err s h => completes_of rfl (if_neg fun hc => h.elim (· hc.1) (Nat.not_le.2 hc.2)),
    fun b least others s h1 h2 h3 => completes_of rfl (if_pos ⟨h1, h2, h3⟩), ?restart,
    fun b u most s h => completes_of rfl (if_neg fun hc => h.elim (· hc.1) (Int.not_lt.2 hc.2)),
    fun b s h => completes_of rfl (if_pos h), fun b s h => completes_of rfl (if_neg h),
    fun b emfMv raw offset s h => completes_of rfl (if_pos h), fun b emfMv raw offset s h => if_pos h, ?commands,
    fun b emfMv res ind s h1 h2 => if_pos ⟨h1, h2⟩, ?force, fun s h => completes_of rfl (if_pos h), fun s => coproResume_procs _,
    fun s h => completes_of rfl (if_neg h)⟩
  case trips =>
    intro b cause id s h
    refine ⟨_, ?_, ?_, ?_, ?_, fun k hk => ?_, rfl, tripBridge_driving h⟩
    · rw [updBr_br_same, enterBr, updBr_br_same]
    · rw [updBr_br_same]
    · rw [updBr_br_same]
    · rw [updBr_br_same]
    · rw [updBr_br_other _ _ hk, enterBr, updBr_br_other _ _ hk]
  case observer =>
    intro b err s hst he ls u
    have hloss := observerLoss_run hst he
    exact ⟨fun h => completes_of rfl (hloss.trans (if_neg (Nat.not_le.2 h))), fun h => completes_of rfl (hloss.trans (if_pos h))⟩
  case restart =>
    intro b t most s hst hm u
    have hrestart := restartBr_tripped (at_ := t) (u := u) hst hm rfl
    refine ⟨fun h => completes_of rfl (hrestart.trans ?_), fun back h => completes_of rfl (hrestart.trans ?_)⟩
    · split
      · exact absurd ‹_› (h _)
      · rfl
    · rw [h]
  case commands =>
    intro r b emfMv res ind raw offset s h hv
    obtain ⟨hoffset, hidentify⟩ := cleanValue_motCal b
    refine ⟨completes_of rfl ((requestWrite_command h (hv (b.val + 2) ?_ ?_) (by decide +kernel) (commandWord_motCal ..)).trans ?_),
      completes_of rfl ((requestWrite_command h (hv (b.val + 4) ?_ ?_) (by decide +kernel) (commandWord_motCal ..)).trans ?_)⟩
    iterate 2 omega
    · rw [hoffset, motCal_offset]
    iterate 2 omega
    · rw [hidentify, motCal_identify]
  case force =>
    intro r b v s h hv
    exact completes_of rfl (requestWrite_force h hv (isW1c_motForce b) (commandWord_motForce ..) (forceWord_motForce ..))

end Sys2Proof.Machine
end

section
/-!
PROOF. Switch inputs and sensor supplies (R250 to R254, R260), frequency inputs and the stator tap (R261 to R265) of
11_inputs_and_motion.md.
-/
namespace Sys2Proof.Machine

/-! ## Switches -/

section
variable {n : SwitchNo} {mv : Nat} {s : State}

theorem parkSourceFires_eq (k : Nat) (s : State) : parkSourceFires k s = { s with modes := (parkSourceFires k s).modes } := by
  unfold parkSourceFires
  split <;> rfl

/-- A confirmation takes the raw state; beside its input it changes signals and may cancel PARK entry. -/
theorem confirmSwitch_eq (n : SwitchNo) (s : State) :
    ∃ (f : Switch → Switch) (bn : Network) (modes : Modes), confirmSwitch n s = { updSw n f s with bn := bn, modes := modes } ∧
      ∀ x, (f x).closed = x.raw ∧ (f x).since = none := by
  refine ⟨fun x => { x with closed := x.raw, since := none, differ := 0,
                            closedAt := if x.raw && !x.closed then some s.now else x.closedAt },
    (confirmSwitch n s).bn, (confirmSwitch n s).modes, ?_, fun _ => ⟨rfl, rfl⟩⟩
  simp only [confirmSwitch]
  split
  · rw [parkSourceFires_eq]; rfl
  · rfl

theorem startDebounce_power (t : Nat) (s : State) : (startDebounce n t s).pw = s.pw := by
  unfold startDebounce
  split
  · rfl
  · split
    · obtain ⟨f, bn, modes, h, -⟩ := confirmSwitch_eq n s
      rw [h]; rfl
    · rfl

theorem swRawEdge_change {at_ : Nat} (hu : swUsed n (s.reach at_) = true) (hr : swRaw n mv (s.reach at_) ≠ (s.inp.sw[n]).raw) :
    swRawEdge n at_ mv s =
      startDebounce n (s.reach at_).now (updSw n (fun x => { x with raw := swRaw n mv (s.reach at_) }) (s.reach at_)) := by
  have hr : (swRaw n mv (s.reach at_) == ((s.reach at_).inp.sw[n]).raw) = false := beq_eq_false_iff_ne.2 hr
  simp only [swRawEdge, hu, hr, Bool.not_true, Bool.or_false, Bool.false_eq_true, if_false]

theorem swRawEdge_same {at_ : Nat} (hr : swRaw n mv (s.reach at_) = (s.inp.sw[n]).raw) : swRawEdge n at_ mv s = s.reach at_ := by
  have hr : (swRaw n mv (s.reach at_) == ((s.reach at_).inp.sw[n]).raw) = true := beq_iff_eq.2 hr
  exact if_pos (by rw [hr, Bool.or_true])

theorem startDebounce_runs {t : Nat} (hb : s.band ≠ .crank) (hd : swDebounceP n s ≠ 0) :
    startDebounce n t s = updSw n (fun x => { x with since := some t }) s := by
  simp only [startDebounce, hb, hd, if_false]

theorem startDebounce_atOnce {t : Nat} (hb : s.band ≠ .crank) (hd : swDebounceP n s = 0) : startDebounce n t s = confirmSwitch n s := by
  simp only [startDebounce, hb, hd, if_false, if_true]

theorem swExpiry_running {t : Nat} (ht : (s.inp.sw[n]).since = some t) (hb : s.band ≠ .crank) :
    swExpiry n s = confirmSwitch n (s.reach (t + swDebounceP n s)) := by
  simp only [swExpiry, ht, hb, if_false]

theorem swExpiry_idle (h : (s.inp.sw[n]).since = none ∨ s.band = .crank) : swExpiry n s = s := by
  unfold swExpiry
  split
  · next hs => exact if_pos (h.resolve_left fun h0 => Option.some_ne_none _ (hs.symm.trans h0))
  · rfl

theorem standbySample_first (hu : swUsed n s = true) (hr : swRaw n mv s ≠ (s.inp.sw[n]).closed) (hd : (s.inp.sw[n]).differ = 0) :
    standbySample (n, mv) s = updSw n (fun x => { x with differ := 1 }) s := by
  simp [-Fin.getElem_fin, standbySample, hu, hr, hd]

theorem standbySample_second (hu : swUsed n s = true) (hr : swRaw n mv s ≠ (s.inp.sw[n]).closed) (hd : 1 ≤ (s.inp.sw[n]).differ) :
    standbySample (n, mv) s = leaveStandby (startDebounce n (s.now - msP (s.fld Ix.IN_SW_CYCLE 16 16))
      (updSw n (fun x => { x with raw := swRaw n mv s, differ := 0 }) s)) := by
  have hk : ¬(s.inp.sw[n]).differ + 1 < 2 := by omega
  simp [-Fin.getElem_fin, standbySample, hu, hr, hk]

theorem wakeFires_first {code : Nat} (hp : s.pw.pw = .retain) (ha : s.pw.armed.contains code = true) (hc : s.pw.cause = none) :
    (wakeFires code s).pw.cause = some code := by
  simp only [wakeFires, hc]
  rw [if_pos ⟨.inl hp, ha, trivial⟩]

theorem parkSample_second (hu : swUsed n s = true) (hm : s.flag Ix.IN_SW_PARK_MASK n.val = true)
    (hr : swRaw n mv s ≠ (nbits s.inp.reference n.val 1 == 1)) (he : parkEdge n (swRaw n mv s) s = true)
    (hd : 1 ≤ (s.inp.sw[n]).differ) (hc : s.pw.cause ≠ some 2) :
    let u := wakeFires 2 (updSw n (fun x => { x with raw := swRaw n mv s, differ := x.differ + 1 }) s)
    parkSample (n, mv) s = if u.pw.cause == some 2 then { u with inp := { u.inp with wake := n.val } } else u := by
  have hcount : 2 ≤ (s.inp.sw[n]).differ + 1 := by omega
  simp only [parkSample, hu, hm, bne_iff_ne.2 hr, he, bne_iff_ne.2 hc, Bool.and_true, Bool.not_true, Bool.false_eq_true, if_false,
    if_true, updSw_same, hcount]

/-- What a judgement of a sensor supply leaves (R260). -/
theorem ssupDetect_on {k : Fin 2} {limited : Bool} (h : ssupOn k s = true) :
    ssupDetect k mv limited s =
      let st : Ssup := if limited then .short else if mv < 4850 ∨ 5150 < mv then .outOfRange else .ok
      condFault 0x601 k.val (st != .ok) (staleRatios (publishSource 2 (8 + k.val) (fixVolts mv) false
        (State.putFld { s with inp := { s.inp with ssup := s.inp.ssup.set k st,
                                                   shortAt := if st == .short then s.inp.shortAt.set k s.now else s.inp.shortAt } }
          Ix.IN_SSUP_VOLT (16 * k.val) 16 mv))) :=
  if_neg (by rw [h]; decide)

end

/-- Settles O30: each row by the state of its input or supply. -/
theorem switchInputs : Obligations.SwitchInputs := by
  unfold Obligations.SwitchInputs
  refine ⟨fun n u mv s hu hr => completes_of rfl (swRawEdge_change hu hr),
    fun n t s hb => ⟨startDebounce_runs hb, startDebounce_atOnce hb⟩, fun n u mv s hr => completes_of rfl (swRawEdge_same hr),
    fun n t s ht hb => completes_of rfl (swExpiry_running ht hb), fun n s h => completes_of rfl (swExpiry_idle h), ?confirm,
    fun u mvs s => ⟨fun h => completes_of rfl (if_pos h), fun h => completes_of rfl (if_pos h), fun h => completes_of rfl (if_neg h),
      fun h => completes_of rfl (if_neg h)⟩, ?standby, ?park, ?inRange, ?outOfRange, fun k mv s h => completes_of rfl (ssupDetect_on h),
    fun k s h => completes_of rfl (if_pos h)⟩
  case confirm =>
    intro n s
    obtain ⟨f, bn, modes, h, hf⟩ := confirmSwitch_eq n s
    have hsame : (updSw n f s).inp.sw[n] = f s.inp.sw[n] := updSw_same s n f
    rw [h]
    exact ⟨(congrArg Switch.closed hsame).trans (hf _).1, (congrArg Switch.since hsame).trans (hf _).2,
      fun k hk => updSw_other s f hk⟩
  case standby =>
    intro n mv s hu hr
    refine ⟨standbySample_first hu hr, fun hd hp => ?_⟩
    rw [standbySample_second hu hr hd]
    exact leaveStandby_power (by rw [startDebounce_power]; exact hp)
  case park =>
    intro n mv s hu hm hr he hd hp ha hc
    have hsample := parkSample_second (mv := mv) hu hm hr he hd (by rw [hc]; exact Option.some_ne_none 2 ∘ Eq.symm)
    have hcause := wakeFires_first (s := updSw n (fun x => { x with raw := swRaw n mv s, differ := x.differ + 1 }) s) hp ha hc
    rw [hsample, if_pos (beq_iff_eq.2 hcause)]
    exact ⟨hcause, rfl⟩
  case inRange =>
    intro k mv s h hlo hhi
    refine completes_of rfl ((ssupDetect_on h).trans ?_)
    simp only [Bool.false_eq_true, if_false, show ¬(mv < 4850 ∨ 5150 < mv) by omega]
    rfl
  case outOfRange =>
    intro k mv s h hout
    refine completes_of rfl ((ssupDetect_on h).trans ?_)
    simp only [Bool.false_eq_true, if_false, hout, if_true]
    rfl

/-! ## Frequency inputs and the stator tap -/

section
variable {f : Fin 4} {u : Nat} {s : State}

theorem fqEdge_unused (h : fqMode f (s.reach u) = 0) : fqEdge f u s = s := if_pos (.inl h)

theorem fqEdge_early {t : Nat} (ht : (s.inp.fq[f]).lastEdge = some t) (he : (s.reach u).now < t + usP 20) : fqEdge f u s = s := by
  refine if_pos (.inr ?_)
  simp only [State.reach_inp, ht, Bool.not_eq_true', decide_eq_false_iff_not, Nat.not_le]
  exact he

theorem fqEdge_first (hm : fqMode f (s.reach u) ≠ 0) (hn : (s.inp.fq[f]).lastEdge = none)
    (hs : isSource f (updFq f (fun x => { x with lastEdge := some (s.reach u).now, interval := none }) (s.reach u)) = false) :
    fqEdge f u s = updFq f (fun x => { x with lastEdge := some (s.reach u).now, interval := none }) (s.reach u) := by
  simp [-Fin.getElem_fin, fqEdge, hm, hn, hs]

theorem fqEdge_later {t : Nat} {w : State} (hm : fqMode f (s.reach u) ≠ 0) (ht : (s.inp.fq[f]).lastEdge = some t)
    (he : t + usP 20 ≤ (s.reach u).now)
    (hw : publishFreq f ((s.reach u).now - t)
      (updFq f (fun x => { x with lastEdge := some (s.reach u).now, interval := some ((s.reach u).now - t) }) (s.reach u)) = w)
    (hs : isSource f w = false) : fqEdge f u s = w := by
  simp only [fqEdge, State.reach_inp, ht, hm, he, hw, hs, decide_true, Bool.not_true, Bool.false_eq_true, or_self, if_false,
    Option.map_some, Bool.not_false, if_true]

theorem speedReeval_input (f : Fin 4) (u : Nat) (s : State) : speedReeval f.castSucc u s = fqReeval f (s.reach u) := by
  simp only [speedReeval, Fin.val_castSucc, f.isLt, dif_pos, Fin.eta]

theorem fqReeval_none (h : (s.inp.fq[f]).lastEdge = none) : fqReeval f s = s := by simp only [fqReeval, h]

theorem decayed_timeout {last : Word} {e k : Nat} (h : fqTimeoutP s ≤ e) : decayed last e k s = 0 := if_pos h

theorem fqReeval_timeout {t : Nat} {w : State} (ht : (s.inp.fq[f]).lastEdge = some t) (he : fqTimeoutP s ≤ s.now - t)
    (hw : (publishSource 3 (4 + f.val) 0 ((s.inp.fq[f]).open_ || (s.inp.fq[f]).range) (updFq f (fun x => { x with freq := 0 }) s)).putNat
      (Ix.IN_FQ_FREQ f.val) 0 = w) (hs : isSource f w = false) : fqReeval f s = w := by
  have hzero : (0 : Word).toNat * 100 / 65536 = 0 := rfl
  simp only [fqReeval, ht, decayed_timeout he, hzero, hw, hs, Bool.false_eq_true, if_false]

theorem speedReeval_tap (u : Nat) (s : State) : speedReeval 4 u s = match s.inp.alt.lastCross with
    | none => s.reach u
    | some t => publishAlt (decayed s.inp.alt.freq ((s.reach u).now - t) (hzFix ((s.reach u).now - t)) (s.reach u)) (s.reach u) := rfl

theorem altCrossing_unused {peak : Nat} (h : altCycles (s.reach u) = 0) : altCrossing u peak s = s := if_pos (by rw [h]; rfl)

theorem altCrossing_first {peak : Nat} (h : altCycles (s.reach u) ≠ 0) (hn : s.inp.alt.lastCross = none) :
    altCrossing u peak s =
      let w : State := { s.reach u with inp := { s.inp with alt := { s.inp.alt with
        lastCross := some (s.reach u).now, cycle := none, amp := peak, marks := decide (s.fld Ix.IN_ALT_CFG 8 8 < peak) } } }
      if decide (s.fld Ix.IN_ALT_CFG 8 8 < peak) then sourceMark 1 { angle := 0, ref := true, next := 65536, rate := none } w else w := by
  simp only [altCrossing, State.reach_inp, hn, beq_eq_false_iff_ne.2 h, Bool.or_false, Bool.false_eq_true, if_false, Option.map_none]
  rfl

end

/-- Settles O31: each row by the last edge or crossing of its input. -/
theorem frequencyInputs : Obligations.FrequencyInputs := by
  unfold Obligations.FrequencyInputs
  refine ⟨fun f u s h => completes_of rfl (fqEdge_unused h), fun f u t s ht he => completes_of rfl (fqEdge_early ht he),
    fun f u s hm hn hs => completes_of rfl (fqEdge_first hm hn hs),
    fun f u t s hm ht he hs => completes_of rfl (fqEdge_later hm ht he rfl hs), ?diag, ?noCross, ?crossTimeout,
    fun f u s h => completes_of rfl ((speedReeval_input ..).trans (fqReeval_none h)),
    fun f u t s ht he hs => completes_of rfl ((speedReeval_input ..).trans (fqReeval_timeout ht he rfl hs)), ?mark, ?noMark,
    fun u peak s h => completes_of rfl (altCrossing_unused h)⟩
  case diag =>
    intro f o g s
    refine ⟨updFq f (fun x => { x with open_ := o && fqMode f s == 1, range := g && fqMode f s == 3,
                                       sync := x.sync && !((o && fqMode f s == 1) || (g && fqMode f s == 3)) }) s, ?_, ?_,
      fun k hk => updFq_other s _ hk, rfl, completes_of rfl rfl⟩
    · rw [updFq_same]
    · rw [updFq_same]
  case noCross =>
    intro u s h
    exact completes_of rfl ((speedReeval_tap u s).trans (by rw [h]))
  case crossTimeout =>
    intro u t s h he
    refine completes_of rfl ((speedReeval_tap u s).trans ?_)
    rw [h]
    simp only [decayed_timeout he]
  case mark =>
    intro u peak s h hn hp
    exact completes_of rfl ((altCrossing_first h hn).trans (by simp only [hp, decide_true, if_true]))
  case noMark =>
    intro u peak s h hn hp
    exact completes_of rfl ((altCrossing_first h hn).trans (by simp [Nat.not_lt.2 hp]))

end Sys2Proof.Machine
end

section
/-!
PROOF. The IMU (R268 to R274 of 11_inputs_and_motion.md): results, activity, the tamper reference, the gyro zero and its commands.
-/
namespace Sys2Proof.Machine

section
variable {u : Nat} {g : Int × Int × Int} {s : State}

/-- What a publication takes before it judges: the lean, the pitch and the impact, and eight values to publish. -/
theorem imuPublish_eq (m : ImuSample) (s : State) :
    ∃ (lean pitch : Int) (vals : List Word), vals.length = 8 ∧
      let t : State := { s.reach m.at_ with imu := { s.imu with
        lean := lean, pitch := pitch, impact := s.imu.impact || decide (s.fld Ix.IMU_FALL 16 8 * 100 < m.least), seen := true } }
      imuPublish m s = vals.zipIdx.foldl
        (fun a p => publishSource 4 (4 + p.2) p.1 (publishImuFlags (judgeFall (judgeTamper m.acc t))).imu.fail a)
        (publishImuFlags (judgeFall (judgeTamper m.acc t))) := by
  refine ⟨_, _, _, ?len, rfl⟩
  rfl

theorem judgeMoving_dwelt {accel gyro t : Nat} (ht : s.imu.moveHi = some t) (hd : t + msP (s.fld Ix.IMU_DWELL 0 16) ≤ s.now)
    (hup : s.fld Ix.IMU_MOVE 0 8 * 10 < accel ∨ s.fld Ix.IMU_MOVE 16 8 * 10 < gyro) : (judgeMoving accel gyro s).imu.moving = true := by
  simp [judgeMoving, sinceWhen, heldFor, ht, hd, hup]

theorem captureRef_still (hw : s.modes.mode = .watch) (hm : s.imu.moving = false)
    (hd : s.imu.stillAt + msP (s.fld Ix.IMU_DWELL 16 16) ≤ (s.reach u).now) (hr : s.imu.ref = none) :
    captureRef u g s = { s.reach u with imu := { s.imu with ref := some g, tiltHi := none, tiltLo := none } } := by
  have hd : (s.reach u).imu.stillAt + msP ((s.reach u).fld Ix.IMU_DWELL 16 16) ≤ (s.reach u).now := hd
  refine if_pos ?_
  rw [decide_eq_true hd, State.reach_modes, State.reach_imu, hw, hm, hr]
  rfl

theorem captureRef_otherMode (hw : s.modes.mode ≠ .watch) : captureRef u g s = s.reach u :=
  if_neg (by simp [hw])

theorem judgeTamper_power (s : State) : (judgeTamper g s).pw = s.pw := by
  unfold judgeTamper
  split <;> rfl

theorem imuStandby_power {accel gyro : Nat} (hp : s.pw.pw = .standby) :
    (leaveStandby (judgeTamper g (judgeMoving accel gyro (s.reach u)))).pw.pw = .run :=
  leaveStandby_power (by rw [judgeTamper_power]; exact hp)

theorem imuStandby_same {accel gyro : Nat} {t : State} (hp : s.pw.pw = .standby)
    (ht : judgeTamper g (judgeMoving accel gyro (s.reach u)) = t) (hm : t.imu.moving = s.imu.moving)
    (htam : t.imu.tamper = s.imu.tamper) : imuStandby u accel gyro g s = t := by
  simp [imuStandby, hp, ht, hm, htam]

theorem imuStandby_changed {accel gyro : Nat} {t : State} (hp : s.pw.pw = .standby)
    (ht : judgeTamper g (judgeMoving accel gyro (s.reach u)) = t)
    (hc : t.imu.moving ≠ s.imu.moving ∨ t.imu.tamper ≠ s.imu.tamper) :
    imuStandby u accel gyro g s = publishImuFlags (leaveStandby t) := by
  have hc : (t.imu.moving != s.imu.moving || t.imu.tamper != s.imu.tamper) = true := by simpa using hc
  simp only [imuStandby, hp, ht, State.reach_imu, hc, if_true]

theorem zeroSuccess_held {t : Nat} {mean : Int × Int × Int} (ha : s.imu.attempt = some t) (hw : wheelsSlow (s.reach u) = true)
    (hc : crankRotates (s.reach u) = false) (hd : dwellOver s.dwell.resting t (secP 10) (s.reach u) = true)
    (hn : (s.reach u).now ≤ t + secP 60) :
    zeroSuccess u mean s = condFault 0x605 0 false { s.reach u with imu :=
      { s.imu with zero := mean, attempt := none, zeroValid := true, calDeferred := false, calRun := 0,
                   cmd := if s.imu.commanded then .done else s.imu.cmd, commanded := false } } := by
  have hd : dwellOver (s.reach u).dwell.resting t (secP 10) (s.reach u) = true := hd
  simp only [zeroSuccess, State.reach_imu, ha]
  exact if_pos (by rw [hw, hc, hd, decide_eq_true hn]; rfl)

theorem zeroTimeout_attempt {t : Nat} (ha : s.imu.attempt = some t) :
    zeroTimeout s =
      let u : State := { s.reach (t + secP 60) with imu :=
        { s.imu with attempt := none, calDeferred := true, calRun := s.imu.calRun + 1,
                     cmd := if s.imu.commanded then .deferred else s.imu.cmd, commanded := false } }
      if 3 ≤ s.imu.calRun + 1 then condFault 0x605 0 true u else u := by
  simp only [zeroTimeout, ha]
  rfl

theorem calLevel_deferred {held : Bool} (h : held = false ∨ stationary s = false ∨ s.imu.moving = true) :
    calLevel g held s = { s.reach (s.now + secP 2) with imu := { s.imu with cmd := .deferred } } := by
  refine if_neg ?_
  obtain h | h | h := h <;> simp [h]

theorem calLevel_held (hs : stationary s = true) (hm : s.imu.moving = false) :
    ∃ level : Int × Int, calLevel g true s = { s.reach (s.now + secP 2) with imu := { s.imu with cmd := .done, level := level } } :=
  ⟨_, if_pos (by simp [hs, hm])⟩

end

/-! ## The command words -/

section
variable (r : Requester) (m : Measured) (v : Word) (s : State)

theorem commandWord_imuCal : commandWord r m Ix.IMU_CAL_CMD v s = some (0, imuCal m v s) := rfl

theorem cleanValue_imuCal : cleanValue Ix.IMU_CAL_CMD (toWord 1) = 1 ∧ cleanValue Ix.IMU_CAL_CMD (toWord 2) = 2 := by decide +kernel

theorem isW1c_imu : isW1c Ix.IMU_CAL_CMD = false ∧ isW1c Ix.IMU_CLEAR = true := by decide +kernel

theorem clearBits_imuClear : clearBits Ix.IMU_CLEAR v s = imuClear v s := rfl

@[simp] theorem noteRequest_imu : (noteRequest r s).imu = s.imu := by rw [noteRequest_eq]

end

/-- Settles O32: each row by the state of the IMU and of the mode. -/
theorem imuRows : Obligations.ImuRows := by
  unfold Obligations.ImuRows
  refine ⟨?publish, fun u accel gyro s => completes_of rfl rfl, fun accel gyro t s ht hd hup => judgeMoving_dwelt ht hd hup,
    fun u g s hw hm hd hr => completes_of rfl (captureRef_still hw hm hd hr), fun u g s hw => completes_of rfl (captureRef_otherMode hw),
    fun u accel gyro g s hp => completes_of rfl (if_neg hp), ?standby,
    fun u t mean s ha hw hc hd hn => completes_of rfl (zeroSuccess_held ha hw hc hd hn), ?timeout, ?commands,
    fun g held s h => calLevel_deferred h, fun g s hs hm => calLevel_held hs hm, ?clear⟩
  case publish =>
    intro m s
    obtain ⟨lean, pitch, vals, hlen, heq⟩ := imuPublish_eq m s
    exact ⟨_, rfl, rfl, rfl, vals, hlen, completes_of rfl heq⟩
  case standby =>
    intro u accel gyro g s hp t
    exact ⟨fun hm ht => completes_of rfl (imuStandby_same hp rfl hm ht),
      fun hc => ⟨completes_of rfl (imuStandby_changed hp rfl hc), imuStandby_power hp⟩⟩
  case timeout =>
    intro t s ha u
    have h := zeroTimeout_attempt ha
    exact ⟨fun hn => completes_of rfl (h.trans (if_neg (by omega))), fun hn => completes_of rfl (h.trans (if_pos (by omega)))⟩
  case commands =>
    intro r g held s h hv
    obtain ⟨hone, htwo⟩ := cleanValue_imuCal
    refine ⟨completes_of rfl ((requestWrite_command h (hv 1 ?_ ?_) isW1c_imu.1 (commandWord_imuCal ..)).trans ?_),
      completes_of rfl ((requestWrite_command h (hv 2 ?_ ?_) isW1c_imu.1 (commandWord_imuCal ..)).trans ?_)⟩
    iterate 2 omega
    · simp only [hone, imuCal, startZero, if_true, noteRequest_imu, noteRequest_now]
    iterate 2 omega
    · simp only [htwo, imuCal]
      exact if_neg (by decide)
  case clear =>
    intro r v s h hb
    refine completes_of rfl ((requestWrite_w1c h isW1c_imu.2).trans ?_)
    rw [clearBits_imuClear, imuClear, if_pos hb, noteRequest_imu]

end Sys2Proof.Machine
end

section
/-!
PROOF. Touch (12_touch.md): frames (R281), calibration (R292, R293), stuck groups (R291), glove mode (R284) and the park engine's samples
(R297 to R300).
-/
namespace Sys2Proof.Machine

/-- A change of electrodes leaves the groups. -/
theorem foldl_updEl_groups (es : List (Fin 16)) (f : Electrode → Electrode) (s : State) :
    (es.foldl (fun t e => updEl e f t) s).tch.gr = s.tch.gr := by
  induction es generalizing s with
  | nil => rfl
  | cons e es ih => exact ih (updEl e f s)

section
variable {g : Fin 8} {s : State}

theorem touchFrame_none {m : TouchFrame} (h : s.tch.frameAt = none) : touchFrame m s = s := by simp only [touchFrame, h]

theorem touchFrame_some {m : TouchFrame} {t : Nat} (h : s.tch.frameAt = some t) :
    touchFrame m s =
      let u := latchRaw m (State.reach { s with tch := { s.tch with frameAt := none } } (t + frameP m s))
      (List.finRange 8).foldl (fun t g => classifyGroup m g t) (selfTests m
        (if (List.finRange 8).any fun g => tchMask g u != 0 && groupNoisy m g u then
          (State.bump { u with tch := { u.tch with freq := (u.tch.freq + 1) % 3 } } Ix.TCH_STATS 0 16).bump Ix.TCH_STATS 16 16
        else u)) := by
  simp only [touchFrame, h]

theorem calRetry_deferred {t : Nat} (hd : (s.tch.gr[g]).deferredAt = some t) (ha : (s.tch.gr[g]).attempt = none) :
    calRetry g s = beginCal g false (updGroup g (fun x => { x with deferredAt := none }) (s.reach (t + secP (s.fld Ix.TCH_CAL 8 8)))) := by
  simp only [calRetry, hd, State.reach_tch, ha, Option.isNone_none, if_true]

theorem calRetry_none (hd : (s.tch.gr[g]).deferredAt = none) : calRetry g s = s := by simp only [calRetry, hd]

theorem beginCal_attempt {c : Bool} (h : tchMask g s ≠ 0) : ((beginCal g c s).tch.gr[g]).attempt = some c := by
  simp only [beginCal, if_neg h, foldl_updEl_groups, updGroup_same]

theorem stuckTimeout_touched {t : Nat} (ht : (s.tch.gr[g]).touchedAt = some t) (hon : s.fld (Ix.TCH_G_TIME g.val) 24 8 ≠ 0) :
    stuckTimeout g s =
      let u := s.reach (t + secP (s.fld (Ix.TCH_G_TIME g.val) 24 8))
      publishGroup g (condFault 0x700 g.val true
        (updGroup g (fun x => { x with stuck := true, stuckRun := 0, touchedAt := none, position := none })
          ((tchEls g u).foldl (fun u e => updEl e (fun x => { x with touched := false, up := 0 }) u) u))) := by
  simp only [stuckTimeout, ht, if_neg hon]

theorem stuckTimeout_none (ht : (s.tch.gr[g]).touchedAt = none) : stuckTimeout g s = s := by simp only [stuckTimeout, ht]

theorem leaveGlove_glove (g : Fin 8) (s : State) : ((leaveGlove g s).tch.gr[g]).glove = false := by
  simp only [leaveGlove]
  split
  · simp only [foldl_updEl_groups, updGroup_same]
  · next h => exact Bool.eq_false_iff.2 h

theorem commandWord_tchCal (r : Requester) (m : Measured) (v : Word) (s : State) :
    commandWord r m Ix.TCH_CAL_CMD v s = some (0, calCommand v s) := rfl

end

/-! ## The park engine -/

section
variable {u raw0 raw1 b0 b1 : Nat} {s : State}

theorem parkTouchSample_idle (h : s.pw.pw ≠ .retain ∨ s.pw.armed.contains 3 = false) : parkTouchSample u raw0 raw1 s = s :=
  if_pos (h.imp_right fun h => .inr (by rw [h]; rfl))

theorem parkTouchSample_gesture (hp : s.pw.pw = .retain) (hg : s.fld Ix.TCH_WAKE_CFG 0 2 ≠ 0) (ha : s.pw.armed.contains 3 = true)
    (hb : s.tch.gest.base = [some b0, some b1]) : parkTouchSample u raw0 raw1 s = gestureSample raw0 raw1 b0 b1 (s.reach u) := by
  simp only [parkTouchSample, hp, hg, ha, State.reach_tch, hb, ne_eq, not_true_eq_false, Bool.not_true, Bool.false_eq_true, or_self,
    if_false]

theorem parkTouchSample_gathers (hp : s.pw.pw = .retain) (hg : s.fld Ix.TCH_WAKE_CFG 0 2 ≠ 0) (ha : s.pw.armed.contains 3 = true)
    (hb : s.tch.gest.base = [none, none]) (hn : s.tch.gest.gather.length < 3) :
    parkTouchSample u raw0 raw1 s = { s.reach u with tch :=
      { s.tch with gest := { s.tch.gest with gather := s.tch.gest.gather ++ [(raw0, raw1)] } } } := by
  have hlen : (s.tch.gest.gather ++ [(raw0, raw1)]).length < 4 := by simpa using Nat.succ_lt_succ hn
  simp only [parkTouchSample, hp, hg, ha, State.reach_tch, hb, ne_eq, not_true_eq_false, Bool.not_true, Bool.false_eq_true, or_self,
    if_false, hlen, if_true]

/-- The last sample of a tap of the first electrode alone is the gesture of code 1. -/
theorem gestureStep_tap {x : Gesture} (hc : s.fld Ix.TCH_WAKE_CFG 0 2 = 1) (hw : x.wet = false)
    (ht : x.tap + 1 = s.fld Ix.TCH_WAKE_TIME 0 8) : (gestureStep true false s x).2 = true := by
  simp [gestureStep, hc, hw, ht]

theorem gestureSample_tap (hp : s.pw.pw = .retain) (ha : s.pw.armed.contains 3 = true) (hn : s.pw.cause = none)
    (hc : s.fld Ix.TCH_WAKE_CFG 0 2 = 1) (hf : s.flag Ix.TCH_WAKE_CFG 2 = false) (hw : s.tch.gest.wet = false)
    (h0 : parkTouch raw0 b0 s.tch.gest.touch0 s = true) (h1 : parkTouch raw1 b1 s.tch.gest.touch1 s = false)
    (ht : s.tch.gest.tap + 1 = s.fld Ix.TCH_WAKE_TIME 0 8) : (gestureSample raw0 raw1 b0 b1 s).pw.cause = some 3 := by
  simp only [gestureSample, h0, h1, hf, Bool.false_eq_true, if_false]
  split
  · exact wakeFires_first hp ha hn
  · next h => exact (h (gestureStep_tap hc hw ht)).elim

end

/-- Settles O33: each row by the state of its group, of the frame or of the park engine. -/
theorem touchRows : Obligations.TouchRows := by
  unfold Obligations.TouchRows
  refine ⟨fun m s h => completes_of rfl (touchFrame_none h), ?frame, fun g t s hd ha => completes_of rfl (calRetry_deferred hd ha),
    fun g s hd => completes_of rfl (calRetry_none hd), ?command, fun v s => ⟨_, rfl⟩, fun g c s h => beginCal_attempt h,
    fun g t s ht hon => completes_of rfl (stuckTimeout_touched ht hon), fun g s ht => completes_of rfl (stuckTimeout_none ht),
    fun g s h => completes_of rfl (if_pos h), leaveGlove_glove, fun g s h => completes_of rfl (if_neg (Bool.eq_false_iff.1 h)),
    fun u raw0 raw1 s h => completes_of rfl (parkTouchSample_idle h),
    fun u raw0 raw1 b0 b1 s hp hg ha hb => completes_of rfl (parkTouchSample_gesture hp hg ha hb),
    fun raw0 raw1 b0 b1 s hp ha hn hc hf hw h0 h1 ht => gestureSample_tap hp ha hn hc hf hw h0 h1 ht,
    fun u raw0 raw1 s hp hg ha hb hn => completes_of rfl (parkTouchSample_gathers hp hg ha hb hn)⟩
  case frame =>
    intro m t s h u noisy
    have hframe := touchFrame_some (m := m) h
    have hgo : ∀ {v w : State}, v = w → (List.finRange 8).foldl (fun t g => classifyGroup m g t) (selfTests m v) =
        (List.finRange 8).foldl (fun t g => classifyGroup m g t) (selfTests m w) := fun h => by rw [h]
    exact ⟨fun hq => completes_of rfl (hframe.trans (hgo (if_neg (Bool.eq_false_iff.1 hq)))),
      fun hn => completes_of rfl (hframe.trans (hgo (if_pos hn)))⟩
  case command =>
    intro r v s h hv
    exact completes_of rfl (requestWrite_command h hv (by decide +kernel) (commandWord_tchCal ..))

end Sys2Proof.Machine
end

section
/-!
PROOF. Lessons and samples: the ticks of a lesson (R158), what it publishes (R160), host words, and the conversions of the samples (R129,
R548).
-/
namespace Sys2Proof.Machine

/-! ## Ticks and publications -/

section
variable {l : LessonNo} {slot : Nat} {e : Event} {f : Bool} {c : LessonCfg} {s u : State}

theorem lessonEvent_taken (h : takeEvent slot s = some (e, u)) (ha : e.spec.act = .lessonTick l) :
    lessonEvent slot s = fireLesson l (e.spec.clock == 8) u := by
  simp only [lessonEvent, h, ha]

theorem events_none (h : takeEvent slot s = none) :
    lessonEvent slot s = s ∧ releaseEvent slot s = s ∧ fabSyncEvent slot s = s := by
  simp only [lessonEvent, releaseEvent, fabSyncEvent, h, and_self]

theorem lessonTick_otherMode (hu : flushPubs s.now s = u) (hc : u.bn.cfg.lessons[l.val]? = some c)
    (hm : lessonIn l u.modes.mode u = false) : lessonTick l f s = (u, []) := by
  simp only [lessonTick, hu, hc, hm, Bool.not_false, if_true]

/-- A tick of a lesson in its mode, with blocks and no fallback: skipped before the least period, else evaluated. -/
theorem lessonTick_inMode (hu : flushPubs s.now s = u) (hc : u.bn.cfg.lessons[l.val]? = some c)
    (hm : lessonIn l u.modes.mode u = true) (hf : (u.bn.lessons[l]).fallback = false) (hb : (blocksOf u.bn.cfg l.val).isEmpty = false) :
    lessonTick l f s =
      if (u.bn.lessons[l]).evaluated && decide (usSince u.usTotal (u.bn.lessons[l]).last < c.minPeriod) then
        (report 0x102 l.val ((u.bump (Ix.BN_L_TICKS l.val) 0 32).bump (Ix.BN_L_SKIPS l.val) 0 16), [])
      else evaluateLesson l (u.bump (Ix.BN_L_TICKS l.val) 0 32) := by
  simp only [lessonTick, hu, hc, hm, hf, hb, Bool.not_true, Bool.and_false, Bool.false_eq_true, if_false]

theorem lessonPublish_none (h : (s.bn.lessons[l]).pubs = []) : lessonPublish l s = s := by simp only [lessonPublish, h]

/-- The one output that is due is published, and waits no longer. -/
theorem lessonPublish_one {t n : Nat} {v : Word} (h : (s.bn.lessons[l]).pubs = [(t, n, v)]) :
    lessonPublish l s = updLesson l (fun x => { x with pubs := [] }) (publishSig n v (s.reach t)) := by
  have hdue : t ≤ (s.reach t).now := Nat.le_max_right _ _
  have hmine : (((s.reach t).bn.lessons[l]).pubs.filter fun q => decide (q.1 ≤ (s.reach t).now)) = [(t, n, v)] := by
    simp [-Fin.getElem_fin, h, hdue]
  have hrest : ((publishSig n v (s.reach t)).bn.lessons[l]).pubs.filter (fun q => decide ((s.reach t).now < q.1)) = [] := by
    have hsame : ((publishSig n v (s.reach t)).bn.lessons[l]).pubs = [(t, n, v)] := h
    simp [-Fin.getElem_fin, hsame, hdue]
  simp only [lessonPublish, h, hmine, List.foldl_cons, List.foldl_nil, updLesson, hrest]

end

/-! ## Host words -/

section
variable (k : Fin 64) (v : Word) (s : State)

theorem isW1c_bnHost : ∀ k : Fin 64, isW1c (Ix.BN_HOST k.val) = false := by decide +kernel

theorem commandWord_bnHost (m : Measured) :
    commandWord .host m (Ix.BN_HOST k.val) v s = some (0, { s.put (Ix.BN_HOST k.val) v with
      bn := { s.bn with hostWritten := k.val :: s.bn.hostWritten.filter (· != k.val) } }) := by
  have hpage : Ix.BN_HOST k.val / 256 = 0x0A := by unfold Ix.BN_HOST; omega
  have hle : 0x0A40 ≤ Ix.BN_HOST k.val := Nat.le_add_right _ _
  have hsub : Ix.BN_HOST k.val - 0x0A40 = k.val := by unfold Ix.BN_HOST; omega
  simp only [commandWord, hpage, hle, and_self, if_true, hsub]

end

/-! ## Samples -/

section
variable {k slot delay : Nat} {convs : List Conv} {e : Event} {v : Conv} {s u : State}

theorem adcEvent_taken (h : takeEvent slot s = some (e, u)) (ha : e.spec.act = .adcSample k) :
    adcEvent slot convs delay s = fireAdc k convs delay u := by
  simp only [adcEvent, h, ha]

theorem adcEvent_none (h : takeEvent slot s = none) : adcEvent slot convs delay s = s := by simp only [adcEvent, h]

theorem fireAdc_otherList (hk : 42 ≤ k) (ht : k ≠ tchList) :
    fireAdc k convs delay s = forEach (convs.filter (convOf k)) takeConv (s.peak Ix.SYS_ADC_STATS 16 16 (Nat.min 65535 delay)) := by
  have hnone : chOfList k = none := dif_neg (Nat.not_lt.2 hk)
  simp only [fireAdc, hnone, if_neg ht]

theorem convSkip_kept (h : convClass v s = 1 ∨ delay ≤ usP 4) :
    convSkip v delay s = s.peak Ix.SYS_ADC_STATS 16 16 (Nat.min 65535 delay) := by
  have hno : (convClass v s != 1 && decide (usP 4 < delay)) = false := by
    obtain h | h := h
    · simp [h]
    · simp [Nat.not_lt.2 h]
  simp only [convSkip, hno, onlyIf, Bool.false_eq_true, if_false]

theorem convSkip_skipped (hc : convClass v s ≠ 1) (hd : usP 4 < delay) :
    convSkip v delay s = (s.bump Ix.SYS_ADC_STATS 0 16).peak Ix.SYS_ADC_STATS 16 16 (Nat.min 65535 delay) := by
  simp only [convSkip, bne_iff_ne.2 hc, hd, decide_true, Bool.and_self, onlyIf, if_true]

end

/-- Settles O34: each row by the event it takes and the lesson's record. -/
theorem lessonRows : Obligations.LessonRows := by
  unfold Obligations.LessonRows
  refine ⟨fun slot e l s u h ha => completes_of rfl (lessonEvent_taken h ha), ?noEvent, ?otherMode, ?inMode,
    fun l s h => completes_of rfl (lessonPublish_none h), fun l t n v s h => completes_of rfl (lessonPublish_one h), ?host,
    fun slot delay convs e k s u h ha => completes_of rfl (adcEvent_taken h ha), fun k delay convs s hk ht => fireAdc_otherList hk ht,
    fun slot delay convs s h => completes_of rfl (adcEvent_none h), fun v delay s h => completes_of rfl (convSkip_kept h),
    fun v delay s hc hd => completes_of rfl (convSkip_skipped hc hd)⟩
  case noEvent =>
    intro slot s h
    obtain ⟨hlesson, hrelease, hsync⟩ := events_none h
    exact ⟨completes_of rfl hlesson, completes_of rfl hrelease, completes_of rfl hsync⟩
  case otherMode =>
    intro l f c s hc hm hcfg hmodes
    exact lessonTick_otherMode rfl (by rw [hcfg, hc]) (by rw [hmodes, hm])
  case inMode =>
    intro l f c s u hc hm hf hb
    have htick := lessonTick_inMode (f := f) (u := u) rfl hc hm hf hb
    refine ⟨fun he hp => ?_, fun h => htick.trans (if_neg ?_)⟩
    · have hskip := htick.trans (if_pos (by rw [he, decide_eq_true hp]; rfl))
      rw [hskip]
      exact ⟨rfl, rfl⟩
    · obtain h | h := h
      · simp [-Fin.getElem_fin, h]
      · simp [-Fin.getElem_fin, Nat.not_lt.2 h]
  case host =>
    intro k v s h hv
    have hword : ∀ i, (noteRequest .host s).word i = s.word i := fun i => by simp only [State.word, noteRequest_words]
    refine gives_of_eq rfl (requestWrite_command h hv (isW1c_bnHost k) (commandWord_bnHost ..))
      ⟨word_put_same .., List.mem_cons_self, fun i hi => (word_put_other _ _ hi).trans (hword i), ?_⟩
    rw [after_of_now (s := s) (by simp only [State.put]; rw [noteRequest_eq]) (by simp only [State.put]; rw [noteRequest_eq])]
    simp only [State.put]
    rw [noteRequest_eq]

end Sys2Proof.Machine
end

section
/-!
PROOF. The backup cell (13_backup_cell.md): the power path and the input search (R304 to R312), the charge states, the windows and the
faults (R313 to R319).
-/
namespace Sys2Proof.Machine

/-! ## What the charger's service changes -/

/-- Only the charger's record changes, and in it neither the temperature window nor what feeds AO. -/
def ChgFrame (s t : State) : Prop :=
  t = { s with chg := t.chg } ∧ t.chg.window = s.chg.window ∧ t.chg.aoOnCell = s.chg.aoOnCell

section
variable {s t u : State}

theorem ChgFrame.refl (s : State) : ChgFrame s s := ⟨rfl, rfl, rfl⟩

theorem ChgFrame.trans (h : ChgFrame s t) (k : ChgFrame t u) : ChgFrame s u := by
  obtain ⟨ht, hw, ha⟩ := h
  obtain ⟨hu, kw, ka⟩ := k
  refine ⟨hu.trans ?_, kw.trans hw, ka.trans ha⟩
  rw [ht]

theorem chgFrame_enterChg (st : ChgSt) (s : State) : ChgFrame s (enterChg st s) := ⟨rfl, rfl, rfl⟩

theorem chgFrame_aimChg (s : State) : ChgFrame s (aimChg s) := by
  have haim : ∀ want, ChgFrame s
      (if s.chg.aim = want then s else updChg (fun c => { c with rampFrom := chgNow s, rampAt := s.now, aim := want }) s) := fun want => by
    split
    · exact ChgFrame.refl s
    · exact ⟨rfl, rfl, rfl⟩
  exact haim _

theorem chgFrame_beginCharge (s : State) : ChgFrame s (beginCharge s) := ⟨rfl, rfl, rfl⟩

theorem chgFrame_settleChg (s : State) : ChgFrame s (settleChg s) := by
  have hready : ChgFrame s (if s.chg.st == .off || s.chg.st == .fault then enterChg .idle s else s) := by
    split
    · exact chgFrame_enterChg _ s
    · exact ChgFrame.refl s
  simp only [settleChg]
  generalize (if (s.chg.st == .off || s.chg.st == .fault) = true then enterChg .idle s else s) = u at *
  split
  · exact chgFrame_enterChg _ s
  · split
    · split
      · exact ChgFrame.refl s
      · exact chgFrame_enterChg _ s
    · refine hready.trans ?_
      split
      · split
        · exact ⟨rfl, rfl, rfl⟩
        · exact ChgFrame.refl u
      · split
        · split
          · exact chgFrame_enterChg _ u
          · exact ChgFrame.refl u
        · split
          · exact chgFrame_beginCharge u
          · exact chgFrame_enterChg _ u
          · exact ChgFrame.refl u

theorem chgFrame_refreshChg (s : State) : ChgFrame s (refreshChg s) := by
  simp only [refreshChg]
  refine ChgFrame.trans ?_ ((chgFrame_settleChg _).trans (chgFrame_aimChg _))
  split
  · exact ChgFrame.refl s
  · exact ⟨rfl, rfl, rfl⟩

theorem refreshChg_words (s : State) : (refreshChg s).words = s.words := by rw [(chgFrame_refreshChg s).1]

theorem word_refreshChg (s : State) (i : Nat) : (refreshChg s).word i = s.word i := by simp only [State.word, refreshChg_words]

theorem updChg_congr {f g : Charger → Charger} (h : f s.chg = g s.chg) : updChg f s = updChg g s := by simp only [updChg, h]

theorem updChg_self {f : Charger → Charger} (h : f s.chg = s.chg) : updChg f s = s := by simp only [updChg, h]

end

/-! ## The power path -/

section
variable {railMv mv least most : Nat} {s : State}

theorem cellSwitch_low (h : railMv < 4500) (ha : s.chg.aoOnCell = false) (hc : s.chg.cutOff = false)
    (hf : s.flag Ix.CHG_FAULTS 5 = false) (hcond : s.chg.conds.getD 5 false = false) :
    cellSwitch railMv s =
      let u := (updChg (fun c => { c with railUp := false, aoOnCell := true, onCellSaid := true }) s).bump Ix.CHG_COUNTS 16 16
      if s.chg.onCellSaid then u else report 0x800 0 u := by
  have hup : ¬5000 < railMv := by omega
  have hguard : railMv < 4500 ∧ (!s.chg.aoOnCell) = true ∧ (!s.chg.cutOff) = true ∧ (!s.flag Ix.CHG_FAULTS 5) = true ∧
      (!s.chg.conds.getD 5 false) = true := by rw [ha, hc, hf, hcond]; exact ⟨h, rfl, rfl, rfl, rfl⟩
  simp only [cellSwitch, if_pos hguard, hup, updChg, decide_false, Bool.not_false, Bool.and_true]

theorem cellSwitch_high (h : 5000 < railMv) :
    cellSwitch railMv s = updChg (fun c => { c with railUp := true, bkoCut := false, aoOnCell := false }) s := by
  have hlow : ¬railMv < 4500 := by omega
  simp [cellSwitch, h, hlow, updChg]

theorem cellSwitch_between (h : 4500 ≤ railMv) (h' : railMv ≤ 5000) :
    cellSwitch railMv s = updChg (fun c => { c with railUp := false }) s := by
  simp [cellSwitch, Nat.not_lt.2 h, Nat.not_lt.2 h', updChg]

theorem parkSourceFires_mode (k : Nat) (s : State) : (parkSourceFires k s).modes.mode = s.modes.mode := by
  unfold parkSourceFires
  split <;> rfl

theorem wakeFires_modes (k : Nat) (s : State) : (wakeFires k s).modes = s.modes := by
  simp only [wakeFires]
  split
  · split <;> rfl
  · split <;> rfl

theorem svinPresent_comes (h : 4500 < least) (hp : s.chg.svinPresent = false) :
    svinPresent mv least s =
      let u := wakeFires (if s.fld Ix.PWR_DEEP_WAKE 0 4 = 4 ∧ s.pw.pw = .deep then 7 else 6)
        (parkSourceFires 6 ((updChg (fun c => { c with svinPresent := true }) s).putFld Ix.CHG_SVIN 0 16 mv))
      if s.modes.mode = .park then u else refreshChg u := by
  have hmode : ∀ k (t : State), (wakeFires k (parkSourceFires 6 t)).modes.mode = t.modes.mode := fun k t => by
    rw [wakeFires_modes, parkSourceFires_mode]
  simp only [svinPresent, h, hp, decide_true, Bool.and_true, Bool.not_false, if_true, hmode]
  rfl

theorem svinPresent_gone (h : least ≤ 4500) (hm : s.modes.mode ≠ .park) :
    svinPresent mv least s =
      refreshChg ((updChg (fun c => { c with svinPresent := false, svinIsRail := false }) s).putFld Ix.CHG_SVIN 0 16 mv) := by
  simp only [svinPresent, Nat.not_lt.2 h, decide_false, Bool.and_false, Bool.false_and, Bool.false_eq_true, if_false]
  exact if_neg hm

theorem svinGone_gone (hp : s.chg.svinPresent = true) (h : mv ≤ 4500) : svinGone mv s = svinPresent mv 0 s := by
  simp [svinGone, hp, h]

theorem vbatGate_opens (h : vbatFloor s + 300 < least) :
    vbatGate least most s = refreshChg (updChg (fun c => { c with gate := true }) s) := by
  simp only [vbatGate, h, if_true]

theorem vbatGate_closes (h : least ≤ vbatFloor s + 300) (h' : most < vbatFloor s) :
    vbatGate least most s = refreshChg (updChg (fun c => { c with gate := false }) s) := by
  simp only [vbatGate, Nat.not_lt.2 h, h', if_true, if_false]

end

/-! ## The input search -/

section
variable {at_ openMv vbatMv apart t least maxMa most : Nat} {s : State}

theorem searchStart_svin (hd : searchDue s = some t) (hi : s.chg.input = 2) (hr : s.chg.svinIsRail = false) :
    let u := s.reach (Nat.max at_ t)
    searchStart at_ openMv vbatMv apart s = aimChg (updChg (fun c => { c with
      searchAt := u.now, due := false, hush := false, backoffAt := none, openMv := openMv,
      search := some { limit := 50, openMv := openMv, vbat := vbatMv, near := decide (apart < 150), stepAt := u.now } }) u) := by
  have hne : ¬(2 : Nat) = 0 := by decide
  simp [searchStart, hd, hi, hr, updChg]

theorem searchStart_none (hd : searchDue s = none) : searchStart at_ openMv vbatMv apart s = s := by simp only [searchStart, hd]

theorem searchStep_none (h : s.chg.search = none) : searchStep least maxMa vbatMv s = s := by simp only [searchStep, h]

theorem searchStep_far {q : Search} {u : State} (h : s.chg.search = some q) (hq : q.near = false)
    (hu : updChg (fun c => { c with inputMa := maxMa }) (s.reach (q.stepAt + msP 20)) = u) :
    searchStep least maxMa vbatMv s =
      if least ≤ searchFloor q.openMv u then searchEnd (q.limit - 50) true u
      else if maxMa + 20 < q.limit then searchEnd q.limit false u
      else if Nat.min (chgIlim u) (scaled (chgIlim u) (factorAtLevel u 4)) ≤ q.limit then searchEnd q.limit true u
      else updChg (fun c => { c with search := some { q with limit := q.limit + 50, stepAt := u.now } }) u := by
  simp only [searchStep, h, hq, hu, Bool.false_and, Bool.false_eq_true, if_false]

theorem inputBackoff_low {l : Nat} (hs : s.chg.search = none) (hi : s.chg.input ≠ 0) (hf : s.chg.found = some l)
    (hm : most ≤ searchFloor s.chg.openMv s) :
    inputBackoff most s = refreshChg
      ((updChg (fun c => { c with found := some (l - 50), inputLimited := true, backoffAt := some s.now }) s).bump Ix.CHG_COUNTS 0 16) := by
  have hsome : updChg (fun c => { c with found := some (c.found.getD 50 - 50), inputLimited := true, backoffAt := some s.now }) s =
      updChg (fun c => { c with found := some (l - 50), inputLimited := true, backoffAt := some s.now }) s :=
    updChg_congr (by simp only [hf, Option.getD_some])
  have hguard : s.chg.search.isNone ∧ s.chg.input ≠ 0 ∧ most ≤ searchFloor s.chg.openMv s := ⟨by rw [hs]; rfl, hi, hm⟩
  rw [← hsome]
  exact if_pos hguard

theorem inputBackoff_idle (h : s.chg.search ≠ none ∨ searchFloor s.chg.openMv s < most) : inputBackoff most s = s := by
  refine if_neg ?_
  rintro ⟨hs, -, hm⟩
  exact h.elim (· (Option.isNone_iff_eq_none.1 hs)) (Nat.not_lt.2 hm)

theorem bkoCutoff_low {r : CellReading} (hv : (readCell r s).chg.socValid = true) (hr : (readCell r s).chg.railUp = false)
    (hs : socPercent (readCell r s) ≤ (readCell r s).fld Ix.CHG_BKO_CFG 16 8) :
    bkoCutoff r s = updChg (fun c => { c with bkoCut := true }) (readCell r s) := by
  simp [bkoCutoff, hv, hr, hs]

theorem bkoCutoff_above {r : CellReading} (hv : (readCell r s).chg.socValid = true)
    (hs : (readCell r s).fld Ix.CHG_BKO_CFG 16 8 < socPercent (readCell r s)) : bkoCutoff r s = readCell r s := by
  simp [bkoCutoff, hv, Nat.not_le.2 hs]

end

/-- Settles O35: each row by the level it meets and the state of the search. -/
theorem chargerPowerPath : Obligations.ChargerPowerPath := by
  unfold Obligations.ChargerPowerPath
  refine ⟨?low, fun railMv s h => completes_of rfl (cellSwitch_high h), fun railMv s h h' => completes_of rfl (cellSwitch_between h h'),
    ?comes, fun mv least s h hm => completes_of rfl (svinPresent_gone h hm),
    fun mv s hp h hm => completes_of rfl ((svinGone_gone hp h).trans (svinPresent_gone (Nat.zero_le _) hm)), ?absent,
    fun least most s h => completes_of rfl (vbatGate_opens h), fun least most s h h' => completes_of rfl (vbatGate_closes h h'),
    fun u openMv vbatMv apart t s hd hi hr => completes_of rfl (searchStart_svin hd hi hr),
    fun u openMv vbatMv apart s hd => completes_of rfl (searchStart_none hd),
    fun least maxMa vbatMv s h => completes_of rfl (searchStep_none h), ?step,
    fun most l s hs hi hf hm => completes_of rfl (inputBackoff_low hs hi hf hm),
    fun most s h => completes_of rfl (inputBackoff_idle h), fun r s hv hr hs => completes_of rfl (bkoCutoff_low hv hr hs),
    fun r s hv hs => completes_of rfl (bkoCutoff_above hv hs)⟩
  case low =>
    intro railMv s h ha hc hf hcond u
    have hlow := cellSwitch_low h ha hc hf hcond
    exact ⟨fun hs => completes_of rfl (hlow.trans (if_neg (Bool.eq_false_iff.1 hs))), fun hs => completes_of rfl (hlow.trans (if_pos hs))⟩
  case comes =>
    intro mv least s h hp u
    have hcomes := svinPresent_comes (mv := mv) h hp
    exact ⟨fun hm => completes_of rfl (hcomes.trans (if_pos hm)), fun hm => completes_of rfl (hcomes.trans (if_neg hm))⟩
  case absent =>
    intro mv s hp
    exact completes_of rfl (if_neg (by simp [hp]))
  case step =>
    intro least maxMa vbatMv q s h hq u top
    have hstep := searchStep_far (least := least) (vbatMv := vbatMv) h hq (u := u) rfl
    refine ⟨fun h1 => completes_of rfl ?_, fun h1 h2 => completes_of rfl ?_, fun h1 h2 h3 => completes_of rfl ?_,
      fun h1 h2 h3 => completes_of rfl ?_⟩
    · rw [hstep, if_pos h1]
    · rw [hstep, if_neg (Nat.not_le.2 h1), if_pos h2]
    · rw [hstep, if_neg (Nat.not_le.2 h1), if_neg (Nat.not_lt.2 h2), if_pos h3]
    · rw [hstep, if_neg (Nat.not_le.2 h1), if_neg (Nat.not_lt.2 h2), if_neg (Nat.not_le.2 h3)]

end Sys2Proof.Machine
end

section
/-!
PROOF. Charging (R313 to R319 of 13_backup_cell.md): the charge states, the timers, the cut-off, the temperature windows, the charger's
faults, and the probe and estimate of the cell.
-/
namespace Sys2Proof.Machine

/-! ## Charge states -/

section
variable {r : CellReading} {s : State}

theorem Charger.cutOff_kept {c : Charger} (h : c.cutOff = false) (b : Bool) : { c with cutOff := c.cutOff && b } = c := by
  cases c
  cases h
  rfl

/-- A cell that is not cut off stays so. -/
theorem updChg_cutOff {u : State} (b : Bool) (h : u.chg.cutOff = false) : updChg (fun c => { c with cutOff := c.cutOff && b }) u = u :=
  updChg_self (Charger.cutOff_kept h b)

theorem prechargeDone_eq {least : Nat} (h : (readCell r s).chg.cutOff = false) :
    prechargeDone r least s =
      if (readCell r s).chg.st = .precharge ∧ (chem (readCell r s)).precharge + 100 < least then
        aimChg (restartTimer (enterChg .fastCc (readCell r s)))
      else readCell r s := by
  simp only [prechargeDone, updChg_cutOff _ h]

theorem vtermReached_eq (h : (readCell r s).chg.cutOff = false) :
    vtermReached r s =
      if (readCell r s).chg.st = .fastCc ∧ chgVterm (readCell r s) ≤ r.mv then aimChg (enterChg .fastCv (readCell r s))
      else readCell r s := by
  simp only [vtermReached, updChg_cutOff _ h]

theorem timerExpiry_running {t : Nat} (h : s.chg.timerFrom = some t) :
    timerExpiry s = latchChg 4 (s.reach (t + ((if s.chg.st = .precharge then secP (60 * s.fld Ix.CHG_TIMER 0 8)
      else secP (360 * s.fld Ix.CHG_TIMER 8 8)) - s.chg.timerUsed))) := by
  simp only [timerExpiry, h]

theorem timerExpiry_stopped (h : s.chg.timerFrom = none) : timerExpiry s = s := by simp only [timerExpiry, h]

end

/-! ## The cut-off -/

section
variable {r : CellReading} {most : Nat} {s : State}

theorem cellCutoff_empty (hf : s.chg.aoOnCell = true ∨ bkoOn (readCell r s) = true ∧ s.chg.railUp = false)
    (hm : most < (chem (readCell r s)).empty) :
    cellCutoff r most s =
      updChg (fun c => { c with cutOff := true, soc := 0, socFrac := 0, socValid := true, aoOnCell := false }) (readCell r s) := by
  have hrail : (readCell r s).chg.railUp = s.chg.railUp := rfl
  have hao : (readCell r s).chg.aoOnCell = s.chg.aoOnCell := rfl
  have hfeeds : ((readCell r s).chg.aoOnCell || (bkoOn (readCell r s) && !(readCell r s).chg.railUp)) = true := by
    rw [hao, hrail]
    obtain h | ⟨h, h'⟩ := hf
    · rw [h, Bool.true_or]
    · rw [h, h', Bool.not_false, Bool.and_self, Bool.or_true]
  exact if_pos (by rw [hfeeds, decide_eq_true hm]; rfl)

theorem cutoffEnd_ends (hc : (readCell r s).chg.cutOff = true) (hi : isCharging (readCell r s).chg.st = true)
    (hm : (chem (readCell r s)).empty + 200 < r.mv) :
    cutoffEnd r s = updChg (fun c => { c with cutOff := false }) (readCell r s) :=
  if_pos (by rw [hc, hi, decide_eq_true hm]; rfl)

end

/-! ## Windows and faults -/

section
variable {k : Fin 7} {least most : Int} {stay : Bool} {s : State}

/-- A charger fault whose condition holds latches, but for a cell that is removed. -/
theorem chgFault_holds (hc : chgCond k.val least most s = some true) (h2 : k.val ≠ 2) (h3 : k.val ≠ 3) :
    chgFault k least most stay s = latchChg k.val (updChg (fun d => { d with conds := d.conds.set k.val true }) s) := by
  simp only [chgFault, hc, beq_eq_false_iff_ne.2 h2, beq_eq_false_iff_ne.2 h3, Bool.and_false, Bool.false_and, Bool.false_eq_true,
    if_false, if_true]

theorem chgFault_over (hc : chgCond k.val least most s = some false) :
    chgFault k least most stay s = refreshChg (updChg (fun d => { d with conds := d.conds.set k.val false }) s) := by
  simp only [chgFault, hc, Bool.false_and, Bool.false_eq_true, if_false]

theorem chgFault_neither (hc : chgCond k.val least most s = none) : chgFault k least most stay s = s := by simp only [chgFault, hc]

theorem chgFaultOf_offCell (h : s.chg.aoOnCell = false) : chgFaultOf k least most stay s = chgFault k least most stay s := by
  simp [chgFaultOf, h]

/-- CELL_HOT takes AO off the cell. -/
theorem latchChg_hot (s : State) : (latchChg 5 s).chg.aoOnCell = false := by
  obtain ⟨-, -, hao⟩ := chgFrame_refreshChg
    (updChg (fun c => { c with aoOnCell := false }) (condFault (0x801 + 5) 0 true (s.latch Ix.CHG_FAULTS (2 ^ 5))))
  exact hao

theorem chgCond_hotNeither (hm : 650 ≤ most) (hl : least ≤ 700) : chgCond 5 least most s = none := by
  simp [chgCond, Int.not_lt.2 hm, Int.not_lt.2 hl]

/-- The end of a fault writes no word but the count of the log. -/
theorem word_pushEntry_other (e : List Word) (s : State) {i : Nat} (h : i ≠ Ix.FLT_LOG_COUNT) : (pushEntry e s).word i = s.word i := by
  unfold pushEntry
  split
  · rfl
  · exact word_bump_other _ 0 32 h

theorem word_endFault_other (id inst : Nat) (s : State) {i : Nat} (h : i ≠ Ix.FLT_LOG_COUNT) : (endFault id inst s).word i = s.word i := by
  simp only [endFault]
  split
  · rfl
  · split
    · exact word_pushEntry_other _ _ h
    · rfl

/-- A read of the latched faults clears them, and the ends of their reports leave the word alone. -/
theorem chgFaultsRead_word (s : State) : (chgFaultsRead s).word Ix.CHG_FAULTS = 0 := by
  have hends : ∀ (ks : List Nat) (t : State), (ks.foldl (fun t k => endFault (0x801 + k) 0 t) t).word Ix.CHG_FAULTS =
      t.word Ix.CHG_FAULTS := by
    intro ks
    induction ks with
    | nil => exact fun _ => rfl
    | cons k ks ih => exact fun t => (ih _).trans (word_endFault_other _ _ _ (by decide))
  rw [chgFaultsRead, word_refreshChg]
  exact (hends _ _).trans (word_put_same s _ 0)

end

/-- Settles O36: each row by the charge state, the timer or the condition it meets. -/
theorem chargeStates : Obligations.ChargeStates := by
  unfold Obligations.ChargeStates
  refine ⟨fun r least s hst hc hl => completes_of rfl ((prechargeDone_eq hc).trans (if_pos ⟨hst, hl⟩)),
    fun r least s hst hc => completes_of rfl ((prechargeDone_eq hc).trans (if_neg fun h => hst h.1)),
    fun r s hst hc hv => completes_of rfl ((vtermReached_eq hc).trans (if_pos ⟨hst, hv⟩)),
    fun r s hst hc => completes_of rfl ((vtermReached_eq hc).trans (if_neg fun h => hst h.1)), ?termination,
    fun r most s h => completes_of rfl (if_neg fun hc => h.elim (· hc.1) (Int.not_le.2 hc.2)),
    fun r most s hst hm hok => completes_of rfl (if_pos ⟨hst, hm, hok⟩), fun r most s hst => completes_of rfl (if_neg fun h => hst h.1),
    fun _ _ => rfl, ?timer, fun s h => completes_of rfl (timerExpiry_stopped h), ?cutAo, ?cutBko,
    fun r s hc hi hm => completes_of rfl (cutoffEnd_ends hc hi hm), fun r s hc => completes_of rfl (if_neg (by rw [hc, Bool.false_and, Bool.false_and]; exact Bool.false_ne_true)),
    ?window, ?cold, ?coldOver, ?hot, ?hotNeither, ?removed, ?read, ?probe, ?probeCharging, ?seed, ?seedNone⟩
  case termination =>
    intro r most s hst hm
    exact ⟨updChg (fun c => { c with soc := cellCap (readCell r s), socFrac := 0, socValid := true, learned := learnCapacity c,
                                     startSoc := none }) (enterChg .done (readCell r s)), rfl, rfl, rfl, rfl, rfl, rfl,
      completes_of rfl (if_pos ⟨hst, hm⟩)⟩
  case timer =>
    intro s t h
    have htimer := timerExpiry_running h
    exact ⟨fun hst => completes_of rfl (htimer.trans (by rw [if_pos hst])), fun hst => completes_of rfl (htimer.trans (by rw [if_neg hst]))⟩
  case cutAo =>
    intro r most s ha hm
    have hcut := cellCutoff_empty (.inl ha) hm
    exact completes_of rfl (by simp only [cutoffOf, hcut, ha, updChg, Bool.and_self, if_true])
  case cutBko =>
    intro r most s ha hb hr hm
    have hcut := cellCutoff_empty (.inr ⟨hb, hr⟩) hm
    exact completes_of rfl (by simp only [cutoffOf, hcut, ha, Bool.false_and, Bool.false_eq_true, if_false])
  case window =>
    intro least most s
    obtain ⟨-, hwindow, -⟩ := chgFrame_refreshChg
      (updChg (fun c => { c with window := nextWindow c.window least most s }) (s.putNat Ix.CHG_TEMP (unsigned most 16)))
    refine gives_of_eq rfl (rfl : windowChange least most s = _) ⟨?_, hwindow⟩
    exact (word_refreshChg _ _).trans (word_put_same s _ _)
  case cold =>
    intro least most stay s ha hm
    exact completes_of rfl ((chgFaultOf_offCell ha).trans
      (chgFault_holds (k := 0) (congrArg some (decide_eq_true hm)) (by decide) (by decide)))
  case coldOver =>
    intro least most stay s ha hm
    exact completes_of rfl ((chgFaultOf_offCell ha).trans
      (chgFault_over (k := 0) (congrArg some (decide_eq_false (Int.not_lt.2 hm)))))
  case hot =>
    intro least most stay s hl u
    have hfault : chgFault 5 least most stay s = u := chgFault_holds (k := 5) (if_pos hl) (by decide) (by decide)
    refine ⟨fun ha => completes_of rfl ((chgFaultOf_offCell ha).trans hfault), fun ha => completes_of rfl ?_⟩
    have hoff : u.chg.aoOnCell = false := latchChg_hot _
    simp only [chgFaultOf, hfault, ha, hoff, Bool.not_false, Bool.and_self, if_true]
  case hotNeither =>
    intro least most stay s hm hl
    have hfault : chgFault 5 least most stay s = s := chgFault_neither (k := 5) (chgCond_hotNeither hm hl)
    exact completes_of rfl (by simp only [chgFaultOf, hfault, Bool.and_not_self, Bool.false_eq_true, if_false])
  case removed =>
    intro least most s ha hl
    have hcond : chgCond 2 least most s = some true := congrArg some (decide_eq_true hl)
    have hfault : chgFault 2 least most false s = cellGone s := by simp [chgFault, hcond]
    exact completes_of rfl ((chgFaultOf_offCell ha).trans hfault)
  case read =>
    intro r s h
    have hread : (readParam r Ix.CHG_FAULTS (noteRequest r s)).2 = chgFaultsRead (noteRequest r s) := by rw [readParam_chgFaults h]
    have hdone : Completes (.chgFaultsRead r) s (chgFaultsRead (noteRequest r s)) :=
      completes_of (f := fun t => (readParam r Ix.CHG_FAULTS (noteRequest r t)).2) rfl hread
    exact ⟨hdone, hdone.gives (chgFaultsRead_word _)⟩
  case probe =>
    intro r least drop s hu hp hc
    have hguard : (cellUsed s && s.modes.mode != .park && !isCharging s.chg.st) = true := by rw [hu, hc, bne_iff_ne.2 hp]; rfl
    refine ⟨fun hl hd => completes_of rfl ((if_pos hguard).trans (if_pos ⟨hl, hd⟩)), fun h => completes_of rfl ((if_pos hguard).trans (if_neg ?_))⟩
    rintro ⟨hl, hd⟩
    exact h.elim (Nat.not_le.2 hl) (Nat.not_lt.2 hd)
  case probeCharging =>
    intro r least drop s hc
    have hguard : ¬(cellUsed s && s.modes.mode != .park && !isCharging s.chg.st) = true := by
      rw [hc, Bool.not_true, Bool.and_false]; exact Bool.false_ne_true
    exact completes_of rfl (if_neg hguard)
  case seed =>
    intro r s hp hv hk hd
    exact completes_of rfl (if_pos (by rw [hp, hv, decide_eq_true hk, hd]; rfl))
  case seedNone =>
    intro r s h
    refine completes_of rfl (if_neg ?_)
    obtain h | h := h
    · simp [h]
    · simp [Nat.not_lt.2 h]

end Sys2Proof.Machine
end

section
/-!
PROOF. CAN transmission (14_can_and_lin.md, R332 to R345): which buffer is offered, how an attempt begins and ends, errors, and the
ways back from bus-off.
-/
namespace Sys2Proof.Machine

/-! ## The buffer that is offered (R335) -/

/-- The better of the buffer held so far and the next one: the lower arbitration field, then the lower number. -/
def betterOffer (a : Option TxBuf) (b : TxBuf) : Option TxBuf :=
  match a with
  | none => some b
  | some m => if arbKey b.frame < arbKey m.frame ∨ (arbKey b.frame = arbKey m.frame ∧ b.buf < m.buf) then some b else some m

theorem betterOffer_spec (a : Option TxBuf) (b : TxBuf) :
    ∃ m, betterOffer a b = some m ∧ (m = b ∨ some m = a) ∧ arbKey m.frame ≤ arbKey b.frame ∧ ∀ y ∈ a, arbKey m.frame ≤ arbKey y.frame := by
  cases a with
  | none => exact ⟨b, rfl, .inl rfl, Nat.le_refl _, fun y hy => absurd hy (Option.not_mem_none y)⟩
  | some y =>
    by_cases hb : arbKey b.frame < arbKey y.frame ∨ (arbKey b.frame = arbKey y.frame ∧ b.buf < y.buf)
    · refine ⟨b, if_pos hb, .inl rfl, Nat.le_refl _, fun z hz => ?_⟩
      obtain rfl : y = z := Option.some.inj hz
      omega
    · refine ⟨y, if_neg hb, .inr rfl, by omega, fun z hz => ?_⟩
      obtain rfl : y = z := Option.some.inj hz
      exact Nat.le_refl _

/-- The fold keeps a buffer of the list, or the one it began with, whose arbitration field is the least of all. -/
theorem foldl_betterOffer (xs : List TxBuf) (a : Option TxBuf) (b : TxBuf) (h : xs.foldl betterOffer a = some b) :
    (b ∈ xs ∨ some b = a) ∧ (∀ y ∈ xs, arbKey b.frame ≤ arbKey y.frame) ∧ ∀ y ∈ a, arbKey b.frame ≤ arbKey y.frame := by
  induction xs generalizing a with
  | nil =>
    obtain rfl : a = some b := h
    exact ⟨.inr rfl, fun y hy => absurd hy List.not_mem_nil, fun y hy => Nat.le_of_eq (by rw [Option.some.inj hy])⟩
  | cons x xs ih =>
    obtain ⟨m, hm, hfrom, hmx, hma⟩ := betterOffer_spec a x
    obtain ⟨hin, hleast, hacc⟩ := ih (betterOffer a x) h
    have hbm : arbKey b.frame ≤ arbKey m.frame := hacc m hm
    refine ⟨?_, fun y hy => ?_, fun y hy => Nat.le_trans hbm (hma y hy)⟩
    · obtain hin | hin := hin
      · exact .inl (List.mem_cons_of_mem _ hin)
      · obtain rfl : b = m := Option.some.inj (hin.trans hm)
        exact hfrom.imp (fun hx => List.mem_cons.2 (.inl hx)) id
    · obtain rfl | hy := List.mem_cons.1 hy
      · exact Nat.le_trans hbm hmx
      · exact hleast y hy

theorem offered_least {x : CanC} {b : TxBuf} (h : offered x = some b) : b ∈ x.bufs ∧ ∀ y ∈ x.bufs, arbKey b.frame ≤ arbKey y.frame := by
  obtain ⟨hin, hleast, -⟩ := foldl_betterOffer x.bufs none b h
  exact ⟨hin.resolve_right nofun, hleast⟩

/-! ## Attempts -/

section
variable {c : Can} {at_ : Nat} {b : TxBuf} {s : State}

theorem txAttempt_offered (h : canSends c (s.reach at_) = true) (ho : offered (s.can.ctl[c]) = some b) :
    txAttempt c at_ s = updCan c (fun x => { x with bufs := x.bufs.map fun y =>
      if y.buf == b.buf then { y with attempt := some (s.reach at_).now,
                                      frame := { y.frame with esi := b.frame.fdf && (s.can.ctl[c]).st == .passive } } else y })
      (s.reach at_) := by
  have ho' : offered ((s.reach at_).can.ctl[c]) = some b := ho
  simp only [txAttempt, h, ho', if_true]
  rfl

theorem attemptEnds_pending (h1 : b.single = false) (h2 : b.cancel = false) (h3 : b.next = none) :
    attemptEnds c b s = updCan c (fun x => { x with bufs := x.bufs.map fun y =>
      if y.buf == b.buf then { y with attempt := none, cancel := false, frame := y.next.getD y.frame, next := none } else y }) s := by
  simp only [attemptEnds, h1, h2, h3, Bool.false_and, Bool.false_eq_true, if_false, Option.isSome_none, onlyIf]

theorem cancelBuffer_pending {buf : Nat} {u : State} (hu : updCan c (fun _ => settleArb c s) s = u)
    (hb : (u.can.ctl[c]).bufs.find? (fun y => y.buf == buf) = some b) (ha : b.attempt = none) :
    cancelBuffer c buf s = cancelResult c buf 1 (freeBuffer c buf u) := by
  simp only [cancelBuffer, hu, hb, ha, Option.isNone_none, if_true]

theorem dropAttempts_some (h : inAttempt c s = some b) : dropAttempts c s = attemptEnds c b s := by simp only [dropAttempts, h]

/-- The frame of a buffer of CANDB has been sent, outside the test modes that receive it again. -/
theorem canSent_database {tdc : Nat} (h : inAttempt c s = some b) (hb : b.buf < 56) (ht : testMode c (txSuccess c at_ tdc s) = 0) :
    canSent c at_ tdc s = txSuccess c at_ tdc s := by
  have hsent : bufferSent c b.buf (txSuccess c at_ tdc s) = txSuccess c at_ tdc s := by
    rw [bufferSent, if_neg (by omega), if_neg (by omega)]
  simp [canSent, h, hsent, ht]

theorem txSuccess_classical {tdc : Nat} {u : State} (hu : updCan c (fun _ => settleArb c (s.reach at_)) (s.reach at_) = u)
    (h : inAttempt c u = some b) (hf : b.frame.fdf = false) :
    txSuccess c at_ tdc s =
      canErrors c (updCan c (fun x => { x with txErr := x.txErr - 1, lastFrame := u.now }) (freeBuffer c b.buf
        ((((u.putNat (Ix.CAN_TX_STAMP c.val) (usAt (b.attempt.getD u.now) u)).putNat (Ix.CAN_TX_ASTAMP c.val)
          (angleStamp c (b.attempt.getD u.now) u).1).useFree).bump (Ix.CAN_TX_COUNT c.val) 0 16))) := by
  simp only [txSuccess, hu, h, hf, Bool.false_and, Bool.false_eq_true, if_false]

end

/-! ## Errors and controller states -/

section
variable {c : Can} {at_ : Nat} {s : State}

theorem settleArb_st (c : Can) (s : State) : (settleArb c s).st = (s.can.ctl[c]).st := by
  unfold settleArb
  dsimp only
  split <;> rfl

/-- An error that the controller receives, of a frame without a further cause. -/
theorem errorFrame_received {kind : Nat} {fdf : Bool} {u : State}
    (hu : updCan c (fun _ => settleArb c (s.reach at_)) (s.reach at_) = u)
    (hst : (u.can.ctl[c]).st = .active ∨ (u.can.ctl[c]).st = .passive) (ht : testMode c u ≠ 3) :
    errorFrame c at_ kind false false fdf 0 s = canErrors c (updCan c (fun x => { x with rxErr := Nat.min 255 (x.rxErr + 1) })
      ((updCan c (fun y => { y with lastErr := kind % 8 }) u).bump (Ix.CAN_ERR_COUNT c.val) 0 8)) := by
  have hrun : ((u.can.ctl[c]).st == .active || (u.can.ctl[c]).st == .passive) = true := by
    obtain h | h := hst <;> rw [h] <;> rfl
  simp only [errorFrame, hu, hrun, ht, if_true, if_false, Bool.false_eq_true]
  rfl

theorem execCanErrorFrame_awake {kind more : Nat} {tx exempt fdf : Bool} (h : (s.can.ctl[c]).st ≠ .sleep) :
    exec (.canErrorFrame c at_ kind tx exempt fdf more) s =
      doneFor .coreRun s fun t => errorFrame c at_ kind tx exempt fdf more t := by
  have hawake : ((s.can.ctl[c]).st == CanSt.sleep) = false := beq_eq_false_iff_ne.2 h
  exact if_neg (by rw [hawake]; exact Bool.false_ne_true)

theorem protocolException_active (h : s.flag (Ix.CAN_CFG c.val) 2 = false) (hst : (s.can.ctl[c]).st = .active) :
    protocolException c at_ s = enterCan c .integrating
      (updCan c (fun x => { x with lastErr := 7 }) ((s.reach at_).bump (Ix.CAN_ERR_COUNT c.val) 24 8)) := by
  have h' : (s.reach at_).flag (Ix.CAN_CFG c.val) 2 = false := h
  have hst' : ((s.reach at_).can.ctl[c]).st = .active := hst
  simp only [protocolException, h', hst', Bool.false_eq_true, if_false, beq_self_eq_true, Bool.true_or, if_true]

theorem integrated_integrating (hst : (s.can.ctl[c]).st = .integrating) (hk : (s.can.ctl[c]).stuck = false) :
    integrated c at_ s = canErrors c (enterCan c .active (s.reach at_)) := by
  have hst' : ((s.reach at_).can.ctl[c]).st = .integrating := hst
  have hk' : ((s.reach at_).can.ctl[c]).stuck = false := hk
  simp only [integrated, hst', hk', onlyIf, Bool.false_eq_true, if_false, beq_self_eq_true, if_true]

/-- A timing that waits, with no frame begun and the controller neither asleep nor bus-off, makes it integrate. -/
theorem timingApply_waiting (hw : (s.can.ctl[c]).timingWait = true) (hb : (s.can.ctl[c]).bufs.any (fun b => begunNow c b s) = false)
    (hsl : (s.can.ctl[c]).st ≠ .sleep) (hoff : (s.can.ctl[c]).st ≠ .busOff) :
    timingApply c at_ s = canIntegrate c (s.reach at_) := by
  have hkeep : ((s.can.ctl[c]).st == .sleep || ((s.can.ctl[c]).st == .busOff && canTimingOk c (s.reach at_))) = false := by
    rw [beq_eq_false_iff_ne.2 hsl, beq_eq_false_iff_ne.2 hoff]; rfl
  simp only [timingApply, hw, hb, hkeep, Bool.not_false, Bool.and_self, Bool.and_false, if_true, Bool.false_eq_true, if_false]

theorem timingApply_begun (h : (s.can.ctl[c]).bufs.any (fun b => begunNow c b s) = true) : timingApply c at_ s = s :=
  if_neg (by rw [h, Bool.not_true, Bool.and_false]; exact Bool.false_ne_true)

theorem timingApply_notWaiting (h : (s.can.ctl[c]).timingWait = false) : timingApply c at_ s = s :=
  if_neg (by rw [h, Bool.false_and]; exact Bool.false_ne_true)

end

/-- The network management follows where the timing no longer waits. -/
theorem completes_timingApply {c : Can} {at_ : Nat} {s t : State} (h : timingApply c at_ s = t) :
    Completes (.canTimingApply c at_) s
      (if (s.can.ctl[c]).timingWait && !(t.can.ctl[c]).timingWait then nmFollowMode c t else t) :=
  completes_of (f := fun u => let t := timingApply c at_ u
    if (u.can.ctl[c]).timingWait && !(t.can.ctl[c]).timingWait then nmFollowMode c t else t) rfl (by rw [h])

theorem completes_timingApply_same {c : Can} {at_ : Nat} {s : State} (h : timingApply c at_ s = s) :
    Completes (.canTimingApply c at_) s s := by
  have hdone := completes_timingApply h
  rwa [Bool.and_not_self] at hdone

/-! ## The CAN words -/

section
variable {r : Requester} {m : Measured} (c : Can) {v : Word} {s : State}

theorem isW1c_can : ∀ c : Can, isW1c (Ix.CAN_TXB_PEND_LO c.val) = true ∧ isW1c (Ix.CAN_TXB_PEND_HI c.val) = true ∧
    isW1c (Ix.CAN_RECOVER c.val) = false ∧ isW1c (Ix.CAN_TEST c.val) = false := by decide +kernel

theorem find_canPend : ∀ (c : Can) (hi : Bool),
    let i := if hi then Ix.CAN_TXB_PEND_HI c.val else Ix.CAN_TXB_PEND_LO c.val
    ((List.finRange 4).find? fun t => Ix.LED_OUTAGE t.val == i) = none ∧
    ((List.finRange 3).find? fun d => Ix.CAN_TXB_PEND_LO d.val == i || Ix.CAN_TXB_PEND_HI d.val == i) = some c ∧
    (Ix.CAN_TXB_PEND_HI c.val == i) = hi ∧
    i ≠ Ix.HS_LATCHED_LO ∧ i ≠ Ix.HS_LATCHED_HI ∧ i ≠ Ix.LSD_LATCHED ∧ i ≠ Ix.HB_LATCHED ∧ i ≠ Ix.LED_LATCHED ∧
    i ≠ Ix.MOT_LATCHED ∧ i ≠ Ix.IMU_CLEAR ∧ i ≠ Ix.HST_IRQ_CAUSE := by decide +kernel

theorem clearBits_canPend (hi : Bool) :
    clearBits (if hi then Ix.CAN_TXB_PEND_HI c.val else Ix.CAN_TXB_PEND_LO c.val) v s = cancelMask c (if hi then 32 else 0) v s := by
  obtain ⟨hled, hcan, hwhich, h1, h2, h3, h4, h5, h6, h7, h8⟩ := find_canPend c hi
  simp only [clearBits, hled, hcan, hwhich, h1, h2, h3, h4, h5, h6, h7, h8, if_false]

theorem find_canCommand : ∀ c : Can,
    ((List.finRange 3).find? fun d => Ix.CAN_RECOVER d.val == Ix.CAN_RECOVER c.val || Ix.CAN_TEST d.val == Ix.CAN_RECOVER c.val) = some c ∧
    ((List.finRange 3).find? fun d => Ix.CAN_RECOVER d.val == Ix.CAN_TEST c.val || Ix.CAN_TEST d.val == Ix.CAN_TEST c.val) = some c ∧
    (Ix.CAN_RECOVER c.val == Ix.CAN_TEST c.val) = false ∧ Ix.CAN_RECOVER c.val / 256 = 0x20 ∧ Ix.CAN_TEST c.val / 256 = 0x20 := by
  decide +kernel

theorem commandWord_canRecover : commandWord r m (Ix.CAN_RECOVER c.val) v s = some (0, canRecover c v s) := by
  obtain ⟨hfind, -, -, hpage, -⟩ := find_canCommand c
  simp only [commandWord, hpage, hfind, beq_self_eq_true, if_true]

theorem commandWord_canTest : commandWord r m (Ix.CAN_TEST c.val) v s = some (0, canTest c v s) := by
  obtain ⟨-, hfind, hne, -, hpage⟩ := find_canCommand c
  simp only [commandWord, hpage, hfind, hne, Bool.false_eq_true, if_false]

theorem cleanValue_canRecover : ∀ c : Can, bit (cleanValue (Ix.CAN_RECOVER c.val) 1) 0 = true := by decide +kernel

@[simp] theorem noteRequest_can (r : Requester) (s : State) : (noteRequest r s).can = s.can := by rw [noteRequest_eq]

/-- In MANUAL a written 1 starts the recovery of a bus-off controller. -/
theorem canRecover_manual (hb : bit v 0 = true) (hst : (s.can.ctl[c]).st = .busOff) (hm : s.fld (Ix.CAN_BUSOFF c.val) 0 2 = 1) :
    canRecover c v s = updCan c (fun x => { x with recovering := true }) s := by
  simp only [canRecover, hb, hst, hm, beq_self_eq_true, Bool.and_self, if_true]

end

/-- Settles O37, clause by clause from the attempts, the errors and the words above. -/
theorem canTransmission : Obligations.CanTransmission := by
  unfold Obligations.CanTransmission
  refine ⟨fun x b h => offered_least h, fun c at_ b s h ho => completes_of rfl (txAttempt_offered h ho), ?noSend, ?lost,
    fun c buf b s hb ha => cancelBuffer_pending rfl hb ha, ?cancel, ?success, ?error, fun c at_ s h hst => completes_of rfl (protocolException_active h hst),
    ?hold, ?recovery, ?recover, ?stuck, fun c b s h => dropAttempts_some h, fun c at_ s hst hk => completes_of rfl (integrated_integrating hst hk), ?apply, ?begun,
    ?notWaiting, ?test⟩
  case noSend =>
    intro c at_ s h
    exact completes_of rfl (if_neg (by rw [h]; exact Bool.false_ne_true))
  case lost =>
    intro c b s h h1 h2 h3
    exact completes_of (f := fun t => arbLost c t) rfl ((dropAttempts_some h).trans (attemptEnds_pending h1 h2 h3))
  case cancel =>
    intro r c hi v s i h
    refine completes_of rfl ?_
    obtain ⟨hlo, hhi, -, -⟩ := isW1c_can c
    have hw : isW1c i = true := by cases hi <;> assumption
    exact (requestWrite_w1c h hw).trans (clearBits_canPend c hi)
  case success =>
    intro c at_ tdc b s u h hb hu hf ht st
    exact completes_of rfl ((canSent_database h hb ht).trans (txSuccess_classical rfl hu hf))
  case error =>
    intro c at_ kind fdf s u hst ht
    have hsame : (u.can.ctl[c]).st = (s.can.ctl[c]).st := by
      rw [updCan_same]
      exact settleArb_st c _
    have hawake : (s.can.ctl[c]).st ≠ .sleep := by
      rw [← hsame]
      obtain h | h := hst <;> rw [h] <;> decide
    intro hready
    exact completes_of (f := fun t => errorFrame c at_ kind false false fdf 0 t) (execCanErrorFrame_awake hawake)
      (errorFrame_received rfl hst ht) hready
  case hold =>
    intro c s hst hr hm
    have hguard : ((s.can.ctl[c]).st == .busOff && !(s.can.ctl[c]).recovering && s.fld (Ix.CAN_BUSOFF c.val) 0 2 == 0) = true := by
      rw [hst, hr, hm]; rfl
    exact completes_of rfl (if_pos hguard)
  case recovery =>
    intro c at_ s hst hr
    have hguard : ((s.can.ctl[c]).st == .busOff && (s.can.ctl[c]).recovering) = true := by rw [hst, hr]; rfl
    exact completes_of rfl (if_pos hguard)
  case recover =>
    intro r c s h hv hst hm
    obtain ⟨-, -, hw, -⟩ := isW1c_can c
    have hst' : ((noteRequest r s).can.ctl[c]).st = .busOff := by rw [noteRequest_can]; exact hst
    have hm' : (noteRequest r s).fld (Ix.CAN_BUSOFF c.val) 0 2 = 1 := by rw [noteRequest_eq]; exact hm
    exact completes_of rfl ((requestWrite_command h hv hw (commandWord_canRecover c)).trans
      (canRecover_manual c (cleanValue_canRecover c) hst' hm'))
  case stuck =>
    intro c at_ s h
    have hon : ¬((s.can.ctl[c]).st == CanSt.off) = true := fun hc => h (beq_iff_eq.1 hc)
    exact completes_of rfl (if_neg hon)
  case apply =>
    intro c at_ s hw hb hsl hoff t
    have hdone := completes_timingApply (timingApply_waiting (at_ := at_) hw hb hsl hoff)
    have heq : (if (s.can.ctl[c]).timingWait && !(t.can.ctl[c]).timingWait then nmFollowMode c t else t) =
        if (t.can.ctl[c]).timingWait then t else nmFollowMode c t := by
      rw [hw, Bool.true_and]
      cases (t.can.ctl[c]).timingWait <;> rfl
    exact heq ▸ hdone
  case begun => exact fun c at_ s h => completes_timingApply_same (timingApply_begun h)
  case notWaiting => exact fun c at_ s h => completes_timingApply_same (timingApply_notWaiting h)
  case test =>
    intro r c v s h hv
    obtain ⟨-, -, -, hw⟩ := isW1c_can c
    exact completes_of rfl (requestWrite_command h hv hw (commandWord_canTest c))

end Sys2Proof.Machine
end

section
/-!
PROOF. CAN reception (14_can_and_lin.md, R338 to R341): which entry takes a frame, the time-outs, the releases, and the latched record of
an entry.
-/
namespace Sys2Proof.Machine

section
variable {c : Can} {at_ sof : Nat} {f : CanFrame} {s u : State}

theorem frameReceived_active (hst : (s.can.ctl[c]).st = .active) :
    frameReceived c at_ sof f s = filterFrame c f sof (leaveStandby (rxGood c (s.reach at_))) := by
  have hst' : ((s.reach at_).can.ctl[c]).st = .active := hst
  simp only [frameReceived, hst']

theorem frameReceived_busOff (hst : (s.can.ctl[c]).st = .busOff) : frameReceived c at_ sof f s = s.reach at_ := by
  have hst' : ((s.reach at_).can.ctl[c]).st = .busOff := hst
  simp only [frameReceived, hst']

/-- A frame that is neither a wake-up frame nor of a service goes to the entries. -/
theorem filterFrame_entries (hw : (wufAny c f u && decide (c.val < 2)) = false) (hr : f.rtr = false) (hn : isNmFrame c f u = false)
    (hs : serviceMatch c f u = false) :
    filterFrame c f sof u = nmForeign c f (firstMatch c f u).isSome (receiveEntries c f sof u) := by
  simp only [filterFrame, hw, hr, hn, hs, Bool.false_eq_true, if_false]

theorem receiveEntries_unmatched (hr : (s.can.ctl[c]).noRx = false) (hm : firstMatch c f s = none) :
    receiveEntries c f sof s = s.bump (Ix.CAN_RX_COUNT c.val) 16 16 := by
  simp only [receiveEntries, hr, hm, Bool.false_eq_true, if_false]

theorem receiveEntries_matched {m : CanFrameCfg × Nat} (hr : (s.can.ctl[c]).noRx = false) (hm : firstMatch c f s = some m) :
    receiveEntries c f sof s =
      if s.procs.app == .running then acceptEntry c f sof (s.bump (Ix.CAN_RX_COUNT c.val) 0 16)
      else if 64 ≤ (s.can.ctl[c]).rx.length then
        report 0x902 c.val ((s.bump (Ix.CAN_RX_COUNT c.val) 0 16).bump (Ix.CAN_ERR_COUNT c.val) 16 8)
      else updCan c (fun y => { y with rx := y.rx ++ [(f, sof)] }) (s.bump (Ix.CAN_RX_COUNT c.val) 0 16) := by
  simp only [receiveEntries, hr, hm, Bool.false_eq_true, if_false]

theorem rxTimeoutCan_due {n : Nat} {g : CanFrameCfg} {e : CanEntry} (hg : s.can.db.frames[n]? = some g)
    (he : s.can.entries[n]? = some e) (hc : g.chan = c.val) (ht : g.tx = false) (hp : g.time ≠ 0) (hs : e.stale = false)
    (ha : (s.nm.can[c]).st = .awake) :
    rxTimeoutCan n s = report 0x903 c.val
      (staleEntry n true (updEntry n (fun x => { x with stale := true }) (s.reach (e.lastAt + msP g.time)))) := by
  obtain ⟨k, hk⟩ := c
  obtain rfl : g.chan = k := hc
  have hp' : (g.time == 0) = false := beq_eq_false_iff_ne.2 hp
  have hone : ¬(g.tx || g.time == 0 || e.stale || (s.nm.can[(⟨g.chan, hk⟩ : Can)]).st == .busSleep ||
      (s.nm.can[(⟨g.chan, hk⟩ : Can)]).st == .silent) = true := by rw [ht, hp', hs, ha]; decide
  simp only [rxTimeoutCan, hg, he]
  rw [dif_pos hk]
  exact if_neg hone

theorem rxTimeoutLin_due {n t : Nat} {g : LinFrameCfg} (hg : s.lin.sched.frames[n]? = some g) (hd : g.dir = 0) (hp : g.timeout ≠ 0)
    (ht : s.lin.rx.find? (·.1 == n) = some (n, t, false)) :
    rxTimeoutLin n s = forEach (signalsOf s.lin.sched.signals n) (fun p u => staleSource 7 p.2 true u)
      { s.reach (t + msP g.timeout) with lin := { s.lin with rx := (n, t, true) :: s.lin.rx.filter (·.1 != n) } } := by
  have hp' : (g.timeout == 0) = false := beq_eq_false_iff_ne.2 hp
  have hd' : (g.dir != 0) = false := by rw [hd]; rfl
  simp only [rxTimeoutLin, hg, ht, hp', hd', Bool.or_self, Bool.false_eq_true, if_false]
  rfl

theorem releaseEvent_taken {slot b : Nat} {e : Event} (h : takeEvent slot s = some (e, u)) (ha : e.spec.act = .canRelease c b) :
    releaseEvent slot s = fireRelease c b e.slot u := by
  simp only [releaseEvent, h, ha]

theorem releaseFrame_noEntry {b slot : Nat} (h : txEntry c b u = none) : releaseFrame c b slot u = u := by simp only [releaseFrame, h]

end

/-! ## The latched record of an entry -/

/-- A request that changes words alone leaves beside them the mark of the requester and the dwells. -/
theorem after_request {r : Requester} {s t : State} (h : t = { noteRequest r s with words := t.words }) :
    after s t = { s with words := (after s t).words, modes := (noteRequest r s).modes, dwell := (after s t).dwell } := by
  obtain ⟨m, hm⟩ : ∃ m, noteRequest r s = { s with modes := m } := ⟨_, noteRequest_eq r s⟩
  rw [hm] at h ⊢
  obtain ⟨w, rfl⟩ : ∃ w, t = { s with modes := m, words := w } := ⟨_, h⟩
  exact after_of_now rfl rfl

section
variable {r : Requester} {m : Measured} (n : Nat) (s : State)

theorem isW1c_canRxSel : isW1c Ix.CAN_RX_SEL = false := by decide +kernel

theorem commandWord_canRxSel (v : Word) : commandWord r m Ix.CAN_RX_SEL v s = some (0, rxSelect v.toNat s) := rfl

/-- The words of an entry's last frame; none where there is no frame (Table 14-8). -/
def rxRecord (n : Nat) (s : State) : List Nat :=
  match s.can.entries[n % 512]? with
  | some e =>
    match e.last with
    | some x =>
      [x.id % 2 ^ 29 + packBits [x.ide, x.fdf, x.brs] * 2 ^ 29, x.dlc % 16 + packBits [x.esi, e.stampValid] * 2 ^ 4, e.stamp, e.angle]
    | none => []
  | none => []

theorem rxSelect_eq : rxSelect n s =
    putEach (List.range 4) Ix.CAN_RX_REC (fun k => toWord ((rxRecord n s).getD k 0)) (s.putNat Ix.CAN_RX_SEL (n % 512)) := rfl

theorem rxSelect_sel : (rxSelect n s).word Ix.CAN_RX_SEL = toWord (n % 512) := by
  rw [rxSelect_eq, word_putEach_other]
  · exact word_put_same s _ _
  · intro k _
    unfold Ix.CAN_RX_SEL Ix.CAN_RX_REC
    omega

theorem rxSelect_noEntry {k : Nat} (h : s.can.entries[n % 512]? = none) (hk : k < 4) : (rxSelect n s).word (Ix.CAN_RX_REC k) = 0 := by
  rw [rxSelect_eq, word_putEach (List.mem_range.2 hk) fun i j hij => by unfold Ix.CAN_RX_REC at hij; omega]
  simp only [rxRecord, h, List.getD_nil]
  rfl

theorem rxSelect_frame : rxSelect n s = { s with words := (rxSelect n s).words } := by
  rw [rxSelect_eq, putEach_eq]
  rfl

end

/-- Settles O38, clause by clause from the filters, the time-outs and the latched record above. -/
theorem canReception : Obligations.CanReception := by
  unfold Obligations.CanReception
  refine ⟨?active, fun c at_ sof f s hst => completes_of rfl (frameReceived_busOff hst), fun c sof f s hr hm => receiveEntries_unmatched hr hm, ?matched,
    ?timeout, ?timeoutLin, ?release, ?releaseNm, ?select⟩
  case active =>
    intro c at_ sof f s hst u hw hr hn hs
    exact completes_of rfl ((frameReceived_active hst).trans (filterFrame_entries hw hr hn hs))
  case matched =>
    intro c sof f m s hr hm
    rw [receiveEntries_matched hr hm]
    refine ⟨fun ha => if_pos (beq_iff_eq.2 ha), fun ha hl => ?_, fun ha hl => ?_⟩
    · rw [if_neg (fun hc => ha (beq_iff_eq.1 hc)), if_neg (Nat.not_le.2 hl)]
    · rw [if_neg (fun hc => ha (beq_iff_eq.1 hc)), if_pos hl]
  case timeout =>
    intro c n f e s hf he hc ht hp hs ha
    exact completes_of (f := fun t => rxTimeoutCan n t) rfl (rxTimeoutCan_due hf he hc ht hp hs ha)
  case timeoutLin =>
    intro n t f s hf hd hp ht
    exact completes_of (f := fun t => rxTimeoutLin n t) rfl (rxTimeoutLin_due hf hd hp ht)
  case release =>
    intro slot e c b s u h ha hb
    exact ⟨completes_of rfl ((releaseEvent_taken h ha).trans (if_neg hb)), fun hn => releaseFrame_noEntry hn⟩
  case releaseNm =>
    intro slot e c s u h ha
    exact completes_of rfl ((releaseEvent_taken h ha).trans (if_pos rfl))
  case select =>
    intro r v s h hv n
    have hframe := rxSelect_frame (cleanValue Ix.CAN_RX_SEL v).toNat (noteRequest r s)
    refine gives_of_eq rfl (requestWrite_command h hv isW1c_canRxSel (commandWord_canRxSel _ _)) ⟨rxSelect_sel _ _, fun hn k hk => ?_, ?_⟩
    · rw [after_word]
      exact rxSelect_noEntry _ _ (by rw [noteRequest_can]; exact hn) hk
    · exact after_request hframe

end Sys2Proof.Machine
end

section
/-!
PROOF. The LIN channels (14_can_and_lin.md, R346 to R352; 15_network_sleep.md, R378, R379): slots, responses, headers, and the sleep and
wake pulses.
-/
namespace Sys2Proof.Machine

/-! ## The schedule -/

section
variable {l : Lin} {at_ : Nat} {s u : State}

theorem slotStart_noCommander (h : linRole l s ≠ 1) : slotStart l at_ s = s :=
  if_pos (by rw [bne_iff_ne.2 h, Bool.true_or])

/-- The slot that is due of an awake commander whose schedule runs. -/
theorem slotStart_running (hr : linRole l s = 1) (ha : (s.nm.lin[l]).st = 1) (hs : (s.lin.ch[l]).status = 1)
    (hu : s.reach (s.lin.ch[l]).nextAt = u) :
    slotStart l at_ s =
      if s.procs.app != .running then updLin l (fun y => { y with status := 2 }) u
      else if s.band == .crank then updLin l (fun y => { y with status := 3 }) u
      else
        let s2 := if wantTable l u = (s.lin.ch[l]).chosen then linWrap l u else linTable l (wantTable l u) u.now u
        if (s2.lin.ch[l]).status = 1 then linRun l s2 else s2 := by
  have hrole : (linRole l s != 1 || (s.nm.lin[l]).st != 1) = false := by rw [hr, ha]; rfl
  simp only [slotStart, hrole, hs, Bool.false_eq_true, if_false, if_true, ← hu]

theorem linWrap_inTable (h : (u.lin.ch[l]).nextSlot < tableLen (u.lin.ch[l]).table u) : linWrap l u = u := if_pos h

end

/-! ## Responses and headers -/

section
variable {l : Lin} {at_ n : Nat} {d : List Byte} {check : Byte} {framing bitError : Bool} {h : LinHdr} {f : LinFrameCfg} {s : State}

theorem linResponse_noHeader (hh : (s.lin.ch[l]).header = none) :
    linResponse l at_ d check framing bitError s = linActive l (s.reach at_) := by
  have hh' : ((linActive l (s.reach at_)).lin.ch[l]).header = none := hh
  simp only [linResponse, hh']

/-- The response of another node to the header of a subscribed, unconditional frame is checked. -/
theorem linResponse_subscribed (hh : (s.lin.ch[l]).header = some h) (he : h.entry = some n) (hf : s.lin.sched.frames[n]? = some f)
    (hd : f.dir = 0) (ht : f.typ = 0) (hi : h.id ≠ 0x3C) :
    linResponse l at_ d check framing bitError s =
      linChecked l h f n d check framing (updLin l (fun x => { x with header := none }) (linActive l (s.reach at_))) := by
  have hh' : ((linActive l (s.reach at_)).lin.ch[l]).header = some h := hh
  have hf' : (linActive l (s.reach at_)).lin.sched.frames[n]? = some f := hf
  have hown : (f.dir == 1 || (f.typ == 3 && h.id == 0x3C && linRole l (linActive l (s.reach at_)) == 1)) = false := by
    rw [hd, ht]; rfl
  simp only [linResponse, hh', he, hf', hown, hi, false_and, Bool.false_eq_true, if_false]
  exact if_pos hd

theorem linChecked_wrong (ht : f.typ = 0) (hc : check.toNat ≠ linCheck (linClassic f) h.id d) :
    linChecked l h f n d check false s = report 0x911 l.val (s.bump (Ix.LIN_ERR_COUNT l.val) 8 8) := by
  have hbad : (check.toNat != linCheck (linClassic f) h.id d) = true := bne_iff_ne.2 hc
  have htyp : (f.typ == 1) = false := by rw [ht]; rfl
  simp only [linChecked, hbad, htyp, Bool.and_false, Bool.false_and, Bool.false_eq_true, if_false, if_true]

theorem linChecked_right (hc : check.toNat = linCheck (linClassic f) h.id d) : linChecked l h f n d check false s = linAccept l n d s := by
  have hgood : (check.toNat != linCheck (linClassic f) h.id d) = false := by rw [hc, bne_self_eq_false]
  simp only [linChecked, hgood, Bool.or_self, Bool.false_and, Bool.false_eq_true, if_false]

theorem linNoResponse_commander (hh : (s.lin.ch[l]).header = some h) (he : h.entry = some n) (hf : s.lin.sched.frames[n]? = some f)
    (hd : f.dir = 0) (hr : linRole l s = 1) :
    linNoResponse l s = report 0x910 l.val ((updLin l (fun x => { x with header := none })
      (s.reach ((s.nm.lin[l]).lastBus + ceilDiv (14 * (34 + 10 * (f.len + 1)) * 4000000)
        (Nat.max 1 (s.fld (Ix.LIN_CFG l.val) 16 15))))).bump (Ix.LIN_ERR_COUNT l.val) 0 8) := by
  simp only [linNoResponse, hh, he, Option.bind_some, hf, hd, hr, and_self, if_true]

/-- A header at an awake responder. -/
theorem linHeaderRx_responder {pid : Byte} {syncOk : Bool} {u : State} (hr : linRole l s = 2) (ha : (s.nm.lin[l]).st = 1)
    (hu : updNmLin l (fun x => { x with pulses := 0 }) (linActive l (s.reach at_)) = u) :
    (syncOk = false ∨ linPid (pid.toNat % 64) ≠ pid.toNat →
      linHeaderRx l at_ pid syncOk s = report 0x914 l.val (u.bump (Ix.LIN_ERR_COUNT l.val) 16 8)) ∧
    (syncOk = true → linPid (pid.toNat % 64) = pid.toNat →
      (u.lin.sched.frames.findIdx? fun f => f.chan == l.val && f.id == pid.toNat % 64) = none →
      linHeaderRx l at_ pid syncOk s = updLin l (fun x => { x with header := some { id := pid.toNat % 64, entry := none }, sent := [] }) u) := by
  have hrole : (linRole l (s.reach at_) != 2 || ((s.reach at_).nm.lin[l]).st != 1) = false := by
    change (linRole l s != 2 || (s.nm.lin[l]).st != 1) = false
    rw [hr, ha]; rfl
  refine ⟨fun hbad => ?_, fun hs hp hn => ?_⟩
  · have hone : (!syncOk || linPid (pid.toNat % 64) != pid.toNat) = true := by
      obtain hbad | hbad := hbad
      · rw [hbad]; rfl
      · rw [bne_iff_ne.2 hbad, Bool.or_true]
    simp only [linHeaderRx, hrole, hu, hone, Bool.false_eq_true, if_false, if_true]
  · have hgood : (!syncOk || linPid (pid.toNat % 64) != pid.toNat) = false := by rw [hs, hp, bne_self_eq_false]; rfl
    simp only [linHeaderRx, hrole, hu, hgood, hn, Bool.false_eq_true, if_false]

end

/-! ## Sleep and wake pulses -/

section
variable {l : Lin} {s u : State}

theorem updNmLin_congr {f g : NmLin → NmLin} (h : f s.nm.lin[l] = g s.nm.lin[l]) : updNmLin l f s = updNmLin l g s := by
  simp only [updNmLin, h]

theorem goToSleep_due (hr : linRole l s = 1) (ha : (s.nm.lin[l]).st = 1)
    (hu : s.reach (if (s.lin.ch[l]).status = 1 then
      Nat.max (Nat.max (s.nm.lin[l]).readyAt (s.nm.lin[l]).needUntil + msP (100 * s.fld (Ix.NM_LIN_TIME l.val) 0 8)) (s.lin.ch[l]).nextAt
      else Nat.max (s.nm.lin[l]).readyAt (s.nm.lin[l]).needUntil + msP (100 * s.fld (Ix.NM_LIN_TIME l.val) 0 8)) = u)
    (hn : linNeed l u = false) (hp : (s.lin.ch[l]).status ≠ 3) (hb : s.band ≠ .crank) :
    goToSleep l s = linSleep l (updLin l (fun y => { y with sent := linFrame true 0x3C goToSleepData }) u) := by
  have hstay : (linRole l s != 1 || (s.nm.lin[l]).st != 1 || linNeed l u || decide ((s.lin.ch[l]).status = 3) || s.band == .crank) = false := by
    rw [hr, ha, hn, decide_eq_false hp, beq_eq_false_iff_ne.2 hb]; rfl
  simp only [goToSleep, hu, hstay, Bool.false_eq_true, if_false]

theorem goToSleep_need
    (hu : s.reach (if (s.lin.ch[l]).status = 1 then
      Nat.max (Nat.max (s.nm.lin[l]).readyAt (s.nm.lin[l]).needUntil + msP (100 * s.fld (Ix.NM_LIN_TIME l.val) 0 8)) (s.lin.ch[l]).nextAt
      else Nat.max (s.nm.lin[l]).readyAt (s.nm.lin[l]).needUntil + msP (100 * s.fld (Ix.NM_LIN_TIME l.val) 0 8)) = u)
    (hn : linNeed l u = true) : goToSleep l s = s := by
  simp only [goToSleep, hu, hn, Bool.or_true, Bool.true_or, if_true]

end

/-- Settles O39, clause by clause from the schedule, the responses and the pulses above. -/
theorem linRows : Obligations.LinRows := by
  unfold Obligations.LinRows
  refine ⟨fun l at_ s h => completes_of rfl (slotStart_noCommander h), ?stopped, ?goesOn, ?noHeader, ?wrong, ?right, ?missing, ?header, ?sleep,
    fun l s hr ha => completes_of rfl (if_pos ⟨hr, ha⟩), ?short, fun l at_ dur s ha hd hp => completes_of rfl (if_pos ⟨ha, hd, hp⟩), ?pulse⟩
  case stopped =>
    intro l at_ s hr ha hs hp
    exact completes_of rfl ((slotStart_running hr ha hs rfl).trans (if_pos (bne_iff_ne.2 hp)))
  case goesOn =>
    intro l at_ s hr ha hs hp hb u hw ht
    have hwrap : linWrap l u = u := linWrap_inTable ht
    have hstatus : (u.lin.ch[l]).status = 1 := hs
    refine completes_of rfl ((slotStart_running hr ha hs rfl).trans ?_)
    rw [if_neg (by rw [hp]; decide), if_neg (fun hc => hb (beq_iff_eq.1 hc))]
    change (if ((if wantTable l u = (s.lin.ch[l]).chosen then linWrap l u else linTable l (wantTable l u) u.now u).lin.ch[l]).status = 1
      then _ else _) = _
    rw [if_pos hw, hwrap, if_pos hstatus]
  case noHeader => exact fun l at_ d check framing bitError s h => completes_of rfl (linResponse_noHeader h)
  case wrong =>
    intro l at_ n d check bitError h f s hh he hf hd ht hi hc
    exact completes_of rfl ((linResponse_subscribed hh he hf hd ht hi).trans (linChecked_wrong ht hc))
  case right =>
    intro l at_ n d check bitError h f s hh he hf hd ht hi hc
    exact completes_of rfl ((linResponse_subscribed hh he hf hd ht hi).trans (linChecked_right hc))
  case missing =>
    exact fun l n h f s hh he hf hd hr => completes_of rfl (linNoResponse_commander hh he hf hd hr)
  case header =>
    intro l at_ pid syncOk s hr ha u
    obtain ⟨hbad, hgood⟩ := linHeaderRx_responder (at_ := at_) (pid := pid) (syncOk := syncOk) hr ha rfl
    exact ⟨fun h => completes_of rfl (hbad h), fun hs hp hn => completes_of rfl (hgood hs hp hn)⟩
  case sleep =>
    intro l s t u
    exact ⟨fun hr ha hn hp hb => completes_of rfl (goToSleep_due hr ha rfl hn hp hb), fun hn => completes_of rfl (goToSleep_need rfl hn)⟩
  case short =>
    intro l at_ dur s h
    exact completes_of rfl (if_neg fun ⟨_, hd, _⟩ => Nat.not_lt.2 h hd)
  case pulse =>
    intro l s hr ha hp u
    exact completes_of rfl ((if_pos ⟨hr, ha, hp⟩).trans (updNmLin_congr rfl))

end Sys2Proof.Machine
end

section
/-!
PROOF. Network sleep (15_network_sleep.md, R355 to R369): own need, the sleep sequence of a master, a follower's and a NONE channel's
silence, and the NM frames.
-/
namespace Sys2Proof.Machine

section
variable {c : Can} {s u : State}

/-! ## Own need -/

theorem needChange_can {ch : Fin 5} {at_ : Nat} (h : ch.val = c.val) : needChange ch at_ s = nmNeed c (s.reach at_) := by
  have hlt : ch.val < 3 := h ▸ c.isLt
  have hc : (⟨ch.val, hlt⟩ : Can) = c := Fin.ext h
  rw [needChange, dif_pos hlt, hc]

theorem nmNeed_ends (hr : realNeed c s = false) (ho : ownNeed c s = false) (hst : (s.nm.can[c]).st = .awake) :
    nmNeed c s = nmEnterReady c s := by
  simp only [nmNeed, hr, ho, hst, Bool.false_eq_true, if_false]

theorem nmNeed_returns (hr : realNeed c s = false) (ho : ownNeed c s = true) (hst : (s.nm.can[c]).st = .ready) :
    nmNeed c s = nmAwake c s := by
  simp only [nmNeed, hr, ho, hst, Bool.false_eq_true, if_false, if_true]

/-! ## The sleep sequence -/

theorem readyExpiry_due (hst : (s.nm.can[c]).st = .ready) (hr : nmRole c s = 1) (ho : ownNeed c s = false) :
    readyExpiry c s = nmPrepare c false (s.reach ((s.nm.can[c]).readyAt + nmReady c s)) := by
  simp only [readyExpiry, hst, hr, ho, beq_self_eq_true, Bool.not_false, Bool.and_self, if_true]

theorem readyExpiry_other (hst : (s.nm.can[c]).st ≠ .ready) : readyExpiry c s = s := by
  simp only [readyExpiry, beq_eq_false_iff_ne.2 hst, Bool.false_and, Bool.false_eq_true, if_false]

theorem sleepCmd_due (hst : (s.nm.can[c]).st = .prepare) (hr : nmRole c s = 1) (hsil : (s.nm.can[c]).silence = false) :
    sleepCmd c s = releaseNm c (updNm c (fun y => { y with cmdAt := (s.reach (s.nm.can[c]).cmdAt).now + msP 100 })
      (s.reach (s.nm.can[c]).cmdAt)) := by
  simp only [sleepCmd, hst, hr, hsil, beq_self_eq_true, Bool.not_false, Bool.and_self, if_true]

theorem silenceExpiry_due (hst : (s.nm.can[c]).st = .prepare) (hsil : (s.nm.can[c]).silence = true) :
    silenceExpiry c s = nmSleep c false (s.reach (Nat.max (s.nm.can[c]).s1End (s.can.ctl[c]).lastFrame + nmSilence c s)) := by
  simp only [silenceExpiry, hst, hsil, beq_self_eq_true, Bool.and_self, if_true]

/-- Outside PREPARE no timer of the sleep sequence acts. -/
theorem sequence_other (hst : (s.nm.can[c]).st ≠ .prepare) : sleepCmd c s = s ∧ silenceExpiry c s = s ∧ offenderTimeout c s = s := by
  simp only [sleepCmd, silenceExpiry, offenderTimeout, beq_eq_false_iff_ne.2 hst, Bool.false_and, Bool.false_eq_true, if_false,
    and_self]

theorem offenderTimeout_due (hst : (s.nm.can[c]).st = .prepare) (hsil : (s.nm.can[c]).silence = true) (hr : nmRole c s = 1)
    (hu : s.reach ((s.nm.can[c]).s1End + nmOffender c s) = u) :
    offenderTimeout c s =
      if u.flag (Ix.NM_CFG c.val) 8 && !(s.nm.can[c]).heldSince && !(s.nm.can[c]).matchedSince then nmSleep c true u
      else onlyIf (!(s.nm.can[c]).offenderSaid) (report 0xA00 c.val)
        (updNm c (fun y => { y with sent := 0, silence := false, repeats := y.repeats + 1, cmdAt := u.now, offenderSaid := true })
          (u.bump (Ix.NM_COUNTS c.val) 16 8)) := by
  simp only [offenderTimeout, hst, hsil, hr, hu, beq_self_eq_true, Bool.and_self, if_true]

/-! ## Idle channels -/

theorem idleTimeout_none (hr : nmRole c s = 0) (hst : (s.nm.can[c]).st = .awake) (ho : ownNeed c s = false) :
    idleTimeout c s = nmSleep c false (s.reach ((s.can.ctl[c]).lastFrame + nmIdle c s)) := by
  simp only [idleTimeout, hr, hst, ho, beq_self_eq_true, Bool.true_or, Bool.not_false, Bool.and_self, if_true]

theorem idleTimeout_master (hr : nmRole c s = 1) : idleTimeout c s = s := by simp only [idleTimeout, hr]

/-- A follower without its master's frame: reported once, and without need it enters PREPARE. -/
theorem idleTimeout_follower (hr : nmRole c s = 2) (hst : (s.nm.can[c]).st = .awake ∨ (s.nm.can[c]).st = .ready)
    (hu : updNm c (fun y => { y with lostSaid := true }) (s.reach ((s.nm.can[c]).masterAt + nmIdle c s)) = u) :
    idleTimeout c s =
      let s2 := onlyIf (!(s.nm.can[c]).lostSaid) (report 0xA01 c.val) u
      if ownNeed c s2 then s2 else nmPrepare c true s2 := by
  have hlive : ((s.nm.can[c]).st == .awake || (s.nm.can[c]).st == .ready) = true := by
    obtain h | h := hst <;> rw [h] <;> rfl
  simp only [idleTimeout, hr, hlive, hu, if_true]

/-! ## NM frames -/

theorem nmFrameReceived_nm {at_ : Nat} {f : CanFrame} (hst : (s.can.ctl[c]).st = .active) (hf : isNmFrame c f (s.reach at_) = true) :
    nmFrameReceived c at_ f s = nmReceive c f ((rxGood c (s.reach at_)).bump (Ix.CAN_RX_COUNT c.val) 0 16) := by
  have hst' : ((s.reach at_).can.ctl[c]).st = .active := hst
  simp only [nmFrameReceived, hst', hf, beq_self_eq_true, Bool.true_or, Bool.and_self, if_true]

theorem nmFrameReceived_other {at_ : Nat} {f : CanFrame} (hf : isNmFrame c f (s.reach at_) = false) :
    nmFrameReceived c at_ f s = s.reach at_ := by
  simp only [nmFrameReceived, hf, Bool.and_false, Bool.false_eq_true, if_false]

/-- A frame that holds an awake channel, not a master's, is noted and does no more. -/
theorem nmReceive_holds {f : CanFrame} (hh : nmHolds c f u = true) (hm : nbits (f.data.getD 1 0).toNat 4 1 = 0)
    (hst : (u.nm.can[c]).st = .awake) :
    nmReceive c f u = updNm c (fun x => { x with
      held := true, pn := x.pn ||| leAt f.data 4 2, doubtful := false, readyAt := u.now, heldSince := true }) u := by
  have hawake : ∀ r, (nmRole c u == r && ((u.nm.can[c]).st == .ready || (u.nm.can[c]).st == .prepare)) = false := fun r => by
    rw [hst, show (NmSt.awake == NmSt.ready || NmSt.awake == NmSt.prepare) = false from rfl, Bool.and_false]
  have hno : ¬(nmRole c u = 1 ∧ (u.nm.can[c]).st = .prepare) := fun ⟨_, h⟩ => by rw [hst] at h; cases h
  have hm' : ¬nbits (f.data.getD 1 0).toNat 4 1 = 1 := by rw [hm]; decide
  simp only [nmReceive, if_neg hm', hh, hawake, if_true, onlyIf, Bool.false_eq_true, if_false, if_neg hno]

theorem cycleSend_taken {e : Event} (he : (nmEvents c s).find? (fun x => x.spec.rep == 0) = some e) (ht : takeEvent e.slot s = some (e, u)) :
    cycleSend c s = releaseNm c u := by
  simp only [cycleSend, he, ht]

theorem cycleSend_none (he : (nmEvents c s).find? (fun x => x.spec.rep == 0) = none) : cycleSend c s = s := by simp only [cycleSend, he]

end

/-- Settles O40, clause by clause from the need, the sequence and the frames above. -/
theorem nmSleepRows : Obligations.NmSleepRows := by
  unfold Obligations.NmSleepRows
  refine ⟨fun ch at_ c s h hr ho hst => completes_of rfl ((needChange_can h).trans (nmNeed_ends hr ho hst)),
    fun ch at_ c s h hr ho hst => completes_of rfl ((needChange_can h).trans (nmNeed_returns hr ho hst)),
    fun c s hst hr ho => completes_of rfl (readyExpiry_due hst hr ho), fun c s hst => completes_of rfl (readyExpiry_other hst),
    fun c s hst hr hsil => completes_of rfl (sleepCmd_due hst hr hsil), ?other, fun c s hst hsil => completes_of rfl (silenceExpiry_due hst hsil),
    ?offender, fun c s hr hst ho => completes_of rfl (idleTimeout_none hr hst ho), ?follower, fun c s hr => completes_of rfl (idleTimeout_master hr),
    ?frame, fun c at_ f s hf => completes_of rfl (nmFrameReceived_other hf), fun c e s u he ht => completes_of rfl (cycleSend_taken he ht),
    fun c s he => completes_of rfl (cycleSend_none he)⟩
  case other =>
    intro c s hst
    obtain ⟨hsleep, hsilence, hoffender⟩ := sequence_other hst
    exact ⟨completes_of rfl hsleep, completes_of rfl hsilence, completes_of rfl hoffender⟩
  case offender =>
    intro c s hst hsil hr u
    have hdue := offenderTimeout_due hst hsil hr rfl
    refine ⟨fun hflag hh hm => completes_of rfl (hdue.trans (if_pos ?_)), fun hflag hsaid => completes_of rfl (hdue.trans ((if_neg ?_).trans ?_))⟩
    · rw [hh, hm]
      exact congrArg (· && !false && !false) hflag
    · have hflag' : u.flag (Ix.NM_CFG c.val) 8 = false := hflag
      rw [hflag']
      exact Bool.false_ne_true
    · rw [hsaid]
      rfl
  case follower =>
    intro c s hr hst u
    have hfol := idleTimeout_follower hr hst rfl
    refine ⟨fun hl ho => completes_of rfl (hfol.trans ?_), fun hl ho => completes_of rfl (hfol.trans ?_), fun hl ho => completes_of rfl (hfol.trans ?_)⟩
    · rw [hl]
      exact if_neg (by rw [show ownNeed c (onlyIf (!true) (report 0xA01 c.val) u) = false from ho]; exact Bool.false_ne_true)
    · rw [hl]
      exact if_pos ho
    · rw [hl]
      exact if_neg (by rw [show ownNeed c (onlyIf (!false) (report 0xA01 c.val) u) = false from ho]; exact Bool.false_ne_true)
  case frame =>
    intro c at_ f s hst hf u
    exact ⟨completes_of rfl (nmFrameReceived_nm hst hf), fun hh hm ha => nmReceive_holds hh hm ha⟩

end Sys2Proof.Machine
end

section
/-!
PROOF. Bus wakes, false wakes and the offender log (15_network_sleep.md, R370 to R377).
-/
namespace Sys2Proof.Machine

/-! ## Wakes -/

section
variable {c : Can} {s u : State}

theorem nmWake_awake {kind : Nat} {frame : Option (Nat × Bool)} (h1 : (s.nm.can[c]).st ≠ .busSleep) (h2 : (s.nm.can[c]).st ≠ .silent) :
    nmWake c kind frame s = s := by
  simp only [nmWake, beq_eq_false_iff_ne.2 h1, beq_eq_false_iff_ne.2 h2, Bool.or_self, Bool.false_eq_true, if_false]

/-- A wake by the bus records its kind, its frame and its instant, with need for READY from then on. -/
theorem nmWake_byBus {kind : Nat} {frame : Option (Nat × Bool)} :
    (s.nm.can[c]).st = .busSleep ∨ (s.nm.can[c]).st = .silent → kind ≠ 1 →
    nmWake c kind frame s = nmAwake c (((updNm c (fun x => { x with
      wakeKind := kind, wakeFrame := frame, wakeAt := s.now, doubtful := true, busWoken := true, wakeUntil := s.now + nmReady c s }) s).putNat
        Ix.NM_WAKE_CAUSE (c.val + kind * 2 ^ 4)).putNat Ix.NM_WAKE_ID
        (match frame with | some f => f.1 % 2 ^ 29 + b2n f.2 * 2 ^ 29 | none => 0)) := by
  intro h hk
  have hsleep : ((s.nm.can[c]).st == .busSleep || (s.nm.can[c]).st == .silent) = true := by
    obtain h | h := h <;> rw [h] <;> rfl
  have hk' : (kind != 1) = true := bne_iff_ne.2 hk
  cases frame <;> simp only [nmWake, hsleep, if_true, if_neg hk, hk', Bool.or_true]

theorem wakePattern_awake {at_ : Nat} (hp : s.modes.mode ≠ .park) :
    wakePattern c at_ s = if selWake c s then s.reach at_ else nmWake c 2 none (s.reach at_) := by
  have hp' : ((s.reach at_).modes.mode == Mode.park) = false := beq_eq_false_iff_ne.2 hp
  simp only [wakePattern, hp', Bool.false_eq_true, if_false]
  rfl

theorem wufWake_match {at_ : Nat} {f : CanFrame} (hp : s.modes.mode ≠ .park) (hw : selWake c s = true)
    (hf : wufAny c f (s.reach at_) = true) (hst : (s.can.ctl[c]).st = .sleep) :
    wufWake c at_ f s = nmWake c 3 (some (f.id, f.ide)) (parkSourceFires (4 + c.val) (leaveStandby (s.reach at_))) := by
  have hp' : ((s.reach at_).modes.mode == Mode.park) = false := beq_eq_false_iff_ne.2 hp
  have hall : (selWake c (s.reach at_) && wufAny c f (s.reach at_) && ((s.reach at_).can.ctl[c]).st == .sleep) = true := by
    rw [hf, show selWake c (s.reach at_) = true from hw, show ((s.reach at_).can.ctl[c]).st = .sleep from hst]; rfl
  simp only [wufWake, hall, hp', if_true, Bool.false_eq_true, if_false]

theorem wufWake_noMatch {at_ : Nat} {f : CanFrame} (hf : wufAny c f (s.reach at_) = false) : wufWake c at_ f s = s.reach at_ := by
  simp only [wufWake, hf, Bool.and_false, Bool.false_and, Bool.false_eq_true, if_false]

theorem bump_modes (s : State) (i lo w : Nat) : (s.bump i lo w).modes = s.modes := rfl

theorem decoderFallback_over (hu : report 0xA02 c.val (s.bump (Ix.NM_COUNTS c.val) 24 8) = u) (hw : selWake c s = true)
    (hst : (s.can.ctl[c]).st = .sleep) (he : 31 < (s.nm.can[c]).decErr) (hp : u.modes.mode ≠ .park) :
    decoderFallback c s = nmWake c 4 none u := by
  have hmodes : u.modes = s.modes := by
    exact hu ▸ (faultFrame_report 0xA02 c.val (s.bump (Ix.NM_COUNTS c.val) 24 8)).modes.trans (bump_modes ..)
  have hguard : (selWake c s && (s.can.ctl[c]).st == .sleep && decide (31 < (s.nm.can[c]).decErr)) = true := by
    rw [hw, hst, decide_eq_true he]; rfl
  have hawake : (s.modes.mode == Mode.park) = false := beq_eq_false_iff_ne.2 (hmodes ▸ hp)
  rw [decoderFallback, if_pos hguard, hu, if_neg (by rw [hawake]; exact Bool.false_ne_true)]

theorem decoderFallback_below (he : (s.nm.can[c]).decErr ≤ 31) : decoderFallback c s = s := by
  simp only [decoderFallback, decide_eq_false (Nat.not_lt.2 he), Bool.and_false, Bool.false_eq_true, if_false]

theorem holdExpires_retain {t : Nat} (hh : (s.nm.can[c]).holdEnd = some t) (hpw : s.pw.pw = .retain)
    (hu : updNm c (fun x => { x with holdEnd := none, unarmed := false }) (s.reach t) = u) :
    holdExpires c s = { u with pw := { u.pw with armed := u.pw.armed ++ (nmSources c u).filter fun k => (k == 7) == false } } := by
  have hnot : (u.pw.pw == Power.deep) = false := by
    rw [← hu, show (updNm c (fun x => { x with holdEnd := none, unarmed := false }) (s.reach t)).pw.pw = s.pw.pw from rfl, hpw]
    rfl
  simp only [holdExpires, hh, hpw, true_or, if_true, hu, hnot]

theorem holdExpires_none (hh : (s.nm.can[c]).holdEnd = none) : holdExpires c s = s := by simp only [holdExpires, hh]

end

/-! ## The record of false wakes is cleared (R376) -/

/-- The record of a channel's false wakes without one. -/
def NmC.forgiven (x : NmC) : NmC := { x with falseAt := [], level := 0, holdEnd := none, unarmed := false, parkCount := 0 }

/-- The channels of a list whose bits are 1 are forgiven, one after the other. -/
def forgiveEach (v : Word) (cs : List Can) (s : State) : State := cs.foldl (fun t c => if bit v c.val then nmForgive c t else t) s

section
variable {v : Word} {cs : List Can} {s : State}

theorem forgiveEach_frame (v : Word) (cs : List Can) (s : State) :
    forgiveEach v cs s = { s with nm := { s.nm with can := (forgiveEach v cs s).nm.can } } := by
  induction cs generalizing s with
  | nil => rfl
  | cons c cs ih =>
    rw [forgiveEach, List.foldl_cons, ← forgiveEach, ih]
    split <;> rfl

/-- One channel is forgiven where its bit is 1; the others keep their record. -/
theorem nmForgive_at (c k : Can) (s : State) :
    ((if bit v c.val then nmForgive c s else s).nm.can[k]) = if k = c ∧ bit v c.val = true then (s.nm.can[k]).forgiven else s.nm.can[k] := by
  by_cases hb : bit v c.val = true
  · by_cases hk : k = c
    · subst hk
      rw [if_pos hb, if_pos ⟨rfl, hb⟩]
      exact updNm_same ..
    · rw [if_pos hb, if_neg fun h => hk h.1]
      exact updNm_other _ _ hk
  · rw [if_neg hb, if_neg fun h => hb h.2]

theorem forgiveEach_at (k : Can) :
    (forgiveEach v cs s).nm.can[k] = if k ∈ cs ∧ bit v k.val = true then (s.nm.can[k]).forgiven else s.nm.can[k] := by
  induction cs generalizing s with
  | nil => exact (if_neg fun h => by cases h.1).symm
  | cons c cs ih =>
    rw [forgiveEach, List.foldl_cons, ← forgiveEach, ih, nmForgive_at]
    by_cases hk : k = c
    · subst hk
      by_cases hb : bit v k.val = true
      · simp only [hb, and_true, if_true, List.mem_cons, true_or]
        split <;> rfl
      · simp only [hb, and_false, Bool.false_eq_true, if_false]
    · simp only [hk, false_and, if_false, List.mem_cons, false_or]

end

/-! ## The offender log (R377) -/

section
variable {r : Requester} {m : Measured} {v : Word} (s : State)

theorem insertOff_mem {o x : Offender} {xs : List Offender} (h : x ∈ insertOff o xs) : x = o ∨ x ∈ xs := by
  induction xs with
  | nil => exact .inl (List.mem_singleton.1 h)
  | cons y ys ih =>
    rw [insertOff] at h
    split at h
    · obtain rfl | h := List.mem_cons.1 h
      · exact .inr List.mem_cons_self
      · exact (ih h).imp id (List.mem_cons_of_mem _)
    · exact List.mem_cons.1 h

/-- An entry put in its place keeps the falling order of the counts. -/
theorem insertOff_sorted {o : Offender} {xs : List Offender} (h : xs.Pairwise fun a b => b.count ≤ a.count) :
    (insertOff o xs).Pairwise fun a b => b.count ≤ a.count := by
  induction xs with
  | nil => exact List.pairwise_singleton ..
  | cons y ys ih =>
    obtain ⟨hy, hys⟩ := List.pairwise_cons.1 h
    rw [insertOff]
    split
    case isTrue hle =>
      refine List.pairwise_cons.2 ⟨fun x hx => ?_, ih hys⟩
      obtain rfl | hx := insertOff_mem hx
      · exact hle
      · exact hy x hx
    case isFalse hlt =>
      refine List.pairwise_cons.2 ⟨fun x hx => ?_, h⟩
      obtain rfl | hx := List.mem_cons.1 hx
      · omega
      · have := hy x hx
        omega

theorem rankedOff_sorted : (rankedOff s).Pairwise fun a b => b.count ≤ a.count := by
  have hfold : ∀ (xs acc : List Offender), acc.Pairwise (fun a b => b.count ≤ a.count) →
      (xs.foldl (fun a o => insertOff o a) acc).Pairwise fun a b => b.count ≤ a.count := by
    intro xs
    induction xs with
    | nil => exact fun _ h => h
    | cons x xs ih => exact fun acc h => ih _ (insertOff_sorted h)
  exact hfold _ [] List.Pairwise.nil

/-- The words of the entry of a rank; none beyond the log. -/
def offRecord (k : Nat) (s : State) : List Nat := match (rankedOff s)[k % 256]? with | some o => offWords o | none => []

theorem offSelect_eq (k : Nat) : offSelect k s =
    putEach (List.range 4) Ix.NM_OFF_ENTRY (fun j => toWord ((offRecord k s).getD j 0)) (s.putNat Ix.NM_OFF_SEL (k % 256)) := rfl

theorem offSelect_sel (k : Nat) : (offSelect k s).word Ix.NM_OFF_SEL = toWord (k % 256) := by
  rw [offSelect_eq, word_putEach_other]
  · exact word_put_same s _ _
  · intro j _
    unfold Ix.NM_OFF_SEL Ix.NM_OFF_ENTRY
    omega

theorem offSelect_entry (k : Nat) {j : Nat} (hj : j < 4) :
    (offSelect k s).word (Ix.NM_OFF_ENTRY j) = toWord ((offRecord k s).getD j 0) := by
  rw [offSelect_eq, word_putEach (List.mem_range.2 hj) fun i j hij => by unfold Ix.NM_OFF_ENTRY at hij; omega]

theorem offSelect_frame (k : Nat) : offSelect k s = { s with words := (offSelect k s).words } := by
  rw [offSelect_eq, putEach_eq]
  rfl

theorem commandWord_nmFwClear : commandWord r m Ix.NM_FW_CLEAR v s = some (0, nmFwClear v s) := rfl
theorem commandWord_nmOffSel : commandWord r m Ix.NM_OFF_SEL v s = some (0, offSelect v.toNat s) := rfl
theorem commandWord_nmOffClear : commandWord r m Ix.NM_OFF_CLEAR v s = some (0, offClear v s) := rfl

theorem isW1c_nm : isW1c Ix.NM_FW_CLEAR = false ∧ isW1c Ix.NM_OFF_SEL = false ∧ isW1c Ix.NM_OFF_CLEAR = false := by decide +kernel

theorem offClear_one : offClear (cleanValue Ix.NM_OFF_CLEAR 1) s = { s with nm := { s.nm with offenders := [] } } :=
  if_pos (by decide +kernel)

@[simp] theorem noteRequest_nm (r : Requester) (s : State) : (noteRequest r s).nm = s.nm := by rw [noteRequest_eq]

end

/-- A request that changes the channels' network management alone leaves beside it the mark of the requester and the dwells. -/
theorem after_requestNm {r : Requester} {s t : State} (h : t = { noteRequest r s with nm := { (noteRequest r s).nm with can := t.nm.can } }) :
    after s t = { s with nm := { s.nm with can := (after s t).nm.can }, modes := (noteRequest r s).modes, dwell := (after s t).dwell } := by
  obtain ⟨m, hm⟩ : ∃ m, noteRequest r s = { s with modes := m } := ⟨_, noteRequest_eq r s⟩
  rw [hm] at h ⊢
  obtain ⟨w, rfl⟩ : ∃ w, t = { s with modes := m, nm := { s.nm with can := w } } := ⟨_, h⟩
  exact after_of_now rfl rfl

/-- Settles O41, clause by clause from the wakes, the cleared records and the offender log above. -/
theorem busWakes : Obligations.BusWakes := by
  unfold Obligations.BusWakes
  refine ⟨?pattern, ?patternSelective, fun c kind frame s h1 h2 => nmWake_awake h1 h2, fun c kind frame s h hk => nmWake_byBus h hk,
    fun c at_ f s hp hw hf hst => completes_of rfl (wufWake_match hp hw hf hst), fun c at_ f s hf => completes_of rfl (wufWake_noMatch hf),
    fun c s hw hst he hp => completes_of rfl (decoderFallback_over rfl hw hst he hp), fun c s he => completes_of rfl (decoderFallback_below he),
    fun c t s hh hpw => completes_of rfl (holdExpires_retain hh hpw rfl), fun c s hh => completes_of rfl (holdExpires_none hh), ?forget, ?clear,
    ?select, rankedOff_sorted⟩
  case pattern =>
    intro c at_ s hp hw
    exact completes_of rfl ((wakePattern_awake hp).trans (if_neg (by rw [hw]; exact Bool.false_ne_true)))
  case patternSelective =>
    intro c at_ s hp hw
    exact completes_of rfl ((wakePattern_awake hp).trans (if_pos hw))
  case forget =>
    intro r v s h hv
    obtain ⟨hw, -, -⟩ := isW1c_nm
    refine gives_of_eq rfl (requestWrite_command h hv hw (commandWord_nmFwClear _)) ⟨fun c hb => ?_, fun c hb => ?_, ?_⟩
    · have hat := (forgiveEach_at (s := noteRequest r s) c).trans (if_pos ⟨List.mem_finRange c, hb⟩)
      change ((forgiveEach _ (List.finRange 3) _).nm.can[c]).falseAt = [] ∧ ((forgiveEach _ (List.finRange 3) _).nm.can[c]).level = 0 ∧
        ((forgiveEach _ (List.finRange 3) _).nm.can[c]).holdEnd = none
      rw [hat]
      exact ⟨rfl, rfl, rfl⟩
    · refine (forgiveEach_at (s := noteRequest r s) c).trans ?_
      rw [if_neg fun hc => by rw [hb] at hc; exact Bool.false_ne_true hc.2, noteRequest_nm]
    · exact after_requestNm (forgiveEach_frame _ _ _)
  case clear =>
    intro r s h hv
    obtain ⟨-, -, hw⟩ := isW1c_nm
    refine completes_of rfl ((requestWrite_command h hv hw (commandWord_nmOffClear _)).trans ?_)
    rw [offClear_one, noteRequest_nm]
  case select =>
    intro r v s h hv k
    obtain ⟨-, hw, -⟩ := isW1c_nm
    have hsame : rankedOff (noteRequest r s) = rankedOff s := by rw [rankedOff, noteRequest_nm]; rfl
    have hrec : offRecord (cleanValue Ix.NM_OFF_SEL v).toNat (noteRequest r s) =
        match (rankedOff s)[k]? with | some o => offWords o | none => [] := by rw [offRecord, hsame]
    refine gives_of_eq rfl (requestWrite_command h hv hw (commandWord_nmOffSel _)) ⟨offSelect_sel _ _, fun o ho j hj => ?_, fun ho j hj => ?_, ?_⟩
    · rw [after_word, offSelect_entry _ _ hj, hrec, ho]
    · rw [after_word, offSelect_entry _ _ hj, hrec, ho]
      rfl
    · exact after_request (offSelect_frame _ _)

end Sys2Proof.Machine
end

section
/-!
PROOF. The fabric's links (16_fabric_roll_call.md, R382 to R391; 17_fabric_routes_and_streams.md, R420): turns, HELLO, LEAVE, time-outs
and the link delay.
-/
namespace Sys2Proof.Machine

section
variable {p : Port} {at_ train : Nat} {s : State}

/-- Two changes of a port in a row are one. -/
theorem updPort_updPort (f g : PortS → PortS) : updPort p f (updPort p g s) = updPort p (fun x => f (g x)) s := by
  rw [updPort, updPort_same]
  simp only [updPort, Vector.set_set]

/-! ## Turns -/

theorem turnRx_disabled {ack : Bool} {frame : Option (List Byte)} (h : (s.fab.ports[p]).st = .disabled) :
    turnRx p at_ ack frame train s = s.reach at_ := by
  have h' : ((s.reach at_).fab.ports[p]).st = .disabled := h
  simp only [turnRx, h']

theorem ackRx_noFlight {ack : Bool} (h : (s.fab.ports[p]).flight = none) : ackRx p ack train s = s := by
  simp only [ackRx, h]

/-- A turn at an UP port with no frame that waits for its acknowledgement. -/
theorem turnRx_up {ack : Bool} {frame : Option (List Byte)} (h : (s.fab.ports[p]).st = .up) (hf : (s.fab.ports[p]).flight = none) :
    turnRx p at_ ack frame train s =
      ownTurn p at_ (turnFrame p at_ frame train (updPort p (fun y => { y with lastTurn := (s.reach at_).now }) (s.reach at_))) := by
  have h' : ((s.reach at_).fab.ports[p]).st = .up := h
  have hf' : ((updPort p (fun y => { y with lastTurn := (s.reach at_).now }) (s.reach at_)).fab.ports[p]).flight = none := by
    rw [updPort_same]
    exact hf
  simp only [turnRx, h', ackRx_noFlight hf']

theorem turnFrame_bad {b : List Byte} (hb : frameOf b = none) :
    turnFrame p at_ (some b) train s = updPort p (fun y => { y with ackNext := false }) (s.bump (Ix.FAB_PORT_COUNTS p.val) 0 8) := by
  simp only [turnFrame, hb]

theorem turnFrame_first {b : List Byte} {f : FabFrame} (hb : frameOf b = some f) (h : (s.fab.ports[p]).lastRx = none) :
    turnFrame p at_ (some b) train s = frameRx p at_ f train (updPort p (fun y => { y with ackNext := true, lastRx := some f }) s) := by
  simp only [turnFrame, hb, seenBefore, h, Bool.false_eq_true, if_false]

theorem linkTimeout_up (h : (s.fab.ports[p]).st = .up) :
    linkTimeout p s = portDown p (s.reach ((s.fab.ports[p]).lastTurn + msP 1)) := by
  simp only [linkTimeout, h]

theorem linkTimeout_down (h : (s.fab.ports[p]).st = .down) : linkTimeout p s = s := by simp only [linkTimeout, h]

/-! ## HELLO -/

theorem helloRx_down {f : FabFrame} (h : (s.fab.ports[p]).st = .down) : helloRx p at_ f train s = s.reach at_ := by
  have h' : ((s.reach at_).fab.ports[p]).st = .down := h
  simp only [helloRx, h']
  rfl

/-- What a HELLO says of the neighbour. -/
def heardHello (f : FabFrame) (x : PortS) : PortS :=
  { x with nbrSerial := leAt f.payload 0 8, nbrPrio := leAt f.payload 8 1 % 16, nbrRoot := leAt f.payload 9 8,
           nbrRootPrio := leAt f.payload 17 1, nbrDist := leAt f.payload 18 1, nbrAddr := f.src, helloGot := true }

/-- A HELLO of the own serial at an UP port makes the port a loop, and reports it. -/
theorem helloRx_ownSerial {f : FabFrame} (h : (s.fab.ports[p]).st = .up) (hs : leAt f.payload 0 8 = ownSerial) :
    helloRx p at_ f train s = condFault 0xB00 p.val true
      (updPort p (fun y => { (heardHello f y) with st := .loop, queue := [], flight := none }) (s.reach at_)) := by
  have h' : ((s.reach at_).fab.ports[p]).st = .up := h
  have hser : ((updPort p (heardHello f) (s.reach at_)).fab.ports[p]).nbrSerial = ownSerial := by
    rw [updPort_same]
    exact hs
  have hmerge := updPort_updPort (p := p) (s := s.reach at_) (fun y => { y with st := .loop, queue := [], flight := none }) (heardHello f)
  rw [← hmerge]
  have hawake : ¬(((s.reach at_).fab.ports[p]).st != .training && ((s.reach at_).fab.ports[p]).st != .up) = true := by
    rw [h']
    decide
  exact (if_neg hawake).trans (if_pos hser)

/-! ## Link delay -/

theorem delayRespRx_open {t1 : Nat} {f : FabFrame} (h : (s.fab.ports[p]).t1 = some t1) :
    delayRespRx p at_ f s = updPort p (fun x => { x with
      t1 := none, delay := some (((at_ - t1) - (leAt f.payload 4 4 + 2 ^ 32 - leAt f.payload 0 4) % 2 ^ 32) / 2) }) (s.reach at_) := by
  have h' : ((s.reach at_).fab.ports[p]).t1 = some t1 := h
  simp only [delayRespRx, h']

theorem delayRespRx_none {f : FabFrame} (h : (s.fab.ports[p]).t1 = none) : delayRespRx p at_ f s = s.reach at_ := by
  have h' : ((s.reach at_).fab.ports[p]).t1 = none := h
  simp only [delayRespRx, h']

end

/-- Settles O42, clause by clause from the turns, HELLO and the link delay above. -/
theorem fabricLinkRows : Obligations.FabricLinkRows := by
  unfold Obligations.FabricLinkRows
  refine ⟨fun p at_ ack frame train s h => completes_of rfl (turnRx_disabled h), ?frame, ?badFrame, fun p s h => completes_of rfl (if_pos (beq_iff_eq.2 h)),
    fun p s h => completes_of rfl (linkTimeout_up h), fun p s h => completes_of rfl (linkTimeout_down h), fun p at_ f train s h => completes_of rfl (helloRx_down h),
    ?loop, fun p s h => completes_of rfl (if_pos (beq_iff_eq.2 h)), fun p at_ s h => completes_of rfl (if_pos (beq_iff_eq.2 h)), ?notUp,
    fun p s h => completes_of rfl (if_pos (beq_iff_eq.2 h)), ?request, fun p at_ t1 f s h => completes_of rfl (delayRespRx_open h),
    fun p at_ f s h => completes_of rfl (delayRespRx_none h)⟩
  case frame =>
    intro p at_ ack b f train s h hf hl hb
    refine completes_of rfl ((turnRx_up h hf).trans ?_)
    have hl' : ((updPort p (fun y => { y with lastTurn := (s.reach at_).now }) (s.reach at_)).fab.ports[p]).lastRx = none := by
      rw [updPort_same]
      exact hl
    rw [turnFrame_first hb hl', updPort_updPort]
  case badFrame =>
    intro p at_ ack b train s h hf hb
    exact completes_of rfl ((turnRx_up h hf).trans (congrArg (ownTurn p at_) (turnFrame_bad hb)))
  case loop =>
    intro p at_ f train s h hs
    refine gives_of_eq rfl (helloRx_ownSerial h hs) ?_
    generalize hu : updPort p (fun y => { (heardHello f y) with st := .loop, queue := [], flight := none }) (s.reach at_) = u
    have hport : u.fab.ports[p] = { (heardHello f (s.fab.ports[p])) with st := .loop, queue := [], flight := none } := by
      rw [← hu]
      exact updPort_same ..
    have hfab : (after s (condFault 0xB00 p.val true u)).fab = u.fab := by
      obtain ⟨hframe, -⟩ := faultFrame_condFault 0xB00 p.val true u
      exact (congrArg State.fab hframe :)
    rw [hfab, hport]
    refine ⟨rfl, rfl, rfl, fun q hq => ?_⟩
    rw [← hu]
    exact updPort_other _ _ hq
  case notUp =>
    intro p at_ s h
    have hno : ¬((s.fab.ports[p]).st == LinkSt.up) = true := fun hc => h (beq_iff_eq.1 hc)
    exact ⟨completes_of rfl (if_neg hno), completes_of rfl (if_neg hno), completes_of rfl (if_neg hno), completes_of rfl (if_neg hno)⟩
  case request =>
    intro p at_ s h
    have hup : (((s.reach at_).fab.ports[p]).st == LinkSt.up) = true := beq_iff_eq.2 h
    exact completes_of rfl (if_pos hup)

end Sys2Proof.Machine
end

section
/-!
PROOF. Roll Call (16_fabric_roll_call.md, R391 to R403): the root's hold and epochs, CALL, DECLINE, REPORT, ASSIGN, CLOSE, link changes, and
the words of the root.
-/
namespace Sys2Proof.Machine

/-! ## Sending changes ports and counts alone -/

/-- Of the fabric's record only the ports and the counts of what was sent change, and nothing beside it. -/
def SendFrame (s t : State) : Prop :=
  t = { s with fab := { s.fab with ports := t.fab.ports, seq := t.fab.seq, segs := t.fab.segs, lastSent := t.fab.lastSent } }

section
variable {p : Port} {f : FabFrame} {typ : Nat} {b : Bool} {d : List Byte} {s t u : State}

theorem SendFrame.refl (s : State) : SendFrame s s := rfl

theorem SendFrame.trans (h : SendFrame s t) (k : SendFrame t u) : SendFrame s u := by
  unfold SendFrame at *
  generalize u.fab.ports = ports, u.fab.seq = seq, u.fab.segs = segs, u.fab.lastSent = lastSent at k ⊢
  rw [k, h]

theorem sendFrame_updPort (f : PortS → PortS) : SendFrame s (updPort p f s) := rfl
theorem sendFrame_enqueue : SendFrame s (enqueue p f s) := rfl
theorem sendFrame_sendLink : SendFrame s (sendLink p typ b d s) := rfl

theorem sendFrame_sendParent : SendFrame s (sendParent typ d s) := by
  unfold sendParent
  split
  · exact sendFrame_sendLink
  · exact SendFrame.refl s

theorem sendFrame_sendEntry (last : Bool) (s : State) : SendFrame s (sendEntry last s) :=
  SendFrame.trans sendFrame_sendParent rfl

theorem sendFrame_forEach {α : Type} {xs : List α} {g : α → State → State} (h : ∀ x u, SendFrame u (g x u)) :
    SendFrame s (forEach xs g s) := by
  induction xs generalizing s with
  | nil => exact SendFrame.refl s
  | cons x xs ih => exact SendFrame.trans (h x s) ih

/-- No message changes whether a port is a child of the epoch. -/
theorem child_enqueue (q : Port) : ((enqueue p f s).fab.ports[q]).child = (s.fab.ports[q]).child := by
  by_cases hq : q = p
  · subst hq
    rw [enqueue, updPort_same]
  · rw [enqueue, updPort_other _ _ hq]

theorem child_sendEntry (last : Bool) (q : Port) : ((sendEntry last s).fab.ports[q]).child = (s.fab.ports[q]).child := by
  have hsend : ∀ (d : List Byte), ((sendParent 0x04 d s).fab.ports[q]).child = (s.fab.ports[q]).child := fun d => by
    unfold sendParent
    split
    · exact child_enqueue q
    · rfl
  exact hsend _

end

/-! ## Counting changes words alone -/

/-- Nothing but words changes. -/
def WordsFrame (s t : State) : Prop := t = { s with words := t.words }

section
variable {s t u : State}

theorem WordsFrame.refl (s : State) : WordsFrame s s := rfl

theorem WordsFrame.trans (h : WordsFrame s t) (k : WordsFrame t u) : WordsFrame s u := by
  unfold WordsFrame at *
  generalize u.words = w at k ⊢
  rw [k, h]

theorem WordsFrame.fab (h : WordsFrame s t) : t.fab = s.fab := by rw [h]
theorem WordsFrame.txn (h : WordsFrame s t) : t.txn = s.txn := by rw [h]
theorem WordsFrame.modes (h : WordsFrame s t) : t.modes = s.modes := by rw [h]

theorem wordsFrame_putNat (i v : Nat) (s : State) : WordsFrame s (s.putNat i v) := rfl
theorem wordsFrame_bump (i lo w : Nat) (s : State) : WordsFrame s (s.bump i lo w) := rfl

theorem wordsFrame_ite {c : Prop} [Decidable c] (h : WordsFrame s t) : WordsFrame s (if c then t else s) := by
  split
  · exact h
  · exact WordsFrame.refl s

theorem wordsFrame_closeCounts (dirty : Bool) (n : Nat) (s : State) : WordsFrame s (closeCounts dirty n s) :=
  have hcount : WordsFrame s ((s.putNat Ix.FAB_EPOCH (s.fab.epoch % 2 ^ 32)).bump Ix.FAB_RC_STATS 0 8) :=
    (wordsFrame_putNat ..).trans (wordsFrame_bump ..)
  (hcount.trans (wordsFrame_ite (wordsFrame_bump ..))).trans ((wordsFrame_putNat ..).trans (wordsFrame_putNat ..))

end

/-! ## The root view and the epoch -/

section
variable {p : Port} {at_ : Nat} {f : FabFrame} {s : State}

theorem holdEnds_none (h : s.fab.held = []) : holdEnds s = s := by simp only [holdEnds, h, List.foldl_nil]

theorem holdEnds_one {a b t : Nat} (h : s.fab.held = [(a, b, t)]) :
    holdEnds s = formView (updFab (fun f => { f with held := [] }) (s.reach t)) := by
  have hpast : ¬(s.reach t).now < t := Nat.not_lt.2 (Nat.le_max_right _ _)
  have hnone : ((s.reach t).fab.held.filter fun h => decide ((s.reach t).now < h.2.2)) = [] := by
    rw [show (s.reach t).fab.held = [(a, b, t)] from h]
    simp [hpast]
  simp only [holdEnds, h, List.foldl_cons, List.foldl_nil]
  simp only [updFab, hnone]

/-! ## CALL -/

theorem callRx_notUp (h : (s.fab.ports[p]).st ≠ .up) : callRx p at_ f s = s.reach at_ :=
  if_pos (bne_iff_ne.2 h)

theorem callRx_known (h : (s.fab.ports[p]).st = .up) (he : s.fab.epoch = leAt f.payload 0 4) (hp : s.fab.parent ≠ some p.val) :
    callRx p at_ f s = sendLink p 0x03 false (leBytes (leAt f.payload 0 4) 4) (s.reach at_) := by
  have hup : ¬((s.fab.ports[p]).st != LinkSt.up) = true := by rw [h]; decide
  have hnew : ¬(s.fab.epoch < leAt f.payload 0 4 ∧ (s.fab.node != NodeSt.root) = true) := by rw [he]; exact fun hc => Nat.lt_irrefl _ hc.1
  exact (if_neg hup).trans ((if_neg hnew).trans (if_pos ⟨he, hp⟩))

theorem callRx_rootIdle (h : (s.fab.ports[p]).st = .up) (hn : s.fab.node = .root) (hi : s.fab.inEpoch = false)
    (he : s.fab.epoch < leAt f.payload 0 4) :
    callRx p at_ f s = updFab (fun x => { x with epoch := leAt f.payload 0 4 }) (s.reach at_) := by
  have hup : ¬((s.fab.ports[p]).st != LinkSt.up) = true := by rw [h]; decide
  have hroot : ¬(s.fab.epoch < leAt f.payload 0 4 ∧ (s.fab.node != NodeSt.root) = true) := by rw [hn]; exact fun hc => by cases hc.2
  have hne : s.fab.epoch ≠ leAt f.payload 0 4 := Nat.ne_of_lt he
  have hidle : (!s.fab.inEpoch) = true := by rw [hi]; rfl
  exact (if_neg hup).trans ((if_neg hroot).trans ((if_neg fun hc => hne hc.1).trans ((if_neg fun hc => hne hc.1).trans (if_pos ⟨he, hidle⟩))))

/-- What a node takes from the CALL of a later epoch. -/
def joinCall (p : Port) (now : Nat) (f : FabFrame) (x : Fabric) : Fabric :=
  { x with epoch := leAt f.payload 0 4, inEpoch := true, dirty := false, parent := some p.val, depth := f.hops + 1,
           callRoot := leAt f.payload 4 8, callAt := now, lastSent := false, segs := 0, below := [], assigned := [], mine := none,
           reports := [] }

/-- A CALL goes on to a port: every UP port but the parent is a child of the epoch. -/
def forwardCall (p : Port) (f : FabFrame) (now : Nat) (q : Port) (t : State) : State :=
  let fwd := (t.fab.ports[q]).st == .up && q != p && decide (f.hops + 1 < 63)
  let t1 := updPort q (fun x => { x with child := fwd, finished := false, rcAt := now }) t
  if fwd then enqueue q { f with hops := f.hops + 1 } t1 else t1

theorem sendFrame_forwardCall (now : Nat) (q : Port) (t : State) : SendFrame t (forwardCall p f now q t) := by
  unfold forwardCall
  dsimp only
  split
  · exact SendFrame.trans (sendFrame_updPort _) sendFrame_enqueue
  · exact sendFrame_updPort _

/-- The parent's port is no child of the epoch once the CALL has gone on to it, and stays so. -/
theorem forwardCall_parent (now : Nat) (q : Port) (t : State) (h : q = p ∨ (t.fab.ports[p]).child = false) :
    ((forwardCall p f now q t).fab.ports[p]).child = false := by
  have hport : ((updPort q (fun x => { x with
      child := (t.fab.ports[q]).st == .up && q != p && decide (f.hops + 1 < 63), finished := false, rcAt := now }) t).fab.ports[p]).child =
      false := by
    by_cases hq : p = q
    · subst hq
      rw [updPort_same]
      simp
    · rw [updPort_other _ _ hq]
      exact h.resolve_left fun hc => hq hc.symm
  unfold forwardCall
  dsimp only
  split
  · exact (child_enqueue p).trans hport
  · exact hport

theorem forwardCalls_parent (now : Nat) (cs : List Port) (t : State) (h : p ∈ cs ∨ (t.fab.ports[p]).child = false) :
    ((forEach cs (forwardCall p f now) t).fab.ports[p]).child = false := by
  induction cs generalizing t with
  | nil => exact h.resolve_left fun hc => by cases hc
  | cons c cs ih =>
    refine ih (forwardCall p f now c t) ?_
    obtain hmem | hfalse := h
    · obtain rfl | hmem := List.mem_cons.1 hmem
      · exact .inr (forwardCall_parent now p t (.inl rfl))
      · exact .inl hmem
    · exact .inr (forwardCall_parent now c t (.inr hfalse))

theorem callRx_joins (h : (s.fab.ports[p]).st = .up) (hn : s.fab.node ≠ .root) (he : s.fab.epoch < leAt f.payload 0 4) :
    let u := forEach (List.finRange 3) (forwardCall p f (s.reach at_).now) (updFab (joinCall p (s.reach at_).now f) (s.reach at_))
    callRx p at_ f s = if allFinished u then updFab (fun x => { x with lastSent := true }) (sendEntry true u) else sendEntry false u := by
  have hup : ¬((s.fab.ports[p]).st != LinkSt.up) = true := by rw [h]; decide
  exact (if_neg hup).trans (if_pos ⟨he, bne_iff_ne.2 hn⟩)

/-! ## DECLINE, REPORT and RC_WAIT -/

theorem declineRx_idle (h : s.fab.inEpoch = false) : declineRx p at_ f s = s.reach at_ :=
  if_neg fun ⟨hc, _⟩ => Bool.false_ne_true (h.symm.trans hc)

theorem reportRx_idle (h : s.fab.inEpoch = false) : reportRx p at_ f s = s.reach at_ := by
  have h' : (s.reach at_).fab.inEpoch = false := h
  exact if_pos (by rw [h']; rfl)

theorem assignRx_idle (h : s.fab.inEpoch = false) : assignRx p at_ f s = s.reach at_ := by
  have h' : (s.reach at_).fab.inEpoch = false := h
  exact if_pos (by rw [h']; rfl)

theorem closeRx_idle (h : s.fab.inEpoch = false) : closeRx p at_ f s = s.reach at_ := by
  have h' : (s.reach at_).fab.inEpoch = false := h
  exact if_pos (by rw [h']; rfl)

theorem rcWait_idle (h : s.fab.inEpoch = false) : rcWait p s = s :=
  if_neg (by rw [h]; exact Bool.false_ne_true)

theorem declineRx_child (hi : s.fab.inEpoch = true) (he : leAt f.payload 0 4 = s.fab.epoch) (hc : (s.fab.ports[p]).child = true)
    (hk : (finishChild p (s.reach at_)).fab.epoch = s.fab.epoch) :
    declineRx p at_ f s = updPort p (fun x => { x with child := false }) (finishChild p (s.reach at_)) :=
  (if_pos ⟨hi, he, hc⟩).trans (if_pos hk)

/-- A segment that is not the last, at a node that forwards it. -/
theorem reportRx_forwards (hi : s.fab.inEpoch = true) (he : leAt f.payload 0 4 = s.fab.epoch) (hc : (s.fab.ports[p]).child = true)
    (hn : s.fab.node ≠ .root) (hl : leAt f.payload 7 1 % 2 = 0) :
    reportRx p at_ f s = updFab (fun x => { x with segs := x.segs + 1 })
      (sendParent 0x04 (reportHead s.fab.epoch s.fab.segs (reportEntries p f.payload).length false ++ f.payload.drop 8)
        (updPort p (fun x => { x with rcAt := (s.reach at_).now }) (updFab (fun x => { x with
          below := ((reportEntries p f.payload).map fun e => (ser48 e.serial, p.val)) ++ x.below }) (s.reach at_)))) := by
  have hmine : ¬(!(s.fab.inEpoch && (s.fab.ports[p]).child && leAt f.payload 0 4 == s.fab.epoch)) = true := by
    rw [hi, hc, he, beq_self_eq_true]; decide
  have hroot : ¬(s.fab.node == NodeSt.root) = true := fun hr => hn (beq_iff_eq.1 hr)
  have hlast : ¬leAt f.payload 7 1 % 2 = 1 := by rw [hl]; decide
  exact (if_neg hmine).trans ((if_neg hlast).trans (if_neg hroot))

theorem rcWait_due (hi : s.fab.inEpoch = true) (hc : (s.fab.ports[p]).child = true) (hf : (s.fab.ports[p]).finished = false) :
    rcWait p s = finishChild p (s.reach ((s.fab.ports[p]).rcAt + msP (s.fld Ix.FAB_TIME 8 8))) :=
  if_pos (by rw [hi, hc, hf]; rfl)

/-! ## ASSIGN and CLOSE -/

theorem forEach_keeps {α : Type} {xs : List α} {g : α → State → State} {t : State} (h : ∀ x, g x t = t) : forEach xs g t = t := by
  induction xs with
  | nil => rfl
  | cons x xs ih =>
    rw [forEach, List.foldl_cons, h x]
    exact ih

theorem ofEpoch (hi : s.fab.inEpoch = true) (hp : s.fab.parent = some p.val) (he : leAt f.payload 0 4 = s.fab.epoch) :
    ¬(!(s.fab.inEpoch && s.fab.parent == some p.val && leAt f.payload 0 4 == s.fab.epoch)) = true := by
  rw [hi, hp, he, beq_self_eq_true, beq_self_eq_true]
  decide

/-- An ASSIGN whose one entry is this node's gives its address, and nothing goes on. -/
theorem assignRx_own {e : Nat × Nat × Nat × List Byte} (hi : s.fab.inEpoch = true) (hp : s.fab.parent = some p.val)
    (he : leAt f.payload 0 4 = s.fab.epoch) (hes : assignEntries f.payload = [e]) (hser : e.1 = ser48 ownSerial) :
    assignRx p at_ f s = updFab (fun x => { x with mine := some (e.2.1, e.2.2.1) }) (s.reach at_) := by
  have hown : (e.1 == ser48 ownSerial) = true := beq_iff_eq.2 hser
  have hother : (e.1 != ser48 ownSerial) = false := by rw [bne, hown]; rfl
  refine (if_neg (ofEpoch hi hp he)).trans ?_
  simp only [hes, List.find?_cons, hown, List.filter_cons, hother, Bool.false_and, Bool.false_eq_true, if_false, List.filter_nil,
    List.isEmpty_nil, if_true]
  exact forEach_keeps fun _ => rfl

/-- A CLOSE goes on to the child ports. -/
def forwardClose (f : FabFrame) (s : State) : State :=
  forEach (List.finRange 3) (fun q t => if (t.fab.ports[q]).child then enqueue q { f with hops := f.hops + 1 } t else t) s

/-- The state in which a CLOSE has gone on and ended the epoch. -/
def closedEpoch (f : FabFrame) (s : State) : State :=
  closeCounts (leAt f.payload 6 2 % 2 == 1) (leAt f.payload 4 2)
    (updFab (fun x => { x with inEpoch := false, reloaded := if x.node == .unlisted then [] else x.reloaded,
                               declined := if x.node == .unlisted then [] else x.declined })
      (forwardClose f (if s.fab.node == .unlisted then s.bump Ix.FAB_RC_STATS 24 8 else s)))

theorem sendFrame_forwardClose (s : State) : SendFrame s (forwardClose f s) := by
  refine sendFrame_forEach fun q u => ?_
  split
  · exact sendFrame_enqueue
  · exact SendFrame.refl u

/-- What a CLOSE leaves of the fabric's record. -/
theorem closedEpoch_fab (f : FabFrame) (s : State) :
    let t := closedEpoch f s
    t.fab.epoch = s.fab.epoch ∧ t.fab.inEpoch = false ∧ t.fab.callRoot = s.fab.callRoot ∧ t.fab.mine = s.fab.mine ∧
      t.txn = s.txn ∧ t.modes = s.modes := by
  have hcount : WordsFrame s (if s.fab.node == .unlisted then s.bump Ix.FAB_RC_STATS 24 8 else s) := wordsFrame_ite (wordsFrame_bump ..)
  unfold closedEpoch
  generalize (if s.fab.node == .unlisted then s.bump Ix.FAB_RC_STATS 24 8 else s) = u at hcount ⊢
  have hsend : SendFrame u (forwardClose f u) := sendFrame_forwardClose u
  generalize forwardClose f u = w at hsend ⊢
  have hclose := wordsFrame_closeCounts (leAt f.payload 6 2 % 2 == 1) (leAt f.payload 4 2)
    (updFab (fun x => { x with inEpoch := false, reloaded := if x.node == .unlisted then [] else x.reloaded,
                               declined := if x.node == .unlisted then [] else x.declined }) w)
  dsimp only
  rw [hclose.fab, hclose.txn, hclose.modes, ← hcount.fab, ← hcount.txn, ← hcount.modes, hsend]
  exact ⟨rfl, rfl, rfl, rfl, rfl, rfl⟩

/-- A CLOSE of the epoch from the parent. -/
theorem closeRx_inEpoch (hi : s.fab.inEpoch = true) (hp : s.fab.parent = some p.val) (he : leAt f.payload 0 4 = s.fab.epoch) :
    closeRx p at_ f s = match (closedEpoch f (s.reach at_)).fab.mine with
      | none => unlist (closedEpoch f (s.reach at_))
      | some (a, d) => resolveMembers (rebuildRoutes (updFab (fun x => { x with
        node := .listed, addr := a, depth := d, retained := some (a, x.epoch, x.callRoot), mine := none }) (closedEpoch f (s.reach at_)))) :=
  (if_neg (ofEpoch (s := s.reach at_) hi hp he)).trans rfl

/-! ## The node without an address -/

theorem cancelHandle_fab (h : Nat × Nat) : (cancelHandle h s).fab = s.fab := by
  unfold cancelHandle
  dsimp only
  split
  · rfl
  · split
    · dsimp only
      rw [logEvent_eq]
      simp only [updEvent]
      rw [settle_eq]
    · dsimp only [dropEvent]
      rw [logEvent_eq]

theorem endTxn_fab (status cause idx : Nat) (s : State) : (endTxn status cause idx s).fab = s.fab := by
  unfold endTxn
  dsimp only
  split <;> rfl

theorem rollBack_fab (status cause : Nat) (s : State) : (rollBack status cause s).fab = s.fab := by
  have hsettle : (settle s).fab = s.fab := by rw [settle_eq]
  unfold rollBack
  dsimp only
  split
  · rfl
  · rw [endTxn_fab, hsettle]
  · split
    · rw [endTxn_fab, hsettle]
    · split
      · exact hsettle
      · rw [endTxn_fab, cancelHandle_fab, hsettle]

theorem dropFabOwner_fab (s : State) : (dropFabOwner s).fab = s.fab := by
  unfold dropFabOwner
  split
  · exact rollBack_fab ..
  · rfl

theorem staleSubs_fab (s : State) : (staleSubs s).fab = { s.fab with subs := s.fab.subs.map fun x => { x with stale := true } } := by
  have hfold : ∀ (xs : List Nat) (u : State), (forEach xs (fun n t => staleSource 8 n true t) u).fab = u.fab := fun xs => by
    induction xs with
    | nil => exact fun _ => rfl
    | cons x xs ih => exact fun u => ih (staleSource 8 x true u)
  exact hfold _ _

theorem unlist_fab (s : State) : (unlist s).fab.inEpoch = s.fab.inEpoch ∧ (unlist s).fab.node = .unlisted ∧ (unlist s).fab.addr = 0 ∧
    (unlist s).fab.hasTable = false := by
  rw [unlist, dropFabOwner_fab, staleSubs_fab]
  exact ⟨rfl, rfl, rfl, rfl⟩

/-! ## Link changes -/

theorem linkChangeRx_root (hn : s.fab.node = .root) (hi : s.fab.inEpoch = true) :
    linkChangeRx at_ f s = updFab (fun x => { x with dirty := true }) (s.reach at_) := by
  have hn' : (s.reach at_).fab.node = .root := hn
  have hi' : (s.reach at_).fab.inEpoch = true := hi
  simp only [linkChangeRx, hn', hi', if_true]

theorem linkChangeRx_listed (hn : s.fab.node = .listed) (hp : s.fab.parent = some p.val) :
    linkChangeRx at_ f s = enqueue p { f with hops := f.hops + 1 } (s.reach at_) := by
  have hn' : (s.reach at_).fab.node = .listed := hn
  have hp' : (s.reach at_).fab.parent = some p.val := hp
  have hport : portOf p.val = some p := dif_pos p.isLt
  simp only [linkChangeRx, hn', hp', Option.bind_some, hport]

end

/-! ## The words of the root -/

section
variable {r : Requester} {m : Measured} {v : Word} {s : State}

@[simp] theorem noteRequest_fab (r : Requester) (s : State) : (noteRequest r s).fab = s.fab := by rw [noteRequest_eq]

theorem isW1c_rollCall : isW1c Ix.FAB_RC_CMD = false ∧ isW1c Ix.FAB_ADDR_SEL = false := by decide +kernel

theorem commandWord_rcCmd : commandWord r m Ix.FAB_RC_CMD v s = some (0, rcCommand v s) := rfl
theorem commandWord_addrSel : commandWord r m Ix.FAB_ADDR_SEL v s = some (0, addrSelect v.toNat s) := rfl

theorem bit_rcCmd : bit (cleanValue Ix.FAB_RC_CMD 1) 0 = true := by decide +kernel

theorem rcCommand_root (hb : bit v 0 = true) (hn : s.fab.node = .root) :
    rcCommand v s = if s.fab.inEpoch then updFab (fun f => { f with dirty := true }) s else runEpoch s :=
  if_pos (by rw [hb, hn]; rfl)

theorem rcCommand_other (hn : s.fab.node ≠ .root) : rcCommand v s = s :=
  if_neg (by rw [beq_eq_false_iff_ne.2 hn, Bool.and_false]; exact Bool.false_ne_true)

/-- The record of an address, as the root's words show it; zero elsewhere (R403). -/
def addrRecord (n : Nat) (s : State) : Nat :=
  if s.fab.node == .root then (match recAt s.fab.records n with
    | some r => r.serial + r.age * 2 ^ 48 + (if r.listed then 1 else 2) * 2 ^ 52
    | none => 0) else 0

theorem addrSelect_eq (a : Nat) (s : State) :
    addrSelect a s = ((s.putNat Ix.FAB_ADDR_SEL (a % 4096)).putNat Ix.FAB_ADDR_REC_LO (addrRecord (a % 4096) s % 2 ^ 32)).putNat
      Ix.FAB_ADDR_REC_HI (addrRecord (a % 4096) s / 2 ^ 32) := rfl

theorem addrSelect_words (a : Nat) (s : State) :
    (addrSelect a s).word Ix.FAB_ADDR_SEL = toWord (a % 4096) ∧
    (addrSelect a s).word Ix.FAB_ADDR_REC_LO = toWord (addrRecord (a % 4096) s % 2 ^ 32) ∧
    (addrSelect a s).word Ix.FAB_ADDR_REC_HI = toWord (addrRecord (a % 4096) s / 2 ^ 32) := by
  rw [addrSelect_eq]
  refine ⟨?_, ?_, word_put_same ..⟩
  · exact (word_put_other _ _ (by decide)).trans ((word_put_other _ _ (by decide)).trans (word_put_same ..))
  · exact (word_put_other _ _ (by decide)).trans (word_put_same ..)

theorem addrSelect_frame (a : Nat) (s : State) : addrSelect a s = { s with words := (addrSelect a s).words } := rfl

end

/-- A node that joins an epoch keeps what the CALL gave it, and its parent's port is no child. -/
theorem callRx_joined {p : Port} {at_ : Nat} {f : FabFrame} {s : State} (h : (s.fab.ports[p]).st = .up) (hn : s.fab.node ≠ .root)
    (he : s.fab.epoch < leAt f.payload 0 4) :
    let t := callRx p at_ f s
    t.fab.epoch = leAt f.payload 0 4 ∧ t.fab.inEpoch = true ∧ t.fab.parent = some p.val ∧ t.fab.depth = f.hops + 1 ∧
      t.fab.callRoot = leAt f.payload 4 8 ∧ (t.fab.ports[p]).child = false := by
  dsimp only
  rw [callRx_joins h hn he]
  generalize hv : updFab (joinCall p (s.reach at_).now f) (s.reach at_) = v
  have hu : SendFrame v (forEach (List.finRange 3) (forwardCall p f (s.reach at_).now) v) :=
    sendFrame_forEach fun q t => sendFrame_forwardCall (s.reach at_).now q t
  have hchild := forwardCalls_parent (p := p) (f := f) (s.reach at_).now (List.finRange 3) v (.inl (List.mem_finRange p))
  generalize forEach (List.finRange 3) (forwardCall p f (s.reach at_).now) v = u at hu hchild
  have hkept : ∀ t, SendFrame v t → t.fab.epoch = leAt f.payload 0 4 ∧ t.fab.inEpoch = true ∧ t.fab.parent = some p.val ∧
      t.fab.depth = f.hops + 1 ∧ t.fab.callRoot = leAt f.payload 4 8 := fun t ht => by
    rw [ht, ← hv]
    exact ⟨rfl, rfl, rfl, rfl, rfl⟩
  split
  · obtain ⟨h1, h2, h3, h4, h5⟩ := hkept _ (hu.trans (sendFrame_sendEntry true u))
    exact ⟨h1, h2, h3, h4, h5, (child_sendEntry true p).trans hchild⟩
  · obtain ⟨h1, h2, h3, h4, h5⟩ := hkept _ (hu.trans (sendFrame_sendEntry false u))
    exact ⟨h1, h2, h3, h4, h5, (child_sendEntry false p).trans hchild⟩

/-- Settles O43, clause by clause from the epoch's messages and the root's words above. -/
theorem rollCallRows : Obligations.RollCallRows := by
  unfold Obligations.RollCallRows
  refine ⟨fun s h => completes_of rfl (holdEnds_none h), fun a b t s h => completes_of rfl (holdEnds_one h), ?start, ?startOther,
    fun p at_ f s h he hp => completes_of rfl (callRx_known h he hp), ?joined, fun p at_ f s h hn hi he => completes_of rfl (callRx_rootIdle h hn hi he),
    fun p at_ f s h => completes_of rfl (callRx_notUp h), ?idle, fun p at_ f s hi he hc hk => completes_of rfl (declineRx_child hi he hc hk),
    ?report, fun p s hi hc hf => completes_of rfl (rcWait_due hi hc hf), fun p at_ f e s hi hp he hes hser => completes_of rfl (assignRx_own hi hp he hes hser),
    ?close, ?closeUnlists, fun at_ f s hn hi => completes_of rfl (linkChangeRx_root hn hi), fun at_ f q s hn hp => completes_of rfl (linkChangeRx_listed hn hp),
    ?command, ?select⟩
  case start =>
    intro s hn hi
    exact completes_of rfl (if_pos (by rw [hn, hi]; rfl))
  case startOther =>
    intro s hn
    exact completes_of rfl (if_neg (by rw [beq_eq_false_iff_ne.2 hn]; exact Bool.false_ne_true))
  case joined =>
    intro p at_ f s h hn he
    exact gives_of_eq rfl rfl (callRx_joined h hn he)
  case idle =>
    intro p at_ f s h
    exact ⟨completes_of rfl (declineRx_idle h), completes_of rfl (reportRx_idle h), completes_of rfl (assignRx_idle h),
      completes_of rfl (closeRx_idle h), completes_of rfl (rcWait_idle h)⟩
  case report =>
    intro p at_ f s hi he hc hn hl
    exact completes_of rfl (reportRx_forwards hi he hc hn hl)
  case close =>
    intro p at_ a d f s hi hp he hm
    obtain ⟨hepoch, hin, hroot, hmine, htxn, hmodes⟩ := closedEpoch_fab f (s.reach at_)
    refine ⟨closedEpoch f (s.reach at_), hepoch, hin, htxn, hmodes, completes_of rfl ?_⟩
    rw [closeRx_inEpoch hi hp he, hmine, show (s.reach at_).fab.mine = some (a, d) from hm]
    dsimp only [updFab]
    rw [hepoch, hroot]
    rfl
  case closeUnlists =>
    intro p at_ f s hi hp he hm
    obtain ⟨-, hin, -, hmine, -, -⟩ := closedEpoch_fab f (s.reach at_)
    obtain ⟨hsame, hnode, haddr, htable⟩ := unlist_fab (closedEpoch f (s.reach at_))
    refine gives_of_eq rfl ((closeRx_inEpoch hi hp he).trans ?_) ⟨hsame.trans hin, hnode, haddr, htable⟩
    rw [hmine, show (s.reach at_).fab.mine = none from hm]
  case command =>
    intro r s h hv
    obtain ⟨hw, -⟩ := isW1c_rollCall
    have hcmd := requestWrite_command (m := noMeasure) h hv hw (commandWord_rcCmd)
    refine ⟨fun hn hi => completes_of rfl (hcmd.trans ?_), fun hn hi => completes_of rfl (hcmd.trans ?_), fun hn => completes_of rfl (hcmd.trans ?_)⟩
    · exact (rcCommand_root bit_rcCmd (by rw [noteRequest_fab]; exact hn)).trans (if_pos (by rw [noteRequest_fab]; exact hi))
    · exact (rcCommand_root bit_rcCmd (by rw [noteRequest_fab]; exact hn)).trans
        (if_neg (by rw [noteRequest_fab, hi]; exact Bool.false_ne_true))
    · exact rcCommand_other (by rw [noteRequest_fab]; exact hn)
  case select =>
    intro r v s h hv
    obtain ⟨-, hw⟩ := isW1c_rollCall
    obtain ⟨hsel, hlo, hhi⟩ := addrSelect_words (cleanValue Ix.FAB_ADDR_SEL v).toNat (noteRequest r s)
    refine gives_of_eq rfl (requestWrite_command h hv hw commandWord_addrSel) ⟨hsel, fun hn => ?_, fun x hn hx => ?_,
      after_request (addrSelect_frame _ _)⟩
    · have hrec : addrRecord ((cleanValue Ix.FAB_ADDR_SEL v).toNat % 4096) (noteRequest r s) = 0 := by
        rw [addrRecord, noteRequest_fab, beq_eq_false_iff_ne.2 hn]
        rfl
      rw [hrec] at hlo hhi
      exact ⟨hlo, hhi⟩
    · have hrec : addrRecord ((cleanValue Ix.FAB_ADDR_SEL v).toNat % 4096) (noteRequest r s) =
          x.serial + x.age * 2 ^ 48 + (if x.listed then 1 else 2) * 2 ^ 52 := by
        rw [addrRecord, noteRequest_fab, hn, hx]
        rfl
      rw [hrec] at hlo hhi
      exact ⟨hlo, hhi⟩

end Sys2Proof.Machine
end

section
/-!
PROOF. Routed frames, requests and replies, RESOLVE, domain signals and domain state (17_fabric_routes_and_streams.md, R404 to R413).
-/
namespace Sys2Proof.Machine

/-! ## Routes (R405, R406) -/

section
variable {p : Port} {at_ : Nat} {f : FabFrame} {s : State}

theorem routedRx_noType (h : routedType f.typ = false) : routedRx p at_ f s = (s.reach at_).bump Ix.FAB_ROUTE_STATS 16 8 :=
  if_pos (by rw [h]; rfl)

/-- A routed frame but FAB_SYNC is delivered here or goes on. -/
theorem routedRx_routed (h : routedType f.typ = true) (hs : f.typ ≠ 0x19) :
    routedRx p at_ f s = if routeCode f.dst s = 1 then deliver at_ f (s.reach at_) else forwardFrame f (s.reach at_) :=
  (if_neg (by rw [h]; decide)).trans (if_neg hs)

theorem forwardFrame_noRoute (h : routeCode f.dst s = 0) : forwardFrame f s = s.bump Ix.FAB_ROUTE_STATS 16 8 := by
  have hport : portOf (routeCode f.dst s - 2) = some 0 := by rw [h]; rfl
  have hlow : routeCode f.dst s < 2 := by rw [h]; decide
  simp only [forwardFrame, hport, hlow, true_or, if_true]

theorem forwardFrame_port {q : Port} (h : routeCode f.dst s = 2 + q.val) (hu : (s.fab.ports[q]).st = .up) (hh : f.hops < 62) :
    forwardFrame f s = enqueue q { f with hops := f.hops + 1 } (s.bump Ix.FAB_ROUTE_STATS 0 16) := by
  have hport : portOf (routeCode f.dst s - 2) = some q := by
    rw [h, Nat.add_sub_cancel_left]
    exact dif_pos q.isLt
  have hopen : ¬(routeCode f.dst s < 2 ∨ ((s.fab.ports[q]).st != .up) = true) := by
    rw [h, hu]
    rintro (hlow | hdown)
    · omega
    · exact absurd hdown (by decide)
  simp only [forwardFrame, hport, if_neg hopen, if_neg (Nat.not_le.2 hh)]

theorem broadcastRx_dropped (h : mayBroadcast f.typ = false) : broadcastRx p at_ f s = (s.reach at_).bump Ix.FAB_ROUTE_STATS 16 8 :=
  if_pos (by rw [h]; rfl)

theorem broadcastRx_here (h : mayBroadcast f.typ = true) (hr : routeCode f.dst s = 1) :
    broadcastRx p at_ f s = spread f (deliver at_ f (s.reach at_)) := by
  have hhere : broadcastHere p f (s.reach at_) = true := by
    rw [broadcastHere, show routeCode f.dst (s.reach at_) = 1 from hr]
    rfl
  exact (if_neg (by rw [h]; decide)).trans (if_pos hhere)

end

/-! ## READ and WRITE requests (R434) -/

section
variable {r : Requester} {i : Nat} {v : Word} {s : State}

theorem readAll_one : readAll r [i] s = (leBytes (readParam r (i % 16384) s).1.toNat 4, (readParam r (i % 16384) s).2) := by
  simp only [readAll, List.append_nil]

theorem readAll_refused (h : mayRead r (i % 16384) s = false) : readAll r [i] s = ([0, 0, 0, 0], s) := by
  have hzero : leBytes (0 : Word).toNat 4 = [0, 0, 0, 0] := by decide
  rw [readAll_one, readParam_refused h]
  exact Prod.ext hzero rfl

theorem readAll_permitted {x : ParamRow} (h : mayRead r (i % 16384) s = true) (hx : paramRow (i % 16384) = some x)
    (ha : x.access ≠ .rc) (hi : i % 16384 ≠ Ix.TT_FREE_LO) :
    readAll r [i] s = (leBytes (readWord (i % 16384) s).toNat 4, s) := by
  rw [readAll_one, readParam_permitted h, clearRead_notRc hx ha hi]

theorem writeAll_refused (h : mayWrite r (i % 16384) (spendMeasured s) = false) : writeAll r [(i, v)] s = ([0], spendMeasured s) := by
  simp only [writeAll, writeFree, writeParam_refused _ h, List.append_nil]
  rfl

theorem writeAll_two (a b : Nat × Word) :
    writeAll r [a, b] s =
      (leBytes (writeFree r (a.1 % 16384) a.2 s).1 1 ++ leBytes (writeFree r (b.1 % 16384) b.2 (writeFree r (a.1 % 16384) a.2 s).2).1 1,
        (writeFree r (b.1 % 16384) b.2 (writeFree r (a.1 % 16384) a.2 s).2).2) := by
  simp only [writeAll, List.append_nil]

theorem completes_readRequest {at_ : Nat} {d : List Byte} {t : State} (h : readAll r [i] (noteRequest r (s.reach at_)) = (d, t)) :
    Completes (.readRequest r at_ [i]) s (replyTo r 0x02 0 0 d t) :=
  completes_of (f := fun s0 => replyTo r 0x02 0 0 (readAll r [i] (noteRequest r (s0.reach at_))).1
    (readAll r [i] (noteRequest r (s0.reach at_))).2) rfl (by rw [h])

theorem completes_writeRequest {at_ : Nat} {recs : List (Nat × Word)} {d : List Byte} {t : State}
    (h : writeAll r (recs.take 42) (noteRequest r (s.reach at_)) = (d, t)) :
    Completes (.writeRequest r at_ recs) s (replyTo r 0x03 0 0 d t) :=
  completes_of (f := fun s0 => replyTo r 0x03 0 0 (writeAll r (recs.take 42) (noteRequest r (s0.reach at_))).1
    (writeAll r (recs.take 42) (noteRequest r (s0.reach at_))).2) rfl (by rw [h])

end

/-! ## Replies and RESOLVE (R408, R411) -/

section
variable {at_ : Nat} {f : FabFrame} {q : FabReq} {s : State}

theorem requestReply_none (h : requestOf f s = none) : requestReply at_ f s = s.reach at_ := by simp only [requestReply, h]
theorem reloadReply_none (h : requestOf f s = none) : reloadReply at_ f s = s := by simp only [reloadReply, h]

theorem requestReply_carried (h : requestOf f s = some q) (ho : q.owner = 2) :
    requestReply at_ f s = carriedReply f (endRequest f.seq (s.reach at_)) := by
  simp only [requestReply, h, ho]

/-- RESOLVE_REPLY of a request: of RESOLVE its reply is taken, of another type nothing. -/
theorem completes_resolveReply {t : State}
    (h : (match requestOf f s with | some r => if r.typ = 0x1C then resolveReply at_ f (endRequest f.seq s) else s | none => s) = t) :
    Completes (.resolveReply at_ f) s t :=
  completes_of (f := fun u => match requestOf f u with
    | some r => if r.typ = 0x1C then resolveReply at_ f (endRequest f.seq u) else u | none => u) rfl h

theorem requestTimeout_open {n : Nat} (h : s.fab.outstanding.find? (·.seq == n) = some q) :
    requestTimeout n s = (endRequest n (s.reach (q.at_ + msP (s.fld Ix.FAB_REQ_CFG 0 16)))).bump Ix.FAB_REQ_COUNTS 0 16 := by
  simp only [requestTimeout, h]

theorem chunks_one {k : Nat} {b : List Byte} (hk : 0 < k) (h : b.length = k) : chunks k b = [b] := by
  obtain ⟨n, rfl⟩ := Nat.exists_eq_succ_of_ne_zero (Nat.ne_of_gt hk)
  cases b with
  | nil => cases h
  | cons x xs =>
    have hdrop : (x :: xs).drop (n + 1) = [] := List.drop_eq_nil_of_le (Nat.le_of_eq h)
    have htake : (x :: xs).take (n + 1) = x :: xs := List.take_of_length_le (Nat.le_of_eq h)
    have hnil : ∀ m, chunksFuel (n + 1) m [] = [] := fun m => by cases m <;> rfl
    rw [chunks, List.length_cons, chunksFuel, hdrop, htake, hnil]

theorem resolveRx_other (h : s.fab.node ≠ .root) : resolveRx at_ f s = s.reach at_ := by
  have h' : ((s.reach at_).fab.node == NodeSt.root) = false := beq_eq_false_iff_ne.2 h
  simp only [resolveRx, h', Bool.false_eq_true, if_false]

theorem resolveRx_root (h : s.fab.node = .root) (hl : f.payload.length = 8) :
    resolveRx at_ f s = sendReply f 0x1D (statusHead 0 ++
      match s.fab.records.find? fun r => r.listed && r.serial == ser48 (leNat f.payload) with
      | some r => leBytes r.addr 2 ++ [0, 0] ++ leBytes ((s.fab.tags.lookup r.addr).getD 0) 4
      | none => [0xFF, 0xFF, 0, 0, 0, 0, 0, 0]) (s.reach at_) := by
  have h' : ((s.reach at_).fab.node == NodeSt.root) = true := beq_iff_eq.2 h
  simp only [resolveRx, h', if_true, chunks_one (by decide) hl, List.map_cons, List.map_nil, List.flatten_cons, List.flatten_nil, List.append_nil]
  rfl

end

/-! ## Domain signals and domain state (R412, R413) -/

section
variable {at_ n : Nat} {f : FabFrame} {m : Resolved} {s : State}

theorem signalsSend_none (h : s.fab.domain.pubs[n]? = none) : signalsSend n s = s := by simp only [signalsSend, h]

theorem signalsSend_due {p : PubCfg} {u : State} (h : s.fab.domain.pubs[n]? = some p) (hu : s.reach (s.fab.pubAt.getD n 0) = u) :
    signalsSend n s = updFab (fun f => { f with pubAt := f.pubAt.set n (u.now + msP p.period) })
      (forEach (maskAddrs p.mask s) (fun a t => sendMessage 0x18 a (leBytes p.group 1 ++ leBytes p.count 1 ++ [0, 0] ++
        ((List.range p.count).map fun i => leBytes ((s.fab.pubVals.lookup (32 * p.group + i)).getD 0).toNat 4).flatten) t) u) := by
  subst hu
  simp only [signalsSend, h]
  rfl

theorem signalsRx_unknown (h : memberAt f.src s = none) : signalsRx at_ f s = s.reach at_ := by
  have h' : memberAt f.src (s.reach at_) = none := h
  simp only [signalsRx, h']

/-- SIGNALS of a member with the one subscription of its group. -/
theorem signalsRx_one {x : SubCfg} (h : memberAt f.src s = some m) (hs : s.fab.domain.subs = [x]) (ho : x.ordinal = m.ordinal)
    (hg : x.group = leAt f.payload 0 1) (hp : x.pos < leAt f.payload 1 1) :
    signalsRx at_ f s = publishSource 8 0 (asType x.typ (toWord (leAt f.payload (4 + 4 * x.pos) 4))) false
      (updFab (fun y => { y with subs := y.subs.set 0 { lastAt := (s.reach at_).now, stale := false } }) (s.reach at_)) := by
  have h' : memberAt f.src (s.reach at_) = some m := h
  have hs' : (s.reach at_).fab.domain.subs = [x] := hs
  have hmine : x.ordinal = m.ordinal ∧ x.group = leAt f.payload 0 1 := ⟨ho, hg⟩
  simp only [signalsRx, h', hs', List.zipIdx_cons, List.zipIdx_nil, forEach, List.foldl_cons, List.foldl_nil, if_pos hmine, if_pos hp]

theorem subTimeout_fresh {c : SubCfg} {x : SubSt} (hc : s.fab.domain.subs[n]? = some c) (hx : s.fab.subs[n]? = some x)
    (hs : x.stale = false) :
    subTimeout n s = staleSource 8 n true
      (updFab (fun y => { y with subs := y.subs.set n { x with stale := true } }) (s.reach (x.lastAt + msP c.timeout))) := by
  simp only [subTimeout, hc, hx, hs, Bool.false_eq_true, if_false]

theorem domainStateRx_unknown (h : memberAt f.src s = none) : domainStateRx at_ f s = s.reach at_ := by
  have h' : memberAt f.src (s.reach at_) = none := h
  simp only [domainStateRx, h']

/-- The state that takes the root's DOMAIN_STATE of an instant. -/
def takeRootState (at_ b : Nat) (s : State) : State :=
  { s.reach at_ with
    fab := { s.fab with rootStateAt := (s.reach at_).now },
    modes := { s.modes with rootRide := b % 2 == 1, rootAwake := b / 2 % 2 == 0, announced := s.modes.announced || b / 2 % 2 == 1 } }

theorem domainStateRx_root (h : memberAt f.src s = some m) (ho : m.ordinal = 0) :
    domainStateRx at_ f s = takeRootState at_ (leAt f.payload 0 1) s := by
  have h' : memberAt f.src (s.reach at_) = some m := h
  simp only [domainStateRx, h', if_pos ho]
  rfl

theorem domainStateRx_member (h : memberAt f.src s = some m) (ho : m.ordinal ≠ 0) (hr : isDomainRoot s = true)
    (hp : leAt f.payload 0 1 / 2 % 2 = 1) :
    domainStateRx at_ f s = { s.reach at_ with modes := { s.modes with membersAwake := s.modes.membersAwake.filter (· != m.ordinal) } } := by
  have h' : memberAt f.src (s.reach at_) = some m := h
  have hpark : (isDomainRoot (s.reach at_) && leAt f.payload 0 1 / 2 % 2 == 1) = true := by
    rw [show isDomainRoot (s.reach at_) = true from hr, hp]
    rfl
  simp only [domainStateRx, h', if_neg ho, hpark, if_true]
  rfl

end

/-! ## The route of an address -/

section
variable {r : Requester} {m : Measured} (a : Nat) (v : Word) (s : State)

theorem isW1c_routeSel : isW1c Ix.FAB_ROUTE_SEL = false := by decide +kernel

theorem commandWord_routeSel : commandWord r m Ix.FAB_ROUTE_SEL v s = some (0, routeSelect v.toNat s) := rfl

theorem routeSelect_words : (routeSelect a s).word Ix.FAB_ROUTE_PORT = toWord (routeCode (a % 4096) s) ∧
    (routeSelect a s).word Ix.FAB_ROUTE_SEL = toWord (a % 4096) :=
  ⟨word_put_same .., (word_put_other _ _ (by decide)).trans (word_put_same ..)⟩

theorem routeSelect_frame : routeSelect a s = { s with words := (routeSelect a s).words } := rfl

theorem routeCode_noteRequest : routeCode a (noteRequest r s) = routeCode a s := by rw [routeCode, noteRequest_fab]; rfl

end

/-- Settles O44, clause by clause from the routes, the requests and the domain's messages above. -/
theorem routedRows : Obligations.RoutedRows := by
  unfold Obligations.RoutedRows
  refine ⟨fun p at_ f s h hs hr => completes_of rfl ((routedRx_routed h hs).trans (if_pos hr)), ?noRoute, ?forwards,
    fun p at_ f s h => completes_of rfl (routedRx_noType h), fun p at_ f s h => completes_of rfl (broadcastRx_dropped h),
    fun p at_ f s h hr => completes_of rfl (broadcastRx_here h hr), fun at_ f s => completes_of rfl rfl,
    fun r at_ i s h => completes_readRequest (readAll_refused h), fun r at_ i x s h hx ha hi => completes_readRequest (readAll_permitted h hx ha hi),
    fun r at_ i v s h => completes_writeRequest (writeAll_refused h), fun r at_ a b s => completes_writeRequest (writeAll_two a b), ?noRequest,
    fun at_ f q s h ho => completes_of rfl (requestReply_carried h ho), ?resolve, fun q r s h => completes_of rfl (requestTimeout_open h),
    fun at_ f s h => completes_of rfl (resolveRx_other h), ?found, ?notFound, fun k s h => completes_of rfl (signalsSend_none h),
    fun k p s h => completes_of rfl (signalsSend_due h rfl), fun at_ f m x s h hs ho hg hp => completes_of rfl (signalsRx_one h hs ho hg hp),
    fun at_ f s h => ⟨completes_of rfl (signalsRx_unknown h), completes_of rfl (domainStateRx_unknown h)⟩,
    fun n c x s hc hx hs => completes_of rfl (subTimeout_fresh hc hx hs), ?rootState, fun at_ f m s h ho hr hp => completes_of rfl (domainStateRx_member h ho hr hp),
    fun s h => completes_of rfl (if_pos h), fun s h => completes_of rfl (if_neg (Bool.eq_false_iff.1 h)), fun s h => completes_of rfl (if_pos h),
    fun s h => completes_of rfl (if_neg (Bool.eq_false_iff.1 h)), ?select⟩
  case noRoute =>
    intro p at_ f s h hs hr
    have hone : routeCode f.dst s ≠ 1 := by rw [hr]; decide
    exact completes_of rfl ((routedRx_routed h hs).trans ((if_neg hone).trans (forwardFrame_noRoute hr)))
  case forwards =>
    intro p q at_ f s h hs hr hu hh
    have hone : routeCode f.dst s ≠ 1 := by rw [hr]; omega
    exact completes_of rfl ((routedRx_routed h hs).trans ((if_neg hone).trans (forwardFrame_port (s := s.reach at_) hr hu hh)))
  case noRequest =>
    intro at_ f s h
    exact ⟨completes_of rfl (requestReply_none h), completes_resolveReply (by rw [h]), completes_of rfl (reloadReply_none h)⟩
  case resolve =>
    intro at_ f q s h ht
    exact completes_resolveReply (by rw [h]; exact if_pos ht)
  case found =>
    intro at_ f x s h hl hx
    refine completes_of rfl ((resolveRx_root h hl).trans ?_)
    rw [hx]
    rfl
  case notFound =>
    intro at_ f s h hl hx
    refine completes_of rfl ((resolveRx_root h hl).trans ?_)
    rw [hx]
    rfl
  case rootState =>
    intro at_ f m s h ho
    refine gives_of_eq rfl (domainStateRx_root h ho) ⟨rfl, rfl, rfl, ?_⟩
    have hle : s.now ≤ (s.reach at_).now := Nat.le_max_left _ _
    obtain ⟨d, hd⟩ : ∃ d, after s (takeRootState at_ (leAt f.payload 0 1) s) =
        { takeRootState at_ (leAt f.payload 0 1) s with dwell := d } := ⟨_, after_of_le rfl hle⟩
    rw [hd]
    rfl
  case select =>
    intro r v s h hv
    obtain ⟨hport, hsel⟩ := routeSelect_words (cleanValue Ix.FAB_ROUTE_SEL v).toNat (noteRequest r s)
    refine gives_of_eq rfl (requestWrite_command h hv isW1c_routeSel (commandWord_routeSel _ _)) ⟨?_, hsel, after_request (routeSelect_frame _ _)⟩
    rw [routeCode_noteRequest] at hport
    exact hport

end Sys2Proof.Machine
end

section
/-!
PROOF. Streams, the reload of a member, FAB_SYNC, and the host's carried frames (17_fabric_routes_and_streams.md, R414 to R425).
-/
namespace Sys2Proof.Machine

/-! ## Packets and credits (R414, R415) -/

section
variable {p : Port} {at_ : Nat} {k : FabPacket} {s : State}

theorem packetRx_noLanes {ok : Bool} (h : (s.fab.ports[p]).rate = 0) : packetRx p at_ k ok s = s.reach at_ := if_pos h

theorem packetRx_badCrc (h : (s.fab.ports[p]).rate ≠ 0) :
    packetRx p at_ k false s = (s.reach at_).bump (Ix.FAB_STREAM_COUNTS p.val) 16 8 :=
  (if_neg h).trans (if_pos rfl)

theorem packetRx_good (h : (s.fab.ports[p]).rate ≠ 0) :
    packetRx p at_ k true s = if routeCode k.dst s = 1 then streamTake k (s.reach at_)
      else if 62 ≤ k.hops then report 0xB04 0 ((s.reach at_).bump Ix.FAB_ROUTE_STATS 24 8)
      else routePacket { k with hops := k.hops + 1 } (s.reach at_) :=
  (if_neg h).trans (if_neg (by decide))

theorem creditRx_nothingWaits {n : Nat} (h : (s.fab.ports[p]).packets = []) :
    creditRx p n s = updPort p (fun x => { x with credits := Nat.min 32 (x.credits + n) }) s := by
  refine if_pos ?_
  rw [updPort_same, h]
  rfl

theorem bump_credits (i lo w : Nat) (u : State) : ((u.bump i lo w).fab.ports[p]).credits = (u.fab.ports[p]).credits := rfl

/-- Sending spends credits. -/
theorem pump_credits (n : Nat) (u : State) : ((pump p n u).fab.ports[p]).credits ≤ (u.fab.ports[p]).credits := by
  induction n generalizing u with
  | zero => exact Nat.le_refl _
  | succ n ih =>
    rw [pump]
    split
    · exact Nat.le_refl _
    · split
      · refine Nat.le_trans (ih _) ?_
        rw [bump_credits, updPort_same]
        exact Nat.sub_le _ _
      · exact Nat.le_of_eq (bump_credits ..)

theorem creditRx_credits (n : Nat) : ((creditRx p n s).fab.ports[p]).credits ≤ 32 := by
  have hput : ((updPort p (fun x => { x with credits := Nat.min 32 (x.credits + n) }) s).fab.ports[p]).credits ≤ 32 := by
    rw [updPort_same]
    exact Nat.min_le_left _ _
  rw [creditRx, pumpPort]
  split
  · exact hput
  · exact Nat.le_trans (pump_credits _ _) hput

end

/-! ## Acknowledgements and time-outs of a stream (R417) -/

section
variable {at_ stream dst : Nat} {f : FabFrame} {t : StreamTx} {s : State}

theorem streamAck_noStream (h : (s.fab.txs.find? fun t => t.stream == leAt f.payload 0 1 && t.dst == f.src) = none) :
    streamAck at_ f s = s.reach at_ := by
  have h' : ((s.reach at_).fab.txs.find? fun t => t.stream == leAt f.payload 0 1 && t.dst == f.src) = none := h
  simp only [streamAck, h']

theorem streamAck_progress (h : (s.fab.txs.find? fun t => t.stream == leAt f.payload 0 1 && t.dst == f.src) = some t)
    (hn : ackNumber t.acked (leAt f.payload 2 2) ≤ t.next) (hm : t.acked < ackNumber t.acked (leAt f.payload 2 2)) :
    streamAck at_ f s = streamPump (leAt f.payload 0 1) f.src
      (updTx (leAt f.payload 0 1) f.src (fun x => { x with
        acked := ackNumber t.acked (leAt f.payload 2 2), data := x.data.drop (ackNumber t.acked (leAt f.payload 2 2) - x.acked),
        next := ackNumber t.acked (leAt f.payload 2 2), resends := 0, lastAck := (s.reach at_).now }) (s.reach at_)) := by
  have h' : ((s.reach at_).fab.txs.find? fun t => t.stream == leAt f.payload 0 1 && t.dst == f.src) = some t := h
  simp only [streamAck, h', if_neg (Nat.not_lt.2 hn), decide_eq_true hm, if_true]

theorem streamTimeout_open (h : (s.fab.txs.find? fun t => t.stream == stream && t.dst == dst) = some t) (hd : t.data.isEmpty = false) :
    streamTimeout stream dst s =
      if 3 ≤ t.resends then
        updFab (fun x => { x with txs := x.txs.filter fun y => !(y.stream == stream && y.dst == dst) }) (s.reach (t.lastAck + msP 50))
      else streamPump stream dst (updTx stream dst (fun x => { x with
        next := x.acked, resends := x.resends + 1, lastAck := (s.reach (t.lastAck + msP 50)).now }) (s.reach (t.lastAck + msP 50))) := by
  simp only [streamTimeout, h, hd, Bool.false_eq_true, if_false]

/-- STREAM_RESEND_TIMEOUT where no offer is taken: the stream's own time-out. -/
theorem completes_streamTimeout {k : StartInput} {u : State} (ho : s.fab.offer = none) (h : streamTimeout stream dst s = u) :
    Completes (.streamResendTimeout stream dst at_ k) s u :=
  completes_of (f := fun s => match s.fab.offer with
    | some (src, _) =>
      if s.fab.reload = 2 ∧ stream = 0 ∧ src = dst then
        let t := s.reach at_
        reloadFails 7 k (sendDone src 3 (t.num Ix.HK_STATUS) t)
      else streamTimeout stream dst s
    | none => streamTimeout stream dst s) rfl (by rw [ho]; exact h)

end

/-! ## The reload of a member (R422 to R425) -/

section
variable {at_ : Nat} {f : FabFrame} {k : StartInput} {s : State}

theorem reloadReply_offer {q : FabReq} {u : State} (hu : endRequest f.seq (s.reach at_) = u) (h : requestOf f s = some q) (ht : q.typ = 0x1F) :
    reloadReply at_ f s =
      if leAt f.payload 0 1 = 0 ∧ leAt f.payload 4 1 % 2 = 1 then openStream 0 f.src (reloadBytes q.mark u) u
      else if leAt f.payload 0 1 = 1 then u
      else updFab (fun x => { x with declined := x.declined ++ [q.mark] }) u := by
  have hoffer : ¬q.typ ≠ 0x1F := fun hc => hc ht
  simp only [reloadReply, h, if_neg hoffer, hu]

/-- A member's result 0: its reload is recorded, and no stream to it is left. -/
theorem reloadDone_ok {m : Resolved} (h : memberAt f.src s = some m) (hr : leAt f.payload 0 1 = 0) :
    m.ordinal ∈ (reloadDone at_ f s).fab.reloaded ∧ ∀ x ∈ (reloadDone at_ f s).fab.txs, ¬(x.stream = 0 ∧ x.dst = f.src) := by
  generalize hu : updFab (fun x => { x with txs := x.txs.filter fun t => !(t.stream == 0 && t.dst == f.src) }) (s.reach at_) = u
  have hmem : memberAt f.src u = some m := by rw [← hu]; exact h
  have htxs : ∀ x ∈ u.fab.txs, ¬(x.stream = 0 ∧ x.dst = f.src) := fun x hx hc => by
    rw [← hu] at hx
    obtain ⟨-, hkeep⟩ := List.mem_filter.1 hx
    rw [hc.1, hc.2, beq_self_eq_true, beq_self_eq_true] at hkeep
    exact absurd hkeep (by decide)
  have hdone : reloadDone at_ f s =
      if leAt f.payload 0 1 = 0 ∧ !u.fab.reloaded.contains m.ordinal then updFab (fun x => { x with reloaded := x.reloaded ++ [m.ordinal] }) u
      else u := by simp only [reloadDone, hu, hmem]
  rw [hdone]
  cases hc : u.fab.reloaded.contains m.ordinal
  · rw [if_pos ⟨hr, rfl⟩]
    exact ⟨List.mem_append_right _ (List.mem_singleton_self _), htxs⟩
  · rw [if_neg fun h => Bool.false_ne_true h.2]
    exact ⟨List.contains_iff_mem.1 hc, htxs⟩

theorem updFab_congr {f g : Fabric → Fabric} (h : f s.fab = g s.fab) : updFab f s = updFab g s := by simp only [updFab, h]

/-- A member that waits takes the offer. -/
theorem reloadOffer_waiting (h : acceptsOffer (leAt f.payload 8 8) s = true) (hr : s.fab.reload = 1) :
    reloadOffer at_ f s = sendReply f 0x20 [0, 0, 0, 0, 1, 0, 0, 0] (updFab (fun x => { x with
      offer := some (f.src, leAt f.payload 0 4, leAt f.payload 4 1, leAt f.payload 8 8), reload := 2,
      rxs := x.rxs.filter fun r => !(r.src == f.src && r.stream == 0) }) (s.reach at_)) := by
  have h' : acceptsOffer (leAt f.payload 8 8) (s.reach at_) = true := h
  have hr' : (s.reach at_).fab.reload = 1 := hr
  refine (if_pos h').trans (congrArg (sendReply f 0x20 _) (updFab_congr ?_))
  rw [if_pos hr']

theorem reloadOffer_declined (h : acceptsOffer (leAt f.payload 8 8) s = false) :
    reloadOffer at_ f s = sendReply f 0x20 [0, 0, 0, 0, 0, 0, 0, 0] (s.reach at_) := by
  have h' : ¬acceptsOffer (leAt f.payload 8 8) (s.reach at_) = true := Bool.eq_false_iff.1 h
  exact if_neg h'

theorem streamComplete_noOffer (h : s.fab.offer = none) : streamComplete at_ k s = s := by simp only [streamComplete, h]

theorem streamComplete_taken {src total count root : Nat} {u : State} {p : List (List Byte) × List Byte} (hu : s.reach at_ = u)
    (ho : s.fab.offer = some (src, total, count, root)) (hr : s.fab.reload = 2) (hl : total ≤ (reloadReceived src s).length)
    (hp : splitComps count ((reloadReceived src s).take total) = p)
    (hc : (p.1.any fun c => (compErr (some s.upd.counter) c).isSome) = false) (hi : receivedErr p.2 (beforeStep4 k u) = none) :
    streamComplete at_ k s = reloadTaken k src root p.1 p.2 u := by
  have hwhole : ¬(s.fab.reload ≠ 2 ∨ (reloadReceived src s).length < total) := by
    rw [hr]
    rintro (hne | hlt)
    · exact hne rfl
    · exact Nat.not_lt.2 hl hlt
  have hc' : ¬(p.1.any fun c => (compErr (some u.upd.counter) c).isSome) = true := by
    rw [← hu]
    exact Bool.eq_false_iff.1 hc
  simp only [streamComplete, ho, if_neg hwhole, hp, hu, if_neg hc', hi]

end

/-! ## FAB_SYNC (R419 to R421) -/

section
variable {p q : Port} {at_ : Nat} {f : FabFrame} {s u : State}

theorem fabSyncEvent_taken {slot : Nat} {e : Event} {c : Pc} (h : takeEvent slot s = some (e, u)) (ha : e.spec.act = .fabSync p c) :
    fabSyncEvent slot s = fireFabSync p c u := by
  simp only [fabSyncEvent, h, ha]

theorem fireFabSync_noDelay {c : Pc} (h : (u.fab.ports[p]).delay = none) : fireFabSync p c u = u :=
  if_pos (by rw [h]; rfl)

theorem syncMark_noDelay (h : (u.fab.ports[p]).delay = none) : syncMark p at_ f u = u := by simp only [syncMark, h]

theorem syncRx_forwards {d : Nat} (h : routeCode f.dst s = 2 + q.val) (hd : (s.fab.ports[p]).delay = some d)
    (hu : (s.fab.ports[q]).st = .up) (hq : (s.fab.ports[q]).delay ≠ none) (hh : f.hops < 62) :
    syncRx p at_ f s = updPort q (fun y => { y with
      syncs := y.syncs ++ [{ frame := { f with hops := f.hops + 1 }, corr := leAt f.payload 10 4 + d, at_ := at_ }] })
      ((s.reach at_).bump Ix.FAB_ROUTE_STATS 0 16) := by
  have hroute : routeCode f.dst (s.reach at_) = 2 + q.val := h
  have hone : ¬routeCode f.dst (s.reach at_) = 1 := by rw [hroute]; omega
  have hport : portOf (routeCode f.dst (s.reach at_) - 2) = some q := by
    rw [hroute, Nat.add_sub_cancel_left]
    exact dif_pos q.isLt
  have hopen : ¬(routeCode f.dst (s.reach at_) < 2 ∨ (((s.reach at_).fab.ports[q]).st != .up) = true) := by
    rw [hroute, show ((s.reach at_).fab.ports[q]).st = .up from hu]
    rintro (hlow | hdown)
    · omega
    · exact absurd hdown (by decide)
  have hd' : ((s.reach at_).fab.ports[p]).delay = some d := hd
  have hq' : ¬((s.reach at_).fab.ports[q]).delay.isNone = true := fun hc => hq (Option.isNone_iff_eq_none.1 hc)
  simp only [syncRx, if_neg hone, hport, hd', if_neg hopen, if_neg (Nat.not_le.2 hh), if_neg hq']

end

/-! ## FAB_RELOAD_CMD and the host's frames (R418) -/

section
variable {r : Requester} {m : Measured} {v : Word} {dst : Nat} {b : List Byte} {s : State}

theorem isW1c_reloadCmd : isW1c Ix.FAB_RELOAD_CMD = false := by decide +kernel

theorem commandWord_reloadCmd : commandWord r m Ix.FAB_RELOAD_CMD v s = some (0, updFab (fun f => { f with member := none }) s) := rfl

theorem hostStream_noLane (h : s.flag (Ix.FAB_STREAM_CFG 0) 2 = false) : hostStream dst b s = s :=
  if_pos (by rw [h]; rfl)

theorem hostStream_badFrame (h : s.flag (Ix.FAB_STREAM_CFG 0) 2 = true) (hd : dst ≠ srcAddr s) (hb : frameOk 500 b = false) :
    hostStream dst b s = updHst (fun h => { h with crcErr := true }) (s.bump Ix.HST_COUNTS 0 8) :=
  (if_neg (by rw [h]; decide)).trans ((if_neg hd).trans (if_pos (by rw [hb]; rfl)))

theorem hostStream_carried {typ : Nat} (h : s.flag (Ix.FAB_STREAM_CFG 0) 2 = true) (hd : dst ≠ srcAddr s) (hb : frameOk 500 b = true)
    (ht : carriedType (entryOf b).cmd = some typ) :
    hostStream dst b s = sendRequest typ dst (entryOf b).payload 2 0
      (updHst (fun h => { h with carried := (h.carried.filter fun x => x.1 != some (freeSeq s)) ++
        [(some (freeSeq s), (entryOf b).cmd, (entryOf b).tag)] }) s) := by
  refine (if_neg (by rw [h]; decide)).trans ((if_neg hd).trans ((if_neg (by rw [hb]; decide)).trans ?_))
  simp only [ht]

end

/-- Settles O45, clause by clause from the streams, the reload and FAB_SYNC above. -/
theorem streamAndReloadRows : Obligations.StreamAndReloadRows := by
  unfold Obligations.StreamAndReloadRows
  refine ⟨fun p at_ k ok s h => completes_of rfl (packetRx_noLanes h), ?packet, fun p n s h => completes_of rfl (creditRx_nothingWaits h),
    fun p n s => gives_of_eq rfl rfl (creditRx_credits n), fun at_ f s h => completes_of rfl (streamAck_noStream h),
    fun at_ f t s h hn hm => completes_of rfl (streamAck_progress h hn hm), ?resend, ?abandoned, ?reply,
    fun at_ f m s h hr => gives_of_eq rfl rfl (reloadDone_ok h hr), fun at_ f s h hr => completes_of rfl (reloadOffer_waiting h hr),
    fun at_ f s h => completes_of rfl (reloadOffer_declined h), ?notWaiting, ?waitExpires, fun at_ k s h => completes_of rfl (streamComplete_noOffer h),
    ?complete, ?syncEvent, ?syncHere, fun p q at_ d f s h hd hu hq hh => completes_of rfl (syncRx_forwards h hd hu hq hh), ?command,
    ?badFrame, ?noLane, ?carried⟩
  case packet =>
    intro p at_ k s h
    refine ⟨completes_of rfl (packetRx_badCrc h), fun hr => completes_of rfl ((packetRx_good h).trans (if_pos hr)), fun hr hh => completes_of rfl ?_⟩
    exact (packetRx_good h).trans ((if_neg hr).trans (if_neg (Nat.not_le.2 hh)))
  case resend =>
    intro stream dst at_ k t s ho ht hd u
    exact ⟨fun hr => completes_streamTimeout ho ((streamTimeout_open ht hd).trans (if_neg (Nat.not_le.2 hr))),
      fun hr => completes_streamTimeout ho ((streamTimeout_open ht hd).trans (if_pos hr))⟩
  case abandoned =>
    intro stream dst at_ src total count root k s ho hr hs hd
    refine completes_of (f := fun s => match s.fab.offer with
      | some (src, _) =>
        if s.fab.reload = 2 ∧ stream = 0 ∧ src = dst then
          let t := s.reach at_
          reloadFails 7 k (sendDone src 3 (t.num Ix.HK_STATUS) t)
        else streamTimeout stream dst s
      | none => streamTimeout stream dst s) rfl ?_
    rw [ho]
    exact if_pos ⟨hr, hs, hd⟩
  case reply =>
    intro at_ f q s h ht u
    have hreply := reloadReply_offer (at_ := at_) rfl h ht
    refine ⟨fun h0 h1 => completes_of rfl (hreply.trans (if_pos ⟨h0, h1⟩)), fun h1 => completes_of rfl (hreply.trans ((if_neg ?_).trans (if_pos h1))),
      fun h1 h0 => completes_of rfl (hreply.trans ((if_neg ?_).trans (if_neg h1)))⟩
    · rw [h1]
      exact fun hc => absurd hc.1 (by decide)
    · rw [h0]
      exact fun hc => absurd hc.2 (by decide)
  case notWaiting => exact fun k s h => completes_of rfl (if_neg h)
  case waitExpires => exact fun k s h => completes_of rfl (if_pos h)
  case complete =>
    intro at_ src total count root k s ho hr hl u p hc hi
    exact completes_of rfl (streamComplete_taken rfl ho hr hl rfl hc hi)
  case syncEvent =>
    intro slot e p c s u h ha
    exact ⟨completes_of rfl (fabSyncEvent_taken h ha), fireFabSync_noDelay⟩
  case syncHere =>
    intro p at_ f s h
    have hhere : routeCode f.dst (s.reach at_) = 1 := h
    exact ⟨completes_of rfl (if_pos hhere), fun hd => syncMark_noDelay (u := s.reach at_) hd⟩
  case command =>
    intro r s h hv
    exact completes_of rfl (requestWrite_command h hv isW1c_reloadCmd commandWord_reloadCmd)
  case badFrame =>
    intro at_ dst b s h hd hb
    exact completes_of (f := fun s => hostStream dst b (s.reach at_)) rfl (hostStream_badFrame (s := s.reach at_) h hd hb)
  case noLane =>
    intro at_ dst b s h
    exact completes_of (f := fun s => hostStream dst b (s.reach at_)) rfl (hostStream_noLane (s := s.reach at_) h)
  case carried =>
    intro at_ dst typ b s h hd hb ht u
    exact completes_of (f := fun s => hostStream dst b (s.reach at_)) rfl (hostStream_carried (s := s.reach at_) h hd hb ht)

end Sys2Proof.Machine
end

section
/-!
PROOF. Mode transitions (04_operating_modes.md, R82 to R97): the rows of Table 4-2 at an evaluation, the workshop's requests, PARK entry
and its cancel, and the stay-awake word.
-/
namespace Sys2Proof.Machine

/-! ## The rows of Table 4-2 (R87) -/

section
variable {at_ row t : Nat} {s u : State}

theorem dwellOver_since {since : Option Nat} {from_ d : Nat} (h : since = some t) (ht : Nat.max t from_ + d ≤ s.now) :
    dwellOver since from_ d s = true := by
  subst h
  exact decide_eq_true ht

theorem rowWins_of (hr : modesRun s = true) (hp : rowPasses row s = true) (hl : ∀ r < row, rowPasses r s = false) : rowWins row s = true := by
  have hnone : ((List.range row).any fun r => rowPasses r s) = false :=
    List.any_eq_false.2 fun r hmem => Bool.eq_false_iff.1 (hl r (List.mem_range.1 hmem))
  rw [rowWins, hr, hp, hnone]
  rfl

theorem evalRow_taken (hu : evalAt at_ s = u) (hw : rowWins row u = true) (hc : commitFirst u = false) : evalRow row at_ s = some u := by
  rw [evalRow, hu, hw, hc]
  rfl

theorem evalRow_none (hp : rowPasses row (evalAt at_ s) = false) : evalRow row at_ s = none := by
  rw [evalRow, rowWins, hp, Bool.and_false, Bool.false_and, Bool.false_and]
  rfl

theorem rowPasses_zero : rowPasses 0 s = false := rfl

theorem rowPasses_one (h : s.modes.mode ≠ .workshop) : rowPasses 1 s = false := by
  rw [rowPasses, beq_eq_false_iff_ne.2 h, Bool.false_and]

theorem rowPasses_two (h : s.modes.mode ≠ .watch) : rowPasses 2 s = false := by
  rw [rowPasses, beq_eq_false_iff_ne.2 h]
  rfl

theorem rowPasses_two_ignition (h : ignition s = false) : rowPasses 2 s = false := by
  rw [rowPasses, h, Bool.and_false, Bool.false_and]

theorem rowPasses_three (h : s.modes.mode ≠ .ride) : rowPasses 3 s = false := by
  rw [rowPasses, beq_eq_false_iff_ne.2 h]
  rfl

theorem rowPasses_four (h : s.modes.wsEnter = none) : rowPasses 4 s = false := by
  rw [rowPasses, h, Option.isSome_none, Bool.and_false, Bool.false_and]

theorem rowPasses_five (h : s.modes.mode ≠ .watch ∨ stayEmpty s = false) : rowPasses 5 s = false := by
  obtain h | h := h
  · rw [rowPasses, beq_eq_false_iff_ne.2 h]
    rfl
  · rw [rowPasses, h, Bool.and_false, Bool.false_and]

/-- In WATCH row 1 and row 3 do not pass. -/
theorem lowerRows_watch {r : Nat} (h : s.modes.mode = .watch) (hr : r = 0 ∨ r = 1 ∨ r = 3) : rowPasses r s = false := by
  obtain rfl | rfl | rfl := hr
  · exact rowPasses_zero
  · exact rowPasses_one (by rw [h]; decide)
  · exact rowPasses_three (by rw [h]; decide)

/-- An empty stay-awake set has no ignition in it (Table 4-1). -/
theorem ignition_of_stayEmpty (h : stayEmpty s = true) : ignition s = false := by
  cases hi : ignition s
  · rfl
  · rw [stayEmpty, stayBits, hi] at h
    exact absurd h (by simp)

/-! ## RIDE -/

theorem rideEntry_taken (hu : evalAt at_ s = u) (hr : modesRun u = true) (hc : commitFirst u = false) (hm : u.modes.mode = .watch)
    (hg : rideGuard u = true) (hi : ignition u = true)
    (hd : dwellOver u.dwell.ignOn (u.modes.took.getD 0) (msP (u.num Ix.MODE_IGN_ON_DWELL)) u = true) :
    rideEntry at_ s = nmRide (imuLeaveWatch (changeMode .ride 2 u)) := by
  have hpass : rowPasses 2 u = true := by rw [rowPasses, hm, hg, hi, hd]; rfl
  have hwin : rowWins 2 u = true := rowWins_of hr hpass fun r hlt => lowerRows_watch hm (by omega)
  rw [rideEntry, evalRow_taken hu hwin hc]
  rfl

theorem rideExit_taken (hu : evalAt at_ s = u) (hr : modesRun u = true) (hc : commitFirst u = false) (hm : u.modes.mode = .ride)
    (hi : ignition u = false) (hd : dwellOver u.dwell.ignOff 0 (msP (u.num Ix.MODE_IGN_OFF_DWELL)) u = true) :
    rideExit at_ s =
      if (imuEnterWatch (changeMode .watch 3 u)).flt.degradePending then beginDegraded (imuEnterWatch (changeMode .watch 3 u))
      else imuEnterWatch (changeMode .watch 3 u) := by
  have hpass : rowPasses 3 u = true := by rw [rowPasses, hm, hi, hd]; rfl
  have hlower : ∀ r < 3, rowPasses r u = false := fun r hlt => by
    obtain rfl | rfl | rfl : r = 0 ∨ r = 1 ∨ r = 2 := by omega
    · exact rowPasses_zero
    · exact rowPasses_one (by rw [hm]; decide)
    · exact rowPasses_two (by rw [hm]; decide)
  rw [rideExit, evalRow_taken hu (rowWins_of hr hpass hlower) hc]

theorem rideEntry_none (hp : rowPasses 2 (evalAt at_ s) = false) : rideEntry at_ s = s := by rw [rideEntry, evalRow_none hp]
theorem rideExit_none (hp : rowPasses 3 (evalAt at_ s) = false) : rideExit at_ s = s := by rw [rideExit, evalRow_none hp]
theorem parkEntry_none (hp : rowPasses 5 (evalAt at_ s) = false) : parkEntry at_ s = s := by rw [parkEntry, evalRow_none hp]

/-! ## WORKSHOP -/

theorem workshopRefusal_notWatch (h : s.modes.mode ≠ .watch) : workshopRefusal s = 1 := if_pos (bne_iff_ne.2 h)

theorem workshopRefusal_watch (h : s.modes.mode = .watch) :
    workshopRefusal s = if !stationary s then 2 else if s.life == .maker || s.life == .field || s.life == .returned then 0 else 3 :=
  if_neg (by rw [h]; decide)

theorem workshopRefusal_watch_zero (h : s.modes.mode = .watch) (hs : stationary s = true) :
    workshopRefusal s = 0 ↔ s.life = .maker ∨ s.life = .field ∨ s.life = .returned := by
  rw [workshopRefusal_watch h, hs]
  cases s.life <;> decide

theorem workshopEntry_none (h : s.modes.wsEnter = none) : workshopEntry at_ s = s := by
  have h' : (evalAt at_ s).modes.wsEnter = none := h
  simp only [workshopEntry, h', ite_self]

/-- A request that waits at an evaluation where no lower-numbered row passes is taken or refused. -/
theorem workshopEntry_asked {r : Requester} {v : State} (hu : evalAt at_ s = u) (hr : modesRun u = true) (hc : commitFirst u = false)
    (hl : ∀ k ∈ [1, 2, 3], rowWins k u = false) (he : u.modes.wsEnter = some r)
    (hv : { u with modes := { u.modes with wsEnter := none } } = v) :
    workshopEntry at_ s =
      if workshopRefusal v = 0 then
        let w := imuLeaveWatch (changeMode .workshop 4 v)
        { w with modes := { w.modes with wsBy := some r, wsAt := w.now, wsExit := false } }
      else refuseMode .workshop (workshopRefusal v) { v with modes := { v.modes with wsRefused := some v.now } } := by
  have hany : ([1, 2, 3].any fun r => rowWins r u) = false := List.any_eq_false.2 fun k hk => Bool.eq_false_iff.1 (hl k hk)
  have hfree : ¬(!modesRun u || commitFirst u || [1, 2, 3].any fun r => rowWins r u) = true := by
    rw [hr, hc, hany]
    decide
  subst hv
  simp only [workshopEntry, hu, if_neg hfree, he]

theorem workshopExit_taken (hu : evalAt at_ s = u) (hr : modesRun u = true) (hc : commitFirst u = false) (hm : u.modes.mode = .workshop)
    (hw : u.modes.wsExit = true ∨ wsHolderGone u = true ∨
      stationary u = false ∧ dwellOver u.dwell.moved 0 (msP (u.num Ix.MODE_MOVE_EXIT_DWELL)) u = true) :
    workshopExit at_ s = imuEnterWatch (releaseWorkshop (changeMode .watch 1
      { u with modes := { u.modes with wsExit := false, wsBy := none } })) := by
  have hpass : rowPasses 1 u = true := by
    rw [rowPasses, hm]
    obtain h | h | ⟨h, hd⟩ := hw
    · rw [h]; rfl
    · rw [h, Bool.or_true]; rfl
    · rw [h, hd, Bool.not_false, Bool.and_true, Bool.or_true]; rfl
  have hwin : rowWins 1 u = true := rowWins_of hr hpass fun r hlt => by
    obtain rfl : r = 0 := by omega
    exact rowPasses_zero
  rw [workshopExit, evalRow_taken hu hwin hc]

theorem workshopExit_outside (hu : evalAt at_ s = u) (hm : u.modes.mode ≠ .workshop) :
    workshopExit at_ s = if modesRun u && u.modes.wsExit then refuseMode .watch 4 { u with modes := { u.modes with wsExit := false } } else s := by
  have hmode : (u.modes.mode != Mode.workshop) = true := bne_iff_ne.2 hm
  rw [workshopExit, evalRow_none (by rw [hu]; exact rowPasses_one hm)]
  simp only [hu, hmode, Bool.and_true]

/-! ## PARK entry -/

theorem parkEntry_taken {v : State} (hu : evalAt at_ s = u) (hr : modesRun u = true) (hc : commitFirst u = false)
    (hm : u.modes.mode = .watch) (hs : stayEmpty u = true) (he : u.modes.wsEnter = none) (hw : u.modes.wsRefused ≠ some u.now)
    (hd : dwellOver u.dwell.empty u.modes.cancelled (secP (u.num Ix.MODE_PARK_DELAY)) u = true)
    (hv : (if u.txn.st = .opened then rollBack 9 4 u else u) = v) :
    parkEntry at_ s = sendDomainState { v with modes := { v.modes with entering := some v.now, announced := isDomainRoot v } } := by
  have hpass : rowPasses 5 u = true := by rw [rowPasses, hm, hs, he, hd, bne_iff_ne.2 hw]; rfl
  have hlower : ∀ r < 5, rowPasses r u = false := fun r hlt => by
    by_cases h2 : r = 2
    · exact h2 ▸ rowPasses_two_ignition (ignition_of_stayEmpty hs)
    · by_cases h4 : r = 4
      · exact h4 ▸ rowPasses_four he
      · exact lowerRows_watch hm (by omega)
  rw [parkEntry, evalRow_taken hu (rowWins_of hr hpass hlower) hc]
  simp only [beq_iff_eq, hv]

theorem parkWaitEnd_none (h : s.modes.entering = none) : parkWaitEnd s = s := by simp only [parkWaitEnd, h]

theorem parkWaitEnd_waits (h : s.modes.entering = some t) (hr : isDomainRoot s = true) (hm : s.modes.membersAwake.isEmpty = false) :
    parkWaitEnd s = enterPark (s.reach (t + secP 2)) := by
  have hwait : (isDomainRoot s && !s.modes.membersAwake.isEmpty) = true := by rw [hr, hm]; rfl
  simp only [parkWaitEnd, h, hwait, if_true]

theorem parkWaitEnd_atOnce (h : s.modes.entering = some t) (hr : isDomainRoot s = false ∨ s.modes.membersAwake.isEmpty = true) :
    parkWaitEnd s = enterPark s := by
  have hwait : (isDomainRoot s && !s.modes.membersAwake.isEmpty) = false := by
    obtain h | h := hr
    · rw [h, Bool.false_and]
    · rw [h, Bool.not_true, Bool.and_false]
  simp only [parkWaitEnd, h, hwait, Bool.false_eq_true, if_false]

theorem parkCancel_none {code : Nat} (h : s.modes.entering = none) : parkCancel at_ code s = s := by simp only [parkCancel, h]

theorem parkCancel_entering {code : Nat} (h : s.modes.entering = some t)
    (hu : s.reach (if code = 0 then t + secP (s.num Ix.PWR_RTC_WAKE) else at_) = u) :
    parkCancel at_ code s = if code ≠ 1 ∧ code < 7 ∧ sourceConfigured code u then
        (if (parkSourceFires code u).modes.entering.isNone then sendDomainState (parkSourceFires code u) else parkSourceFires code u)
      else u := by
  simp only [parkCancel, h, hu]

end

/-! ## The words of the modes -/

section
variable {r : Requester} {m : Measured} {v : Word} {s : State}

theorem isW1c_modes : isW1c Ix.MODE_WS_REQUEST = false ∧ isW1c Ix.MODE_HOST_STAY = false := by decide +kernel

theorem commandWord_wsRequest : commandWord r m Ix.MODE_WS_REQUEST v s =
    some (0, match r with | .fabric _ => s | _ => if v = 1 then wsEnter r s else wsLeave s) := rfl

theorem commandWord_hostStay : commandWord r m Ix.MODE_HOST_STAY v s = some (0, if r = .host then hostStay v s else s) := rfl

theorem cleanValue_wsRequest : cleanValue Ix.MODE_WS_REQUEST 1 = 1 ∧ cleanValue Ix.MODE_WS_REQUEST 2 ≠ 1 := by decide +kernel

/-- A write of MODE_HOST_STAY by another requester than the host has no effect, permitted or not. -/
theorem requestWrite_hostStay_other (h : r ≠ .host) : requestWrite r m Ix.MODE_HOST_STAY v s = noteRequest r s := by
  obtain ⟨-, hw⟩ := isW1c_modes
  by_cases hm : mayWrite r Ix.MODE_HOST_STAY (noteRequest r s) = true
  · by_cases hv : (valueOk Ix.MODE_HOST_STAY v (noteRequest r s) && crossWritten Ix.MODE_HOST_STAY v (noteRequest r s)) = true
    · exact (requestWrite_command hm hv hw commandWord_hostStay).trans (if_neg h)
    · obtain ⟨x, hx, -⟩ := (mayWrite_iff r Ix.MODE_HOST_STAY _).1 hm
      have hacc : x.access ≠ .w1c := fun hc => by
        rw [isW1c, hx] at hw
        exact absurd hc (beq_eq_false_iff_ne.1 hw)
      simp [requestWrite, writeParam, hm, hx, hacc, hv]
  · exact congrArg Prod.snd (writeParam_refused m (Bool.eq_false_iff.2 hm))

end

/-- Settles O46, clause by clause from the rows, the workshop's requests and PARK entry above. -/
theorem modeRows : Obligations.ModeRows := by
  unfold Obligations.ModeRows
  refine ⟨?ride, fun at_ s h => completes_of rfl (rideEntry_none (rowPasses_two_ignition h)), ?notWatch, ?rideExit,
    fun at_ s h => completes_of rfl (rideExit_none (rowPasses_three h)), ?requests, ?workshop, ?refusal,
    fun at_ s h => completes_of rfl (workshopEntry_none h), ?exit, ?exitOutside, ?park,
    fun at_ s h => completes_of rfl (parkEntry_none (rowPasses_five (.inr h))), fun s h => completes_of rfl (parkWaitEnd_none h),
    fun t s h hr hm => completes_of rfl (parkWaitEnd_waits h hr hm), fun t s h hr => completes_of rfl (parkWaitEnd_atOnce h hr),
    fun at_ code s h => completes_of rfl (parkCancel_none h), ?cancel, ?hostStay, fun r v s h => completes_of rfl (requestWrite_hostStay_other h),
    fun s h => completes_of rfl (if_pos h), fun s h => completes_of rfl (if_neg (Bool.eq_false_iff.1 h)), ?rootLost, ?rootKept⟩
  case ride =>
    intro at_ t s u hr hc hm hg hi ht hd
    exact completes_of rfl (rideEntry_taken rfl hr hc hm hg hi (dwellOver_since ht hd))
  case notWatch =>
    intro at_ s h
    exact ⟨completes_of rfl (rideEntry_none (rowPasses_two h)), completes_of rfl (parkEntry_none (rowPasses_five (.inl h)))⟩
  case rideExit =>
    intro at_ t s u hr hc hm hi ht hd w
    have hmax : Nat.max t 0 + msP (s.num Ix.MODE_IGN_OFF_DWELL) ≤ u.now := by rw [show Nat.max t 0 = t from Nat.max_zero t]; exact hd
    exact completes_of rfl (rideExit_taken rfl hr hc hm hi (dwellOver_since ht hmax))
  case requests =>
    intro r s h
    obtain ⟨hw, -⟩ := isW1c_modes
    obtain ⟨hone, htwo⟩ := cleanValue_wsRequest
    refine ⟨fun hv => completes_of rfl ((requestWrite_command h hv hw commandWord_wsRequest).trans ?_),
      fun hv => completes_of rfl ((requestWrite_command h hv hw commandWord_wsRequest).trans ?_)⟩
    · cases r <;> rfl
    · cases r <;> rfl
  case workshop =>
    intro at_ r s u hr hc hl he v
    have hasked := workshopEntry_asked (at_ := at_) (s := s) rfl hr hc hl he rfl
    exact ⟨fun hno => completes_of rfl (hasked.trans (if_neg hno)), fun hyes => completes_of rfl (hasked.trans (if_pos hyes))⟩
  case refusal =>
    intro s
    refine ⟨workshopRefusal_notWatch, fun hm hs => ?_, fun hm hs => workshopRefusal_watch_zero hm hs⟩
    exact (workshopRefusal_watch hm).trans (if_pos (by rw [hs]; rfl))
  case exit =>
    intro at_ s u hr hc hm hw
    refine completes_of rfl (workshopExit_taken rfl hr hc hm (hw.imp id (Or.imp id fun ⟨hs, t, ht, hd⟩ => ⟨hs, ?_⟩)))
    exact dwellOver_since ht (by rw [show Nat.max t 0 = t from Nat.max_zero t]; exact hd)
  case exitOutside =>
    intro at_ s u hm
    have hout := workshopExit_outside (at_ := at_) (s := s) rfl hm
    refine ⟨fun hr hx => completes_of rfl (hout.trans (if_pos ?_)), fun hx => completes_of rfl (hout.trans (if_neg ?_))⟩
    · rw [hr]
      exact hx
    · rw [show (evalAt at_ s).modes.wsExit = false from hx, Bool.and_false]
      exact Bool.false_ne_true
  case park =>
    intro at_ t s u hr hc hm hs he hw ht hd v
    exact completes_of rfl (parkEntry_taken rfl hr hc hm hs he hw (dwellOver_since ht hd) rfl)
  case cancel =>
    intro at_ t code s h u
    have hcancel := parkCancel_entering (at_ := at_) (code := code.val) h rfl
    refine ⟨fun h1 h7 hs he => completes_of rfl (hcancel.trans ((if_pos ⟨h1, h7, hs⟩).trans (if_pos ?_))),
      fun h1 h7 hs => completes_of rfl (hcancel.trans (if_neg fun hc => Bool.false_ne_true (hs.symm.trans hc.2.2))),
      fun hx => completes_of rfl (hcancel.trans (if_neg fun hc => ?_))⟩
    · exact Option.isNone_iff_eq_none.2 he
    · obtain hx | hx := hx
      · exact hc.1 hx
      · exact absurd hc.2.1 (by omega)
  case hostStay =>
    intro v s h hv
    obtain ⟨-, hw⟩ := isW1c_modes
    have hput : requestWrite .host noMeasure Ix.MODE_HOST_STAY v s = hostStay (cleanValue Ix.MODE_HOST_STAY v) (noteRequest .host s) :=
      requestWrite_command (a := (0, _)) h hv hw (commandWord_hostStay.trans rfl)
    refine gives_of_eq rfl hput ⟨word_put_same .., ?_, fun i hi => ?_, ?_⟩
    · change (if bit _ 0 then (noteRequest .host s).now else (noteRequest .host s).hst.stayAt) = _
      rw [noteRequest_now, noteRequest_hst]
    · refine (word_put_other _ _ hi).trans ?_
      rw [State.word, noteRequest_words]
      rfl
    · obtain ⟨ms, hms⟩ : ∃ ms, noteRequest .host s = { s with modes := ms } := ⟨_, noteRequest_eq ..⟩
      rw [hms]
      exact after_of_now rfl rfl
  case rootLost =>
    intro at_ t s hm hl ht hd
    have hguard : (isMember s && !rootLinked s && dwellOver s.dwell.unlinked 0 (msP (s.num Ix.MODE_IGN_OFF_DWELL)) (s.reach at_)) = true := by
      rw [hm, hl, dwellOver_since ht (by rw [show Nat.max t 0 = t from Nat.max_zero t]; exact hd)]
      rfl
    exact completes_of rfl (if_pos hguard)
  case rootKept =>
    intro at_ s h
    refine completes_of rfl (if_neg ?_)
    obtain h | h := h
    · rw [h]
      exact Bool.false_ne_true
    · rw [h, Bool.not_true, Bool.and_false, Bool.false_and]
      exact Bool.false_ne_true

end Sys2Proof.Machine
end

section
/-!
PROOF. Power states (05_power_domains.md, R503 of 20_security_and_lifecycle.md): what TST_RSTN leaves of a wake order.
-/
namespace Sys2Proof.Machine

/-- A part that runs, in the life-cycle state BLANK, with a wake order still on record. -/
def runningWithWake : State :=
  { State.reset with pw := { PowerS.reset with
      waking := some { wstep := 2, from_ := 0, fails := 0, backoff := 0, waiting := none } } }

theorem rstHonoured_runningWithWake : rstHonoured runningWithWake = true := by decide +kernel

/-- In RUN the assertion of TST_RSTN holds the part in reset and leaves the record of the wake order as it was. -/
theorem rstAssert_runningWithWake : (rstAssert runningWithWake).pw.waking = runningWithWake.pw.waking := by
  have hheld : ¬(!rstHonoured runningWithWake || runningWithWake.pw.rstHeld) = true := by
    rw [rstHonoured_runningWithWake]
    decide
  rw [rstAssert, if_neg hheld]
  rfl

/-- Refutes O47: in RUN TST_RSTN_ASSERT does not end a wake order that the power manager still has on record. -/
theorem not_powerRows : ¬ Obligations.PowerRows := by
  unfold Obligations.PowerRows
  rintro ⟨-, -, -, -, -, -, -, -, -, -, -, -, -, -, -, -, -, -, -, -, -, -, -, -, -, -, -, -, -, hassert, -⟩
  obtain ⟨t, ht, -, hwaking, -⟩ := hassert runningWithWake rstHonoured_runningWithWake rfl ⟨rfl, by decide⟩
  have hdone : Completes .tstRstnAssert runningWithWake (rstAssert runningWithWake) := completes_of rfl rfl
  have hnext := hdone ⟨rfl, by decide⟩
  rw [ht] at hnext
  obtain rfl := Host.Outcome.next.inj hnext
  have hkept : (rstAssert runningWithWake).pw.waking = none := hwaking
  rw [rstAssert_runningWithWake] at hkept
  exact Option.some_ne_none _ hkept

end Sys2Proof.Machine
end

section
/-!
PROOF. Supply bands, over-voltage, reverse supply, shedding and dissipation (22_shared_resources.md, R545, R571, R572, R584; R189).
-/
namespace Sys2Proof.Machine

/-! ## Supply bands (R189) -/

section
variable {at_ least most : Nat} {i : Instr} {s : State}

/-- What a command served by the awake pair finds. -/
theorem pairUp_of_ready (hp : Instr.part i = .pairAwake) (h : Ready i s) : deviceUp s = true ∧ s.procs.app = .running := by
  obtain ⟨hserved, -⟩ := h
  rw [hp] at hserved
  obtain ⟨hpair, -⟩ := Bool.and_eq_true_iff.1 hserved
  obtain ⟨hdev, happ⟩ := Bool.and_eq_true_iff.1 hpair
  exact ⟨hdev, beq_iff_eq.1 happ⟩

theorem bandAfter_cases (least most : Nat) :
    (most < 600 → bandAfter least most .normal = .crank) ∧
    (600 ≤ most → 1800 < least → bandAfter least most .normal = .jump) ∧
    (600 ≤ most → least ≤ 1800 → bandAfter least most .normal = .normal) ∧
    (630 < least → bandAfter least most .crank = .normal) ∧ (least ≤ 630 → bandAfter least most .crank = .crank) ∧
    (most < 1750 → bandAfter least most .jump = .normal) ∧ (1750 ≤ most → bandAfter least most .jump = .jump) :=
  ⟨fun h => if_pos h, fun h h' => (if_neg (Nat.not_lt.2 h)).trans (if_pos h'),
    fun h h' => (if_neg (Nat.not_lt.2 h)).trans (if_neg (Nat.not_lt.2 h')), fun h => if_pos h, fun h => if_neg (Nat.not_lt.2 h),
    fun h => if_pos h, fun h => if_neg (Nat.not_lt.2 h)⟩

theorem bandChange_none (h : bandAfter least most s.band = s.band) : bandChange at_ least most s = s.reach at_ := by
  have hsame : (bandAfter least most (s.reach at_).band == (s.reach at_).band) = true := beq_iff_eq.2 h
  simp only [bandChange, hsame, Bool.or_true, if_true]

/-- The band moves on, counted where it is CRANK or JUMP, and the outputs follow it. -/
theorem bandChange_moves {b c : Band} (happ : s.procs.app = .running) (hb : s.band = b) (h : bandAfter least most b = c) (hne : c ≠ b) :
    bandChange at_ least most s = followBand b (match c with
      | .crank => ({ s.reach at_ with band := c } : State).bump Ix.SYS_SUPPLY_COUNTS 8 8
      | .jump => ({ s.reach at_ with band := c } : State).bump Ix.SYS_SUPPLY_COUNTS 16 8
      | .normal => { s.reach at_ with band := c }) := by
  have hstay : ((s.reach at_).procs.app != .running || c == b) = false := by
    rw [show (s.reach at_).procs.app = .running from happ, beq_eq_false_iff_ne.2 hne]
    rfl
  have hb' : (s.reach at_).band = b := hb
  simp only [bandChange, hb', h, hstay, Bool.false_eq_true, if_false]
  cases c <;> rfl

/-! ## Over-voltage (R571) -/

theorem overvoltEntry_enters (hdev : deviceUp s = true) (ho : s.share.overvolt = false) (hl : 2800 < least) :
    overvoltEntry at_ least s = refreshChg (forEach (List.finRange 2) openBridge (holdOutputs
      ((({ s.reach at_ with share := { s.share with overvolt := true } } : State).latch Ix.SYS_SUPPLY 16).bump Ix.SYS_SUPPLY_COUNTS 0 8))) := by
  have hstay : ¬((s.reach at_).share.overvolt || !deviceUp (s.reach at_) || decide (least ≤ 2800)) = true := by
    rw [show (s.reach at_).share.overvolt = false from ho, show deviceUp (s.reach at_) = true from hdev,
      decide_eq_false (Nat.not_le.2 hl)]
    decide
  exact if_neg hstay

theorem overvoltEntry_stays (h : s.share.overvolt = true ∨ least ≤ 2800) : overvoltEntry at_ least s = s.reach at_ := by
  have hstay : ((s.reach at_).share.overvolt || !deviceUp (s.reach at_) || decide (least ≤ 2800)) = true := by
    obtain h | h := h
    · rw [show (s.reach at_).share.overvolt = true from h, Bool.true_or, Bool.true_or]
    · rw [decide_eq_true h, Bool.or_true]
  exact if_pos hstay

theorem overvoltExit_leaves (ho : s.share.overvolt = true) (hm : most < 2700) :
    overvoltExit at_ most s = refreshChg (forEach (List.finRange 2) (fun b t => if (t.br b).st = .off then startFromCatch b t else t)
      (resumeOutputs (({ s.reach at_ with share := { s.share with overvolt := false } } : State).unlatch Ix.SYS_SUPPLY 16))) := by
  have hstay : ¬(!(s.reach at_).share.overvolt || decide (2700 ≤ most)) = true := by
    rw [show (s.reach at_).share.overvolt = true from ho, decide_eq_false (Nat.not_le.2 hm)]
    decide
  exact if_neg hstay

theorem overvoltExit_stays (h : s.share.overvolt = false ∨ 2700 ≤ most) : overvoltExit at_ most s = s.reach at_ := by
  have hstay : (!(s.reach at_).share.overvolt || decide (2700 ≤ most)) = true := by
    obtain h | h := h
    · rw [show (s.reach at_).share.overvolt = false from h, Bool.not_false, Bool.true_or]
    · rw [decide_eq_true h, Bool.or_true]
  exact if_pos hstay

/-! ## Reverse supply (R572) -/

/-- A channel under reverse supply: the high-side ones conduct. -/
def reverseCh (on : Bool) (now : Nat) (c : Ch) (x : Channel) : Channel :=
  if c.val < 36 then { chOff now x with drive := b2n on, pulse := on } else chOff now x

theorem reverseSupply_same {on : Bool} (h : s.share.reverse = on) : reverseSupply at_ on s = s.reach at_ :=
  if_pos (beq_iff_eq.2 h)

/-- A bump where a condition asks for one changes neither the supply flags nor the channels. -/
theorem bumpWhere_share_chans (b : Bool) (i lo w : Nat) (u : State) :
    (if b then u.bump i lo w else u).share = u.share ∧ (if b then u.bump i lo w else u).chans = u.chans := by
  cases b <;> exact ⟨rfl, rfl⟩

theorem reverseSupply_begins (h : s.share.reverse = false) :
    (reverseSupply at_ true s).share.reverse = true ∧
    ∀ c : Ch, (reverseSupply at_ true s).chans[c] = reverseCh true (s.reach at_).now c s.chans[c] := by
  have hne : ¬((s.reach at_).share.reverse == true) = true := by rw [show (s.reach at_).share.reverse = false from h]; decide
  obtain ⟨hshare, hchans⟩ := bumpWhere_share_chans (true && (s.reach at_).chg.aoOnCell) Ix.SYS_SUPPLY_COUNTS 24 8
    (reverseDrive true { s.reach at_ with share := { (s.reach at_).share with reverse := true } })
  have hdrives : reverseSupply at_ true s = _ := if_neg hne
  constructor
  · exact (congrArg (fun t : State => t.share.reverse) hdrives).trans (congrArg Share.reverse hshare)
  · intro c
    have hch : (reverseSupply at_ true s).chans = _ := (congrArg State.chans hdrives).trans hchans
    exact (congrArg (fun v : Vector Channel 42 => v[c]) hch).trans (Vector.getElem_ofFn ..)

end

/-! ## Shedding (R545) -/

section
variable {p : Pressures} {s : State}

theorem shedUp_idle (h : evaluates s = false) : shedUp p s = s.reach p.at_ ∧ shedDown p s = s.reach p.at_ := by
  have h' : (!evaluates (s.reach p.at_)) = true := by rw [show evaluates (s.reach p.at_) = false from h]; rfl
  exact ⟨if_pos h', if_pos h'⟩

theorem shedUp_evaluates (h : evaluates s = true) :
    shedUp p s = if (shedElapsed p (s.reach p.at_)).any id then
        followLevel (forEach ((shedElapsed p (s.reach p.at_)).filter id) (fun _ => raiseLevel)
          (restartSheds (shedElapsed p (s.reach p.at_)) (notePressures p (s.reach p.at_))))
      else notePressures p (s.reach p.at_) := by
  have h' : ¬(!evaluates (s.reach p.at_)) = true := by rw [show evaluates (s.reach p.at_) = true from h]; decide
  exact if_neg h'

theorem shedDown_evaluates {v : State} (h : evaluates s = true) (hv : notePressures p (s.reach p.at_) = v) :
    shedDown p s = if restoreElapsed p (s.reach p.at_) && decide (0 < s.share.level) then
        followLevel (atLevel (stepDown v) (({ v with share := { v.share with restoreAt := v.now } } : State).bump Ix.SYS_SHARE_COUNTS 16 16))
      else v := by
  have h' : ¬(!evaluates (s.reach p.at_)) = true := by rw [show evaluates (s.reach p.at_) = true from h]; decide
  subst hv
  exact if_neg h'

theorem shedElapsed_iff {k : Nat} (hk : k < 4) :
    (shedElapsed p s).getD k false = true ↔ (shedConds p s).getD k false = true ∧ shedDwells.getD k 0 ≤ p.held.getD k 0 ∧
      s.share.shedAt.getD k 0 + msP (shedDwells.getD k 0) ≤ s.now := by
  have hat : (shedElapsed p s).getD k false = ((shedConds p s).getD k false && decide (shedDwells.getD k 0 ≤ p.held.getD k 0) &&
      decide (s.share.shedAt.getD k 0 + msP (shedDwells.getD k 0) ≤ s.now)) := by
    rw [shedElapsed, List.getD_eq_getElem?_getD, List.getElem?_map, List.getElem?_range hk]
    rfl
  rw [hat, Bool.and_eq_true, Bool.and_eq_true, decide_eq_true_iff, decide_eq_true_iff, and_assoc]

theorem restoreElapsed_iff : restoreElapsed p s = true ↔ ∀ k < 4, (restoreConds p s).getD k false = true ∧
    restoreDwells.getD k 0 ≤ p.held.getD k 0 ∧ s.share.restoreAt + msP (restoreDwells.getD k 0) ≤ s.now := by
  rw [restoreElapsed, List.all_eq_true]
  simp only [List.mem_range, Bool.and_eq_true, decide_eq_true_iff, and_assoc]

theorem raiseLevel_top (h : 20 ≤ s.share.level) : raiseLevel s = s := if_neg (Nat.not_lt.2 h)

/-- The end of a class's steps lies between the level reached and the top of the ladder. -/
theorem classEnd_bounds {b : Prop} [Decidable b] {n lvl : Nat} (h : n < lvl) (hle : lvl ≤ 20) :
    n < (if b then lvl else (lvl + 3) / 4 * 4) ∧ (if b then lvl else (lvl + 3) / 4 * 4) ≤ 20 := by
  split <;> omega

/-- One step up ends above the present level and no further than the ladder goes. -/
theorem stepUp_bounds (h : s.share.level < 20) : s.share.level < stepUp s ∧ stepUp s ≤ 20 := by
  refine classEnd_bounds ?_ ?_
  · split
    case h_1 k _ => exact Nat.lt_succ_of_le (Nat.le_add_right s.share.level k)
    case h_2 => exact h
  · split
    case h_1 k hk =>
      have hlt : k < 20 - s.share.level := List.mem_range.1 (List.mem_of_find?_eq_some hk)
      exact Nat.add_lt_of_lt_sub' hlt
    case h_2 => exact Nat.le_refl 20

theorem stepDown_lt (h : 0 < s.share.level) : stepDown s < s.share.level := by
  unfold stepDown
  dsimp only
  split <;> omega

theorem raiseLevel_below (h : s.share.level < 20) : (raiseLevel s).share.level = stepUp s := by
  rw [raiseLevel, if_pos h]
  rfl

end

/-! ## Dissipation (R584, R585) -/

section
variable {s t : State}

theorem wordsFrame_forEach {α : Type} {xs : List α} {g : α → State → State} (h : ∀ x u, WordsFrame u (g x u)) (s : State) :
    WordsFrame s (forEach xs g s) := by
  induction xs generalizing s with
  | nil => exact WordsFrame.refl s
  | cons x xs ih => exact WordsFrame.trans (h x s) (ih _)

theorem wordsFrame_putTemps (base : Nat) (ts : List Int) (s : State) : WordsFrame s (putTemps base ts s) :=
  wordsFrame_forEach (fun _ _ => wordsFrame_putNat ..) s

theorem wordsFrame_putFld (i lo w v : Nat) (s : State) : WordsFrame s (s.putFld i lo w v) := rfl

/-- The state in which the temperatures of the stages have been put down. -/
def tempsPut (d : Heat) (s : State) : State :=
  putTemps (Ix.MOT_TEMP 0) (d.mot.take 2) (putTemps (Ix.HS_TEMP 0) (d.hs.take 36) (s.reach d.at_))

theorem wordsFrame_tempsPut (d : Heat) (s : State) : WordsFrame (s.reach d.at_) (tempsPut d s) :=
  (wordsFrame_putTemps ..).trans (wordsFrame_putTemps ..)

theorem wordsFrame_heatUpdate (d : Heat) (s : State) : WordsFrame (s.reach d.at_) (heatUpdate d s) :=
  ((((wordsFrame_tempsPut d s).trans (wordsFrame_putNat ..)).trans (wordsFrame_putFld ..)).trans (wordsFrame_putNat ..)).trans
    (wordsFrame_putNat ..)

theorem heatUpdate_thermal (d : Heat) (s : State) :
    (heatUpdate d s).word Ix.SYS_THERMAL = toWord (unsigned d.logic 16 + unsigned d.hottest 16 * 2 ^ 16) :=
  (word_put_other _ _ (by decide)).trans ((word_put_other _ _ (by decide)).trans ((word_put_other _ _ (by decide)).trans (word_put_same ..)))

theorem heatUpdate_dissipation (d : Heat) (s : State) :
    (heatUpdate d s).word Ix.SYS_DISSIPATION =
      toWord (Nat.min 65535 (logicHeat s + d.terms.foldl (· + ·) 0) + heatBudget d.slug * 2 ^ 16) := by
  have hlogic : logicHeat (tempsPut d s) = logicHeat s := by
    have hpw : (tempsPut d s).pw = s.pw := by rw [wordsFrame_tempsPut d s]; rfl
    rw [logicHeat, hpw]
    rfl
  rw [← hlogic]
  exact word_put_same ..

/-- A command that changes words and moves the clock on leaves the rest but the dwells. -/
theorem after_words_later {u : Nat} (h : WordsFrame (s.reach u) t) :
    after s t = { s with words := (after s t).words, now := (after s t).now, dwell := (after s t).dwell } := by
  rw [h]
  rfl

end

/-- Settles O49, clause by clause from the bands, over-voltage, the reverse supply and the shedding above. -/
theorem sharedResourceRows : Obligations.SharedResourceRows := by
  unfold Obligations.SharedResourceRows
  refine ⟨bandAfter_cases, fun at_ least most s h => completes_of rfl (bandChange_none h), ?crank, ?jump, ?crankEnds, ?jumpEnds, ?overvolt,
    fun at_ least s h => completes_of rfl (overvoltEntry_stays h), fun at_ most s ho hm => completes_of rfl (overvoltExit_leaves ho hm),
    fun at_ most s h => completes_of rfl (overvoltExit_stays h), fun at_ on s h => completes_of rfl (reverseSupply_same h), ?reverse,
    ?idle, ?up, ?down, fun p k s hk => shedElapsed_iff hk, fun p s => restoreElapsed_iff, ?steps, ?heat, ?ride, ?degraded⟩
  case crank =>
    intro at_ least most s hb hm u hready
    obtain ⟨-, happ⟩ := pairUp_of_ready rfl hready
    obtain ⟨hcrank, -⟩ := bandAfter_cases least most
    exact completes_of (f := fun s => bandChange at_ least most s) rfl (bandChange_moves happ hb (hcrank hm) (by decide)) hready
  case jump =>
    intro at_ least most s hb hm hl u hready
    obtain ⟨-, happ⟩ := pairUp_of_ready rfl hready
    obtain ⟨-, hjump, -⟩ := bandAfter_cases least most
    exact completes_of (f := fun s => bandChange at_ least most s) rfl (bandChange_moves happ hb (hjump hm hl) (by decide)) hready
  case crankEnds =>
    intro at_ least most s hb hl u hready
    obtain ⟨-, happ⟩ := pairUp_of_ready rfl hready
    obtain ⟨-, -, -, hnormal, -⟩ := bandAfter_cases least most
    exact completes_of (f := fun s => bandChange at_ least most s) rfl (bandChange_moves happ hb (hnormal hl) (by decide)) hready
  case jumpEnds =>
    intro at_ least most s hb hm u hready
    obtain ⟨-, happ⟩ := pairUp_of_ready rfl hready
    obtain ⟨-, -, -, -, -, hnormal, -⟩ := bandAfter_cases least most
    exact completes_of (f := fun s => bandChange at_ least most s) rfl (bandChange_moves happ hb (hnormal hm) (by decide)) hready
  case overvolt =>
    intro at_ least s ho hl u hready
    obtain ⟨hdev, -⟩ := pairUp_of_ready rfl hready
    exact completes_of (f := fun s => overvoltEntry at_ least s) rfl (overvoltEntry_enters hdev ho hl) hready
  case reverse =>
    intro at_ s h
    obtain ⟨hon, hch⟩ := reverseSupply_begins (at_ := at_) h
    refine gives_of_eq rfl rfl ⟨hon, fun c hc => ?_, fun c hc => ?_⟩
    · have hone : (reverseSupply at_ true s).chans[c] = _ := (hch c).trans (if_pos hc)
      exact ⟨congrArg Channel.drive hone, congrArg Channel.pulse hone⟩
    · exact (hch c).trans (if_neg (Nat.not_lt.2 hc))
  case idle =>
    intro p s h
    obtain ⟨hup, hdown⟩ := shedUp_idle (p := p) h
    exact ⟨completes_of rfl hup, completes_of rfl hdown⟩
  case up =>
    intro p s h u due
    exact ⟨fun hd => completes_of rfl ((shedUp_evaluates h).trans (if_pos hd)),
      fun hd => completes_of rfl ((shedUp_evaluates h).trans (if_neg (Bool.eq_false_iff.1 hd)))⟩
  case down =>
    intro p s h u v
    have hdown := shedDown_evaluates (p := p) h rfl
    refine ⟨fun hr hl => completes_of rfl (hdown.trans (if_pos ?_)), fun hx => completes_of rfl (hdown.trans (if_neg ?_))⟩
    · rw [show restoreElapsed p (s.reach p.at_) = true from hr, decide_eq_true hl]
      rfl
    · obtain hx | hx := hx
      · rw [show restoreElapsed p (s.reach p.at_) = false from hx]
        exact Bool.false_ne_true
      · rw [hx, decide_eq_false (Nat.lt_irrefl 0), Bool.and_false]
        exact Bool.false_ne_true
  case steps =>
    intro s
    refine ⟨fun h => ?_, raiseLevel_top, stepDown_lt⟩
    obtain ⟨hlt, hle⟩ := stepUp_bounds h
    exact ⟨raiseLevel_below h, hlt, hle⟩
  case heat =>
    intro d s
    exact gives_of_eq rfl rfl ⟨heatUpdate_thermal d s, heatUpdate_dissipation d s, after_words_later (wordsFrame_heatUpdate d s)⟩
  case ride =>
    intro s h
    have hride : (s.modes.mode == Mode.ride) = true := beq_iff_eq.2 h
    exact completes_of (f := fun s => if s.modes.mode == .ride then s else beginDegraded s) rfl (if_pos hride)
  case degraded =>
    intro s h hr
    have hride : ¬(s.modes.mode == Mode.ride) = true := fun hc => h (beq_iff_eq.1 hc)
    exact completes_of (f := fun s => if s.modes.mode == .ride then s else beginDegraded s) rfl ((if_neg hride).trans (if_pos hr))

end Sys2Proof.Machine
end

section
/-!
PROOF. Fault reports, event expiry, the log and the Report Card (19_faults_and_health.md, R452, R456, R460, R462, R465, R467, R469).
-/
namespace Sys2Proof.Machine

section
variable {id inst : Nat} {s : State}

/-! ## Reports and their ends (R452, R456) -/

theorem report_undefined (h : faultRow id = none) : report id inst s = s := by
  rw [report, reportWith, h]

theorem report_running {x : FaultRow} (h : faultRow id = some x) (hm : s.modes.mode ≠ .park) (hs : s.started = true) :
    report id inst s = applyReport id inst (sevNow id s) (freezeWords id inst s) s := by
  have hwait : ¬(s.modes.mode == Mode.park || !s.started) = true := by
    rw [beq_eq_false_iff_ne.2 hm, hs]
    decide
  rw [report, reportWith, h]
  exact if_neg hwait

theorem report_waits {x : FaultRow} (h : faultRow id = some x) (hw : s.modes.mode = .park ∨ s.started = false) :
    report id inst s = { s with flt := { s.flt with
      deferred := s.flt.deferred ++ [{ id := id, inst := inst, freeze := freezeWords id inst s, ended := false }] } } := by
  have hwait : (s.modes.mode == Mode.park || !s.started) = true := by
    obtain hw | hw := hw
    · rw [beq_iff_eq.2 hw, Bool.true_or]
    · rw [hw, Bool.not_false, Bool.or_true]
  rw [report, reportWith, h]
  exact if_pos hwait

theorem eventExpiry_found {r : FaultRow} {x : FaultSrc} (hr : faultRow id = some r)
    (hx : s.flt.srcs.find? (fun x => x.id == id && x.inst == inst && x.active) = some x) :
    eventExpiry id inst s = if r.kind = .event then endFault id inst (s.reach (x.last + secP 1)) else s := by
  rw [eventExpiry, hr, hx]

theorem srcActive_endFault {x : FaultSrc} (hx : s.flt.srcs.find? (fun x => x.id == id && x.inst == inst && x.active) = some x)
    (hw : x.warned = false) : srcActive id inst (endFault id inst s) = false := by
  have hfind : (endWaiting id inst s).flt.srcs.find? (fun x => x.id == id && x.inst == inst && x.active) = some x := hx
  rw [endFault]
  simp only [hfind, hw, Bool.false_eq_true, if_false]
  rw [srcActive, List.any_eq_false]
  intro y hy
  obtain ⟨z, -, rfl⟩ := List.mem_map.1 hy
  by_cases hz : (z.id == id && z.inst == inst) = true
  · simp [hz]
  · simp [hz]

end

section
variable {s : State}

/-! ## The log's flush (R462) -/

theorem logFlush_empty (h : s.flt.buf = []) : logFlush s = s :=
  if_pos (List.isEmpty_iff.2 h)

theorem not_isEmpty_of_length {α : Type} {xs : List α} (h : 0 < xs.length) : ¬xs.isEmpty = true :=
  fun hc => absurd (List.isEmpty_iff.1 hc) (List.ne_nil_of_length_pos h)

theorem logFlush_full (h : 16 ≤ s.flt.buf.length) : logFlush s = writeLog s :=
  (if_neg (not_isEmpty_of_length (by omega))).trans (if_pos h)

theorem logFlush_aged (h : 0 < s.flt.buf.length) (h' : s.flt.buf.length < 16) :
    logFlush s = writeLog (s.reach (s.flt.bufAt + secP 1)) :=
  (if_neg (not_isEmpty_of_length h)).trans (if_neg (Nat.not_le.2 h'))

theorem writeLog_whole (h : s.flt.lost = 0) :
    writeLog s = { s with flt := { s.flt with
      flash := s.flt.buf.foldl (fun r e => ringPush 4096 r e) s.flt.flash, buf := [], lost := 0 } } := if_pos h

theorem writeLog_lost (h : s.flt.lost ≠ 0) :
    writeLog s = markLost s.flt.lost (report 0xE02 0 { s with flt := { s.flt with
      flash := s.flt.buf.foldl (fun r e => ringPush 4096 r e) s.flt.flash, buf := [], lost := 0 } }) := if_neg h

/-! ## The command and selection words (R460, Table 19-9) -/

section
variable {r : Requester} {m : Measured} {v : Word}

theorem commandWord_fltClear : commandWord r m Ix.FLT_CLEAR v s = some (0, fltClear v s) := rfl
theorem commandWord_fltLogSel : commandWord r m Ix.FLT_LOG_SEL v s = some (0, logSelect v.toNat s) := rfl

end

theorem isW1c_flt : isW1c Ix.FLT_CLEAR = false ∧ isW1c Ix.FLT_LOG_SEL = false := by decide +kernel

theorem fltClear_one : fltClear (cleanValue Ix.FLT_CLEAR 1) s = clearReactions s := if_pos (by decide +kernel)

theorem clearReactions_same (hl : (s.flt.limp && anySeverity 4 s) = s.flt.limp) (hs : (s.flt.safe && anySeverity 5 s) = s.flt.safe) :
    clearReactions s = s :=
  if_pos (Bool.and_eq_true_iff.2 ⟨beq_iff_eq.2 hl, beq_iff_eq.2 hs⟩)

theorem clearReactions_ends (h : (s.flt.limp && anySeverity 4 s) ≠ s.flt.limp ∨ (s.flt.safe && anySeverity 5 s) ≠ s.flt.safe) :
    clearReactions s = recompose (List.finRange 4) (serveAll (applyLimits { s with
      flt := { s.flt with limp := s.flt.limp && anySeverity 4 s, safe := s.flt.safe && anySeverity 5 s } })) := by
  refine if_neg fun hc => ?_
  obtain ⟨hl, hs⟩ := Bool.and_eq_true_iff.1 hc
  exact h.elim (fun h => h (beq_iff_eq.1 hl)) (fun h => h (beq_iff_eq.1 hs))

@[simp] theorem noteRequest_flt (r : Requester) (s : State) : (noteRequest r s).flt = s.flt := by rw [noteRequest_eq]

/-- The entry of an age; none beyond the entries held. -/
def logOfAge (age : Nat) (s : State) : List Word :=
  if age < s.flt.flash.length then s.flt.flash.getD (s.flt.flash.length - 1 - age) [] else []

theorem logSelect_eq (v : Nat) : logSelect v s = putEach (List.range 16) Ix.FLT_LOG_ENTRY (fun k => (logOfAge (v % 4096) s).getD k 0)
    (s.putNat Ix.FLT_LOG_SEL (v % 4096)) := rfl

theorem logSelect_sel (v : Nat) : (logSelect v s).word Ix.FLT_LOG_SEL = toWord (v % 4096) := by
  rw [logSelect_eq, word_putEach_other]
  · exact word_put_same s _ _
  · intro k _
    unfold Ix.FLT_LOG_SEL Ix.FLT_LOG_ENTRY
    omega

theorem logSelect_entry (v : Nat) {k : Nat} (hk : k < 16) :
    (logSelect v s).word (Ix.FLT_LOG_ENTRY k) = (logOfAge (v % 4096) s).getD k 0 := by
  rw [logSelect_eq, word_putEach (List.mem_range.2 hk) fun i j hij => by unfold Ix.FLT_LOG_ENTRY at hij; omega]

theorem logSelect_frame (v : Nat) : logSelect v s = { s with words := (logSelect v s).words } := by
  rw [logSelect_eq, putEach_eq]
  rfl

/-! ## The Report Card's readings (R467) -/

theorem stageStep_climbs {t : Int} {g : Stage} (hf : g.fresh = false) (ha : g.armed = true) (h : max g.peak t - 60 < t) :
    stageStep t g = { g with peak := max g.peak t } := by
  have hnot : ¬t ≤ max g.peak t - 60 := Int.not_le.2 h
  simp only [stageStep, hf, ha, Bool.not_true, Bool.false_eq_true, if_false, hnot]

theorem stageStep_swings {t : Int} {g : Stage} (hf : g.fresh = false) (ha : g.armed = true) (h : t ≤ g.peak - 60) :
    (stageStep t g).units = g.units + swingWeight (g.peak - g.valley) ∧ (stageStep t g).armed = false := by
  have hpeak : max g.peak t = g.peak := by omega
  simp only [stageStep, hf, ha, Bool.not_true, Bool.false_eq_true, if_false, hpeak, h, if_true, and_self]

/-! ## Collection (R465) -/

theorem leNat_lt (bs : List Byte) : leNat bs < 256 ^ bs.length := by
  induction bs with
  | nil => exact Nat.one_pos
  | cons b bs ih =>
    have hb := b.isLt
    rw [leNat, List.length_cons, Nat.pow_succ]
    omega

theorem leAt_byte_lt (bs : List Byte) (off : Nat) : leAt bs off 1 < 256 := by
  have hlen : (slice bs off 1).length ≤ 1 := by rw [slice]; exact List.length_take_le ..
  calc leAt bs off 1 < 256 ^ (slice bs off 1).length := leNat_lt _
    _ ≤ 256 ^ 1 := Nat.pow_le_pow_right (by decide) hlen

variable {at_ : Nat} {f : FabFrame}

theorem logRead_refused (h : mayCollect f (s.reach at_) = false) : logRead at_ f s =
    sendReply f 0x29 ([0, 0, 0, 0] ++ leBytes (leAt f.payload 0 4) 4 ++ [0, 0, 0, 0]) (s.reach at_) := by
  simp only [logRead, h, Bool.false_eq_true, if_false, List.getLast?_nil, List.map_nil, List.flatten_nil, List.append_nil, List.append_assoc]
  rfl

theorem logRead_permitted {es : List (List Word)} {e : List Word} (h : mayCollect f (s.reach at_) = true)
    (hes : es = (s.flt.flash.filter fun e => decide (leAt f.payload 0 4 ≤ (e.getD 1 0).toNat)).take (Nat.min 3 (leAt f.payload 4 1)))
    (he : es.getLast? = some e) : logRead at_ f s =
    sendReply f 0x29 ([0, 0, 0, 0] ++ leBytes ((e.getD 1 0).toNat + 1) 4 ++ leBytes es.length 1
      ++ [0, 0, 0] ++ (es.map fun e => (e.map fun w => leBytes w.toNat 4).flatten).flatten) (s.reach at_) := by
  subst hes
  simp only [logRead, h, if_true, State.reach_flt, he]
  rfl

theorem rcRead_refused (h : mayCollect f (s.reach at_) = false) : rcRead at_ f s =
    sendReply f 0x2B ([0, 0, 0, 0] ++ leBytes (leAt f.payload 0 1) 1 ++ [0, 0, 0]) (s.reach at_) := by
  simp only [rcRead, h, Bool.false_eq_true, if_false, List.range_zero, List.map_nil, List.flatten_nil, List.append_nil, List.append_assoc]
  rfl

theorem rcRead_one (h : mayCollect f (s.reach at_) = true) (hn : leAt f.payload 1 1 = 1) : rcRead at_ f s =
    sendReply f 0x2B ([0, 0, 0, 0] ++ leBytes (leAt f.payload 0 1) 1 ++ [1, 0, 0]
      ++ leBytes ((s.reach at_).view (0x3400 + leAt f.payload 0 1)).toNat 4) (s.reach at_) := by
  have hone : (List.range (Nat.min 60 1)) = [0] := rfl
  simp only [rcRead, h, if_true, hn, hone, Nat.add_zero, leAt_byte_lt, List.map_cons, List.map_nil, List.flatten_cons, List.flatten_nil,
    List.append_nil, List.append_assoc]
  rfl

end

/-- Settles O50, clause by clause. -/
theorem faultRows_holds : Obligations.FaultRows := by
  unfold Obligations.FaultRows
  refine ⟨fun id inst s h => completes_of rfl (report_undefined h), fun id inst x s h hm hs => completes_of rfl (report_running h hm hs),
    fun id inst x s h hw => completes_of rfl (report_waits h hw), fun id inst r x s hr hx =>
      ⟨fun hk => completes_of rfl ((eventExpiry_found hr hx).trans (if_pos hk)), fun hk => completes_of rfl ((eventExpiry_found hr hx).trans (if_neg hk))⟩,
    fun id inst x s hx hw => srcActive_endFault hx hw, fun s h => completes_of rfl (logFlush_empty h),
    fun s h h' hl => completes_of rfl ((logFlush_aged h h').trans (writeLog_whole hl)),
    fun s h hl => completes_of rfl ((logFlush_full h).trans (writeLog_whole hl)),
    fun s h hl => completes_of rfl ((logFlush_full h).trans (writeLog_lost hl)), ?clear, ?sel,
    fun at_ erases temps s => completes_of rfl rfl, fun t g hf ha h => stageStep_climbs hf ha h, fun t g hf ha h => stageStep_swings hf ha h,
    fun at_ s => completes_of (f := fun s => reportCardFlush (s.reach at_)) rfl rfl,
    fun at_ f s h => ⟨completes_of rfl (logRead_refused h), completes_of rfl (rcRead_refused h)⟩,
    fun at_ f es e s h hes he => completes_of rfl (logRead_permitted h hes he), fun at_ f s h hn => completes_of rfl (rcRead_one h hn)⟩
  case clear =>
    intro r s hmay hok n limp safe
    have hwrite : requestWrite r noMeasure Ix.FLT_CLEAR 1 s = clearReactions n :=
      (requestWrite_command hmay hok isW1c_flt.1 commandWord_fltClear).trans fltClear_one
    have hflt : n.flt = s.flt := noteRequest_flt r s
    refine ⟨fun hl hs => completes_of rfl (hwrite.trans (clearReactions_same ?_ ?_)), fun hne => completes_of rfl ?_⟩
    · rw [hflt]; exact hl
    · rw [hflt]; exact hs
    · rw [hwrite, clearReactions_ends (by rw [hflt]; exact hne), hflt]
  case sel =>
    intro r v s hmay hok age
    have hwrite : requestWrite r noMeasure Ix.FLT_LOG_SEL v s = logSelect (cleanValue Ix.FLT_LOG_SEL v).toNat (noteRequest r s) :=
      requestWrite_command hmay hok isW1c_flt.2 commandWord_fltLogSel
    have hentry : logOfAge age (noteRequest r s) = logOfAge age s := by rw [logOfAge, noteRequest_flt]; rfl
    refine gives_of_eq rfl hwrite ⟨(after_word ..).trans (logSelect_sel _), fun hbeyond k hk => ?_, fun hheld k hk => ?_,
      after_request (logSelect_frame _)⟩
    · rw [after_word, logSelect_entry _ hk, hentry, logOfAge, if_neg (Nat.not_lt.2 hbeyond)]
      rfl
    · rw [after_word, logSelect_entry _ hk, hentry, logOfAge, if_pos hheld]

end Sys2Proof.Machine
end

section
/-!
PROOF. The host port (18_host_and_diagnostics.md, R428 to R436): frames in, replies out, the status word, its reset.
-/
namespace Sys2Proof.Machine

/-! ## A transaction on the port (R428, R430) -/

section
variable {at_ sck : Nat} {fr : List Byte} {whole : Bool} {s : State}

theorem hspiBegin_taken (hon : hspiOn s = true) (h : tooEarly sck (s.reach at_) = false) :
    hspiBegin at_ sck s = (some (leaveStandby (s.reach at_)), s.reach at_) := by
  simp only [hspiBegin, hon, h, Bool.not_true, Bool.false_eq_true, if_false]

theorem hspiBegin_early (hon : hspiOn s = true) (h : tooEarly sck (s.reach at_) = true) : hspiBegin at_ sck s =
    (none, updHst (fun h => { h with out := [0xFF, 0xFF, 0xFF, 0xFF] }) ((leaveStandby (s.reach at_)).bump Ix.HST_COUNTS 16 8)) := by
  simp only [hspiBegin, hon, h, Bool.not_true, Bool.false_eq_true, if_false, if_true]

/-- What a transaction does with the port: a begun one runs, another leaves what its beginning left. -/
def hspiRun (at_ sck : Nat) (g : State → State) (s : State) : State :=
  match (hspiBegin at_ sck s).1 with
  | some t => g t
  | none => (hspiBegin at_ sck s).2

theorem hspiRun_taken {g : State → State} (hon : hspiOn s = true) (h : tooEarly sck (s.reach at_) = false) :
    hspiRun at_ sck g s = g (leaveStandby (s.reach at_)) := by
  rw [hspiRun, hspiBegin_taken hon h]

theorem hspiRun_early {g : State → State} (hon : hspiOn s = true) (h : tooEarly sck (s.reach at_) = true) : hspiRun at_ sck g s =
    updHst (fun h => { h with out := [0xFF, 0xFF, 0xFF, 0xFF] }) ((leaveStandby (s.reach at_)).bump Ix.HST_COUNTS 16 8) := by
  rw [hspiRun, hspiBegin_early hon h]

theorem exec_hspiSend : exec (.hspiSend at_ sck fr whole) s = doneFor .pairQuiet s (hspiRun at_ sck (hostFrameIn 4112 fr whole)) := rfl
theorem exec_hspiFetch : exec (.hspiFetch at_ sck whole) s = doneFor .pairQuiet s (hspiRun at_ sck (hspiFetch whole)) := rfl
theorem exec_hspiStatus : exec (.hspiStatus at_ sck) s = doneFor .pairQuiet s (hspiRun at_ sck (shiftStatus [])) := rfl
theorem exec_hspiUnknownOpcode :
    exec (.hspiUnknownOpcode at_ sck) s = doneFor .pairQuiet s (hspiRun at_ sck fun t => t.bump Ix.HST_COUNTS 16 8) := rfl

end

section
variable {fr : List Byte} {whole : Bool} {u : State}

theorem hostFrameIn_bad (h : whole = false ∨ frameOk 4112 fr = false) :
    hostFrameIn 4112 fr whole u = updHst (fun h => { h with crcErr := true }) (u.bump Ix.HST_COUNTS 0 8) := by
  refine if_pos ?_
  obtain h | h := h <;> simp [h]

theorem not_bad (hw : whole = true) (hok : frameOk 4112 fr = true) : ¬(!whole || !frameOk 4112 fr) = true := by
  rw [hw, hok]
  decide

theorem hostFrameIn_full (hw : whole = true) (hok : frameOk 4112 fr = true) (h : 32 ≤ entriesTaken u) :
    hostFrameIn 4112 fr whole u = updHst (fun h => { h with full := true }) (u.bump Ix.HST_COUNTS 8 8) :=
  (if_neg (not_bad hw hok)).trans (if_pos h)

theorem hostFrameIn_taken (hw : whole = true) (hok : frameOk 4112 fr = true) (h : entriesTaken u < 32) :
    hostFrameIn 4112 fr whole u =
      answerBad (u.hst.queue ++ [entryOf fr]) { u with hst := { u.hst with queue := u.hst.queue ++ [entryOf fr] } } :=
  (if_neg (not_bad hw hok)).trans (if_neg (Nat.not_le.2 h))

/-- Entries without an error wait for their command. -/
theorem answerBad_good {es : List HostEntry} (h : ∀ e ∈ es, entryError e = 0) (s : State) : answerBad es s = s := by
  cases es with
  | nil => rfl
  | cons e es => exact if_pos (h e List.mem_cons_self)

theorem answerBad_one {e : HostEntry} (h : entryError e ≠ 0) (s : State) : answerBad [e] s = hostReply e.cmd (entryError e) [] s :=
  if_neg h

end

/-! ## Replies out (R429) -/

section
variable {fr : List Byte} {fs : List (List Byte)} {whole : Bool} {u : State}

theorem hspiFetch_reply (h : u.hst.replies = fr :: fs) : hspiFetch whole u =
    if whole then updHst (fun h => { h with replies := fs }) (shiftStatus fr u) else shiftStatus fr u := by
  rw [hspiFetch, h]

theorem hspiFetch_empty (h : u.hst.replies = []) : hspiFetch whole u = shiftStatus [] u := by
  rw [hspiFetch, h]

end

/-! ## Answers of commands (R433, R435) -/

section
variable {cmd st : Nat} {rest : List Byte} {e : HostEntry} {s : State}

theorem hostReply_only (hq : s.hst.queue = [e]) (hc : e.cmd = cmd) (hcar : s.hst.carried = []) : hostReply cmd st rest s =
    raiseIrq 0 { s with hst := { s.hst with queue := [], replies := s.hst.replies ++ [hostFrame cmd e.tag st (statusHead st ++ rest)] } } := by
  have hfind : s.hst.queue.find? (·.cmd == cmd) = some e := by
    rw [hq, List.find?_cons, beq_iff_eq.2 hc]
  have hempty : s.hst.queue.erase e = [] := by rw [hq, List.erase_cons_head]
  simp only [hostReply, hfind, hempty, hcar, List.contains_nil, Bool.false_eq_true, if_false]

theorem hostDone_only (hq : s.hst.queue = [e]) (hc : e.cmd = cmd) (hcar : s.hst.carried = []) : hostDone cmd st rest s =
    raiseIrq 0 { s with hst := { s.hst with queue := [], replies := s.hst.replies ++ [hostFrame cmd e.tag st (statusHead st ++ rest)] } } := by
  rw [hostDone, hostReply_only hq hc hcar]
  rfl

theorem hostReset_silent (h : s.hst.queue.find? (·.cmd == 0x0F) = none) : hostReset s = hostPortReset s := by
  rw [hostReset, h]

theorem hostReset_answered (h : s.hst.queue.find? (·.cmd == 0x0F) = some e) :
    hostReset s = hostDone 0x0F 0 [] (updHst (fun h => { h with queue := [e] }) (hostPortReset s)) := by
  rw [hostReset, h]

/-- A request that changes words and the host port alone leaves beside them the mark of the requester and the dwells. -/
theorem after_requestHst {r : Requester} {t : State} (h : t = { noteRequest r s with words := t.words, hst := t.hst }) :
    after s t = { s with words := (after s t).words, hst := (after s t).hst, modes := (noteRequest r s).modes,
                         dwell := (after s t).dwell } := by
  obtain ⟨m, hm⟩ : ∃ m, noteRequest r s = { s with modes := m } := ⟨_, noteRequest_eq r s⟩
  rw [hm] at h ⊢
  obtain ⟨w, x, rfl⟩ : ∃ w x, t = { s with modes := m, words := w, hst := x } := ⟨_, _, h⟩
  exact after_of_now rfl rfl

/-- The cause 0 of the interrupt line stands once it was raised. -/
theorem raiseIrq_ready (s : State) : (raiseIrq 0 s).flag Ix.HST_IRQ_CAUSE 0 = true := by
  have hword : (raiseIrq 0 s).word Ix.HST_IRQ_CAUSE = s.word Ix.HST_IRQ_CAUSE ||| toWord (2 ^ 0) := word_put_same s _ _
  have hlow : (s.word Ix.HST_IRQ_CAUSE ||| toWord (2 ^ 0)).toNat % 2 = 1 := by
    rw [BitVec.toNat_or]
    exact Nat.or_mod_two_eq_one.2 (.inr rfl)
  rw [State.flag, hword, bit, fld, nbits]
  exact beq_iff_eq.2 (by rwa [Nat.pow_zero, Nat.div_one, Nat.pow_one])

end

/-! ## A transaction rolled back (R79) -/

/-- Rolling a transaction back changes it, the Timetable and the frames' payloads, and of the words these three at most. -/
def RollFrame (s t : State) : Prop :=
  t = { s with words := t.words, txn := t.txn, tt := t.tt, can := t.can } ∧
  ∀ i, i ≠ Ix.TXN_LAST_STATUS → i ≠ Ix.HST_IRQ_CAUSE → i ≠ Ix.TT_LOG_COUNT → t.word i = s.word i

section
variable {s t u : State}

theorem RollFrame.refl (s : State) : RollFrame s s := ⟨rfl, fun _ _ _ _ => rfl⟩

theorem RollFrame.trans (h : RollFrame s t) (h' : RollFrame t u) : RollFrame s u := by
  obtain ⟨heq, hwords⟩ := h
  obtain ⟨heq', hwords'⟩ := h'
  refine ⟨?_, fun i h1 h2 h3 => (hwords' i h1 h2 h3).trans (hwords i h1 h2 h3)⟩
  rw [heq', heq]

theorem RollFrame.hst (h : RollFrame s t) : t.hst = s.hst := by rw [h.1]
theorem RollFrame.sec (h : RollFrame s t) : t.sec = s.sec := by rw [h.1]
theorem RollFrame.bn (h : RollFrame s t) : t.bn = s.bn := by rw [h.1]

theorem rollFrame_settle (s : State) : RollFrame s (settle s) := by
  refine ⟨?_, fun i _ _ _ => ?_⟩
  · rw [settle_eq]
  · exact congrArg (fun w => wordsAt w i) (settle_words s)

/-- The Timetable's record is no word. -/
theorem rollFrame_tt (s : State) (x : Timetable) : RollFrame s { s with tt := x } := ⟨rfl, fun _ _ _ _ => rfl⟩

theorem rollFrame_bump (s : State) (lo w : Nat) : RollFrame s (s.bump Ix.TT_LOG_COUNT lo w) :=
  ⟨rfl, fun _ _ _ h => word_bump_other _ _ _ h⟩

theorem rollFrame_logEvent (kind status late : Nat) (e : Event) (s : State) : RollFrame s (logEvent kind status late e s) := by
  unfold logEvent ttLog
  dsimp only
  split
  · exact (rollFrame_tt s _).trans (rollFrame_bump ..)
  · exact RollFrame.refl s

theorem rollFrame_cancelHandle (h : Nat × Nat) (s : State) : RollFrame s (cancelHandle h s) := by
  unfold cancelHandle
  dsimp only
  split
  · exact rollFrame_tt ..
  · split
    · exact ((rollFrame_settle s).trans (rollFrame_tt ..)).trans ((rollFrame_logEvent ..).trans (rollFrame_tt ..))
    · exact (rollFrame_logEvent ..).trans ((rollFrame_tt ..).trans (rollFrame_tt ..))

theorem rollFrame_endTxn (status cause idx : Nat) (s : State) : RollFrame s (endTxn status cause idx s) := by
  unfold endTxn
  dsimp only
  split
  · exact ⟨rfl, fun i h1 h2 _ => (word_put_other _ _ h2).trans (word_put_other _ _ h1)⟩
  · exact ⟨rfl, fun i h1 _ _ => word_put_other _ _ h1⟩

theorem rollFrame_rollBack (status cause : Nat) (s : State) : RollFrame s (rollBack status cause s) := by
  unfold rollBack
  dsimp only
  split
  · exact RollFrame.refl s
  · exact (rollFrame_settle s).trans (rollFrame_endTxn ..)
  · split
    · exact (rollFrame_settle s).trans (rollFrame_endTxn ..)
    · split
      · exact rollFrame_settle s
      · exact ((rollFrame_settle s).trans (rollFrame_cancelHandle ..)).trans (rollFrame_endTxn ..)

theorem rollFrame_rollBackOf (r : Requester) (cause : Nat) (s : State) : RollFrame s (rollBackOf r cause s) := by
  unfold rollBackOf
  split
  · exact rollFrame_rollBack ..
  · exact RollFrame.refl s

theorem requesterGone_fields (r : Requester) (s : State) : (requesterGone r s).hst = s.hst ∧ (requesterGone r s).bn = s.bn := by
  have hroll := rollFrame_rollBackOf r 2 s
  unfold requesterGone
  dsimp only
  split <;> exact ⟨hroll.hst, hroll.bn⟩

/-- A party that drops its privilege has none; its open transaction is rolled back. -/
theorem dropPriv_frame (w : Fin 5) (s : State) : RollFrame
    (updParty w (fun p => { p with priv := 0, validUntil := none, override := false, ret := false }) s) (dropPriv w s) := by
  unfold dropPriv
  dsimp only
  split
  · exact rollFrame_rollBackOf ..
  · exact RollFrame.refl _

theorem dropPriv_priv (w : Fin 5) (s : State) : ((dropPriv w s).sec.parties[w]).priv = 0 := by
  rw [(dropPriv_frame w s).sec]
  exact congrArg Party.priv (Vector.getElem_set_self ..)

/-- Suspending a session changes the update's record and the interrupt causes. -/
theorem suspendImg_frame (uds : Bool) (s : State) :
    suspendImg uds s = { s with words := (suspendImg uds s).words, upd := (suspendImg uds s).upd } ∧
    ∀ i, i ≠ Ix.HST_IRQ_CAUSE → (suspendImg uds s).word i = s.word i := by
  unfold suspendImg
  split
  · split
    · exact ⟨rfl, fun i hi => word_put_other _ _ hi⟩
    · exact ⟨rfl, fun _ _ => rfl⟩
  · exact ⟨rfl, fun _ _ => rfl⟩

theorem suspendImg_fields (uds : Bool) (s : State) :
    (suspendImg uds s).hst = s.hst ∧ (suspendImg uds s).sec = s.sec ∧ (suspendImg uds s).bn = s.bn := by
  rw [(suspendImg_frame uds s).1]
  exact ⟨rfl, rfl, rfl⟩

/-- The port's reset up to the fall of the host's privilege. -/
def portEmptied (s : State) : State :=
  updHst (fun h => { h with queue := [], replies := [], carried := [] }) s

def hostWordsGone (s : State) : State :=
  { (requesterGone .host (portEmptied s)).put Ix.MODE_HOST_STAY 0 with
    bn := { (requesterGone .host (portEmptied s)).bn with hostWritten := [] } }

/-- The port's reset up to the start bit, the causes and the count of the resets. -/
def imageSuspended (s : State) : State := suspendImg false (dropPriv 0 (hostWordsGone s))

theorem hostPortReset_eq (s : State) : hostPortReset s =
    ((updHst (fun h => { h with startedBit := false }) (imageSuspended s)).put Ix.HST_IRQ_CAUSE 0).bump Ix.HST_COUNTS 24 8 := rfl

theorem imageSuspended_fields (s : State) : let t := imageSuspended s
    t.hst = (portEmptied s).hst ∧ (t.sec.parties[(0 : Fin 5)]).priv = 0 ∧ t.bn.hostWritten = [] ∧ t.word Ix.MODE_HOST_STAY = 0 := by
  obtain ⟨hgone, -⟩ := requesterGone_fields .host (portEmptied s)
  have hdrop := dropPriv_frame 0 (hostWordsGone s)
  obtain ⟨hhst, hsec, hbn⟩ := suspendImg_fields false (dropPriv 0 (hostWordsGone s))
  obtain ⟨-, hword⟩ := suspendImg_frame false (dropPriv 0 (hostWordsGone s))
  have hput : (hostWordsGone s).word Ix.MODE_HOST_STAY = 0 := word_put_same (requesterGone .host (portEmptied s)) Ix.MODE_HOST_STAY 0
  refine ⟨?_, ?_, ?_, ?_⟩
  · rw [imageSuspended, hhst, hdrop.hst]
    exact hgone
  · rw [imageSuspended, hsec]
    exact dropPriv_priv 0 (hostWordsGone s)
  · rw [imageSuspended, hbn, hdrop.bn]
    rfl
  · exact (hword _ (by decide)).trans ((hdrop.2 _ (by decide) (by decide) (by decide)).trans hput)

/-- What the reset of the port leaves: empty queues, no privilege of the host, none of its words and no cause. -/
theorem hostPortReset_fields (s : State) : let t := hostPortReset s
    t.hst.queue = [] ∧ t.hst.replies = [] ∧ (t.sec.parties[(0 : Fin 5)]).priv = 0 ∧ t.bn.hostWritten = [] ∧
      t.word Ix.MODE_HOST_STAY = 0 ∧ t.word Ix.HST_IRQ_CAUSE = 0 := by
  obtain ⟨hhst, hpriv, hwritten, hstay⟩ := imageSuspended_fields s
  dsimp only
  rw [hostPortReset_eq, State.bump_hst, State.bump_sec, State.bump_bn, State.put_hst, State.put_sec, State.put_bn,
    word_bump_other _ _ _ (by decide), word_bump_other _ _ _ (by decide), word_put_other _ _ (by decide), word_put_same]
  exact ⟨congrArg HostPort.queue hhst, congrArg HostPort.replies hhst, hpriv, hwritten, hstay, rfl⟩

end

/-! ## The interrupt causes (R436) -/

section
variable {r : Requester} {m : Measured} {v : Word} {s : State}

theorem isW1c_irq : isW1c Ix.HST_IRQ_CAUSE = true := by decide +kernel

theorem clearBits_irq : clearBits Ix.HST_IRQ_CAUSE v s = irqClear v s := rfl

theorem irqClear_silent (h : s.hst.replies = []) : irqClear v s = s.put Ix.HST_IRQ_CAUSE (s.word Ix.HST_IRQ_CAUSE &&& ~~~v) :=
  if_pos (List.isEmpty_iff.2 h)

theorem irqClear_waiting (h : s.hst.replies ≠ []) :
    irqClear v s = raiseIrq 0 (s.put Ix.HST_IRQ_CAUSE (s.word Ix.HST_IRQ_CAUSE &&& ~~~v)) :=
  if_neg fun hc => h (List.isEmpty_iff.1 hc)

theorem requestWrite_irq (h : mayWrite r Ix.HST_IRQ_CAUSE (noteRequest r s) = true) :
    requestWrite r m Ix.HST_IRQ_CAUSE v s = irqClear (cleanValue Ix.HST_IRQ_CAUSE v) (noteRequest r s) :=
  (requestWrite_w1c h isW1c_irq).trans clearBits_irq

/-- The pair runs in powered states alone, so the port is powered while it is served. -/
theorem hspiOn_of_pairUp (h : pairUp s = true) : hspiOn s = true := by
  obtain ⟨hdev, happ⟩ := Bool.and_eq_true_iff.1 h
  obtain ⟨-, hpw⟩ := Bool.and_eq_true_iff.1 hdev
  exact Bool.and_eq_true_iff.2 ⟨happ, hpw⟩

end

/-- Settles O51, clause by clause. -/
theorem hostPortRows : Obligations.HostPortRows := by
  unfold Obligations.HostPortRows
  refine ⟨?send, ?fetch, ?early, ?ping, fun s h => ?silent, fun e s h => ?answered, ?stuck, ?clear, ?waiting⟩
  case send =>
    intro at_ sck fr whole s hon h
    refine ⟨fun hbad => completes_of exec_hspiSend ((hspiRun_taken hon h).trans (hostFrameIn_bad hbad)),
      fun hw hok hfull => completes_of exec_hspiSend ((hspiRun_taken hon h).trans (hostFrameIn_full hw hok hfull)),
      fun hw hok hroom hgood => completes_of exec_hspiSend
        ((hspiRun_taken hon h).trans ((hostFrameIn_taken hw hok hroom).trans (answerBad_good hgood _))),
      fun hw hok hroom hempty herr => completes_of exec_hspiSend ((hspiRun_taken hon h).trans ?_)⟩
    have htaken : entriesTaken (leaveStandby (s.reach at_)) < 32 := by
      rw [entriesTaken, hempty, List.length_nil, Nat.zero_add]
      exact hroom
    rw [hostFrameIn_taken hw hok htaken, hempty, List.nil_append, answerBad_one herr]
  case fetch =>
    intro at_ sck fr fs s hon h
    refine ⟨fun hrep => ⟨completes_of exec_hspiFetch ((hspiRun_taken hon h).trans ?_), completes_of exec_hspiFetch ((hspiRun_taken hon h).trans ?_)⟩,
      fun whole hrep => completes_of exec_hspiFetch ((hspiRun_taken hon h).trans ?_),
      completes_of exec_hspiStatus ((hspiRun_taken hon h).trans ?_), completes_of exec_hspiUnknownOpcode (hspiRun_taken hon h)⟩
    · rw [hspiFetch_reply hrep]; rfl
    · rw [hspiFetch_reply hrep]; rfl
    · rw [hspiFetch_empty hrep, shiftStatus, List.append_nil]; rfl
    · rw [shiftStatus, List.append_nil]; rfl
  case early =>
    exact fun at_ sck fr whole s hon h => ⟨completes_of exec_hspiStatus (hspiRun_early hon h),
      completes_of exec_hspiFetch (hspiRun_early hon h), completes_of exec_hspiSend (hspiRun_early hon h),
      completes_of exec_hspiUnknownOpcode (hspiRun_early hon h)⟩
  case ping =>
    intro bytes e s hq hc hcar
    have hdone := hostDone_only (st := 0) (rest := bytes.take 256) (s := noteRequest .host s)
      (by rw [noteRequest_hst]; exact hq) hc (by rw [noteRequest_hst]; exact hcar)
    refine gives_of_eq (f := fun s => hostDone 0x01 0 (bytes.take 256) (noteRequest .host s)) rfl hdone ⟨?_, ?_, ?_, fun i hi => ?_, ?_⟩
    · rw [after_hst, raiseIrq_hst, noteRequest_hst]
    · rw [after_hst, raiseIrq_hst]
    · exact (congrArg (fun w => bit w 0) (after_word ..)).trans (raiseIrq_ready _)
    · exact (after_word ..).trans ((word_put_other _ _ hi).trans (congrArg (fun w => wordsAt w i) (noteRequest_words .host s)))
    · exact after_requestHst (h := rfl)
  case silent => exact completes_of (f := fun s => hostReset (noteRequest .host s)) rfl (hostReset_silent (by rw [noteRequest_hst]; exact h))
  case answered => exact completes_of (f := fun s => hostReset (noteRequest .host s)) rfl (hostReset_answered (by rw [noteRequest_hst]; exact h))
  case stuck =>
    intro at_ s hready
    have hon : hspiOn s = true := hspiOn_of_pairUp hready.1
    obtain ⟨h1, h2, h3, h4, h5, h6⟩ := hostPortReset_fields (leaveStandby (s.reach at_))
    exact gives_of_eq (f := fun s => if hspiOn s then hostPortReset (leaveStandby (s.reach at_)) else s) rfl (if_pos hon)
      ⟨h1, h2, h3, h4, h5, h6⟩ hready
  case clear =>
    intro r v s h hrep
    refine completes_of rfl ((requestWrite_irq h).trans ((irqClear_silent (by rw [noteRequest_hst]; exact hrep)).trans ?_))
    rw [State.word, noteRequest_words]
    rfl
  case waiting =>
    intro r v s h hrep
    exact gives_of_eq rfl ((requestWrite_irq h).trans (irqClear_waiting (by rw [noteRequest_hst]; exact hrep))) (raiseIrq_ready _)

end Sys2Proof.Machine
end

section
/-!
PROOF. Host authentication, image sessions and staged keys (18_host_and_diagnostics.md, R437 to R442; 20_security_and_lifecycle.md, R480,
R481, R484).
-/
namespace Sys2Proof.Machine

@[simp] theorem noteRequest_sec (r : Requester) (s : State) : (noteRequest r s).sec = s.sec := by rw [noteRequest_eq]
@[simp] theorem noteRequest_upd (r : Requester) (s : State) : (noteRequest r s).upd = s.upd := by rw [noteRequest_eq]

theorem noteRequest_mode (r : Requester) (s : State) : (noteRequest r s).modes.mode = s.modes.mode := by
  unfold noteRequest
  split <;> rfl

/-! ## Authentication (R480, R484) -/

section
variable {w : Fin 5} {resp : List Byte} {s : State}

theorem updParty_same (w : Fin 5) (f : Party → Party) (s : State) : (updParty w f s).sec.parties[w] = f s.sec.parties[w] :=
  Vector.getElem_set_self ..

theorem authChallenge_busy (h : lockedOut 0 s = true ∨ s.sec.entropyOk = false) : authChallenge s = hostDone 0x05 1 (authBytes s) s := by
  refine if_pos ?_
  obtain h | h := h
  · rw [h, Bool.true_or]
  · rw [h, Bool.not_false, Bool.or_true]

theorem authChallenge_draws (hl : lockedOut 0 s = false) (he : s.sec.entropyOk = true) : authChallenge s =
    hostDone 0x05 0 (authBytes (issueChallenge 0 s).2 ++ Config.drbg s.sec.drbg 32) (issueChallenge 0 s).2 :=
  if_neg (by rw [hl, he]; decide)

theorem issueChallenge_challenge (w : Fin 5) (s : State) :
    ((issueChallenge w s).2.sec.parties[w]).challenge = some (Config.drbg s.sec.drbg 32, s.now) :=
  congrArg Party.challenge (updParty_same ..)

theorem raiseFloor_parties (s : State) : (raiseFloor s).sec.parties = s.sec.parties := by
  unfold raiseFloor
  split <;> rfl

theorem secReport_parties (id who : Nat) (s : State) : (secReport id who s).sec = s.sec := by
  rw [secReport, (faultFrame_reportWith ..).1]

/-- An accepted credential gives its privilege and leaves the challenge alone. -/
theorem acceptCredential_party (w : Fin 5) (resp : List Byte) (s : State) :
    ((acceptCredential w resp s).sec.parties[w]).priv = leAt resp 6 1 ∧
    ((acceptCredential w resp s).sec.parties[w]).challenge = (s.sec.parties[w]).challenge := by
  have hfloor : ∀ (f : Party → Party), (raiseFloor ((updParty w f s).bump Ix.SEC_AUTH_COUNTS 0 8)).sec.parties[w] = f s.sec.parties[w] := by
    intro f
    rw [raiseFloor_parties, State.bump_sec]
    exact updParty_same w f s
  unfold acceptCredential
  dsimp only
  split
  · rw [(rollFrame_rollBackOf ..).sec, hfloor]
    exact ⟨rfl, rfl⟩
  · rw [hfloor]
    exact ⟨rfl, rfl⟩

/-- A change of a party that keeps its challenge. -/
theorem updParty_challenge (w : Fin 5) {f : Party → Party} (h : ∀ p, (f p).challenge = p.challenge) (s : State) :
    ((updParty w f s).sec.parties[w]).challenge = (s.sec.parties[w]).challenge :=
  (congrArg Party.challenge (updParty_same w f s)).trans (h _)

/-- A counted failure leaves the challenge alone. -/
theorem countFailure_challenge (w : Fin 5) (s : State) :
    ((countFailure w s).sec.parties[w]).challenge = (s.sec.parties[w]).challenge := by
  unfold countFailure
  dsimp only
  split
  · rfl
  · split
    · simp only [State.bump_sec]
      refine updParty_challenge w ?_ s
      exact fun _ => rfl
    · refine updParty_challenge w ?_ s
      exact fun _ => rfl

/-- A response spends its challenge. -/
theorem respond_spends (w : Fin 5) (resp : List Byte) (s : State) : ((respond w resp s).2.sec.parties[w]).challenge = none := by
  have hspent : ((updParty w (fun p => { p with challenge := none }) s).sec.parties[w]).challenge = none :=
    congrArg Party.challenge (updParty_same ..)
  have hfail : ((countFailure w (secReport 0xC00 (partyCode w)
      ((updParty w (fun p => { p with challenge := none }) s).bump Ix.SEC_AUTH_COUNTS 8 8))).sec.parties[w]).challenge = none := by
    rw [countFailure_challenge, secReport_parties, State.bump_sec]
    exact hspent
  unfold respond
  dsimp only
  split
  · split
    · exact (acceptCredential_party ..).2.trans hspent
    · exact hfail
  · exact hfail

theorem respond_accepted {c : List Byte} {t : Nat} (hc : (s.sec.parties[w]).challenge = some (c, t)) (ht : s.now < t + secP 10)
    (hok : credentialOk w c resp s = true) :
    respond w resp s = (true, acceptCredential w resp (updParty w (fun p => { p with challenge := none }) s)) := by
  simp only [respond, hc, ht, if_true, hok]

/-! ## Image sessions (R437 to R441) -/

end

section
variable {total : Nat} {rep : Bool} {sha : List Byte} {x : ImgSession} {s : State}

theorem imgBegin_refused {st : Nat} (h : imgRefusal s = some st) : imgBegin false total rep (some sha) s = (st, s) := by
  simp only [imgBegin, h]

theorem imgBegin_opens (h : imgRefusal s = none) (hs : s.upd.session = none) (h1 : 16 ≤ total) (h2 : total ≤ 8388608)
    (hw : sprigWork s = false ∨ rep = true) :
    imgBegin false total rep (some sha) s = (0, imgOpen false total (some sha) s) := by
  have hbusy : (sprigWork s && !rep) = false := by
    obtain hw | hw := hw
    · rw [hw, Bool.false_and]
    · rw [hw, Bool.not_true, Bool.and_false]
  simp only [imgBegin, h, hs, h1, h2, decide_true, Bool.and_self, Bool.not_true, Bool.false_eq_true, if_false, hbusy]

theorem imgBegin_resumes (h : imgRefusal s = none) (hs : s.upd.session = some x) (h1 : x.st = 2) (h2 : x.total = total)
    (h3 : x.sha = some sha) : imgBegin false total rep (some sha) s =
      (0, raiseIrq 4 (updImg (fun y => { y with st := 1, uds := false, at_ := s.now }) s)) := by
  simp only [imgBegin, h, hs]
  exact if_pos ⟨h1, h2, .inr h3⟩

theorem bankState_upd (st : Nat) (s : State) : (bankState st s).upd.session = s.upd.session ∧ (bankState st s).upd.st = st ∧
    (bankState st s).now = s.now := by
  unfold bankState
  dsimp only
  split
  next h => exact ⟨rfl, h, rfl⟩
  · split <;> exact ⟨rfl, rfl, rfl⟩

theorem imgOpen_opened (uds : Bool) (total : Nat) (sha : Option (List Byte)) (s : State) :
    (imgOpen uds total sha s).upd.session = some { uds := uds, total := total, sha := sha, got := [], st := 1, at_ := s.now } ∧
    (imgOpen uds total sha s).upd.st = 1 := by
  obtain ⟨hsession, hst, -⟩ := bankState_upd 1 (updUpd (fun u => { u with
    session := some { uds := uds, total := total, sha := sha, got := [], st := 1, at_ := s.now } })
    (bankEmpty (onlyIf (sprigWork s) (updLast 8) s)))
  exact ⟨hsession, hst⟩

theorem imgWrite_fits {off : Nat} {data : List Byte} (h : imgRefusal s = none) (hs : s.upd.session = some x) (h1 : x.st = 1)
    (h2 : x.uds = false) (hf : blockFits off data.length x.total = true) : imgWrite false off data s =
      (0, updUpd (fun y => { y with
        bankS := programUnits off data x.got y.bankS,
        session := some { x with got := addUnits x.got (off / 16) (ceilDiv (off + data.length) 16), at_ := s.now } }) s) := by
  simp only [imgWrite, h, hs, h1, h2, hf, ne_eq, not_true_eq_false, if_false, Bool.not_true, Bool.false_eq_true]

theorem imgWrite_none {off : Nat} {data : List Byte} (h : imgRefusal s = none) (hs : s.upd.session = none) :
    imgWrite false off data s = (0x42, s) := by
  simp only [imgWrite, h, hs]

/-- The session once an image command has restarted its time. -/
theorem touchImg_session (hs : s.upd.session = some x) : (touchImg s).upd.session = some { x with at_ := s.now } :=
  congrArg (fun o => o.map fun y : ImgSession => { y with at_ := s.now }) hs

theorem progressNow_touchImg (hs : s.upd.session = some x) : progressNow (touchImg s) = progressRecord x := by
  rw [progressNow, touchImg_session hs]
  rfl

variable {h : List Byte}

/-- The end of a session of the host that has every byte: what its hash says. -/
theorem imgEnd_complete (hs : s.upd.session = some x) (h1 : x.st = 1) (h2 : x.uds = false) (ht : x.total ≤ imgNext x)
    (hh : x.sha = some h) : imgEnd false none s =
      if Config.sha256 (memRead s.upd.bankS 0 x.total) = h then
        (0, raiseIrq 4 (bankState 5 (updImg (fun y => { y with st := 3, sha := some h }) (touchImg s))))
      else (0x43, updImg (fun y => { y with got := [] }) (touchImg s)) := by
  have hnext : ¬imgNext { x with at_ := s.now } < x.total := Nat.not_lt.2 ht
  have hbank : (touchImg s).upd.bankS = s.upd.bankS := rfl
  have hwant : (some h = some (Config.sha256 (memRead (touchImg s).upd.bankS 0 x.total))) =
      (Config.sha256 (memRead s.upd.bankS 0 x.total) = h) := by
    rw [hbank]
    exact propext (Option.some_inj.trans eq_comm)
  simp only [imgEnd, touchImg_session hs, hh, hwant]
  exact (if_neg (not_not_intro h1)).trans ((if_neg (not_not_intro h2)).trans (if_neg hnext))

theorem imgAbort_discards (hs : s.upd.session = some x) (hx : x.st = 2 ∨ (x.st = 1 ∧ x.uds = false)) :
    imgAbort false s = (0, raiseIrq 4 (bankFree s)) := by
  have h3 : ¬x.st = 3 := by omega
  have hother : ¬(x.st = 1 ∧ x.uds ≠ false) := by
    rintro ⟨h1, hu⟩
    obtain h2 | ⟨-, h2⟩ := hx
    · omega
    · exact hu h2
  simp only [imgAbort, hs]
  exact (if_neg h3).trans (if_neg hother)

theorem imgExpiry_suspended (hs : s.upd.session = some x) (h2 : x.st = 2) :
    imgExpiry s = raiseIrq 4 (bankFree (s.reach (x.at_ + secP (30 * 86400)))) := by
  simp only [imgExpiry, hs]
  exact if_pos h2

end

/-! ## Staged keys (R442) -/

section
variable {off : Nat} {data : List Byte} {s : State}

theorem keyStage_outside (h : s.modes.mode ≠ .workshop) : keyStage off data s = hostDone 0x14 0x20 [0, 0, 0, 0] s :=
  if_pos (bne_iff_ne.2 h)

theorem not_outside (h : s.modes.mode = .workshop) : ¬(s.modes.mode != Mode.workshop) = true := by
  rw [h]
  decide

theorem keyStage_below (h : s.modes.mode = .workshop) (hp : privOf .host s < 2) : keyStage off data s = hostDone 0x14 0 [0, 0, 0, 0] s :=
  (if_neg (not_outside h)).trans (if_pos hp)

theorem keyStage_query (h : s.modes.mode = .workshop) (hp : 2 ≤ privOf .host s) :
    keyStage off [] s = hostDone 0x14 0 (leBytes (stagedNext s) 4) s :=
  (if_neg (not_outside h)).trans (if_neg (Nat.not_lt.2 hp))

theorem keyStage_data (h : s.modes.mode = .workshop) (hp : 2 ≤ privOf .host s) (hd : data ≠ []) :
    keyStage off data s = hostDone 0x14 (stageBlock off data s).1 (leBytes (stagedNext (stageBlock off data s).2) 4) (stageBlock off data s).2 := by
  have hdata : data.isEmpty = false := Bool.eq_false_iff.2 fun hc => hd (List.isEmpty_iff.1 hc)
  refine (if_neg (not_outside h)).trans ((if_neg (Nat.not_lt.2 hp)).trans ?_)
  rw [hdata]
  rfl

theorem stageBlock_misfit (h : blockFits off data.length 262144 = false) : stageBlock off data s = (5, s) :=
  if_neg (Bool.eq_false_iff.1 h)

theorem stageBlock_fits (h : blockFits off data.length 262144 = true) : stageBlock off data s = (0, stageUnits off data s) :=
  if_pos h

end

/-- The reply of an image command with the session's record, and without one. -/
def imgAnswer (cmd : Nat) (a : Nat × State) : State := imgReply cmd a.1 (progressNow a.2) a.2
def hostAnswer (cmd : Nat) (a : Nat × State) : State := hostDone cmd a.1 [] a.2

section
variable {total off : Nat} {rep : Bool} {sha data : List Byte} {s : State}

theorem imgAnswer_eq (cmd st : Nat) (u : State) : imgAnswer cmd (st, u) = imgReply cmd st (progressNow u) u := rfl
theorem hostAnswer_eq (cmd st : Nat) (u : State) : hostAnswer cmd (st, u) = hostDone cmd st [] u := rfl

theorem exec_imgBegin : exec (.imgBegin total rep sha) s =
    doneFor .pair s fun s => imgAnswer 0x10 (imgBegin false total rep (some sha) (noteRequest .host s)) := rfl
theorem exec_imgWrite : exec (.imgWrite off data) s =
    doneFor .pair s fun s => imgAnswer 0x11 (imgWrite false off data (noteRequest .host s)) := rfl
theorem exec_keyStage : exec (.keyStage off data) s = doneFor .pair s fun s => keyStage off data (noteRequest .host s) := rfl
theorem exec_imgEnd : exec .imgEnd s = doneFor .pair s fun s => hostAnswer 0x12 (imgEnd false none (noteRequest .host s)) := rfl
theorem exec_imgAbort : exec .imgAbort s = doneFor .pair s fun s => hostAnswer 0x13 (imgAbort false (noteRequest .host s)) := rfl

end

/-- The answer to a progress query, which restarts the session's time. -/
def progressQueried (s : State) : State :=
  hostDone 0x11 (if (touchImg (noteRequest .host s)).upd.session.isNone then 0x42 else 0) (progressNow (touchImg (noteRequest .host s)))
    (touchImg (noteRequest .host s))

/-- AUTH DROP: the host's privilege falls, and the reply says so. -/
def authDropped (s : State) : State :=
  hostDone 0x05 0 (authBytes (dropPriv 0 (noteRequest .host s))) (dropPriv 0 (noteRequest .host s))

/-- AUTH RESPOND: the response is judged, and the reply says the privilege in force. -/
def authResponded (resp : List Byte) (s : State) : State :=
  hostDone 0x05 0 (authBytes (respond 0 resp (noteRequest .host s)).2) (respond 0 resp (noteRequest .host s)).2

/-- Settles O52, clause by clause. -/
theorem imageSessionRows : Obligations.ImageSessionRows := by
  unfold Obligations.ImageSessionRows
  refine ⟨?challenge, ?respond, ?accepted, ?drop,
    ?begin_, fun total sha s => imgOpen_opened .., ?write, ?writeNone, ?query, ?end_, ?abort, ?expiry, ?keys⟩
  case challenge =>
    intro s n
    have hsec : n.sec = s.sec := noteRequest_sec .host s
    refine ⟨fun h => completes_of (f := fun s => authChallenge (noteRequest .host s)) rfl (authChallenge_busy h), fun hl he => ?_, ?_, ?_⟩
    · rw [← hsec]
      exact completes_of (f := fun s => authChallenge (noteRequest .host s)) rfl (authChallenge_draws hl he)
    · rw [← hsec]
      rfl
    · rw [← hsec, ← show n.now = s.now from noteRequest_now .host s]
      exact issueChallenge_challenge ..
  case accepted =>
    intro c resp t s hc ht hok
    rw [respond_accepted hc ht hok]
    exact ⟨rfl, (acceptCredential_party ..).1⟩
  case respond =>
    intro resp s a
    exact ⟨completes_of (f := authResponded resp) rfl rfl, respond_spends 0 resp (noteRequest .host s)⟩
  case drop =>
    intro s t
    exact ⟨completes_of (f := authDropped) rfl rfl, dropPriv_priv 0 (noteRequest .host s)⟩
  case begin_ =>
    intro total rep sha s n
    refine ⟨fun st h => completes_of exec_imgBegin ?_, fun h hs h1 h2 hw => completes_of exec_imgBegin ?_,
      fun x h hs h1 h2 h3 => completes_of exec_imgBegin ?_⟩
    · rw [imgBegin_refused h, imgAnswer_eq]
    · rw [imgBegin_opens h hs h1 h2 hw, imgAnswer_eq]
    · rw [imgBegin_resumes h hs h1 h2 h3, imgAnswer_eq]
  case write =>
    intro off data x s n h hs h1 h2 hf u
    exact completes_of exec_imgWrite (congrArg (imgAnswer 0x11) (imgWrite_fits h hs h1 h2 hf))
  case writeNone =>
    intro off data s n h hs
    exact completes_of exec_imgWrite (congrArg (imgAnswer 0x11) (imgWrite_none h hs))
  case query =>
    intro x s t hs
    have hs' : (noteRequest .host s).upd.session = some x := by rw [noteRequest_upd]; exact hs
    have hnone : (touchImg (noteRequest .host s)).upd.session.isNone = false := by rw [touchImg_session hs']; rfl
    refine completes_of (f := progressQueried) rfl ?_
    rw [progressQueried, hnone, progressNow_touchImg hs']
    rfl
  case end_ =>
    intro x h s t hs h1 h2 ht hh
    have hs' : (noteRequest .host s).upd.session = some x := by rw [noteRequest_upd]; exact hs
    have hend := imgEnd_complete hs' h1 h2 ht hh
    rw [noteRequest_upd] at hend
    exact ⟨fun hsha => completes_of exec_imgEnd (congrArg (hostAnswer 0x12) (hend.trans (if_pos hsha))),
      fun hsha => completes_of exec_imgEnd (congrArg (hostAnswer 0x12) (hend.trans (if_neg hsha)))⟩
  case abort =>
    intro x s hs hx
    refine completes_of exec_imgAbort ?_
    rw [imgAbort_discards (by rw [noteRequest_upd]; exact hs) hx, hostAnswer_eq]
  case expiry => exact fun x s hs h2 => completes_of rfl (imgExpiry_suspended hs h2)
  case keys =>
    intro off data s n
    have hmode : n.modes.mode = s.modes.mode := noteRequest_mode .host s
    refine ⟨fun h => completes_of exec_keyStage (keyStage_outside (by rw [hmode]; exact h)),
      fun h hp => completes_of exec_keyStage (keyStage_below (by rw [hmode]; exact h) hp), fun h hp hd => ?_,
      fun h hp hd hf => completes_of exec_keyStage ?_, fun h hp hd hf => completes_of exec_keyStage ?_⟩
    · subst hd
      exact completes_of exec_keyStage (keyStage_query (by rw [hmode]; exact h) hp)
    · rw [keyStage_data (by rw [hmode]; exact h) hp hd, stageBlock_misfit hf]
    · rw [keyStage_data (by rw [hmode]; exact h) hp hd, stageBlock_fits hf, stageUnits]

end Sys2Proof.Machine
end

section
/-!
PROOF. Diagnostic services (18_host_and_diagnostics.md, R463): ClearDiagnosticInformation, where LIMP ends with it.
-/
namespace Sys2Proof.Machine

/-- Every slot belongs to the first pool: a service that posts from another finds none. -/
def noSlots (s : State) : State :=
  (List.range 7).foldl (fun t k => t.putNat (Ix.TT_POOL_1 + (k + 1)) 0) (s.putNat Ix.TT_POOL_1 4095)

/-- An extended session on CAN0 with privilege, LIMP held without an active source, and HS04 asked on but not posted. -/
def limpUnbacked : State :=
  noSlots (updParty 2 (fun p => { p with priv := 1 }) (updCh 4 (fun x => { x with req := 1 }) { State.reset with
    started := true
    procs := { State.reset.procs with principal := .running, app := .running }
    flt := { State.reset.flt with limp := true }
    uds := { State.reset.uds with session := 3, chan := 0 } }))

theorem udsGate_limpUnbacked : udsGate 0 0x14 0 (2 ^ 3) true 1 (udsStart 0 0x14 limpUnbacked) = none := by decide +kernel

/-- With LIMP over the channel is served, its post finds no slot, and the fault of the pool takes a fresh record. -/
theorem clearDtcs_limpUnbacked : (clearDtcs (udsStart 0 0x14 limpUnbacked)).flt.dtcs.isEmpty = false := by decide +kernel

/-- Refutes O53: the end of LIMP serves the outputs again after the records are emptied, and a post refused for want of slots is
reported as fault 0x100, so a record may stand once ClearDiagnosticInformation has answered. -/
theorem not_udsServiceRows : ¬ Obligations.UdsServiceRows := by
  unfold Obligations.UdsServiceRows
  rintro ⟨-, -, -, -, -, -, -, -, -, -, -, hclear, -⟩
  obtain ⟨-, hempty, -⟩ := hclear 0 limpUnbacked udsGate_limpUnbacked
  have hrecord := clearDtcs_limpUnbacked
  rw [hempty] at hrecord
  exact Bool.noConfusion hrecord

end Sys2Proof.Machine
end

section
/-!
PROOF. Security access, downloads and routines over diagnostics (18_host_and_diagnostics.md, R444 to R449; 20_security_and_lifecycle.md,
R485 to R498; 21_updates.md, R528, R536).
-/
namespace Sys2Proof.Machine

/-! ## A service that its gate lets through (R446) -/

section
variable {c : Can} {sid sub sess priv : Nat} {ok : Bool} {f : State → State} {i : Instr} {s t : State} {P : State → Prop}

theorem udsService_runs (h : udsGate c sid sub sess ok priv (udsStart c sid s) = none) :
    udsService c sid sub sess ok priv f s = f (udsStart c sid s) := by
  simp only [udsService, h]

theorem completes_uds (h : exec i s = doneFor (Instr.part i) s (udsService c sid sub sess ok priv f))
    (hg : udsGate c sid sub sess ok priv (udsStart c sid s) = none) (e : f (udsStart c sid s) = t) : Completes i s t :=
  completes_of h ((udsService_runs hg).trans e)

theorem gives_uds (h : exec i s = doneFor (Instr.part i) s (udsService c sid sub sess ok priv f))
    (hg : udsGate c sid sub sess ok priv (udsStart c sid s) = none) (e : f (udsStart c sid s) = t) (p : P (after s t)) : Gives i s P :=
  gives_of_eq h ((udsService_runs hg).trans e) p

theorem routine_runs {cond : State → Bool} (h : udsGate c 0x31 1 progExt ok priv (udsStart c 0x31 s) = none)
    (hc : cond (udsStart c 0x31 s) = true) : routine c ok priv cond f s = f (udsStart c 0x31 s) :=
  (udsService_runs h).trans (if_pos hc)

theorem routine_refused {cond : State → Bool} (h : udsGate c 0x31 1 progExt ok priv (udsStart c 0x31 s) = none)
    (hc : cond (udsStart c 0x31 s) = false) : routine c ok priv cond f s = udsNeg c 0x31 0x22 (udsStart c 0x31 s) :=
  (udsService_runs h).trans (if_neg (Bool.eq_false_iff.1 hc))

/-- A service begins on the transport's record, the words and the mark of the requester. -/
theorem udsStart_eq (c : Can) (sid : Nat) (s : State) : udsStart c sid s = { s with
    words := (udsStart c sid s).words, modes := (udsStart c sid s).modes
    uds := { s.uds with waiting := (udsStart c sid s).uds.waiting, lastAt := (udsStart c sid s).uds.lastAt } } := by
  unfold udsStart
  dsimp only
  rw [noteRequest_eq]
  rfl

@[simp] theorem udsStart_sec (c : Can) (sid : Nat) (s : State) : (udsStart c sid s).sec = s.sec := by rw [udsStart_eq]
@[simp] theorem udsStart_upd (c : Can) (sid : Nat) (s : State) : (udsStart c sid s).upd = s.upd := by rw [udsStart_eq]
@[simp] theorem udsStart_now (c : Can) (sid : Nat) (s : State) : (udsStart c sid s).now = s.now := by rw [udsStart_eq]
@[simp] theorem udsStart_dl (c : Can) (sid : Nat) (s : State) : (udsStart c sid s).uds.dl = s.uds.dl := by rw [udsStart_eq]
@[simp] theorem udsStart_results (c : Can) (sid : Nat) (s : State) : (udsStart c sid s).uds.results = s.uds.results := by
  rw [udsStart_eq]

end

/-! ## Responses leave the key store alone (R443) -/

section
variable {c : Can} {sid nrc : Nat} {s t u : State}

/-- A response changes the transport, the CAN buffers and the words. -/
def IsoFrame (s t : State) : Prop := t = { s with words := t.words, can := t.can, uds := t.uds }

theorem IsoFrame.trans (h : IsoFrame s t) (h' : IsoFrame t u) : IsoFrame s u := by
  unfold IsoFrame at *
  rw [h', h]

theorem IsoFrame.sec (h : IsoFrame s t) : t.sec = s.sec := by rw [h]

theorem isoFrame_bump (s : State) (i lo w : Nat) : IsoFrame s (s.bump i lo w) := rfl

theorem isoFrame_updCan (c : Can) (f : CanC → CanC) (s : State) : IsoFrame s (updCan c f s) := rfl

theorem isoFrame_isoPut (c : Can) (b : List Byte) (s : State) : IsoFrame s (isoPut c b s) := by
  unfold isoPut putBuffer onlyIf
  dsimp only
  split
  · exact isoFrame_updCan ..
  · split
    · exact (isoFrame_bump ..).trans (isoFrame_updCan ..)
    · exact isoFrame_updCan ..

theorem isoFrame_isoBegin (c : Can) (msg : List Byte) (s : State) : IsoFrame s (isoBegin c msg s) := by
  unfold isoBegin
  dsimp only
  split
  · exact isoFrame_isoPut ..
  · split
    · exact isoFrame_isoPut ..
    · exact (isoFrame_isoPut ..).trans rfl

theorem isoFrame_isoSend (c : Can) (msg : List Byte) (s : State) : IsoFrame s (isoSend c msg s) := by
  unfold isoSend
  split
  · rfl
  · exact isoFrame_isoBegin ..

theorem isoFrame_udsNeg (c : Can) (sid nrc : Nat) (s : State) : IsoFrame s (udsNeg c sid nrc s) :=
  (isoFrame_bump ..).trans (isoFrame_isoSend ..)

theorem isoFrame_udsPos (c : Can) (sid : Nat) (payload : List Byte) (s : State) : IsoFrame s (udsPos c sid payload s) := by
  unfold udsPos
  split
  · exact isoFrame_udsNeg ..
  · exact isoFrame_isoSend ..

theorem udsPos_sec (c : Can) (sid : Nat) (payload : List Byte) (s : State) : (udsPos c sid payload s).sec = s.sec :=
  (isoFrame_udsPos ..).sec

theorem wrongKey_sec (c : Can) (third : Bool) (s : State) : (wrongKey c third s).sec = s.sec :=
  ((isoFrame_bump ..).trans (isoFrame_udsNeg ..)).sec

end

/-! ## Security access (R485) -/

section
variable {c : Can} {s : State}

theorem seedL1_closed (h : ((keySlot 0 s).key.isNone || s.flag Ix.SEC_CFG 0) = true) : seedL1 c s = udsNeg c 0x27 0x12 s := if_pos h

theorem seedL1_held (h : ((keySlot 0 s).key.isNone || s.flag Ix.SEC_CFG 0) = false) (hp : 1 ≤ privOf (.tester c) s) :
    seedL1 c s = udsPos c 0x27 ([0x01] ++ List.replicate 16 0) s :=
  (if_neg (Bool.eq_false_iff.1 h)).trans (if_pos hp)

theorem seedL1_drawn (h : ((keySlot 0 s).key.isNone || s.flag Ix.SEC_CFG 0) = false) (hp : privOf (.tester c) s = 0)
    (hr : seedRefusal c s = none) : seedL1 c s = udsPos c 0x27 ([0x01] ++ Config.drbg s.sec.drbg 16)
      (updParty (testerParty c) (fun p => { p with seed := some (Config.drbg s.sec.drbg 16) }) (draw 16 s).2) := by
  refine (if_neg (Bool.eq_false_iff.1 h)).trans ((if_neg (by omega)).trans ?_)
  rw [hr]
  rfl

section
variable {key seed sa1 : List Byte}

theorem keyL1_right (hs : (s.sec.parties[testerParty c]).seed = some seed) (hk : (keySlot 0 s).key = some sa1)
    (h : Config.aesCmac sa1 (seed ++ leBytes Config.serial.toNat 8) = key) :
    keyL1 c key s = udsPos c 0x27 [0x02] (updParty (testerParty c) (fun p => { p with priv := Nat.max 1 p.priv })
      (updParty (testerParty c) (fun p => { p with seed := none }) s)) := by
  simp only [keyL1, hs, hk, h, if_true]

theorem keyL1_wrong (hs : (s.sec.parties[testerParty c]).seed = some seed) (hk : (keySlot 0 s).key = some sa1)
    (h : Config.aesCmac sa1 (seed ++ leBytes Config.serial.toNat 8) ≠ key) :
    keyL1 c key s = wrongKey c (thirdFailure (testerParty c) s)
      (countFailure (testerParty c) (updParty (testerParty c) (fun p => { p with seed := none }) s)) := by
  simp only [keyL1, hs, hk, h, if_false]

end

theorem seedL3_drawn (hp : privOf (.tester c) s < 2) (hr : seedRefusal c s = none) :
    seedL3 c s = udsPos c 0x27 ([0x03] ++ Config.drbg s.sec.drbg 32) (issueChallenge (testerParty c) s).2 := by
  refine (if_neg (Nat.not_le.2 hp)).trans ?_
  rw [hr]
  rfl

section
variable {resp ch : List Byte} {at_ : Nat}

theorem keyL3_accepted (hc : (s.sec.parties[testerParty c]).challenge = some (ch, at_)) (ht : s.now < at_ + secP 10)
    (h : (respond (testerParty c) resp s).1 = true) :
    keyL3 c resp s = udsPos c 0x27 [0x04] (respond (testerParty c) resp s).2 := by
  simp only [keyL3, hc, ht, decide_true, Bool.not_true, Bool.false_eq_true, if_false, h, if_true]

theorem keyL3_unasked (hc : (s.sec.parties[testerParty c]).challenge = none) : keyL3 c resp s = udsNeg c 0x27 0x24 s := by
  simp only [keyL3, hc, Bool.not_false, if_true]

end

/-- A change of a party that keeps its privilege and takes nothing from its seed. -/
theorem updParty_keeps (w : Fin 5) {f : Party → Party} (h : ∀ p, (f p).priv = p.priv ∧ (f p).seed = p.seed) (s : State) :
    ((updParty w f s).sec.parties[w]).priv = (s.sec.parties[w]).priv ∧ ((updParty w f s).sec.parties[w]).seed = (s.sec.parties[w]).seed := by
  rw [updParty_same]
  exact h _

theorem countFailure_keeps (w : Fin 5) (s : State) :
    ((countFailure w s).sec.parties[w]).priv = (s.sec.parties[w]).priv ∧
    ((countFailure w s).sec.parties[w]).seed = (s.sec.parties[w]).seed := by
  unfold countFailure
  dsimp only
  split
  · exact ⟨rfl, rfl⟩
  · split
    · simp only [State.bump_sec]
      refine updParty_keeps w ?_ s
      exact fun _ => ⟨rfl, rfl⟩
    · refine updParty_keeps w ?_ s
      exact fun _ => ⟨rfl, rfl⟩

end

/-! ## Downloads (R447) -/

section
variable {c : Can} {body : List Byte} {s : State}

theorem downloadImage_opens (h0 : leAt body 0 1 = 0) (ha : dlAddr body = 0) (hok : (imgBegin true (dlSize body) false none s).1 = 0) :
    ∃ off, downloadImage c body s = udsPos c 0x34 ([0x20] ++ beBytes 4082 2)
      (updUds (fun x => { x with dl := some { key := false, next := 1, last := none, offset := off, total := dlSize body } })
        (imgBegin true (dlSize body) false none s).2) := by
  have hbusy : ¬((imgBegin true (dlSize body) false none s).1 = 0x40 ∨ (imgBegin true (dlSize body) false none s).1 = 0x41 ∨
      (imgBegin true (dlSize body) false none s).1 = 1) := by
    rw [hok]
    decide
  have hrange : ¬(leAt body 0 1 ≠ 0 ∨ dlAddr body / 2 ^ 28 ≠ 0 ∨ dlAddr body % 2 ^ 23 ≠ 0 ∨
      (imgBegin true (dlSize body) false none s).1 ≠ 0) := by
    rw [hok, h0, ha]
    decide
  exact ⟨_, (if_neg hbusy).trans (if_neg hrange)⟩

/-- The request names the staging buffer, with a size that it has. -/
theorem downloadKey_valid (h0 : leAt body 0 1 = 0) (ha : dlAddr body = 2 ^ 28) (h1 : 1 ≤ dlSize body) (h2 : dlSize body ≤ 262144) :
    ¬(leAt body 0 1 ≠ 0 ∨ dlAddr body / 2 ^ 28 ≠ 1 ∨ dlSize body = 0 ∨ 262144 < dlSize body) := by
  rw [h0, ha]
  omega

theorem downloadKey_opens (h0 : leAt body 0 1 = 0) (ha : dlAddr body = 2 ^ 28) (h1 : 1 ≤ dlSize body) (h2 : dlSize body ≤ 262144)
    (hm : s.modes.mode = .workshop) : downloadKey c body s = udsPos c 0x34 ([0x20] ++ beBytes 4082 2) { s with
      uds := { s.uds with dl := some { key := true, next := 1, last := none, offset := 0, total := dlSize body } } } :=
  (if_neg (downloadKey_valid h0 ha h1 h2)).trans (if_neg (not_outside hm))

theorem downloadKey_outside (h0 : leAt body 0 1 = 0) (ha : dlAddr body = 2 ^ 28) (h1 : 1 ≤ dlSize body) (h2 : dlSize body ≤ 262144)
    (hm : s.modes.mode ≠ .workshop) : downloadKey c body s = udsNeg c 0x34 0x70 s :=
  (if_neg (downloadKey_valid h0 ha h1 h2)).trans (if_pos (bne_iff_ne.2 hm))

end

theorem leAt_head (n : Byte) (bs : List Byte) : leAt (n :: bs) 0 1 = n.toNat := by
  rw [leAt, slice, List.drop_zero, List.take_succ_cons, List.take_zero, leNat, leNat, Nat.mul_zero, Nat.add_zero]

section
variable {c : Can} {n : Byte} {data : List Byte} {d : Download} {s : State}

/-- A block is a repeat, beyond the total, out of sequence, or the next one. -/
theorem transferData_open (h : s.uds.dl = some d) : transferData c (n :: data) s =
    if d.last = some n.toNat ∧ d.next ≠ n.toNat then udsPos c 0x36 [n] s
    else if d.total < d.offset + data.length then udsNeg c 0x36 0x31 s
    else
      let a := if d.next = n.toNat then transferBlock d data s else (0x73, s)
      if a.1 = 0 then
        udsPos c 0x36 [n] (updUds (fun u => { u with
          dl := some { d with next := (n.toNat + 1) % 256, last := some n.toNat, offset := d.offset + data.length } }) a.2)
      else udsNeg c 0x36 (if a.1 = 0x70 ∨ a.1 = 0x73 then a.1 else imgNrc a.1) a.2 := by
  simp only [transferData, h, leAt_head, List.drop_succ_cons, List.drop_zero, List.take_succ_cons, List.take_zero]

theorem transferData_next (h : s.uds.dl = some d) (hn : d.next = n.toNat) (ht : d.offset + data.length ≤ d.total)
    (hok : (transferBlock d data s).1 = 0) : transferData c (n :: data) s =
      udsPos c 0x36 [n] (updUds (fun u => { u with
        dl := some { d with next := (n.toNat + 1) % 256, last := some n.toNat, offset := d.offset + data.length } })
        (transferBlock d data s).2) := by
  rw [transferData_open h, if_neg fun hc => hc.2 hn, if_neg (Nat.not_lt.2 ht)]
  simp only [hn, if_true, hok]

theorem transferData_repeated (h : s.uds.dl = some d) (hn : d.next ≠ n.toNat) (hl : d.last = some n.toNat) :
    transferData c (n :: data) s = udsPos c 0x36 [n] s := by
  rw [transferData_open h, if_pos ⟨hl, hn⟩]

theorem transferData_outOfOrder (h : s.uds.dl = some d) (hn : d.next ≠ n.toNat) (hl : d.last ≠ some n.toNat)
    (ht : d.offset + data.length ≤ d.total) : transferData c (n :: data) s = udsNeg c 0x36 0x73 s := by
  rw [transferData_open h, if_neg fun hc => hl hc.1, if_neg (Nat.not_lt.2 ht), if_neg hn]
  exact (if_neg (Nat.succ_ne_zero 0x72)).trans (congrArg (fun nrc => udsNeg c 0x36 nrc s) (if_pos (.inr rfl)))

theorem transferExit_key (h : s.uds.dl = some d) (hk : d.key = true) :
    transferExit c s = udsPos c 0x37 [] (updUds (fun u => { u with dl := none }) s) := by
  simp only [transferExit, h, hk, if_true]

theorem transferExit_none (h : s.uds.dl = none) : transferExit c s = udsNeg c 0x37 0x24 s := by
  simp only [transferExit, h]

end

/-- The service TransferData, whose length follows the download. -/
def transferred (c : Can) (body : List Byte) (s : State) : State :=
  udsService c 0x36 0 (2 ^ 2) (transferLen body s) 2 (transferData c body) s

/-! ## Routines (R446) -/

section
variable {c : Can} {id : Nat} {r : List Byte} {s : State}

theorem routineResults_kept (h : knownRoutine id = true) (hr : s.uds.results.lookup id = some r) :
    routineResults c id s = udsPos c 0x31 ([3] ++ beBytes id 2 ++ r) s := by
  simp only [routineResults, h, hr, Bool.not_true, Bool.false_eq_true, if_false]

theorem routineResults_none (h : knownRoutine id = true) (hr : s.uds.results.lookup id = none) :
    routineResults c id s = udsNeg c 0x31 0x24 s := by
  simp only [routineResults, h, hr, Bool.not_true, Bool.false_eq_true, if_false]

/-! ## Activation and discard (R528, R536) -/

theorem updCommand_activates (ha : activationReady s = true) (hm : s.modes.mode = .workshop) (hh : hallPass s = true) :
    updCommand 1 s = (0, writeIntent s) := by
  have hready : (activationReady s && s.modes.mode == .workshop && hallPass s) = true := by rw [ha, hm, hh]; rfl
  exact (if_pos rfl).trans (if_pos hready)

theorem updCommand_notReady (h : activationReady s = false ∨ s.modes.mode ≠ .workshop ∨ hallPass s = false) : (updCommand 1 s).1 = 5 := by
  have hready : ¬(activationReady s && s.modes.mode == .workshop && hallPass s) = true := by
    intro hc
    obtain ⟨hc, hh⟩ := Bool.and_eq_true_iff.1 hc
    obtain ⟨ha, hm⟩ := Bool.and_eq_true_iff.1 hc
    obtain h | h | h := h
    · exact Bool.false_ne_true (h.symm.trans ha)
    · exact h (beq_iff_eq.1 hm)
    · exact Bool.false_ne_true (h.symm.trans hh)
  exact congrArg Prod.fst ((if_pos rfl).trans (if_neg hready))

theorem updCommand_discards (h1 : s.upd.st ≠ 1) (h0 : s.upd.st ≠ 0) : updCommand 2 s = (0, discardBunch 8 s) := by
  have hdiscard : updDiscard s = (true, discardBunch 8 s) := (if_neg h1).trans (if_neg h0)
  refine (if_neg (by decide)).trans ?_
  rw [hdiscard]
  rfl

theorem updCommand_session (h1 : s.upd.st = 1) : updCommand 2 s = (5, s) := by
  have hdiscard : updDiscard s = (false, s) := if_pos h1
  refine (if_neg (by decide)).trans ?_
  rw [hdiscard]
  rfl

theorem commandWord_updCmd {q : Requester} {m : Measured} {v : Word} :
    commandWord q m Ix.UPD_CMD v s = some (updCommand v s) := rfl

theorem isW1c_updCmd : isW1c Ix.UPD_CMD = false := by decide +kernel

theorem cleanValue_updCmd : cleanValue Ix.UPD_CMD 1 = 1 ∧ cleanValue Ix.UPD_CMD 2 = 2 := by decide +kernel

theorem requestWrite_updCmd {q : Requester} {m : Measured} {v : Word} (h : mayWrite q Ix.UPD_CMD (noteRequest q s) = true)
    (hv : (valueOk Ix.UPD_CMD v (noteRequest q s) && crossWritten Ix.UPD_CMD v (noteRequest q s)) = true)
    (hc : cleanValue Ix.UPD_CMD v = v) : requestWrite q m Ix.UPD_CMD v s = (updCommand v (noteRequest q s)).2 := by
  rw [requestWrite_command h hv isW1c_updCmd commandWord_updCmd, hc]

/-- Activation by routine: its status, and with START_NOW the start. -/
def activated (c : Can) (now_ : Bool) (k : StartInput) (a : Nat × State) : State :=
  if a.1 ≠ 0 then udsNeg c 0x31 0x22 a.2
  else if now_ then deviceReset k (routineDone c 0xF302 [0] a.2) else routineDone c 0xF302 [0] a.2

/-- Discard by routine. -/
def discarded (c : Can) (a : Nat × State) : State :=
  if a.1 ≠ 0 then udsNeg c 0x31 0x22 a.2 else routineDone c 0xF303 [0] a.2

theorem exec_updActivate {now_ : Bool} {k : StartInput} : exec (.updActivate (.tester c) false now_ k) s =
    doneFor .pair s (routine c true 2 always fun t => activated c now_ k (updCommand 1 t)) := rfl

theorem exec_updDiscard : exec (.updDiscard (.tester c) false) s =
    doneFor .pair s (routine c true 2 always fun t => discarded c (updCommand 2 t)) := rfl

theorem storeLoad_some {x : Option State} {u : State} (h : x = some u) : storeLoad c id x s = routineDone c id [0] u := by
  subst h; rfl

theorem storeLoad_none {x : Option State} (h : x = none) : storeLoad c id x s = udsNeg c 0x31 0x31 s := by
  subst h; rfl

/-! ## Life-cycle transitions (R498) -/

variable {body : List Byte} {k : StartInput}

theorem lcChange_unprivileged (h : lcPrivileged c (leAt body 0 1) s = false) : lcChange c body k s = udsNeg c 0x31 0x33 s :=
  if_pos (by rw [h]; rfl)

/-- The intent of a transition that a tester asks for. -/
def testerIntent (c : Can) (body : List Byte) (s : State) : Intent :=
  { src := s.life.code, target := leAt body 0 1, spare := leAt body 1 1 % 2 == 1, seq := 0, requester := 1 + c.val * 4, seed := [] }

theorem transition_uncut (i : Intent) (s : State) : (transition i none s).1 = true := rfl

theorem lcChange_carriedOut (hp : lcPrivileged c (leAt body 0 1) s = true) (hg : lcGuard c (leAt body 0 1) s = true)
    (ha : lcAllowed (leAt body 0 1) s = true) (hk : k.cut = none) :
    lcChange c body k s = deviceReset k (transition (testerIntent c body s) none (dropAll s)).2 := by
  have hsame : { k with cut := none } = k := by rw [← hk]
  simp only [lcChange, hp, hg, ha, hk, Bool.not_true, Bool.false_eq_true, if_false, transition_uncut, if_true]
  rw [hsame]
  rfl

end

/-- Settles O54, clause by clause. -/
theorem udsAccessAndRoutines : Obligations.UdsAccessAndRoutines := by
  unfold Obligations.UdsAccessAndRoutines
  refine ⟨?seed1, ?key1, fun c s hg hp hr => ?seed3, ?key3, ?download, ?transfer, ?exit_, ?results, ?routines, ?bitmap,
    fun s => ⟨updCommand_activates, updCommand_notReady, updCommand_discards, updCommand_session⟩, ?words, ?privileged, ?lifeCycle⟩
  case seed1 =>
    intro c s t hg
    refine ⟨fun h => completes_uds rfl hg (seedL1_closed h), fun h hp => completes_uds rfl hg (seedL1_held h hp), fun h hp hr => ?_⟩
    rw [← udsStart_sec c 0x27 s]
    exact completes_uds rfl hg (seedL1_drawn h hp hr)
  case key1 =>
    intro c key seed sa1 s t w hg hs hk
    have hs' : (t.sec.parties[w]).seed = some seed := by rw [udsStart_sec]; exact hs
    have hk' : (keySlot 0 t).key = some sa1 := by rw [keySlot, udsStart_sec]; exact hk
    refine ⟨fun h => gives_uds rfl hg (keyL1_right hs' hk' h) ?_, fun h => gives_uds rfl hg (keyL1_wrong hs' hk' h) ?_⟩
    · simp only [after_sec, udsPos_sec, updParty_same, udsStart_sec, w, and_self]
    · obtain ⟨hpriv, hseed⟩ := countFailure_keeps w (updParty w (fun p => { p with seed := none }) t)
      simp only [after_sec, wrongKey_sec]
      rw [hpriv, hseed, updParty_same, udsStart_sec]
      exact ⟨rfl, rfl⟩
  case seed3 =>
    rw [← udsStart_sec c 0x27 s]
    exact completes_uds rfl hg (seedL3_drawn hp hr)
  case key3 =>
    intro c resp ch at_ s t hg
    have hsec : t.sec = s.sec := udsStart_sec c 0x27 s
    have hnow : t.now = s.now := udsStart_now c 0x27 s
    exact ⟨fun hc ht h => completes_uds rfl hg (keyL3_accepted (by rw [hsec]; exact hc) (by rw [hnow]; exact ht) h),
      fun hc => completes_uds rfl hg (keyL3_unasked (by rw [hsec]; exact hc))⟩
  case download =>
    intro c body s t hg h0
    refine ⟨fun ha hok => ?_, fun ha h1 h2 hm => completes_uds rfl hg (downloadKey_opens h0 ha h1 h2 hm),
      fun ha h1 h2 hm => completes_uds rfl hg (downloadKey_outside h0 ha h1 h2 hm)⟩
    obtain ⟨off, hopen⟩ := downloadImage_opens (c := c) h0 ha hok
    exact ⟨off, completes_uds rfl hg hopen⟩
  case transfer =>
    intro c n data d s t hg hd
    have hd' : t.uds.dl = some d := by rw [udsStart_dl]; exact hd
    exact ⟨fun hn ht hok => completes_of (f := transferred c (n :: data)) rfl ((udsService_runs hg).trans (transferData_next hd' hn ht hok)),
      fun hn hl => completes_of (f := transferred c (n :: data)) rfl ((udsService_runs hg).trans (transferData_repeated hd' hn hl)),
      fun hn hl ht => completes_of (f := transferred c (n :: data)) rfl ((udsService_runs hg).trans (transferData_outOfOrder hd' hn hl ht))⟩
  case exit_ =>
    intro c d s t hg
    exact ⟨fun hd hk => completes_uds rfl hg (transferExit_key (by rw [udsStart_dl]; exact hd) hk),
      fun hd => completes_uds rfl hg (transferExit_none (by rw [udsStart_dl]; exact hd))⟩
  case results =>
    intro c body r s t hg hknown
    exact ⟨fun hr => completes_uds rfl hg (routineResults_kept hknown (by rw [udsStart_results]; exact hr)),
      fun hr => completes_uds rfl hg (routineResults_none hknown (by rw [udsStart_results]; exact hr))⟩
  case routines =>
    intro c s t hg
    have hupd : t.upd = s.upd := udsStart_upd c 0x31 s
    refine ⟨fun sha hlen => completes_of rfl (routine_runs (by rw [beq_iff_eq.2 hlen]; exact hg) rfl), fun x hs => ?_, fun hs => ?_,
      completes_of rfl ((routine_runs hg rfl).trans ?_), fun nonce d hlen hd => ?_, completes_of rfl (routine_runs hg rfl)⟩
    · have hs' : t.upd.session = some x := by rw [hupd]; exact hs
      have hrecord : progressNow t = progressRecord x := by rw [progressNow, hs']
      exact completes_of rfl ((routine_runs hg rfl).trans ((if_neg (by rw [hs']; exact Bool.false_ne_true)).trans
        (congrArg (fun r => routineDone c 0xF111 r (touchImg t)) hrecord)))
    · have hs' : t.upd.session = none := by rw [hupd]; exact hs
      exact completes_of rfl ((routine_runs hg rfl).trans (if_pos (by rw [hs']; rfl)))
    · simp only [List.flatMap_cons, List.flatMap_nil, List.append_nil, List.append_assoc, t]
    · have hd' : t.sec.device = some d := by rw [udsStart_sec]; exact hd
      refine completes_of rfl ((routine_runs (by rw [beq_iff_eq.2 hlen]; exact hg) (by rw [hd']; rfl)).trans ?_)
      rw [hd']
  case bitmap =>
    intro c k s t hg
    refine ⟨fun hk => completes_of rfl ((routine_runs hg rfl).trans ?_), fun hk => completes_of rfl ((routine_runs hg rfl).trans ?_)⟩
    · rw [leAt_head, if_neg (Nat.not_lt.2 hk), udsStart_upd]
    · rw [leAt_head, if_pos hk]
  case words =>
    intro r now_ k s n hmay
    obtain ⟨h1, h2⟩ := cleanValue_updCmd
    exact ⟨fun hv => completes_of rfl (requestWrite_updCmd hmay hv h1), fun hv => completes_of rfl (requestWrite_updCmd hmay hv h2)⟩
  case privileged =>
    intro c k s t hg
    have hlen : ∀ {n m : Nat}, n = m → udsGate c 0x31 1 progExt (n == m) 2 t = none := fun h => by rw [beq_iff_eq.2 h]; exact hg
    have hin : t.modes.mode = .workshop → inWorkshop t = true := fun h => beq_iff_eq.2 h
    refine ⟨fun h => ⟨completes_of exec_updActivate ((routine_runs hg rfl).trans ?_), completes_of exec_updActivate ((routine_runs hg rfl).trans ?_)⟩,
      fun h => completes_of exec_updActivate ((routine_runs hg rfl).trans (if_pos h)),
      fun h => completes_of exec_updDiscard ((routine_runs hg rfl).trans (if_neg (not_not_intro h))),
      fun hm v hv => completes_of rfl (routine_runs (hlen hv) (hin hm)),
      fun hm o u ho hu => completes_of rfl ((routine_runs (hlen ho) (hin hm)).trans (storeLoad_some hu)),
      fun hm o ho hu => completes_of rfl ((routine_runs (hlen ho) (hin hm)).trans (storeLoad_none hu)),
      fun hm o u ho hu => completes_of rfl ((routine_runs (hlen ho) (hin hm)).trans (storeLoad_some hu)),
      fun hm o u ho hu => completes_of rfl ((routine_runs (hlen ho) (hin hm)).trans (storeLoad_some hu)),
      fun hm o ho => completes_of rfl (routine_refused (hlen ho) (beq_eq_false_iff_ne.2 hm))⟩
    · exact (if_neg (not_not_intro h)).trans (if_neg Bool.false_ne_true)
    · exact (if_neg (not_not_intro h)).trans (if_pos rfl)
  case lifeCycle =>
    intro c body k s t hg
    exact ⟨fun h => completes_uds rfl hg (lcChange_unprivileged h), fun hp hgu ha hk => completes_uds rfl hg (lcChange_carriedOut hp hgu ha hk)⟩

end Sys2Proof.Machine
end

section
/-!
PROOF. Credentials, lockouts and permits expire; command frames; the entropy source (20_security_and_lifecycle.md, R480 to R495, R505).
-/
namespace Sys2Proof.Machine

/-! ## Expiries (R480, R481, R483, R495) -/

section
variable {w : Fin 5} {s : State}

theorem credentialExpiry_due {u secs at_ : Nat} (hu : (s.sec.parties[w]).validUntil = some u) (hr : s.pw.rtc = some (secs, at_)) :
    credentialExpiry w s = dropPriv w (s.reach (at_ + secP (u + 1 - secs))) := by
  rw [credentialExpiry, hu, hr]

theorem credentialExpiry_none (h : (s.sec.parties[w]).validUntil = none ∨ s.pw.rtc = none) : credentialExpiry w s = s := by
  unfold credentialExpiry
  split
  next hu hr =>
    obtain h | h := h
    · exact absurd (hu.symm.trans h) (Option.some_ne_none _)
    · exact absurd (hr.symm.trans h) (Option.some_ne_none _)
  · rfl

theorem lockoutEnds_locked {t : Nat} (h : (s.sec.parties[w]).lockedAt = some t) :
    lockoutEnds w s = updParty w (fun p => { p with lockedAt := none }) (s.reach (t + secP 10)) := by
  rw [lockoutEnds, h]

theorem challengeExpiry_open {ch : List Byte} {t : Nat} (h : (s.sec.parties[w]).challenge = some (ch, t)) :
    challengeExpiry w s = updParty w (fun p => { p with challenge := none }) (s.reach (t + secP 10)) := by
  rw [challengeExpiry, h]

theorem permitExpiry_due {v : List Byte} {t secs at_ : Nat} (hp : s.sec.permit = some (v, some t)) (hr : s.pw.rtc = some (secs, at_)) :
    permitExpiry s = updSec (fun c => { c with permit := none }) (s.reach (at_ + secP (t + 86400 - secs))) := by
  rw [permitExpiry, hp, hr]

end

/-! ## Command frames (R490) -/

section
variable {c : Can} {k : Nat} {f : CanFrame} {s : State}

theorem acmdFrame_shape (h : f.fdf = true ∨ f.dlc ≠ 8 ∨ f.data.length ≠ 8) :
    acmdFrame c k f s = s.bump (Ix.SEC_ACMD_COUNT k) 24 8 := by
  have hshape : (f.fdf || f.dlc != 8 || f.data.length != 8) = true := by
    simp only [Bool.or_eq_true, bne_iff_ne, or_assoc]
    exact h
  exact if_pos hshape

theorem rightShape (h1 : f.fdf = false) (h2 : f.dlc = 8) (h3 : f.data.length = 8) :
    ¬(f.fdf || f.dlc != 8 || f.data.length != 8) = true := by
  rw [h1, h2, h3]
  decide

variable {n fv : Nat}

theorem acmdFrame_stale (h1 : f.fdf = false) (h2 : f.dlc = 8) (h3 : f.data.length = 8) (hn : acmdKey k s = n)
    (hfv : fullFreshness (keySlot n s).fv (leAt f.data 2 2) = fv)
    (h : s.fld (Ix.SEC_ACMD_CFG k) 16 10 < fv - (keySlot n s).fv ∨ 0xFFFFFFFF < fv) :
    acmdFrame c k f s = secReport 0xC02 (3 + c.val * 4 + k * 256) (s.bump (Ix.SEC_ACMD_COUNT k) 16 8) := by
  subst hn hfv
  exact (if_neg (rightShape h1 h2 h3)).trans (if_pos h)

/-- A fresh frame is judged by its code. -/
theorem acmdFrame_fresh {key : List Byte} (h1 : f.fdf = false) (h2 : f.dlc = 8) (h3 : f.data.length = 8) (hn : acmdKey k s = n)
    (hfv : fullFreshness (keySlot n s).fv (leAt f.data 2 2) = fv) (h : fv - (keySlot n s).fv ≤ s.fld (Ix.SEC_ACMD_CFG k) 16 10)
    (hmax : fv ≤ 0xFFFFFFFF) (hkey : (keySlot n s).key = some key) :
    acmdFrame c k f s = if (Config.aesCmac key (acmdMessage f fv)).take 4 = f.data.drop 4 then acceptAcmd k n fv f s
      else secReport 0xC01 (3 + c.val * 4 + k * 256) (s.bump (Ix.SEC_ACMD_COUNT k) 8 8) := by
  subst hn hfv
  have hfresh : ¬(s.fld (Ix.SEC_ACMD_CFG k) 16 10 < fullFreshness (keySlot (acmdKey k s) s).fv (leAt f.data 2 2) -
      (keySlot (acmdKey k s) s).fv ∨ 0xFFFFFFFF < fullFreshness (keySlot (acmdKey k s) s).fv (leAt f.data 2 2)) :=
    not_or.2 ⟨Nat.not_lt.2 h, Nat.not_lt.2 hmax⟩
  refine (if_neg (rightShape h1 h2 h3)).trans ((if_neg hfresh).trans ?_)
  simp only [hkey, beq_iff_eq]

theorem acmdRx_of (h : acmdOf c f s = some k) (at_ : Nat) : acmdRx c f (s.reach at_) = acmdFrame c k f (s.reach at_) := by
  have hof : acmdOf c f (s.reach at_) = some k := h
  rw [acmdRx, hof]

/-- What a frame on a channel that takes part meets. -/
theorem completes_authCommandFrame {at_ : Nat} {t : State} (hst : (s.can.ctl[c]).st = .active ∨ (s.can.ctl[c]).st = .passive)
    (hk : acmdOf c f s = some k) (h : acmdFrame c k f (s.reach at_) = t) : Completes (.authCommandFrame c at_ f) s t := by
  have hpart : ((s.can.ctl[c]).st == .active || (s.can.ctl[c]).st == .passive) = true := by
    obtain hst | hst := hst <;> rw [hst] <;> rfl
  exact completes_of (f := fun s => if (s.can.ctl[c]).st == .active || (s.can.ctl[c]).st == .passive then acmdRx c f (s.reach at_) else s)
    rfl ((if_pos hpart).trans ((acmdRx_of hk at_).trans h))

end

/-! ## The entropy source (R505) -/

section
variable {s : State}

theorem entropyTest_failed (h : srcActive 0xC06 0 s = false) (hw : waits 0xC06 0 s = false) :
    entropyTest false s = secReport 0xC06 0 { s with sec := { s.sec with entropyOk := false } } := by
  simp only [entropyTest, Bool.false_eq_true, if_false]
  refine if_neg ?_
  rw [show srcActive 0xC06 0 (updSec (fun c => { c with entropyOk := false }) s) = false from h,
    show waits 0xC06 0 (updSec (fun c => { c with entropyOk := false }) s) = false from hw]
  decide

theorem reseed_early {pass : Bool} (h : s.sec.sinceSeed < 2 ^ 20) : reseed pass s = s := if_pos h

theorem reseed_due (h : 2 ^ 20 ≤ s.sec.sinceSeed) : reseed true s = updSec (fun c => { c with sinceSeed := 0 }) (entropyTest true s) :=
  if_neg (Nat.not_lt.2 h)

theorem entropyTest_passed (s : State) :
    entropyTest true s = endFault 0xC06 0 { s with sec := { s.sec with entropyOk := true } } := by
  simp only [entropyTest, if_true, updSec]

theorem entropyTest_passed_sec (s : State) : (entropyTest true s).sec = { s.sec with entropyOk := true } := by
  rw [entropyTest_passed, (faultFrame_endFault ..).1]

end

/-- Settles O55, clause by clause. -/
theorem credentialRows : Obligations.CredentialRows := by
  unfold Obligations.CredentialRows
  refine ⟨fun w u secs at_ s hu hr => ⟨completes_of rfl (credentialExpiry_due hu hr), dropPriv_priv w _⟩,
    fun w s h => completes_of rfl (credentialExpiry_none h), fun w t s h => completes_of rfl (lockoutEnds_locked h),
    fun c t s h => completes_of (f := fun s => lockoutEnds (testerParty c) s) rfl (lockoutEnds_locked h),
    fun w ch t s h => completes_of rfl (challengeExpiry_open h), fun v t secs at_ s hp hr => completes_of rfl (permitExpiry_due hp hr),
    ?frames, fun at_ s => ⟨completes_of (f := fun s => entropyTest true (s.reach at_)) rfl (entropyTest_passed _), fun h hw => completes_of (f := fun s => entropyTest false (s.reach at_)) rfl
      (entropyTest_failed (s := s.reach at_) h hw)⟩, fun pass s h => completes_of rfl (reseed_early h), fun s h => ?seeded⟩
  case frames =>
    intro c at_ k f s hst hk u n fv who
    refine ⟨fun h => completes_authCommandFrame hst hk (acmdFrame_shape h), fun h1 h2 h3 =>
      ⟨fun h => completes_authCommandFrame hst hk (acmdFrame_stale h1 h2 h3 rfl rfl h), fun h hmax key hkey => ?_⟩⟩
    have hjudged := acmdFrame_fresh (c := c) h1 h2 h3 rfl rfl h hmax hkey
    exact ⟨fun hc => completes_authCommandFrame hst hk (hjudged.trans (if_pos hc)),
      fun hc => completes_authCommandFrame hst hk (hjudged.trans (if_neg hc))⟩
  case seeded =>
    refine gives_of_eq rfl (reseed_due h) ⟨rfl, ?_⟩
    rw [after_sec]
    exact congrArg Sec.entropyOk (entropyTest_passed_sec s)

end Sys2Proof.Machine
end

section
/-!
PROOF. The owner lock, the test port and the debug port (20_security_and_lifecycle.md, R496, R498, R502, R504).
-/
namespace Sys2Proof.Machine

/-! ## The owner lock (R496) -/

section
variable {r : Requester} {v : Word} {m : Measured} {s : State}

theorem requestWrite_notPermitted {i : Nat} (h : mayWrite r i (noteRequest r s) = false) : requestWrite r m i v s = noteRequest r s := by
  rw [requestWrite, writeParam_refused m h]

theorem ownerAlive_of_mayWrite (h : mayWrite r Ix.LC_OWNER_CMD s = true) : ownerAlive s = true := by
  have halive : ∀ x, paramRow Ix.LC_OWNER_CMD = some x → x.alive = .owner := by decide +kernel
  unfold mayWrite at h
  split at h
  next x hx =>
    obtain ⟨-, ha⟩ := Bool.and_eq_true_iff.1 h
    rw [halive x hx] at ha
    exact ha
  · exact absurd h Bool.false_ne_true

theorem commandWord_ownerCmd : commandWord r m Ix.LC_OWNER_CMD v s = some (ownerCommand r v s) := rfl

theorem isW1c_ownerCmd : isW1c Ix.LC_OWNER_CMD = false := by decide +kernel

theorem cleanValue_ownerCmd : cleanValue Ix.LC_OWNER_CMD 1 = 1 ∧ cleanValue Ix.LC_OWNER_CMD 2 = 2 := by decide +kernel

theorem requestWrite_ownerCmd (h : mayWrite r Ix.LC_OWNER_CMD (noteRequest r s) = true)
    (hv : (valueOk Ix.LC_OWNER_CMD v (noteRequest r s) && crossWritten Ix.LC_OWNER_CMD v (noteRequest r s)) = true)
    (hc : cleanValue Ix.LC_OWNER_CMD v = v) : requestWrite r m Ix.LC_OWNER_CMD v s = (ownerCommand r v (noteRequest r s)).2 := by
  rw [requestWrite_command h hv isW1c_ownerCmd commandWord_ownerCmd, hc]

theorem ownerCommand_set : ownerCommand r 1 s = ownerSet s := if_pos rfl
theorem ownerCommand_clear : ownerCommand r 2 s = (0, ownerClear r s) := if_neg (by decide)

theorem ownerSet_sets (ho : s.sec.owner = none) (hr : ownerRefused s = false) (hc : s.sec.code.all (· == 0) = false) :
    ownerSet s = (0, ownerResult 1 (writeStore (fun c => { c with owner := some (ownerHash (ownerBytes s)), wrong := 0 }) s)) := by
  simp only [ownerSet, ho, hr, hc, Option.isSome_none, Bool.or_self, Bool.false_eq_true, if_false]

theorem ownerSet_refused (h : s.sec.owner ≠ none ∨ ownerRefused s = true ∨ s.sec.code.all (· == 0) = true) :
    (ownerSet s).2 = ownerResult 3 s := by
  unfold ownerSet
  split
  · rfl
  next hopen =>
    split
    · rfl
    next hcode =>
      refine absurd ?_ hopen
      obtain h | h | h := h
      · rw [Option.isSome_iff_ne_none.2 h, Bool.true_or]
      · rw [h, Bool.or_true]
      · exact absurd h hcode

theorem ownerClear_none (h : s.sec.owner = none) : ownerClear r s = ownerResult 3 s := by
  simp only [ownerClear, h]

/-- The lock erased in both copies, with the result of the command. -/
def lockOpened (s : State) : State :=
  updSec (fun c => { c with owner := none, older := { c.older with owner := none }, wrong := 0, refusal := none, nextRefusal := 1,
                            ownerLast := 1, code := [0, 0, 0, 0] }) s

variable {h : List Byte}

theorem ownerClear_held (ho : s.sec.owner = some h) : ownerClear r s =
    if ownerOverride r s then lockOpened s
    else if ownerRefused s then ownerResult 3 s
    else if ownerHash (ownerBytes s) = h then lockOpened s
    else wrongCode s := by
  simp only [ownerClear, ho]
  rfl

theorem wrongCode_counted (h : (s.sec.wrong + 1) % 5 ≠ 0) :
    wrongCode s = updSec (fun c => { c with wrong := c.wrong + 1, ownerLast := 2, code := [0, 0, 0, 0] }) s := if_neg h

theorem wrongCode_fifth (h : (s.sec.wrong + 1) % 5 = 0) : wrongCode s = updSec (fun c => { c with
    wrong := c.wrong + 1, ownerLast := 2, code := [0, 0, 0, 0], refusal := some (s.now, c.nextRefusal),
    nextRefusal := Nat.min 64 (2 * c.nextRefusal) }) s := if_pos h

theorem ownerRefusalEnds_due {t n : Nat} (h : s.sec.refusal = some (t, n)) :
    ownerRefusalEnds s = updSec (fun c => { c with refusal := none }) (s.reach (t + secP (3600 * n))) := by
  rw [ownerRefusalEnds, h]

end

/-! ## The test port (R502, R504) -/

section
variable {resp : List Byte} {s : State}

theorem testUnlock_closed {response : Option (List Byte)} (h : portOpen s = false) : testUnlock response s = s :=
  if_pos (by rw [h]; rfl)

theorem unlockable (h : portOpen s = true) (he : s.sec.entropyOk = true) : ¬(!portOpen s || !s.sec.entropyOk) = true := by
  rw [h, he]
  decide

theorem testUnlock_challenges (h : portOpen s = true) (he : s.sec.entropyOk = true) (hl : lockedOut 1 s = false) :
    testUnlock none s = shiftOut (Config.drbg s.sec.drbg 32) (issueChallenge 1 s).2 :=
  (if_neg (unlockable h he)).trans (if_neg (Bool.eq_false_iff.1 hl))

theorem testUnlock_refused (h : portOpen s = true) (he : s.sec.entropyOk = true) (hr : (respond 1 resp s).1 = false) :
    testUnlock (some resp) s = secReport 0xC05 2 (respond 1 resp s).2 :=
  (if_neg (unlockable h he)).trans (if_pos (by rw [hr]; rfl))

/-! ## The debug port (R504) -/

variable {addr : Nat} {b : Byte}

theorem debugAccess_closed {w : Option Byte} (h : debugOpen s = false) : debugAccess addr w s = s :=
  if_pos (by rw [h]; rfl)

theorem debugUsable (h : debugOpen s = true) : ¬(!debugOpen s) = true := by
  rw [h]
  decide

theorem debugAccess_write (h : debugOpen s = true) :
    debugAccess addr (some b) s = { s with sec := { s.sec with dbgMem := insertCell s.sec.dbgMem addr b } } :=
  if_neg (debugUsable h)

theorem debugAccess_written (h : debugOpen s = true) (hw : s.sec.dbgMem.any (·.1 == addr) = true) :
    debugAccess addr none s = { s with sec := { s.sec with tdo := [memByte s.sec.dbgMem addr] } } :=
  (if_neg (debugUsable h)).trans (if_pos hw)

theorem debugAccess_unwritten (h : debugOpen s = true) (hw : s.sec.dbgMem.any (·.1 == addr) = false) :
    debugAccess addr none s = shiftOut [BitVec.ofNat 8 s.freeWord.toNat] s.useFree :=
  (if_neg (debugUsable h)).trans (if_neg (Bool.eq_false_iff.1 hw))

/-! ## PROVISION and SCRAP (R498) -/

theorem provision_notBlank {key sig : List Byte} {id : Nat} {cut : Option Nat} (h : s.life ≠ .blank) : provision key id sig cut s = s := by
  refine if_neg ?_
  rw [beq_eq_false_iff_ne.2 h]
  exact Bool.false_ne_true

/-- The state with the maker's key, and the intent of PROVISION. -/
def withMakerRoot (key : List Byte) (id : Nat) (s : State) : State := updSec (fun c => { c with makerRoot := some (key, id) }) s

def provisionIntent (s : State) : Intent :=
  { src := 0, target := 1, spare := false, seq := 0, requester := 0, seed := Config.drbg s.sec.drbg 32 }

theorem provision_blank {key sig : List Byte} {id : Nat} (hl : s.life = .blank) (hr : s.pw.rstHeld = true) (hp : s.pw.pw ≠ .off)
    (he : s.sec.entropyOk = true) (hi : s.upd.intent = none) (hs : Config.provisionSigned key id sig = true) :
    let v := (transition (provisionIntent s) none (draw 32 (withMakerRoot key id s)).2).2
    provision key id sig none s = { v with boot := { v.boot with causes := v.boot.causes ||| 4 } } := by
  have hguard : (s.life == .blank && s.pw.rstHeld && s.pw.pw != .off && s.sec.entropyOk && s.upd.intent.isNone
      && Config.provisionSigned key id sig) = true := by
    rw [hl, hr, bne_iff_ne.2 hp, he, hi, hs]
    rfl
  exact (if_pos hguard).trans (if_pos (transition_uncut ..))

variable {k : StartInput}

theorem testScrap_unprivileged (h : (s.sec.parties[(1 : Fin 5)]).priv ≠ 3) : testScrap k s = s := by
  refine if_neg fun hc => ?_
  obtain ⟨-, hpriv⟩ := Bool.and_eq_true_iff.1 hc
  exact h (beq_iff_eq.1 hpriv)

def scrapIntent (s : State) : Intent :=
  { src := s.life.code, target := 4, spare := false, seq := 0, requester := 0, seed := [] }

theorem testScrap_carriedOut (hl : s.life = .blank ∨ s.life = .maker ∨ s.life = .returned) (hr : s.pw.rstHeld = true)
    (hp : s.pw.pw ≠ .off) (he : s.sec.entropyOk = true) (hi : s.upd.intent = none) (h3 : (s.sec.parties[(1 : Fin 5)]).priv = 3)
    (hk : k.cut = none) : let v := (transition (scrapIntent s) none s).2
    testScrap k s = startUp 4 k { v with pw := { v.pw with rstHeld := false } } := by
  have hhonoured : rstHonoured s = true := by
    obtain hl | hl | hl := hl <;> rw [rstHonoured, hl] <;> rfl
  have hpriv : ((s.sec.parties[(1 : Fin 5)]).priv == 3) = true := beq_iff_eq.2 h3
  have hguard : (rstHonoured s && s.pw.rstHeld && s.pw.pw != .off && s.sec.entropyOk && s.upd.intent.isNone
      && (s.sec.parties[(1 : Fin 5)]).priv == 3) = true := by
    rw [hhonoured, hr, bne_iff_ne.2 hp, he, hi, hpriv]
    rfl
  have hsame : { k with cut := none } = k := by rw [← hk]
  refine (if_pos hguard).trans ?_
  simp only [hk, transition_uncut, if_true, hsame]
  rfl

end

/-- Settles O56, clause by clause. -/
theorem ownerAndPortRows : Obligations.OwnerAndPortRows := by
  unfold Obligations.OwnerAndPortRows
  refine ⟨fun r s h => ⟨completes_of rfl (requestWrite_notPermitted h), completes_of rfl (requestWrite_notPermitted h)⟩,
    fun r s h => ownerAlive_of_mayWrite h, ?set, ?clear, fun n f s => ⟨rfl, rfl⟩, fun t n s h => completes_of rfl (ownerRefusalEnds_due h),
    fun bits s => completes_of rfl rfl, fun s => completes_of rfl rfl, ?extest, fun resp s h => completes_of rfl (testUnlock_closed h),
    fun s h he hl => ?unlock, fun resp s h he hr => completes_of rfl (testUnlock_refused h he hr),
    fun addr w s h => completes_of rfl (debugAccess_closed h), ?debug, ?provision, fun key sig id cut s h => completes_of rfl (provision_notBlank h),
    fun k s h => completes_of rfl (testScrap_unprivileged h), ?scrap⟩
  case set =>
    intro r s n hmay hv
    obtain ⟨hone, -⟩ := cleanValue_ownerCmd
    have hsec : n.sec = s.sec := noteRequest_sec r s
    have hwrite : requestWrite r noMeasure Ix.LC_OWNER_CMD 1 s = (ownerSet n).2 :=
      (requestWrite_ownerCmd hmay hv hone).trans (congrArg Prod.snd ownerCommand_set)
    refine ⟨fun ho hr hc => completes_of rfl (hwrite.trans ?_), fun h => completes_of rfl (hwrite.trans ?_)⟩
    · rw [ownerSet_sets (by rw [hsec]; exact ho) hr (by rw [hsec]; exact hc), ownerBytes, hsec]
      rfl
    · exact ownerSet_refused (by rw [hsec]; exact h)
  case clear =>
    intro r s n hmay hv
    obtain ⟨-, htwo⟩ := cleanValue_ownerCmd
    have hsec : n.sec = s.sec := noteRequest_sec r s
    have hwrite : requestWrite r noMeasure Ix.LC_OWNER_CMD 2 s = ownerClear r n :=
      (requestWrite_ownerCmd hmay hv htwo).trans (congrArg Prod.snd ownerCommand_clear)
    have hbytes : ownerBytes n = ownerBytes s := by rw [ownerBytes, hsec]; rfl
    have hheld : ∀ {h}, s.sec.owner = some h → n.sec.owner = some h := fun ho => by rw [hsec]; exact ho
    refine ⟨fun ho => completes_of rfl (hwrite.trans (ownerClear_none (by rw [hsec]; exact ho))),
      fun h ho hx => completes_of rfl (hwrite.trans ((ownerClear_held (hheld ho)).trans ?_)),
      fun h ho hover hr => completes_of rfl (hwrite.trans ((ownerClear_held (hheld ho)).trans ?_)),
      fun h ho hover hr hhash => ?_⟩
    · obtain hover | ⟨hr, hhash⟩ := hx
      · exact if_pos hover
      · by_cases hover : ownerOverride r n = true
        · exact if_pos hover
        · exact (if_neg hover).trans ((if_neg (Bool.eq_false_iff.1 hr)).trans (if_pos (by rw [hbytes]; exact hhash)))
    · exact (if_neg (Bool.eq_false_iff.1 hover)).trans (if_pos hr)
    · have hwrong : requestWrite r noMeasure Ix.LC_OWNER_CMD 2 s = wrongCode n :=
        hwrite.trans ((ownerClear_held (hheld ho)).trans ((if_neg (Bool.eq_false_iff.1 hover)).trans
          ((if_neg (Bool.eq_false_iff.1 hr)).trans (if_neg (by rw [hbytes]; exact hhash)))))
      refine ⟨fun h5 => completes_of rfl (hwrong.trans (wrongCode_counted (by rw [hsec]; exact h5))), fun h5 => completes_of rfl (hwrong.trans ?_)⟩
      rw [wrongCode_fifth (by rw [hsec]; exact h5), show n.now = s.now from noteRequest_now r s]
  case extest =>
    intro drive s
    refine ⟨fun h hr => completes_of (f := fun s => if portOpen s && s.pw.rstHeld then updSec (fun c => { c with lands := drive }) s else s)
      rfl (if_pos (by rw [h, hr]; rfl)), fun h => completes_of (f := fun s =>
      if portOpen s && s.pw.rstHeld then updSec (fun c => { c with lands := drive }) s else s) rfl (if_neg ?_)⟩
    obtain h | h := h
    · rw [h, Bool.false_and]
      exact Bool.false_ne_true
    · rw [h, Bool.and_false]
      exact Bool.false_ne_true
  case unlock =>
    refine gives_of_eq rfl (testUnlock_challenges h he hl) ⟨rfl, ?_, rfl⟩
    exact issueChallenge_challenge 1 s
  case debug =>
    intro addr b s h
    exact ⟨completes_of rfl (debugAccess_write h), fun hw => completes_of rfl (debugAccess_written h hw),
      fun hw => gives_of_eq rfl (debugAccess_unwritten h hw) ⟨rfl, rfl⟩⟩
  case provision =>
    intro key sig id s hl hr hp he hi hs
    exact completes_of rfl (provision_blank hl hr hp he hi hs)
  case scrap =>
    intro k s hl hr hp he hi h3 hk
    exact completes_of rfl (testScrap_carriedOut hl hr hp he hi h3 hk)

end Sys2Proof.Machine
end

section
/-!
PROOF. Sprigs arrive, Bank S is erased and verified, updates expire and activate (21_updates.md, R517 to R536).
-/
namespace Sys2Proof.Machine

/-! ## A sprig arrives (R517, R523 to R525) -/

section
variable {b : List Byte} {s : State}

theorem sprigReceived_park (h : s.modes.mode = .park) : sprigReceived b s = s := if_pos (beq_iff_eq.2 h)

theorem not_park (h : s.modes.mode ≠ .park) : ¬(s.modes.mode == Mode.park) = true := fun hc => h (beq_iff_eq.1 hc)

theorem sprigReceived_empty (h : s.modes.mode ≠ .park) (hb : 32 ≤ b.length) (h0 : leAt b 0x14 2 = 0) :
    sprigReceived b s = report 0xD01 0 (s.bump Ix.UPD_COUNTS 8 8) :=
  (if_neg (not_park h)).trans (if_pos ⟨hb, h0⟩)

theorem sprigReceived_short (h : s.modes.mode ≠ .park) (hb : b.length < 32) :
    sprigReceived b s = report 0xD00 0 (s.bump Ix.UPD_COUNTS 0 8) :=
  (if_neg (not_park h)).trans ((if_neg fun hc => absurd hc.1 (Nat.not_le.2 hb)).trans (if_pos (.inl hb)))

/-! ### Segments -/

variable {at_ : Nat} {f : FabFrame}

theorem sprigSeg_empty (h : f.payload.length ≤ 8) : sprigSeg at_ f s = s.reach at_ := by
  have hempty : (f.payload.drop 8).isEmpty = true := List.isEmpty_iff.2 (List.drop_eq_nil_of_le h)
  exact if_pos (.inl hempty)

/-- What a first segment of a sprig begins. -/
def sprigBegun (f : FabFrame) (last now : Nat) : SprigAsm :=
  { id := leAt f.payload 0 4, index := leAt f.payload 4 2, last := last, segs := [(0, f.payload.drop 8)], at_ := now }

/-- The first segment of a sprig, with none being reassembled: the sprig is whole, or waits for the others. -/
theorem sprigSeg_first {last : Nat} (ha : s.upd.asm = []) (hl : leAt f.payload 6 1 / 4 % 4 = last) (h0 : leAt f.payload 6 1 % 4 = 0)
    (h8 : 8 < f.payload.length) (hmax : f.payload.length ≤ 256) (hfull : last = 0 ∨ f.payload.length = 256) :
    sprigSeg at_ f s = if (List.range (last + 1)).all fun k => [(0, f.payload.drop 8)].any (·.1 == k) then
        sprigReceived ((List.range (last + 1)).flatMap fun k => ([(0, f.payload.drop 8)].lookup k).getD [])
          (updUpd (fun u => { u with asm := [] }) (s.reach at_))
      else updUpd (fun u => { u with asm := [sprigBegun f last (s.reach at_).now] }) (s.reach at_) := by
  have hlen : (f.payload.drop 8).length = f.payload.length - 8 := List.length_drop
  have hempty : ¬(f.payload.drop 8).isEmpty = true := not_isEmpty_of_length (by omega)
  have hbad : ¬((f.payload.drop 8).isEmpty = true ∨ 248 < (f.payload.drop 8).length ∨ (0 < last ∧ (f.payload.drop 8).length ≠ 248) ∨
      last < 0) := by
    rintro (hc | hc | ⟨hc, hc'⟩ | hc)
    · exact hempty hc
    · omega
    · omega
    · omega
  have hasm : (s.reach at_).upd.asm = [] := ha
  simp only [sprigSeg, hl, h0, hasm, hbad, if_false, List.find?_nil, Option.isNone_none, List.length_nil, true_and, Option.getD_none,
    List.filter_nil, List.nil_append]
  exact if_neg (by decide)

/-- A sprig of one segment is handed over at once. -/
theorem sprigSeg_single (ha : s.upd.asm = []) (hl : leAt f.payload 6 1 / 4 % 4 = 0) (h0 : leAt f.payload 6 1 % 4 = 0)
    (h8 : 8 < f.payload.length) (hmax : f.payload.length ≤ 256) :
    sprigSeg at_ f s = sprigReceived (f.payload.drop 8) (s.reach at_) := by
  have hwhole : ((List.range (0 + 1)).flatMap fun k => ([(0, f.payload.drop 8)].lookup k).getD []) = f.payload.drop 8 :=
    List.append_nil _
  have hsame : updUpd (fun u => { u with asm := [] }) (s.reach at_) = s.reach at_ := by
    unfold updUpd
    rw [← show (s.reach at_).upd.asm = [] from ha]
  rw [sprigSeg_first ha hl h0 h8 hmax (.inl rfl), hwhole, hsame]
  rfl

/-- The first of two segments waits for the other. -/
theorem sprigSeg_half (ha : s.upd.asm = []) (hl : leAt f.payload 6 1 / 4 % 4 = 1) (h0 : leAt f.payload 6 1 % 4 = 0)
    (h : f.payload.length = 256) :
    sprigSeg at_ f s = updUpd (fun u => { u with asm := [sprigBegun f 1 (s.reach at_).now] }) (s.reach at_) := by
  rw [sprigSeg_first ha hl h0 (by omega) (by omega) (.inr h)]
  rfl

theorem sprigTimeout_one {x : SprigAsm} (h : s.upd.asm = [x]) :
    sprigTimeout s = updUpd (fun u => { u with asm := [] }) (s.reach (x.at_ + secP 2)) := by
  have hasm : (s.reach (x.at_ + secP 2)).upd.asm = [x] := h
  have hfirst : Nat.min x.at_ x.at_ = x.at_ := Nat.min_self _
  simp only [sprigTimeout, h, List.foldl_cons, List.foldl_nil, hfirst, updUpd, hasm, List.filter_cons, bne_self_eq_false,
    Bool.false_eq_true, if_false, List.filter_nil]

end

/-! ## Bank S is erased and verified (R518, R526) -/

section
variable {m : Manifest} {s : State}

theorem eraseDone_other (h : s.upd.manifest = some m) (h3 : s.upd.st ≠ 3) : eraseDone s = s := by
  simp only [eraseDone, h]
  exact if_pos h3

/-- Bank S with its blocks erased, counted at the end of the erase. -/
def bankErased (m : Manifest) (s : State) : State :=
  let r := s.reach (s.upd.stAt + msP (30 * blocks64 m.length))
  updUpd (fun u => { u with bankS := u.bankS.filter fun c => decide (65536 * blocks64 m.length ≤ c.1) })
    { r with flt := { s.flt with eraseS := s.flt.eraseS + Nat.min 1 (blocks64 m.length) } }

/-- A change of state of Bank S changes the update's record alone, and there the state, its instant and the events. -/
theorem bankState_eq (st : Nat) (s : State) : bankState st s = { s with
    upd := { s.upd with st := st, stAt := (bankState st s).upd.stAt, events := (bankState st s).upd.events } } := by
  unfold bankState
  dsimp only
  split
  next h => rw [← h]
  · split <;> rfl

/-- Without stored sprigs the erase ends with Bank S open. -/
theorem eraseDone_noStore (h : s.upd.manifest = some m) (h3 : s.upd.st = 3) (hs : s.upd.store = []) :
    eraseDone s = dropStored m.id (bankState 4 (bankErased m s)) := by
  have hstore : (bankState 4 (bankErased m s)).upd.store = [] := by
    rw [bankState_eq]
    exact hs
  have hown : ((bankState 4 (bankErased m s)).upd.store.filter (·.id == m.id)) = [] := by rw [hstore]; rfl
  have herased : eraseDone s = ((bankState 4 (bankErased m s)).upd.store.filter (·.id == m.id)).foldl
      (fun t x => if t.upd.st = 4 && !t.upd.bitmap.contains x.index then sprigApply x.bytes t else t)
      (dropStored m.id (bankState 4 (bankErased m s))) := by
    simp only [eraseDone, h]
    exact if_neg (not_not_intro h3)
  rw [herased, hown]
  rfl

theorem verifyDone_other (h : s.upd.st ≠ 5) : verifyDone s = s := if_pos h

variable {e : Nat × Option (List Byte)} {b : List Byte}

/-- What Bank S holds has passed its checks. -/
def bankChecked (b : List Byte) (s : State) : State :=
  updLast 1 (updUpd (fun u => { u with bunch := leAt b 0xC 4, session := none }) (s.reach (s.upd.stAt + verifyP b)))

theorem verifyDone_passed (h : s.upd.st = 5) (he : expectedBunch s = e) (hb : memRead s.upd.bankS 0 e.1 = b)
    (hok : bunchErr b e.1 e.2 s = none) : verifyDone s = bankState 6 (bankChecked b s) := by
  subst he hb
  refine (if_neg (not_not_intro h)).trans ?_
  simp only [hok]
  rfl

theorem verifyDone_failed {c : Nat} (h : s.upd.st = 5) (he : expectedBunch s = e) (hb : memRead s.upd.bankS 0 e.1 = b)
    (hbad : bunchErr b e.1 e.2 s = some c) :
    verifyDone s = discardBunch c (report (if c = 4 then 0xD05 else 0xD00) 0 s) := by
  subst he hb
  refine (if_neg (not_not_intro h)).trans ?_
  simp only [hbad]

/-! ## Expiry (R522) -/

theorem updExpiry_noClock (h : s.rtcNow = none) : updExpiry s = s := by
  simp only [updExpiry, h]

/-- A discarded bunch leaves an empty store empty. -/
theorem discardBunch_store (cause : Nat) (h : s.upd.store = []) : (discardBunch cause s).upd.store = [] := by
  have hempty : (bankEmpty (updLast cause (dropStored s.upd.bunch s))).upd.store = [] := by
    rw [bankEmpty, bankState_eq]
    show s.upd.store.filter _ = []
    rw [h]
    rfl
  rw [discardBunch, bankFree, hempty]
  unfold takeStored
  rw [if_pos (.inr (by rw [hempty]; rfl))]
  exact hempty

theorem updExpiry_due {t d : Nat} (hr : s.rtcNow = some t) (h6 : s.upd.st < 6) (hd : s.upd.deadline = some d) (hdt : d ≤ t)
    (hs : s.upd.store = []) : updExpiry s = discardBunch 7 (report 0xD02 0 s) := by
  have hupd : (report 0xD02 0 s).upd = s.upd := by rw [(faultFrame_report ..).1]
  have hstore : (discardBunch 7 (report 0xD02 0 s)).upd.store = [] := discardBunch_store 7 (by rw [hupd]; exact hs)
  simp only [updExpiry, hr, h6, hd, hdt, decide_true, Bool.and_self, if_true, hstore, List.filter_nil, List.isEmpty_nil]

end

/-! ## Activation by the bunch (R529) -/

section
variable {at_ : Nat} {k : StartInput} {s : State}

theorem autoActivate_notWatch (h : s.modes.mode ≠ .watch) : autoActivate at_ k s = s := by
  refine if_neg ?_
  rw [beq_eq_false_iff_ne.2 h, Bool.and_false]
  exact Bool.false_ne_true

theorem appRuns (h : pairUp s = true) : s.procs.app = .running := by
  obtain ⟨-, happ⟩ := Bool.and_eq_true_iff.1 h
  exact beq_iff_eq.1 happ

theorem dwellOver_iff {since : Option Nat} {p : Nat} : dwellOver since 0 p s = true ↔ ∃ t, since = some t ∧ t + p ≤ s.now := by
  cases since with
  | none => exact ⟨fun h => absurd h Bool.false_ne_true, fun ⟨t, h, _⟩ => absurd h.symm (Option.some_ne_none t)⟩
  | some t =>
    have hmax : Nat.max t 0 = t := Nat.max_zero t
    simp only [dwellOver, hmax, decide_eq_true_iff, Option.some.injEq, exists_eq_left']

/-- What an evaluation asks of the bunch, the Hall Pass and the ignition. -/
theorem activationDue_iff {u : State} : (u.upd.st == 6 && bunchAuto u && hallPass u &&
      dwellOver u.dwell.ignOff 0 (secP (60 * u.fld Ix.UPD_CFG 16 8)) u) = true ↔
    u.upd.st = 6 ∧ bunchAuto u = true ∧ hallPass u = true ∧
      ∃ t, u.dwell.ignOff = some t ∧ t + secP (60 * u.fld Ix.UPD_CFG 16 8) ≤ u.now := by
  rw [Bool.and_eq_true, Bool.and_eq_true, Bool.and_eq_true, beq_iff_eq, dwellOver_iff, and_assoc, and_assoc]

/-- An evaluation of WATCH with no PARK entry. -/
theorem autoActivate_watch (hs : s.started = true) (happ : s.procs.app = .running) (he : s.modes.entering = none)
    (hm : s.modes.mode = .watch) : autoActivate at_ k s =
      if (evalAt at_ s).upd.st == 6 && bunchAuto (evalAt at_ s) && hallPass (evalAt at_ s) &&
          dwellOver (evalAt at_ s).dwell.ignOff 0 (secP (60 * (evalAt at_ s).fld Ix.UPD_CFG 16 8)) (evalAt at_ s)
      then deviceReset k (writeIntent (evalAt at_ s)) else evalAt at_ s := by
  refine if_pos ?_
  rw [hs, happ, he, hm]
  rfl

end

/-! ## Queries and events (R525) -/

section
variable {at_ : Nat} {f : FabFrame} {s : State}

theorem updQuery_broadcast (h : f.bcast = true) : updQuery at_ f s = s.reach at_ := if_pos h

theorem updQuery_bunch (h : f.bcast = false) (hid : leAt f.payload 0 4 = s.upd.bunch) (hm : s.upd.manifest.isSome = true) :
    let u := s.reach at_
    updQuery at_ f s = sendReply f 0x26 (statusHead 0 ++ leBytes (updStateWord u) 4 ++ leBytes s.upd.bunch 4 ++
      leBytes s.upd.bitmap.length 2 ++ leBytes (leAt f.payload 4 1 % 4) 1 ++ [0] ++
      bitmapSlice s.upd.bunch (leAt f.payload 4 1 % 4) u) u := by
  have hzero : (if s.upd.bunch = 0 then s.upd.bunch else s.upd.bunch) = s.upd.bunch := ite_self _
  refine (if_neg (Bool.eq_false_iff.1 h)).trans ?_
  simp only [State.reach_upd, hid, hzero, hm, decide_true, Bool.and_self, if_true]

theorem updEvent_none (h : s.upd.events = []) : updEvent_ s = s := by
  simp only [updEvent_, h]

theorem updEvent_oldest {e : List Byte} {es : List (List Byte)} (h : s.upd.events = e :: es) (hn : s.fab.node ≠ .unlisted) :
    updEvent_ s = sendMessage 0x27 0 e { s with upd := { s.upd with events := es } } := by
  simp only [updEvent_, h]
  exact if_neg fun hc => hn (beq_iff_eq.1 hc)

/-! ## The bitmap's word (Table 21-10) -/

variable {r : Requester} {m : Measured} {v : Word}

theorem commandWord_bitmapSel : commandWord r m Ix.UPD_BITMAP_SEL v s = some (0, bitmapSelect v s) := rfl

theorem isW1c_bitmapSel : isW1c Ix.UPD_BITMAP_SEL = false := by decide +kernel

/-- The selector has seven bits. -/
theorem cleanValue_bitmapSel (v : Word) : (cleanValue Ix.UPD_BITMAP_SEL v).toNat < 128 := by
  have hrow : ∀ x, paramRow Ix.UPD_BITMAP_SEL = some x → isPwmRow x = false ∧ x.mask = 127 := by decide +kernel
  unfold cleanValue
  split
  next x hx =>
    obtain ⟨hpwm, hmask⟩ := hrow x hx
    have hle : v.toNat &&& 127 ≤ 127 := Nat.and_le_right
    rw [usedBits, hpwm, hmask, maskWord, if_neg Bool.false_ne_true, toNat_toWord_of_lt (by omega)]
    omega
  · decide

theorem bitmapSelect_sel (h : v.toNat < 128) : (bitmapSelect v s).num Ix.UPD_BITMAP_SEL = v.toNat := by
  have hfld : fld v 0 7 = v.toNat := by
    rw [fld, nbits, Nat.pow_zero, Nat.div_one]
    exact Nat.mod_eq_of_lt h
  have hword : (bitmapSelect v s).word Ix.UPD_BITMAP_SEL = toWord (fld v 0 7) := (word_put_other _ _ (by decide)).trans (word_put_same ..)
  rw [State.num, hword, hfld, toNat_toWord_of_lt (by omega)]

theorem bitmapSelect_frame (v : Word) (s : State) : bitmapSelect v s = { s with words := (bitmapSelect v s).words } :=
  (wordsFrame_putNat ..).trans (wordsFrame_putNat ..)

theorem bitmapSelect_other {i : Nat} (h : i ≠ Ix.UPD_BITMAP_SEL) (h' : i ≠ Ix.UPD_BITMAP_WORD) : (bitmapSelect v s).word i = s.word i :=
  (word_put_other _ _ h').trans (word_put_other _ _ h)

end

section
variable {s t : State} {a : Nat}

/-- A command that moves the clock on and changes the update manager's record alone. -/
theorem after_later (h : t = { s.reach a with upd := t.upd }) : ∃ d, after s t = { t with dwell := d } := by
  obtain ⟨x, rfl⟩ : ∃ x, t = { s.reach a with upd := x } := ⟨_, h⟩
  exact ⟨_, after_of_le rfl (Nat.le_max_left _ _)⟩

theorem after_upd_later (h : t = { s.reach a with upd := t.upd }) :
    after s t = { s with upd := (after s t).upd, now := (after s t).now, dwell := (after s t).dwell } := by
  obtain ⟨d, hd⟩ := after_later h
  obtain ⟨x, rfl⟩ : ∃ x, t = { s.reach a with upd := x } := ⟨_, h⟩
  rw [hd]
  rfl

end

/-- A sprig message of a CAN channel and of a LIN channel: taken where the channel takes sprigs. -/
def canSprig (c : Can) (at_ : Nat) (b : List Byte) (s : State) : State :=
  if s.flag (Ix.UPD_CAN c.val) 30 then sprigReceived b (s.reach at_) else s.reach at_

def linSprig (l : Lin) (at_ nad : Nat) (b : List Byte) (s : State) : State :=
  if s.fld (Ix.LIN_CFG l.val) 0 2 == 2 && s.flag (Ix.UPD_LIN l.val) 8 && s.fld (Ix.UPD_LIN l.val) 0 8 == nad
  then sprigReceived b (s.reach at_) else s.reach at_

theorem takesLinSprig_iff {l : Lin} {nad : Nat} {s : State} :
    (s.fld (Ix.LIN_CFG l.val) 0 2 == 2 && s.flag (Ix.UPD_LIN l.val) 8 && s.fld (Ix.UPD_LIN l.val) 0 8 == nad) = true ↔
      s.fld (Ix.LIN_CFG l.val) 0 2 = 2 ∧ s.flag (Ix.UPD_LIN l.val) 8 = true ∧ s.fld (Ix.UPD_LIN l.val) 0 8 = nad := by
  rw [Bool.and_eq_true, Bool.and_eq_true, beq_iff_eq, beq_iff_eq, and_assoc]

/-- Settles O57, clause by clause. -/
theorem updateRows : Obligations.UpdateRows := by
  unfold Obligations.UpdateRows
  refine ⟨?can, ?lin, fun at_ f s h => completes_of rfl (sprigSeg_empty h), ?parked, ?half, ?single,
    fun x s h => completes_of rfl (sprigTimeout_one h), fun m s h h3 => completes_of rfl (eraseDone_other h h3), ?erased,
    fun s h => completes_of rfl (verifyDone_other h), ?verified, fun s h => completes_of rfl (updExpiry_noClock h),
    fun t d s hr h6 hd hdt hs => completes_of rfl (updExpiry_due hr h6 hd hdt hs), ?activate, ?query,
    fun s h => completes_of rfl (updEvent_none h), fun e es s h hn => completes_of rfl (updEvent_oldest h hn), fun s => rfl, ?select⟩
  case can =>
    intro c at_ b s u
    refine ⟨fun h => completes_of (f := canSprig c at_ b) rfl (if_neg (Bool.eq_false_iff.1 h)), fun h => ⟨fun hp => ?_, fun hp hb h0 => ?_, fun hp hb => ?_⟩⟩
    · exact completes_of (f := canSprig c at_ b) rfl ((if_pos h).trans (sprigReceived_park hp))
    · exact completes_of (f := canSprig c at_ b) rfl ((if_pos h).trans (sprigReceived_empty hp hb h0))
    · exact completes_of (f := canSprig c at_ b) rfl ((if_pos h).trans (sprigReceived_short hp hb))
  case lin =>
    intro l at_ nad b s u
    refine ⟨fun h => completes_of (f := linSprig l at_ nad b) rfl (if_neg ?_), fun h1 h2 h3 hp hb h0 =>
      completes_of (f := linSprig l at_ nad b) rfl ((if_pos ?_).trans (sprigReceived_empty hp hb h0))⟩
    · rw [takesLinSprig_iff]
      rintro ⟨h1, h2, h3⟩
      obtain h | h | h := h
      · exact h h1
      · exact Bool.false_ne_true (h.symm.trans h2)
      · exact h h3
    · exact takesLinSprig_iff.2 ⟨h1, h2, h3⟩
  case parked =>
    intro at_ f s ha hl h0 h8 hmax hp
    exact completes_of rfl ((sprigSeg_single ha hl h0 h8 hmax).trans (sprigReceived_park hp))
  case half =>
    intro at_ f s ha hl h0 h
    refine gives_of_eq rfl (sprigSeg_half ha hl h0 h) ⟨?_, ?_⟩
    · rw [after_upd]
      rfl
    · obtain ⟨d, hd⟩ := after_later (s := s) (a := at_) (t := updUpd (fun u => { u with asm := [sprigBegun f 1 (s.reach at_).now] }) (s.reach at_)) rfl
      rw [hd]
      rfl
  case single => exact fun at_ f s ha hl h0 h8 hmax => completes_of rfl (sprigSeg_single ha hl h0 h8 hmax)
  case erased =>
    intro m s h h3 hs
    obtain ⟨-, hst, hnow⟩ := bankState_upd 4 (bankErased m s)
    have herased := bankState_eq 4 (bankErased m s)
    refine gives_of_eq rfl (eraseDone_noStore h h3 hs) ⟨?_, ?_, ?_, ?_⟩
    · rw [after_upd]
      exact hst
    · rw [after_upd]
      exact congrArg (fun t : State => t.upd.bankS) herased
    · rw [after_flt]
      exact congrArg (fun t : State => t.flt.eraseS) herased
    · rw [after_now, show (dropStored m.id (bankState 4 (bankErased m s))).now = (bankErased m s).now from hnow]
      exact Nat.max_eq_right (Nat.le_max_left ..)
  case verified =>
    intro s h e b
    refine ⟨fun hok => gives_of_eq rfl (verifyDone_passed h rfl rfl hok) ?_, fun c hbad => completes_of rfl (verifyDone_failed h rfl rfl hbad)⟩
    have hpassed := bankState_eq 6 (bankChecked b s)
    refine ⟨?_, ?_, ?_, ?_, ?_, ?_⟩
    · rw [after_upd]
      exact (bankState_upd 6 (bankChecked b s)).2.1
    · rw [after_upd]
      exact congrArg (fun t : State => t.upd.bunch) hpassed
    · rw [after_upd]
      exact congrArg (fun t : State => t.upd.last) hpassed
    · rw [after_upd]
      exact congrArg (fun t : State => t.upd.session) hpassed
    · exact after_upd_later (a := s.upd.stAt + verifyP b) (by rw [hpassed]; rfl)
    · rw [after_now, (bankState_upd 6 _).2.2]
      exact Nat.max_eq_right (Nat.le_max_left ..)
  case activate =>
    intro at_ k s u
    refine ⟨fun h => completes_of rfl (autoActivate_notWatch h), fun hs he hm => ⟨fun t h6 ha hh hd ht hready => ?_, fun hx hready => ?_⟩⟩
    · exact completes_of rfl ((autoActivate_watch hs (appRuns hready.1) he hm).trans
        (if_pos ((activationDue_iff (u := u)).2 ⟨h6, ha, hh, t, hd, ht⟩))) hready
    · refine completes_of rfl ((autoActivate_watch hs (appRuns hready.1) he hm).trans (if_neg fun hc => ?_)) hready
      obtain ⟨h6, ha, hh, t, hd, -⟩ := activationDue_iff.1 hc
      obtain hx | hx | hx | hx := hx
      · exact hx h6
      · exact Bool.false_ne_true (hx.symm.trans ha)
      · exact Bool.false_ne_true (hx.symm.trans hh)
      · exact Option.some_ne_none t (hd.symm.trans hx)
  case query => exact fun at_ f s => ⟨fun h => completes_of rfl (updQuery_broadcast h), fun h hid hm => completes_of rfl (updQuery_bunch h hid hm)⟩
  case select =>
    intro r v s hmay hv
    refine gives_of_eq rfl (requestWrite_command hmay hv isW1c_bitmapSel commandWord_bitmapSel) ⟨?_, fun i h h' => ?_, after_request (bitmapSelect_frame ..)⟩
    · exact (after_num ..).trans (bitmapSelect_sel (cleanValue_bitmapSel v))
    · exact (after_word ..).trans ((bitmapSelect_other h h').trans (congrArg (fun w => wordsAt w i) (noteRequest_words r s)))

end Sys2Proof.Machine
end

end
